-- ==== Sys2Proof/Word.lean ====
section
/-! DEFINITION. Plain numbers of the module: bit fields of a word, two's complement, the units of time. -/

namespace Sys2Proof

/-- Bits `[lo + width - 1 : lo]` of a word. -/
def bitsOf (w lo width : Nat) : Nat := w / 2 ^ lo % 2 ^ width

/-- One bit of a word. -/
def bitOf (w b : Nat) : Bool := w / 2 ^ b % 2 == 1

/-- 1 or 0. -/
def b2n (b : Bool) : Nat := if b then 1 else 0

/-- A word read as two's complement of the given width. -/
def toSigned (width w : Nat) : Int :=
  if w % 2 ^ width < 2 ^ (width - 1) then (w % 2 ^ width : Nat) else (w % 2 ^ width : Nat) - (2 ^ width : Nat)

/-- An integer written as two's complement of the given width; a value that does not fit keeps its low bits. -/
def ofSigned (width : Nat) (i : Int) : Nat := (i % ((2 ^ width : Nat) : Int)).toNat

/-- An integer held to the range of a two's complement field. -/
def clampSigned (width : Nat) (i : Int) : Int :=
  max (-((2 ^ (width - 1) : Nat) : Int)) (min i (((2 ^ (width - 1) : Nat) : Int) - 1))

/-- An integer held between two bounds. -/
def clampInt (lo hi i : Int) : Int := max lo (min i hi)

/-- A count held at the largest value of its field. -/
def satTo (width n : Nat) : Nat := min n (2 ^ width - 1)

/-- FRACTION units in a nanosecond (T96, R4): 2¹⁶. -/
def unitsPerNs : Nat := 65536
/-- FRACTION units in a microsecond. -/
def unitsPerUs : Nat := 65536000
/-- FRACTION units in a millisecond. -/
def unitsPerMs : Nat := 65536000000
/-- FRACTION units in a second. -/
def unitsPerSec : Nat := 65536000000000
/-- FRACTION units in a decision epoch of 125 µs (Table 1.3). -/
def unitsPerEpoch : Nat := 8192000000
/-- FRACTION units in a service epoch of 7.8125 ms (Table 1.3). -/
def unitsPerService : Nat := 512000000000

/-- The seconds, nanoseconds and fraction of a time counted in FRACTION units, as a 96-bit T96 value (R4). -/
def t96 (t : Nat) : Nat :=
  (t / unitsPerSec % 2 ^ 48) * 2 ^ 48 + (t / unitsPerNs % 1000000000) * 2 ^ 16 + t % unitsPerNs

/-- The time in FRACTION units of a 96-bit T96 value. -/
def ofT96 (w : Nat) : Nat :=
  (w / 2 ^ 48 % 2 ^ 48) * unitsPerSec + (w / 2 ^ 16 % 2 ^ 32) * unitsPerNs + w % 2 ^ 16

/-- R5: a T96 value is legal only with NANOSECONDS at most 999,999,999. -/
def t96Legal (w : Nat) : Bool := w / 2 ^ 16 % 2 ^ 32 ≤ 999999999

/-- The first whole multiple of `p` strictly after `t` (R15: a boundary reached exactly is past). -/
def nextBoundary (p t : Nat) : Nat := (t / p + 1) * p

/-- Picoseconds in FRACTION units, rounded down (65,536 units are 1,000 ps). -/
def psToUnits (ps : Int) : Int := ps * 65536 / 1000

/-- The bits set in a word, ascending, among the first `n`. -/
def bitsSet (n w : Nat) : List Nat := (List.range n).filter (bitOf w)

/-- A word with one bit per listed place. -/
def ofBits (bs : List Nat) : Nat := bs.foldl (fun a b => if bitOf a b then a else a + 2 ^ b) 0

end Sys2Proof
end

