-- ==== Sys2Proof/Machine/Frames.lean ====
section
/-! DEFINITION. What the module receives and sends, taken apart into the fields the spec names: Ethernet frames with the
PTP, NTP and ESMC messages in them, what is fetched from host memory, hallway messages. The spec names these fields and
leaves their places in the octets to the standards it cites (log 28). -/

namespace Sys2Proof.Machine

/-- A UDP datagram around its contents: ports, payload octets, checksum, the last two octets of the payload. -/
structure Udp where
  sport : Nat := 0
  dport : Nat := 0
  payload : Nat := 0
  sum : Nat := 0
  trailer : Nat := 0
  deriving DecidableEq, Repr

/-- What a frame's EtherType leads to: layer 2 PTP (0x88F7), the slow protocols (0x8809), UDP over IPv4 with its header
length, UDP over IPv6 with the octets of its hop-by-hop and destination-options headers, or anything else. -/
inductive Net where
  | ptp2
  | slow
  | udp4 (header src dst : Nat) (u : Udp)
  | udp6 (ext src dst : Nat) (u : Udp)
  | other
  deriving DecidableEq, Repr

/-- The contents of an Announce (Table 11.4). -/
structure Ann where
  gm : Nat := 0
  steps : Nat := 0
  prio1 : Nat := 0
  prio2 : Nat := 0
  cls : Nat := 0
  accuracy : Nat := 0
  variance : Nat := 0
  utcOffset : Int := 0
  timeSource : Nat := 0
  ptpScale : Bool := false
  utcValid : Bool := false
  leap61 : Bool := false
  leap59 : Bool := false
  timeTrace : Bool := false
  freqTrace : Bool := false
  deriving DecidableEq, Repr

/-- A TLV that the time service reads or sends (R257, R261): unicast requests, grants, cancels and their acknowledgements
with the message type they name, and management. -/
inductive Tlv where
  | request (msg : Nat) (log : Int) (duration : Nat)
  | grant (msg : Nat) (log : Int) (duration : Nat) (renewal : Bool)
  | cancel (msg : Nat)
  | ackCancel (msg : Nat)
  | management (id : Nat)
  | errorStatus (id code : Nat)
  | other
  deriving DecidableEq, Repr

/-- A PTP message. `source` and `peer` are port identities (80 bits): sourcePortIdentity, and requestingPortIdentity or
targetPortIdentity. `sec` and `ns` are the message's timestamp; `length` is messageLength. -/
structure Ptp where
  mtype : Nat := 0
  version : Nat := 2
  minor : Nat := 1
  domain : Nat := 0
  length : Nat := 44
  twoStep : Bool := false
  correction : Int := 0
  source : Nat := 0
  seq : Nat := 0
  logPeriod : Int := 0
  sec : Nat := 0
  ns : Nat := 0
  peer : Nat := 0
  action : Nat := 0
  ann : Option Ann := none
  tlvs : List Tlv := []
  deriving DecidableEq, Repr

/-- An NTP packet of 48 octets (Table 11.7); timestamps are the 64-bit words of RFC 5905. -/
structure Ntp where
  li : Nat := 0
  version : Nat := 4
  mode : Nat := 3
  stratum : Nat := 0
  poll : Nat := 0
  precision : Int := 0
  rootDelay : Nat := 0
  rootDisp : Nat := 0
  refId : Nat := 0
  refTime : Nat := 0
  origin : Nat := 0
  receive : Nat := 0
  transmit : Nat := 0
  deriving DecidableEq, Repr

/-- The extended QL TLV: type, length, enhanced SSM code, originator, the two cascade counts. -/
structure ExtQl where
  tlvType : Nat := 2
  tlvLen : Nat := 20
  essm : Nat := 0
  originator : Nat := 0
  cascade1 : Nat := 0
  cascade2 : Nat := 0
  deriving DecidableEq, Repr

/-- A slow-protocol PDU as R231 reads it. -/
structure Esmc where
  subtype : Nat := 0x0A
  oui : Nat := 0x0019A7
  itu : Nat := 1
  version : Nat := 1
  event : Bool := false
  qlType : Nat := 1
  qlLen : Nat := 4
  ssm : Nat := 0
  ext : Option ExtQl := none
  deriving DecidableEq, Repr

/-- What a frame carries. -/
inductive Body where
  | ptp (m : Ptp)
  | ntp (m : Ntp)
  | esmc (m : Esmc)
  | raw (bytes : List Nat)
  deriving DecidableEq, Repr

/-- An Ethernet frame: addresses, how many VLAN tags it has and the control information of the outer one, octets with the
FCS, whether the FCS is right, contents. -/
structure Frame where
  dst : Nat := 0
  src : Nat := 0
  tags : Nat := 0
  vlan : Nat := 0
  net : Net := .other
  bytes : Nat := 64
  fcsOk : Bool := true
  body : Body := .raw []
  deriving DecidableEq, Repr

/-- A descriptor fetched from host memory (R286): its bits as a number (256 or 512 of them), the sum of its gather
fragments' lengths, and the frame it points to. -/
structure Fetched where
  bits : Nat := 0
  gather : Nat := 0
  frame : Frame := {}
  deriving DecidableEq, Repr

/-- A received frame on its way to the receiver that takes it (Table 11.2): 1 the port's ESMC, 2 servo `servo`, 3 the PTP
server, 4 the NTP responder. -/
structure RxFrame where
  taker : Nat
  servo : Nat
  port : Nat
  time : Int
  gen : Nat
  degraded : Bool
  frame : Frame
  deriving DecidableEq, Repr

/-- The frame of a hallway message (R313): its lane, SEQ, and whether its CRC is right. -/
structure Hl where
  lane : Fin 2 := 0
  seq : Nat := 0
  crcOk : Bool := true
  deriving DecidableEq, Repr

/-- HELLO: versions offered, SLOT, sole flag, pair identity (none while the sender cannot know it), own clockIdentity. -/
structure Hello where
  versions : Nat
  slot : Nat
  sole : Bool
  pairId : Option Nat
  clockId : Nat
  deriving DecidableEq, Repr

/-- HEARTBEAT (Table 13.4). -/
structure Heartbeat where
  pairState : Nat
  stage : Nat
  flags : Nat
  dpll : Nat
  svc : Nat
  ql : Nat
  gen : Nat
  alignErr : Nat
  backlog : Nat
  deriving DecidableEq, Repr

/-- TIME: seconds of the sender's last HWO_PPS edge, step generation, TIME_UTC. -/
structure TimeMsg where
  seconds : Nat
  gen : Nat
  offset : Int
  valid : Bool
  leap61 : Bool
  leap59 : Bool
  deriving DecidableEq, Repr

/-- TABLE_SYNC: an entry's contents, a deletion, or the acknowledgement of either. -/
inductive TableMsg where
  | entry (index contents : Nat)
  | deletion (index : Nat)
  | ack (index : Nat)
  deriving DecidableEq, Repr

/-- Levels at the pins that are sampled together (R57, R305): SLOT, ADDR0, ADDR1, TEST_EN, CLAIM_IN_P and CLAIM_IN_N (the
claim legs as they have read for 1 ms). -/
structure Straps where
  slot : Bool
  addr0 : Bool
  addr1 : Bool
  testEn : Bool
  claimP : Bool
  claimN : Bool
  deriving DecidableEq, Repr

end Sys2Proof.Machine
end

