-- ==== Sys2Proof/Syntax.lean ====
section
/-! DEFINITION. The commands: one constructor per row of the opcode table, with what a command carries. The table gives
no operand fields (log 1): an operand is what the row's rule lets come from outside the block, a value written, a message
received, or what a pin, a sensor or the passing of physical time decides. A number of one of the block's units is a `Fin`. -/

namespace Sys2Proof

open Sys2Proof.Machine in
/-- A command. -/
inductive Instr where
  /-- REGISTER_WRITE (R366): A register write to a field without a row of its own reaches the commit point and is
  applied at its commit time under the rule of its access type. -/
  | registerWrite (m : Fin 20) (addr : Nat) (value : Nat)
  /-- COMMIT_TICK (R15): At a commit-tick boundary, every write whose commit time has arrived applies, in ascending
  master number. -/
  | commitTick
  /-- PROVISIONAL_TICK (R16): Before the counter runs, or while its domain is gated, a provisional tick of 25 pilot
  cycles applies pending writes. -/
  | provisionalTick
  /-- PROVISIONAL_EPOCH (R16): A provisional decision epoch of 125 provisional ticks runs the epoch-tied work, such
  as pair checks and the boot SYNTH_COMMIT validation. -/
  | provisionalEpoch
  /-- DECISION_EPOCH (R20): At a 125 µs boundary, the module takes a snapshot, evaluates qualification, tree, pairs
  and stages, and puts the results in effect at the next boundary. -/
  | decisionEpoch
  /-- EPOCH_MISS (R21): An epoch's work has not completed by its deadline, so source 2 is raised and no partial
  result is applied. -/
  | epochMiss (series : Fin 4)
  /-- LOOP_UPDATE (R164): At each DPLL update, the loop forms its phase error and updates the integrator, the word
  and any slew. -/
  | loopUpdate (d : Fin 16) (mismatch : Bool)
  /-- SERVICE_EPOCH (R259): At each 7.8125 ms boundary, the server expires grants, handles Signaling, and sends the
  scheduled Sync, Announce and servo Delay_Req. -/
  | serviceEpoch
  /-- MODEL_EPOCH (R175): At each second, the module does holdover learning, the holdover word, the budget
  prediction, mix adaptation, servo adaptation and the digest. -/
  | modelEpoch
  /-- HOURLY_POINT (R174): Every 3,600 s, the module forms a holdover hourly point, refits the model and commits the
  summary. -/
  | hourlyPoint
  /-- VFAB_UPDATE (R12): The adaptive loop raises or lowers VFAB by 4 mV according to the worst monitored slack. -/
  | vfabUpdate (slack : Nat) (steady : Bool)
  /-- MERGER_RECORD_IN (R28): A source delivers an event record to the merger; a record arriving after a greater key
  was released is emitted at once as LATE. -/
  | mergerRecordIn (source : Fin 128) (unit : Nat) (severity : Fin 4) (detail : Nat) (time : Nat) (gen : Nat)
  /-- MERGER_RELEASE (R28): 2 µs past a record's bound, the merger releases it in key order into the buffer and
  toward its destinations. -/
  | mergerRelease
  /-- UNIT_OP (R297): The admin command UNIT_OP carries out a unit operation of R31 and completes with the unit's
  status. -/
  | unitOp (a : Fin 2)
  /-- UNIT_RESET (R31): GLOBAL_UNIT_CTRL operation 1 resets a unit, or a group's leaves, at its commit time. -/
  | unitReset (bank : Fin 4) (u : Nat)
  /-- UNIT_RETIRE (R31): GLOBAL_UNIT_CTRL operation 2 sets a retire mark on a unit. -/
  | unitRetire (bank : Fin 4) (u : Nat)
  /-- UNIT_ISOLATE (R31): GLOBAL_UNIT_CTRL operation 3 sets an isolate mark, holding the unit's outputs at their
  safe levels. -/
  | unitIsolate (bank : Fin 4) (u : Nat)
  /-- UNIT_RELEASE (R31): GLOBAL_UNIT_CTRL operation 4 clears a unit's isolate mark. -/
  | unitRelease (bank : Fin 4) (u : Nat)
  /-- UNIT_UNRETIRE (R31): GLOBAL_UNIT_CTRL operation 5 clears a retire mark if the unit has been reset since the
  mark was set. -/
  | unitUnretire (bank : Fin 4) (u : Nat)
  /-- UNIT_STATUS (R32): GLOBAL_UNIT_CTRL operation 0 returns a unit's status. -/
  | unitStatus (bank : Fin 4) (u : Nat)
  /-- UNIT_BACK_IN_SERVICE (R84): A scoped reset's hold ends and the unit restarts, requalifies and returns to
  service. -/
  | unitBackInService (u : Nat)
  /-- ANNOUNCE_TOKEN (R86): A reset side re-announces, and the surviving side returns the crossing to CONNECTED at
  the next tick. -/
  | announceToken (x : Fin 14) (gen : Nat)
  /-- FEED_SAMPLE (R46): Every 100 µs each feed is sampled for its window decision. -/
  | feedSample (n : Fin 2) (mv : Nat) (ma : Nat) (reversed : Bool)
  /-- FEED_QUALIFIED (R47): A feed has been 10 ms in window, so it closes its switch and becomes QUALIFIED. -/
  | feedQualified (n : Fin 2)
  /-- FEED_DROPOUT (R47): A QUALIFIED feed falls below 8.2 V and enters the dropout grace. -/
  | feedDropout (n : Fin 2)
  /-- FEED_UV_FAULT (R47): A feed stays below 8.2 V for 1 ms, enters FAULTED, and raises source 12 or 13. -/
  | feedUvFault (n : Fin 2)
  /-- FEED_OV (R47): The overvoltage comparator disconnects a feed at 62 V or above, and the feed enters FAULTED. -/
  | feedOv (n : Fin 2)
  /-- FEED_OC (R47): The current stays above 7.5 A for 50 µs, so the feed disconnects and enters FAULTED. -/
  | feedOc (n : Fin 2)
  /-- FEED_RECOVER (R47): The cause has been absent for 1 s with fewer than 3 faults in 600 s, so the FAULTED feed
  returns to QUALIFYING. -/
  | feedRecover (n : Fin 2)
  /-- FEED_TEST_A (R49): POWER_TEST.TEST_A starts a test that runs the module from feed A alone. -/
  | feedTestA
  /-- FEED_TEST_B (R49): POWER_TEST.TEST_B starts a test that runs the module from feed B alone. -/
  | feedTestB
  /-- FEED_TEST_PERIOD (R49): The automatic test period expires and tests of A then B start. -/
  | feedTestPeriod
  /-- FEED_TEST_END (R47): The test duration ends, so the result is recorded, the hold-up bank is measured and
  source 85 is emitted. -/
  | feedTestEnd (holdupUs : Nat) (bankV : Nat)
  /-- LAST_GASP (R360): After the commit in progress has stopped, the module writes the SHUTDOWN slot, the pending
  counters and the log page. -/
  | lastGasp (pages : Nat) (us : Nat)
  /-- RAIL_OFF (R50): 4.5 ms after PWR_FAIL_N the rails switch off, the stage becomes 0 and the porch counts the
  loss. -/
  | railOff
  /-- RAIL_OFF_RESTART (R51): At least 20 ms after rail-off, a feed qualifies and the module restarts. -/
  | railOffRestart (n : Fin 2)
  /-- THERMAL_SAMPLE (R52): Every 1 ms the plate, die and OCXO temperatures are measured and PLATE_HOT is judged. -/
  | thermalSample (plate : Int) (die : Int) (ocxo : Int) (vbat : Nat) (railMv : Nat) (railMa : Nat)
  /-- THERMAL_TRIP (R52): The plate has been at 95 °C or above for 1 s, so the module powers down. -/
  | thermalTrip
  /-- RAIL_FAULT (R52): An internal rail has left ±5 % for more than 10 µs, so source 16 is raised. -/
  | railFault (rail : Fin 8) (mv : Nat)
  /-- VBAT_LOW (R53): VBAT falls below LOW_MV, so VBAT_LOW is set and source 86 is emitted. -/
  | vbatLow (mv : Nat)
  /-- PORCH_POWER_ON (R384): The porch domain is powered after being unpowered or below 2.0 V, and it resets its
  time, trace and counters. -/
  | porchPowerOn
  /-- RESET_N_LOW (R56): The RESET_N filter decides for a full reset, and the module enters Stage 0. -/
  | resetNLow (ns : Nat)
  /-- RESET_N_RELEASE (R56): Release of RESET_N samples the straps and claim pins and restarts the staged start. -/
  | resetNRelease (x : Straps)
  /-- PMBUS_PAGE (R60): The PAGE command selects or reads the PMBus data set. -/
  | pmbusPage (write : Option Nat)
  /-- PMBUS_CAPABILITY (R60): The CAPABILITY command returns PEC, 400 kHz and ALERT_N support. -/
  | pmbusCapability
  /-- PMBUS_STATUS_WORD (R60): STATUS_WORD returns the live summary. -/
  | pmbusStatusWord
  /-- PMBUS_STATUS_INPUT (R60): STATUS_INPUT returns a feed's input status bits. -/
  | pmbusStatusInput
  /-- PMBUS_STATUS_TEMPERATURE (R60): STATUS_TEMPERATURE returns the plate warning and trip-pending bits. -/
  | pmbusStatusTemperature
  /-- PMBUS_READ_VIN (R60): READ_VIN returns a feed voltage. -/
  | pmbusReadVin
  /-- PMBUS_READ_IIN (R60): READ_IIN returns an input current. -/
  | pmbusReadIin
  /-- PMBUS_READ_TEMPERATURE_1 (R60): READ_TEMPERATURE_1 returns the thermal plate temperature. -/
  | pmbusReadTemperature1
  /-- PMBUS_READ_TEMPERATURE_2 (R60): READ_TEMPERATURE_2 returns the die temperature. -/
  | pmbusReadTemperature2
  /-- PMBUS_READ_TEMPERATURE_3 (R60): READ_TEMPERATURE_3 returns the OCXO case temperature. -/
  | pmbusReadTemperature3
  /-- PMBUS_READ_PIN (R60): READ_PIN returns an input power. -/
  | pmbusReadPin
  /-- PMBUS_REVISION (R60): PMBUS_REVISION returns 0x33. -/
  | pmbusRevision
  /-- PMBUS_MFR_ID (R60): MFR_ID returns GENVEL. -/
  | pmbusMfrId
  /-- PMBUS_MFR_MODEL (R60): MFR_MODEL returns the variant's model name. -/
  | pmbusMfrModel
  /-- PMBUS_UNSUPPORTED (R61): An unsupported PMBus command is NACKed and sets CML in STATUS_WORD. -/
  | pmbusUnsupported
  /-- ALERT_RESPONSE (R62): The module answers the Alert Response Address with its PMBus address and releases
  ALERT_N. -/
  | alertResponse
  /-- RAILS_GOOD (R65): The rails come up, so the pilot and fabric start, the straps are sampled and the boot
  profile read begins. -/
  | railsGood (x : Straps) (holdupUs : Nat) (bankV : Nat)
  /-- BOOT_READ_DONE (R359): The boot profile and identity have been read, so the sequencer writes them, the module
  enters Stage 1 and oscillator qualification starts. -/
  | bootReadDone
  /-- OSC_AMPLITUDE_TIMEOUT (R68): No amplitude is detected within 10 ms, so the qualification attempt fails. -/
  | oscAmplitudeTimeout (osc : Fin 3)
  /-- OSC_COUNT_DONE (R68): 65,536 candidate cycles have been counted, and the reference count is judged against its
  window. -/
  | oscCountDone (osc : Fin 3) (count : Nat)
  /-- OCXO_TEMP_SETTLED (R70): The OCXO case has stayed within ±0.05 °C for 20 s. -/
  | ocxoTempSettled
  /-- OCXO_WARM (R70): The OCXO meets its WARM criteria, which makes the base move pending or makes the OCXO the
  base directly. -/
  | ocxoWarm (tenths : Nat)
  /-- OCXO_WARM_TIMEOUT (R71): The OCXO is not WARM within WARM_TIMEOUT_S, so source 10 is raised. -/
  | ocxoWarmTimeout
  /-- CLOCK_MON_WINDOW (R73): A monitor's 1 ms window ends and its frequency is checked against tolerance. -/
  | clockMonWindow (n : Fin 8) (offset : Int)
  /-- CLOCK_MON_MISS (R74): No edge arrives for MISS periods, so the monitor trips and its domain falls back. -/
  | clockMonMiss (n : Fin 8)
  /-- BASE_MOVE (R77): CLK_BASE_CFG.MOVE starts a pending base move. -/
  | baseMove
  /-- BASE_MOVE_END (R77): APLL0 has relocked on the new base and the outputs reopen, completing the move. -/
  | baseMoveEnd
  /-- MUX_SWITCH (R80): A glitch-free domain mux switch completes and source 65 is emitted. -/
  | muxSwitch (m : Fin 2) (len : Nat)
  /-- MUX_FORCED (R81): The old side has not closed within 64 new-clock cycles, so the hang detector forces the
  release. -/
  | muxForced (m : Fin 2)
  /-- MUX_STALL (R82): A switch has not completed in 1,024 pilot cycles, so it is abandoned and source 11 is raised.
  -/
  | muxStall (m : Fin 2)
  /-- STAGE3_HOLDOFF_END (R65): The time DPLL has been locked to a traceable root for HOLDOFF_S, so the module
  enters Stage 3. -/
  | stage3HoldoffEnd
  /-- EDGE_STAMP (R92): An edge leaves the prescaler and is stamped into its channel FIFO. -/
  | edgeStamp (c : Fin 28) (coarse : Nat) (line : Nat) (falling : Bool) (comparator : Nat) (glitches : Nat)
  /-- STAMP_DISTRIBUTE (R97): The distributor hands a channel's stamp to all its consumers, including the stream and
  take records. -/
  | stampDistribute (c : Fin 28)
  /-- CAL_TABLE_READY (R93): The idle line has collected 2^HITS_LOG dither hits, so its table is built or rejected
  and the lines swap. -/
  | calTableReady (c : Fin 28) (beyond : Nat) (maxTap : Nat) (taps : Nat) (bin : Nat) (dnl : Nat) (inl : Nat)
  /-- CAL_VALID (R94): The factory shape has been scaled from the first 12,500 hits, so VALID is set and the channel
  starts stamping. -/
  | calValid (c : Fin 28)
  /-- CAL_RESCALE_DONE (R94): The rescale after ungating completes and DEGRADED stamps end. -/
  | calRescaleDone (c : Fin 28)
  /-- GATE_END (R103): An estimate's gate ends, and the regression result and result code are formed. -/
  | gateEnd (slot : Fin 32)
  /-- ESTIMATE_PUBLISH (R106): A gate result is published at the first decision epoch at least 10 µs after the gate
  end. -/
  | estimatePublish (slot : Fin 32)
  /-- EST_START (R102): EST_CTRL.START latches a host estimate's configuration and waits for the next gate boundary.
  -/
  | estStart (e : Fin 4)
  /-- EST_STOP (R102): EST_CTRL.STOP ends a host estimate without publishing its running gate. -/
  | estStop (e : Fin 4)
  /-- TAKE_ARM (R108): TAKE_CTRL.ARM latches the take's configuration and arms or starts it. -/
  | takeArm (t : Fin 4)
  /-- TAKE_ABORT (R108): TAKE_CTRL.ABORT ends an armed or running take with result ABORTED. -/
  | takeAbort (t : Fin 4)
  /-- GATE_PIN_EDGE (R107): The synchronized GATE pin becomes active and starts an armed take. -/
  | gatePinEdge (pin : Fin 2) (high : Bool) (cycle : Nat)
  /-- TAKE_GATE_END (R108): A take's gate ends, so its summary record is written and source 71 is emitted. -/
  | takeGateEnd (t : Fin 4)
  /-- MISSING_EDGE (R117): A fast input's missing-edge detector fires, and the freeze strobe goes to the leaf's
  freeze set. -/
  | missingEdge (m : Fin 44)
  /-- ARRIVAL_WINDOW_MISS (R118): A slow input's arrival window closes without an edge, so the freeze strobe fires.
  -/
  | arrivalWindowMiss (m : Fin 44)
  /-- QUAL_VALIDATION_END (R126): VALID_S has elapsed in VALIDATING, so the leaf becomes QUALIFIED or SUSPECT. -/
  | qualValidationEnd (m : Fin 44)
  /-- QUAL_HOLDOFF_END (R126): HOLDOFF_S has elapsed in FAILED with no disqualifying cause, so the leaf retries in
  VALIDATING. -/
  | qualHoldoffEnd (m : Fin 44)
  /-- QUAL_DETECT_RESUME (R129): Detection resumes 1 ms after a base move, APLL0 unlock or TDC gating ends. -/
  | qualDetectResume
  /-- WAIT_TO_RESTORE_END (R145): An entry's wait-to-restore timer completes and the child becomes a candidate. -/
  | waitToRestoreEnd (n : Fin 128) (e : Fin 4)
  /-- BUILDOUT_COMPLETE (R165): A build-out completes, so B is refined, the re-entry policy is applied and a pending
  recipe is taken up. -/
  | buildoutComplete (d : Fin 16)
  /-- DPLL_LOCK_TIMER (R167): The lock criteria have held for LOCK_S, so the DPLL enters LOCKED. -/
  | dpllLockTimer (d : Fin 16)
  /-- REF_ACK (R170): DP_REF_ACK.ACK releases a held jump by a slew. -/
  | refAck (d : Fin 16)
  /-- REF_ACK_STEP (R171): DP_REF_ACK.STEP with ACK releases the time DPLL's held jump by a time step. -/
  | refAckStep (d : Fin 16)
  /-- HOLD_CLEAR (R177): HOLD_CTRL.CLEAR erases a DPLL's history, entry window and summary. -/
  | holdClear (d : Fin 16)
  /-- SYNTH_COMMIT_GO (R190): SYNTH_COMMIT.GO requests a commit of all shadow SYNTH fields. -/
  | synthCommitGo
  /-- SYNTH_COMMIT_VALIDATE (R191): At the first decision epoch after GO, the shadows are validated and then copied
  or refused. -/
  | synthCommitValidate
  /-- SYNTH_REALIGN (R195): A SYNTH_COMMIT.REALIGN bit realigns a loop and takes a new origin. -/
  | synthRealign (a : Fin 4)
  /-- APLL_LOCK (R187): A loop's phase error has stayed within ±50 ps for LOCK_US, so it is locked and takes its
  alignment origin. -/
  | apllLock (a : Fin 5)
  /-- APLL_UNLOCK (R199): An output loop loses lock, so its outputs are shuttered and source 25 is raised. -/
  | apllUnlock (a : Fin 4)
  /-- RELOCK_ATTEMPT (R187): Every RELOCK_MS the loop retries lock, and a failed attempt is counted. -/
  | relockAttempt (a : Fin 5) (failed : Bool)
  /-- BASE_UNLOCK (R200): APLL0 loses lock outside a move, so a degraded interval begins. -/
  | baseUnlock
  /-- DEGRADED_INTERVAL_END (R200): APLL0 has relocked, TK_MUX has returned and calibration has reconverged, so the
  degraded interval ends. -/
  | degradedIntervalEnd
  /-- SHUTTER_FORCE (R197): No closing edge arrives within 2 periods, so the gate forces the static level. -/
  | shutterForce (n : Fin 24)
  /-- SHUTTER_OPEN (R198): All causes have cleared, so the output is released at its next grid point. -/
  | shutterOpen (n : Fin 24)
  /-- PHASE_VERIFY (R196): Once per second the mean loopback phase error is published and may raise source 27. -/
  | phaseVerify
  /-- TIME_SET (R209): TIME_CTRL.SET requests that the counter be set to SET_TIME. -/
  | timeSet
  /-- TIME_STEP_REQUEST (R209): TIME_CTRL.STEP requests a step of the counter by STEP_AMOUNT. -/
  | timeStepRequest
  /-- TIME_STEP (R209): At the boundary, all three counter copies step together, the generation increments and
  source 88 is emitted. -/
  | timeStep
  /-- TIME_VOTE_ONE (R206): One counter copy differs and is reloaded from the majority, raising source 4. -/
  | timeVoteOne (c : Fin 3)
  /-- TIME_VOTE_NONE (R206): No two copies agree, so VALID clears, the counter stops driving and source 5 is raised.
  -/
  | timeVoteNone
  /-- COUNTER_START (R213): The counter starts or restarts from porch time. -/
  | counterStart (sec : Nat) (ticks : Nat) (expected : Nat)
  /-- PORCH_ANCHOR (R212): At each whole counter second the porch takes the counter's seconds. -/
  | porchAnchor
  /-- LEAP_SECOND (R215): At the end of the UTC day, OFFSET changes by one second and the leap flag clears. -/
  | leapSecond
  /-- TOD_MESSAGE_RX (R216): A time-of-day message is received whole, associated with a pulse, and given a result.
  -/
  | todMessageRx (j : Fin 2) (bytes : List Nat) (framing : Bool) (start : Nat) (stop : Nat)
  /-- TODO_SEND (R218): DELAY_MS after each whole second, a TODO port sends, withholds or skips its message. -/
  | todoSend (j : Fin 2)
  /-- PPS_PULSE (R219): At each whole second plus offset, a PPS output drives a pulse if qualified; number 4 is HWO_PPS
  (R317). -/
  | ppsPulse (p : Fin 5)
  /-- LINK_UP (R227): A port's CDR, lock, FEC and negotiation complete and the link comes up. -/
  | linkUp (p : Fin 8)
  /-- LINK_DOWN (R227): A port that was up goes down and raises source 30. -/
  | linkDown (p : Fin 8) (cdr : Bool)
  /-- RESTART_LINK (R226): PORT_CTRL.RESTART_LINK restarts the link as a change of MODE does. -/
  | restartLink (p : Fin 8)
  /-- RESTART_EQ (R228): PORT_CTRL.RESTART_EQ restarts receiver adaptation without dropping the link. -/
  | restartEq (p : Fin 8)
  /-- LANE_REF_FALLBACK (R229): The selected loop stops running, so the lane PLL moves to the TCXO and raises source
  31. -/
  | laneRefFallback (p : Fin 8)
  /-- LANE_REF_RETURN (R229): The loop has been RUNNING for 1 s, so the lane returns to it. -/
  | laneRefReturn (p : Fin 8)
  /-- ESMC_RX (R231): An ESMC PDU is received and accepted or rejected. -/
  | esmcRx (p : Fin 8)
  /-- ESMC_TX (R232): At each whole second a port sends an ESMC information PDU. -/
  | esmcTx (p : Fin 8)
  /-- FRAME_RX (R254): A received frame is timestamped and dispatched under Table 11.2. -/
  | frameRx (p : Fin 8) (pcs : Int) (fr : Frame)
  /-- FRAME_TX (R290): An eligible transmit descriptor's frame is sent, with any one-step insertion, and completed.
  -/
  | frameTx (p : Fin 8) (pcs : Int)
  /-- BRIDGE_FORWARD (R242): A forwarding bridge pair passes a frame and adds the residence to the selected event
  messages. -/
  | bridgeForward (b : Fin 4) (odd : Bool) (pcs : Int) (fr : Frame)
  /-- CUE_LAUNCH (R245): A cue launches so that its timestamp point crosses the pin at its stated time, or late, or
  is dropped. -/
  | cueLaunch (p : Fin 8) (pcs : Int) (busy : Bool)
  /-- PTP_SIGNALING_RX (R257): A unicast negotiation Signaling message is taken, to be handled at the next service
  epoch. -/
  | ptpSignalingRx (p : Fin 8)
  /-- FOLLOW_UP_SEND (R259): A two-step Sync's transmit stamp is returned, and the server sends its Follow_Up. -/
  | followUpSend (p : Fin 8)
  /-- DELAY_REQ_RX (R260): A Delay_Req is answered with a Delay_Resp while a token remains, and is otherwise
  dropped. -/
  | delayReqRx (p : Fin 8)
  /-- PDELAY_REQ_RX (R260): A Pdelay_Req is answered with a Pdelay_Resp, one-step or two-step. -/
  | pdelayReqRx (p : Fin 8) (pcs : Int)
  /-- MANAGEMENT_RX (R261): A Management GET is answered with RESPONSE or an error status. -/
  | managementRx (p : Fin 8)
  /-- NTP_REQUEST_RX (R266): An NTP mode 3 request is answered, rate-limited, or dropped. -/
  | ntpRequestRx (p : Fin 8) (pcs : Int)
  /-- TBL_READ (R265): The table mailbox READ copies an entry into SVC_TBL_DATA. -/
  | tblRead
  /-- TBL_WRITE (R265): The table mailbox WRITE stores SVC_TBL_DATA into an entry unless it is refused. -/
  | tblWrite
  /-- TBL_DELETE (R265): The table mailbox DELETE frees an entry, releases its charge and emits source 95. -/
  | tblDelete
  /-- TBL_FIND (R265): The table mailbox FIND looks up a key and returns its index. -/
  | tblFind
  /-- CLIENT_WINDOW_ACCESS (R265): A direct access to the client table window reads 0 or is ignored, and is counted.
  -/
  | clientWindowAccess
  /-- SERVO_FRAME_RX (R269): A servo takes a message from its master and forms forward or reverse samples. -/
  | servoFrameRx (k : Fin 16)
  /-- SERVO_RENEW (R269): At half of a grant's duration, or 1 s after a denial, a servo requests the grant again. -/
  | servoRenew (k : Fin 16) (msg : Nat)
  /-- FOLLOW_UP_TIMEOUT (R269): No Follow_Up arrives within 100 ms of its Sync, so the sample is void. -/
  | followUpTimeout (k : Fin 16)
  /-- SERVO_LOST (R272): No Sync or Delay_Resp arrives within its timeout, or a grant is lost, so the servo goes
  LOST and raises source 35. -/
  | servoLost (k : Fin 16) (why : Fin 3) (grant : Option Nat)
  /-- ANNOUNCE_TIMEOUT (R272): No Announce arrives for 3 periods, so ANN_OK clears. -/
  | announceTimeout (k : Fin 16)
  /-- PERST_N (R281): PERST_N low resets the host side, and its release starts link training. -/
  | perstN (low : Bool)
  /-- LINK_L0 (R280): The PCIe link reaches L0, and READY is set within 1 ms. -/
  | linkL0 (speed : Nat) (width : Nat)
  /-- HOST_LINK_DOWN (R281): The PCIe link leaves L0, so the host side is reset and source 38 is raised. -/
  | hostLinkDown
  /-- PF0_FLR (R281): A PF0 FLR, or a return from D3hot, resets PCIE and the VFs. -/
  | pf0Flr (fromD3 : Bool)
  /-- VF_FLR (R281): A VF FLR resets that VF and disables its event reel. -/
  | vfFlr (v : Fin 16)
  /-- DOORBELL_PROD (R284): A PROD doorbell announces descriptors, or faults the reel with OVERRUN. -/
  | doorbellProd (r : Nat) (value : Nat) (dword : Bool)
  /-- DOORBELL_CONS (R284): A CONS doorbell frees completion slots, or faults the reel with CONS_AHEAD. -/
  | doorbellCons (r : Nat) (value : Nat) (dword : Bool)
  /-- DOORBELL_CONS_ARM (R300): CONS_ARM acts as CONS and re-arms the reel's interrupt. -/
  | doorbellConsArm (r : Nat) (value : Nat) (dword : Bool)
  /-- DESCRIPTOR_RELEASE (R286): At the release tick, fetched descriptors become eligible. -/
  | descriptorRelease (r : Nat) (l : List Fetched)
  /-- DESCRIPTOR_FETCH_DONE (R286): A descriptor fetched after its release tick becomes eligible and raises source
  40. -/
  | descriptorFetchDone (r : Nat) (d : Fetched)
  /-- COMPLETION_WRITE (R285): A held completion or event entry is written once a consumed slot is free. -/
  | completionWrite (r : Nat)
  /-- DMA_ERROR (R288): A DMA read of the module's own fails, so the reel faults and source 39 is raised. -/
  | dmaError (r : Nat) (addr : Nat) (desc : Option (Nat × Nat))
  /-- RECORDS_FLUSH (R291): FLUSH_US after a records buffer's first record, the buffer is completed. -/
  | recordsFlush (r : Nat)
  /-- MSIX_MODERATION (R300): MOD_US after the first pending entry, an armed reel's vector is sent. -/
  | msixModeration (r : Nat)
  /-- ADMIN_ENABLE (R293): ADMIN_CFG.ENABLE starts or stops an admin reel. -/
  | adminEnable (a : Fin 2) (value : Nat)
  /-- NEGOTIATE (R294): The admin command NEGOTIATE settles the command-set version or a reel's descriptor format.
  -/
  | negotiate (a : Fin 2)
  /-- CREATE_REEL (R295): The admin command CREATE_REEL creates an armed reel and returns its doorbell offset. -/
  | createReel (a : Fin 2)
  /-- DESTROY_REEL (R296): The admin command DESTROY_REEL stops a reel and discards its queued work. -/
  | destroyReel (a : Fin 2)
  /-- SET_VECTOR (R300): The admin command SET_VECTOR changes a reel's MSI-X vector and moderation. -/
  | setVector (a : Fin 2)
  /-- ATTIC_READ (R298): The admin command ATTIC_READ copies a record into a host buffer. -/
  | atticRead (a : Fin 2) (ok : Bool)
  /-- ATTIC_WRITE (R298): The admin command ATTIC_WRITE commits a record from a host buffer and completes after the
  commit. -/
  | atticWrite (a : Fin 2) (buffer : Option (List Nat))
  /-- FULL_RESET (R299): The admin command FULL_RESET writes its completion and schedules a full reset 1 ms later.
  -/
  | fullReset (a : Fin 2)
  /-- FULL_RESET_START (R299): 1 ms after FULL_RESET, or after a fault reaction, the full reset takes place. -/
  | fullResetStart
  /-- PAIR_SWITCH (R324): The admin command PAIR_SWITCH requests a pair switch, forced if FORCE is set. -/
  | pairSwitch (a : Fin 2)
  /-- REEL_STATUS (R294): The admin command REEL_STATUS returns a reel's state, reason and counts. -/
  | reelStatus (a : Fin 2)
  /-- DRAIN_REEL (R296): The admin command DRAIN_REEL completes all queued work of a reel as CANCELLED. -/
  | drainReel (a : Fin 2)
  /-- ADMIN_BAD_OPCODE (R294): An admin command with an unknown or unavailable opcode completes with BAD_OPCODE. -/
  | adminBadOpcode (a : Fin 2)
  /-- TIME_SNAPSHOT (R301): TM_CTRL.SNAP captures the counter, state, UTC and TE at the TLP's arrival. -/
  | timeSnapshot (v : Fin 16) (at_ : Nat)
  /-- VF_EVT_REEL_ENABLE (R302): VF_EVT_CFG.ENABLE creates or destroys a VF's event reel. -/
  | vfEvtReelEnable (v : Fin 16) (value : Nat)
  /-- VF_EVT_CONS (R302): A VF consumer doorbell frees event entries. -/
  | vfEvtCons (v : Fin 16) (value : Nat)
  /-- VF_EVT_CONS_ARM (R302): A VF consumer doorbell with arm frees entries and re-arms vector 0. -/
  | vfEvtConsArm (v : Fin 16) (value : Nat)
  /-- CLAIM_IN_CHANGE (R307): The deglitched CLAIM_IN reading changes, which may mean a claim, no claim, or a broken
  pair. -/
  | claimInChange (code : Fin 4)
  /-- CLAIM_SLOT_DELAY_END (R309): The slot delay ends with no claim read, so CLAIM_OUT is asserted. -/
  | claimSlotDelayEnd
  /-- CLAIM_CONFIRM_END (R309): The 3 µs confirm window ends clear, so the module enters ACTIVE and enables its
  drivers. -/
  | claimConfirmEnd
  /-- CLAIM_CONFLICT_HOLD_END (R309): A SLOT 0 module's 10 µs hold ends with the partner still claiming, so it
  enters BLOCKED. -/
  | claimConflictHoldEnd
  /-- RECLAIM_HOLDOFF_END (R309): RECLAIM_MS after its own release, the module becomes eligible to claim again. -/
  | reclaimHoldoffEnd
  /-- HALLWAY_LANE_UP (R313): A hallway lane comes up, and the link may start negotiation. -/
  | hallwayLaneUp (l : Fin 2)
  /-- HALLWAY_LANE_DOWN (R313): A hallway lane leaves the up state, which raises source 42 while the other lane
  stays up. -/
  | hallwayLaneDown (l : Fin 2)
  /-- HELLO_TX (R314): A HELLO is repeated every 10 ms, or every 1 s when INCOMPATIBLE. -/
  | helloTx
  /-- HELLO_RX (R314): A received HELLO negotiates the version, or fails with source 45. -/
  | helloRx (fr : Hl) (h : Hello)
  /-- HEARTBEAT_TX (R315): Every 1 ms a HEARTBEAT is sent on both lanes. -/
  | heartbeatTx
  /-- HEARTBEAT_RX (R315): A valid heartbeat updates the partner's status. -/
  | heartbeatRx (fr : Hl) (h : Heartbeat)
  /-- HEARTBEAT_LOST (R315): 3.1 ms pass without a heartbeat, so the link goes LOST and source 43 is raised. -/
  | heartbeatLost
  /-- TIME_MSG_RX (R319): The partner's TIME message supplies seconds and TIME_UTC to a non-active module. -/
  | timeMsgRx (fr : Hl) (t : TimeMsg)
  /-- TABLE_SYNC_RX (R321): A mirrored client entry or deletion is applied whole as master 17. -/
  | tableSyncRx (fr : Hl) (t : TableMsg)
  /-- CFG_DIGEST_RX (R322): A partner's digest is compared, and a change of CFG_MATCH emits source 100. -/
  | cfgDigestRx (fr : Hl) (digest : Nat)
  /-- STANDBY_ALIGNED (R320): After ALIGN_HOLD_S within tolerance, the standby becomes ALIGNED. -/
  | standbyAligned
  /-- PEER_SWITCH_GO (R324): PEER_SWITCH.GO requests a switch without FORCE. -/
  | peerSwitchGo
  /-- PEER_SWITCH_FORCE (R325): PEER_SWITCH.FORCE with KEY requests a forced switch or a forced claim. -/
  | peerSwitchForce (key : Nat)
  /-- SWITCH_OFFER_RX (R324): The active module receives a SWITCH_OFFER and checks readiness. -/
  | switchOfferRx (fr : Hl) (ident : Nat) (force : Bool)
  /-- SWITCH_ACCEPT_RX (R324): The standby receives SWITCH_ACCEPT with the handover time t_s. -/
  | switchAcceptRx (fr : Hl) (ident : Nat) (t : Nat)
  /-- SWITCH_REFUSE_RX (R324): A SWITCH_REFUSE ends the request with PARTNER_NOT_READY. -/
  | switchRefuseRx (fr : Hl) (ident : Nat)
  /-- SWITCH_HANDOVER (R324): At t_s the active shutters every OUT. -/
  | switchHandover
  /-- SWITCH_TIMEOUT (R324): The partner has not claimed within 20 ms of t_s, so the switch fails. -/
  | switchTimeout
  /-- FAULT_CAUSE (R330): A detector raises a fault through its pair, which is recorded, latched, signalled and may
  react. -/
  | faultCause (source : Fin 53) (unit : Nat) (itemA : Nat) (itemB : Nat)
  /-- FAULT_WIRE (R330): A pair reads equal legs for 10 ns, so its source and source 0 are raised. -/
  | faultWire (source : Fin 53) (unit : Nat) (broken : Bool)
  /-- SRAM_SCRUB (R332): The SRAM scrub or an access finds an ECC error and raises source 48 or 1. -/
  | sramScrub (addr : Nat) (double : Bool)
  /-- FAULT_ACK (R336): A write of FLT_ACK stops a MAJOR entry's grace timer. -/
  | faultAck (k : Fin 256)
  /-- GRACE_EXPIRY (R336): An unacknowledged MAJOR entry's timer expires, so source 102 is emitted and its reaction
  starts. -/
  | graceExpiry (k : Fin 256)
  /-- REACTION_OPERATION (R337): At the first tick at least 1 µs after the cause, the reaction's shutter and unit
  operation apply as master 19. -/
  | reactionOperation
  /-- REACTION_COMPLETE (R337): A reaction's operation completes, so source 103 is emitted and its settle window
  runs on. -/
  | reactionComplete
  /-- SETTLE_WINDOW_END (R339): A reaction's settle window closes. -/
  | settleWindowEnd
  /-- ERR_TOGGLE (R340): Every 500 µs while not in fault with HEARTBEAT = 1, ERR_N and ERR_P toggle. -/
  | errToggle
  /-- FAULT_INJECT (R342): FLT_INJECT_CTRL.GO raises the selected source at its unit in factory test mode. -/
  | faultInject
  /-- FAULT_INJECT_BREAK (R342): FLT_INJECT_CTRL.BREAK holds the selected pair broken until it is written 0. -/
  | faultInjectBreak (on_ : Bool)
  /-- ATTIC_COMMIT_DONE (R351): A record commit ends as committed, one copy, or not committed. -/
  | atticCommitDone (failed : Option (Bool × Nat)) (us : Nat)
  /-- ATTIC_MB_READ (R353): The attic mailbox READ copies a record into staging. -/
  | atticMbRead
  /-- ATTIC_MB_WRITE (R353): The attic mailbox WRITE commits a record from staging and stretches SCL until done. -/
  | atticMbWrite
  /-- ATTIC_MB_RAW_READ (R361): The attic mailbox RAW_READ copies one page into staging. -/
  | atticMbRawRead
  /-- ATTIC_MB_RAW_WRITE (R361): The attic mailbox RAW_WRITE writes bytes from staging into an allowed page. -/
  | atticMbRawWrite
  /-- LOG_PAGE_WRITE (R356): An event log page is written when full, 60 s after its first record, at full reset or
  at the last gasp. -/
  | logPageWrite
  /-- POWER_ON_HOUR (R357): Each hour, the hour-based lifetime counters are updated. -/
  | powerOnHour
  /-- ATTIC_SCAN_PAGE (R358): The daily scan checks one page and refreshes or repairs it. -/
  | atticScanPage (weak : Bool) (single : Nat) (bad : List Nat)
  /-- WIDE_CAPTURE (R369): WIDE_SEL with DIR = 0 captures a wide item and the generation into the master's bank. -/
  | wideCapture (bank : Fin 4) (block : Nat) (item : Nat)
  /-- WIDE_WRITE (R369): WIDE_SEL with DIR = 1 applies WIDE_DATA whole to a writable item. -/
  | wideWrite (m : Fin 20) (block : Nat) (item : Nat)
  /-- SMB_BLOCK_WRITE (R373): SMBus command 0x10 makes one register write at STOP. -/
  | smbBlockWrite (sa : Nat) (count : Nat) (data : List Nat) (pec : Option Nat)
  /-- SMB_BLOCK_WRITE_MULTI (R373): SMBus command 0x11 makes n writes to consecutive registers. -/
  | smbBlockWriteMulti (sa : Nat) (count : Nat) (data : List Nat) (pec : Option Nat)
  /-- SMB_BLOCK_READ (R373): SMBus command 0x20 reads n consecutive registers, stretching the clock. -/
  | smbBlockRead (sa : Nat) (count : Nat) (data : List Nat)
  /-- SMB_BAD_COMMAND (R373): An unknown SMBus command code is NACKed and counted. -/
  | smbBadCommand (sa : Nat) (code : Nat)
  /-- EXTEST (R379): The TAP instruction EXTEST drives boundary scan in factory test mode, and acts as BYPASS
  otherwise. -/
  | extest (pins : List Bool) (shift : List Bool)
  /-- SAMPLE_PRELOAD (R379): The TAP instruction SAMPLE/PRELOAD accesses the boundary scan register. -/
  | samplePreload (pins : List Bool) (shift : List Bool)
  /-- IDCODE (R379): The TAP instruction IDCODE returns IDENT_JTAG_ID. -/
  | idcode
  /-- REGACC (R379): The TAP instruction REGACC makes a register access as master 18 at Update-DR. -/
  | regacc (write : Bool) (addr : Nat) (value : Nat)
  /-- BYPASS (R379): The TAP instruction BYPASS, or any unassigned code, selects the 1-bit bypass register. -/
  | bypass (code : Nat) (shift : List Bool)
  /-- TAP_RESET (R379): TRST_N low, or five TCK cycles with TMS high, resets the TAP. -/
  | tapReset
  /-- TEST_MODE_ENTER (R380): IDENT_TEST_CTRL.ENTER with KEY enters factory test mode when the fuse is intact and
  TEST_EN was sampled at 1. -/
  | testModeEnter (m : Fin 20) (key : Nat)
  /-- FUSE_BLOW (R381): IDENT_TEST_CTRL.BLOW with KEY starts programming the field fuse. -/
  | fuseBlow (key : Nat)
  /-- FUSE_BLOW_DONE (R381): Fuse programming ends, so FIELD_BLOWN is set, test mode ends and the service port
  closes. -/
  | fuseBlowDone
  /-- FEED_TEST_FAIL (R47): A feed under test stays below FEED_CFG.UV_WARN for 1 ms, so it enters FAULTED with cause
  TEST_FAIL and the other path is re-enabled within 20 µs. -/
  | feedTestFail (n : Fin 2)
  /-- THERMAL_RESTART (R52): After a thermal trip the plate cools to 80 °C or below, and the module may restart. -/
  | thermalRestart (plate : Int)
  /-- CDR_LOCK (R230): A port's receive CDR locks, so the LN divider restarts, the LN channel gets edges and
  receiver adaptation starts. -/
  | cdrLock (p : Fin 8)
  /-- D3HOT_ENTRY (R280): A host write of the PCIe power state puts PF0 into D3hot, after which the module reads no
  descriptors and writes nothing to host memory. -/
  | d3hotEntry
  /-- NUMVFS_CHANGE (R301): A host write of SR-IOV NumVFs creates or removes VFs and changes HOST_VF_STATUS.ENABLED.
  -/
  | numVfsChange (n : Nat)
  /-- MSIX_UNMASK (R300): A masked MSI-X vector whose pending bit is set is unmasked, and its message is sent. -/
  | msixUnmask (fn : Nat) (vec : Nat)
  /-- DRAIN_TIMEOUT (R296): No completion slot has freed within 10 ms for a DRAIN_REEL, so the command completes
  with BUSY. -/
  | drainTimeout (a : Fin 2)
  /-- OWN_UNIT_RESET (R297): 1 ms after a unit operation whose subtree holds the master's own unit (PCIE, SMBUS or
  HALLWAY) completes, the deferred reset takes effect. -/
  | ownUnitReset
  deriving DecidableEq, Repr

end Sys2Proof
end

