-- ==== Sys2Proof/Decode.lean ====
section
/-! DEFINITION. The command that a word of the opcode table spells. The table gives none of its rows a bit, so no word
spells a command, and there is nothing to encode (log 1). -/

namespace Sys2Proof

/-- Bits of a table word as a command. -/
def decodeTableWord (_nbits _w : Nat) : Option Instr := none

end Sys2Proof
end

