-- ==== Sys2Proof/Config.lean ====
section
/-! DEFINITION. What an implementation fixes and what the spec leaves open: free values, constants with no body, so
that nothing can be proved of the value they give. Each is applied to the state's counter of free values (or to the
operands it depends on), and each is named in the assumption log. -/

namespace Sys2Proof

/-- A free choice between two admissible outcomes (log 9). -/
opaque Config.freeBool : Nat → Bool

/-- A free natural number where the spec states no value and no bound (log 10). -/
opaque Config.freeNat : Nat → Nat

/-- A free integer where the spec states no value and no bound (log 10). -/
opaque Config.freeInt : Nat → Int

/-- A field of a register whose value no rule states: a physical reading, by the count of free values and the field's key
(log 10). -/
opaque Config.freeField : Nat → Nat → Nat

/-- Which of the two neighbouring integers stands for an inexact quotient or root, by operation and operands: the spec
gives the formula and no rounding (log 8). -/
opaque Config.roundUp : Nat → Int → Int → Bool

/-- The exponent with which a PMBus value is written in LINEAR11: the format lets one value have several words, and the
spec names none (log 13). The argument is the value in thousandths. -/
opaque Config.linear11Exp : Int → Int

/-- Factory path delay of TDC channels 16–27 in FRACTION units: Table 4.1 takes it from the attic archive, whose FACTORY
payload the spec lays out only for instance 4 (log 22). -/
opaque Config.factoryDelay : Nat → Int

/-- Factory latencies of a port in FRACTION units, by direction (0 transmit, 1 receive), port, mode and FEC: the FACTORY
payload of R233's values is not laid out (log 22). -/
opaque Config.portLatency : Nat → Nat → Nat → Nat → Nat

/-- A field of the IDENTITY record, by field and payload: the payload is not laid out (log 29). -/
opaque Config.identityField : Nat → List Nat → Nat

/-- The configuration digest over the listed register entries: R322 names a CRC-32C over the fields in ascending address and
not the bytes they make (log 39). -/
opaque Config.cfgDigest : List (Nat × Nat) → Nat

end Sys2Proof
end

