-- ==== Sys2Proof/Machine/Tab.lean ====
section
/-! DEFINITION. A table from numbers to values: a list of pairs, keys strictly rising, in which an unlisted key holds
the table's default. Writing the default removes the entry, so that equal tables are equal lists. -/

namespace Sys2Proof.Machine

/-- Key and value pairs, keys strictly rising. -/
abbrev Tab (α : Type) := List (Nat × α)

/-- The listed value of a key. -/
def Tab.find {α : Type} : Tab α → Nat → Option α
  | [], _ => none
  | (k, v) :: r, n => if n = k then some v else Tab.find r n

/-- The table without a key. -/
def Tab.erase {α : Type} : Tab α → Nat → Tab α
  | [], _ => []
  | (k, v) :: r, n => if n = k then Tab.erase r n else (k, v) :: Tab.erase r n

/-- A pair put before the first greater key. -/
def Tab.ins {α : Type} : Tab α → Nat → α → Tab α
  | [], n, x => [(n, x)]
  | (k, v) :: r, n, x => if n < k then (n, x) :: (k, v) :: r else (k, v) :: Tab.ins r n x

/-- The table with a key listed at a value. -/
def Tab.put {α : Type} (t : Tab α) (n : Nat) (x : α) : Tab α := (t.erase n).ins n x

/-- The value of a key, an unlisted key reading as `d`. -/
def Tab.at {α : Type} (t : Tab α) (n : Nat) (d : α) : α := (t.find n).getD d

/-- The table with a key at a value; the default `d` is not listed. -/
def Tab.set {α : Type} [DecidableEq α] (t : Tab α) (n : Nat) (x d : α) : Tab α :=
  if x = d then t.erase n else t.put n x

/-- The keys are strictly rising. -/
def Tab.sorted {α : Type} : Tab α → Bool
  | [] => true
  | (k, _) :: r => (r.all fun p => k < p.1) && Tab.sorted r

/-- The canonical form: keys strictly rising, no entry at its default. -/
def Tab.canon {α : Type} [DecidableEq α] (t : Tab α) (d : Nat → α) : Bool :=
  t.sorted && t.all fun p => p.2 ≠ d p.1

end Sys2Proof.Machine
end

