-- ==== Sys2Proof/Machine/Field.lean ====
section
/-! DEFINITION. What a register field is (R6, R366): its place in the register, its access type and its reset value. -/

namespace Sys2Proof.Machine

/-- Access types of Table 0.5 (R6). -/
inductive Acc where
  | RW | RO | RL | W1 | WT | PR | CM
  deriving DecidableEq, Repr

/-- A reset value: one for every index of the register, or one per index. -/
inductive Rst where
  | const (n : Nat)
  | table (l : List Nat)
  deriving DecidableEq, Repr

/-- A register field: its number in the model, its lowest bit, its width, its access type and its reset value. -/
structure Fld where
  id : Nat
  lsb : Nat
  width : Nat
  acc : Acc
  rst : Rst
  deriving DecidableEq, Repr

/-- The reset value of a field at index `i` of its register. -/
def Fld.reset (f : Fld) (i : Nat) : Nat :=
  match f.rst with
  | .const n => n
  | .table l => l.getD i 0

/-- Where field `f` of index `i` stands in the register table of the state. -/
def Fld.key (f : Fld) (i : Nat) : Nat := f.id * 65536 + i % 65536

/-- A register, or an array of them: name, first address, first index, count and stride of the outer index, count and
stride of the inner index (1 and 0 where there is none), fields. Index `i` is outer · (inner count) + inner. -/
structure Reg where
  name : String
  base : Nat
  lo : Nat
  c1 : Nat
  s1 : Nat
  c2 : Nat
  s2 : Nat
  flds : List Fld
  deriving DecidableEq, Repr

/-- The address of index `i` of a register (R364). -/
def Reg.addr (r : Reg) (i : Nat) : Nat := r.base + (i / r.c2) * r.s1 + (i % r.c2) * r.s2

/-- How many indices a register has. -/
def Reg.count (r : Reg) : Nat := r.c1 * r.c2

/-- The index of a register at an address, if the address is one of its own. An address is matched by its offset from
the base: the inner stride divides the remainder left by the outer one. -/
def Reg.indexAt (r : Reg) (addr : Nat) : Option Nat :=
  (List.range r.count).find? fun k => r.addr (r.lo + k) == addr

/-- The bits of a register that no field covers, set in a written value, are ignored and counted (R365). -/
def Reg.reservedSet (r : Reg) (v : Nat) : Bool :=
  (List.range 32).any fun b => bitOf v b && !(r.flds.any fun f => f.lsb ≤ b && b < f.lsb + f.width)

end Sys2Proof.Machine
end

