-- ==== Sys2Proof/Machine/FieldsA.lean ====
section
/-! DEFINITION. Register fields of the blocks GLOBAL, CLOCKS, INPUTS, TDC, QUAL, TREE: number, place, access type and
reset value of each, as the register maps of the spec give them (one rule per block, named at its list). -/

namespace Sys2Proof.Machine

def F.GLOBAL_ID_STEPPING : Fld := ⟨876, 0, 8, .RO, (.const 1)⟩
def F.GLOBAL_ID_FAMILY : Fld := ⟨877, 8, 8, .RO, (.const 1)⟩
def F.GLOBAL_ID_PART : Fld := ⟨878, 16, 16, .RO, (.const 0x8416)⟩
def F.GLOBAL_STAGE_STAGE : Fld := ⟨879, 0, 2, .RO, (.const 1)⟩
def F.GLOBAL_STAGE_CHANGES : Fld := ⟨880, 16, 16, .RO, (.const 0)⟩
def F.GLOBAL_STATUS_PAIR_MISMATCH : Fld := ⟨881, 24, 1, .RO, (.const 0)⟩
def F.GLOBAL_STATUS_DRIVING : Fld := ⟨882, 25, 1, .RO, (.const 0)⟩
def F.GLOBAL_STATUS_ANY_LATCHED : Fld := ⟨883, 26, 1, .RO, (.const 0)⟩
def F.GLOBAL_STATUS_DEGRADED : Fld := ⟨884, 27, 1, .RO, (.const 0)⟩
def F.GLOBAL_STATUS_OUT_OF_SPEC : Fld := ⟨885, 28, 1, .RO, (.const 0)⟩
def F.GLOBAL_STATUS_IN_HOLDOVER : Fld := ⟨886, 29, 1, .RO, (.const 0)⟩
def F.GLOBAL_STATUS_SECONDS_SET : Fld := ⟨887, 30, 1, .RO, (.const 0)⟩
def F.GLOBAL_STATUS_TIME_VALID : Fld := ⟨888, 31, 1, .RO, (.const 0)⟩
def F.GLOBAL_MAP_REGISTERS : Fld := ⟨889, 0, 12, .RO, (.const 3568)⟩
def F.GLOBAL_MAP_BLOCKS : Fld := ⟨890, 16, 8, .RO, (.const 21)⟩
def F.GLOBAL_MAP_MAP_VERSION : Fld := ⟨891, 24, 8, .RO, (.const 1)⟩
def F.GLOBAL_COMMIT_TIME_NS : Fld := ⟨892, 0, 32, .RO, (.const 0)⟩
def F.GLOBAL_ACCESS_STATUS_REFUSED : Fld := ⟨893, 0, 16, .RO, (.const 0)⟩
def F.GLOBAL_ACCESS_STATUS_RESULT : Fld := ⟨894, 28, 4, .RO, (.const 0)⟩
def F.GLOBAL_ACCESS_ADDR_ADDR : Fld := ⟨895, 0, 32, .RO, (.const 0)⟩
def F.LOCKED_WRITES_COUNT : Fld := ⟨896, 0, 32, .RO, (.const 0)⟩
def F.GLOBAL_NOT_OWNER_COUNT : Fld := ⟨897, 0, 32, .RO, (.const 0)⟩
def F.GLOBAL_PAIR_STATUS_ENTRIES : Fld := ⟨898, 0, 16, .RO, (.const 0)⟩
def F.GLOBAL_PAIR_STATUS_MISMATCHED : Fld := ⟨899, 24, 8, .RO, (.const 0)⟩
def F.GLOBAL_COLLISIONS_COUNT : Fld := ⟨900, 0, 32, .RO, (.const 0)⟩
def F.GLOBAL_IGNORED_IGNORED : Fld := ⟨901, 0, 16, .RO, (.const 0)⟩
def F.GLOBAL_IGNORED_RETIRED : Fld := ⟨902, 16, 16, .RO, (.const 0)⟩
def F.GLOBAL_STRAPS_SLOT : Fld := ⟨903, 0, 1, .RO, (.const 0)⟩
def F.GLOBAL_STRAPS_ADDR0 : Fld := ⟨904, 1, 1, .RO, (.const 0)⟩
def F.GLOBAL_STRAPS_ADDR1 : Fld := ⟨905, 2, 1, .RO, (.const 0)⟩
def F.GLOBAL_STRAPS_TEST_EN : Fld := ⟨906, 3, 1, .RO, (.const 0)⟩
def F.GLOBAL_STRAPS_PMBUS_ADDR : Fld := ⟨907, 16, 8, .RO, (.const 68)⟩
def F.GLOBAL_STRAPS_SMB_ADDR : Fld := ⟨908, 24, 8, .RO, (.const 96)⟩
def F.GLOBAL_SMB_CFG_WRITE_MASK : Fld := ⟨909, 0, 21, .RW, (.const 0x1fffff)⟩
def F.GLOBAL_SMB_STATUS_NACKS : Fld := ⟨910, 8, 8, .RO, (.const 0)⟩
def F.GLOBAL_SMB_STATUS_PEC_ERRORS : Fld := ⟨911, 16, 16, .RO, (.const 0)⟩
def F.GLOBAL_FABRIC_EVAL_MAX_US : Fld := ⟨912, 0, 8, .RO, (.const 0)⟩
def F.GLOBAL_FABRIC_SLACK_PCT : Fld := ⟨913, 8, 8, .RL, (.const 0)⟩
def F.GLOBAL_FABRIC_VFAB_MV : Fld := ⟨914, 16, 16, .RL, (.const 0)⟩
def F.WIDE_SEL_ITEM : Fld := ⟨915, 0, 12, .RW, (.const 0)⟩
def F.WIDE_SEL_BLOCK : Fld := ⟨916, 16, 8, .RW, (.const 0)⟩
def F.WIDE_SEL_DIR : Fld := ⟨917, 31, 1, .RW, (.const 0)⟩
def F.WIDE_STATUS_WIDTH : Fld := ⟨918, 0, 8, .RO, (.const 0)⟩
def F.WIDE_STATUS_RESULT : Fld := ⟨919, 12, 3, .RO, (.const 0)⟩
def F.WIDE_STATUS_VALID : Fld := ⟨920, 15, 1, .RO, (.const 0)⟩
def F.WIDE_STATUS_GEN : Fld := ⟨921, 16, 16, .RO, (.const 0)⟩
def F.WIDE_DATA_DATA : Fld := ⟨922, 0, 32, .RW, (.const 0)⟩
def F.GLOBAL_UNIT_CTRL_UNIT : Fld := ⟨923, 0, 16, .RW, (.const 0)⟩
def F.GLOBAL_UNIT_CTRL_OP : Fld := ⟨924, 16, 8, .RW, (.const 0)⟩
def F.GLOBAL_UNIT_CTRL_GO : Fld := ⟨925, 31, 1, .WT, (.const 0)⟩
def F.GLOBAL_UNIT_RESULT_UNIT_STATUS : Fld := ⟨926, 0, 8, .RO, (.const 255)⟩
def F.GLOBAL_UNIT_RESULT_CODE : Fld := ⟨927, 16, 8, .RO, (.const 255)⟩
def F.GLOBAL_UNIT_RESULT_BUSY : Fld := ⟨928, 31, 1, .RO, (.const 0)⟩
def F.GLOBAL_OWNER_OWNER0 : Fld := ⟨929, 0, 6, .RW, (.const 63)⟩
def F.GLOBAL_OWNER_OWNER1 : Fld := ⟨930, 8, 6, .RW, (.const 63)⟩
def F.GLOBAL_OWNER_OWNER2 : Fld := ⟨931, 16, 6, .RW, (.const 63)⟩
def F.GLOBAL_OWNER_OWNER3 : Fld := ⟨932, 24, 6, .RW, (.const 63)⟩
def F.GLOBAL_GROUP_STATUS_STATUS : Fld := ⟨933, 0, 32, .RO, (.const 0xffffffff)⟩
def F.GLOBAL_SCRATCH_DATA : Fld := ⟨934, 0, 32, .RW, (.const 0)⟩

/-- The registers of block GLOBAL (R375). -/
def regsGlobal0 : List Reg :=
  [⟨"GLOBAL_ID", 0x0, 0, 1, 0x0, 1, 0x0, [F.GLOBAL_ID_STEPPING, F.GLOBAL_ID_FAMILY, F.GLOBAL_ID_PART]⟩,
   ⟨"GLOBAL_STAGE", 0x4, 0, 1, 0x0, 1, 0x0, [F.GLOBAL_STAGE_STAGE, F.GLOBAL_STAGE_CHANGES]⟩,
   ⟨"GLOBAL_STATUS", 0x8, 0, 1, 0x0, 1, 0x0, [F.GLOBAL_STATUS_PAIR_MISMATCH, F.GLOBAL_STATUS_DRIVING, F.GLOBAL_STATUS_ANY_LATCHED, F.GLOBAL_STATUS_DEGRADED, F.GLOBAL_STATUS_OUT_OF_SPEC, F.GLOBAL_STATUS_IN_HOLDOVER, F.GLOBAL_STATUS_SECONDS_SET, F.GLOBAL_STATUS_TIME_VALID]⟩,
   ⟨"GLOBAL_MAP", 0xc, 0, 1, 0x0, 1, 0x0, [F.GLOBAL_MAP_REGISTERS, F.GLOBAL_MAP_BLOCKS, F.GLOBAL_MAP_MAP_VERSION]⟩,
   ⟨"GLOBAL_COMMIT_TIME", 0x10, 0, 4, 0x0, 1, 0x0, [F.GLOBAL_COMMIT_TIME_NS]⟩,
   ⟨"GLOBAL_ACCESS_STATUS", 0x14, 0, 4, 0x0, 1, 0x0, [F.GLOBAL_ACCESS_STATUS_REFUSED, F.GLOBAL_ACCESS_STATUS_RESULT]⟩,
   ⟨"GLOBAL_ACCESS_ADDR", 0x18, 0, 4, 0x0, 1, 0x0, [F.GLOBAL_ACCESS_ADDR_ADDR]⟩,
   ⟨"LOCKED_WRITES", 0x1c, 0, 1, 0x0, 1, 0x0, [F.LOCKED_WRITES_COUNT]⟩,
   ⟨"GLOBAL_NOT_OWNER", 0x20, 0, 1, 0x0, 1, 0x0, [F.GLOBAL_NOT_OWNER_COUNT]⟩,
   ⟨"GLOBAL_PAIR_STATUS", 0x24, 0, 1, 0x0, 1, 0x0, [F.GLOBAL_PAIR_STATUS_ENTRIES, F.GLOBAL_PAIR_STATUS_MISMATCHED]⟩,
   ⟨"GLOBAL_COLLISIONS", 0x28, 0, 1, 0x0, 1, 0x0, [F.GLOBAL_COLLISIONS_COUNT]⟩,
   ⟨"GLOBAL_IGNORED", 0x2c, 0, 1, 0x0, 1, 0x0, [F.GLOBAL_IGNORED_IGNORED, F.GLOBAL_IGNORED_RETIRED]⟩]
def regsGlobal1 : List Reg :=
  [⟨"GLOBAL_STRAPS", 0x30, 0, 1, 0x0, 1, 0x0, [F.GLOBAL_STRAPS_SLOT, F.GLOBAL_STRAPS_ADDR0, F.GLOBAL_STRAPS_ADDR1, F.GLOBAL_STRAPS_TEST_EN, F.GLOBAL_STRAPS_PMBUS_ADDR, F.GLOBAL_STRAPS_SMB_ADDR]⟩,
   ⟨"GLOBAL_SMB_CFG", 0x34, 0, 1, 0x0, 1, 0x0, [F.GLOBAL_SMB_CFG_WRITE_MASK]⟩,
   ⟨"GLOBAL_SMB_STATUS", 0x38, 0, 1, 0x0, 1, 0x0, [F.GLOBAL_SMB_STATUS_NACKS, F.GLOBAL_SMB_STATUS_PEC_ERRORS]⟩,
   ⟨"GLOBAL_FABRIC", 0x3c, 0, 1, 0x0, 1, 0x0, [F.GLOBAL_FABRIC_EVAL_MAX_US, F.GLOBAL_FABRIC_SLACK_PCT, F.GLOBAL_FABRIC_VFAB_MV]⟩,
   ⟨"WIDE_SEL", 0x40, 0, 4, 0x0, 1, 0x0, [F.WIDE_SEL_ITEM, F.WIDE_SEL_BLOCK, F.WIDE_SEL_DIR]⟩,
   ⟨"WIDE_STATUS", 0x44, 0, 4, 0x0, 1, 0x0, [F.WIDE_STATUS_WIDTH, F.WIDE_STATUS_RESULT, F.WIDE_STATUS_VALID, F.WIDE_STATUS_GEN]⟩,
   ⟨"WIDE_DATA", 0x48, 0, 4, 0x0, 4, 0x4, [F.WIDE_DATA_DATA]⟩,
   ⟨"GLOBAL_UNIT_CTRL", 0x60, 0, 4, 0x0, 1, 0x0, [F.GLOBAL_UNIT_CTRL_UNIT, F.GLOBAL_UNIT_CTRL_OP, F.GLOBAL_UNIT_CTRL_GO]⟩,
   ⟨"GLOBAL_UNIT_RESULT", 0x64, 0, 4, 0x0, 1, 0x0, [F.GLOBAL_UNIT_RESULT_UNIT_STATUS, F.GLOBAL_UNIT_RESULT_CODE, F.GLOBAL_UNIT_RESULT_BUSY]⟩,
   ⟨"GLOBAL_OWNER", 0x80, 0, 6, 0x4, 1, 0x0, [F.GLOBAL_OWNER_OWNER0, F.GLOBAL_OWNER_OWNER1, F.GLOBAL_OWNER_OWNER2, F.GLOBAL_OWNER_OWNER3]⟩,
   ⟨"GLOBAL_GROUP_STATUS", 0xa0, 0, 2, 0x4, 1, 0x0, [F.GLOBAL_GROUP_STATUS_STATUS]⟩,
   ⟨"GLOBAL_SCRATCH", 0xc0, 0, 16, 0x4, 1, 0x0, [F.GLOBAL_SCRATCH_DATA]⟩]
def regsGlobal : List Reg := regsGlobal0 ++ regsGlobal1

def F.CLK_MON_CFG_TOL_PPM : Fld := ⟨48, 0, 16, .RW, (.table [20, 20, 0, 500, 20, 20, 20, 350])⟩
def F.CLK_MON_CFG_MISS : Fld := ⟨49, 16, 8, .RW, (.table [4, 4, 16, 4, 8, 8, 8, 8])⟩
def F.CLK_MON_STATUS_ACTIVE : Fld := ⟨50, 0, 1, .RO, (.const 0)⟩
def F.CLK_MON_STATUS_QUALIFIED : Fld := ⟨51, 1, 1, .RO, (.const 0)⟩
def F.CLK_MON_STATUS_TRIPPED : Fld := ⟨52, 2, 1, .RO, (.const 0)⟩
def F.CLK_MON_STATUS_GATED : Fld := ⟨53, 3, 1, .RO, (.const 0)⟩
def F.CLK_MON_STATUS_AGAINST : Fld := ⟨54, 4, 2, .RO, (.const 0)⟩
def F.CLK_MON_OFFSET_OFFSET : Fld := ⟨55, 0, 32, .RL, (.const 0)⟩
def F.CLK_MON_TRIPS_COUNT : Fld := ⟨56, 0, 32, .RO, (.const 0)⟩
def F.CLK_MUX_STATUS_STALLED : Fld := ⟨57, 0, 1, .RO, (.const 0)⟩
def F.CLK_MUX_STATUS_GATED : Fld := ⟨58, 1, 1, .RO, (.const 1)⟩
def F.CLK_MUX_STATUS_PENDING : Fld := ⟨59, 2, 2, .RO, (.const 0)⟩
def F.CLK_MUX_STATUS_INPUT : Fld := ⟨60, 4, 2, .RO, (.const 0)⟩
def F.CLK_MUX_SWITCHES_COUNT : Fld := ⟨61, 0, 32, .RO, (.const 0)⟩
def F.CLK_MUX_FORCED_COUNT : Fld := ⟨62, 0, 32, .RO, (.const 0)⟩
def F.CLK_MUX_LAST_LEN : Fld := ⟨63, 0, 16, .RO, (.const 0)⟩
def F.CLK_BASE_CFG_AUTO_MOVE : Fld := ⟨64, 0, 1, .RW, (.const 1)⟩
def F.CLK_BASE_CFG_MOVE : Fld := ⟨65, 1, 1, .WT, (.const 0)⟩
def F.CLK_BASE_STATUS_APLL0_LOCKED : Fld := ⟨66, 0, 1, .RO, (.const 0)⟩
def F.CLK_BASE_STATUS_TK_ON_PATH : Fld := ⟨67, 1, 1, .RO, (.const 0)⟩
def F.CLK_BASE_STATUS_MOVING : Fld := ⟨68, 2, 1, .RO, (.const 0)⟩
def F.CLK_BASE_STATUS_MOVE_PENDING : Fld := ⟨69, 3, 1, .RO, (.const 0)⟩
def F.CLK_BASE_STATUS_BASE : Fld := ⟨70, 4, 2, .RO, (.const 0)⟩
def F.CLK_TCXO_STATUS_AMPLITUDE : Fld := ⟨71, 0, 1, .RO, (.const 0)⟩
def F.CLK_TCXO_STATUS_QUALIFIED : Fld := ⟨72, 1, 1, .RO, (.const 0)⟩
def F.CLK_TCXO_STATUS_QUALIFYING : Fld := ⟨73, 2, 1, .RO, (.const 0)⟩
def F.CLK_TCXO_STATUS_RETIRED : Fld := ⟨74, 3, 1, .RO, (.const 0)⟩
def F.CLK_TCXO_STATUS_LAST_FAIL : Fld := ⟨75, 4, 4, .RO, (.const 0)⟩
def F.CLK_TCXO_STATUS_ATTEMPTS : Fld := ⟨76, 8, 4, .RO, (.const 0)⟩
def F.CLK_OCXO_STATUS_STATE : Fld := ⟨77, 0, 4, .RO, (.const 0)⟩
def F.CLK_OCXO_STATUS_LAST_FAIL : Fld := ⟨78, 4, 4, .RO, (.const 0)⟩
def F.CLK_OCXO_STATUS_ATTEMPTS : Fld := ⟨79, 8, 4, .RO, (.const 0)⟩
def F.CLK_OCXO_STATUS_TEMP_SETTLED : Fld := ⟨80, 13, 1, .RO, (.const 0)⟩
def F.CLK_OCXO_STATUS_FREQ_STABLE : Fld := ⟨81, 14, 1, .RO, (.const 0)⟩
def F.CLK_OCXO_STATUS_WARM : Fld := ⟨82, 15, 1, .RO, (.const 0)⟩
def F.CLK_OCXO_CFG_WARM_TIMEOUT_S : Fld := ⟨83, 0, 16, .RW, (.const 900)⟩
def F.CLK_OCXO_WARM_TIME_TIME : Fld := ⟨84, 0, 32, .RO, (.const 0)⟩
def F.CLK_PILOT_FREQ_HZ : Fld := ⟨85, 0, 25, .RL, (.const 0)⟩
def F.CLK_STAGE_CFG_HOLDOFF_S : Fld := ⟨86, 0, 16, .RW, (.const 10)⟩
def F.CLK_STAGE_STATUS_STAGE : Fld := ⟨87, 0, 2, .RO, (.const 0)⟩
def F.CLK_STAGE_STATUS_LAST_DOWN_CAUSE : Fld := ⟨88, 4, 4, .RO, (.const 0)⟩
def F.CLK_STAGE_STATUS_WAIT_REASON : Fld := ⟨89, 8, 8, .RO, (.const 0)⟩
def F.CLK_RESET_CAUSE_CAUSE : Fld := ⟨90, 0, 8, .RO, (.const 1)⟩
def F.CLK_XING_STATUS_STATE : Fld := ⟨91, 0, 2, .RO, (.const 1)⟩
def F.CLK_XING_STATUS_GENERATION : Fld := ⟨92, 8, 8, .RO, (.const 0)⟩
def F.CLK_XING_STATUS_RETIRED_COUNT : Fld := ⟨93, 16, 16, .RO, (.const 0)⟩

/-- The registers of block CLOCKS (R87). -/
def regsClocks0 : List Reg :=
  [⟨"CLK_MON_CFG", 0x10000, 0, 8, 0x10, 1, 0x0, [F.CLK_MON_CFG_TOL_PPM, F.CLK_MON_CFG_MISS]⟩,
   ⟨"CLK_MON_STATUS", 0x10004, 0, 8, 0x10, 1, 0x0, [F.CLK_MON_STATUS_ACTIVE, F.CLK_MON_STATUS_QUALIFIED, F.CLK_MON_STATUS_TRIPPED, F.CLK_MON_STATUS_GATED, F.CLK_MON_STATUS_AGAINST]⟩,
   ⟨"CLK_MON_OFFSET", 0x10008, 0, 8, 0x10, 1, 0x0, [F.CLK_MON_OFFSET_OFFSET]⟩,
   ⟨"CLK_MON_TRIPS", 0x1000c, 0, 8, 0x10, 1, 0x0, [F.CLK_MON_TRIPS_COUNT]⟩,
   ⟨"CLK_MUX_STATUS", 0x10100, 0, 2, 0x10, 1, 0x0, [F.CLK_MUX_STATUS_STALLED, F.CLK_MUX_STATUS_GATED, F.CLK_MUX_STATUS_PENDING, F.CLK_MUX_STATUS_INPUT]⟩,
   ⟨"CLK_MUX_SWITCHES", 0x10104, 0, 2, 0x10, 1, 0x0, [F.CLK_MUX_SWITCHES_COUNT]⟩,
   ⟨"CLK_MUX_FORCED", 0x10108, 0, 2, 0x10, 1, 0x0, [F.CLK_MUX_FORCED_COUNT]⟩,
   ⟨"CLK_MUX_LAST", 0x1010c, 0, 2, 0x10, 1, 0x0, [F.CLK_MUX_LAST_LEN]⟩,
   ⟨"CLK_BASE_CFG", 0x10200, 0, 1, 0x0, 1, 0x0, [F.CLK_BASE_CFG_AUTO_MOVE, F.CLK_BASE_CFG_MOVE]⟩,
   ⟨"CLK_BASE_STATUS", 0x10204, 0, 1, 0x0, 1, 0x0, [F.CLK_BASE_STATUS_APLL0_LOCKED, F.CLK_BASE_STATUS_TK_ON_PATH, F.CLK_BASE_STATUS_MOVING, F.CLK_BASE_STATUS_MOVE_PENDING, F.CLK_BASE_STATUS_BASE]⟩,
   ⟨"CLK_TCXO_STATUS", 0x10208, 0, 1, 0x0, 1, 0x0, [F.CLK_TCXO_STATUS_AMPLITUDE, F.CLK_TCXO_STATUS_QUALIFIED, F.CLK_TCXO_STATUS_QUALIFYING, F.CLK_TCXO_STATUS_RETIRED, F.CLK_TCXO_STATUS_LAST_FAIL, F.CLK_TCXO_STATUS_ATTEMPTS]⟩,
   ⟨"CLK_OCXO_STATUS", 0x1020c, 0, 1, 0x0, 1, 0x0, [F.CLK_OCXO_STATUS_STATE, F.CLK_OCXO_STATUS_LAST_FAIL, F.CLK_OCXO_STATUS_ATTEMPTS, F.CLK_OCXO_STATUS_TEMP_SETTLED, F.CLK_OCXO_STATUS_FREQ_STABLE, F.CLK_OCXO_STATUS_WARM]⟩]
def regsClocks1 : List Reg :=
  [⟨"CLK_OCXO_CFG", 0x10210, 0, 1, 0x0, 1, 0x0, [F.CLK_OCXO_CFG_WARM_TIMEOUT_S]⟩,
   ⟨"CLK_OCXO_WARM_TIME", 0x10214, 0, 1, 0x0, 1, 0x0, [F.CLK_OCXO_WARM_TIME_TIME]⟩,
   ⟨"CLK_PILOT_FREQ", 0x10218, 0, 1, 0x0, 1, 0x0, [F.CLK_PILOT_FREQ_HZ]⟩,
   ⟨"CLK_STAGE_CFG", 0x1021c, 0, 1, 0x0, 1, 0x0, [F.CLK_STAGE_CFG_HOLDOFF_S]⟩,
   ⟨"CLK_STAGE_STATUS", 0x10220, 0, 1, 0x0, 1, 0x0, [F.CLK_STAGE_STATUS_STAGE, F.CLK_STAGE_STATUS_LAST_DOWN_CAUSE, F.CLK_STAGE_STATUS_WAIT_REASON]⟩,
   ⟨"CLK_RESET_CAUSE", 0x10224, 0, 1, 0x0, 1, 0x0, [F.CLK_RESET_CAUSE_CAUSE]⟩,
   ⟨"CLK_XING_STATUS", 0x10300, 0, 14, 0x4, 1, 0x0, [F.CLK_XING_STATUS_STATE, F.CLK_XING_STATUS_GENERATION, F.CLK_XING_STATUS_RETIRED_COUNT]⟩]
def regsClocks : List Reg := regsClocks0 ++ regsClocks1

def F.IN_CFG_MODE : Fld := ⟨94, 4, 1, .RW, (.const 0)⟩
def F.IN_CFG_TERM : Fld := ⟨95, 5, 1, .RW, (.const 1)⟩
def F.IN_CFG_SLOPE : Fld := ⟨96, 6, 2, .RW, (.const 0)⟩
def F.IN_CFG_HYST : Fld := ⟨97, 8, 2, .RW, (.const 1)⟩
def F.IN_LEVEL_DIFF_OFFSET_MV : Fld := ⟨98, 0, 8, .RW, (.const 0)⟩
def F.IN_LEVEL_THRESH_MV : Fld := ⟨99, 16, 12, .RW, (.const 1250)⟩
def F.IN_FILTER_MIN_WIDTH : Fld := ⟨100, 0, 8, .RW, (.const 0)⟩
def F.IN_FILTER_GLITCHES : Fld := ⟨101, 16, 16, .RO, (.const 0)⟩
def F.IN_STATUS_ON : Fld := ⟨102, 0, 1, .RO, (.const 0)⟩
def F.IN_STATUS_ACTIVE : Fld := ⟨103, 1, 1, .RO, (.const 0)⟩
def F.IN_STATUS_LEVEL : Fld := ⟨104, 2, 1, .RO, (.const 0)⟩
def F.IN_STATUS_OVERRANGE : Fld := ⟨105, 3, 1, .RO, (.const 0)⟩
def F.IN_EDGES_COUNT : Fld := ⟨106, 0, 32, .RO, (.const 0)⟩
def F.IN_DC_N_MV : Fld := ⟨107, 0, 16, .RL, (.const 0)⟩
def F.IN_DC_P_MV : Fld := ⟨108, 16, 16, .RL, (.const 0)⟩
def F.IN_PATH_DELAY_DELAY : Fld := ⟨109, 0, 32, .RO, (.const 0)⟩

/-- The registers of block INPUTS (R111). -/
def regsInputs : List Reg :=
  [⟨"IN_CFG", 0x20000, 0, 16, 0x40, 1, 0x0, [F.IN_CFG_MODE, F.IN_CFG_TERM, F.IN_CFG_SLOPE, F.IN_CFG_HYST]⟩,
   ⟨"IN_LEVEL", 0x20004, 0, 16, 0x40, 1, 0x0, [F.IN_LEVEL_DIFF_OFFSET_MV, F.IN_LEVEL_THRESH_MV]⟩,
   ⟨"IN_FILTER", 0x20008, 0, 16, 0x40, 1, 0x0, [F.IN_FILTER_MIN_WIDTH, F.IN_FILTER_GLITCHES]⟩,
   ⟨"IN_STATUS", 0x2000c, 0, 16, 0x40, 1, 0x0, [F.IN_STATUS_ON, F.IN_STATUS_ACTIVE, F.IN_STATUS_LEVEL, F.IN_STATUS_OVERRANGE]⟩,
   ⟨"IN_EDGES", 0x20010, 0, 16, 0x40, 1, 0x0, [F.IN_EDGES_COUNT]⟩,
   ⟨"IN_DC", 0x20014, 0, 16, 0x40, 1, 0x0, [F.IN_DC_N_MV, F.IN_DC_P_MV]⟩,
   ⟨"IN_PATH_DELAY", 0x20020, 0, 16, 0x40, 8, 0x4, [F.IN_PATH_DELAY_DELAY]⟩]

def F.TDC_CH_CFG_ENABLE : Fld := ⟨110, 0, 1, .RW, (.const 0)⟩
def F.TDC_CH_CFG_STREAM : Fld := ⟨111, 1, 1, .RW, (.const 0)⟩
def F.TDC_CH_CFG_PRESCALE : Fld := ⟨112, 4, 4, .RW, (.const 0)⟩
def F.TDC_CH_CFG_GATE_LOG : Fld := ⟨113, 8, 3, .RW, (.const 3)⟩
def F.TDC_CH_CFG_DECIM : Fld := ⟨114, 12, 4, .RW, (.const 0)⟩
def F.TDC_CH_NOM_INT_HZ : Fld := ⟨115, 0, 31, .PR, (.const 0)⟩
def F.TDC_CH_NOM_INT_TAG : Fld := ⟨116, 31, 1, .PR, (.const 0)⟩
def F.TDC_CH_NOM_FRAC_FRAC : Fld := ⟨117, 0, 31, .PR, (.const 0)⟩
def F.TDC_CH_NOM_FRAC_TAG : Fld := ⟨118, 31, 1, .PR, (.const 0)⟩
def F.TDC_CH_DELAY_DELAY : Fld := ⟨119, 0, 32, .RW, (.const 0)⟩
def F.TDC_CH_STATUS_SOURCE_PRESENT : Fld := ⟨120, 0, 1, .RO, (.const 0)⟩
def F.TDC_CH_STATUS_ACTIVE : Fld := ⟨121, 1, 1, .RO, (.const 0)⟩
def F.TDC_CH_STATUS_RUNNING : Fld := ⟨122, 2, 1, .RO, (.const 0)⟩
def F.TDC_CH_STATUS_LINE : Fld := ⟨123, 3, 1, .RO, (.const 0)⟩
def F.TDC_CH_STATUS_DEGRADED : Fld := ⟨124, 4, 1, .RO, (.const 0)⟩
def F.TDC_CH_STATUS_DROPPING : Fld := ⟨125, 5, 1, .RO, (.const 0)⟩
def F.TDC_CH_STATUS_STALLED : Fld := ⟨126, 6, 1, .RO, (.const 0)⟩
def F.TDC_CH_STATUS_RATE_OVER : Fld := ⟨127, 7, 1, .RO, (.const 0)⟩
def F.TDC_CH_STAMPS_COUNT : Fld := ⟨128, 0, 32, .RO, (.const 0)⟩
def F.TDC_CH_OVERRUN_COUNT : Fld := ⟨129, 0, 32, .RO, (.const 0)⟩
def F.TDC_CH_SKIPS_COUNT : Fld := ⟨130, 0, 32, .RO, (.const 0)⟩
def F.TDC_CH_FIFO_LEVEL : Fld := ⟨131, 0, 8, .RO, (.const 0)⟩
def F.TDC_CH_FIFO_HIGH_WATER : Fld := ⟨132, 8, 8, .RO, (.const 0)⟩
def F.TDC_CH_BIN_BIN : Fld := ⟨133, 0, 16, .RL, (.const 0)⟩
def F.TDC_CH_BIN_TAPS : Fld := ⟨134, 16, 10, .RL, (.const 0)⟩
def F.TDC_CH_CAL_VALID : Fld := ⟨135, 0, 1, .RO, (.const 0)⟩
def F.TDC_CH_CAL_FULL : Fld := ⟨136, 1, 1, .RO, (.const 0)⟩
def F.TDC_CH_CAL_FAILED : Fld := ⟨137, 2, 1, .RO, (.const 0)⟩
def F.TDC_CH_CAL_DNL_MAX : Fld := ⟨138, 16, 8, .RL, (.const 0)⟩
def F.TDC_CH_CAL_INL_MAX : Fld := ⟨139, 24, 8, .RL, (.const 0)⟩
def F.TDC_CH_RATE_RATE : Fld := ⟨140, 0, 32, .RL, (.const 0)⟩
def F.EST_CFG_CHANNEL : Fld := ⟨141, 0, 5, .RW, (.const 0)⟩
def F.EST_CFG_CONTINUOUS : Fld := ⟨142, 8, 1, .RW, (.const 0)⟩
def F.EST_CFG_EVENT : Fld := ⟨143, 9, 1, .RW, (.const 0)⟩
def F.EST_CFG_DECIM : Fld := ⟨144, 12, 4, .RW, (.const 0)⟩
def F.EST_GATE_GATE_MS : Fld := ⟨145, 0, 32, .RW, (.const 1000)⟩
def F.EST_CTRL_START : Fld := ⟨146, 0, 1, .WT, (.const 0)⟩
def F.EST_CTRL_STOP : Fld := ⟨147, 1, 1, .WT, (.const 0)⟩
def F.EST_STATUS_INCOMPLETE : Fld := ⟨148, 0, 1, .RO, (.const 0)⟩
def F.EST_STATUS_DEGRADED : Fld := ⟨149, 1, 1, .RO, (.const 0)⟩
def F.EST_STATUS_CAPPED : Fld := ⟨150, 2, 1, .RO, (.const 0)⟩
def F.EST_STATUS_RESULT : Fld := ⟨151, 8, 4, .RO, (.const 0)⟩
def F.EST_STATUS_STATE : Fld := ⟨152, 12, 2, .RO, (.const 0)⟩
def F.EST_COUNT_N : Fld := ⟨153, 0, 32, .RO, (.const 0)⟩
def F.EST_OFFSET_OFFSET : Fld := ⟨154, 0, 32, .RO, (.const 0)⟩
def F.EST_RESID_RESID : Fld := ⟨155, 0, 32, .RO, (.const 0)⟩
def F.EST_SEQ_SEQ : Fld := ⟨156, 0, 32, .RO, (.const 0)⟩
def F.TAKE_CFG_START : Fld := ⟨157, 0, 5, .RW, (.const 0)⟩
def F.TAKE_CFG_STOP : Fld := ⟨158, 8, 5, .RW, (.const 0)⟩
def F.TAKE_CFG_MODE : Fld := ⟨159, 26, 1, .RW, (.const 0)⟩
def F.TAKE_CFG_SOURCE : Fld := ⟨160, 27, 2, .RW, (.const 0)⟩
def F.TAKE_CFG_POLARITY : Fld := ⟨161, 29, 1, .RW, (.const 0)⟩
def F.TAKE_CFG_LEVEL : Fld := ⟨162, 30, 1, .RW, (.const 0)⟩
def F.TAKE_CFG_REPEAT : Fld := ⟨163, 31, 1, .RW, (.const 0)⟩
def F.TAKE_MASK_CHANNELS : Fld := ⟨164, 0, 28, .RW, (.const 0)⟩
def F.TAKE_GATE_GATE_MS : Fld := ⟨165, 0, 32, .RW, (.const 1000)⟩
def F.TAKE_WINDOW_WINDOW_PS : Fld := ⟨166, 0, 24, .RW, (.const 1000)⟩
def F.TAKE_CTRL_ARM : Fld := ⟨167, 0, 1, .WT, (.const 0)⟩
def F.TAKE_CTRL_ABORT : Fld := ⟨168, 1, 1, .WT, (.const 0)⟩
def F.TAKE_STATUS_INCOMPLETE : Fld := ⟨169, 0, 1, .RO, (.const 0)⟩
def F.TAKE_STATUS_DEGRADED : Fld := ⟨170, 1, 1, .RO, (.const 0)⟩
def F.TAKE_STATUS_ORDER_SEEN : Fld := ⟨171, 2, 1, .RO, (.const 0)⟩
def F.TAKE_STATUS_SUB_BIN_SEEN : Fld := ⟨172, 3, 1, .RO, (.const 0)⟩
def F.TAKE_STATUS_RESULT : Fld := ⟨173, 8, 4, .RO, (.const 0)⟩
def F.TAKE_STATUS_STATE : Fld := ⟨174, 14, 2, .RO, (.const 0)⟩
def F.TAKE_STATUS_DISCARDS : Fld := ⟨175, 16, 16, .RO, (.const 0)⟩
def F.TAKE_COUNT_RECORDS : Fld := ⟨176, 0, 32, .RO, (.const 0)⟩
def F.TDC_CAL_CFG_HITS_LOG : Fld := ⟨177, 0, 5, .RW, (.const 20)⟩
def F.TDC_CAL_CFG_HOLD : Fld := ⟨178, 31, 1, .RW, (.const 0)⟩
def F.TDC_STATUS_OVERCOMMIT : Fld := ⟨179, 0, 1, .RO, (.const 0)⟩
def F.TDC_STATUS_CHAN_OVER : Fld := ⟨180, 1, 1, .RO, (.const 0)⟩
def F.TDC_STATUS_REEL_BAD : Fld := ⟨181, 2, 1, .RO, (.const 0)⟩
def F.TDC_STATUS_LOAD_M : Fld := ⟨182, 16, 10, .RO, (.const 0)⟩
def F.TDC_LOOP_SEL_LOOP0_SRC : Fld := ⟨183, 0, 8, .RW, (.const 255)⟩
def F.TDC_LOOP_SEL_LOOP1_SRC : Fld := ⟨184, 8, 8, .RW, (.const 255)⟩
def F.TDC_STREAM_CFG_REEL : Fld := ⟨185, 0, 6, .RW, (.const 0)⟩
def F.TDC_STREAM_CFG_ENABLE : Fld := ⟨186, 8, 1, .RW, (.const 0)⟩

/-- The registers of block TDC (R112). -/
def regsTdc0 : List Reg :=
  [⟨"TDC_CH_CFG", 0x30000, 0, 28, 0x40, 1, 0x0, [F.TDC_CH_CFG_ENABLE, F.TDC_CH_CFG_STREAM, F.TDC_CH_CFG_PRESCALE, F.TDC_CH_CFG_GATE_LOG, F.TDC_CH_CFG_DECIM]⟩,
   ⟨"TDC_CH_NOM_INT", 0x30004, 0, 28, 0x40, 1, 0x0, [F.TDC_CH_NOM_INT_HZ, F.TDC_CH_NOM_INT_TAG]⟩,
   ⟨"TDC_CH_NOM_FRAC", 0x30008, 0, 28, 0x40, 1, 0x0, [F.TDC_CH_NOM_FRAC_FRAC, F.TDC_CH_NOM_FRAC_TAG]⟩,
   ⟨"TDC_CH_DELAY", 0x3000c, 0, 28, 0x40, 1, 0x0, [F.TDC_CH_DELAY_DELAY]⟩,
   ⟨"TDC_CH_STATUS", 0x30010, 0, 28, 0x40, 1, 0x0, [F.TDC_CH_STATUS_SOURCE_PRESENT, F.TDC_CH_STATUS_ACTIVE, F.TDC_CH_STATUS_RUNNING, F.TDC_CH_STATUS_LINE, F.TDC_CH_STATUS_DEGRADED, F.TDC_CH_STATUS_DROPPING, F.TDC_CH_STATUS_STALLED, F.TDC_CH_STATUS_RATE_OVER]⟩,
   ⟨"TDC_CH_STAMPS", 0x30014, 0, 28, 0x40, 1, 0x0, [F.TDC_CH_STAMPS_COUNT]⟩,
   ⟨"TDC_CH_OVERRUN", 0x30018, 0, 28, 0x40, 1, 0x0, [F.TDC_CH_OVERRUN_COUNT]⟩,
   ⟨"TDC_CH_SKIPS", 0x3001c, 0, 28, 0x40, 1, 0x0, [F.TDC_CH_SKIPS_COUNT]⟩,
   ⟨"TDC_CH_FIFO", 0x30020, 0, 28, 0x40, 1, 0x0, [F.TDC_CH_FIFO_LEVEL, F.TDC_CH_FIFO_HIGH_WATER]⟩,
   ⟨"TDC_CH_BIN", 0x30024, 0, 28, 0x40, 1, 0x0, [F.TDC_CH_BIN_BIN, F.TDC_CH_BIN_TAPS]⟩,
   ⟨"TDC_CH_CAL", 0x30028, 0, 28, 0x40, 1, 0x0, [F.TDC_CH_CAL_VALID, F.TDC_CH_CAL_FULL, F.TDC_CH_CAL_FAILED, F.TDC_CH_CAL_DNL_MAX, F.TDC_CH_CAL_INL_MAX]⟩,
   ⟨"TDC_CH_RATE", 0x3002c, 0, 28, 0x40, 1, 0x0, [F.TDC_CH_RATE_RATE]⟩]
def regsTdc1 : List Reg :=
  [⟨"EST_CFG", 0x31000, 0, 4, 0x20, 1, 0x0, [F.EST_CFG_CHANNEL, F.EST_CFG_CONTINUOUS, F.EST_CFG_EVENT, F.EST_CFG_DECIM]⟩,
   ⟨"EST_GATE", 0x31004, 0, 4, 0x20, 1, 0x0, [F.EST_GATE_GATE_MS]⟩,
   ⟨"EST_CTRL", 0x31008, 0, 4, 0x20, 1, 0x0, [F.EST_CTRL_START, F.EST_CTRL_STOP]⟩,
   ⟨"EST_STATUS", 0x3100c, 0, 4, 0x20, 1, 0x0, [F.EST_STATUS_INCOMPLETE, F.EST_STATUS_DEGRADED, F.EST_STATUS_CAPPED, F.EST_STATUS_RESULT, F.EST_STATUS_STATE]⟩,
   ⟨"EST_COUNT", 0x31010, 0, 4, 0x20, 1, 0x0, [F.EST_COUNT_N]⟩,
   ⟨"EST_OFFSET", 0x31014, 0, 4, 0x20, 1, 0x0, [F.EST_OFFSET_OFFSET]⟩,
   ⟨"EST_RESID", 0x31018, 0, 4, 0x20, 1, 0x0, [F.EST_RESID_RESID]⟩,
   ⟨"EST_SEQ", 0x3101c, 0, 4, 0x20, 1, 0x0, [F.EST_SEQ_SEQ]⟩,
   ⟨"TAKE_CFG", 0x31100, 0, 4, 0x20, 1, 0x0, [F.TAKE_CFG_START, F.TAKE_CFG_STOP, F.TAKE_CFG_MODE, F.TAKE_CFG_SOURCE, F.TAKE_CFG_POLARITY, F.TAKE_CFG_LEVEL, F.TAKE_CFG_REPEAT]⟩,
   ⟨"TAKE_MASK", 0x31104, 0, 4, 0x20, 1, 0x0, [F.TAKE_MASK_CHANNELS]⟩,
   ⟨"TAKE_GATE", 0x31108, 0, 4, 0x20, 1, 0x0, [F.TAKE_GATE_GATE_MS]⟩,
   ⟨"TAKE_WINDOW", 0x3110c, 0, 4, 0x20, 1, 0x0, [F.TAKE_WINDOW_WINDOW_PS]⟩]
def regsTdc2 : List Reg :=
  [⟨"TAKE_CTRL", 0x31110, 0, 4, 0x20, 1, 0x0, [F.TAKE_CTRL_ARM, F.TAKE_CTRL_ABORT]⟩,
   ⟨"TAKE_STATUS", 0x31114, 0, 4, 0x20, 1, 0x0, [F.TAKE_STATUS_INCOMPLETE, F.TAKE_STATUS_DEGRADED, F.TAKE_STATUS_ORDER_SEEN, F.TAKE_STATUS_SUB_BIN_SEEN, F.TAKE_STATUS_RESULT, F.TAKE_STATUS_STATE, F.TAKE_STATUS_DISCARDS]⟩,
   ⟨"TAKE_COUNT", 0x31118, 0, 4, 0x20, 1, 0x0, [F.TAKE_COUNT_RECORDS]⟩,
   ⟨"TDC_CAL_CFG", 0x31200, 0, 1, 0x0, 1, 0x0, [F.TDC_CAL_CFG_HITS_LOG, F.TDC_CAL_CFG_HOLD]⟩,
   ⟨"TDC_STATUS", 0x31204, 0, 1, 0x0, 1, 0x0, [F.TDC_STATUS_OVERCOMMIT, F.TDC_STATUS_CHAN_OVER, F.TDC_STATUS_REEL_BAD, F.TDC_STATUS_LOAD_M]⟩,
   ⟨"TDC_LOOP_SEL", 0x31208, 0, 1, 0x0, 1, 0x0, [F.TDC_LOOP_SEL_LOOP0_SRC, F.TDC_LOOP_SEL_LOOP1_SRC]⟩,
   ⟨"TDC_STREAM_CFG", 0x3120c, 0, 1, 0x0, 1, 0x0, [F.TDC_STREAM_CFG_REEL, F.TDC_STREAM_CFG_ENABLE]⟩]
def regsTdc : List Reg := regsTdc0 ++ regsTdc1 ++ regsTdc2

def F.QM_CFG_ENABLE : Fld := ⟨187, 0, 1, .RW, (.const 0)⟩
def F.QM_CFG_CLASS : Fld := ⟨188, 2, 1, .RW, (.const 0)⟩
def F.QM_CFG_VOTE : Fld := ⟨189, 3, 1, .RW, (.const 1)⟩
def F.QM_CFG_ARR_WIN : Fld := ⟨190, 5, 3, .RW, (.const 4)⟩
def F.QM_CFG_MISS : Fld := ⟨191, 8, 8, .RW, (.const 2)⟩
def F.QM_CFG_HYST : Fld := ⟨192, 16, 4, .RW, (.const 4)⟩
def F.QM_CFG_VALID_S : Fld := ⟨193, 20, 4, .RW, (.const 3)⟩
def F.QM_CFG_QL_FIXED : Fld := ⟨194, 24, 8, .RW, (.const 0)⟩
def F.QM_SOFT_SOFT : Fld := ⟨195, 0, 32, .PR, (.const 0x186a0)⟩
def F.QM_HARD_HARD : Fld := ⟨196, 0, 32, .PR, (.const 0x4630c0)⟩
def F.QM_LIMITS_PHASE_HIT : Fld := ⟨197, 0, 16, .RW, (.const 0)⟩
def F.QM_LIMITS_DRIFT_LIM : Fld := ⟨198, 16, 16, .RW, (.const 0)⟩
def F.QM_STATUS_STATE : Fld := ⟨199, 0, 3, .RO, (.const 0)⟩
def F.QM_STATUS_ESSM : Fld := ⟨200, 3, 1, .RO, (.const 0)⟩
def F.QM_STATUS_FROZEN : Fld := ⟨201, 8, 1, .RO, (.const 0)⟩
def F.QM_STATUS_VOTING : Fld := ⟨202, 9, 1, .RO, (.const 0)⟩
def F.QM_STATUS_HIT_BLIND : Fld := ⟨203, 10, 1, .RO, (.const 0)⟩
def F.QM_STATUS_CAUSE : Fld := ⟨204, 11, 4, .RO, (.const 0)⟩
def F.QM_STATUS_CAUSES : Fld := ⟨205, 15, 9, .RO, (.const 0)⟩
def F.QM_STATUS_RAW_QL : Fld := ⟨206, 24, 8, .RO, (.const 0)⟩
def F.QM_COUNTS_IN_WINDOW : Fld := ⟨207, 0, 4, .RO, (.const 0)⟩
def F.QM_COUNTS_PHASE_HITS : Fld := ⟨208, 8, 8, .RO, (.const 0)⟩
def F.QM_COUNTS_TRANSIENTS : Fld := ⟨209, 16, 16, .RO, (.const 0)⟩
def F.QUAL_VOTE_CFG_MIN_VOTERS : Fld := ⟨210, 0, 4, .RW, (.const 2)⟩
def F.QUAL_VOTE_CFG_PHASE_THRESH : Fld := ⟨211, 4, 12, .RW, (.const 100)⟩
def F.QUAL_VOTE_CFG_FREQ_THRESH : Fld := ⟨212, 16, 16, .RW, (.const 20)⟩
def F.QUAL_VOTE_STATUS_FREQ_MAJORITY : Fld := ⟨213, 0, 1, .RO, (.const 0)⟩
def F.QUAL_VOTE_STATUS_PHASE_MAJORITY : Fld := ⟨214, 1, 1, .RO, (.const 0)⟩
def F.QUAL_VOTE_STATUS_PHASE_VOTERS : Fld := ⟨215, 8, 8, .RO, (.const 0)⟩
def F.QUAL_VOTE_STATUS_FREQ_VOTERS : Fld := ⟨216, 16, 8, .RO, (.const 0)⟩
def F.QUAL_VOTE_STATUS_LAST_OUTVOTED : Fld := ⟨217, 24, 8, .RO, (.const 255)⟩
def F.QUAL_RETRY_CFG_MAX_RETRIES : Fld := ⟨218, 0, 4, .RW, (.const 3)⟩
def F.QUAL_RETRY_CFG_WINDOW_S : Fld := ⟨219, 16, 8, .RW, (.const 10)⟩
def F.QUAL_RETRY_CFG_HOLDOFF_S : Fld := ⟨220, 24, 8, .RW, (.const 1)⟩
def F.QUAL_QL_CFG_DNU_FAIL : Fld := ⟨221, 0, 1, .RW, (.const 1)⟩
def F.QUAL_QL_CFG_ESMC_TIMEOUT_S : Fld := ⟨222, 8, 8, .RW, (.const 5)⟩
def F.QUAL_QL_CFG_CLASS_MAX : Fld := ⟨223, 24, 8, .RW, (.const 165)⟩
def F.QUAL_RETIRE_CFG_PERSIST : Fld := ⟨224, 0, 1, .RW, (.const 1)⟩
def F.QUAL_RETIRE_STATUS_CONFLICT : Fld := ⟨225, 0, 1, .RO, (.const 0)⟩
def F.QUAL_RETIRE_STATUS_COMMIT_PENDING : Fld := ⟨226, 1, 1, .RO, (.const 0)⟩
def F.QUAL_RETIRE_STATUS_ENTRIES : Fld := ⟨227, 8, 8, .RO, (.const 0)⟩
def F.QUAL_RETIRE_STATUS_LIST_SEQ : Fld := ⟨228, 16, 16, .RO, (.const 0)⟩
def F.QUAL_FREEZES_COUNT : Fld := ⟨229, 0, 32, .RO, (.const 0)⟩
def F.QUAL_SUMMARY_RETIRED : Fld := ⟨230, 0, 8, .RO, (.const 0)⟩
def F.QUAL_SUMMARY_FAILED : Fld := ⟨231, 8, 8, .RO, (.const 0)⟩
def F.QUAL_SUMMARY_SUSPECT : Fld := ⟨232, 16, 8, .RO, (.const 0)⟩
def F.QUAL_SUMMARY_QUALIFIED : Fld := ⟨233, 24, 8, .RO, (.const 0)⟩
def F.QUAL_MAP_MONITORS : Fld := ⟨234, 0, 32, .RO, (.const 0)⟩

/-- The registers of block QUAL (R130). -/
def regsQual0 : List Reg :=
  [⟨"QM_CFG", 0x40000, 0, 44, 0x20, 1, 0x0, [F.QM_CFG_ENABLE, F.QM_CFG_CLASS, F.QM_CFG_VOTE, F.QM_CFG_ARR_WIN, F.QM_CFG_MISS, F.QM_CFG_HYST, F.QM_CFG_VALID_S, F.QM_CFG_QL_FIXED]⟩,
   ⟨"QM_SOFT", 0x40004, 0, 44, 0x20, 1, 0x0, [F.QM_SOFT_SOFT]⟩,
   ⟨"QM_HARD", 0x40008, 0, 44, 0x20, 1, 0x0, [F.QM_HARD_HARD]⟩,
   ⟨"QM_LIMITS", 0x4000c, 0, 44, 0x20, 1, 0x0, [F.QM_LIMITS_PHASE_HIT, F.QM_LIMITS_DRIFT_LIM]⟩,
   ⟨"QM_STATUS", 0x40010, 0, 44, 0x20, 1, 0x0, [F.QM_STATUS_STATE, F.QM_STATUS_ESSM, F.QM_STATUS_FROZEN, F.QM_STATUS_VOTING, F.QM_STATUS_HIT_BLIND, F.QM_STATUS_CAUSE, F.QM_STATUS_CAUSES, F.QM_STATUS_RAW_QL]⟩,
   ⟨"QM_COUNTS", 0x40014, 0, 44, 0x20, 1, 0x0, [F.QM_COUNTS_IN_WINDOW, F.QM_COUNTS_PHASE_HITS, F.QM_COUNTS_TRANSIENTS]⟩,
   ⟨"QUAL_VOTE_CFG", 0x41000, 0, 1, 0x0, 1, 0x0, [F.QUAL_VOTE_CFG_MIN_VOTERS, F.QUAL_VOTE_CFG_PHASE_THRESH, F.QUAL_VOTE_CFG_FREQ_THRESH]⟩,
   ⟨"QUAL_VOTE_STATUS", 0x41004, 0, 1, 0x0, 1, 0x0, [F.QUAL_VOTE_STATUS_FREQ_MAJORITY, F.QUAL_VOTE_STATUS_PHASE_MAJORITY, F.QUAL_VOTE_STATUS_PHASE_VOTERS, F.QUAL_VOTE_STATUS_FREQ_VOTERS, F.QUAL_VOTE_STATUS_LAST_OUTVOTED]⟩,
   ⟨"QUAL_RETRY_CFG", 0x41008, 0, 1, 0x0, 1, 0x0, [F.QUAL_RETRY_CFG_MAX_RETRIES, F.QUAL_RETRY_CFG_WINDOW_S, F.QUAL_RETRY_CFG_HOLDOFF_S]⟩,
   ⟨"QUAL_QL_CFG", 0x4100c, 0, 1, 0x0, 1, 0x0, [F.QUAL_QL_CFG_DNU_FAIL, F.QUAL_QL_CFG_ESMC_TIMEOUT_S, F.QUAL_QL_CFG_CLASS_MAX]⟩,
   ⟨"QUAL_RETIRE_CFG", 0x41010, 0, 1, 0x0, 1, 0x0, [F.QUAL_RETIRE_CFG_PERSIST]⟩,
   ⟨"QUAL_RETIRE_STATUS", 0x41014, 0, 1, 0x0, 1, 0x0, [F.QUAL_RETIRE_STATUS_CONFLICT, F.QUAL_RETIRE_STATUS_COMMIT_PENDING, F.QUAL_RETIRE_STATUS_ENTRIES, F.QUAL_RETIRE_STATUS_LIST_SEQ]⟩]
def regsQual1 : List Reg :=
  [⟨"QUAL_FREEZES", 0x41018, 0, 1, 0x0, 1, 0x0, [F.QUAL_FREEZES_COUNT]⟩,
   ⟨"QUAL_SUMMARY", 0x4101c, 0, 1, 0x0, 1, 0x0, [F.QUAL_SUMMARY_RETIRED, F.QUAL_SUMMARY_FAILED, F.QUAL_SUMMARY_SUSPECT, F.QUAL_SUMMARY_QUALIFIED]⟩,
   ⟨"QUAL_MAP", 0x41020, 0, 8, 0x4, 1, 0x0, [F.QUAL_MAP_MONITORS]⟩]
def regsQual : List Reg := regsQual0 ++ regsQual1

def F.TREE_NODE_CFG_ENABLE : Fld := ⟨235, 0, 1, .RW, (.const 0)⟩
def F.TREE_NODE_CFG_KIND : Fld := ⟨236, 1, 1, .RW, (.const 0)⟩
def F.TREE_NODE_CFG_CLASS : Fld := ⟨237, 2, 1, .RW, (.const 0)⟩
def F.TREE_NODE_CFG_REVERTIVE : Fld := ⟨238, 8, 1, .RW, (.const 1)⟩
def F.TREE_NODE_CFG_QL_MODE : Fld := ⟨239, 9, 1, .RW, (.const 1)⟩
def F.TREE_NODE_CFG_REENTRY : Fld := ⟨240, 10, 2, .RW, (.const 0)⟩
def F.TREE_NODE_CFG_WTR_IDLE_SKIP : Fld := ⟨241, 12, 1, .RW, (.const 0)⟩
def F.TREE_NODE_CFG_FORCE_CHILD : Fld := ⟨242, 13, 2, .RW, (.const 0)⟩
def F.TREE_NODE_CFG_FORCE_EN : Fld := ⟨243, 15, 1, .RW, (.const 0)⟩
def F.TREE_NODE_CFG_WTR : Fld := ⟨244, 16, 8, .RW, (.const 60)⟩
def F.TREE_NODE_CFG_MEM_LOG : Fld := ⟨245, 24, 4, .RW, (.const 6)⟩
def F.TREE_NODE_CFG_TAU_LOG : Fld := ⟨246, 28, 4, .RW, (.const 4)⟩
def F.TREE_NODE_LINK0_CODE0 : Fld := ⟨247, 0, 8, .PR, (.const 127)⟩
def F.TREE_NODE_LINK0_LOCK0 : Fld := ⟨248, 11, 1, .PR, (.const 0)⟩
def F.TREE_NODE_LINK0_PRIO0 : Fld := ⟨249, 12, 4, .PR, (.const 8)⟩
def F.TREE_NODE_LINK0_CODE1 : Fld := ⟨250, 16, 8, .PR, (.const 127)⟩
def F.TREE_NODE_LINK0_LOCK1 : Fld := ⟨251, 26, 1, .PR, (.const 0)⟩
def F.TREE_NODE_LINK0_PRIO1 : Fld := ⟨252, 27, 4, .PR, (.const 8)⟩
def F.TREE_NODE_LINK0_TAG : Fld := ⟨253, 31, 1, .PR, (.const 0)⟩
def F.TREE_NODE_LINK1_CODE2 : Fld := ⟨254, 0, 8, .PR, (.const 127)⟩
def F.TREE_NODE_LINK1_LOCK2 : Fld := ⟨255, 11, 1, .PR, (.const 0)⟩
def F.TREE_NODE_LINK1_PRIO2 : Fld := ⟨256, 12, 4, .PR, (.const 8)⟩
def F.TREE_NODE_LINK1_CODE3 : Fld := ⟨257, 16, 8, .PR, (.const 127)⟩
def F.TREE_NODE_LINK1_LOCK3 : Fld := ⟨258, 26, 1, .PR, (.const 0)⟩
def F.TREE_NODE_LINK1_PRIO3 : Fld := ⟨259, 27, 4, .PR, (.const 8)⟩
def F.TREE_NODE_LINK1_TAG : Fld := ⟨260, 31, 1, .PR, (.const 0)⟩
def F.TREE_NODE_STATUS_CONTRIB : Fld := ⟨261, 0, 4, .RO, (.const 0)⟩
def F.TREE_NODE_STATUS_WTR_RUNNING : Fld := ⟨262, 4, 4, .RO, (.const 0)⟩
def F.TREE_NODE_STATUS_PENDING : Fld := ⟨263, 8, 1, .RO, (.const 0)⟩
def F.TREE_NODE_STATUS_FORCE_BLOCKED : Fld := ⟨264, 9, 1, .RO, (.const 0)⟩
def F.TREE_NODE_STATUS_PAIR_MISMATCH : Fld := ⟨265, 10, 1, .RO, (.const 0)⟩
def F.TREE_NODE_STATUS_TRACEABLE : Fld := ⟨266, 11, 1, .RO, (.const 0)⟩
def F.TREE_NODE_STATUS_CLASS : Fld := ⟨267, 12, 1, .RO, (.const 0)⟩
def F.TREE_NODE_STATUS_LEVEL : Fld := ⟨268, 13, 4, .RO, (.const 0)⟩
def F.TREE_NODE_STATUS_REASON : Fld := ⟨269, 17, 4, .RO, (.const 0)⟩
def F.TREE_NODE_STATUS_STATE : Fld := ⟨270, 21, 3, .RO, (.const 0)⟩
def F.TREE_NODE_STATUS_QL : Fld := ⟨271, 24, 8, .RO, (.const 0)⟩

/-- The registers of block TREE (R155). -/
def regsTree : List Reg :=
  [⟨"TREE_NODE_CFG", 0x50000, 0, 128, 0x10, 1, 0x0, [F.TREE_NODE_CFG_ENABLE, F.TREE_NODE_CFG_KIND, F.TREE_NODE_CFG_CLASS, F.TREE_NODE_CFG_REVERTIVE, F.TREE_NODE_CFG_QL_MODE, F.TREE_NODE_CFG_REENTRY, F.TREE_NODE_CFG_WTR_IDLE_SKIP, F.TREE_NODE_CFG_FORCE_CHILD, F.TREE_NODE_CFG_FORCE_EN, F.TREE_NODE_CFG_WTR, F.TREE_NODE_CFG_MEM_LOG, F.TREE_NODE_CFG_TAU_LOG]⟩,
   ⟨"TREE_NODE_LINK0", 0x50004, 0, 128, 0x10, 1, 0x0, [F.TREE_NODE_LINK0_CODE0, F.TREE_NODE_LINK0_LOCK0, F.TREE_NODE_LINK0_PRIO0, F.TREE_NODE_LINK0_CODE1, F.TREE_NODE_LINK0_LOCK1, F.TREE_NODE_LINK0_PRIO1, F.TREE_NODE_LINK0_TAG]⟩,
   ⟨"TREE_NODE_LINK1", 0x50008, 0, 128, 0x10, 1, 0x0, [F.TREE_NODE_LINK1_CODE2, F.TREE_NODE_LINK1_LOCK2, F.TREE_NODE_LINK1_PRIO2, F.TREE_NODE_LINK1_CODE3, F.TREE_NODE_LINK1_LOCK3, F.TREE_NODE_LINK1_PRIO3, F.TREE_NODE_LINK1_TAG]⟩,
   ⟨"TREE_NODE_STATUS", 0x5000c, 0, 128, 0x10, 1, 0x0, [F.TREE_NODE_STATUS_CONTRIB, F.TREE_NODE_STATUS_WTR_RUNNING, F.TREE_NODE_STATUS_PENDING, F.TREE_NODE_STATUS_FORCE_BLOCKED, F.TREE_NODE_STATUS_PAIR_MISMATCH, F.TREE_NODE_STATUS_TRACEABLE, F.TREE_NODE_STATUS_CLASS, F.TREE_NODE_STATUS_LEVEL, F.TREE_NODE_STATUS_REASON, F.TREE_NODE_STATUS_STATE, F.TREE_NODE_STATUS_QL]⟩]

end Sys2Proof.Machine
end

