-- ==== Sys2Proof/Machine/FieldsB.lean ====
section
/-! DEFINITION. Register fields of the blocks DPLL, HOLD, SYNTH, TIME, EVENT, PORT: number, place, access type and
reset value of each, as the register maps of the spec give them (one rule per block, named at its list). -/

namespace Sys2Proof.Machine

def F.DP_CFG_ENABLE : Fld := ⟨272, 0, 1, .RW, (.const 0)⟩
def F.DP_CFG_LEARN : Fld := ⟨273, 2, 1, .RW, (.const 1)⟩
def F.DP_CFG_UPDATE : Fld := ⟨274, 8, 3, .RW, (.const 0)⟩
def F.DP_CFG_ROOT : Fld := ⟨275, 16, 8, .RW, (.const 127)⟩
def F.DP_PROF_SEL_IN_FREQ : Fld := ⟨276, 0, 4, .RW, (.const 4)⟩
def F.DP_PROF_SEL_IN_TIME : Fld := ⟨277, 4, 4, .RW, (.const 3)⟩
def F.DP_PROF_SEL_LN : Fld := ⟨278, 8, 4, .RW, (.const 0)⟩
def F.DP_PROF_SEL_PK : Fld := ⟨279, 12, 4, .RW, (.const 2)⟩
def F.DP_PROF_SEL_PR : Fld := ⟨280, 16, 4, .RW, (.const 5)⟩
def F.DP_FREE_WORD_WORD : Fld := ⟨281, 0, 32, .RW, (.const 0)⟩
def F.DP_REENTRY_HOLD_THRESH_NS : Fld := ⟨282, 0, 16, .RW, (.const 1000)⟩
def F.DP_CTRL_FORCE_HOLD : Fld := ⟨283, 0, 1, .RW, (.const 0)⟩
def F.DP_CTRL_FORCE_FREE : Fld := ⟨284, 1, 1, .RW, (.const 0)⟩
def F.DP_REF_ACK_ACK : Fld := ⟨285, 0, 1, .WT, (.const 0)⟩
def F.DP_REF_ACK_STEP : Fld := ⟨286, 1, 1, .WT, (.const 0)⟩
def F.DP_STATUS_PENDING : Fld := ⟨287, 12, 1, .RO, (.const 0)⟩
def F.DP_STATUS_LOCKSTEP_HELD : Fld := ⟨288, 13, 1, .RO, (.const 0)⟩
def F.DP_STATUS_EVER_LOCKED : Fld := ⟨289, 14, 1, .RO, (.const 0)⟩
def F.DP_STATUS_LOCK_OK : Fld := ⟨290, 15, 1, .RO, (.const 0)⟩
def F.DP_STATUS_BW_LIMITED : Fld := ⟨291, 16, 1, .RO, (.const 0)⟩
def F.DP_STATUS_RANGE : Fld := ⟨292, 17, 1, .RO, (.const 0)⟩
def F.DP_STATUS_SLOPE_LIMITED : Fld := ⟨293, 18, 1, .RO, (.const 0)⟩
def F.DP_STATUS_SLEWING : Fld := ⟨294, 19, 1, .RO, (.const 0)⟩
def F.DP_STATUS_HELD : Fld := ⟨295, 20, 1, .RO, (.const 0)⟩
def F.DP_STATUS_TIME_DPLL : Fld := ⟨296, 21, 1, .RO, (.const 0)⟩
def F.DP_STATUS_POLICY : Fld := ⟨297, 22, 3, .RO, (.const 0)⟩
def F.DP_STATUS_PROFILE : Fld := ⟨298, 25, 4, .RO, (.const 0)⟩
def F.DP_STATUS_STATE : Fld := ⟨299, 29, 3, .RO, (.const 0)⟩
def F.DP_PHASE_ERR : Fld := ⟨300, 0, 32, .RO, (.const 0)⟩
def F.DP_FREQ_YOUT : Fld := ⟨301, 0, 32, .RO, (.const 0)⟩
def F.DP_BUILDOUT_B : Fld := ⟨302, 0, 32, .RO, (.const 0)⟩
def F.DP_JUMP_J : Fld := ⟨303, 0, 32, .RO, (.const 0)⟩
def F.DP_SLEW_LEFT_LEFT : Fld := ⟨304, 0, 32, .RO, (.const 0)⟩
def F.DP_EFFECTIVE_DAMP : Fld := ⟨305, 0, 3, .RO, (.const 0)⟩
def F.DP_EFFECTIVE_BW_CODE : Fld := ⟨306, 4, 5, .RO, (.const 0)⟩
def F.DP_EFFECTIVE_T_US : Fld := ⟨307, 12, 20, .RO, (.const 0)⟩
def F.DP_COUNTS_HOLDOVERS : Fld := ⟨308, 0, 16, .RO, (.const 0)⟩
def F.DP_COUNTS_SWITCHES : Fld := ⟨309, 16, 16, .RO, (.const 0)⟩
def F.DP_LOCKSTEP_MISMATCHES : Fld := ⟨310, 0, 32, .RO, (.const 0)⟩
def F.DP_LOCK_TIME_SECONDS : Fld := ⟨311, 0, 32, .RO, (.const 0)⟩
def F.PROF_LOOP_DAMP : Fld := ⟨312, 0, 3, .RW, (.table [4, 4, 4, 2, 4, 4, 1, 2, 4, 4, 4, 4, 4, 4, 4, 4])⟩
def F.PROF_LOOP_BW : Fld := ⟨313, 8, 5, .RW, (.table [10, 11, 6, 3, 6, 12, 18, 0, 6, 6, 6, 6, 6, 6, 6, 6])⟩
def F.PROF_PSL_PSL_NS : Fld := ⟨314, 0, 14, .RW, (.table [10000, 10000, 100, 100, 1000, 10000, 10000, 10, 1000, 1000, 1000, 1000, 1000, 1000, 1000, 1000])⟩
def F.PROF_PULLIN_PULLIN_PPB : Fld := ⟨315, 0, 17, .RW, (.table [10000, 10000, 10000, 1000, 100000, 1000, 100000, 1000, 100000, 100000, 100000, 100000, 100000, 100000, 100000, 100000])⟩
def F.PROF_LOCK_PHASE_LOCK_10PS : Fld := ⟨316, 0, 16, .RW, (.table [1000, 1000, 500, 200, 100, 3, 10, 500, 100, 100, 100, 100, 100, 100, 100, 100])⟩
def F.PROF_LOCK_FREQ_LOCK_FREQ : Fld := ⟨317, 0, 16, .RW, (.table [100, 100, 1000, 10, 100, 100, 1000, 10, 100, 100, 100, 100, 100, 100, 100, 100])⟩
def F.PROF_LOCK_TIME_LOCK_S : Fld := ⟨318, 0, 16, .RW, (.table [10, 10, 30, 60, 10, 1, 1, 600, 10, 10, 10, 10, 10, 10, 10, 10])⟩
def F.PROF_UNLOCK_UNLOCK_10PS : Fld := ⟨319, 0, 16, .RW, (.table [4000, 4000, 2000, 800, 400, 12, 40, 2000, 400, 400, 400, 400, 400, 400, 400, 400])⟩
def F.PROF_UNLOCK_UNLOCK_N : Fld := ⟨320, 24, 8, .RW, (.const 8)⟩
def F.PROF_ENTRY_ENTRY_S : Fld := ⟨321, 0, 16, .RW, (.table [600, 600, 600, 600, 600, 600, 600, 3600, 600, 600, 600, 600, 600, 600, 600, 600])⟩
def F.PROF_ENTRY_GUARD_S : Fld := ⟨322, 24, 8, .RW, (.const 10)⟩

/-- The registers of block DPLL (R182). -/
def regsDpll0 : List Reg :=
  [⟨"DP_CFG", 0x60000, 0, 16, 0x40, 1, 0x0, [F.DP_CFG_ENABLE, F.DP_CFG_LEARN, F.DP_CFG_UPDATE, F.DP_CFG_ROOT]⟩,
   ⟨"DP_PROF_SEL", 0x60004, 0, 16, 0x40, 1, 0x0, [F.DP_PROF_SEL_IN_FREQ, F.DP_PROF_SEL_IN_TIME, F.DP_PROF_SEL_LN, F.DP_PROF_SEL_PK, F.DP_PROF_SEL_PR]⟩,
   ⟨"DP_FREE_WORD", 0x60008, 0, 16, 0x40, 1, 0x0, [F.DP_FREE_WORD_WORD]⟩,
   ⟨"DP_REENTRY", 0x6000c, 0, 16, 0x40, 1, 0x0, [F.DP_REENTRY_HOLD_THRESH_NS]⟩,
   ⟨"DP_CTRL", 0x60010, 0, 16, 0x40, 1, 0x0, [F.DP_CTRL_FORCE_HOLD, F.DP_CTRL_FORCE_FREE]⟩,
   ⟨"DP_REF_ACK", 0x60014, 0, 16, 0x40, 1, 0x0, [F.DP_REF_ACK_ACK, F.DP_REF_ACK_STEP]⟩,
   ⟨"DP_STATUS", 0x60018, 0, 16, 0x40, 1, 0x0, [F.DP_STATUS_PENDING, F.DP_STATUS_LOCKSTEP_HELD, F.DP_STATUS_EVER_LOCKED, F.DP_STATUS_LOCK_OK, F.DP_STATUS_BW_LIMITED, F.DP_STATUS_RANGE, F.DP_STATUS_SLOPE_LIMITED, F.DP_STATUS_SLEWING, F.DP_STATUS_HELD, F.DP_STATUS_TIME_DPLL, F.DP_STATUS_POLICY, F.DP_STATUS_PROFILE, F.DP_STATUS_STATE]⟩,
   ⟨"DP_PHASE", 0x6001c, 0, 16, 0x40, 1, 0x0, [F.DP_PHASE_ERR]⟩,
   ⟨"DP_FREQ", 0x60020, 0, 16, 0x40, 1, 0x0, [F.DP_FREQ_YOUT]⟩,
   ⟨"DP_BUILDOUT", 0x60024, 0, 16, 0x40, 1, 0x0, [F.DP_BUILDOUT_B]⟩,
   ⟨"DP_JUMP", 0x60028, 0, 16, 0x40, 1, 0x0, [F.DP_JUMP_J]⟩,
   ⟨"DP_SLEW_LEFT", 0x6002c, 0, 16, 0x40, 1, 0x0, [F.DP_SLEW_LEFT_LEFT]⟩]
def regsDpll1 : List Reg :=
  [⟨"DP_EFFECTIVE", 0x60030, 0, 16, 0x40, 1, 0x0, [F.DP_EFFECTIVE_DAMP, F.DP_EFFECTIVE_BW_CODE, F.DP_EFFECTIVE_T_US]⟩,
   ⟨"DP_COUNTS", 0x60034, 0, 16, 0x40, 1, 0x0, [F.DP_COUNTS_HOLDOVERS, F.DP_COUNTS_SWITCHES]⟩,
   ⟨"DP_LOCKSTEP", 0x60038, 0, 16, 0x40, 1, 0x0, [F.DP_LOCKSTEP_MISMATCHES]⟩,
   ⟨"DP_LOCK_TIME", 0x6003c, 0, 16, 0x40, 1, 0x0, [F.DP_LOCK_TIME_SECONDS]⟩,
   ⟨"PROF_LOOP", 0x60400, 0, 16, 0x20, 1, 0x0, [F.PROF_LOOP_DAMP, F.PROF_LOOP_BW]⟩,
   ⟨"PROF_PSL", 0x60404, 0, 16, 0x20, 1, 0x0, [F.PROF_PSL_PSL_NS]⟩,
   ⟨"PROF_PULLIN", 0x60408, 0, 16, 0x20, 1, 0x0, [F.PROF_PULLIN_PULLIN_PPB]⟩,
   ⟨"PROF_LOCK_PHASE", 0x6040c, 0, 16, 0x20, 1, 0x0, [F.PROF_LOCK_PHASE_LOCK_10PS]⟩,
   ⟨"PROF_LOCK_FREQ", 0x60410, 0, 16, 0x20, 1, 0x0, [F.PROF_LOCK_FREQ_LOCK_FREQ]⟩,
   ⟨"PROF_LOCK_TIME", 0x60414, 0, 16, 0x20, 1, 0x0, [F.PROF_LOCK_TIME_LOCK_S]⟩,
   ⟨"PROF_UNLOCK", 0x60418, 0, 16, 0x20, 1, 0x0, [F.PROF_UNLOCK_UNLOCK_10PS, F.PROF_UNLOCK_UNLOCK_N]⟩,
   ⟨"PROF_ENTRY", 0x6041c, 0, 16, 0x20, 1, 0x0, [F.PROF_ENTRY_ENTRY_S, F.PROF_ENTRY_GUARD_S]⟩]
def regsDpll : List Reg := regsDpll0 ++ regsDpll1

def F.HOLD_CFG_UF_FLOOR : Fld := ⟨323, 0, 8, .RW, (.const 10)⟩
def F.HOLD_CFG_COVER : Fld := ⟨324, 8, 4, .RW, (.const 4)⟩
def F.HOLD_CFG_FIT_H : Fld := ⟨325, 12, 12, .RW, (.const 168)⟩
def F.HOLD_BUDGET_BUDGET_NS : Fld := ⟨326, 0, 17, .RW, (.const 1000)⟩
def F.HOLD_BUDGET_WARN_MIN : Fld := ⟨327, 24, 8, .RW, (.const 60)⟩
def F.HOLD_TE0_TE0_NS : Fld := ⟨328, 0, 16, .RW, (.const 0)⟩
def F.HOLD_STATUS_POINTS : Fld := ⟨329, 0, 12, .RO, (.const 0)⟩
def F.HOLD_STATUS_HIST_POINTS : Fld := ⟨330, 12, 12, .RO, (.const 0)⟩
def F.HOLD_STATUS_ENTRY_VALID : Fld := ⟨331, 24, 1, .RO, (.const 0)⟩
def F.HOLD_STATUS_WARNED : Fld := ⟨332, 25, 1, .RO, (.const 0)⟩
def F.HOLD_STATUS_OUT_OF_SPEC : Fld := ⟨333, 26, 1, .RO, (.const 0)⟩
def F.HOLD_STATUS_IN_HOLDOVER : Fld := ⟨334, 27, 1, .RO, (.const 0)⟩
def F.HOLD_STATUS_C_FACTORY : Fld := ⟨335, 28, 1, .RO, (.const 0)⟩
def F.HOLD_STATUS_MODEL : Fld := ⟨336, 29, 3, .RO, (.const 0)⟩
def F.HOLD_ELAPSED_SECONDS : Fld := ⟨337, 0, 32, .RO, (.const 0)⟩
def F.HOLD_TE_PRED_TE_NS : Fld := ⟨338, 0, 32, .RO, (.const 0)⟩
def F.HOLD_REMAIN_SECONDS : Fld := ⟨339, 0, 32, .RO, (.const 0xffffffff)⟩
def F.HOLD_CTRL_CLEAR : Fld := ⟨340, 0, 1, .WT, (.const 0)⟩

/-- The registers of block HOLD (R183). -/
def regsHold : List Reg :=
  [⟨"HOLD_CFG", 0x70000, 0, 16, 0x20, 1, 0x0, [F.HOLD_CFG_UF_FLOOR, F.HOLD_CFG_COVER, F.HOLD_CFG_FIT_H]⟩,
   ⟨"HOLD_BUDGET", 0x70004, 0, 16, 0x20, 1, 0x0, [F.HOLD_BUDGET_BUDGET_NS, F.HOLD_BUDGET_WARN_MIN]⟩,
   ⟨"HOLD_TE0", 0x70008, 0, 16, 0x20, 1, 0x0, [F.HOLD_TE0_TE0_NS]⟩,
   ⟨"HOLD_STATUS", 0x7000c, 0, 16, 0x20, 1, 0x0, [F.HOLD_STATUS_POINTS, F.HOLD_STATUS_HIST_POINTS, F.HOLD_STATUS_ENTRY_VALID, F.HOLD_STATUS_WARNED, F.HOLD_STATUS_OUT_OF_SPEC, F.HOLD_STATUS_IN_HOLDOVER, F.HOLD_STATUS_C_FACTORY, F.HOLD_STATUS_MODEL]⟩,
   ⟨"HOLD_ELAPSED", 0x70010, 0, 16, 0x20, 1, 0x0, [F.HOLD_ELAPSED_SECONDS]⟩,
   ⟨"HOLD_TE_PRED", 0x70014, 0, 16, 0x20, 1, 0x0, [F.HOLD_TE_PRED_TE_NS]⟩,
   ⟨"HOLD_REMAIN", 0x70018, 0, 16, 0x20, 1, 0x0, [F.HOLD_REMAIN_SECONDS]⟩,
   ⟨"HOLD_CTRL", 0x7001c, 0, 16, 0x20, 1, 0x0, [F.HOLD_CTRL_CLEAR]⟩]

def F.OUT_CFG_ENABLE : Fld := ⟨341, 0, 1, .CM, (.const 0)⟩
def F.OUT_CFG_APLL : Fld := ⟨342, 4, 2, .CM, (.const 0)⟩
def F.OUT_CFG_FORMAT : Fld := ⟨343, 8, 3, .CM, (.const 0)⟩
def F.OUT_CFG_LVCMOS_N : Fld := ⟨344, 12, 2, .CM, (.const 0)⟩
def F.OUT_CFG_SHUT_LEVEL : Fld := ⟨345, 14, 1, .RW, (.const 0)⟩
def F.OUT_CFG_BOOT : Fld := ⟨346, 15, 1, .RW, (.const 0)⟩
def F.OUT_DIV_DIV : Fld := ⟨347, 0, 25, .CM, (.const 1)⟩
def F.OUT_DIV_PRESCALE : Fld := ⟨348, 25, 4, .CM, (.const 0)⟩
def F.OUT_DIV_ACTIVE_DIV : Fld := ⟨349, 0, 25, .RO, (.const 1)⟩
def F.OUT_DIV_ACTIVE_PRESCALE : Fld := ⟨350, 25, 4, .RO, (.const 0)⟩
def F.OUT_PHASE_PHASE_PS : Fld := ⟨351, 0, 32, .CM, (.const 0)⟩
def F.OUT_DELAY_DELAY : Fld := ⟨352, 0, 16, .RO, (.const 0)⟩
def F.OUT_DRIVE_SWING : Fld := ⟨353, 0, 4, .RW, (.const 8)⟩
def F.OUT_DRIVE_VDDO : Fld := ⟨354, 8, 2, .RW, (.const 2)⟩
def F.OUT_STATUS_SHUT_CAUSE : Fld := ⟨355, 5, 3, .RO, (.const 0)⟩
def F.OUT_STATUS_RUNNING : Fld := ⟨356, 8, 1, .RO, (.const 0)⟩
def F.OUT_STATUS_HIGH_Z : Fld := ⟨357, 9, 1, .RO, (.const 1)⟩
def F.OUT_STATUS_SHUTTERED : Fld := ⟨358, 10, 1, .RO, (.const 0)⟩
def F.OUT_STATUS_PENDING : Fld := ⟨359, 11, 1, .RO, (.const 0)⟩
def F.OUT_STATUS_ON_GRID : Fld := ⟨360, 12, 1, .RO, (.const 0)⟩
def F.OUT_STATUS_GRID_EXACT : Fld := ⟨361, 13, 1, .RO, (.const 0)⟩
def F.OUT_STATUS_TRACE : Fld := ⟨362, 14, 2, .RO, (.const 0)⟩
def F.OUT_SHUTTERS_COUNT : Fld := ⟨363, 0, 32, .RO, (.const 0)⟩
def F.OUT_FREQ_HZ : Fld := ⟨364, 0, 32, .RO, (.const 0)⟩
def F.APLL_CFG_DPLL : Fld := ⟨365, 0, 4, .CM, (.const 0)⟩
def F.APLL_CFG_STEERED : Fld := ⟨366, 8, 1, .CM, (.const 0)⟩
def F.APLL_CFG_REF_ALIGN : Fld := ⟨367, 9, 1, .CM, (.const 0)⟩
def F.APLL_CFG_ALIGN_S : Fld := ⟨368, 16, 8, .CM, (.const 1)⟩
def F.APLL_FB_INT_FRAC_HI : Fld := ⟨369, 0, 16, .CM, (.const 0)⟩
def F.APLL_FB_INT_INT : Fld := ⟨370, 16, 6, .CM, (.const 40)⟩
def F.APLL_FB_FRAC_FRAC_LO : Fld := ⟨371, 0, 32, .CM, (.const 0)⟩
def F.APLL_STATUS_UNSTEERED : Fld := ⟨372, 2, 1, .RO, (.const 1)⟩
def F.APLL_STATUS_WORD_HELD : Fld := ⟨373, 3, 1, .RO, (.const 0)⟩
def F.APLL_STATUS_REF_OK : Fld := ⟨374, 4, 1, .RO, (.const 0)⟩
def F.APLL_STATUS_LOCKED : Fld := ⟨375, 5, 1, .RO, (.const 0)⟩
def F.APLL_STATUS_ALIGNING : Fld := ⟨376, 6, 1, .RO, (.const 0)⟩
def F.APLL_STATUS_RUNNING : Fld := ⟨377, 7, 1, .RO, (.const 0)⟩
def F.APLL_COUNTS_RELOCK_FAILS : Fld := ⟨378, 0, 16, .RO, (.const 0)⟩
def F.APLL_COUNTS_UNLOCKS : Fld := ⟨379, 16, 16, .RO, (.const 0)⟩
def F.APLL_VCO_KHZ : Fld := ⟨380, 0, 32, .RL, (.const 0)⟩
def F.SYNTH_COMMIT_GO : Fld := ⟨381, 0, 1, .WT, (.const 0)⟩
def F.SYNTH_COMMIT_REALIGN : Fld := ⟨382, 1, 4, .WT, (.const 0)⟩
def F.SYNTH_COMMIT_STATUS_FIRST_BAD : Fld := ⟨383, 0, 6, .RO, (.const 63)⟩
def F.SYNTH_COMMIT_STATUS_BUSY : Fld := ⟨384, 7, 1, .RO, (.const 0)⟩
def F.SYNTH_COMMIT_STATUS_REASON : Fld := ⟨385, 8, 4, .RO, (.const 0)⟩
def F.SYNTH_COMMIT_STATUS_RESULT : Fld := ⟨386, 12, 4, .RO, (.const 0)⟩
def F.SYNTH_COMMIT_STATUS_SEQ : Fld := ⟨387, 16, 16, .RO, (.const 0)⟩
def F.SYNTH_SHUTTER_MAP_OUTPUTS : Fld := ⟨388, 0, 24, .RO, (.const 0)⟩
def F.SYNTH_RUN_MAP_OUTPUTS : Fld := ⟨389, 0, 24, .RO, (.const 0)⟩
def F.SYNTH_UNTRACE_MAP_OUTPUTS : Fld := ⟨390, 0, 24, .RO, (.const 0)⟩
def F.SYNTH_DEG_STATUS_DEGRADED : Fld := ⟨391, 0, 1, .RO, (.const 0)⟩
def F.SYNTH_DEG_STATUS_COUNT : Fld := ⟨392, 16, 16, .RO, (.const 0)⟩
def F.SYNTH_DEG_LAST_LEN_US : Fld := ⟨393, 0, 32, .RO, (.const 0)⟩
def F.SYNTH_VERIFY_CFG_TOL_01PS : Fld := ⟨394, 0, 16, .RW, (.const 300)⟩
def F.SYNTH_VERIFY_CFG_LOOP : Fld := ⟨395, 28, 1, .RW, (.const 0)⟩
def F.SYNTH_VERIFY_CFG_ENABLE : Fld := ⟨396, 31, 1, .RW, (.const 0)⟩
def F.SYNTH_VERIFY_STATUS_ERR : Fld := ⟨397, 0, 24, .RO, (.const 0)⟩
def F.SYNTH_VERIFY_STATUS_OUTPUT : Fld := ⟨398, 24, 6, .RO, (.const 63)⟩
def F.SYNTH_VERIFY_STATUS_OUT_OF_TOL : Fld := ⟨399, 30, 1, .RO, (.const 0)⟩
def F.SYNTH_VERIFY_STATUS_VALID : Fld := ⟨400, 31, 1, .RO, (.const 0)⟩
def F.SYNTH_LOCK_CFG_LOCK_US : Fld := ⟨401, 0, 8, .RW, (.const 10)⟩
def F.SYNTH_LOCK_CFG_RELOCK_MS : Fld := ⟨402, 8, 8, .RW, (.const 10)⟩

/-- The registers of block SYNTH (R204). -/
def regsSynth0 : List Reg :=
  [⟨"OUT_CFG", 0x80000, 0, 24, 0x40, 1, 0x0, [F.OUT_CFG_ENABLE, F.OUT_CFG_APLL, F.OUT_CFG_FORMAT, F.OUT_CFG_LVCMOS_N, F.OUT_CFG_SHUT_LEVEL, F.OUT_CFG_BOOT]⟩,
   ⟨"OUT_DIV", 0x80004, 0, 24, 0x40, 1, 0x0, [F.OUT_DIV_DIV, F.OUT_DIV_PRESCALE]⟩,
   ⟨"OUT_DIV_ACTIVE", 0x80008, 0, 24, 0x40, 1, 0x0, [F.OUT_DIV_ACTIVE_DIV, F.OUT_DIV_ACTIVE_PRESCALE]⟩,
   ⟨"OUT_PHASE", 0x8000c, 0, 24, 0x40, 1, 0x0, [F.OUT_PHASE_PHASE_PS]⟩,
   ⟨"OUT_DELAY", 0x80010, 0, 24, 0x40, 1, 0x0, [F.OUT_DELAY_DELAY]⟩,
   ⟨"OUT_DRIVE", 0x80014, 0, 24, 0x40, 1, 0x0, [F.OUT_DRIVE_SWING, F.OUT_DRIVE_VDDO]⟩,
   ⟨"OUT_STATUS", 0x80018, 0, 24, 0x40, 1, 0x0, [F.OUT_STATUS_SHUT_CAUSE, F.OUT_STATUS_RUNNING, F.OUT_STATUS_HIGH_Z, F.OUT_STATUS_SHUTTERED, F.OUT_STATUS_PENDING, F.OUT_STATUS_ON_GRID, F.OUT_STATUS_GRID_EXACT, F.OUT_STATUS_TRACE]⟩,
   ⟨"OUT_SHUTTERS", 0x8001c, 0, 24, 0x40, 1, 0x0, [F.OUT_SHUTTERS_COUNT]⟩,
   ⟨"OUT_FREQ", 0x80020, 0, 24, 0x40, 1, 0x0, [F.OUT_FREQ_HZ]⟩,
   ⟨"APLL_CFG", 0x80800, 0, 5, 0x20, 1, 0x0, [F.APLL_CFG_DPLL, F.APLL_CFG_STEERED, F.APLL_CFG_REF_ALIGN, F.APLL_CFG_ALIGN_S]⟩,
   ⟨"APLL_FB_INT", 0x80804, 0, 5, 0x20, 1, 0x0, [F.APLL_FB_INT_FRAC_HI, F.APLL_FB_INT_INT]⟩,
   ⟨"APLL_FB_FRAC", 0x80808, 0, 5, 0x20, 1, 0x0, [F.APLL_FB_FRAC_FRAC_LO]⟩]
def regsSynth1 : List Reg :=
  [⟨"APLL_STATUS", 0x8080c, 0, 5, 0x20, 1, 0x0, [F.APLL_STATUS_UNSTEERED, F.APLL_STATUS_WORD_HELD, F.APLL_STATUS_REF_OK, F.APLL_STATUS_LOCKED, F.APLL_STATUS_ALIGNING, F.APLL_STATUS_RUNNING]⟩,
   ⟨"APLL_COUNTS", 0x80810, 0, 5, 0x20, 1, 0x0, [F.APLL_COUNTS_RELOCK_FAILS, F.APLL_COUNTS_UNLOCKS]⟩,
   ⟨"APLL_VCO", 0x80814, 0, 5, 0x20, 1, 0x0, [F.APLL_VCO_KHZ]⟩,
   ⟨"SYNTH_COMMIT", 0x80900, 0, 1, 0x0, 1, 0x0, [F.SYNTH_COMMIT_GO, F.SYNTH_COMMIT_REALIGN]⟩,
   ⟨"SYNTH_COMMIT_STATUS", 0x80904, 0, 1, 0x0, 1, 0x0, [F.SYNTH_COMMIT_STATUS_FIRST_BAD, F.SYNTH_COMMIT_STATUS_BUSY, F.SYNTH_COMMIT_STATUS_REASON, F.SYNTH_COMMIT_STATUS_RESULT, F.SYNTH_COMMIT_STATUS_SEQ]⟩,
   ⟨"SYNTH_SHUTTER_MAP", 0x80908, 0, 1, 0x0, 1, 0x0, [F.SYNTH_SHUTTER_MAP_OUTPUTS]⟩,
   ⟨"SYNTH_RUN_MAP", 0x8090c, 0, 1, 0x0, 1, 0x0, [F.SYNTH_RUN_MAP_OUTPUTS]⟩,
   ⟨"SYNTH_UNTRACE_MAP", 0x80910, 0, 1, 0x0, 1, 0x0, [F.SYNTH_UNTRACE_MAP_OUTPUTS]⟩,
   ⟨"SYNTH_DEG_STATUS", 0x80914, 0, 1, 0x0, 1, 0x0, [F.SYNTH_DEG_STATUS_DEGRADED, F.SYNTH_DEG_STATUS_COUNT]⟩,
   ⟨"SYNTH_DEG_LAST", 0x80918, 0, 1, 0x0, 1, 0x0, [F.SYNTH_DEG_LAST_LEN_US]⟩,
   ⟨"SYNTH_VERIFY_CFG", 0x8091c, 0, 1, 0x0, 1, 0x0, [F.SYNTH_VERIFY_CFG_TOL_01PS, F.SYNTH_VERIFY_CFG_LOOP, F.SYNTH_VERIFY_CFG_ENABLE]⟩,
   ⟨"SYNTH_VERIFY_STATUS", 0x80920, 0, 1, 0x0, 1, 0x0, [F.SYNTH_VERIFY_STATUS_ERR, F.SYNTH_VERIFY_STATUS_OUTPUT, F.SYNTH_VERIFY_STATUS_OUT_OF_TOL, F.SYNTH_VERIFY_STATUS_VALID]⟩]
def regsSynth2 : List Reg :=
  [⟨"SYNTH_LOCK_CFG", 0x80924, 0, 1, 0x0, 1, 0x0, [F.SYNTH_LOCK_CFG_LOCK_US, F.SYNTH_LOCK_CFG_RELOCK_MS]⟩]
def regsSynth : List Reg := regsSynth0 ++ regsSynth1 ++ regsSynth2

def F.TIME_CFG_DPLL : Fld := ⟨403, 0, 4, .RW, (.const 0)⟩
def F.TIME_CFG_AUTO_SEC : Fld := ⟨404, 16, 1, .RW, (.const 0)⟩
def F.TIME_CFG_SEC_SRC : Fld := ⟨405, 20, 2, .RW, (.const 0)⟩
def F.TIME_STATUS_DPLL : Fld := ⟨406, 0, 4, .RO, (.const 0)⟩
def F.TIME_STATUS_MISMATCH_PENDING : Fld := ⟨407, 24, 1, .RO, (.const 0)⟩
def F.TIME_STATUS_AGREE : Fld := ⟨408, 25, 1, .RO, (.const 0)⟩
def F.TIME_STATUS_PORCH_LOST : Fld := ⟨409, 26, 1, .RO, (.const 0)⟩
def F.TIME_STATUS_PORCH_START : Fld := ⟨410, 27, 1, .RO, (.const 0)⟩
def F.TIME_STATUS_ON_TCXO_PATH : Fld := ⟨411, 28, 1, .RO, (.const 0)⟩
def F.TIME_STATUS_FRACTION_SET : Fld := ⟨412, 29, 1, .RO, (.const 0)⟩
def F.TIME_STATUS_SECONDS_SET : Fld := ⟨413, 30, 1, .RO, (.const 0)⟩
def F.TIME_STATUS_VALID : Fld := ⟨414, 31, 1, .RO, (.const 0)⟩
def F.TIME_CTRL_SET : Fld := ⟨415, 0, 1, .WT, (.const 0)⟩
def F.TIME_CTRL_STEP : Fld := ⟨416, 1, 1, .WT, (.const 0)⟩
def F.TIME_STEP_STATUS_COUNT : Fld := ⟨417, 0, 8, .RO, (.const 0)⟩
def F.TIME_STEP_STATUS_CAUSES : Fld := ⟨418, 8, 6, .RO, (.const 0)⟩
def F.TIME_STEP_STATUS_RESULT : Fld := ⟨419, 14, 2, .RO, (.const 0)⟩
def F.TIME_STEP_STATUS_GEN : Fld := ⟨420, 16, 16, .RO, (.const 0)⟩
def F.TIME_VOTE_STATUS_LAST_COPY : Fld := ⟨421, 0, 2, .RO, (.const 0)⟩
def F.TIME_VOTE_STATUS_NO_MAJORITY : Fld := ⟨422, 2, 1, .RO, (.const 0)⟩
def F.TIME_VOTE_STATUS_REPAIRS : Fld := ⟨423, 16, 16, .RO, (.const 0)⟩
def F.TIME_UTC_OFFSET : Fld := ⟨424, 0, 16, .RW, (.const 0)⟩
def F.TIME_UTC_SOURCE : Fld := ⟨425, 27, 2, .RW, (.const 0)⟩
def F.TIME_UTC_LEAP59 : Fld := ⟨426, 29, 1, .RW, (.const 0)⟩
def F.TIME_UTC_LEAP61 : Fld := ⟨427, 30, 1, .RW, (.const 0)⟩
def F.TIME_UTC_VALID : Fld := ⟨428, 31, 1, .RW, (.const 0)⟩
def F.PORCH_STATUS_TRACE_COUNT : Fld := ⟨429, 0, 8, .RL, (.const 0)⟩
def F.PORCH_STATUS_TRACE_NEXT : Fld := ⟨430, 8, 8, .RL, (.const 0)⟩
def F.PORCH_STATUS_CRYSTAL_OK : Fld := ⟨431, 29, 1, .RL, (.const 0)⟩
def F.PORCH_STATUS_SET : Fld := ⟨432, 30, 1, .RL, (.const 0)⟩
def F.PORCH_STATUS_TIME_VALID : Fld := ⟨433, 31, 1, .RL, (.const 0)⟩
def F.PORCH_SECONDS_SECONDS : Fld := ⟨434, 0, 32, .RL, (.const 0)⟩
def F.PPS_CFG_ENABLE : Fld := ⟨435, 0, 1, .RW, (.const 0)⟩
def F.PPS_CFG_POLARITY : Fld := ⟨436, 1, 1, .RW, (.const 0)⟩
def F.PPS_CFG_QUALIFY : Fld := ⟨437, 2, 2, .RW, (.const 1)⟩
def F.PPS_WIDTH_WIDTH_NS : Fld := ⟨438, 0, 29, .RW, (.const 0x5f5e100)⟩
def F.PPS_OFFSET_OFFSET_PS : Fld := ⟨439, 0, 32, .RW, (.const 0)⟩
def F.PPS_STATUS_RUNNING : Fld := ⟨440, 0, 1, .RO, (.const 0)⟩
def F.PPS_STATUS_HELD : Fld := ⟨441, 1, 1, .RO, (.const 1)⟩
def F.PPS_STATUS_QUALIFIED : Fld := ⟨442, 2, 1, .RO, (.const 0)⟩
def F.PPS_STATUS_SUPPRESSED : Fld := ⟨443, 16, 16, .RO, (.const 0)⟩
def F.TODI_CFG_BAUD_100 : Fld := ⟨444, 0, 16, .RW, (.const 96)⟩
def F.TODI_CFG_PULSE : Fld := ⟨445, 16, 5, .RW, (.const 0)⟩
def F.TODI_CFG_CONFIRM : Fld := ⟨446, 24, 3, .RW, (.const 3)⟩
def F.TODI_CFG_FORMAT : Fld := ⟨447, 28, 2, .RW, (.const 0)⟩
def F.TODI_CFG_ENABLE : Fld := ⟨448, 31, 1, .RW, (.const 0)⟩
def F.TODI_STATUS_LAST_D : Fld := ⟨449, 0, 8, .RO, (.const 0)⟩
def F.TODI_STATUS_RUN : Fld := ⟨450, 8, 3, .RO, (.const 0)⟩
def F.TODI_STATUS_ACTIVE : Fld := ⟨451, 11, 1, .RO, (.const 0)⟩
def F.TODI_STATUS_LAST_RESULT : Fld := ⟨452, 12, 4, .RO, (.const 0)⟩
def F.TODI_STATUS_ACCEPTED : Fld := ⟨453, 16, 16, .RO, (.const 0)⟩
def F.TODO_CFG_BAUD_100 : Fld := ⟨454, 0, 16, .RW, (.const 96)⟩
def F.TODO_CFG_DELAY_MS : Fld := ⟨455, 16, 12, .RW, (.const 100)⟩
def F.TODO_CFG_FORMAT : Fld := ⟨456, 28, 2, .RW, (.const 0)⟩
def F.TODO_CFG_SEND_UNSET : Fld := ⟨457, 30, 1, .RW, (.const 0)⟩
def F.TODO_CFG_ENABLE : Fld := ⟨458, 31, 1, .RW, (.const 0)⟩
def F.TODO_STATUS_SENDING : Fld := ⟨459, 0, 1, .RO, (.const 0)⟩
def F.TODO_STATUS_WITHHELD : Fld := ⟨460, 1, 1, .RO, (.const 0)⟩
def F.TODO_STATUS_OVERLONG : Fld := ⟨461, 2, 1, .RO, (.const 0)⟩
def F.TODO_STATUS_SENT : Fld := ⟨462, 16, 16, .RO, (.const 0)⟩
def F.PORCH_TRACE_WORD : Fld := ⟨463, 0, 32, .RL, (.const 0)⟩

/-- The registers of block TIME (R223). -/
def regsTime0 : List Reg :=
  [⟨"TIME_CFG", 0x90000, 0, 1, 0x0, 1, 0x0, [F.TIME_CFG_DPLL, F.TIME_CFG_AUTO_SEC, F.TIME_CFG_SEC_SRC]⟩,
   ⟨"TIME_STATUS", 0x90004, 0, 1, 0x0, 1, 0x0, [F.TIME_STATUS_DPLL, F.TIME_STATUS_MISMATCH_PENDING, F.TIME_STATUS_AGREE, F.TIME_STATUS_PORCH_LOST, F.TIME_STATUS_PORCH_START, F.TIME_STATUS_ON_TCXO_PATH, F.TIME_STATUS_FRACTION_SET, F.TIME_STATUS_SECONDS_SET, F.TIME_STATUS_VALID]⟩,
   ⟨"TIME_CTRL", 0x90008, 0, 1, 0x0, 1, 0x0, [F.TIME_CTRL_SET, F.TIME_CTRL_STEP]⟩,
   ⟨"TIME_STEP_STATUS", 0x9000c, 0, 1, 0x0, 1, 0x0, [F.TIME_STEP_STATUS_COUNT, F.TIME_STEP_STATUS_CAUSES, F.TIME_STEP_STATUS_RESULT, F.TIME_STEP_STATUS_GEN]⟩,
   ⟨"TIME_VOTE_STATUS", 0x90010, 0, 1, 0x0, 1, 0x0, [F.TIME_VOTE_STATUS_LAST_COPY, F.TIME_VOTE_STATUS_NO_MAJORITY, F.TIME_VOTE_STATUS_REPAIRS]⟩,
   ⟨"TIME_UTC", 0x90014, 0, 1, 0x0, 1, 0x0, [F.TIME_UTC_OFFSET, F.TIME_UTC_SOURCE, F.TIME_UTC_LEAP59, F.TIME_UTC_LEAP61, F.TIME_UTC_VALID]⟩,
   ⟨"PORCH_STATUS", 0x90018, 0, 1, 0x0, 1, 0x0, [F.PORCH_STATUS_TRACE_COUNT, F.PORCH_STATUS_TRACE_NEXT, F.PORCH_STATUS_CRYSTAL_OK, F.PORCH_STATUS_SET, F.PORCH_STATUS_TIME_VALID]⟩,
   ⟨"PORCH_SECONDS", 0x9001c, 0, 1, 0x0, 1, 0x0, [F.PORCH_SECONDS_SECONDS]⟩,
   ⟨"PPS_CFG", 0x90100, 0, 4, 0x10, 1, 0x0, [F.PPS_CFG_ENABLE, F.PPS_CFG_POLARITY, F.PPS_CFG_QUALIFY]⟩,
   ⟨"PPS_WIDTH", 0x90104, 0, 4, 0x10, 1, 0x0, [F.PPS_WIDTH_WIDTH_NS]⟩,
   ⟨"PPS_OFFSET", 0x90108, 0, 4, 0x10, 1, 0x0, [F.PPS_OFFSET_OFFSET_PS]⟩,
   ⟨"PPS_STATUS", 0x9010c, 0, 4, 0x10, 1, 0x0, [F.PPS_STATUS_RUNNING, F.PPS_STATUS_HELD, F.PPS_STATUS_QUALIFIED, F.PPS_STATUS_SUPPRESSED]⟩]
def regsTime1 : List Reg :=
  [⟨"TODI_CFG", 0x90200, 0, 2, 0x10, 1, 0x0, [F.TODI_CFG_BAUD_100, F.TODI_CFG_PULSE, F.TODI_CFG_CONFIRM, F.TODI_CFG_FORMAT, F.TODI_CFG_ENABLE]⟩,
   ⟨"TODI_STATUS", 0x90204, 0, 2, 0x10, 1, 0x0, [F.TODI_STATUS_LAST_D, F.TODI_STATUS_RUN, F.TODI_STATUS_ACTIVE, F.TODI_STATUS_LAST_RESULT, F.TODI_STATUS_ACCEPTED]⟩,
   ⟨"TODO_CFG", 0x90208, 0, 2, 0x10, 1, 0x0, [F.TODO_CFG_BAUD_100, F.TODO_CFG_DELAY_MS, F.TODO_CFG_FORMAT, F.TODO_CFG_SEND_UNSET, F.TODO_CFG_ENABLE]⟩,
   ⟨"TODO_STATUS", 0x9020c, 0, 2, 0x10, 1, 0x0, [F.TODO_STATUS_SENDING, F.TODO_STATUS_WITHHELD, F.TODO_STATUS_OVERLONG, F.TODO_STATUS_SENT]⟩,
   ⟨"PORCH_TRACE", 0x90400, 0, 32, 0x4, 1, 0x0, [F.PORCH_TRACE_WORD]⟩]
def regsTime : List Reg := regsTime0 ++ regsTime1

def F.EVT_SRC_CFG_REEL : Fld := ⟨464, 0, 5, .RW, (.const 0)⟩
def F.EVT_SRC_CFG_PF_DELIVER : Fld := ⟨465, 29, 1, .RW, (.const 1)⟩
def F.EVT_SRC_CFG_VF_VISIBLE : Fld := ⟨466, 30, 1, .RW, (.table [0, 0, 0, 0, 0, 0, 0, 0, 0, 0, 0, 0, 0, 0, 0, 0, 0, 0, 0, 0, 0, 0, 0, 0, 0, 0, 0, 0, 0, 0, 0, 0, 0, 0, 0, 0, 0, 0, 0, 0, 0, 0, 0, 0, 0, 0, 0, 0, 0, 0, 0, 0, 0, 0, 0, 0, 0, 0, 0, 0, 0, 0, 0, 0, 1, 0, 0, 0, 0, 0, 0, 0, 0, 0, 0, 0, 0, 0, 1, 1, 1, 0, 0, 1, 0, 0, 0, 0, 1, 1, 1, 0, 0, 0, 0, 0, 0, 0, 0, 0, 0, 0, 0, 0, 0, 0, 0, 0, 0, 0, 0, 0, 0, 0, 0, 0, 0, 0, 0, 0, 0, 0, 0, 0, 0, 0, 0, 0])⟩
def F.EVT_SRC_CFG_BUFFER : Fld := ⟨467, 31, 1, .RW, (.const 1)⟩
def F.EVT_VF_CFG_DROPS : Fld := ⟨468, 0, 16, .RO, (.const 0)⟩
def F.EVT_VF_CFG_ALLOW : Fld := ⟨469, 31, 1, .RW, (.const 0)⟩
def F.EVT_CFG_PORCH_FAULTS : Fld := ⟨470, 0, 1, .RW, (.const 0)⟩
def F.EVT_STATUS_LAST_SEQ : Fld := ⟨471, 0, 16, .RO, (.const 0)⟩
def F.EVT_STATUS_LATE_SEEN : Fld := ⟨472, 30, 1, .RO, (.const 0)⟩
def F.EVT_STATUS_WRAPPED : Fld := ⟨473, 31, 1, .RO, (.const 0)⟩
def F.EVT_LEVEL_HELD : Fld := ⟨474, 0, 16, .RO, (.const 0)⟩
def F.EVT_LEVEL_BACKLOG : Fld := ⟨475, 16, 16, .RO, (.const 0)⟩
def F.EVT_EMITTED_COUNT : Fld := ⟨476, 0, 32, .RO, (.const 0)⟩
def F.EVT_DROPPED_COUNT : Fld := ⟨477, 0, 32, .RO, (.const 0)⟩
def F.EVT_LATE_COUNT_COUNT : Fld := ⟨478, 0, 32, .RO, (.const 0)⟩
def F.EVT_OLDEST_SEQ_SEQ : Fld := ⟨479, 0, 16, .RO, (.const 0)⟩
def F.EVT_READ_SEL_SEQ : Fld := ⟨480, 0, 16, .RW, (.const 0)⟩
def F.EVT_READ_SEL_VALID : Fld := ⟨481, 16, 1, .RO, (.const 0)⟩
def F.EVT_MERGE_MAX_DELAY_NS : Fld := ⟨482, 0, 16, .RO, (.const 0)⟩
def F.EVT_READ_DATA_WORD : Fld := ⟨483, 0, 32, .RO, (.const 0)⟩

/-- The registers of block EVENT (R225). -/
def regsEvent : List Reg :=
  [⟨"EVT_SRC_CFG", 0xa0000, 0, 128, 0x4, 1, 0x0, [F.EVT_SRC_CFG_REEL, F.EVT_SRC_CFG_PF_DELIVER, F.EVT_SRC_CFG_VF_VISIBLE, F.EVT_SRC_CFG_BUFFER]⟩,
   ⟨"EVT_VF_CFG", 0xa01fc, 1, 15, 0x4, 1, 0x0, [F.EVT_VF_CFG_DROPS, F.EVT_VF_CFG_ALLOW]⟩,
   ⟨"EVT_CFG", 0xa0240, 0, 1, 0x0, 1, 0x0, [F.EVT_CFG_PORCH_FAULTS]⟩,
   ⟨"EVT_STATUS", 0xa0244, 0, 1, 0x0, 1, 0x0, [F.EVT_STATUS_LAST_SEQ, F.EVT_STATUS_LATE_SEEN, F.EVT_STATUS_WRAPPED]⟩,
   ⟨"EVT_LEVEL", 0xa0248, 0, 1, 0x0, 1, 0x0, [F.EVT_LEVEL_HELD, F.EVT_LEVEL_BACKLOG]⟩,
   ⟨"EVT_EMITTED", 0xa024c, 0, 1, 0x0, 1, 0x0, [F.EVT_EMITTED_COUNT]⟩,
   ⟨"EVT_DROPPED", 0xa0250, 0, 1, 0x0, 1, 0x0, [F.EVT_DROPPED_COUNT]⟩,
   ⟨"EVT_LATE_COUNT", 0xa0254, 0, 1, 0x0, 1, 0x0, [F.EVT_LATE_COUNT_COUNT]⟩,
   ⟨"EVT_OLDEST_SEQ", 0xa0258, 0, 1, 0x0, 1, 0x0, [F.EVT_OLDEST_SEQ_SEQ]⟩,
   ⟨"EVT_READ_SEL", 0xa025c, 0, 1, 0x0, 1, 0x0, [F.EVT_READ_SEL_SEQ, F.EVT_READ_SEL_VALID]⟩,
   ⟨"EVT_MERGE_MAX", 0xa0260, 0, 1, 0x0, 1, 0x0, [F.EVT_MERGE_MAX_DELAY_NS]⟩,
   ⟨"EVT_READ_DATA", 0xa0280, 0, 8, 0x4, 1, 0x0, [F.EVT_READ_DATA_WORD]⟩]

def F.PORT_CFG_ENABLE : Fld := ⟨484, 0, 1, .RW, (.const 0)⟩
def F.PORT_CFG_AN37 : Fld := ⟨485, 1, 1, .RW, (.const 0)⟩
def F.PORT_CFG_MODE : Fld := ⟨486, 8, 4, .RW, (.const 0)⟩
def F.PORT_CFG_FEC : Fld := ⟨487, 16, 2, .RW, (.const 0)⟩
def F.PORT_CFG_TX_REF : Fld := ⟨488, 20, 4, .RW, (.const 0)⟩
def F.PORT_STATUS_LINK_UP : Fld := ⟨489, 0, 1, .RO, (.const 0)⟩
def F.PORT_STATUS_CDR_LOCK : Fld := ⟨490, 1, 1, .RO, (.const 0)⟩
def F.PORT_STATUS_BLOCK_LOCK : Fld := ⟨491, 2, 1, .RO, (.const 0)⟩
def F.PORT_STATUS_FEC_LOCK : Fld := ⟨492, 3, 1, .RO, (.const 0)⟩
def F.PORT_STATUS_AN_DONE : Fld := ⟨493, 4, 1, .RO, (.const 0)⟩
def F.PORT_STATUS_HI_BER : Fld := ⟨494, 5, 1, .RO, (.const 0)⟩
def F.PORT_STATUS_FEC_IGNORED : Fld := ⟨495, 6, 1, .RO, (.const 0)⟩
def F.PORT_STATUS_TX_REF_FALLBACK : Fld := ⟨496, 7, 1, .RO, (.const 0)⟩
def F.PORT_STATUS_TX_REF_BAD : Fld := ⟨497, 8, 1, .RO, (.const 0)⟩
def F.PORT_STATUS_BRIDGED : Fld := ⟨498, 9, 1, .RO, (.const 0)⟩
def F.PORT_STATUS_DEGRADED : Fld := ⟨499, 10, 1, .RO, (.const 0)⟩
def F.PORT_EQ_CFG_FREEZE : Fld := ⟨500, 0, 1, .RW, (.const 0)⟩
def F.PORT_EQ_CFG_DFE_EN : Fld := ⟨501, 1, 1, .RW, (.const 1)⟩
def F.PORT_EQ_CFG_TX_PRE : Fld := ⟨502, 8, 6, .RW, (.const 4)⟩
def F.PORT_EQ_CFG_TX_MAIN : Fld := ⟨503, 16, 6, .RW, (.const 48)⟩
def F.PORT_EQ_CFG_TX_POST : Fld := ⟨504, 24, 6, .RW, (.const 8)⟩
def F.PORT_EQ_STATUS_CONVERGED : Fld := ⟨505, 0, 1, .RL, (.const 0)⟩
def F.PORT_EQ_STATUS_DFE_TAP1 : Fld := ⟨506, 8, 8, .RL, (.const 0)⟩
def F.PORT_EQ_STATUS_EYE_4MV : Fld := ⟨507, 16, 8, .RL, (.const 0)⟩
def F.PORT_EQ_STATUS_CTLE : Fld := ⟨508, 24, 8, .RL, (.const 0)⟩
def F.PORT_TX_LATENCY_LATENCY : Fld := ⟨509, 0, 32, .RO, (.const 0)⟩
def F.PORT_RX_LATENCY_LATENCY : Fld := ⟨510, 0, 32, .RO, (.const 0)⟩
def F.PORT_TS_ADJ_RX_ADJ : Fld := ⟨511, 0, 16, .RW, (.const 0)⟩
def F.PORT_TS_ADJ_TX_ADJ : Fld := ⟨512, 16, 16, .RW, (.const 0)⟩
def F.PORT_PTP_CFG_IPV6 : Fld := ⟨513, 0, 1, .RW, (.const 1)⟩
def F.PORT_PTP_CFG_IPV4 : Fld := ⟨514, 1, 1, .RW, (.const 1)⟩
def F.PORT_PTP_CFG_L2 : Fld := ⟨515, 2, 1, .RW, (.const 1)⟩
def F.PORT_MAC_LO_ADDR : Fld := ⟨516, 0, 32, .RW, (.const 0)⟩
def F.PORT_MAC_HI_ADDR : Fld := ⟨517, 0, 16, .RW, (.const 0)⟩
def F.PORT_SYNCE_CFG_ESMC_RX : Fld := ⟨518, 2, 1, .RW, (.const 1)⟩
def F.PORT_SYNCE_CFG_ESSM_TX : Fld := ⟨519, 3, 1, .RW, (.const 0)⟩
def F.PORT_SYNCE_CFG_ESMC_TX : Fld := ⟨520, 4, 2, .RW, (.const 0)⟩
def F.PORT_SYNCE_CFG_LN_DIV : Fld := ⟨521, 8, 8, .RW, (.const 16)⟩
def F.PORT_SYNCE_CFG_FIXED_QL : Fld := ⟨522, 16, 8, .RW, (.const 128)⟩
def F.PORT_SYNCE_CFG_HOLDOVER_QL : Fld := ⟨523, 24, 8, .RW, (.const 112)⟩
def F.PORT_ESMC_STATUS_LOOP_BLOCKED : Fld := ⟨524, 6, 1, .RO, (.const 0)⟩
def F.PORT_ESMC_STATUS_RX_ESSM_VALID : Fld := ⟨525, 7, 1, .RO, (.const 0)⟩
def F.PORT_ESMC_STATUS_RX_ESSM : Fld := ⟨526, 8, 8, .RO, (.const 0)⟩
def F.PORT_ESMC_STATUS_RX_SSM : Fld := ⟨527, 16, 4, .RO, (.const 0)⟩
def F.PORT_ESMC_STATUS_TX_SSM : Fld := ⟨528, 20, 4, .RO, (.const 15)⟩
def F.PORT_ESMC_STATUS_TX_QL : Fld := ⟨529, 24, 8, .RO, (.const 240)⟩
def F.PORT_ESMC_AGE_AGE_MS : Fld := ⟨530, 0, 16, .RO, (.const 0xffff)⟩
def F.PORT_CUE_STATUS_PENDING : Fld := ⟨531, 0, 13, .RO, (.const 0)⟩
def F.PORT_CTRL_RESTART_LINK : Fld := ⟨532, 0, 1, .WT, (.const 0)⟩
def F.PORT_CTRL_RESTART_EQ : Fld := ⟨533, 1, 1, .WT, (.const 0)⟩
def F.PORT_UP_TIME_SECONDS : Fld := ⟨534, 0, 32, .RO, (.const 0)⟩
def F.PORT_COUNTER_COUNT : Fld := ⟨535, 0, 32, .RO, (.const 0)⟩

/-- The registers of block PORT (R249). -/
def regsPort0 : List Reg :=
  [⟨"PORT_CFG", 0xb0000, 0, 8, 0x100, 1, 0x0, [F.PORT_CFG_ENABLE, F.PORT_CFG_AN37, F.PORT_CFG_MODE, F.PORT_CFG_FEC, F.PORT_CFG_TX_REF]⟩,
   ⟨"PORT_STATUS", 0xb0004, 0, 8, 0x100, 1, 0x0, [F.PORT_STATUS_LINK_UP, F.PORT_STATUS_CDR_LOCK, F.PORT_STATUS_BLOCK_LOCK, F.PORT_STATUS_FEC_LOCK, F.PORT_STATUS_AN_DONE, F.PORT_STATUS_HI_BER, F.PORT_STATUS_FEC_IGNORED, F.PORT_STATUS_TX_REF_FALLBACK, F.PORT_STATUS_TX_REF_BAD, F.PORT_STATUS_BRIDGED, F.PORT_STATUS_DEGRADED]⟩,
   ⟨"PORT_EQ_CFG", 0xb0008, 0, 8, 0x100, 1, 0x0, [F.PORT_EQ_CFG_FREEZE, F.PORT_EQ_CFG_DFE_EN, F.PORT_EQ_CFG_TX_PRE, F.PORT_EQ_CFG_TX_MAIN, F.PORT_EQ_CFG_TX_POST]⟩,
   ⟨"PORT_EQ_STATUS", 0xb000c, 0, 8, 0x100, 1, 0x0, [F.PORT_EQ_STATUS_CONVERGED, F.PORT_EQ_STATUS_DFE_TAP1, F.PORT_EQ_STATUS_EYE_4MV, F.PORT_EQ_STATUS_CTLE]⟩,
   ⟨"PORT_TX_LATENCY", 0xb0010, 0, 8, 0x100, 1, 0x0, [F.PORT_TX_LATENCY_LATENCY]⟩,
   ⟨"PORT_RX_LATENCY", 0xb0014, 0, 8, 0x100, 1, 0x0, [F.PORT_RX_LATENCY_LATENCY]⟩,
   ⟨"PORT_TS_ADJ", 0xb0018, 0, 8, 0x100, 1, 0x0, [F.PORT_TS_ADJ_RX_ADJ, F.PORT_TS_ADJ_TX_ADJ]⟩,
   ⟨"PORT_PTP_CFG", 0xb001c, 0, 8, 0x100, 1, 0x0, [F.PORT_PTP_CFG_IPV6, F.PORT_PTP_CFG_IPV4, F.PORT_PTP_CFG_L2]⟩,
   ⟨"PORT_MAC_LO", 0xb0020, 0, 8, 0x100, 1, 0x0, [F.PORT_MAC_LO_ADDR]⟩,
   ⟨"PORT_MAC_HI", 0xb0024, 0, 8, 0x100, 1, 0x0, [F.PORT_MAC_HI_ADDR]⟩,
   ⟨"PORT_SYNCE_CFG", 0xb0028, 0, 8, 0x100, 1, 0x0, [F.PORT_SYNCE_CFG_ESMC_RX, F.PORT_SYNCE_CFG_ESSM_TX, F.PORT_SYNCE_CFG_ESMC_TX, F.PORT_SYNCE_CFG_LN_DIV, F.PORT_SYNCE_CFG_FIXED_QL, F.PORT_SYNCE_CFG_HOLDOVER_QL]⟩,
   ⟨"PORT_ESMC_STATUS", 0xb002c, 0, 8, 0x100, 1, 0x0, [F.PORT_ESMC_STATUS_LOOP_BLOCKED, F.PORT_ESMC_STATUS_RX_ESSM_VALID, F.PORT_ESMC_STATUS_RX_ESSM, F.PORT_ESMC_STATUS_RX_SSM, F.PORT_ESMC_STATUS_TX_SSM, F.PORT_ESMC_STATUS_TX_QL]⟩]
def regsPort1 : List Reg :=
  [⟨"PORT_ESMC_AGE", 0xb0030, 0, 8, 0x100, 1, 0x0, [F.PORT_ESMC_AGE_AGE_MS]⟩,
   ⟨"PORT_CUE_STATUS", 0xb0034, 0, 8, 0x100, 1, 0x0, [F.PORT_CUE_STATUS_PENDING]⟩,
   ⟨"PORT_CTRL", 0xb0038, 0, 8, 0x100, 1, 0x0, [F.PORT_CTRL_RESTART_LINK, F.PORT_CTRL_RESTART_EQ]⟩,
   ⟨"PORT_UP_TIME", 0xb003c, 0, 8, 0x100, 1, 0x0, [F.PORT_UP_TIME_SECONDS]⟩,
   ⟨"PORT_COUNTER", 0xb0080, 0, 8, 0x100, 32, 0x4, [F.PORT_COUNTER_COUNT]⟩]
def regsPort : List Reg := regsPort0 ++ regsPort1

end Sys2Proof.Machine
end

