-- ==== Sys2Proof/Machine/FieldsC.lean ====
section
/-! DEFINITION. Register fields of the blocks BRIDGE, SERVICE, SERVO, HOST, PEER, FAULT: number, place, access type and
reset value of each, as the register maps of the spec give them (one rule per block, named at its list). -/

namespace Sys2Proof.Machine

def F.BR_CFG_ENABLE : Fld := ⟨536, 0, 1, .RW, (.const 0)⟩
def F.BR_CFG_RATE_COMP : Fld := ⟨537, 2, 1, .RW, (.const 1)⟩
def F.BR_CFG_COPY_PTP : Fld := ⟨538, 3, 1, .RW, (.const 0)⟩
def F.BR_CFG_CORRECT : Fld := ⟨539, 4, 4, .RW, (.const 3)⟩
def F.BR_CFG_COPY_REEL : Fld := ⟨540, 8, 6, .RW, (.const 0)⟩
def F.BR_STATUS_STATE : Fld := ⟨541, 0, 3, .RO, (.const 0)⟩
def F.BR_STATUS_RATE_COMP_EVEN : Fld := ⟨542, 3, 1, .RO, (.const 0)⟩
def F.BR_STATUS_RATE_COMP_ODD : Fld := ⟨543, 4, 1, .RO, (.const 0)⟩
def F.BR_RESIDENCE_RES : Fld := ⟨544, 0, 32, .RO, (.const 0)⟩
def F.BR_COUNTER_COUNT : Fld := ⟨545, 0, 32, .RO, (.const 0)⟩

/-- The registers of block BRIDGE (R251). -/
def regsBridge : List Reg :=
  [⟨"BR_CFG", 0xc0000, 0, 4, 0x20, 1, 0x0, [F.BR_CFG_ENABLE, F.BR_CFG_RATE_COMP, F.BR_CFG_COPY_PTP, F.BR_CFG_CORRECT, F.BR_CFG_COPY_REEL]⟩,
   ⟨"BR_STATUS", 0xc0004, 0, 4, 0x20, 1, 0x0, [F.BR_STATUS_STATE, F.BR_STATUS_RATE_COMP_EVEN, F.BR_STATUS_RATE_COMP_ODD]⟩,
   ⟨"BR_RESIDENCE", 0xc0008, 0, 4, 0x20, 1, 0x0, [F.BR_RESIDENCE_RES]⟩,
   ⟨"BR_COUNTER", 0xc000c, 0, 4, 0x20, 5, 0x4, [F.BR_COUNTER_COUNT]⟩]

def F.SVC_CFG_DOMAIN : Fld := ⟨546, 16, 8, .RW, (.const 44)⟩
def F.SVC_CFG_PROFILE : Fld := ⟨547, 28, 2, .RW, (.const 1)⟩
def F.SVC_CFG_ROLE : Fld := ⟨548, 30, 1, .RW, (.const 0)⟩
def F.SVC_CFG_ENABLE : Fld := ⟨549, 31, 1, .RW, (.const 0)⟩
def F.SVC_STATUS_CLIENTS : Fld := ⟨550, 0, 15, .RO, (.const 0)⟩
def F.SVC_STATUS_PAIRED : Fld := ⟨551, 15, 1, .RO, (.const 0)⟩
def F.SVC_STATUS_CFG_BAD : Fld := ⟨552, 16, 1, .RO, (.const 0)⟩
def F.SVC_STATUS_CLASS_ROW : Fld := ⟨553, 17, 4, .RO, (.const 2)⟩
def F.SVC_STATUS_CLOCK_CLASS : Fld := ⟨554, 21, 8, .RO, (.const 248)⟩
def F.SVC_STATUS_STATE : Fld := ⟨555, 29, 3, .RO, (.const 0)⟩
def F.SVC_ANNOUNCE_TIME_SOURCE : Fld := ⟨556, 8, 8, .RW, (.const 0)⟩
def F.SVC_ANNOUNCE_PRIORITY2 : Fld := ⟨557, 16, 8, .RW, (.const 128)⟩
def F.SVC_ANNOUNCE_PRIORITY1 : Fld := ⟨558, 24, 8, .RW, (.const 128)⟩
def F.SVC_CLASS_CFG_FREE_CLASS : Fld := ⟨559, 0, 8, .RW, (.const 248)⟩
def F.SVC_CLASS_CFG_BC_OOS_CLASS : Fld := ⟨560, 8, 8, .RW, (.const 165)⟩
def F.SVC_CLASS_CFG_OOS_CLASS : Fld := ⟨561, 16, 8, .RW, (.const 150)⟩
def F.SVC_CLASS_CFG_DEGRADED_CLASS : Fld := ⟨562, 24, 8, .RW, (.const 248)⟩
def F.SVC_GRANT_CFG_ANN_FAST_LOG : Fld := ⟨563, 0, 4, .RW, (.const 13)⟩
def F.SVC_GRANT_CFG_FAST_LOG : Fld := ⟨564, 4, 4, .RW, (.const 9)⟩
def F.SVC_GRANT_CFG_DUR_MIN_S : Fld := ⟨565, 8, 12, .RW, (.const 60)⟩
def F.SVC_GRANT_CFG_DUR_MAX_S : Fld := ⟨566, 20, 12, .RW, (.const 1000)⟩
def F.SVC_LOAD_GRANTED : Fld := ⟨567, 0, 23, .RO, (.const 0)⟩
def F.SVC_TBL_CTRL_INDEX : Fld := ⟨568, 0, 14, .RW, (.const 0)⟩
def F.SVC_TBL_CTRL_OP : Fld := ⟨569, 28, 4, .WT, (.const 0)⟩
def F.SVC_TBL_STATUS_FOUND : Fld := ⟨570, 0, 14, .RO, (.const 0)⟩
def F.SVC_TBL_STATUS_DIRECT : Fld := ⟨571, 14, 13, .RO, (.const 0)⟩
def F.SVC_TBL_STATUS_RESULT : Fld := ⟨572, 27, 4, .RO, (.const 0)⟩
def F.SVC_TBL_STATUS_BUSY : Fld := ⟨573, 31, 1, .RO, (.const 0)⟩
def F.SVC_TBL_DATA_WORD : Fld := ⟨574, 0, 32, .RW, (.const 0)⟩
def F.NTP_CFG_DISP_MIN : Fld := ⟨575, 0, 12, .RW, (.const 1)⟩
def F.NTP_CFG_PRECISION : Fld := ⟨576, 12, 8, .RO, (.const 227)⟩
def F.NTP_CFG_STRATUM : Fld := ⟨577, 20, 8, .RW, (.const 1)⟩
def F.NTP_CFG_KOD : Fld := ⟨578, 29, 1, .RW, (.const 0)⟩
def F.NTP_CFG_ANSWER_UNSYNC : Fld := ⟨579, 30, 1, .RW, (.const 0)⟩
def F.NTP_CFG_ENABLE : Fld := ⟨580, 31, 1, .RW, (.const 0)⟩
def F.NTP_REFID_REFID : Fld := ⟨581, 0, 32, .RW, (.const 0)⟩
def F.NTP_LIMIT_SEED : Fld := ⟨582, 0, 8, .RW, (.const 0)⟩
def F.NTP_LIMIT_BURST : Fld := ⟨583, 8, 8, .RW, (.const 16)⟩
def F.NTP_LIMIT_RATE_PER_S : Fld := ⟨584, 16, 16, .RW, (.const 64)⟩
def F.NTP_STATUS_ANSWERING : Fld := ⟨585, 0, 1, .RO, (.const 0)⟩
def F.NTP_STATUS_STRATUM : Fld := ⟨586, 8, 8, .RO, (.const 16)⟩
def F.NTP_STATUS_LI : Fld := ⟨587, 16, 3, .RO, (.const 3)⟩
def F.SVC_COUNTER_COUNT : Fld := ⟨588, 0, 32, .RO, (.const 0)⟩
def F.SVC_PORT_CFG_DREQ_RESERVE : Fld := ⟨589, 0, 16, .RW, (.const 16)⟩
def F.SVC_PORT_CFG_ANN_LOG : Fld := ⟨590, 16, 4, .RW, (.const 13)⟩
def F.SVC_PORT_CFG_SYNC_LOG : Fld := ⟨591, 20, 4, .RW, (.const 12)⟩
def F.SVC_PORT_CFG_L2_NONFWD : Fld := ⟨592, 24, 1, .RW, (.const 0)⟩
def F.SVC_PORT_CFG_NTP : Fld := ⟨593, 25, 1, .RW, (.const 0)⟩
def F.SVC_PORT_CFG_P2P : Fld := ⟨594, 26, 1, .RW, (.const 0)⟩
def F.SVC_PORT_CFG_ONE_STEP : Fld := ⟨595, 27, 1, .RW, (.const 1)⟩
def F.SVC_PORT_CFG_MODE : Fld := ⟨596, 30, 2, .RW, (.const 0)⟩
def F.SVC_PORT_IPV4_ADDR : Fld := ⟨597, 0, 32, .RW, (.const 0)⟩
def F.SVC_PORT_IPV6_ADDR : Fld := ⟨598, 0, 32, .RW, (.const 0)⟩
def F.SVC_PORT_LOAD_GRANTED : Fld := ⟨599, 0, 21, .RO, (.const 0)⟩

/-- The registers of block SERVICE (R276). -/
def regsService0 : List Reg :=
  [⟨"SVC_CFG", 0xd0000, 0, 1, 0x0, 1, 0x0, [F.SVC_CFG_DOMAIN, F.SVC_CFG_PROFILE, F.SVC_CFG_ROLE, F.SVC_CFG_ENABLE]⟩,
   ⟨"SVC_STATUS", 0xd0004, 0, 1, 0x0, 1, 0x0, [F.SVC_STATUS_CLIENTS, F.SVC_STATUS_PAIRED, F.SVC_STATUS_CFG_BAD, F.SVC_STATUS_CLASS_ROW, F.SVC_STATUS_CLOCK_CLASS, F.SVC_STATUS_STATE]⟩,
   ⟨"SVC_ANNOUNCE", 0xd0008, 0, 1, 0x0, 1, 0x0, [F.SVC_ANNOUNCE_TIME_SOURCE, F.SVC_ANNOUNCE_PRIORITY2, F.SVC_ANNOUNCE_PRIORITY1]⟩,
   ⟨"SVC_CLASS_CFG", 0xd000c, 0, 1, 0x0, 1, 0x0, [F.SVC_CLASS_CFG_FREE_CLASS, F.SVC_CLASS_CFG_BC_OOS_CLASS, F.SVC_CLASS_CFG_OOS_CLASS, F.SVC_CLASS_CFG_DEGRADED_CLASS]⟩,
   ⟨"SVC_GRANT_CFG", 0xd0010, 0, 1, 0x0, 1, 0x0, [F.SVC_GRANT_CFG_ANN_FAST_LOG, F.SVC_GRANT_CFG_FAST_LOG, F.SVC_GRANT_CFG_DUR_MIN_S, F.SVC_GRANT_CFG_DUR_MAX_S]⟩,
   ⟨"SVC_LOAD", 0xd0014, 0, 1, 0x0, 1, 0x0, [F.SVC_LOAD_GRANTED]⟩,
   ⟨"SVC_TBL_CTRL", 0xd0018, 0, 1, 0x0, 1, 0x0, [F.SVC_TBL_CTRL_INDEX, F.SVC_TBL_CTRL_OP]⟩,
   ⟨"SVC_TBL_STATUS", 0xd001c, 0, 1, 0x0, 1, 0x0, [F.SVC_TBL_STATUS_FOUND, F.SVC_TBL_STATUS_DIRECT, F.SVC_TBL_STATUS_RESULT, F.SVC_TBL_STATUS_BUSY]⟩,
   ⟨"SVC_TBL_DATA", 0xd0020, 0, 16, 0x4, 1, 0x0, [F.SVC_TBL_DATA_WORD]⟩,
   ⟨"NTP_CFG", 0xd0060, 0, 1, 0x0, 1, 0x0, [F.NTP_CFG_DISP_MIN, F.NTP_CFG_PRECISION, F.NTP_CFG_STRATUM, F.NTP_CFG_KOD, F.NTP_CFG_ANSWER_UNSYNC, F.NTP_CFG_ENABLE]⟩,
   ⟨"NTP_REFID", 0xd0064, 0, 1, 0x0, 1, 0x0, [F.NTP_REFID_REFID]⟩,
   ⟨"NTP_LIMIT", 0xd0068, 0, 1, 0x0, 1, 0x0, [F.NTP_LIMIT_SEED, F.NTP_LIMIT_BURST, F.NTP_LIMIT_RATE_PER_S]⟩]
def regsService1 : List Reg :=
  [⟨"NTP_STATUS", 0xd006c, 0, 1, 0x0, 1, 0x0, [F.NTP_STATUS_ANSWERING, F.NTP_STATUS_STRATUM, F.NTP_STATUS_LI]⟩,
   ⟨"SVC_COUNTER", 0xd0080, 0, 12, 0x4, 1, 0x0, [F.SVC_COUNTER_COUNT]⟩,
   ⟨"SVC_PORT_CFG", 0xd0100, 0, 8, 0x20, 1, 0x0, [F.SVC_PORT_CFG_DREQ_RESERVE, F.SVC_PORT_CFG_ANN_LOG, F.SVC_PORT_CFG_SYNC_LOG, F.SVC_PORT_CFG_L2_NONFWD, F.SVC_PORT_CFG_NTP, F.SVC_PORT_CFG_P2P, F.SVC_PORT_CFG_ONE_STEP, F.SVC_PORT_CFG_MODE]⟩,
   ⟨"SVC_PORT_IPV4", 0xd0104, 0, 8, 0x20, 1, 0x0, [F.SVC_PORT_IPV4_ADDR]⟩,
   ⟨"SVC_PORT_IPV6", 0xd0108, 0, 8, 0x20, 4, 0x4, [F.SVC_PORT_IPV6_ADDR]⟩,
   ⟨"SVC_PORT_LOAD", 0xd0118, 0, 8, 0x20, 1, 0x0, [F.SVC_PORT_LOAD_GRANTED]⟩]
def regsService : List Reg := regsService0 ++ regsService1

def F.PK_CFG_FREQ_LOG : Fld := ⟨600, 12, 4, .RW, (.const 6)⟩
def F.PK_CFG_DOMAIN : Fld := ⟨601, 16, 8, .RW, (.const 44)⟩
def F.PK_CFG_UNICAST : Fld := ⟨602, 25, 1, .RW, (.const 0)⟩
def F.PK_CFG_TRANSPORT : Fld := ⟨603, 26, 2, .RW, (.const 0)⟩
def F.PK_CFG_PORT : Fld := ⟨604, 28, 3, .RW, (.const 0)⟩
def F.PK_CFG_ENABLE : Fld := ⟨605, 31, 1, .RW, (.const 0)⟩
def F.PK_MASTER_ADDR : Fld := ⟨606, 0, 32, .RW, (.const 0)⟩
def F.PK_RATES_DURATION_S : Fld := ⟨607, 0, 16, .RW, (.const 300)⟩
def F.PK_RATES_ANN_LOG : Fld := ⟨608, 20, 4, .RW, (.const 13)⟩
def F.PK_RATES_DREQ_LOG : Fld := ⟨609, 24, 4, .RW, (.const 12)⟩
def F.PK_RATES_SYNC_LOG : Fld := ⟨610, 28, 4, .RW, (.const 12)⟩
def F.PK_FILTER_SPREAD_LO_NS : Fld := ⟨611, 0, 8, .RW, (.const 10)⟩
def F.PK_FILTER_SPREAD_HI_NS : Fld := ⟨612, 8, 8, .RW, (.const 50)⟩
def F.PK_FILTER_WIN_MAX_LOG : Fld := ⟨613, 16, 4, .RW, (.const 9)⟩
def F.PK_FILTER_WIN_MIN_LOG : Fld := ⟨614, 20, 4, .RW, (.const 5)⟩
def F.PK_FILTER_SEL_PCT : Fld := ⟨615, 24, 8, .RW, (.const 10)⟩
def F.PK_ASYM_ASYM_PS : Fld := ⟨616, 0, 32, .RW, (.const 0)⟩
def F.PK_STATUS_LOSSES : Fld := ⟨617, 0, 16, .RO, (.const 0)⟩
def F.PK_STATUS_CFG_BAD : Fld := ⟨618, 22, 1, .RO, (.const 0)⟩
def F.PK_STATUS_PASSIVE : Fld := ⟨619, 23, 1, .RO, (.const 0)⟩
def F.PK_STATUS_TWO_STEP : Fld := ⟨620, 24, 1, .RO, (.const 0)⟩
def F.PK_STATUS_ANN_OK : Fld := ⟨621, 25, 1, .RO, (.const 0)⟩
def F.PK_STATUS_ANN_GRANTED : Fld := ⟨622, 26, 1, .RO, (.const 0)⟩
def F.PK_STATUS_DRESP_GRANTED : Fld := ⟨623, 27, 1, .RO, (.const 0)⟩
def F.PK_STATUS_SYNC_GRANTED : Fld := ⟨624, 28, 1, .RO, (.const 0)⟩
def F.PK_STATUS_STATE : Fld := ⟨625, 29, 3, .RO, (.const 0)⟩
def F.PK_ANNOUNCE_STEPS_REMOVED : Fld := ⟨626, 0, 8, .RO, (.const 0)⟩
def F.PK_ANNOUNCE_TIME_SOURCE : Fld := ⟨627, 8, 8, .RO, (.const 0)⟩
def F.PK_ANNOUNCE_CLOCK_ACCURACY : Fld := ⟨628, 16, 8, .RO, (.const 254)⟩
def F.PK_ANNOUNCE_CLOCK_CLASS : Fld := ⟨629, 24, 8, .RO, (.const 248)⟩
def F.PK_DELAY_DELAY : Fld := ⟨630, 0, 32, .RO, (.const 0)⟩
def F.PK_WINDOW_SPREAD_NS : Fld := ⟨631, 0, 8, .RO, (.const 0)⟩
def F.PK_WINDOW_N_REV : Fld := ⟨632, 8, 12, .RO, (.const 0)⟩
def F.PK_WINDOW_N_FWD : Fld := ⟨633, 20, 12, .RO, (.const 0)⟩

/-- The registers of block SERVO (R277). -/
def regsServo : List Reg :=
  [⟨"PK_CFG", 0xe0000, 0, 16, 0x40, 1, 0x0, [F.PK_CFG_FREQ_LOG, F.PK_CFG_DOMAIN, F.PK_CFG_UNICAST, F.PK_CFG_TRANSPORT, F.PK_CFG_PORT, F.PK_CFG_ENABLE]⟩,
   ⟨"PK_MASTER", 0xe0004, 0, 16, 0x40, 4, 0x4, [F.PK_MASTER_ADDR]⟩,
   ⟨"PK_RATES", 0xe0014, 0, 16, 0x40, 1, 0x0, [F.PK_RATES_DURATION_S, F.PK_RATES_ANN_LOG, F.PK_RATES_DREQ_LOG, F.PK_RATES_SYNC_LOG]⟩,
   ⟨"PK_FILTER", 0xe0018, 0, 16, 0x40, 1, 0x0, [F.PK_FILTER_SPREAD_LO_NS, F.PK_FILTER_SPREAD_HI_NS, F.PK_FILTER_WIN_MAX_LOG, F.PK_FILTER_WIN_MIN_LOG, F.PK_FILTER_SEL_PCT]⟩,
   ⟨"PK_ASYM", 0xe001c, 0, 16, 0x40, 1, 0x0, [F.PK_ASYM_ASYM_PS]⟩,
   ⟨"PK_STATUS", 0xe0020, 0, 16, 0x40, 1, 0x0, [F.PK_STATUS_LOSSES, F.PK_STATUS_CFG_BAD, F.PK_STATUS_PASSIVE, F.PK_STATUS_TWO_STEP, F.PK_STATUS_ANN_OK, F.PK_STATUS_ANN_GRANTED, F.PK_STATUS_DRESP_GRANTED, F.PK_STATUS_SYNC_GRANTED, F.PK_STATUS_STATE]⟩,
   ⟨"PK_ANNOUNCE", 0xe0024, 0, 16, 0x40, 1, 0x0, [F.PK_ANNOUNCE_STEPS_REMOVED, F.PK_ANNOUNCE_TIME_SOURCE, F.PK_ANNOUNCE_CLOCK_ACCURACY, F.PK_ANNOUNCE_CLOCK_CLASS]⟩,
   ⟨"PK_DELAY", 0xe0028, 0, 16, 0x40, 1, 0x0, [F.PK_DELAY_DELAY]⟩,
   ⟨"PK_WINDOW", 0xe002c, 0, 16, 0x40, 1, 0x0, [F.PK_WINDOW_SPREAD_NS, F.PK_WINDOW_N_REV, F.PK_WINDOW_N_FWD]⟩]

def F.HOST_STATUS_NUM_VF : Fld := ⟨634, 0, 4, .RO, (.const 0)⟩
def F.HOST_STATUS_D_STATE : Fld := ⟨635, 16, 2, .RO, (.const 0)⟩
def F.HOST_STATUS_ADMIN_VER : Fld := ⟨636, 24, 4, .RO, (.const 1)⟩
def F.HOST_STATUS_READY : Fld := ⟨637, 31, 1, .RO, (.const 0)⟩
def F.HOST_LINK_DOWNS : Fld := ⟨638, 0, 8, .RO, (.const 0)⟩
def F.HOST_LINK_RETRAINS : Fld := ⟨639, 8, 8, .RO, (.const 0)⟩
def F.HOST_LINK_WIDTH : Fld := ⟨640, 24, 4, .RO, (.const 0)⟩
def F.HOST_LINK_SPEED : Fld := ⟨641, 28, 4, .RO, (.const 0)⟩
def F.HOST_CAP_ADMIN_VERS : Fld := ⟨642, 0, 4, .RO, (.const 6)⟩
def F.HOST_CAP_FORMATS : Fld := ⟨643, 4, 4, .RO, (.const 6)⟩
def F.HOST_CAP_ADMIN_REELS : Fld := ⟨644, 8, 2, .RO, (.const 2)⟩
def F.HOST_CAP_EVT_REELS : Fld := ⟨645, 10, 6, .RO, (.const 32)⟩
def F.HOST_CAP_RX_REELS : Fld := ⟨646, 16, 8, .RO, (.const 64)⟩
def F.HOST_CAP_TX_REELS : Fld := ⟨647, 24, 8, .RO, (.const 64)⟩
def F.HOST_CTRL_RELEASE_US : Fld := ⟨648, 0, 7, .RW, (.const 10)⟩
def F.HOST_CTRL_ERR_EN : Fld := ⟨649, 23, 1, .RW, (.const 0)⟩
def F.HOST_CTRL_ERR_VECTOR : Fld := ⟨650, 24, 8, .RW, (.const 0)⟩
def F.HOST_ERR_STATUS_REASON : Fld := ⟨651, 20, 4, .RO, (.const 0)⟩
def F.HOST_ERR_STATUS_REEL : Fld := ⟨652, 24, 8, .RO, (.const 255)⟩
def F.HOST_ERR_ADDR_LO_ADDR : Fld := ⟨653, 0, 32, .RO, (.const 0)⟩
def F.HOST_ERR_ADDR_HI_ADDR : Fld := ⟨654, 0, 32, .RO, (.const 0)⟩
def F.HOST_ERR_COUNT_COUNT : Fld := ⟨655, 0, 32, .RO, (.const 0)⟩
def F.HOST_REEL_COUNT_ADMIN : Fld := ⟨656, 0, 2, .RO, (.const 0)⟩
def F.HOST_REEL_COUNT_EVENT : Fld := ⟨657, 8, 6, .RO, (.const 0)⟩
def F.HOST_REEL_COUNT_RX : Fld := ⟨658, 16, 7, .RO, (.const 0)⟩
def F.HOST_REEL_COUNT_TX : Fld := ⟨659, 24, 7, .RO, (.const 0)⟩
def F.HOST_CUE_STORE_PENDING : Fld := ⟨660, 0, 13, .RO, (.const 0)⟩
def F.HOST_CUE_STORE_HIGH_WATER : Fld := ⟨661, 16, 16, .RO, (.const 0)⟩
def F.HOST_FETCH_LATE_COUNT : Fld := ⟨662, 0, 32, .RO, (.const 0)⟩
def F.HOST_DB_ERR_LAST_OFFSET : Fld := ⟨663, 0, 16, .RO, (.const 0)⟩
def F.HOST_DB_ERR_COUNT : Fld := ⟨664, 16, 16, .RO, (.const 0)⟩
def F.HOST_MSIX_SENT_COUNT : Fld := ⟨665, 0, 32, .RO, (.const 0)⟩
def F.HOST_RESET_INFO_COUNT : Fld := ⟨666, 0, 16, .RO, (.const 0)⟩
def F.HOST_RESET_INFO_LAST : Fld := ⟨667, 24, 8, .RO, (.const 0)⟩
def F.ADMIN_SQ_LO_ADDR : Fld := ⟨668, 0, 32, .RW, (.const 0)⟩
def F.ADMIN_SQ_HI_ADDR : Fld := ⟨669, 0, 32, .RW, (.const 0)⟩
def F.ADMIN_CQ_LO_ADDR : Fld := ⟨670, 0, 32, .RW, (.const 0)⟩
def F.ADMIN_CQ_HI_ADDR : Fld := ⟨671, 0, 32, .RW, (.const 0)⟩
def F.ADMIN_CFG_SIZE_LOG : Fld := ⟨672, 0, 4, .RW, (.const 0)⟩
def F.ADMIN_CFG_VECTOR : Fld := ⟨673, 16, 8, .RW, (.const 0)⟩
def F.ADMIN_CFG_ENABLE : Fld := ⟨674, 31, 1, .RW, (.const 0)⟩
def F.ADMIN_STATUS_EXECUTED : Fld := ⟨675, 0, 16, .RO, (.const 0)⟩
def F.ADMIN_STATUS_REASON : Fld := ⟨676, 20, 4, .RO, (.const 0)⟩
def F.ADMIN_STATUS_RESULT : Fld := ⟨677, 24, 6, .RO, (.const 0)⟩
def F.ADMIN_STATUS_STATE : Fld := ⟨678, 30, 2, .RO, (.const 0)⟩
def F.HOST_PORT_RX_REEL : Fld := ⟨679, 0, 6, .RW, (.const 0)⟩
def F.HOST_PORT_RX_ENABLE : Fld := ⟨680, 31, 1, .RW, (.const 0)⟩
def F.HOST_VF_CFG_EVT_MAX_LOG : Fld := ⟨681, 0, 5, .RW, (.const 11)⟩
def F.HOST_VF_CFG_TIME_EN : Fld := ⟨682, 31, 1, .RW, (.const 1)⟩
def F.HOST_VF_STATUS_FLRS : Fld := ⟨683, 0, 16, .RO, (.const 0)⟩
def F.HOST_VF_STATUS_REEL_FAULTED : Fld := ⟨684, 29, 1, .RO, (.const 0)⟩
def F.HOST_VF_STATUS_REEL_ACTIVE : Fld := ⟨685, 30, 1, .RO, (.const 0)⟩
def F.HOST_VF_STATUS_ENABLED : Fld := ⟨686, 31, 1, .RO, (.const 0)⟩

/-- The registers of block HOST (R303). -/
def regsHost0 : List Reg :=
  [⟨"HOST_STATUS", 0xf0000, 0, 1, 0x0, 1, 0x0, [F.HOST_STATUS_NUM_VF, F.HOST_STATUS_D_STATE, F.HOST_STATUS_ADMIN_VER, F.HOST_STATUS_READY]⟩,
   ⟨"HOST_LINK", 0xf0004, 0, 1, 0x0, 1, 0x0, [F.HOST_LINK_DOWNS, F.HOST_LINK_RETRAINS, F.HOST_LINK_WIDTH, F.HOST_LINK_SPEED]⟩,
   ⟨"HOST_CAP", 0xf0008, 0, 1, 0x0, 1, 0x0, [F.HOST_CAP_ADMIN_VERS, F.HOST_CAP_FORMATS, F.HOST_CAP_ADMIN_REELS, F.HOST_CAP_EVT_REELS, F.HOST_CAP_RX_REELS, F.HOST_CAP_TX_REELS]⟩,
   ⟨"HOST_CTRL", 0xf000c, 0, 1, 0x0, 1, 0x0, [F.HOST_CTRL_RELEASE_US, F.HOST_CTRL_ERR_EN, F.HOST_CTRL_ERR_VECTOR]⟩,
   ⟨"HOST_ERR_STATUS", 0xf0010, 0, 1, 0x0, 1, 0x0, [F.HOST_ERR_STATUS_REASON, F.HOST_ERR_STATUS_REEL]⟩,
   ⟨"HOST_ERR_ADDR_LO", 0xf0014, 0, 1, 0x0, 1, 0x0, [F.HOST_ERR_ADDR_LO_ADDR]⟩,
   ⟨"HOST_ERR_ADDR_HI", 0xf0018, 0, 1, 0x0, 1, 0x0, [F.HOST_ERR_ADDR_HI_ADDR]⟩,
   ⟨"HOST_ERR_COUNT", 0xf001c, 0, 1, 0x0, 1, 0x0, [F.HOST_ERR_COUNT_COUNT]⟩,
   ⟨"HOST_REEL_COUNT", 0xf0020, 0, 1, 0x0, 1, 0x0, [F.HOST_REEL_COUNT_ADMIN, F.HOST_REEL_COUNT_EVENT, F.HOST_REEL_COUNT_RX, F.HOST_REEL_COUNT_TX]⟩,
   ⟨"HOST_CUE_STORE", 0xf0024, 0, 1, 0x0, 1, 0x0, [F.HOST_CUE_STORE_PENDING, F.HOST_CUE_STORE_HIGH_WATER]⟩,
   ⟨"HOST_FETCH_LATE", 0xf0028, 0, 1, 0x0, 1, 0x0, [F.HOST_FETCH_LATE_COUNT]⟩,
   ⟨"HOST_DB_ERR", 0xf002c, 0, 1, 0x0, 1, 0x0, [F.HOST_DB_ERR_LAST_OFFSET, F.HOST_DB_ERR_COUNT]⟩]
def regsHost1 : List Reg :=
  [⟨"HOST_MSIX_SENT", 0xf0030, 0, 1, 0x0, 1, 0x0, [F.HOST_MSIX_SENT_COUNT]⟩,
   ⟨"HOST_RESET_INFO", 0xf0034, 0, 1, 0x0, 1, 0x0, [F.HOST_RESET_INFO_COUNT, F.HOST_RESET_INFO_LAST]⟩,
   ⟨"ADMIN_SQ_LO", 0xf0100, 0, 2, 0x20, 1, 0x0, [F.ADMIN_SQ_LO_ADDR]⟩,
   ⟨"ADMIN_SQ_HI", 0xf0104, 0, 2, 0x20, 1, 0x0, [F.ADMIN_SQ_HI_ADDR]⟩,
   ⟨"ADMIN_CQ_LO", 0xf0108, 0, 2, 0x20, 1, 0x0, [F.ADMIN_CQ_LO_ADDR]⟩,
   ⟨"ADMIN_CQ_HI", 0xf010c, 0, 2, 0x20, 1, 0x0, [F.ADMIN_CQ_HI_ADDR]⟩,
   ⟨"ADMIN_CFG", 0xf0110, 0, 2, 0x20, 1, 0x0, [F.ADMIN_CFG_SIZE_LOG, F.ADMIN_CFG_VECTOR, F.ADMIN_CFG_ENABLE]⟩,
   ⟨"ADMIN_STATUS", 0xf0114, 0, 2, 0x20, 1, 0x0, [F.ADMIN_STATUS_EXECUTED, F.ADMIN_STATUS_REASON, F.ADMIN_STATUS_RESULT, F.ADMIN_STATUS_STATE]⟩,
   ⟨"HOST_PORT_RX", 0xf0200, 0, 8, 0x4, 1, 0x0, [F.HOST_PORT_RX_REEL, F.HOST_PORT_RX_ENABLE]⟩,
   ⟨"HOST_VF_CFG", 0xf0300, 1, 15, 0x10, 1, 0x0, [F.HOST_VF_CFG_EVT_MAX_LOG, F.HOST_VF_CFG_TIME_EN]⟩,
   ⟨"HOST_VF_STATUS", 0xf0304, 1, 15, 0x10, 1, 0x0, [F.HOST_VF_STATUS_FLRS, F.HOST_VF_STATUS_REEL_FAULTED, F.HOST_VF_STATUS_REEL_ACTIVE, F.HOST_VF_STATUS_ENABLED]⟩]
def regsHost : List Reg := regsHost0 ++ regsHost1

def F.PEER_CFG_CLAIM_EN : Fld := ⟨714, 1, 1, .RW, (.const 1)⟩
def F.PEER_CFG_VERSIONS : Fld := ⟨715, 8, 4, .RW, (.const 14)⟩
def F.PEER_CFG_CONFIRM : Fld := ⟨716, 16, 4, .RW, (.const 2)⟩
def F.PEER_CFG_STANDBY_ROOT : Fld := ⟨717, 24, 8, .RW, (.const 41)⟩
def F.PEER_TIMING_ALIGN_TOL_PS : Fld := ⟨718, 0, 16, .RW, (.const 30)⟩
def F.PEER_TIMING_RECLAIM_MS : Fld := ⟨719, 16, 8, .RW, (.const 10)⟩
def F.PEER_TIMING_ALIGN_HOLD_S : Fld := ⟨720, 24, 8, .RW, (.const 10)⟩
def F.PEER_STATUS_BLOCK_CAUSE : Fld := ⟨721, 12, 4, .RO, (.const 0)⟩
def F.PEER_STATUS_ELIGIBLE : Fld := ⟨722, 17, 1, .RO, (.const 0)⟩
def F.PEER_STATUS_HB_CURRENT : Fld := ⟨723, 18, 1, .RO, (.const 0)⟩
def F.PEER_STATUS_CFG_MATCH : Fld := ⟨724, 19, 1, .RO, (.const 1)⟩
def F.PEER_STATUS_ALIGNED : Fld := ⟨725, 20, 1, .RO, (.const 0)⟩
def F.PEER_STATUS_CLAIM_OUT : Fld := ⟨726, 21, 1, .RO, (.const 0)⟩
def F.PEER_STATUS_CLAIM_IN : Fld := ⟨727, 22, 2, .RO, (.const 0)⟩
def F.PEER_STATUS_VERSION : Fld := ⟨728, 24, 2, .RO, (.const 0)⟩
def F.PEER_STATUS_LINK_STATE : Fld := ⟨729, 26, 3, .RO, (.const 0)⟩
def F.PEER_STATUS_PAIR_STATE : Fld := ⟨730, 29, 3, .RO, (.const 1)⟩
def F.PEER_STRAPS_SLOT : Fld := ⟨731, 0, 1, .RO, (.const 0)⟩
def F.PEER_STRAPS_SOLE : Fld := ⟨732, 1, 1, .RO, (.const 0)⟩
def F.PEER_STRAPS_CLAIM_IN_P : Fld := ⟨733, 2, 1, .RO, (.const 0)⟩
def F.PEER_STRAPS_CLAIM_IN_N : Fld := ⟨734, 3, 1, .RO, (.const 0)⟩
def F.PEER_PARTNER_ROOT_QL : Fld := ⟨735, 8, 8, .RO, (.const 0)⟩
def F.PEER_PARTNER_LANE0_UP : Fld := ⟨736, 17, 1, .RO, (.const 0)⟩
def F.PEER_PARTNER_LANE1_UP : Fld := ⟨737, 18, 1, .RO, (.const 0)⟩
def F.PEER_PARTNER_CLAIM_EN : Fld := ⟨738, 19, 1, .RO, (.const 0)⟩
def F.PEER_PARTNER_FAULT_LATCHED : Fld := ⟨739, 20, 1, .RO, (.const 0)⟩
def F.PEER_PARTNER_SVC_STATE : Fld := ⟨740, 21, 3, .RO, (.const 0)⟩
def F.PEER_PARTNER_DPLL_STATE : Fld := ⟨741, 24, 3, .RO, (.const 0)⟩
def F.PEER_PARTNER_STAGE : Fld := ⟨742, 27, 2, .RO, (.const 0)⟩
def F.PEER_PARTNER_PAIR_STATE : Fld := ⟨743, 29, 3, .RO, (.const 0)⟩
def F.PEER_ALIGN_ERR : Fld := ⟨744, 0, 32, .RO, (.const 0x80000000)⟩
def F.PEER_SWITCH_GO : Fld := ⟨745, 0, 1, .WT, (.const 0)⟩
def F.PEER_SWITCH_FORCE : Fld := ⟨746, 1, 1, .WT, (.const 0)⟩
def F.PEER_SWITCH_KEY : Fld := ⟨747, 16, 16, .WT, (.const 0)⟩
def F.PEER_SWITCH_STATUS_ORIGIN : Fld := ⟨748, 12, 3, .RO, (.const 0)⟩
def F.PEER_SWITCH_STATUS_IN_PROGRESS : Fld := ⟨749, 15, 1, .RO, (.const 0)⟩
def F.PEER_SWITCH_STATUS_RESULT : Fld := ⟨750, 16, 8, .RO, (.const 255)⟩
def F.PEER_SWITCH_STATUS_COUNT : Fld := ⟨751, 24, 8, .RO, (.const 0)⟩
def F.PEER_HB_RX_COUNT : Fld := ⟨752, 0, 32, .RO, (.const 0)⟩
def F.PEER_HB_MISSED_COUNT : Fld := ⟨753, 0, 32, .RO, (.const 0)⟩
def F.PEER_COUNTS_HB_LOSSES : Fld := ⟨754, 0, 16, .RO, (.const 0)⟩
def F.PEER_COUNTS_FAILOVERS : Fld := ⟨755, 16, 16, .RO, (.const 0)⟩
def F.PEER_LAST_FAILOVER_LEN_US : Fld := ⟨756, 0, 32, .RO, (.const 0)⟩
def F.PEER_CLAIM_EVENTS_BROKEN : Fld := ⟨757, 0, 16, .RO, (.const 0)⟩
def F.PEER_CLAIM_EVENTS_CONFLICTS : Fld := ⟨758, 16, 16, .RO, (.const 0)⟩
def F.PEER_TABLE_SYNC_BACKLOG : Fld := ⟨759, 0, 15, .RO, (.const 0)⟩
def F.PEER_TABLE_SYNC_BULK : Fld := ⟨760, 31, 1, .RO, (.const 0)⟩
def F.PEER_CFG_DIGEST_DIGEST : Fld := ⟨761, 0, 32, .RO, (.const 0)⟩
def F.PEER_PARTNER_DIGEST_DIGEST : Fld := ⟨762, 0, 32, .RO, (.const 0)⟩
def F.PEER_HW_STATUS_ACTIVE_N_LOW : Fld := ⟨763, 0, 1, .RO, (.const 0)⟩
def F.PEER_HW_STATUS_HWI_PPS_ACTIVE : Fld := ⟨764, 1, 1, .RO, (.const 0)⟩
def F.PEER_HW_STATUS_HWI_CLK_ACTIVE : Fld := ⟨765, 2, 1, .RO, (.const 0)⟩
def F.PEER_HW_STATUS_HWO_DRIVEN : Fld := ⟨766, 3, 1, .RO, (.const 0)⟩
def F.PEER_VERSION_NEGOTIATED : Fld := ⟨767, 0, 4, .RO, (.const 0)⟩
def F.PEER_VERSION_OFFERED : Fld := ⟨768, 4, 4, .RO, (.const 14)⟩
def F.PEER_VERSION_PARTNER_VERSIONS : Fld := ⟨769, 8, 4, .RO, (.const 0)⟩
def F.PEER_PR_CFG_SRC : Fld := ⟨770, 0, 2, .RW, (.table [0, 1, 2, 2])⟩
def F.PEER_LANE_STATUS_UP : Fld := ⟨771, 0, 1, .RO, (.const 0)⟩
def F.PEER_LANE_STATUS_SIGNAL : Fld := ⟨772, 1, 1, .RO, (.const 0)⟩
def F.PEER_LANE_STATUS_ALIGNED : Fld := ⟨773, 2, 1, .RO, (.const 0)⟩
def F.PEER_LANE_CRC_COUNT : Fld := ⟨774, 0, 32, .RO, (.const 0)⟩
def F.PEER_LANE_TX_COUNT : Fld := ⟨775, 0, 32, .RO, (.const 0)⟩
def F.PEER_LANE_RX_COUNT : Fld := ⟨776, 0, 32, .RO, (.const 0)⟩
def F.PEER_LANE_RETRAINS_COUNT : Fld := ⟨777, 0, 32, .RO, (.const 0)⟩
def F.PEER_MSG_TX_COUNT : Fld := ⟨778, 0, 32, .RO, (.const 0)⟩
def F.PEER_MSG_RX_COUNT : Fld := ⟨779, 0, 32, .RO, (.const 0)⟩

/-- The registers of block PEER (R327). -/
def regsPeer0 : List Reg :=
  [⟨"PEER_CFG", 0x100000, 0, 1, 0x0, 1, 0x0, [F.PEER_CFG_CLAIM_EN, F.PEER_CFG_VERSIONS, F.PEER_CFG_CONFIRM, F.PEER_CFG_STANDBY_ROOT]⟩,
   ⟨"PEER_TIMING", 0x100004, 0, 1, 0x0, 1, 0x0, [F.PEER_TIMING_ALIGN_TOL_PS, F.PEER_TIMING_RECLAIM_MS, F.PEER_TIMING_ALIGN_HOLD_S]⟩,
   ⟨"PEER_STATUS", 0x100008, 0, 1, 0x0, 1, 0x0, [F.PEER_STATUS_BLOCK_CAUSE, F.PEER_STATUS_ELIGIBLE, F.PEER_STATUS_HB_CURRENT, F.PEER_STATUS_CFG_MATCH, F.PEER_STATUS_ALIGNED, F.PEER_STATUS_CLAIM_OUT, F.PEER_STATUS_CLAIM_IN, F.PEER_STATUS_VERSION, F.PEER_STATUS_LINK_STATE, F.PEER_STATUS_PAIR_STATE]⟩,
   ⟨"PEER_STRAPS", 0x10000c, 0, 1, 0x0, 1, 0x0, [F.PEER_STRAPS_SLOT, F.PEER_STRAPS_SOLE, F.PEER_STRAPS_CLAIM_IN_P, F.PEER_STRAPS_CLAIM_IN_N]⟩,
   ⟨"PEER_PARTNER", 0x100010, 0, 1, 0x0, 1, 0x0, [F.PEER_PARTNER_ROOT_QL, F.PEER_PARTNER_LANE0_UP, F.PEER_PARTNER_LANE1_UP, F.PEER_PARTNER_CLAIM_EN, F.PEER_PARTNER_FAULT_LATCHED, F.PEER_PARTNER_SVC_STATE, F.PEER_PARTNER_DPLL_STATE, F.PEER_PARTNER_STAGE, F.PEER_PARTNER_PAIR_STATE]⟩,
   ⟨"PEER_ALIGN", 0x100014, 0, 1, 0x0, 1, 0x0, [F.PEER_ALIGN_ERR]⟩,
   ⟨"PEER_SWITCH", 0x100018, 0, 1, 0x0, 1, 0x0, [F.PEER_SWITCH_GO, F.PEER_SWITCH_FORCE, F.PEER_SWITCH_KEY]⟩,
   ⟨"PEER_SWITCH_STATUS", 0x10001c, 0, 1, 0x0, 1, 0x0, [F.PEER_SWITCH_STATUS_ORIGIN, F.PEER_SWITCH_STATUS_IN_PROGRESS, F.PEER_SWITCH_STATUS_RESULT, F.PEER_SWITCH_STATUS_COUNT]⟩,
   ⟨"PEER_HB_RX", 0x100020, 0, 1, 0x0, 1, 0x0, [F.PEER_HB_RX_COUNT]⟩,
   ⟨"PEER_HB_MISSED", 0x100024, 0, 1, 0x0, 1, 0x0, [F.PEER_HB_MISSED_COUNT]⟩,
   ⟨"PEER_COUNTS", 0x100028, 0, 1, 0x0, 1, 0x0, [F.PEER_COUNTS_HB_LOSSES, F.PEER_COUNTS_FAILOVERS]⟩,
   ⟨"PEER_LAST_FAILOVER", 0x10002c, 0, 1, 0x0, 1, 0x0, [F.PEER_LAST_FAILOVER_LEN_US]⟩]
def regsPeer1 : List Reg :=
  [⟨"PEER_CLAIM_EVENTS", 0x100030, 0, 1, 0x0, 1, 0x0, [F.PEER_CLAIM_EVENTS_BROKEN, F.PEER_CLAIM_EVENTS_CONFLICTS]⟩,
   ⟨"PEER_TABLE_SYNC", 0x100034, 0, 1, 0x0, 1, 0x0, [F.PEER_TABLE_SYNC_BACKLOG, F.PEER_TABLE_SYNC_BULK]⟩,
   ⟨"PEER_CFG_DIGEST", 0x100038, 0, 1, 0x0, 1, 0x0, [F.PEER_CFG_DIGEST_DIGEST]⟩,
   ⟨"PEER_PARTNER_DIGEST", 0x10003c, 0, 1, 0x0, 1, 0x0, [F.PEER_PARTNER_DIGEST_DIGEST]⟩,
   ⟨"PEER_HW_STATUS", 0x100040, 0, 1, 0x0, 1, 0x0, [F.PEER_HW_STATUS_ACTIVE_N_LOW, F.PEER_HW_STATUS_HWI_PPS_ACTIVE, F.PEER_HW_STATUS_HWI_CLK_ACTIVE, F.PEER_HW_STATUS_HWO_DRIVEN]⟩,
   ⟨"PEER_VERSION", 0x100044, 0, 1, 0x0, 1, 0x0, [F.PEER_VERSION_NEGOTIATED, F.PEER_VERSION_OFFERED, F.PEER_VERSION_PARTNER_VERSIONS]⟩,
   ⟨"PEER_PR_CFG", 0x100050, 0, 4, 0x4, 1, 0x0, [F.PEER_PR_CFG_SRC]⟩,
   ⟨"PEER_LANE_STATUS", 0x100080, 0, 2, 0x20, 1, 0x0, [F.PEER_LANE_STATUS_UP, F.PEER_LANE_STATUS_SIGNAL, F.PEER_LANE_STATUS_ALIGNED]⟩,
   ⟨"PEER_LANE_CRC", 0x100084, 0, 2, 0x20, 1, 0x0, [F.PEER_LANE_CRC_COUNT]⟩,
   ⟨"PEER_LANE_TX", 0x100088, 0, 2, 0x20, 1, 0x0, [F.PEER_LANE_TX_COUNT]⟩,
   ⟨"PEER_LANE_RX", 0x10008c, 0, 2, 0x20, 1, 0x0, [F.PEER_LANE_RX_COUNT]⟩,
   ⟨"PEER_LANE_RETRAINS", 0x100090, 0, 2, 0x20, 1, 0x0, [F.PEER_LANE_RETRAINS_COUNT]⟩]
def regsPeer2 : List Reg :=
  [⟨"PEER_MSG_TX", 0x100100, 0, 8, 0x4, 1, 0x0, [F.PEER_MSG_TX_COUNT]⟩,
   ⟨"PEER_MSG_RX", 0x100120, 0, 8, 0x4, 1, 0x0, [F.PEER_MSG_RX_COUNT]⟩]
def regsPeer : List Reg := regsPeer0 ++ regsPeer1 ++ regsPeer2

def F.FLT_SRC_CFG_GRACE_MS : Fld := ⟨780, 0, 16, .RW, (.table [1000, 1000, 1000, 1000, 1000, 1000, 1000, 1000, 1000, 1000, 1000, 1000, 1000, 1000, 1000, 1000, 1000, 1000, 1000, 1000, 1000, 1000, 1000, 1000, 1000, 1000, 1000, 1000, 1000, 1000, 1000, 1000, 1000, 1000, 1000, 1000, 1000, 1000, 1000, 1000, 1000, 1000, 1000, 1000, 60000, 1000, 1000, 1000, 1000, 1000, 1000, 1000, 1000, 1000, 1000, 1000, 1000, 1000, 1000, 1000, 1000, 1000, 1000, 1000])⟩
def F.FLT_SRC_CFG_SETTLE : Fld := ⟨781, 20, 4, .RW, (.const 9)⟩
def F.FLT_SRC_CFG_SHUTTER : Fld := ⟨782, 26, 1, .RW, (.const 0)⟩
def F.FLT_SRC_CFG_ACTION : Fld := ⟨783, 27, 3, .RW, (.table [0, 0, 4, 1, 1, 0, 0, 1, 1, 1, 1, 1, 1, 1, 1, 0, 4, 1, 1, 1, 1, 1, 1, 1, 1, 1, 1, 1, 1, 1, 1, 1, 1, 1, 1, 1, 1, 1, 1, 1, 1, 1, 1, 1, 0, 0, 1, 1, 1, 1, 1, 1, 1, 1, 1, 1, 1, 1, 1, 1, 1, 1, 1, 1])⟩
def F.FLT_SRC_CFG_SEVERITY : Fld := ⟨784, 30, 2, .RW, (.table [2, 2, 3, 3, 1, 3, 2, 1, 1, 1, 1, 1, 1, 1, 1, 2, 3, 1, 0, 1, 1, 1, 1, 1, 1, 1, 1, 1, 1, 0, 1, 1, 0, 0, 0, 1, 0, 0, 1, 1, 0, 1, 1, 1, 2, 2, 1, 1, 0, 1, 2, 0, 0, 0, 0, 0, 0, 0, 0, 0, 0, 0, 0, 0])⟩
def F.FLT_SRC_STAT_GRACE_RUNNING : Fld := ⟨785, 6, 1, .RO, (.const 0)⟩
def F.FLT_SRC_STAT_WIRE_BROKEN : Fld := ⟨786, 7, 1, .RO, (.const 0)⟩
def F.FLT_SRC_STAT_ENTRIES : Fld := ⟨787, 8, 8, .RO, (.const 0)⟩
def F.FLT_SRC_STAT_COUNT : Fld := ⟨788, 16, 16, .RO, (.const 0)⟩
def F.FLT_STATUS_MAX_SEV : Fld := ⟨789, 14, 2, .RO, (.const 0)⟩
def F.FLT_STATUS_ENTRIES : Fld := ⟨790, 16, 9, .RO, (.const 0)⟩
def F.FLT_STATUS_TEST_MODE : Fld := ⟨791, 25, 1, .RO, (.const 0)⟩
def F.FLT_STATUS_REACTING : Fld := ⟨792, 26, 1, .RO, (.const 0)⟩
def F.FLT_STATUS_WIRE_BROKEN : Fld := ⟨793, 27, 1, .RO, (.const 0)⟩
def F.FLT_STATUS_LATCH_FULL : Fld := ⟨794, 28, 1, .RO, (.const 0)⟩
def F.FLT_STATUS_SLATE_VALID : Fld := ⟨795, 29, 1, .RO, (.const 0)⟩
def F.FLT_STATUS_ERR_FAULT : Fld := ⟨796, 30, 1, .RO, (.const 0)⟩
def F.FLT_STATUS_ANY_LATCHED : Fld := ⟨797, 31, 1, .RO, (.const 0)⟩
def F.FLT_CFG_ERR_MIN_SEV : Fld := ⟨798, 21, 2, .RW, (.const 1)⟩
def F.FLT_CFG_HEARTBEAT : Fld := ⟨799, 23, 1, .RW, (.const 1)⟩
def F.FLT_CFG_VECTOR : Fld := ⟨800, 24, 8, .RW, (.const 0)⟩
def F.FLT_ACK_ENTRY : Fld := ⟨801, 0, 8, .WT, (.const 0)⟩
def F.FLT_LATCH_SEL_ENTRY : Fld := ⟨802, 0, 8, .RW, (.const 0)⟩
def F.FLT_LATCH_DATA_WORD : Fld := ⟨803, 0, 32, .RO, (.const 0)⟩
def F.FLT_SLATE_INFO_ACCESS : Fld := ⟨804, 13, 3, .RO, (.const 0)⟩
def F.FLT_SLATE_INFO_MASTER : Fld := ⟨805, 16, 5, .RO, (.const 0)⟩
def F.FLT_SLATE_INFO_WIRE : Fld := ⟨806, 21, 1, .RO, (.const 0)⟩
def F.FLT_SLATE_INFO_SEVERITY : Fld := ⟨807, 22, 2, .RO, (.const 0)⟩
def F.FLT_SLATE_INFO_SOURCE : Fld := ⟨808, 24, 7, .RO, (.const 0)⟩
def F.FLT_SLATE_INFO_VALID : Fld := ⟨809, 31, 1, .RO, (.const 0)⟩
def F.FLT_SLATE_ADDR_ADDR : Fld := ⟨810, 0, 32, .RO, (.const 0)⟩
def F.FLT_SLATE_UNIT_UNIT : Fld := ⟨811, 0, 16, .RO, (.const 0)⟩
def F.FLT_SLATE_LATER_COUNT : Fld := ⟨812, 0, 32, .RO, (.const 0)⟩
def F.FLT_WIRE_MAP_SOURCES : Fld := ⟨813, 0, 32, .RO, (.const 0)⟩
def F.FLT_LATCH_MAP_SOURCES : Fld := ⟨814, 0, 32, .RO, (.const 0)⟩
def F.FLT_GRACE_MAP_SOURCES : Fld := ⟨815, 0, 32, .RO, (.const 0)⟩
def F.FLT_REACT_STATUS_LAST_UNIT : Fld := ⟨816, 0, 16, .RO, (.const 0)⟩
def F.FLT_REACT_STATUS_WINDOWS : Fld := ⟨817, 16, 4, .RO, (.const 0)⟩
def F.FLT_REACT_STATUS_REFUSED : Fld := ⟨818, 20, 1, .RO, (.const 0)⟩
def F.FLT_REACT_STATUS_LAST_ACTION : Fld := ⟨819, 21, 3, .RO, (.const 0)⟩
def F.FLT_REACT_STATUS_LAST_SOURCE : Fld := ⟨820, 24, 7, .RO, (.const 127)⟩
def F.FLT_REACT_COUNT_COUNT : Fld := ⟨821, 0, 32, .RO, (.const 0)⟩
def F.FLT_CONSEQ_COUNT_COUNT : Fld := ⟨822, 0, 32, .RO, (.const 0)⟩
def F.FLT_ESCALATIONS_COUNT : Fld := ⟨823, 0, 32, .RO, (.const 0)⟩
def F.FLT_LATCH_HIGH_HIGH_WATER : Fld := ⟨824, 0, 9, .RO, (.const 0)⟩
def F.FLT_INJECT_SEL_UNIT : Fld := ⟨825, 0, 16, .RW, (.const 0)⟩
def F.FLT_INJECT_SEL_SOURCE : Fld := ⟨826, 16, 7, .RW, (.const 0)⟩
def F.FLT_INJECT_CTRL_GO : Fld := ⟨827, 0, 1, .WT, (.const 0)⟩
def F.FLT_INJECT_CTRL_BREAK : Fld := ⟨828, 1, 1, .RW, (.const 0)⟩
def F.FLT_INJECT_STATUS_COUNT : Fld := ⟨829, 0, 16, .RO, (.const 0)⟩
def F.FLT_INJECT_STATUS_AVAILABLE : Fld := ⟨830, 31, 1, .RO, (.const 0)⟩
def F.FLT_ERR_STATUS_ERR_N : Fld := ⟨831, 0, 1, .RO, (.const 0)⟩
def F.FLT_ERR_STATUS_ERR_P : Fld := ⟨832, 1, 1, .RO, (.const 0)⟩
def F.FLT_ERR_STATUS_TOGGLING : Fld := ⟨833, 2, 1, .RO, (.const 0)⟩
def F.FLT_WIRE_COUNT_COUNT : Fld := ⟨834, 0, 32, .RO, (.const 0)⟩
def F.FLT_SEV_COUNT_COUNT : Fld := ⟨835, 0, 32, .RO, (.const 0)⟩

/-- The registers of block FAULT (R343). -/
def regsFault0 : List Reg :=
  [⟨"FLT_SRC_CFG", 0x110000, 0, 64, 0x4, 1, 0x0, [F.FLT_SRC_CFG_GRACE_MS, F.FLT_SRC_CFG_SETTLE, F.FLT_SRC_CFG_SHUTTER, F.FLT_SRC_CFG_ACTION, F.FLT_SRC_CFG_SEVERITY]⟩,
   ⟨"FLT_SRC_STAT", 0x110100, 0, 64, 0x4, 1, 0x0, [F.FLT_SRC_STAT_GRACE_RUNNING, F.FLT_SRC_STAT_WIRE_BROKEN, F.FLT_SRC_STAT_ENTRIES, F.FLT_SRC_STAT_COUNT]⟩,
   ⟨"FLT_STATUS", 0x110200, 0, 1, 0x0, 1, 0x0, [F.FLT_STATUS_MAX_SEV, F.FLT_STATUS_ENTRIES, F.FLT_STATUS_TEST_MODE, F.FLT_STATUS_REACTING, F.FLT_STATUS_WIRE_BROKEN, F.FLT_STATUS_LATCH_FULL, F.FLT_STATUS_SLATE_VALID, F.FLT_STATUS_ERR_FAULT, F.FLT_STATUS_ANY_LATCHED]⟩,
   ⟨"FLT_CFG", 0x110204, 0, 1, 0x0, 1, 0x0, [F.FLT_CFG_ERR_MIN_SEV, F.FLT_CFG_HEARTBEAT, F.FLT_CFG_VECTOR]⟩,
   ⟨"FLT_ACK", 0x110208, 0, 1, 0x0, 1, 0x0, [F.FLT_ACK_ENTRY]⟩,
   ⟨"FLT_LATCH_SEL", 0x11020c, 0, 1, 0x0, 1, 0x0, [F.FLT_LATCH_SEL_ENTRY]⟩,
   ⟨"FLT_LATCH_DATA", 0x110210, 0, 4, 0x4, 1, 0x0, [F.FLT_LATCH_DATA_WORD]⟩,
   ⟨"FLT_SLATE_INFO", 0x110220, 0, 1, 0x0, 1, 0x0, [F.FLT_SLATE_INFO_ACCESS, F.FLT_SLATE_INFO_MASTER, F.FLT_SLATE_INFO_WIRE, F.FLT_SLATE_INFO_SEVERITY, F.FLT_SLATE_INFO_SOURCE, F.FLT_SLATE_INFO_VALID]⟩,
   ⟨"FLT_SLATE_ADDR", 0x110224, 0, 1, 0x0, 1, 0x0, [F.FLT_SLATE_ADDR_ADDR]⟩,
   ⟨"FLT_SLATE_UNIT", 0x110228, 0, 1, 0x0, 1, 0x0, [F.FLT_SLATE_UNIT_UNIT]⟩,
   ⟨"FLT_SLATE_LATER", 0x11022c, 0, 1, 0x0, 1, 0x0, [F.FLT_SLATE_LATER_COUNT]⟩,
   ⟨"FLT_WIRE_MAP", 0x110230, 0, 2, 0x4, 1, 0x0, [F.FLT_WIRE_MAP_SOURCES]⟩]
def regsFault1 : List Reg :=
  [⟨"FLT_LATCH_MAP", 0x110238, 0, 2, 0x4, 1, 0x0, [F.FLT_LATCH_MAP_SOURCES]⟩,
   ⟨"FLT_GRACE_MAP", 0x110240, 0, 2, 0x4, 1, 0x0, [F.FLT_GRACE_MAP_SOURCES]⟩,
   ⟨"FLT_REACT_STATUS", 0x110248, 0, 1, 0x0, 1, 0x0, [F.FLT_REACT_STATUS_LAST_UNIT, F.FLT_REACT_STATUS_WINDOWS, F.FLT_REACT_STATUS_REFUSED, F.FLT_REACT_STATUS_LAST_ACTION, F.FLT_REACT_STATUS_LAST_SOURCE]⟩,
   ⟨"FLT_REACT_COUNT", 0x11024c, 0, 1, 0x0, 1, 0x0, [F.FLT_REACT_COUNT_COUNT]⟩,
   ⟨"FLT_CONSEQ_COUNT", 0x110250, 0, 1, 0x0, 1, 0x0, [F.FLT_CONSEQ_COUNT_COUNT]⟩,
   ⟨"FLT_ESCALATIONS", 0x110254, 0, 1, 0x0, 1, 0x0, [F.FLT_ESCALATIONS_COUNT]⟩,
   ⟨"FLT_LATCH_HIGH", 0x110258, 0, 1, 0x0, 1, 0x0, [F.FLT_LATCH_HIGH_HIGH_WATER]⟩,
   ⟨"FLT_INJECT_SEL", 0x11025c, 0, 1, 0x0, 1, 0x0, [F.FLT_INJECT_SEL_UNIT, F.FLT_INJECT_SEL_SOURCE]⟩,
   ⟨"FLT_INJECT_CTRL", 0x110260, 0, 1, 0x0, 1, 0x0, [F.FLT_INJECT_CTRL_GO, F.FLT_INJECT_CTRL_BREAK]⟩,
   ⟨"FLT_INJECT_STATUS", 0x110264, 0, 1, 0x0, 1, 0x0, [F.FLT_INJECT_STATUS_COUNT, F.FLT_INJECT_STATUS_AVAILABLE]⟩,
   ⟨"FLT_ERR_STATUS", 0x110268, 0, 1, 0x0, 1, 0x0, [F.FLT_ERR_STATUS_ERR_N, F.FLT_ERR_STATUS_ERR_P, F.FLT_ERR_STATUS_TOGGLING]⟩,
   ⟨"FLT_WIRE_COUNT", 0x11026c, 0, 1, 0x0, 1, 0x0, [F.FLT_WIRE_COUNT_COUNT]⟩]
def regsFault2 : List Reg :=
  [⟨"FLT_SEV_COUNT", 0x110270, 0, 4, 0x4, 1, 0x0, [F.FLT_SEV_COUNT_COUNT]⟩]
def regsFault : List Reg := regsFault0 ++ regsFault1 ++ regsFault2

end Sys2Proof.Machine
end

