-- ==== Sys2Proof/Machine/FieldsD.lean ====
section
/-! DEFINITION. Register fields of the blocks ATTIC, POWER, IDENT, page: number, place, access type and
reset value of each, as the register maps of the spec give them (one rule per block, named at its list). -/

namespace Sys2Proof.Machine

def F.ATTIC_STATUS_INSTANCE : Fld := ⟨836, 0, 8, .RO, (.const 0)⟩
def F.ATTIC_STATUS_TYPE : Fld := ⟨837, 8, 8, .RO, (.const 0)⟩
def F.ATTIC_STATUS_SCAN_EN : Fld := ⟨838, 27, 1, .RO, (.const 1)⟩
def F.ATTIC_STATUS_QUEUED : Fld := ⟨839, 28, 3, .RO, (.const 0)⟩
def F.ATTIC_STATUS_BUSY : Fld := ⟨840, 31, 1, .RO, (.const 0)⟩
def F.ATTIC_BOOT_STATUS_APPLIED : Fld := ⟨841, 0, 16, .RO, (.const 0)⟩
def F.ATTIC_BOOT_STATUS_BAD : Fld := ⟨842, 16, 16, .RO, (.const 0)⟩
def F.ATTIC_MB_CTRL_INSTANCE : Fld := ⟨843, 0, 8, .RW, (.const 0)⟩
def F.ATTIC_MB_CTRL_TYPE : Fld := ⟨844, 8, 8, .RW, (.const 0)⟩
def F.ATTIC_MB_CTRL_OP : Fld := ⟨845, 28, 4, .WT, (.const 0)⟩
def F.ATTIC_MB_ADDR_OFFSET : Fld := ⟨846, 0, 12, .RW, (.const 0)⟩
def F.ATTIC_MB_ADDR_PAGE : Fld := ⟨847, 16, 12, .RW, (.const 0)⟩
def F.ATTIC_MB_LEN_LENGTH : Fld := ⟨848, 0, 13, .RW, (.const 0)⟩
def F.ATTIC_MB_LEN_START : Fld := ⟨849, 24, 8, .RW, (.const 0)⟩
def F.ATTIC_MB_DATA_DATA : Fld := ⟨850, 0, 32, .RW, (.const 0)⟩
def F.ATTIC_MB_STATUS_CONFLICT : Fld := ⟨851, 26, 1, .RO, (.const 0)⟩
def F.ATTIC_MB_STATUS_ONE_COPY : Fld := ⟨852, 27, 1, .RO, (.const 0)⟩
def F.ATTIC_MB_STATUS_RESULT : Fld := ⟨853, 28, 4, .RO, (.const 0)⟩
def F.ATTIC_MB_SEQ_SEQ : Fld := ⟨854, 0, 32, .RO, (.const 0)⟩
def F.ATTIC_LOG_CFG_MIN_SEV : Fld := ⟨855, 0, 2, .RW, (.const 1)⟩
def F.ATTIC_LOG_CFG_INFO : Fld := ⟨856, 2, 1, .RW, (.const 1)⟩
def F.ATTIC_LOG_STATUS_LAP : Fld := ⟨857, 0, 16, .RO, (.const 0)⟩
def F.ATTIC_LOG_STATUS_PENDING : Fld := ⟨858, 16, 4, .RO, (.const 0)⟩
def F.ATTIC_LOG_STATUS_NEXT_PAGE : Fld := ⟨859, 20, 12, .RO, (.const 0)⟩
def F.ATTIC_LOG_DROPPED_COUNT : Fld := ⟨860, 0, 32, .RO, (.const 0)⟩
def F.ATTIC_SCAN_STATUS_REFRESHED : Fld := ⟨861, 0, 20, .RO, (.const 0)⟩
def F.ATTIC_SCAN_STATUS_PAGE : Fld := ⟨862, 20, 12, .RO, (.const 0)⟩
def F.ATTIC_ERR_COUNT_UNCORRECTABLE : Fld := ⟨863, 0, 8, .RO, (.const 0)⟩
def F.ATTIC_ERR_COUNT_CORRECTED : Fld := ⟨864, 8, 8, .RO, (.const 0)⟩
def F.ATTIC_ERR_COUNT_INVALID_COPIES : Fld := ⟨865, 16, 16, .RO, (.const 0)⟩
def F.ATTIC_COMMIT_COUNT_DONE : Fld := ⟨866, 0, 16, .RO, (.const 0)⟩
def F.ATTIC_COMMIT_COUNT_FAILED : Fld := ⟨867, 16, 16, .RO, (.const 0)⟩
def F.ATTIC_LAST_COMMIT_LEN_US : Fld := ⟨868, 0, 13, .RO, (.const 0)⟩
def F.ATTIC_LAST_COMMIT_OUTCOME : Fld := ⟨869, 13, 3, .RO, (.const 0)⟩
def F.ATTIC_LAST_COMMIT_INSTANCE : Fld := ⟨870, 16, 8, .RO, (.const 0)⟩
def F.ATTIC_LAST_COMMIT_TYPE : Fld := ⟨871, 24, 8, .RO, (.const 0)⟩
def F.ATTIC_LASTGASP_LEN_US : Fld := ⟨872, 0, 11, .RO, (.const 0)⟩
def F.ATTIC_LASTGASP_STAGE : Fld := ⟨873, 26, 2, .RO, (.const 0)⟩
def F.ATTIC_LASTGASP_CAUSE : Fld := ⟨874, 28, 3, .RO, (.const 0)⟩
def F.ATTIC_LASTGASP_VALID : Fld := ⟨875, 31, 1, .RO, (.const 0)⟩

/-- The registers of block ATTIC (R362). -/
def regsAttic0 : List Reg :=
  [⟨"ATTIC_STATUS", 0x120000, 0, 1, 0x0, 1, 0x0, [F.ATTIC_STATUS_INSTANCE, F.ATTIC_STATUS_TYPE, F.ATTIC_STATUS_SCAN_EN, F.ATTIC_STATUS_QUEUED, F.ATTIC_STATUS_BUSY]⟩,
   ⟨"ATTIC_BOOT_STATUS", 0x120004, 0, 1, 0x0, 1, 0x0, [F.ATTIC_BOOT_STATUS_APPLIED, F.ATTIC_BOOT_STATUS_BAD]⟩,
   ⟨"ATTIC_MB_CTRL", 0x120008, 0, 1, 0x0, 1, 0x0, [F.ATTIC_MB_CTRL_INSTANCE, F.ATTIC_MB_CTRL_TYPE, F.ATTIC_MB_CTRL_OP]⟩,
   ⟨"ATTIC_MB_ADDR", 0x12000c, 0, 1, 0x0, 1, 0x0, [F.ATTIC_MB_ADDR_OFFSET, F.ATTIC_MB_ADDR_PAGE]⟩,
   ⟨"ATTIC_MB_LEN", 0x120010, 0, 1, 0x0, 1, 0x0, [F.ATTIC_MB_LEN_LENGTH, F.ATTIC_MB_LEN_START]⟩,
   ⟨"ATTIC_MB_DATA", 0x120014, 0, 1, 0x0, 1, 0x0, [F.ATTIC_MB_DATA_DATA]⟩,
   ⟨"ATTIC_MB_STATUS", 0x120018, 0, 1, 0x0, 1, 0x0, [F.ATTIC_MB_STATUS_CONFLICT, F.ATTIC_MB_STATUS_ONE_COPY, F.ATTIC_MB_STATUS_RESULT]⟩,
   ⟨"ATTIC_MB_SEQ", 0x12001c, 0, 1, 0x0, 1, 0x0, [F.ATTIC_MB_SEQ_SEQ]⟩,
   ⟨"ATTIC_LOG_CFG", 0x120020, 0, 1, 0x0, 1, 0x0, [F.ATTIC_LOG_CFG_MIN_SEV, F.ATTIC_LOG_CFG_INFO]⟩,
   ⟨"ATTIC_LOG_STATUS", 0x120024, 0, 1, 0x0, 1, 0x0, [F.ATTIC_LOG_STATUS_LAP, F.ATTIC_LOG_STATUS_PENDING, F.ATTIC_LOG_STATUS_NEXT_PAGE]⟩,
   ⟨"ATTIC_LOG_DROPPED", 0x120028, 0, 1, 0x0, 1, 0x0, [F.ATTIC_LOG_DROPPED_COUNT]⟩,
   ⟨"ATTIC_SCAN_STATUS", 0x12002c, 0, 1, 0x0, 1, 0x0, [F.ATTIC_SCAN_STATUS_REFRESHED, F.ATTIC_SCAN_STATUS_PAGE]⟩]
def regsAttic1 : List Reg :=
  [⟨"ATTIC_ERR_COUNT", 0x120030, 0, 1, 0x0, 1, 0x0, [F.ATTIC_ERR_COUNT_UNCORRECTABLE, F.ATTIC_ERR_COUNT_CORRECTED, F.ATTIC_ERR_COUNT_INVALID_COPIES]⟩,
   ⟨"ATTIC_COMMIT_COUNT", 0x120034, 0, 1, 0x0, 1, 0x0, [F.ATTIC_COMMIT_COUNT_DONE, F.ATTIC_COMMIT_COUNT_FAILED]⟩,
   ⟨"ATTIC_LAST_COMMIT", 0x120038, 0, 1, 0x0, 1, 0x0, [F.ATTIC_LAST_COMMIT_LEN_US, F.ATTIC_LAST_COMMIT_OUTCOME, F.ATTIC_LAST_COMMIT_INSTANCE, F.ATTIC_LAST_COMMIT_TYPE]⟩,
   ⟨"ATTIC_LASTGASP", 0x12003c, 0, 1, 0x0, 1, 0x0, [F.ATTIC_LASTGASP_LEN_US, F.ATTIC_LASTGASP_STAGE, F.ATTIC_LASTGASP_CAUSE, F.ATTIC_LASTGASP_VALID]⟩]
def regsAttic : List Reg := regsAttic0 ++ regsAttic1

def F.FEED_CFG_ENABLE : Fld := ⟨0, 0, 1, .RW, (.const 1)⟩
def F.FEED_CFG_UV_WARN : Fld := ⟨1, 8, 8, .RW, (.const 90)⟩
def F.FEED_STATUS_IN_WINDOW : Fld := ⟨2, 0, 1, .RO, (.const 0)⟩
def F.FEED_STATUS_UV : Fld := ⟨3, 1, 1, .RO, (.const 0)⟩
def F.FEED_STATUS_OV : Fld := ⟨4, 2, 1, .RO, (.const 0)⟩
def F.FEED_STATUS_REVERSED : Fld := ⟨5, 3, 1, .RO, (.const 0)⟩
def F.FEED_STATUS_OC : Fld := ⟨6, 4, 1, .RO, (.const 0)⟩
def F.FEED_STATUS_DROPOUT : Fld := ⟨7, 5, 1, .RO, (.const 0)⟩
def F.FEED_STATUS_CARRYING : Fld := ⟨8, 6, 1, .RO, (.const 0)⟩
def F.FEED_STATUS_UV_WARN : Fld := ⟨9, 7, 1, .RO, (.const 0)⟩
def F.FEED_STATUS_STATE : Fld := ⟨10, 8, 4, .RO, (.const 0)⟩
def F.FEED_VIN_VIN_MV : Fld := ⟨11, 0, 18, .RL, (.const 0)⟩
def F.FEED_IIN_IIN_MA : Fld := ⟨12, 0, 16, .RL, (.const 0)⟩
def F.FEED_PIN_PIN_MW : Fld := ⟨13, 0, 16, .RL, (.const 0)⟩
def F.FEED_DROPOUTS_COUNT : Fld := ⟨14, 0, 32, .RO, (.const 0)⟩
def F.FEED_FAULTS_COUNT : Fld := ⟨15, 0, 32, .RO, (.const 0)⟩
def F.FEED_LAST_CAUSE_CAUSE : Fld := ⟨16, 0, 4, .RO, (.const 0)⟩
def F.POWER_STATUS_RAILS_GOOD : Fld := ⟨17, 0, 1, .RO, (.const 0)⟩
def F.POWER_STATUS_VBAT_PRESENT : Fld := ⟨18, 1, 1, .RO, (.const 0)⟩
def F.POWER_STATUS_VBAT_LOW : Fld := ⟨19, 2, 1, .RO, (.const 0)⟩
def F.POWER_STATUS_PWR_FAIL : Fld := ⟨20, 3, 1, .RO, (.const 0)⟩
def F.POWER_STATUS_REDUNDANT : Fld := ⟨21, 4, 1, .RO, (.const 0)⟩
def F.POWER_STATUS_TEST_ACTIVE : Fld := ⟨22, 5, 1, .RO, (.const 0)⟩
def F.POWER_STATUS_HOLDUP_LOW : Fld := ⟨23, 6, 1, .RO, (.const 0)⟩
def F.POWER_STATUS_PLATE_HOT : Fld := ⟨24, 7, 1, .RO, (.const 0)⟩
def F.POWER_TEST_TEST_A : Fld := ⟨25, 0, 1, .WT, (.const 0)⟩
def F.POWER_TEST_TEST_B : Fld := ⟨26, 1, 1, .WT, (.const 0)⟩
def F.POWER_TEST_CFG_DURATION_MS : Fld := ⟨27, 0, 16, .RW, (.const 100)⟩
def F.POWER_TEST_CFG_PERIOD_H : Fld := ⟨28, 16, 16, .RW, (.const 0)⟩
def F.POWER_TEST_RESULT_MIN_VIN : Fld := ⟨29, 0, 16, .RO, (.const 0)⟩
def F.POWER_TEST_RESULT_RESULT : Fld := ⟨30, 16, 2, .RO, (.const 0)⟩
def F.POWER_TEST_RESULT_LAST_FEED : Fld := ⟨31, 18, 2, .RO, (.const 0)⟩
def F.POWER_HOLDUP_BANK_V : Fld := ⟨32, 0, 16, .RL, (.const 0)⟩
def F.POWER_HOLDUP_HOLDUP_US : Fld := ⟨33, 16, 16, .RL, (.const 0)⟩
def F.POWER_PIN_TOTAL_PIN_MW : Fld := ⟨34, 0, 16, .RL, (.const 0)⟩
def F.POWER_RAIL_SEL_RAIL : Fld := ⟨35, 0, 3, .RW, (.const 0)⟩
def F.POWER_RAIL_V_MV : Fld := ⟨36, 0, 16, .RL, (.const 0)⟩
def F.POWER_RAIL_V_VALID : Fld := ⟨37, 31, 1, .RL, (.const 0)⟩
def F.POWER_RAIL_I_MA : Fld := ⟨38, 0, 16, .RL, (.const 0)⟩
def F.POWER_RAIL_I_VALID : Fld := ⟨39, 31, 1, .RL, (.const 0)⟩
def F.POWER_TEMP_PLATE_TEMP : Fld := ⟨40, 0, 16, .RL, (.const 0)⟩
def F.POWER_TEMP_DIE_TEMP : Fld := ⟨41, 0, 16, .RL, (.const 0)⟩
def F.POWER_TEMP_OCXO_TEMP : Fld := ⟨42, 0, 16, .RL, (.const 0)⟩
def F.POWER_THERM_CFG_HYST_C : Fld := ⟨43, 0, 8, .RW, (.const 3)⟩
def F.POWER_THERM_CFG_WARN_C : Fld := ⟨44, 8, 8, .RW, (.const 85)⟩
def F.POWER_VBAT_MV : Fld := ⟨45, 0, 16, .RL, (.const 0)⟩
def F.POWER_VBAT_CFG_LOW_MV : Fld := ⟨46, 0, 16, .RW, (.const 2200)⟩
def F.POWER_LOSS_COUNT_COUNT : Fld := ⟨47, 0, 32, .RL, (.const 0)⟩

/-- The registers of block POWER (R63). -/
def regsPower0 : List Reg :=
  [⟨"FEED_CFG", 0x130000, 0, 2, 0x20, 1, 0x0, [F.FEED_CFG_ENABLE, F.FEED_CFG_UV_WARN]⟩,
   ⟨"FEED_STATUS", 0x130004, 0, 2, 0x20, 1, 0x0, [F.FEED_STATUS_IN_WINDOW, F.FEED_STATUS_UV, F.FEED_STATUS_OV, F.FEED_STATUS_REVERSED, F.FEED_STATUS_OC, F.FEED_STATUS_DROPOUT, F.FEED_STATUS_CARRYING, F.FEED_STATUS_UV_WARN, F.FEED_STATUS_STATE]⟩,
   ⟨"FEED_VIN", 0x130008, 0, 2, 0x20, 1, 0x0, [F.FEED_VIN_VIN_MV]⟩,
   ⟨"FEED_IIN", 0x13000c, 0, 2, 0x20, 1, 0x0, [F.FEED_IIN_IIN_MA]⟩,
   ⟨"FEED_PIN", 0x130010, 0, 2, 0x20, 1, 0x0, [F.FEED_PIN_PIN_MW]⟩,
   ⟨"FEED_DROPOUTS", 0x130014, 0, 2, 0x20, 1, 0x0, [F.FEED_DROPOUTS_COUNT]⟩,
   ⟨"FEED_FAULTS", 0x130018, 0, 2, 0x20, 1, 0x0, [F.FEED_FAULTS_COUNT]⟩,
   ⟨"FEED_LAST_CAUSE", 0x13001c, 0, 2, 0x20, 1, 0x0, [F.FEED_LAST_CAUSE_CAUSE]⟩,
   ⟨"POWER_STATUS", 0x130040, 0, 1, 0x0, 1, 0x0, [F.POWER_STATUS_RAILS_GOOD, F.POWER_STATUS_VBAT_PRESENT, F.POWER_STATUS_VBAT_LOW, F.POWER_STATUS_PWR_FAIL, F.POWER_STATUS_REDUNDANT, F.POWER_STATUS_TEST_ACTIVE, F.POWER_STATUS_HOLDUP_LOW, F.POWER_STATUS_PLATE_HOT]⟩,
   ⟨"POWER_TEST", 0x130044, 0, 1, 0x0, 1, 0x0, [F.POWER_TEST_TEST_A, F.POWER_TEST_TEST_B]⟩,
   ⟨"POWER_TEST_CFG", 0x130048, 0, 1, 0x0, 1, 0x0, [F.POWER_TEST_CFG_DURATION_MS, F.POWER_TEST_CFG_PERIOD_H]⟩,
   ⟨"POWER_TEST_RESULT", 0x13004c, 0, 1, 0x0, 1, 0x0, [F.POWER_TEST_RESULT_MIN_VIN, F.POWER_TEST_RESULT_RESULT, F.POWER_TEST_RESULT_LAST_FEED]⟩]
def regsPower1 : List Reg :=
  [⟨"POWER_HOLDUP", 0x130050, 0, 1, 0x0, 1, 0x0, [F.POWER_HOLDUP_BANK_V, F.POWER_HOLDUP_HOLDUP_US]⟩,
   ⟨"POWER_PIN_TOTAL", 0x130054, 0, 1, 0x0, 1, 0x0, [F.POWER_PIN_TOTAL_PIN_MW]⟩,
   ⟨"POWER_RAIL_SEL", 0x130058, 0, 1, 0x0, 1, 0x0, [F.POWER_RAIL_SEL_RAIL]⟩,
   ⟨"POWER_RAIL_V", 0x13005c, 0, 1, 0x0, 1, 0x0, [F.POWER_RAIL_V_MV, F.POWER_RAIL_V_VALID]⟩,
   ⟨"POWER_RAIL_I", 0x130060, 0, 1, 0x0, 1, 0x0, [F.POWER_RAIL_I_MA, F.POWER_RAIL_I_VALID]⟩,
   ⟨"POWER_TEMP_PLATE", 0x130064, 0, 1, 0x0, 1, 0x0, [F.POWER_TEMP_PLATE_TEMP]⟩,
   ⟨"POWER_TEMP_DIE", 0x130068, 0, 1, 0x0, 1, 0x0, [F.POWER_TEMP_DIE_TEMP]⟩,
   ⟨"POWER_TEMP_OCXO", 0x13006c, 0, 1, 0x0, 1, 0x0, [F.POWER_TEMP_OCXO_TEMP]⟩,
   ⟨"POWER_THERM_CFG", 0x130070, 0, 1, 0x0, 1, 0x0, [F.POWER_THERM_CFG_HYST_C, F.POWER_THERM_CFG_WARN_C]⟩,
   ⟨"POWER_VBAT", 0x130074, 0, 1, 0x0, 1, 0x0, [F.POWER_VBAT_MV]⟩,
   ⟨"POWER_VBAT_CFG", 0x130078, 0, 1, 0x0, 1, 0x0, [F.POWER_VBAT_CFG_LOW_MV]⟩,
   ⟨"POWER_LOSS_COUNT", 0x13007c, 0, 1, 0x0, 1, 0x0, [F.POWER_LOSS_COUNT_COUNT]⟩]
def regsPower : List Reg := regsPower0 ++ regsPower1

def F.IDENT_PART_STEPPING : Fld := ⟨935, 0, 8, .RO, (.const 1)⟩
def F.IDENT_PART_VARIANT : Fld := ⟨936, 8, 8, .RO, (.const 0)⟩
def F.IDENT_PART_PART : Fld := ⟨937, 16, 16, .RO, (.const 0x8416)⟩
def F.IDENT_VENDOR_PCI_VENDOR : Fld := ⟨938, 16, 16, .RO, (.const 0)⟩
def F.IDENT_JTAG_ID_ONE : Fld := ⟨939, 0, 1, .RO, (.const 1)⟩
def F.IDENT_JTAG_ID_MANUFACTURER : Fld := ⟨940, 1, 11, .RO, (.const 0)⟩
def F.IDENT_JTAG_ID_PART : Fld := ⟨941, 12, 16, .RO, (.const 0x8416)⟩
def F.IDENT_JTAG_ID_VERSION : Fld := ⟨942, 28, 4, .RO, (.const 1)⟩
def F.IDENT_LOT_CHARS : Fld := ⟨943, 0, 32, .RO, (.const 0)⟩
def F.IDENT_DIE_DIE_Y : Fld := ⟨944, 0, 12, .RO, (.const 0)⟩
def F.IDENT_DIE_DIE_X : Fld := ⟨945, 12, 12, .RO, (.const 0)⟩
def F.IDENT_DIE_WAFER : Fld := ⟨946, 24, 8, .RO, (.const 0)⟩
def F.IDENT_DATE_WEEK : Fld := ⟨947, 8, 8, .RO, (.const 0)⟩
def F.IDENT_DATE_YEAR : Fld := ⟨948, 16, 16, .RO, (.const 0)⟩
def F.IDENT_MODULE_SN_CHARS : Fld := ⟨949, 0, 32, .RO, (.const 0)⟩
def F.IDENT_OCXO_SN_CHARS : Fld := ⟨950, 0, 32, .RO, (.const 0)⟩
def F.IDENT_MODEL_CHARS : Fld := ⟨951, 0, 32, .RO, (.const 0)⟩
def F.IDENT_RECORD_FOUND : Fld := ⟨952, 0, 1, .RO, (.const 0)⟩
def F.IDENT_RECORD_MATCH : Fld := ⟨953, 1, 1, .RO, (.const 0)⟩
def F.IDENT_RECORD_FALLBACK : Fld := ⟨954, 2, 1, .RO, (.const 0)⟩
def F.IDENT_RECORD_CONFLICT : Fld := ⟨955, 3, 1, .RO, (.const 0)⟩
def F.IDENT_RECORD_SEQ : Fld := ⟨956, 16, 16, .RO, (.const 0)⟩
def F.IDENT_FUSE_FIELD_BLOWN : Fld := ⟨957, 0, 1, .RO, (.const 0)⟩
def F.IDENT_FUSE_TEST_EN : Fld := ⟨958, 1, 1, .RO, (.const 0)⟩
def F.IDENT_FUSE_TEST_MODE : Fld := ⟨959, 2, 1, .RO, (.const 0)⟩
def F.IDENT_FUSE_SP_OPEN : Fld := ⟨960, 3, 1, .RO, (.const 0)⟩
def F.IDENT_FUSE_FUSE_BUSY : Fld := ⟨961, 4, 1, .RO, (.const 0)⟩
def F.IDENT_TEST_CTRL_ENTER : Fld := ⟨962, 0, 1, .WT, (.const 0)⟩
def F.IDENT_TEST_CTRL_BLOW : Fld := ⟨963, 1, 1, .WT, (.const 0)⟩
def F.IDENT_TEST_CTRL_KEY : Fld := ⟨964, 16, 16, .WT, (.const 0)⟩
def F.IDENT_CHECK_CRC : Fld := ⟨965, 0, 32, .RO, (.const 0)⟩
def F.IDENT_SP_STATUS_INSTRUCTION : Fld := ⟨966, 0, 8, .RO, (.const 255)⟩
def F.IDENT_SP_STATUS_ACCESSES : Fld := ⟨967, 8, 24, .RO, (.const 0)⟩
def F.IDENT_PAIR_CFG_MODE : Fld := ⟨968, 0, 1, .RW, (.const 0)⟩

/-- The registers of block IDENT (R382). -/
def regsIdent0 : List Reg :=
  [⟨"IDENT_PART", 0x140000, 0, 1, 0x0, 1, 0x0, [F.IDENT_PART_STEPPING, F.IDENT_PART_VARIANT, F.IDENT_PART_PART]⟩,
   ⟨"IDENT_VENDOR", 0x140004, 0, 1, 0x0, 1, 0x0, [F.IDENT_VENDOR_PCI_VENDOR]⟩,
   ⟨"IDENT_JTAG_ID", 0x140008, 0, 1, 0x0, 1, 0x0, [F.IDENT_JTAG_ID_ONE, F.IDENT_JTAG_ID_MANUFACTURER, F.IDENT_JTAG_ID_PART, F.IDENT_JTAG_ID_VERSION]⟩,
   ⟨"IDENT_LOT", 0x14000c, 0, 2, 0x4, 1, 0x0, [F.IDENT_LOT_CHARS]⟩,
   ⟨"IDENT_DIE", 0x140014, 0, 1, 0x0, 1, 0x0, [F.IDENT_DIE_DIE_Y, F.IDENT_DIE_DIE_X, F.IDENT_DIE_WAFER]⟩,
   ⟨"IDENT_DATE", 0x140018, 0, 1, 0x0, 1, 0x0, [F.IDENT_DATE_WEEK, F.IDENT_DATE_YEAR]⟩,
   ⟨"IDENT_MODULE_SN", 0x14001c, 0, 4, 0x4, 1, 0x0, [F.IDENT_MODULE_SN_CHARS]⟩,
   ⟨"IDENT_OCXO_SN", 0x14002c, 0, 4, 0x4, 1, 0x0, [F.IDENT_OCXO_SN_CHARS]⟩,
   ⟨"IDENT_MODEL", 0x14003c, 0, 3, 0x4, 1, 0x0, [F.IDENT_MODEL_CHARS]⟩,
   ⟨"IDENT_RECORD", 0x140048, 0, 1, 0x0, 1, 0x0, [F.IDENT_RECORD_FOUND, F.IDENT_RECORD_MATCH, F.IDENT_RECORD_FALLBACK, F.IDENT_RECORD_CONFLICT, F.IDENT_RECORD_SEQ]⟩,
   ⟨"IDENT_FUSE", 0x14004c, 0, 1, 0x0, 1, 0x0, [F.IDENT_FUSE_FIELD_BLOWN, F.IDENT_FUSE_TEST_EN, F.IDENT_FUSE_TEST_MODE, F.IDENT_FUSE_SP_OPEN, F.IDENT_FUSE_FUSE_BUSY]⟩,
   ⟨"IDENT_TEST_CTRL", 0x140050, 0, 1, 0x0, 1, 0x0, [F.IDENT_TEST_CTRL_ENTER, F.IDENT_TEST_CTRL_BLOW, F.IDENT_TEST_CTRL_KEY]⟩]
def regsIdent1 : List Reg :=
  [⟨"IDENT_CHECK", 0x140054, 0, 1, 0x0, 1, 0x0, [F.IDENT_CHECK_CRC]⟩,
   ⟨"IDENT_SP_STATUS", 0x140058, 0, 1, 0x0, 1, 0x0, [F.IDENT_SP_STATUS_INSTRUCTION, F.IDENT_SP_STATUS_ACCESSES]⟩,
   ⟨"IDENT_PAIR_CFG", 0x14005c, 0, 1, 0x0, 1, 0x0, [F.IDENT_PAIR_CFG_MODE]⟩]
def regsIdent : List Reg := regsIdent0 ++ regsIdent1

def F.TM_CTRL_SNAP : Fld := ⟨687, 0, 1, .WT, (.const 0)⟩
def F.TM_CTRL_SEQ : Fld := ⟨688, 16, 16, .RO, (.const 0)⟩
def F.TM_TIME_TIME : Fld := ⟨689, 0, 32, .RO, (.const 0)⟩
def F.TM_STATE_STEPPED : Fld := ⟨690, 2, 1, .RO, (.const 0)⟩
def F.TM_STATE_OUT_OF_SPEC : Fld := ⟨691, 3, 1, .RO, (.const 0)⟩
def F.TM_STATE_SECONDS_SET : Fld := ⟨692, 4, 1, .RO, (.const 0)⟩
def F.TM_STATE_VALID : Fld := ⟨693, 5, 1, .RO, (.const 0)⟩
def F.TM_STATE_TRACE : Fld := ⟨694, 6, 2, .RO, (.const 0)⟩
def F.TM_STATE_CLOCK_CLASS : Fld := ⟨695, 8, 8, .RO, (.const 248)⟩
def F.TM_STATE_GEN : Fld := ⟨696, 16, 16, .RO, (.const 0)⟩
def F.TM_UTC_OFFSET : Fld := ⟨697, 0, 16, .RO, (.const 0)⟩
def F.TM_UTC_LEAP59 : Fld := ⟨698, 29, 1, .RO, (.const 0)⟩
def F.TM_UTC_LEAP61 : Fld := ⟨699, 30, 1, .RO, (.const 0)⟩
def F.TM_UTC_VALID : Fld := ⟨700, 31, 1, .RO, (.const 0)⟩
def F.TM_TE_TE_NS : Fld := ⟨701, 0, 32, .RO, (.const 0)⟩
def F.TM_SUB_SOURCES : Fld := ⟨702, 0, 32, .RW, (.const 0)⟩
def F.VF_EVT_ADDR_ADDR : Fld := ⟨703, 0, 32, .RW, (.const 0)⟩
def F.VF_EVT_CFG_MOD_10US : Fld := ⟨704, 0, 8, .RW, (.const 0)⟩
def F.VF_EVT_CFG_MOD_COUNT : Fld := ⟨705, 8, 8, .RW, (.const 1)⟩
def F.VF_EVT_CFG_SIZE_LOG : Fld := ⟨706, 16, 5, .RW, (.const 0)⟩
def F.VF_EVT_CFG_NOTIFY : Fld := ⟨707, 30, 1, .RW, (.const 0)⟩
def F.VF_EVT_CFG_ENABLE : Fld := ⟨708, 31, 1, .RW, (.const 0)⟩
def F.VF_EVT_STATUS_REASON : Fld := ⟨709, 20, 4, .RO, (.const 0)⟩
def F.VF_EVT_STATUS_RESULT : Fld := ⟨710, 24, 6, .RO, (.const 0)⟩
def F.VF_EVT_STATUS_STATE : Fld := ⟨711, 30, 2, .RO, (.const 0)⟩
def F.VF_EVT_CONS_INDEX : Fld := ⟨712, 0, 32, .WT, (.const 0)⟩
def F.VF_EVT_CONS_ARM_INDEX : Fld := ⟨713, 0, 32, .WT, (.const 0)⟩

/-- The registers of the time pages (R304). -/
def regsPage : List Reg :=
  [⟨"TM_CTRL", 0x0, 0, 16, 0x0, 1, 0x0, [F.TM_CTRL_SNAP, F.TM_CTRL_SEQ]⟩,
   ⟨"TM_TIME", 0x4, 0, 16, 0x0, 3, 0x4, [F.TM_TIME_TIME]⟩,
   ⟨"TM_STATE", 0x10, 0, 16, 0x0, 1, 0x0, [F.TM_STATE_STEPPED, F.TM_STATE_OUT_OF_SPEC, F.TM_STATE_SECONDS_SET, F.TM_STATE_VALID, F.TM_STATE_TRACE, F.TM_STATE_CLOCK_CLASS, F.TM_STATE_GEN]⟩,
   ⟨"TM_UTC", 0x14, 0, 16, 0x0, 1, 0x0, [F.TM_UTC_OFFSET, F.TM_UTC_LEAP59, F.TM_UTC_LEAP61, F.TM_UTC_VALID]⟩,
   ⟨"TM_TE", 0x18, 0, 16, 0x0, 1, 0x0, [F.TM_TE_TE_NS]⟩,
   ⟨"TM_SUB", 0x20, 0, 16, 0x0, 4, 0x4, [F.TM_SUB_SOURCES]⟩,
   ⟨"VF_EVT_ADDR", 0x30, 0, 16, 0x0, 2, 0x4, [F.VF_EVT_ADDR_ADDR]⟩,
   ⟨"VF_EVT_CFG", 0x38, 0, 16, 0x0, 1, 0x0, [F.VF_EVT_CFG_MOD_10US, F.VF_EVT_CFG_MOD_COUNT, F.VF_EVT_CFG_SIZE_LOG, F.VF_EVT_CFG_NOTIFY, F.VF_EVT_CFG_ENABLE]⟩,
   ⟨"VF_EVT_STATUS", 0x3c, 0, 16, 0x0, 1, 0x0, [F.VF_EVT_STATUS_REASON, F.VF_EVT_STATUS_RESULT, F.VF_EVT_STATUS_STATE]⟩,
   ⟨"VF_EVT_CONS", 0x40, 0, 16, 0x0, 1, 0x0, [F.VF_EVT_CONS_INDEX]⟩,
   ⟨"VF_EVT_CONS_ARM", 0x44, 0, 16, 0x0, 1, 0x0, [F.VF_EVT_CONS_ARM_INDEX]⟩]

end Sys2Proof.Machine
end

