-- ==== Sys2Proof/Machine/State.lean ====
section
/-! DEFINITION. The state of the module: its register fields in one sparse table, and beside them the state the spec
gives each part that no register holds; the queue of commands that wait; and the state right after reset. -/

namespace Sys2Proof.Machine

/-- Why a step stops. No meaning of this model faults: every command of the table has the effect the spec gives it.
The one constructor stands for a stop of the model's own and is raised by nothing (safe). -/
inductive Fault where
  /-- Raised by nothing: kept so that the type of outcomes has a fault to name (safe). -/
  | noCommandFaults
  deriving DecidableEq, Repr

/-- Why a command is refused. -/
inductive Refusal where
  /-- Raised by an arm of `exec` whose command has no meaning yet (safe); no arm does so in this model. -/
  | notModelled (mnemonic : String)
  deriving DecidableEq, Repr

/-- An event record (R220, Table 9.5) with what the merger keeps beside it: the arrival-time bound of R28 and the order
in which sources produced records (R27). Times are in FRACTION units of the counter, the bound in FRACTION units of the
elapsed count. -/
structure EvRec where
  gen : Nat
  time : Nat
  source : Nat
  unit : Nat
  severity : Nat
  conseq : Bool
  late : Bool
  detail : Nat
  bound : Nat
  order : Nat
  deriving DecidableEq, Repr

/-- A record in the event buffer: its output count and, once written, the record (R221). -/
structure BufRec where
  seq : Nat
  rcd : EvRec
  deriving DecidableEq, Repr

/-- The event merger and the event buffer. -/
structure EventSt where
  /-- records the merger holds, in no particular order -/
  held : List EvRec := []
  /-- key of the greatest record released so far -/
  lastKey : Option (Nat × Nat × Nat) := none
  /-- records produced so far -/
  produced : Nat := 0
  /-- next output count (SEQ), not wrapped -/
  nextSeq : Nat := 0
  /-- the event buffer, newest record first, at most 32,768 -/
  buffer : List BufRec := []
  /-- per destination (0 PF0, v VF v): output count of the first record not yet taken -/
  taken : List (Nat × Nat) := []
  /-- destinations that lost a record since their last delivery -/
  lossPending : List Nat := []
  deriving DecidableEq, Repr

/-- A latch entry of the fault collector (R334). -/
structure Latch where
  source : Nat
  unit : Nat
  severity : Nat
  wire : Bool
  acked : Bool
  escalated : Bool
  count : Nat
  gen : Nat
  firstTime : Nat
  /-- expiry of the running grace timer, on the time counter (R336) -/
  graceEnd : Option Nat
  /-- production number of the entry's first record in the merger, and its SEQ once the merger has released it -/
  rcd : Nat := 0
  seq : Option Nat := none
  deriving DecidableEq, Repr

/-- The slate (R341). -/
structure Slate where
  source : Nat
  unit : Nat
  severity : Nat
  wire : Bool
  access : Nat
  master : Nat
  addr : Nat
  gen : Nat
  time : Nat
  entry : Nat
  deriving DecidableEq, Repr

/-- A settle window (R339): `stop` is none until the reaction completes. -/
structure Window where
  source : Nat
  entry : Nat
  mask : Nat
  settle : Nat
  start : Nat
  stop : Option Nat
  deriving DecidableEq, Repr

/-- A reaction that has started (R337); `due` is the commit time of its shutter and unit operation. -/
structure Reaction where
  source : Nat
  unit : Nat
  entry : Nat
  cause : Nat
  due : Nat
  shutter : Bool
  action : Nat
  /-- the operation has been carried out, or refused -/
  applied : Bool
  /-- completion code of the operation (Table 12.14) -/
  code : Nat
  deriving DecidableEq, Repr

/-- The fault collector. -/
structure FaultSt where
  /-- latch entries by number 0–255 -/
  latches : Tab Latch := []
  slate : Option Slate := none
  windows : List Window := []
  reactions : List Reaction := []
  /-- severity in force of each source, beside the written one (R333) -/
  severity : Tab Nat := []
  /-- dependents masks written (Table 14.6) -/
  depMask : Tab Nat := []
  /-- broken pairs: source and detector unit (R330) -/
  broken : List (Nat × Nat) := []
  /-- pair held broken by injection (R342) -/
  injectBroken : Option (Nat × Nat) := none
  /-- level of the toggling pin ERR_N -/
  errPhase : Bool := false
  /-- sources that have raised their once-per-decision-epoch fault in this epoch (R97, R221, R332) -/
  onceThisEpoch : List Nat := []
  deriving DecidableEq, Repr

/-- The marks of the unit tree (R31) and the holds of scoped resets (R84). -/
structure UnitSt where
  retired : List Nat := []
  isolated : List Nat := []
  /-- units with a retire mark that have been reset since it was set, directly or by an ancestor -/
  resetSince : List Nat := []
  /-- leaves held in reset or not yet back in service -/
  resetting : List Nat := []
  /-- groups whose own reset has not completed (R32) -/
  groupResets : List Nat := []
  /-- own-unit resets waiting for their 1 ms (R297, R374): unit, master -/
  deferred : List (Nat × Nat) := []
  /-- persistent retire or un-retire operations awaiting their attic commit (R128): bank 0–3, or admin reel as 4 and 5;
  unit; the commit in progress is the one awaited -/
  awaiting : List (Nat × Nat × Bool) := []
  deriving DecidableEq, Repr

/-- A register write on its way to its commit time (R15). -/
structure PendWrite where
  master : Nat
  addr : Nat
  value : Nat
  deriving DecidableEq, Repr

/-- The commit point. -/
structure CommitSt where
  /-- writes that have reached the commit point, oldest first -/
  queue : List PendWrite := []
  /-- T96 commit time of each bank's last write (LAST_COMMIT) -/
  last : Tab Nat := []
  /-- registers written in the tick being applied: address and master (R17) -/
  written : List (Nat × Nat) := []
  /-- declared pairs inconsistent at the last check: pair number (R370) -/
  mismatched : List Nat := []
  /-- last consistent pair of each declared pair, where it is not the reset pair -/
  lastPair : Tab (Nat × Nat) := []
  /-- decision and provisional epochs seen -/
  epochs : Nat := 0
  deriving DecidableEq, Repr

/-- What waits at the attic's write port, or is on it (R352): a record commit with its type, instance, payload and the
requester's way of being answered (0 nobody, 1 admin reel, 2 mailbox). -/
structure AtticReq where
  rtype : Nat
  inst : Nat
  payload : List Nat
  master : Nat
  replyKind : Nat
  replyTo : Nat
  /-- a repair writes only one copy: 0 neither, 1 copy A, 2 copy B -/
  repair : Nat
  deriving DecidableEq, Repr

/-- The attic (R345–R363): its bytes, the staging buffer, faulty groups, the write port and the log in progress. -/
structure AtticSt where
  /-- the megabyte of MRAM, byte by byte; an unlisted byte reads 0 -/
  mem : List Host.Cell := []
  /-- the staging buffer of 4,096 bytes -/
  staging : List Host.Cell := []
  /-- 8-byte groups of the dailies that are uncorrectable (R346) -/
  badGroups : List Nat := []
  /-- requests at the write port, the first one in progress -/
  port : List AtticReq := []
  /-- records held for the log page in progress, oldest first, as 256-bit numbers -/
  logHeld : List Nat := []
  /-- elapsed count of its first record, and records logged in the present second -/
  logFirst : Option Nat := none
  logSecond : Nat := 0
  logThisSecond : Nat := 0
  lap : Nat := 0
  /-- counter updates not yet written: counter, amount -/
  lifePending : List (Nat × Nat) := []
  /-- conflicting records already reported since full reset (R350) -/
  conflictSeen : List (Nat × Nat) := []
  /-- T96 at the start of the commit in progress, 0 while the time was not valid (Table 15.2) -/
  began : Nat := 0
  /-- whole seconds of the time DPLL's present episode counted in HOLDOVER_SECONDS so far -/
  hourHeld : Nat := 0
  /-- time and cause of PWR_FAIL_N for the last gasp: T96 in FRACTION units, 1 feed loss, 2 thermal trip -/
  gasp : Option (Nat × Nat) := none
  /-- an hour has been spent wholly in Stage 3; wholly above 75 °C -/
  hourStage3 : Bool := true
  hourHot : Bool := true
  deriving DecidableEq, Repr

/-- A time step ordered at a decision epoch (R209, R210): causes, amount, and the boundary at which it takes effect. -/
structure StepOrder where
  causes : Nat
  amount : Int
  refused : Bool
  boundary : Nat
  deriving DecidableEq, Repr

/-- A time-of-day input port's run of equal results (R217) and its last use of a pulse. -/
structure TodRun where
  d : Int := 0
  run : Nat := 0
  lastPulse : Option Int := none
  /-- counter value at the last start bit -/
  lastOk : Option Nat := none
  deriving DecidableEq, Repr

/-- A pulse output's generator (R211, R219). -/
structure PpsSt where
  /-- counter second (in FRACTION units) of the last pulse issued -/
  lastAt : Option Nat := none
  /-- elapsed count at which the last pulse's trailing edge, or a message's last bit, falls -/
  trailing : Option Nat := none
  /-- width, offset and polarity as written, with their commit times, newest first (R219) -/
  sets : List (Nat × Nat × Nat × Nat) := []
  deriving DecidableEq, Repr

/-- The time counter, its steps, the porch and the time-of-day and pulse interfaces. -/
structure TimeSt where
  /-- the three copies of the counter, in 2⁻⁶⁴ ns: FRACTION and the 48 bits below it (R206) -/
  copyA : Nat := 0
  copyB : Nat := 0
  copyC : Nat := 0
  /-- the counter runs (it has started and its domain is not gated) -/
  running : Bool := false
  /-- it has started since full reset -/
  started : Bool := false
  /-- no two copies agree: the copies count for nothing until unit TCOUNT is reset (R206) -/
  lost : Bool := false
  /-- while the majority is lost, the T96 value the series have reached, in FRACTION units (R206) -/
  series : Nat := 0
  /-- the elapsed timekeeping count in 2⁻⁶⁴ ns, never stepped (R28); `TimeSt.elapsed` gives it in FRACTION units -/
  fine : Nat := 0
  /-- offset c that scales the cycles of the TCXO path, in 10⁻²¹; 0 while APLL0 carries the domain (R201, R386) -/
  pathC : Int := 0
  /-- last decision epoch boundary that occurred, on the counter -/
  lastEpoch : Option Nat := none
  /-- wide items SET_TIME (T96) and STEP_AMOUNT (96-bit two's complement) -/
  setTime : Nat := 0
  stepAmount : Nat := 0
  /-- requests not yet taken by an epoch: SET (FRACTION units), STEP, DPLL and TOD amounts (R209) -/
  reqSet : Option Nat := none
  reqStep : Option Int := none
  reqDpll : Option Int := none
  reqTod : Option Int := none
  ordered : Option StepOrder := none
  lastStepAt : Option Nat := none
  lastStepAmount : Option Int := none
  /-- porch seconds and crystal ticks of 1/32,768 s (R212) -/
  porchSec : Nat := 0
  porchTicks : Nat := 0
  /-- an anchor has occurred since porch reset and the porch's supply has held since -/
  porchAnchored : Bool := false
  tod : Tab TodRun := []
  /-- the run of seconds from the packet servo (R217, SEC_SRC = 3) -/
  servoRun : TodRun := {}
  /-- PPS0–PPS3, and the hallway pulse as number 4 -/
  pps : Tab PpsSt := []
  /-- the two time-of-day outputs -/
  todo : Tab PpsSt := []
  /-- T96 seconds of the last `OK` message of each input port -/
  todLast : Tab Nat := []
  /-- last boundaries that occurred: hourly point, service epoch, model epoch, anchor -/
  lastHour : Option Nat := none
  lastService : Option Nat := none
  lastModel : Option Nat := none
  lastAnchor : Option Nat := none
  /-- a step has been made at a decision-epoch boundary whose work has not been done yet -/
  stepEpoch : Bool := false
  deriving DecidableEq, Repr

/-- A switch in progress (R324): request identifier, origin (1 admin, 2 register, 3 partner), forced, handover time. -/
structure SwitchReq where
  ident : Nat
  origin : Nat
  force : Bool
  handover : Option Nat
  shut : Bool
  /-- admin reel and command identifier to complete, for origin 1 -/
  reply : Option (Nat × Nat)
  deriving DecidableEq, Repr

/-- The pair: deadbolt, hallway link, alignment. -/
structure PeerSt where
  /-- within RECLAIM_MS of this module's own release (R309) -/
  reclaiming : Bool := false
  /-- the slot delay runs -/
  slotDelay : Bool := false
  /-- the confirm window runs -/
  confirm : Bool := false
  /-- the 10 µs hold of a SLOT 0 module after a conflict runs -/
  conflictHold : Bool := false
  /-- elapsed count of the last conflict -/
  lastConflict : Option Nat := none
  /-- elapsed count at which the partner's claim became absent -/
  claimAbsent : Option Nat := none
  everNegotiated : Bool := false
  /-- a heartbeat has come since this module's last one; a digest since negotiation -/
  hbSeen : Bool := false
  /-- the partner's last ALIGNED and BACKLOG -/
  partnerAligned : Bool := false
  partnerBacklog : Nat := 0
  digestSeen : Bool := false
  /-- sequence numbers by message type: next to send, last taken (R313) -/
  txSeq : Tab Nat := []
  rxSeq : Tab Nat := []
  /-- the claim follows a switch, not a fail-over (R323) -/
  bySwitch : Bool := false
  partnerId : Option Nat := none
  pairId : Option Nat := none
  lastActiveAt : Option Nat := none
  lastHbLossAt : Option Nat := none
  switch : Option SwitchReq := none
  nextIdent : Nat := 0
  /-- the run of seconds from the partner's TIME messages (R319) -/
  timeRun : TodRun := {}
  /-- client entries changed and not yet mirrored: index and contents, none for a deletion (R321) -/
  mirror : List (Nat × Option Nat) := []
  /-- entries sent and not yet acknowledged; the transfer is of the whole table -/
  unacked : List Nat := []
  bulk : Bool := false
  /-- PEER configuration in force since the last decision epoch (R327) -/
  cfg : Tab Nat := []
  deriving DecidableEq, Repr

/-- One feed (Table 2.7), beside its registers. -/
structure FeedSt where
  /-- entries into FAULTED in the last 600 s, as counter-free elapsed instants -/
  history : List Nat := []
  /-- held in FAULTED until its unit is reset (third fault within 600 s) -/
  heldFaulted : Bool := false
  /-- last sampled voltage in mV -/
  mv : Nat := 0
  deriving DecidableEq, Repr

/-- Power, thermal and PMBus state beside the POWER registers. -/
structure PowerSt where
  feeds : Tab FeedSt := []
  /-- PWR_FAIL_N asserted: the power-down is irrevocable (R50) -/
  powerDown : Bool := false
  /-- the power-down followed a thermal trip; restart only at 80 °C or below (R52) -/
  thermalTrip : Bool := false
  /-- rails are off and a restart must wait 20 ms (R51) -/
  railOff : Bool := true
  /-- feed B waits for its test after feed A's (R49) -/
  testNext : Bool := false
  /-- PMBus page selected, CML bit, last STATUS_WORD shown, ALERT_N asserted (R60–R62) -/
  pmPage : Nat := 0
  pmCml : Bool := false
  pmLast : Nat := 0
  alert : Bool := false
  /-- the plate has been at 95 °C or above since its last lower sample -/
  tripPending : Bool := false
  /-- level of RESET_N held low by the carrier -/
  resetLow : Bool := false
  deriving DecidableEq, Repr

/-- Oscillators, muxes and stages beside the CLOCKS registers. -/
structure ClocksSt where
  /-- last untripped offset of the OCXO against the TCXO (monitor 0), in 10⁻²¹ (R386) -/
  offsetC : Int := 0
  /-- last offset of the TCXO against the OCXO (monitor 1), in 10⁻²¹ (R201) -/
  offsetT : Int := 0
  /-- stage change whose condition holds and which takes effect at the next decision epoch: stage, cause row (R64) -/
  stageReq : Option (Nat × Nat) := none
  /-- the module has been in Stage 3 since reset (Table 3.2) -/
  everStage3 : Bool := false
  /-- the time DPLL is locked to a traceable root, so that HOLDOFF_S runs (R65) -/
  holdoffRuns : Bool := false
  /-- target of the base move in progress: 1 TCXO, 2 OCXO -/
  moveTo : Option Nat := none
  /-- APLL0 has locked since full reset, so that timeouts count on the timekeeping count (R72) -/
  apll0Ever : Bool := false
  /-- the OCXO's running attempt is counted against the TCXO, not the pilot (R68) -/
  attemptTcxo : Bool := false
  /-- oscillator that a requested switch of BASE_MUX leads to: 0 none, 1 TCXO, 2 OCXO -/
  baseTarget : Nat := 0
  /-- a monitor tripped during the running count of TCXO (0), OCXO (1), path (2) -/
  tripDuring : List Nat := []
  /-- source 10 has been raised since rails good (R71) -/
  warmRaised : Bool := false
  deriving DecidableEq, Repr

/-- One leaf of a recipe: monitor, effective weight in 1/32,768, effective phase offset in FRACTION units (R138). -/
structure RecLeaf where
  m : Nat
  w : Nat
  o : Int
  deriving DecidableEq, Repr

/-- The recipe of a root (R136, R138): root code, leaves, the cut selections on its paths (slot, entry), the members of
its mix nodes (slot, entries), and what the root presents. -/
structure Recipe where
  root : Nat
  leaves : List RecLeaf
  path : List (Nat × Nat)
  members : List (Nat × Nat)
  cls : Nat
  suspect : Bool
  ql : Nat
  freq : Int
  phase : Int
  deriving DecidableEq, Repr

/-- A learning second (R173): the number of the model epoch that ends it, the mean integrator over it as sum and count,
and the OCXO temperature sampled there (1/16 °C). -/
structure LearnSec where
  sec : Nat
  integ : Int
  theta : Int
  deriving DecidableEq, Repr

/-- Sums over learning seconds (R173): how many, Σ I, Σ θ (1/16 °C), Σ of twice the seconds' middle times. -/
structure LearnSum where
  n : Nat := 0
  y : Int := 0
  theta : Int := 0
  t2 : Int := 0
  deriving DecidableEq, Repr

/-- An hourly point (R173): the number of the model epoch that ends its hour, and its sums. -/
structure HourPoint where
  stop : Nat
  sums : LearnSum
  deriving DecidableEq, Repr

/-- Coefficients of the holdover model (R174): a1, u_d in 10⁻²¹ per s; c, u_c in 10⁻²¹ per °C; s_h in 10⁻²¹. -/
structure HoldCoef where
  a1 : Int := 0
  ud : Int := 0
  c : Int := 0
  uc : Int := 0
  sh : Int := 0
  deriving DecidableEq, Repr

/-- The entry window (R173): its sums, which give y_e, θ_e and t_c, and u_f in 10⁻²¹. -/
structure EntryWin where
  sums : LearnSum
  uf : Int
  deriving DecidableEq, Repr

/-- A holdover episode (R167, R175, R179): its start on the counter, the entry window and coefficients in force there, and
Σ |θ − θ_e| over its model epochs, in 1/(16 n) °C·s for a window of n seconds. -/
structure Episode where
  start : Nat
  entry : Option EntryWin
  coef : HoldCoef
  area : Nat := 0
  deriving DecidableEq, Repr

/-- Loop settings in force since the last decision epoch (R162, R182): update code, bandwidth and damping codes,
phase-slope limit and pull-in range in 10⁻²¹. -/
structure LoopCfg where
  update : Nat := 0
  bw : Nat := 6
  damp : Nat := 4
  psl : Int := 1000000000000000
  pull : Int := 100000000000000000
  deriving DecidableEq, Repr

/-- One DPLL. -/
structure DpllSt where
  /-- the word y_out and the integrator I, in 10⁻²¹ (R157) -/
  word : Int := 0
  integ : Int := 0
  /-- the build-out offset B and the present root frequency y_root, FRACTION units and 10⁻²¹ -/
  b : Int := 0
  yRoot : Int := 0
  /-- the phase accumulator, in 2⁻⁶⁴ ns, at elapsed count `accAt` (R157) -/
  acc : Int := 0
  accAt : Nat := 0
  /-- what DPLL steps of the counter have taken out of the raw phase (R171, R172) -/
  rAdj : Int := 0
  recipe : Option Recipe := none
  pending : Option Recipe := none
  /-- leaves that have delivered a usable stamp or estimate since they entered the recipe, and since the last update -/
  delivered : List Nat := []
  fresh : List Nat := []
  /-- settings in force -/
  cfg : LoopCfg := {}
  /-- build-out: state it was entered from, B not formed yet, samples' sum and count, B before it -/
  boFrom : Nat := 0
  boWait : Bool := false
  boSum : Int := 0
  boN : Nat := 0
  boOldB : Int := 0
  /-- during a build-out: the tree no longer wants any root (Table 7.4); the build-out has completed with a recipe or a
  loss pending, which the next epoch takes up (R139) -/
  lost : Bool := false
  done : Bool := false
  /-- a build-out has completed since the counter started; an alignment of R172 has set the phase -/
  everBuilt : Bool := false
  aligned : Bool := false
  jump : Int := 0
  held : List Nat := []
  heldRecipe : Option Recipe := none
  ackStep : Bool := false
  /-- the present decision epoch's updates: sum of e and count of samples, sum of words and count of updates (R166) -/
  eSum : Int := 0
  n : Nat := 0
  wSum : Int := 0
  wN : Nat := 0
  eBar : Int := 0
  wBar : Int := 0
  /-- elapsed count at which it entered `LOCKED` -/
  lockedAt : Nat := 0
  unlockEpochs : Nat := 0
  /-- updates of the present second: sum of I, count; the second counts for learning so far (R173) -/
  iSum : Int := 0
  iN : Nat := 0
  learnOk : Bool := false
  window : List LearnSec := []
  hourSecs : List LearnSec := []
  history : List HourPoint := []
  /-- last fit with at least 24 points; restored summary with its point count; new points since full reset (Table 7.6) -/
  fit : Option HoldCoef := none
  restored : Option (HoldCoef × Nat) := none
  newPoints : Nat := 0
  cFactory : Bool := true
  entry : Option EntryWin := none
  episode : Option Episode := none
  lastStart : Option Nat := none
  crossing : Option Nat := none
  /-- the root's frequency has been out of range since an earlier epoch (R163) -/
  rangeSeen : Bool := false
  /-- T96 effective time and Δ of the last recipe change (R156) -/
  rootDelta : Option Int := none
  rootTime : Nat := 0
  deriving DecidableEq, Repr

/-- A transition of a DPLL decided at one epoch and carried out at the next boundary (R20, R167). -/
inductive DAct where
  | disable
  | freeRun (cause : Nat)
  | enable
  | hold (cause : Nat)
  | switch (want : Recipe) (delta : Int) (cause : Nat)
  | adapt (want : Recipe)
  | unlock
  | release (slew : Bool)
  | align (j : Int)
  deriving DecidableEq, Repr

/-- A result of a decision epoch that takes effect at the next boundary (R20). -/
inductive Eff where
  /-- a register field whose reset value is 0 takes a value -/
  | reg (key value : Nat)
  /-- a register entry that still stands as it stood at the decision changes: unlisted fields hold their reset value -/
  | upd (key : Nat) (was now : Option Nat)
  /-- an informational record whose cause is the decision -/
  | info (source unit detail : Nat)
  /-- a fault whose cause is the decision -/
  | fault (source unit itemA itemB : Nat)
  /-- DPLL d leaves the state it was in -/
  | dpll (d : Nat) (old : Nat) (act : DAct)
  /-- a declared pair is found consistent again, or inconsistent (R370) -/
  | pairOk (k : Nat)
  | pairBad (k : Nat)
  /-- port p changes the quality level it sends: an event PDU and source 92 (R232) -/
  | esmc (p : Nat)
  /-- the service changes state or clockClass (R252) -/
  | svc
  /-- servo k leaves the state it was in for another -/
  | servo (k old new : Nat)
  deriving DecidableEq, Repr

/-- A stamp in a channel FIFO (R92, R97, R98). -/
structure Stamp where
  t : Int
  idx : Nat
  falling : Bool
  degraded : Bool
  dropBefore : Bool
  deriving DecidableEq, Repr

/-- A gate in progress: bounds in FRACTION units, decimation, the sums of R103 (y in 2⁻³² FRACTION units) and flags. -/
structure Gate where
  start : Nat
  stop : Nat
  decim : Nat
  /-- elapsed count at the start (R116) -/
  fine : Nat := 0
  n : Nat := 0
  nRef : Nat := 0
  tRef : Int := 0
  sx : Int := 0
  sy : Int := 0
  sxx : Int := 0
  sxy : Int := 0
  syy : Int := 0
  incomplete : Bool := false
  degraded : Bool := false
  capped : Bool := false
  range : Bool := false
  stepped : Bool := false
  restarted : Bool := false
  deriving DecidableEq, Repr

/-- A gate's result (R103, R104): code of Table 4.4, flags, N, OFFSET (10⁻²¹), PHASE (FRACTION units), s (0.01 ps), and the
gate's bounds. -/
structure GateResult where
  code : Nat
  n : Nat := 0
  offset : Int := 0
  phase : Int := 0
  resid : Nat := 0
  incomplete : Bool := false
  degraded : Bool := false
  capped : Bool := false
  start : Nat := 0
  stop : Nat := 0
  /-- the counter's mean rate against the base over the gate, in 10⁻²¹ (R116) -/
  rate : Int := 0
  deriving DecidableEq, Repr

/-- A TDC channel beside its registers. -/
structure ChanSt where
  /-- edges that have left the prescaler since the channel started, modulo 2⁴⁸ (R98) -/
  edges : Nat := 0
  lastEdge : Option Int := none
  fifo : List Stamp := []
  dropNext : Bool := false
  lastStamp : Option Int := none
  gate : Option Gate := none
  result : Option GateResult := none
  /-- last published OFFSET, and the last published result's code -/
  offset : Option Int := none
  offsetOk : Bool := false
  /-- results published since the last one of `OK` -/
  okAge : Nat := 0
  /-- lines that have had a full table; the rescale of R94 runs; elapsed count at which the domain was gated (R98) -/
  fullLines : Nat := 0
  rescaling : Bool := false
  gatedAt : Option Nat := none
  /-- time of the last dropped stamp; stamps that had reached consumers at the last model epoch -/
  lastDrop : Option Int := none
  stampsAt : Nat := 0
  /-- stamps of the last 3 s with their step generation, newest first, while a time-of-day input reads them (R216) -/
  pulses : List (Int × Nat) := []
  deriving DecidableEq, Repr

/-- A host estimate: the configuration latched at START and what its registers do not show. -/
structure EstSt where
  channel : Nat := 0
  gateMs : Nat := 0
  decim : Nat := 0
  event : Bool := false
  continuous : Bool := false
  gate : Option Gate := none
  result : Option GateResult := none
  offset : Option Int := none
  phase : Option Int := none
  n : Option Nat := none
  deriving DecidableEq, Repr

/-- A take: the configuration latched at ARM and its run (R107–R110). -/
structure TakeSt where
  repeats : Bool := false
  level : Bool := false
  activeLow : Bool := false
  source : Nat := 0
  pairs : Bool := false
  stopCh : Nat := 0
  startCh : Nat := 0
  mask : Nat := 0
  gateMs : Nat := 0
  window : Nat := 0
  armTime : Nat := 0
  start : Option Nat := none
  stop : Option Nat := none
  pendingStart : Option Stamp := none
  heldStop : Option Stamp := none
  /-- start–stop stamps not processed yet (true for a stop), ascending, and the latest stamp of either channel -/
  waiting : List (Bool × Stamp) := []
  lastStart : Option Int := none
  lastStop : Option Int := none
  unpaired : Nat := 0
  pairCount : Nat := 0
  deriving DecidableEq, Repr

/-- The TDC block. -/
structure TdcSt where
  chan : Tab ChanSt := []
  est : Tab EstSt := []
  take : Tab TakeSt := []
  /-- the TDC domain is gated; detection is suspended (R129) -/
  gated : Bool := true
  /-- synchronized levels of GATE0 and GATE1 -/
  gate0 : Bool := false
  gate1 : Bool := false
  blind : Bool := true
  deriving DecidableEq, Repr

/-- A qualification monitor beside its registers. -/
structure QualSt where
  /-- y, its last 8 updates (gate end, y) newest first, the epoch count of the last one, dy/dt (R116, R121) -/
  y : Option Int := none
  hist : List (Nat × Int) := []
  yEpoch : Nat := 0
  drift : Option Int := none
  /-- updates of y since the monitor entered its present state -/
  updates : Nat := 0
  /-- accepted residuals newest first, at most 16: stamp, residual, unwrapped phase; those accepted since the last restart
  or hit (R120) -/
  resid : List (Int × Int × Int) := []
  sinceRestart : Nat := 0
  sinceHit : Nat := 0
  meanRes : Option Int := none
  /-- the mean unwrapped phase (R133) -/
  meanPhase : Option Int := none
  /-- origin of the unwrapped phase: stamp, edge index and residual there; the unwrapped phase of the latest usable stamp,
  or the servo's latest estimate (R133, R158) -/
  origin : Option (Int × Nat × Int) := none
  phase : Option Int := none
  /-- elapsed count of the stamp or estimate that phase came from, in 2⁻⁶⁴ ns -/
  phaseAt : Nat := 0
  /-- expected time of the next edge of a slow leaf (R118) -/
  expect : Option Int := none
  /-- edges have come since the monitor entered ACQUIRING and none is missing -/
  active : Bool := false
  /-- decisive strobe awaiting the next epoch: 1 LOS, 2 PHASE_HIT (R119) -/
  strobe : Nat := 0
  /-- causes of R121–R124 judged so far: OUTVOTED by frequency and by phase, ESMC timeout, Announce absent -/
  outFreq : Bool := false
  outPhase : Bool := false
  /-- epochs of counted entries, newest first (R126) -/
  retry : List Nat := []
  /-- quality level code of Table 6.4 as captured, raw level received since, and the elapsed count of the last ESMC PDU -/
  ql : Nat := 0
  rawNext : Option (Nat × Bool) := none
  lastEsmc : Option Nat := none
  /-- CAUSE of a retire -/
  retireCause : Nat := 0
  deriving DecidableEq, Repr

/-- The qualification block: monitors, the retire list in force, epochs counted. -/
structure QualBlk where
  mon : Tab QualSt := []
  list : List Nat := []
  deriving DecidableEq, Repr

/-- A child entry of a node: whether its wait-to-restore runs, whether the child was qualified at the last epoch, and whether
it has been since the evaluation state was cleared (R145). -/
structure EntrySt where
  wtr : Bool := false
  /-- its timer has ended since the last epoch -/
  ended : Bool := false
  was : Bool := false
  ever : Bool := false
  deriving DecidableEq, Repr

/-- A child's wander estimate (R149): v in 2⁻³² squared FRACTION units, z values gathered, past deviations newest first. -/
structure Wander where
  v : Nat := 0
  n : Nat := 0
  hist : List Int := []
  deriving DecidableEq, Repr

/-- What a node or leaf presents (R133, R136). -/
structure Presented where
  qualified : Bool
  suspect : Bool
  cls : Nat
  ql : Nat
  freq : Int
  phase : Int
  leaves : List RecLeaf
  path : List (Nat × Nat)
  members : List (Nat × Nat)
  deriving DecidableEq, Repr

/-- A node's evaluation state (R152). -/
structure NodeSt where
  sel : Option Nat := none
  /-- member entries with their weights and offsets -/
  members : List (Nat × Nat) := []
  offsets : List (Nat × Int) := []
  entries : Tab EntrySt := []
  wander : Tab Wander := []
  /-- weights that take effect at the next model epoch (R150) -/
  nextWeights : Option (List (Nat × Nat)) := none
  wasInvalid : Bool := false
  shown : Option Presented := none
  deriving DecidableEq, Repr

/-- Epoch work: results that take effect at the next boundary (R20). -/
structure EpochSt where
  effects : List Eff := []
  /-- model epochs seen -/
  models : Nat := 0
  /-- elapsed count at the last model epoch, in 2⁻⁶⁴ ns -/
  fineModel : Option Nat := none
  deriving DecidableEq, Repr

/-- Active settings of an output (R190). -/
structure OutAct where
  enable : Bool := false
  loop : Nat := 0
  format : Nat := 0
  lvN : Nat := 0
  prescale : Nat := 0
  div : Nat := 1
  phase : Nat := 0
  deriving DecidableEq, Repr

/-- An output: active settings, gate closed, released on the present origin, and the causes 3 and 4 of Table 8.6. -/
structure OutSt where
  act : OutAct := {}
  shut : Bool := false
  onGrid : Bool := false
  commit : Bool := false
  realign : Bool := false
  /-- the closed gate has reached its static level (R197, R324) -/
  static : Bool := false
  deriving DecidableEq, Repr

/-- Active settings of an output loop (R190). -/
structure LoopAct where
  alignS : Nat := 1
  refAlign : Bool := false
  steered : Bool := false
  dpll : Nat := 0
  int : Nat := 40
  fracHi : Nat := 0
  fracLo : Nat := 0
  deriving DecidableEq, Repr

/-- An output loop a (1–4), or APLL0: active settings, alignment origin (FRACTION units), 
a loss of its own or no lock since start, a loss through APLL0, a realignment that waits (R195). -/
structure LoopSt where
  act : LoopAct := {}
  origin : Option Int := none
  /-- the word last delivered by the steering DPLL (R185) -/
  word : Int := 0
  everLocked : Bool := false
  baseLost : Bool := false
  realignWanted : Bool := false
  deriving DecidableEq, Repr

/-- The SYNTH block. -/
structure SynthSt where
  outs : Tab OutSt := []
  loops : Tab LoopSt := []
  /-- GO waits for the next decision epoch -/
  go : Bool := false
  /-- the shutters of a switch's handover hold every output (R324) -/
  handover : Bool := false
  degStart : Option Nat := none
  degEnd : Option Nat := none
  /-- phase verification: sum of errors in FRACTION units and count of the present second -/
  verSum : Int := 0
  verN : Nat := 0
  deriving DecidableEq, Repr

/-- An Ethernet port beside its registers: elapsed count when it came up, elapsed count of the last accepted ESMC PDU, the
originator and cascade counts it carried. -/
structure PortSt where
  upAt : Option Nat := none
  esmcAt : Option Nat := none
  origin : Option (Nat × Nat × Nat) := none
  deriving DecidableEq, Repr

/-- A token bucket: tokens in units of one FRACTION unit of time at one token per second, the stamp it was last filled at,
and the last second in which a kiss-o'-death left (R260, R268). -/
structure Bucket where
  tokens : Nat
  at_ : Int
  kod : Option Nat := none
  deriving DecidableEq, Repr

/-- A two-step event message that has left and waits for its general message: port, client entry (none: multicast), type,
sequenceId, transmit stamp, and for a Pdelay_Resp the requester and its receive stamp. -/
structure TwoStep where
  port : Nat
  client : Option Nat
  mtype : Nat
  seq : Nat
  time : Nat
  dst : Frame
  deriving DecidableEq, Repr

/-- A port's own counts of the server: multicast requests answered in a second, next sequenceIds, NTP answers in a
second. -/
structure SvcPort where
  reqSec : Nat := 0
  reqCount : Nat := 0
  syncSeq : Nat := 0
  annSeq : Nat := 0
  sigSeq : Nat := 0
  ntpSec : Nat := 0
  ntpCount : Nat := 0
  deriving DecidableEq, Repr

/-- The time service beside its registers. -/
structure SvcSt where
  /-- frames the dispatcher handed to a receiver (Table 11.2), oldest first -/
  inbox : List RxFrame := []
  /-- Signaling messages taken for the next service epoch -/
  signals : List RxFrame := []
  /-- the client table: entries as 512-bit words (Table 11.6) -/
  table : Tab Nat := []
  /-- Delay_Req token buckets by entry, NTP buckets -/
  buckets : Tab Bucket := []
  ntp : Tab Bucket := []
  ports : Tab SvcPort := []
  ntpSec : Nat := 0
  ntpCount : Nat := 0
  waiting : List TwoStep := []
  /-- entries whose Delay_Resp grant expired at the last service epoch, as they stood before (R263) -/
  lapsed : List (Nat × Nat) := []
  /-- SERVICE registers in force since the last service epoch (R263) -/
  cfg : Tab Nat := []
  /-- T96 of the last clockClass change -/
  classChanged : Option Nat := none
  /-- the last whole second at which the time DPLL was `LOCKED` -/
  lockedSec : Nat := 0
  deriving DecidableEq, Repr

/-- A grant that a servo holds or asks for: duration, expiry on the counter, time from which a request is due again. -/
structure PkGrant where
  held : Bool := false
  duration : Nat := 0
  expiry : Nat := 0
  deriving DecidableEq, Repr

/-- A Sync that waits for its Follow_Up: sequenceId, receive stamp, correction, usable. -/
structure PkSync where
  seq : Nat
  time : Int
  correction : Int
  good : Bool
  deriving DecidableEq, Repr

/-- A packet servo beside its registers (R269–R273). Samples are (time, d) pairs in FRACTION units, newest first. -/
structure ServoSt where
  /-- address and sourcePortIdentity of the master it follows -/
  master : Option (Nat × Nat) := none
  /-- the MAC address its frames came from -/
  mac : Option Nat := none
  fwd : List (Int × Int) := []
  rev : List (Int × Int) := []
  /-- n(fwd), n(rev); 0 stands for 2^WIN_MIN_LOG -/
  nFwd : Nat := 0
  nRev : Nat := 0
  calmFwd : Nat := 0
  calmRev : Nat := 0
  spreadFwd : Option Int := none
  spreadRev : Option Int := none
  theta : Option Int := none
  /-- θ at whole seconds, newest first -/
  hist : List (Int × Int) := []
  /-- published OFFSET, in 10⁻²¹: the slope is its negative -/
  offset : Option Int := none
  sync : PkGrant := {}
  dresp : PkGrant := {}
  annc : PkGrant := {}
  /-- Syncs that wait for a Follow_Up; Delay_Reqs that wait for a Delay_Resp: sequenceId, t3, usable -/
  syncs : List PkSync := []
  reqs : List (Nat × Int × Bool) := []
  nextSeq : Nat := 0
  gm : Option Nat := none
  /-- PK registers in force (R277) -/
  cfg : Tab Nat := []
  deriving DecidableEq, Repr

/-- Identity, factory test mode and the test access port. -/
structure IdentSt where
  /-- the module's own clockIdentity in use (R377) -/
  clockId : Nat := 0
  /-- PAIR_ID_CFG (R378) -/
  pairCfg : Nat := 0
  /-- data of the last REGACC read; what the boundary-scan register holds -/
  tapRead : Nat := 0
  boundary : List Bool := []
  deriving DecidableEq, Repr


/-- A posted receive buffer (Table 12.7) with the records placed in it, oldest first, and when the first was placed. -/
structure RxBuf where
  slot : Nat
  addr : Nat
  cookie : Nat
  length : Nat
  recs : List Nat := []
  first : Option Nat := none
  deriving DecidableEq, Repr

/-- A transmit descriptor or admin command that is eligible: reel, slot, its bits as a 512-bit number (a format 1 descriptor
fills the upper half), its release tick, what its gather fragments add up to, and the frame it points to. -/
structure TxDesc where
  reel : Nat
  slot : Nat
  bits : Nat
  release : Nat
  gather : Nat := 0
  frame : Frame := {}
  deriving DecidableEq, Repr

/-- A reel (R283–R288). Counts are modulo 2³². -/
structure Reel where
  size : Nat
  vector : Nat := 0
  modUs : Nat := 0
  modCount : Nat := 1
  flushUs : Nat := 1
  records : Bool := false
  dropLate : Bool := false
  format : Nat := 1
  ring : Nat := 0
  cring : Nat := 0
  prod : Nat := 0
  cons : Nat := 0
  fetch : Nat := 0
  written : Nat := 0
  /-- reason of the fault, 0 none (Table 12.13) -/
  reason : Nat := 0
  stalled : Bool := false
  armed : Bool := true
  /-- entries pending since the last message, and when the first was written -/
  pend : Nat := 0
  pendSince : Nat := 0
  /-- entries that wait for a slot, oldest first, PHASE clear -/
  held : List Nat := []
  /-- announcements not fetched yet: PROD and release tick, oldest first -/
  ann : List (Nat × Nat) := []
  /-- count of descriptors whose release tick has passed: FETCH stands behind it while fetches are late -/
  rel : Nat := 0
  /-- posted receive buffers, the one in use first -/
  bufs : List RxBuf := []
  /-- eligible descriptors not taken up yet, oldest first: admin commands, or what waits behind a stalled cue -/
  queue : List TxDesc := []
  /-- slots whose descriptor has not completed (R287) -/
  busy : List Nat := []
  deriving DecidableEq, Repr

/-- The host side: reels by number (VF v's event reel at 200 + v), latched formats, unmasked and pending MSI-X vectors
(function · 256 + vector), and the deferred full reset. -/
structure HostSt where
  reels : Tab Reel := []
  formats : Tab Nat := []
  /-- ordinary frames that wait for their port, and the cue store, in the order they came -/
  ready : List TxDesc := []
  cues : List TxDesc := []
  unmasked : List Nat := []
  pba : List Nat := []
  /-- FULL_RESET, or a reaction's full reset, is scheduled: cause of CLK_RESET_CAUSE -/
  resetDue : Option Nat := none
  /-- drains in progress: reel, admin reel, completions written `CANCELLED` -/
  drains : List (Nat × Nat × Nat) := []
  /-- admin reels whose command in progress has not completed, and those to stop after it -/
  waiting : List Nat := []
  stopping : List Nat := []
  /-- PERST_N is low; the link is in L0; it has been since full reset -/
  perst : Bool := true
  l0 : Bool := false
  everL0 : Bool := false
  /-- generation, clockClass and TRACE last told to the VFs (R302) -/
  told : Nat × Nat × Nat := (0, 248, 0)
  deriving DecidableEq, Repr

/-- What leaves the module at its pins, links and buses, newest first in the state's trace. Payloads are numbers and
lists in the spec's own layouts. -/
inductive Out where
  /-- an MSI-X message of a function's vector (R300) -/
  | msix (function vector : Nat)
  /-- a PMBus or SMBus answer, byte by byte as on the bus; `none` stands for a NACK -/
  | smbus (bytes : Option (List Nat))
  /-- a frame sent by a port, with the time at its timestamp point where one was taken -/
  | frame (port : Nat) (stamp : Option Nat) (f : Frame)
  /-- a received frame written to a host buffer at an address, without its FCS -/
  | hostFrame (addr : Nat) (f : Frame)
  /-- a message sent over the hallway link: type and payload -/
  | hallway (msgType : Nat) (fields : List Nat)
  /-- a completion or entry written to host memory: reel, slot, words -/
  | completion (reel slot : Nat) (words : List Nat)
  /-- bytes written to a host buffer at an address -/
  | dma (addr : Nat) (bytes : List Nat)
  /-- a pulse of PPS p: counter second of its leading edge, width in ns -/
  | pulse (p at_ width : Nat)
  /-- a time-of-day message of port j -/
  | tod (j : Nat) (bytes : List Nat)
  /-- bits shifted out of the TAP -/
  | tdo (bits : List Bool)
  deriving DecidableEq, Repr

/-- The whole module. `regs` holds every register field by number and index, an unlisted one reading its reset value;
each further field holds what the part's registers do not show. -/
structure State where
  /-- register fields, by `Fld.key` -/
  regs : Tab Nat := []
  /-- the commit point (R15) -/
  cp : CommitSt := {}
  /-- the event merger and buffer (R26–R29, R220–R222) -/
  ev : EventSt := {}
  /-- the fault collector (R329–R344) -/
  flt : FaultSt := {}
  /-- unit marks and holds (R30–R34, R84) -/
  un : UnitSt := {}
  /-- the time counter and porch (R206–R219) -/
  tm : TimeSt := {}
  /-- the pair (R305–R328) -/
  pr : PeerSt := {}
  /-- feeds, power and PMBus (R46–R62) -/
  pw : PowerSt := {}
  /-- oscillators, muxes, stages (R64–R86) -/
  ck : ClocksSt := {}
  /-- DPLLs by number (R157–R172) -/
  dp : Tab DpllSt := []
  /-- the attic (R345–R363) -/
  at_ : AtticSt := {}
  /-- TDC channels, estimates and takes (R88–R110) -/
  td : TdcSt := {}
  /-- qualification monitors (R114–R129) -/
  ql : QualBlk := {}
  /-- node slots by number (R134–R154) -/
  tr : Tab NodeSt := []
  /-- outputs and output loops (R185–R202) -/
  sy : SynthSt := {}
  /-- reels and interrupts (R279–R303) -/
  hs : HostSt := {}
  /-- Ethernet ports by number (R226–R251) -/
  po : Tab PortSt := []
  /-- the time service (R252–R268) and the packet servos (R269–R273) -/
  sv : SvcSt := {}
  pk : Tab ServoSt := []
  /-- identity and service port (R376–R383) -/
  id_ : IdentSt := {}
  /-- results that wait for the next epoch (R20) -/
  ep : EpochSt := {}
  /-- what has left the module, newest first -/
  out : List Out := []
  /-- counter of free values drawn -/
  freeCtr : Nat := 0
  /-- commands waiting, first in first out -/
  pending : List Instr := []

  deriving DecidableEq, Repr

/-- The module right after reset: every register at its reset value, every store empty, no command waiting. -/
def State.reset : State := {}

end Sys2Proof.Machine
end

