-- ==== Sys2Proof/Machine/Ops.lean ====
section
/-! DEFINITION. The named operations of the machine: register fields, the time base, free values, the output trace. -/

namespace Sys2Proof.Machine

/-- The present value of a register field. -/
def State.rd (s : State) (f : Fld) (i : Nat := 0) : Nat := Tab.at s.regs (f.key i) (f.reset i)

/-- A register field set; a value wider than the field keeps its low bits. -/
def State.wr (s : State) (f : Fld) (i v : Nat) : State :=
  { s with regs := Tab.set s.regs (f.key i) (v % 2 ^ f.width) (f.reset i) }

/-- A one-bit field set from a condition. -/
def State.wrB (s : State) (f : Fld) (i : Nat) (b : Bool) : State := s.wr f i (b2n b)

/-- A one-bit field read as a condition. -/
def State.rdB (s : State) (f : Fld) (i : Nat := 0) : Bool := s.rd f i == 1

/-- A field set to the two's complement of an integer held to the field's range. -/
def State.wrI (s : State) (f : Fld) (i : Nat) (v : Int) : State :=
  s.wr f i (ofSigned f.width (clampSigned f.width v))

/-- A field read as two's complement. -/
def State.rdI (s : State) (f : Fld) (i : Nat := 0) : Int := toSigned f.width (s.rd f i)

/-- A counter that saturates, advanced. -/
def State.bumpBy (s : State) (f : Fld) (i n : Nat) : State := s.wr f i (satTo f.width (s.rd f i + n))

/-- A counter that saturates, advanced by one. -/
def State.bump (s : State) (f : Fld) (i : Nat := 0) : State := s.bumpBy f i 1

/-- A counter that wraps, advanced by one. -/
def State.bumpWrap (s : State) (f : Fld) (i : Nat := 0) : State := s.wr f i (s.rd f i + 1)

/-- A list of field writes, in order. -/
def State.wrAll (s : State) (l : List (Fld × Nat × Nat)) : State :=
  l.foldl (fun t w => t.wr w.1 w.2.1 w.2.2) s

/-- An operation for each of the indices 0 to n − 1, in order. -/
def State.forAll (n : Nat) (f : Nat → State → State) (s : State) : State :=
  (List.range n).foldl (fun t i => f i t) s

/-- An operation carried out only under a condition. -/
def State.when (s : State) (c : Bool) (f : State → State) : State := if c then f s else s

/-- A record leaves the module. -/
def State.emitOut (s : State) (o : Out) : State := { s with out := o :: s.out }

/-- The state after a free value is drawn. -/
def State.drawn (s : State) : State := { s with freeCtr := s.freeCtr + 1 }

/-- The free choice drawn at this point (log 9). -/
def State.freeBool (s : State) : Bool := Config.freeBool s.freeCtr

/-- The free number drawn at this point (log 10). -/
def State.freeNat (s : State) : Nat := Config.freeNat s.freeCtr

/-- The free integer drawn at this point (log 10). -/
def State.freeInt (s : State) : Int := Config.freeInt s.freeCtr

/-- A quotient the spec states and does not round: exact where it is whole, otherwise one of the two neighbours, left
open (log 8). `tag` names the formula. -/
def quotient (tag : Nat) (n d : Int) : Int :=
  if n % d = 0 then n / d else if Config.roundUp tag n d then n / d + 1 else n / d

/-- A square root the spec states and does not round, in the same way (log 8). -/
def rootOf (tag n : Nat) : Nat :=
  if Nat.sqrt n * Nat.sqrt n = n then Nat.sqrt n
  else if Config.roundUp tag n 2 then Nat.sqrt n + 1 else Nat.sqrt n

/-- A PEER register as in force since the last decision epoch (R327). -/
def State.peerRd (s : State) (f : Fld) (i : Nat := 0) : Nat := Tab.at s.pr.cfg (f.key i) (f.reset i)

/-- The register entries of fields whose numbers lie in a range: the configuration that an epoch latches. -/
def State.latchRegs (s : State) (lo hi : Nat) : Tab Nat := s.regs.filter fun p => lo ≤ p.1 / 65536 && p.1 / 65536 ≤ hi

/-- R371: every byte of GLOBAL_OWNER held by a master is opened. -/
def State.openBytes (s : State) (m : Nat) : State :=
  State.forAll 6 (fun g t =>
    [F.GLOBAL_OWNER_OWNER0, F.GLOBAL_OWNER_OWNER1, F.GLOBAL_OWNER_OWNER2, F.GLOBAL_OWNER_OWNER3].foldl
      (fun t f => if t.rd f g = m then t.wr f g 0x3F else t) t) s

/-! The time base (R14, R28, R206). -/

/-- 10²¹: the unit of a frequency word. -/
def yOne : Int := 1000000000000000000000

/-- The majority of the three copies of the counter (R206), in 2⁻⁶⁴ ns. -/
def TimeSt.majority (t : TimeSt) : Option Nat :=
  if t.copyA = t.copyB ∨ t.copyA = t.copyC then some t.copyA
  else if t.copyB = t.copyC then some t.copyB else none

/-- The counter's value in FRACTION units; while no two copies agree, the value of the series (R206). -/
def TimeSt.value (t : TimeSt) : Nat :=
  if t.lost then t.series else t.majority.getD t.copyA / 2 ^ 48

/-- The present T96 time in FRACTION units. Before the first start it is T96 zero (R16). -/
def State.now (s : State) : Nat := s.tm.value

/-- The present step generation (R27). -/
def State.gen (s : State) : Nat := s.rd F.TIME_STEP_STATUS_GEN

/-- The DPLL numbered d. -/
def State.dpll (s : State) (d : Nat) : DpllSt := s.dp.at d {}

/-- The time DPLL in use (R207). -/
def State.timeDpll (s : State) : Nat := s.rd F.TIME_STATUS_DPLL

/-- The word at which the counter runs, in 10⁻²¹ (R206). -/
def State.timeWord (s : State) : Int := (s.dpll s.timeDpll).word

/-- The elapsed timekeeping count in FRACTION units (R28). -/
def TimeSt.elapsed (t : TimeSt) : Nat := t.fine / 2 ^ 48

/-- The counter's gain per elapsed time, in 10⁻⁴²: (1 + y_t)(1 + c), c being 0 unless the TCXO path carries the domain
(R201, R206, R386). -/
def State.rate (s : State) : Int := (yOne + s.timeWord) * (yOne + s.tm.pathC)

/-- Elapsed timekeeping count, in 2⁻⁶⁴ ns, for an advance of the counter in FRACTION units (R28, R206). -/
def State.fineFor (s : State) (dt : Nat) : Nat := (((dt * 2 ^ 48 : Nat) : Int) * (yOne * yOne) / s.rate).toNat

/-- The same in FRACTION units. -/
def State.elapsedFor (s : State) (dt : Nat) : Nat := s.fineFor dt / 2 ^ 48

/-- The fine elapsed count at a counter value near now, at the present rate. -/
def State.fineAt (s : State) (t : Nat) : Nat :=
  if s.now ≤ t then s.tm.fine + s.fineFor (t - s.now) else s.tm.fine - s.fineFor (s.now - t)

/-- The counter advances steadily to a later time; the elapsed count goes with it. -/
def State.advanceTo (s : State) (t : Nat) : State :=
  if s.tm.running ∧ s.now < t then
    let e := s.fineFor (t - s.now)
    if s.tm.lost then
      { s with tm := { s.tm with series := t, fine := s.tm.fine + (t - s.now) * 2 ^ 48 } }
    else { s with tm := { s.tm with copyA := t * 2 ^ 48, copyB := t * 2 ^ 48, copyC := t * 2 ^ 48,
                                    fine := s.tm.fine + e } }
  else s

/-- The phase accumulator of DPLL d now, in FRACTION units: the counter for the time DPLL, else its own (R157). -/
def State.accNow (s : State) (d : Nat) : Int :=
  if d = s.timeDpll then s.now
  else
    let p := s.dpll d
    (p.acc + ((s.tm.fine : Int) - p.accAt) * (yOne + p.word) / yOne) / 2 ^ 48

/-- A DPLL's own state set. -/
def State.setDpll (s : State) (d : Nat) (p : DpllSt) : State := { s with dp := s.dp.set d p {} }

/-- A DPLL's own state changed. -/
def State.modDpll (s : State) (d : Nat) (f : DpllSt → DpllSt) : State := s.setDpll d (f (s.dpll d))

/-- A DPLL delivers a new word: its accumulator is brought up to the present first (R157). -/
def State.setWord (s : State) (d : Nat) (w : Int) : State :=
  s.modDpll d fun p =>
    { p with acc := p.acc + ((s.tm.fine : Int) - p.accAt) * (yOne + p.word) / yOne, accAt := s.tm.fine, word := w }

/-- The time of the next decision-epoch boundary, at which a result of the present epoch takes effect (R20). -/
def State.nextEpoch (s : State) : Nat := if s.tm.running then nextBoundary unitsPerEpoch s.now else s.now

/-- The start stage (R10). -/
def State.stage (s : State) : Nat := s.rd F.CLK_STAGE_STATUS_STAGE

/-- The module is a sole module (R305). -/
def State.isSole (s : State) : Bool := s.rdB F.PEER_STRAPS_SOLE

end Sys2Proof.Machine
end

