-- ==== Sys2Proof/Machine/Units.lean ====
section
/-! DEFINITION. The unit tree (R30–R34): unit IDs, parents, marks, and the status of a unit or group. What a reset,
retirement or isolation does inside a unit is in `UnitOps`. -/

namespace Sys2Proof.Machine

/-- Rows of Table 1.5 that are leaves: first ID, how many, parent. -/
def leafRows : List (Nat × Nat × Nat) :=
  [(0x0100, 28, 0x10), (0x0120, 4, 0x10), (0x0200, 44, 0x11), (0x0300, 128, 0x11), (0x0400, 16, 0x12),
   (0x0500, 5, 0x13), (0x0510, 24, 0x13), (0x0600, 1, 0x14), (0x0610, 4, 0x14), (0x0620, 2, 0x14),
   (0x0628, 2, 0x14), (0x0630, 1, 0x14), (0x0700, 8, 0x15), (0x0710, 4, 0x15), (0x0800, 2, 0x16),
   (0x0810, 16, 0x16), (0x0900, 1, 0x17), (0x0911, 15, 0x17), (0x0920, 1, 0x17), (0x0A00, 2, 0x18),
   (0x0B00, 64, 0x19), (0x0C00, 2, 0x1A), (0x0C10, 2, 0x1A)]

/-- The groups beneath MODULE. -/
def groupIds : List Nat := [0x10, 0x11, 0x12, 0x13, 0x14, 0x15, 0x16, 0x17, 0x18, 0x19, 0x1A]

/-- Unit IDs used by name. -/
def uMODULE : Nat := 0x0000
def uPAIR : Nat := 0x0001
def uPARTNER : Nat := 0x0002
def uPLATFORM : Nat := 0x001A
def uTDC (c : Nat) : Nat := 0x0100 + c
def uREG (e : Nat) : Nat := 0x0120 + e
def uQMON (m : Nat) : Nat := 0x0200 + m
def uNODE (n : Nat) : Nat := 0x0300 + n
def uDP (d : Nat) : Nat := 0x0400 + d
def uAPLL (a : Nat) : Nat := 0x0500 + a
def uOUT (n : Nat) : Nat := 0x0510 + n
def uTCOUNT : Nat := 0x0600
def uPPS (p : Nat) : Nat := 0x0610 + p
def uTODI (j : Nat) : Nat := 0x0620 + j
def uTODO (j : Nat) : Nat := 0x0628 + j
def uMERGER : Nat := 0x0630
def uP (p : Nat) : Nat := 0x0700 + p
def uBR (b : Nat) : Nat := 0x0710 + b
def uPTPSRV : Nat := 0x0800
def uNTPSRV : Nat := 0x0801
def uPK (k : Nat) : Nat := 0x0810 + k
def uPCIE : Nat := 0x0900
def uVF (v : Nat) : Nat := 0x0910 + v
def uSMBUS : Nat := 0x0920
def uHALLWAY : Nat := 0x0A00
def uDEADBOLT : Nat := 0x0A01
def uPG (g : Nat) : Nat := 0x0B00 + g
def uFEED (n : Nat) : Nat := 0x0C00 + n
def uOCXO : Nat := 0x0C10
def uTCXO : Nat := 0x0C11

/-- The leaf row that holds a unit ID. -/
def leafRow? (u : Nat) : Option (Nat × Nat × Nat) := leafRows.find? fun r => r.1 ≤ u && u < r.1 + r.2.1

/-- The unit is a leaf of this module. -/
def isLeaf (u : Nat) : Bool := (leafRow? u).isSome

/-- The unit is MODULE or a group beneath it. -/
def isGroup (u : Nat) : Bool := u == uMODULE || groupIds.contains u

/-- R30: the IDs of Table 1.5, and no others. -/
def unitExists (u : Nat) : Bool := isLeaf u || isGroup u || u == uPAIR || u == uPARTNER

/-- The parent of a unit (Table 1.5). -/
def unitParent (u : Nat) : Option Nat :=
  if u == uMODULE || u == uPARTNER then some uPAIR
  else if groupIds.contains u then some uMODULE
  else (leafRow? u).map fun r => r.2.2

/-- The leaves of a group beneath MODULE, ascending. -/
def groupLeaves (g : Nat) : List Nat :=
  (leafRows.filter fun r => r.2.2 == g).flatMap fun r => (List.range r.2.1).map (r.1 + ·)

/-- The leaves an operation on a unit affects, ascending (R31). -/
def unitLeaves (u : Nat) : List Nat :=
  if u == uMODULE then groupIds.flatMap groupLeaves
  else if groupIds.contains u then groupLeaves u
  else if isLeaf u then [u] else []

/-- The ancestors of a unit within the module, nearest first. -/
def unitAncestors (u : Nat) : List Nat :=
  if u == uMODULE || u == uPAIR || u == uPARTNER then []
  else if groupIds.contains u then [uMODULE]
  else match leafRow? u with
    | some r => [r.2.2, uMODULE]
    | none => []

/-- Unit `u` is `a` or beneath it. -/
def isUnder (u a : Nat) : Bool := u == a || (unitAncestors u).contains a

/-- R31: a leaf is out of service while it or any ancestor carries a retire mark. -/
def State.isRetired (s : State) (u : Nat) : Bool :=
  s.un.retired.contains u || (unitAncestors u).any s.un.retired.contains

/-- R31: a leaf is isolated while it or any ancestor carries an isolate mark. -/
def State.isIsolated (s : State) (u : Nat) : Bool :=
  s.un.isolated.contains u || (unitAncestors u).any s.un.isolated.contains

/-- A unit held in reset, or not yet back in service (R84). -/
def State.isResetting (s : State) (u : Nat) : Bool := s.un.resetting.contains u

/-- The unit takes part in the module's work: no mark and no reset stands on it. -/
def State.inService (s : State) (u : Nat) : Bool := !s.isRetired u && !s.isIsolated u && !s.isResetting u

/-- Status codes, in the order of R32. -/
def stACTIVE : Nat := 0
def stDEGRADED : Nat := 1
def stRESETTING : Nat := 2
def stISOLATED : Nat := 3
def stRETIRED : Nat := 4
def stFAULTED : Nat := 5

/-- Time stamps carry `DEGRADED` throughout the module (R200). -/
def State.degradedNow (s : State) : Bool := s.rdB F.SYNTH_DEG_STATUS_DEGRADED

/-- A leaf works, but degraded: a TDC channel whose stamps are DEGRADED, a port whose stamps are (log 11). -/
def State.leafDegraded (s : State) (u : Nat) : Bool :=
  (0x100 ≤ u && u < 0x11C &&
    ((s.td.chan.at (u - 0x100) {}).rescaling || s.degradedNow || s.rdB F.CLK_BASE_STATUS_MOVING)) ||
  (0x700 ≤ u && u < 0x708 && s.degradedNow)

/-- A leaf is faulted: a feed in FAULTED (Table 2.7; log 11). -/
def State.leafFaulted (s : State) (u : Nat) : Bool :=
  (u == 0xC00 || u == 0xC01) && s.rd F.FEED_STATUS_STATE (u - 0xC00) == 4

/-- The status of the proxy PARTNER (R306, R316). -/
def State.partnerStatus (s : State) : Nat :=
  if s.isSole then stRETIRED
  else if !s.rdB F.PEER_STATUS_HB_CURRENT then stFAULTED
  else if s.rdB F.PEER_PARTNER_FAULT_LATCHED || !s.rdB F.PEER_PARTNER_LANE0_UP || !s.rdB F.PEER_PARTNER_LANE1_UP
  then stDEGRADED
  else stACTIVE

/-- The status of a leaf (R32; the order in which several conditions show is log 11). -/
def State.leafStatus (s : State) (u : Nat) : Nat :=
  if s.isRetired u then stRETIRED
  else if s.isResetting u then stRESETTING
  else if s.isIsolated u then stISOLATED
  else if s.leafFaulted u then stFAULTED
  else if s.leafDegraded u then stDEGRADED
  else stACTIVE

/-- The status of a group from those of its children (R32). -/
def groupStatusOf (l : List Nat) : Nat :=
  match l with
  | [] => stACTIVE
  | c :: r =>
    if r.all (· == c) then c
    else if l.any (fun x => x == stACTIVE || x == stDEGRADED) then stDEGRADED
    else if l.contains stFAULTED then stFAULTED
    else if l.contains stRETIRED then stRETIRED
    else if l.contains stISOLATED then stISOLATED
    else stRESETTING

/-- A group's own reset has not completed: a leaf beneath it is still held (R32). -/
def State.groupResetting (s : State) (g : Nat) : Bool :=
  s.un.groupResets.contains g && (unitLeaves g).any s.isResetting

/-- The status of a group beneath MODULE (R32). -/
def State.groupStatus (s : State) (g : Nat) : Nat :=
  if s.groupResetting g then stRESETTING else groupStatusOf ((groupLeaves g).map s.leafStatus)

/-- The status of MODULE. -/
def State.moduleStatus (s : State) : Nat :=
  if s.groupResetting uMODULE then stRESETTING else groupStatusOf (groupIds.map s.groupStatus)

/-- The status of any unit of Table 1.5 (R32). -/
def State.unitStatus (s : State) (u : Nat) : Nat :=
  if u == uPARTNER then s.partnerStatus
  else if u == uPAIR then groupStatusOf [s.moduleStatus, s.partnerStatus]
  else if u == uMODULE then s.moduleStatus
  else if groupIds.contains u then s.groupStatus u
  else s.leafStatus u

/-- A leaf's hold and restart begin (R84). -/
def State.holdReset (s : State) (u : Nat) : State :=
  { s with un := { s.un with resetting := u :: s.un.resetting.filter (· != u) } }

/-- A leaf is back in service (R84). -/
def State.backInService (s : State) (u : Nat) : State :=
  { s with un := { s.un with resetting := s.un.resetting.filter (· != u) } }

/-- Every unit with a retire mark that this reset touches has now been reset since the mark was set (R31). -/
def State.noteReset (s : State) (u : Nat) : State :=
  { s with un := { s.un with
      resetSince := s.un.resetSince ++ (s.un.retired.filter fun m => isUnder m u && !s.un.resetSince.contains m) } }

/-- A retire mark is set: the unit must be reset before it is un-retired (R31). -/
def State.markRetired (s : State) (u : Nat) : State :=
  { s with un := { s.un with retired := u :: s.un.retired.filter (· != u),
                             resetSince := s.un.resetSince.filter (· != u) } }

/-- A retire mark is cleared. -/
def State.clearRetired (s : State) (u : Nat) : State :=
  { s with un := { s.un with retired := s.un.retired.filter (· != u),
                             resetSince := s.un.resetSince.filter (· != u) } }

/-- An isolate mark is set. -/
def State.markIsolated (s : State) (u : Nat) : State :=
  { s with un := { s.un with isolated := u :: s.un.isolated.filter (· != u) } }

/-- An isolate mark is cleared. -/
def State.clearIsolated (s : State) (u : Nat) : State :=
  { s with un := { s.un with isolated := s.un.isolated.filter (· != u) } }

/-- R33: an ancestor of the unit carries a mark. -/
def State.heldByGroup (s : State) (u : Nat) : Bool :=
  (unitAncestors u).any fun a => s.un.retired.contains a || s.un.isolated.contains a

end Sys2Proof.Machine
end

