-- ==== Sys2Proof/Machine/Events.lean ====
section
/-! DEFINITION. Event records: how a record is laid out (R220, R331, R385), how it reaches the merger (R26–R28) and how
the merger releases it into the buffer (R221). -/

namespace Sys2Proof.Machine

/-- The merge window: 2 µs of the elapsed count (R28). -/
def mergeWindow : Nat := 2 * unitsPerUs

/-- Three 32-bit items as DETAIL (R331). -/
def detail3 (a b c : Nat) : Nat := (a % 2 ^ 32) * 2 ^ 64 + (b % 2 ^ 32) * 2 ^ 32 + c % 2 ^ 32

/-- A fault's DETAIL (Table 14.3). -/
def faultDetail (wire injected : Bool) (causeSource causeEntry entry itemA itemB : Nat) : Nat :=
  b2n wire * 2 ^ 95 + b2n injected * 2 ^ 94 + causeSource * 2 ^ 87 + causeEntry * 2 ^ 79 + entry * 2 ^ 64 +
    (itemA % 2 ^ 32) * 2 ^ 32 + itemB % 2 ^ 32

/-- The arrival-time bound of a record (R28): the elapsed count at which the counter reads its stamp. -/
def State.boundFor (s : State) (t : Nat) : Nat :=
  if s.now < t then s.tm.elapsed + s.elapsedFor (t - s.now) else s.tm.elapsed

/-- The order of the merger (R27): step generation, time, source number, and within a source the order of production.
Generations are compared as serial numbers of 16 bits (R209). -/
def genBefore (a b : Nat) : Bool := a % 65536 != b % 65536 && (b + 65536 - a % 65536) % 65536 < 32768

/-- One key precedes another (R27). -/
def keyBefore (a b : Nat × Nat × Nat) : Bool :=
  if a.1 % 65536 == b.1 % 65536 then a.2.1 < b.2.1 || (a.2.1 == b.2.1 && a.2.2 < b.2.2) else genBefore a.1 b.1

/-- The key of a record. -/
def EvRec.key (r : EvRec) : Nat × Nat × Nat := (r.gen, r.time, r.source)

/-- R29: a record with a greater key has been released. -/
def State.isLate (s : State) (r : EvRec) : Bool :=
  match s.ev.lastKey with
  | some k => keyBefore r.key k
  | none => false

/-- A source produces a record, which waits in the merger (R28), marked where it comes late (R29). A merger that is retired
or isolated takes none (R85; log 35). -/
def State.hold (s : State) (r : EvRec) : State :=
  if s.isRetired uMERGER || s.isIsolated uMERGER then s
  else
  { s with ev := { s.ev with held := { r with order := s.ev.produced, late := s.isLate r } :: s.ev.held,
                             produced := s.ev.produced + 1 } }

/-- A source raises a record with a given time and generation. -/
def State.emitAtGen (s : State) (source unit severity : Nat) (conseq : Bool) (detail time gen : Nat) : State :=
  s.hold { gen := gen, time := time, source := source, unit := unit, severity := severity, conseq := conseq,
           late := false, detail := detail, bound := s.boundFor time, order := 0 }

/-- An informational record of cause time `time` (R26). -/
def State.infoAt (s : State) (time source unit detail : Nat) : State :=
  s.emitAtGen source unit 0 false detail time s.gen

/-- An informational record of a cause that happens now. -/
def State.info (s : State) (source unit : Nat) (a b c : Nat) : State :=
  s.infoAt s.now source unit (detail3 a b c)

/-- One record precedes another in the merger. -/
def EvRec.before (a b : EvRec) : Bool :=
  keyBefore a.key b.key || (a.key == b.key && a.order < b.order)

/-- The first record in key order. -/
def firstRecord : List EvRec → Option EvRec
  | [] => none
  | r :: l => match firstRecord l with
    | none => some r
    | some m => if r.before m then some r else some m

/-- The buffer holds 32,768 records (R221). -/
def bufferSize : Nat := 32768

/-- Sources whose records enter the buffer: every fault source, and an informational one with BUFFER = 1 (R221). -/
def State.buffered (s : State) (source : Nat) : Bool := source < 64 || s.rdB F.EVT_SRC_CFG_BUFFER source

/-- R222: VF v receives records of a source. -/
def State.vfPermits (s : State) (v source : Nat) : Bool :=
  s.rdB F.EVT_VF_CFG_ALLOW v && s.rdB F.EVT_SRC_CFG_VF_VISIBLE source &&
    bitOf (s.rd F.TM_SUB_SOURCES (v * 4 + source / 32)) (source % 32)

/-- The merger's output count and registers for a released record (R221, Table 9.5). -/
def State.countRelease (s : State) (r : EvRec) : State :=
  let s := s.wr F.EVT_STATUS_LAST_SEQ 0 s.ev.nextSeq
  let s := s.bumpWrap F.EVT_EMITTED_COUNT
  if r.late then (s.wr F.EVT_STATUS_LATE_SEEN 0 1).bump F.EVT_LATE_COUNT_COUNT else s

/-- A released record enters the buffer; the oldest is overwritten when the buffer is full (R221). -/
def State.bufferPush (s : State) (r : EvRec) : State :=
  let b : BufRec := { seq := s.ev.nextSeq, rcd := r }
  let buf := b :: s.ev.buffer
  let s := if bufferSize < buf.length then s.wr F.EVT_STATUS_WRAPPED 0 1 else s
  let buf := buf.take bufferSize
  let s := { s with ev := { s.ev with buffer := buf } }
  let s := s.wr F.EVT_LEVEL_HELD 0 buf.length
  match buf.getLast? with
  | some o => s.wr F.EVT_OLDEST_SEQ_SEQ 0 o.seq
  | none => s

/-- A record leaves the merger: it takes the next SEQ, enters the buffer if its source is buffered, and its key is the
greatest released so far unless it is late (R28, R29, R221). -/
def State.releaseRecord (s : State) (r : EvRec) : State :=
  let s := s.countRelease r
  let s := if s.buffered r.source then s.bufferPush r else s
  let greatest := match s.ev.lastKey with
    | none => some r.key
    | some k => if keyBefore k r.key then some r.key else some k
  let latches := s.flt.latches.map fun p =>
    if p.2.rcd = r.order ∧ p.2.seq = none then (p.1, { p.2 with seq := some s.ev.nextSeq }) else p
  { s with ev := { s.ev with nextSeq := s.ev.nextSeq + 1, lastKey := greatest }
           flt := { s.flt with latches := latches } }

/-- An entry of the porch trace (R214, Table 9.2), written circularly. The porch time at which it is written is a count of
the porch crystal, which no command of the table advances: its ticks and seconds are free values (log 25). -/
def State.porchTrace (s : State) (kind detail : Nat) : State :=
  let k := s.rd F.PORCH_STATUS_TRACE_NEXT % 16
  let s := (s.wr F.PORCH_TRACE_WORD (2 * k) (kind * 2 ^ 24 + detail % 256 * 2 ^ 16 + s.freeNat % 2 ^ 15)).drawn
  let s := (s.wr F.PORCH_TRACE_WORD (2 * k + 1) s.freeNat).drawn
  (s.wr F.PORCH_STATUS_TRACE_NEXT 0 ((k + 1) % 16)).bump F.PORCH_STATUS_TRACE_COUNT

/-- The 256 bits of a buffered record (Table 9.5). -/
def recordBits (b : BufRec) (overflow : Bool) : Nat :=
  t96 b.rcd.time * 2 ^ 160 + (b.rcd.gen % 65536) * 2 ^ 144 + (b.seq % 65536) * 2 ^ 128 + b.rcd.source * 2 ^ 121 +
    b2n b.rcd.late * 2 ^ 120 + b2n b.rcd.conseq * 2 ^ 119 + b2n overflow * 2 ^ 118 + b.rcd.severity * 2 ^ 116 +
    (b.rcd.unit % 65536) * 2 ^ 96 + b.rcd.detail % 2 ^ 96

end Sys2Proof.Machine
end

