-- ==== Sys2Proof/Machine/Deadbolt.lean ====
section
/-! DEFINITION. The deadbolt's claim and the pair state as the other parts use them (R307–R312). -/

namespace Sys2Proof.Machine

/-- Pair states, codes of PEER_STATUS.PAIR_STATE. -/
def psSOLE : Nat := 0
def psWAITING : Nat := 1
def psSTANDBY : Nat := 2
def psCLAIMING : Nat := 3
def psACTIVE : Nat := 4
def psBLOCKED : Nat := 5

/-- The present pair state. -/
def State.pairState (s : State) : Nat := s.rd F.PEER_STATUS_PAIR_STATE

/-- The module's claim is asserted (R307). -/
def State.claims (s : State) : Bool := s.rdB F.PEER_STATUS_CLAIM_OUT

/-- The partner's claim is read: any reading but 0 (Table 13.1). -/
def State.claimRead (s : State) : Bool := s.rd F.PEER_STATUS_CLAIM_IN != 0

/-- R309: eligible to claim. -/
def State.eligible (s : State) : Bool :=
  s.pairState != psSOLE && 2 ≤ s.stage && s.peerRd F.PEER_CFG_CLAIM_EN == 1 && s.inService uDEADBOLT &&
    s.pairState != psBLOCKED && !s.pr.reclaiming

/-- A change of pair state, with its source 98 (R312). -/
def State.setPairState (s : State) (n : Nat) : State :=
  if s.pairState = n then s
  else
    let s := s.wr F.PEER_STATUS_PAIR_STATE 0 n
    s.info 98 uDEADBOLT 0 0 0

/-- The guarded drivers are enabled: only in `ACTIVE`, and always on a sole module (R306, R308). -/
def State.guardedOn (s : State) : Bool := s.isSole || s.pairState == psACTIVE

/-- ACTIVE_N is low exactly while the guarded drivers are enabled; a sole module drives it low in Stages 1–3. -/
def State.activeNLow (s : State) : Bool := if s.isSole then s.stage != 0 else s.pairState == psACTIVE

/-- Table 13.2 for a module that neither holds a claim nor is blocked: not eligible, it waits; eligible, it stands by
while its partner claims, and otherwise starts the slot delay of R309. -/
def State.pairReview (s : State) : State :=
  let p := s.pairState
  if p == psWAITING || p == psSTANDBY then
    if !s.eligible then s.setPairState psWAITING
    else if s.claimRead then s.setPairState psSTANDBY
    else ({ s with pr := { s.pr with slotDelay := true } }).setPairState psCLAIMING
  else if p == psCLAIMING && !s.claims then
    if s.claimRead then ({ s with pr := { s.pr with slotDelay := false } }).setPairState psSTANDBY
    else if !s.eligible then ({ s with pr := { s.pr with slotDelay := false } }).setPairState psWAITING
    else s
  else s

/-- An `ACTIVE` or claiming module gives up its claim (R308, R311): the guarded drivers go high-Z first, then CLAIM_OUT
is released; the pair state follows Table 13.2 and the RECLAIM_MS hold-off starts. A module that holds no claim, and a
sole module, are left as they are. -/
def State.releaseClaim (s : State) : State :=
  if s.claims && (s.pairState == psACTIVE || s.pairState == psCLAIMING) then
    let s := s.wr F.PEER_STATUS_CLAIM_OUT 0 0
    let would := { s with pr := { s.pr with reclaiming := false } }
    let next := if would.eligible then psSTANDBY else psWAITING
    let s := { s with pr := { s.pr with reclaiming := true, confirm := false, slotDelay := false,
                                        conflictHold := false } }
    (s.setPairState next).pairReview
  else s

end Sys2Proof.Machine
end

