-- ==== Sys2Proof/Machine/Msix.lean ====
section
/-! DEFINITION. MSI-X messages (R300): sent, or left pending while masked or while nothing may be written to host memory
(R280; log 21). -/

namespace Sys2Proof.Machine

/-- A function's vector is sent, or its pending bit is set. -/
def State.sendMsix (s : State) (fn vec : Nat) : State :=
  let key := fn * 256 + vec
  if !s.hs.unmasked.contains key || s.rd F.HOST_STATUS_D_STATE == 3 then
    { s with hs := { s.hs with pba := key :: s.hs.pba.filter (· != key) } }
  else (s.emitOut (.msix fn vec)).bump F.HOST_MSIX_SENT_COUNT

/-- MSIX_UNMASK (R300): a vector is unmasked, and its pending message is sent. -/
def State.unmask (s : State) (fn vec : Nat) : State :=
  let key := fn * 256 + vec
  let s := { s with hs := { s.hs with unmasked := key :: s.hs.unmasked.filter (· != key) } }
  if s.hs.pba.contains key then
    ({ s with hs := { s.hs with pba := s.hs.pba.filter (· != key) } }).sendMsix fn vec
  else s

end Sys2Proof.Machine
end

