-- ==== Sys2Proof/Machine/Faults.lean ====
section
/-! DEFINITION. The fault collector (R329–R341): severity, latch table, slate, settle windows, grace and the start of a
reaction. -/

namespace Sys2Proof.Machine

/-- Severities (R333). -/
def sevNOTE : Nat := 0
def sevMINOR : Nat := 1
def sevMAJOR : Nat := 2
def sevCRITICAL : Nat := 3

/-- The severity in force of a source: the one taken at the last decision epoch, else the reset one (R333). -/
def State.severityOf (s : State) (src : Nat) : Nat := s.flt.severity.at src (F.FLT_SRC_CFG_SEVERITY.reset src)

/-- The dependents mask of a source: the one written, else that of Table 14.5. -/
def depMaskReset (src : Nat) : Nat :=
  if src == 3 then ofBits [22, 23, 24, 25, 27, 46] else if src == 5 then ofBits [4, 7, 28, 33, 46] else 0

/-- The dependents mask in force of a source. -/
def State.depMaskOf (s : State) (src : Nat) : Nat := s.flt.depMask.at src (depMaskReset src)

/-- What a detector reports: source, unit, items, and the access that caused it (R331, R341). -/
structure Cause where
  source : Nat
  unit : Nat
  itemA : Nat := 0
  itemB : Nat := 0
  wire : Bool := false
  injected : Bool := false
  access : Nat := 0
  master : Nat := 0
  addr : Nat := 0
  deriving DecidableEq, Repr

/-- A settle window is open at a time (R339). -/
def Window.openAt (w : Window) (t : Nat) : Bool :=
  w.start ≤ t && match w.stop with
    | none => true
    | some e => t ≤ e

/-- The first-opened window that makes a source consequential at a time (R339). Windows are kept newest first. -/
def State.windowFor (s : State) (src t : Nat) : Option Window :=
  s.flt.windows.reverse.find? fun w => w.openAt t && bitOf w.mask src

/-- SETTLE codes (R339), in FRACTION units. -/
def settleTime (code : Nat) : Nat :=
  unitsPerUs * [10, 20, 50, 100, 200, 500, 1000, 2000, 5000, 10000, 20000, 50000, 100000].getD code 100000

/-- The first commit-tick boundary at or after a time. -/
def tickAtOrAfter (t : Nat) : Nat := (t + unitsPerUs - 1) / unitsPerUs * unitsPerUs

/-- The number of the latch entry of a source and unit, if it has one. -/
def State.latchOf (s : State) (src unit : Nat) : Option Nat :=
  (s.flt.latches.find? fun p => p.1 != 255 && p.2.source == src && p.2.unit == unit).map (·.1)

/-- The entry a new fault takes: the lowest free one among 0–254, else 255 (R334). -/
def State.freeLatch (s : State) : Nat :=
  ((List.range 255).find? fun k => (Tab.find s.flt.latches k).isNone).getD 255

/-- One entry of the latch table put. -/
def State.putLatch (s : State) (k : Nat) (l : Latch) : State :=
  { s with flt := { s.flt with latches := s.flt.latches.put k l } }

/-- R340: the pins are in fault. -/
def State.errFault (s : State) : Bool :=
  s.flt.latches.any fun p => max 1 (s.rd F.FLT_CFG_ERR_MIN_SEV) ≤ p.2.severity

/-- A reaction starts (R337): the claim is released, the shutter and the unit operation are scheduled for the first tick
at least 1 µs after the cause, and the settle window opens; with 16 windows open the one that would close first goes. -/
def State.startReaction (s : State) (src unit entry cause : Nat) : State :=
  let s := s.releaseClaim
  let act := s.rd F.FLT_SRC_CFG_ACTION src
  let act := if 4 < act then 1 else act
  let r : Reaction := { source := src, unit := unit, entry := entry, cause := cause,
                        due := tickAtOrAfter (cause + unitsPerUs),
                        shutter := s.rdB F.FLT_SRC_CFG_SHUTTER src, action := act, applied := false, code := 0xFF }
  let w : Window := { source := src, entry := entry, mask := s.depMaskOf src,
                      settle := settleTime (s.rd F.FLT_SRC_CFG_SETTLE src), start := cause, stop := none }
  let open_ := s.flt.windows
  let kept := if open_.length < 16 then open_ else
    let key := fun x : Window => x.stop.getD (2 ^ 128)
    let least := open_.foldl (fun m x => min m (key x)) (2 ^ 128)
    match open_.reverse.find? fun x => key x == least with
    | some x => open_.erase x
    | none => open_.take 15
  let s := { s with flt := { s.flt with reactions := r :: s.flt.reactions, windows := w :: kept } }
  let s := s.wrAll [(F.FLT_REACT_STATUS_LAST_SOURCE, 0, src), (F.FLT_REACT_STATUS_LAST_ACTION, 0, act),
                    (F.FLT_REACT_STATUS_REFUSED, 0, 0), (F.FLT_REACT_STATUS_LAST_UNIT, 0, unit)]
  s.bump F.FLT_REACT_COUNT_COUNT

/-- The slate takes a fault that took a latch entry (R341). -/
def State.slateTake (s : State) (c : Cause) (sev entry time : Nat) : State :=
  let n : Slate := { source := c.source, unit := c.unit, severity := sev, wire := c.wire, access := c.access,
                     master := if c.access == 0 then 0 else c.master,
                     addr := if c.access == 0 then 0 else c.addr, gen := s.gen, time := time, entry := entry }
  match s.flt.slate with
  | none => { s with flt := { s.flt with slate := some n } }
  | some o =>
    let s := s.bump F.FLT_SLATE_LATER_COUNT
    if keyBefore (n.gen, n.time, n.source) (o.gen, o.time, o.source) then
      { s with flt := { s.flt with slate := some n } }
    else s

/-- The highest vector PF0 has for FLT_CFG.VECTOR. -/
def State.faultVector (s : State) : Nat := min (s.rd F.FLT_CFG_VECTOR) 127

/-- Latch entries in use, and the most since full reset. -/
def State.noteLatchUse (s : State) : State :=
  s.wr F.FLT_LATCH_HIGH_HIGH_WATER 0 (max (s.rd F.FLT_LATCH_HIGH_HIGH_WATER) s.flt.latches.length)

/-- A fault of severity MINOR or higher takes or counts a latch entry (R334): the state and the entry's number. -/
def State.latchFault (s : State) (c : Cause) (sev time : Nat) : State × Nat :=
  match s.latchOf c.source c.unit with
  | some k =>
    match Tab.find s.flt.latches k with
    | some l => (s.putLatch k { l with count := satTo 32 (l.count + 1) }, k)
    | none => (s, k)
  | none =>
    let k := s.freeLatch
    match Tab.find s.flt.latches k with
    | some l => (s.putLatch k { l with count := satTo 32 (l.count + 1) }, k)
    | none =>
      let grace := s.rd F.FLT_SRC_CFG_GRACE_MS c.source
      let l : Latch := { source := c.source, unit := if k == 255 then uMODULE else c.unit, severity := sev,
                         wire := c.wire, acked := false, escalated := false, count := 1, gen := s.gen,
                         firstTime := time,
                         graceEnd := if sev == sevMAJOR && grace != 0 then some (time + grace * unitsPerMs)
                                     else none, rcd := s.ev.produced }
      let s := (s.putLatch k l).noteLatchUse
      let s := s.slateTake c sev k time
      let s := s.when (s.rdB F.EVT_CFG_PORCH_FAULTS) (·.porchTrace 8 c.source)
      (s.sendMsix 0 s.faultVector, k)

/-- The severity a cause is recorded at outside every window: the one in force, but NOTE for a locked or non-owner
write by master 17, 18 or 19 (R341). -/
def State.causeSeverity (s : State) (c : Cause) : Nat :=
  if (c.source == 41 || c.source == 51) && 17 ≤ c.master then sevNOTE else s.severityOf c.source

/-- A detector raises a fault with a given cause time (R330–R341). -/
def State.raiseAt (s : State) (c : Cause) (time : Nat) : State :=
  let s := s.bump F.FLT_SRC_STAT_COUNT c.source
  match s.windowFor c.source time with
  | some w =>
    let s := (s.bump F.FLT_SEV_COUNT_COUNT sevNOTE).bump F.FLT_CONSEQ_COUNT_COUNT
    s.emitAtGen c.source c.unit sevNOTE true
      (faultDetail c.wire c.injected w.source w.entry 0xFF c.itemA c.itemB) time s.gen
  | none =>
    let sev := s.causeSeverity c
    let s := s.bump F.FLT_SEV_COUNT_COUNT sev
    if sev == sevNOTE then
      s.emitAtGen c.source c.unit sev false (faultDetail c.wire c.injected 0x7F 0xFF 0xFF c.itemA c.itemB) time s.gen
    else
      let p := s.latchFault c sev time
      let s := p.1.emitAtGen c.source c.unit sev false
        (faultDetail c.wire c.injected 0x7F 0xFF p.2 c.itemA c.itemB) time s.gen
      if sev == sevCRITICAL || (sev == sevMAJOR && s.rd F.FLT_SRC_CFG_GRACE_MS c.source == 0) then
        s.startReaction c.source c.unit p.2 time
      else s

/-- A detector raises a fault whose cause is now. -/
def State.raise (s : State) (c : Cause) : State := s.raiseAt c s.now

/-- A fault with no access behind it. -/
def State.fault (s : State) (source unit itemA itemB : Nat) : State :=
  s.raise { source := source, unit := unit, itemA := itemA, itemB := itemB }

/-- A fault raised at most once in a decision epoch (R97, R221, R332). -/
def State.faultOnce (s : State) (source unit itemA itemB : Nat) : State :=
  let tag := source * 65536 + unit
  if s.flt.onceThisEpoch.contains tag then s
  else ({ s with flt := { s.flt with onceThisEpoch := tag :: s.flt.onceThisEpoch } }).fault source unit itemA itemB

/-- A latch entry is cleared by a reset: it leaves the table, empties the slate if that describes it, and source 101
names its source and unit (R335, R341). -/
def State.clearLatch (s : State) (k : Nat) : State :=
  match Tab.find s.flt.latches k with
  | none => s
  | some l =>
    let slate := match s.flt.slate with
      | some x => if x.entry == k then none else some x
      | none => none
    let s := { s with flt := { s.flt with latches := s.flt.latches.erase k, slate := slate } }
    s.info 101 l.unit l.source l.unit 0

/-- A reset of a unit clears the latch entries of it and its descendants, but not those of MODULE, entry 255, nor the
entry kept by the reaction that issued the reset (R335). -/
def State.clearLatchesUnder (s : State) (u : Nat) (keep : Option Nat) : State :=
  let ks := (s.flt.latches.filter fun p =>
    p.1 != 255 && p.2.unit != uMODULE && isUnder p.2.unit u && keep != some p.1).map (·.1)
  ks.foldl (fun t k => t.clearLatch k) s

/-- R210, R336, R339: a time step moves every running grace timer and every open window by its amount. -/
def State.shiftFaultTimers (s : State) (a : Int) : State :=
  let mv := fun t : Nat => ((t : Int) + a).toNat
  { s with flt := { s.flt with
      latches := s.flt.latches.map fun p => (p.1, { p.2 with graceEnd := p.2.graceEnd.map mv })
      windows := s.flt.windows.map fun w => { w with start := mv w.start, stop := w.stop.map mv }
      reactions := s.flt.reactions.map fun r => { r with due := mv r.due, cause := mv r.cause } } }

end Sys2Proof.Machine
end

