-- ==== Sys2Proof/Machine/Memory.lean ====
section
/-! DEFINITION. Byte memory: a list of address and byte pairs, addresses strictly rising, no byte equal to what an
unlisted address reads as. It serves the attic (1 MB, R345) and the staging buffer (4,096 bytes, R362). -/

namespace Sys2Proof.Machine

/-- A byte memory in its canonical form. -/
abbrev Memory := List Host.Cell

/-- What an unlisted address reads as: 0 (DESIGN CHOICE, log 4: the spec gives no contents of an unwritten page). -/
def Memory.blank : BitVec 8 := 0

/-- The byte at an address. -/
def Memory.read (m : Memory) (a : Nat) : BitVec 8 := Tab.at m a Memory.blank

/-- The memory with one byte written; the blank byte is not listed. -/
def Memory.write (m : Memory) (a : Nat) (b : BitVec 8) : Memory := Tab.set m a b Memory.blank

/-- The canonical form: addresses strictly rising, no blank byte listed. -/
def Memory.wf : Memory → Bool
  | [] => true
  | (k, v) :: r => v ≠ Memory.blank && (r.all fun p => k < p.1) && Memory.wf r

/-- The bytes from an address on, as numbers. -/
def Memory.bytes (m : Memory) (a n : Nat) : List Nat := (List.range n).map fun k => (Memory.read m (a + k)).toNat

/-- A run of bytes written from an address on. -/
def Memory.writeBytes (m : Memory) (a : Nat) : List Nat → Memory
  | [] => m
  | b :: r => Memory.writeBytes (Memory.write m a (BitVec.ofNat 8 b)) (a + 1) r

/-- Bytes, most significant first, as one number. -/
def beNat (l : List Nat) : Nat := l.foldl (fun a b => a * 256 + b % 256) 0

/-- A number as `n` bytes, most significant first. -/
def beBytes (n v : Nat) : List Nat := (List.range n).map fun k => v / 256 ^ (n - 1 - k) % 256

/-- One step of the CRC-32C shift register for one bit (reflected polynomial 0x82F63B78; log 12). -/
def crcBit (c : Nat) : Nat := if c % 2 = 1 then (c / 2) ^^^ 0x82F63B78 else c / 2

/-- The register after one byte. -/
def crcByte (c b : Nat) : Nat := (List.range 8).foldl (fun x _ => crcBit x) (c ^^^ (b % 256))

/-- CRC-32C of a run of bytes. -/
def crc32c (l : List Nat) : Nat := (l.foldl crcByte 0xFFFFFFFF) ^^^ 0xFFFFFFFF

/-- CRC-16 with polynomial 0x1021, initial 0xFFFF, not reflected, no final XOR (Table 9.3). -/
def crc16 (l : List Nat) : Nat :=
  l.foldl (fun c b => (List.range 8).foldl
    (fun x _ => if x / 32768 % 2 = 1 then (x * 2 % 65536) ^^^ 0x1021 else x * 2 % 65536) (c ^^^ (b % 256 * 256))) 0xFFFF

end Sys2Proof.Machine
end

