-- ==== Sys2Proof/Machine/AtticMem.lean ====
section
/-! DEFINITION. The attic's records as bytes (R345–R351, R355, R357): allocation, headers, choosing a copy, writing
copies, rings and lifetime counters. -/

namespace Sys2Proof.Machine

/-- Record types (Table 15.3). -/
def rtIDENTITY : Nat := 0x01
def rtFACTORY : Nat := 0x02
def rtTDC_SHAPE : Nat := 0x03
def rtRETIRE_LIST : Nat := 0x04
def rtBOOT : Nat := 0x10
def rtHOLD_SUMMARY : Nat := 0x20
def rtSHUTDOWN : Nat := 0x21
def rtLIFETIME : Nat := 0x22
def rtEVENT_LOG : Nat := 0x23
def rtHOST : Nat := 0x30

/-- A row of Table 15.3 with its place in Table 15.1: instances, maximum LENGTH, first page of copy A, pages of an
instance, archive or dailies, host may write. -/
structure RecType where
  instances : Nat
  maxLen : Nat
  page : Nat
  pages : Nat
  archive : Bool
  hostWrite : Bool
  deriving DecidableEq, Repr

/-- Table 15.3 and Table 15.1. -/
def recType (t : Nat) : Option RecType :=
  if t = rtIDENTITY then some ⟨1, 224, 0, 1, true, false⟩
  else if t = rtFACTORY then some ⟨8, 992, 1, 4, true, false⟩
  else if t = rtTDC_SHAPE then some ⟨28, 736, 33, 3, true, false⟩
  else if t = rtRETIRE_LIST then some ⟨1, 224, 117, 1, true, false⟩
  else if t = rtBOOT then some ⟨16, 4064, 118, 16, true, true⟩
  else if t = rtHOLD_SUMMARY then some ⟨16, 224, 1032, 8, false, false⟩
  else if t = rtSHUTDOWN then some ⟨1, 224, 1028, 4, false, false⟩
  else if t = rtLIFETIME then some ⟨1, 128, 1024, 4, false, false⟩
  else if t = rtEVENT_LOG then some ⟨2560, 224, 1536, 1, false, false⟩
  else if t = rtHOST then some ⟨8, 4064, 374, 16, true, true⟩
  else none

/-- The first byte of an instance's copy: copy B lies 512 pages above copy A (R345). -/
def copyAddr (r : RecType) (inst : Nat) (copyB : Bool) : Nat :=
  256 * (r.page + r.pages * inst + if copyB then 512 else 0)

/-- The page group of a byte address (R345). -/
def pageGroup (a : Nat) : Nat := a / 256 / 64

/-- A record as read: SEQ, T96 time, version, payload, and the bytes of the copy without COPY and CRC. -/
structure RecCopy where
  seq : Nat
  time : Nat
  version : Nat
  payload : List Nat
  content : List Nat
  deriving DecidableEq, Repr

/-- Header bytes 0–27 (Table 15.2). -/
def headerBytes (rtype inst : Nat) (copyB : Bool) (len seq time : Nat) : List Nat :=
  [0xA7, 0x7C, rtype % 256, inst % 256, 1, b2n copyB] ++ beBytes 2 len ++ beBytes 4 seq ++ beBytes 12 time ++
    beBytes 4 0

/-- The bytes of a whole copy: header, CRC, payload (R347). -/
def copyBytes (rtype inst : Nat) (copyB : Bool) (seq time : Nat) (payload : List Nat) : List Nat :=
  let h := headerBytes rtype inst copyB payload.length seq time
  h ++ beBytes 4 (crc32c (h ++ payload)) ++ payload

/-- A dailies group that covers a byte is uncorrectable (R346). -/
def State.groupsBad (s : State) (a n : Nat) : Bool :=
  s.at_.badGroups.any fun g => a / 8 ≤ g && g ≤ (a + n - 1) / 8

/-- The copy is empty: its MAGIC is another value (R350). -/
def State.copyEmpty (s : State) (a : Nat) : Bool := beNat (Memory.bytes s.at_.mem a 2) ≠ 0xA77C

/-- A record copy at an address, if it is valid: MAGIC, length, CRC (R346, R347, R350). -/
def State.readCopy (s : State) (a maxLen : Nat) : Option RecCopy :=
  if s.copyEmpty a then none
  else
    let h := Memory.bytes s.at_.mem a 28
    let len := beNat ((h.drop 6).take 2)
    if maxLen < len then none
    else
      let p := Memory.bytes s.at_.mem (a + 32) len
      if crc32c (h ++ p) = beNat (Memory.bytes s.at_.mem (a + 28) 4) then
        some { seq := beNat ((h.drop 8).take 4), time := beNat ((h.drop 12).take 12), version := h.getD 4 0,
               payload := p, content := h.take 5 ++ [h.getD 5 0 / 2] ++ h.drop 6 ++ p }
      else none

/-- One SEQ is newer than another, as serial numbers modulo 2³² (R350). -/
def seqNewer (a b : Nat) : Bool := a % 2 ^ 32 != b % 2 ^ 32 && (a + 2 ^ 32 - b % 2 ^ 32) % 2 ^ 32 < 2 ^ 31

/-- What a read of an archive record finds (R350): the record used, whether it conflicts, and the copy that is invalid
beside a valid one (1 copy A, 2 copy B). `bothEmpty` tells an absent record from a lost one. -/
structure Chosen where
  rcd : Option RecCopy
  conflict : Bool
  repair : Nat
  bothEmpty : Bool
  deriving DecidableEq, Repr

/-- R350: which copy of an archive record is used. -/
def State.chooseCopy (s : State) (r : RecType) (inst : Nat) : Chosen :=
  let a := copyAddr r inst false
  let b := copyAddr r inst true
  match s.readCopy a r.maxLen, s.readCopy b r.maxLen with
  | some x, none => ⟨some x, false, 2, false⟩
  | none, some y => ⟨some y, false, 1, false⟩
  | none, none => ⟨none, false, 0, s.copyEmpty a && s.copyEmpty b⟩
  | some x, some y =>
    if seqNewer x.seq y.seq then ⟨some x, false, 0, false⟩
    else if seqNewer y.seq x.seq then ⟨some y, false, 0, false⟩
    else ⟨some x, x.content != y.content, 0, false⟩

/-- The copy of an archive record that the module itself uses, with CONFLICT: a copy in a version it does not know counts
as absent (R348). -/
def State.usableCopy (s : State) (r : RecType) (inst : Nat) : Option (RecCopy × Bool) :=
  let known := fun b : Bool => (s.readCopy (copyAddr r inst b) r.maxLen).filter (·.version = 1)
  let c := s.chooseCopy r inst
  match c.rcd with
  | none => none
  | some x =>
    if x.version = 1 then some (x, c.conflict)
    else match known false with
      | some y => some (y, false)
      | none => (known true).map fun y => (y, false)

/-- Slot k of a ring of one-page slots (R355), if its header is valid, its CRC matches and its groups are correctable. -/
def State.readSlot (s : State) (r : RecType) (inst k : Nat) : Option RecCopy :=
  let a := 256 * (r.page + r.pages * inst + k)
  match s.readCopy a r.maxLen with
  | some c => if s.groupsBad a (32 + c.payload.length) then none else some c
  | none => none

/-- Slots in a ring: 8 for HOLD_SUMMARY, 4 for SHUTDOWN. -/
def ringSlots (t : Nat) : Nat := if t = rtHOLD_SUMMARY then 8 else 4

/-- The newest valid slot of a ring: its number and record (R355). -/
def State.newestSlot (s : State) (t inst : Nat) : Option (Nat × RecCopy) :=
  match recType t with
  | none => none
  | some r =>
    let slots := (List.range (ringSlots t)).filterMap fun k => (s.readSlot r inst k).map fun c => (k, c)
    slots.foldl (fun best x => match best with
      | none => some x
      | some y => if seqNewer x.2.seq y.2.seq then some x else some y) none

/-- Bytes of the attic written; a written dailies group is whole again. -/
def State.atticWrite (s : State) (a : Nat) (bs : List Nat) : State :=
  let lo := a / 8
  let hi := (a + bs.length - 1) / 8
  let keep := fun g : Nat => !(lo ≤ g && g ≤ hi)
  { s with at_ := { s.at_ with mem := Memory.writeBytes s.at_.mem a bs, badGroups := s.at_.badGroups.filter keep } }

/-- T96 at the start of a commit, or 0 while TIME_STATUS.VALID = 0 (Table 15.2). -/
def State.commitStamp (s : State) : Nat := if s.rdB F.TIME_STATUS_VALID then t96 s.now else 0

/-- A slot record written into its ring: the slot after the newest one, SEQ one higher (R355). -/
def State.writeSlot (s : State) (t inst : Nat) (payload : List Nat) : State :=
  match recType t with
  | none => s
  | some r =>
    let p := match s.newestSlot t inst with
      | some (k, c) => ((k + 1) % ringSlots t, (c.seq + 1) % 2 ^ 32)
      | none => (0, 1)
    s.atticWrite (256 * (r.page + r.pages * inst + p.1)) (copyBytes t inst false p.2 s.commitStamp payload)

/-! Lifetime counters (R357). -/

/-- Byte address of slot k (0 or 1) of counter n (0–15; numbers beyond these name no other byte than the counters'). -/
def lifeAddr (n k : Nat) : Nat := 262144 + 64 * (n % 16) + 32 * (k % 2)

/-- Cells 0–3 of a counter slot, as bytes (most significant byte first; log 12). -/
def lifeCells (n value seq : Nat) : List Nat :=
  beBytes 4 (value % 2 ^ 32) ++ beBytes 4 (value / 2 ^ 32 % 2 ^ 32) ++ beBytes 4 seq ++ beBytes 4 (n * 2 ^ 24 + 1)

/-- A counter slot's SEQ and value, if the slot is valid. -/
def State.lifeSlot (s : State) (n k : Nat) : Option (Nat × Nat) :=
  let a := lifeAddr n k
  let c := Memory.bytes s.at_.mem a 16
  if s.groupsBad a 32 || crc32c c ≠ beNat (Memory.bytes s.at_.mem (a + 16) 4) || (c.drop 12) ≠ beBytes 4 (n * 2 ^ 24 + 1)
  then none
  else some (beNat ((c.drop 8).take 4), beNat (c.take 4) + beNat ((c.drop 4).take 4) * 2 ^ 32)

/-- The slot in force of a counter: its number, SEQ and value. -/
def State.lifeRead (s : State) (n : Nat) : Option (Nat × Nat × Nat) :=
  match s.lifeSlot n 0, s.lifeSlot n 1 with
  | some (q, v), none => some (0, q, v)
  | none, some (q, v) => some (1, q, v)
  | some (q, v), some (q', v') => if seqNewer q' q then some (1, q', v') else some (0, q, v)
  | none, none => none

/-- A counter's value; 0 with neither slot valid (R357). -/
def State.lifeValue (s : State) (n : Nat) : Nat := match s.lifeRead n with
  | some x => x.2.2
  | none => 0

/-- An update of a counter: the other slot takes the new value and SEQ + 1, the marker last (R357). -/
def State.lifeWrite (s : State) (n amount : Nat) : State :=
  let p := match s.lifeRead n with
    | some (k, q, v) => (1 - k, (q + 1) % 2 ^ 32, v + amount)
    | none => (0, 1, amount)
  let cells := lifeCells n p.2.2 p.2.1
  s.atticWrite (lifeAddr n p.1) (cells ++ beBytes 4 (crc32c cells) ++ List.replicate 12 0)

/-- Every pending counter update written. -/
def State.flushLife (s : State) : State :=
  s.at_.lifePending.foldl (fun t x => t.lifeWrite x.1 x.2) { s with at_ := { s.at_ with lifePending := [] } }

/-- A counter advances (Table 15.5): written at once while the port is free, otherwise pending (R352, R360). A counter
with neither slot valid raises source 49 (R357). -/
def State.lifeBump (s : State) (n amount : Nat) : State :=
  if amount = 0 then s
  else
    let s := s.when (s.lifeRead n).isNone (·.fault 49 (uPG (pageGroup (lifeAddr n 0))) (lifeAddr n 0 / 256) rtLIFETIME)
    let s := { s with at_ := { s.at_ with lifePending := s.at_.lifePending ++ [(n, amount)] } }
    if s.at_.port.isEmpty then s.flushLife else s

end Sys2Proof.Machine
end

