-- ==== Sys2Proof/Machine/AtticPort.lean ====
section
/-! DEFINITION. Requests at the attic's write port, and the retire list's commit (R128, R352). -/

namespace Sys2Proof.Machine

/-- The request at the head of the port starts: its time stamp is taken, and an operation that awaits the retire list's
commit awaits this one (R128, R352). -/
def State.portStarts (s : State) : State :=
  match s.at_.port with
  | [] => s
  | r :: _ =>
    let list := r.rtype == rtRETIRE_LIST && r.repair == 0
    { s with at_ := { s.at_ with began := s.commitStamp }
             un := { s.un with awaiting := if list then s.un.awaiting.map fun w => (w.1, w.2.1, true) else s.un.awaiting } }

/-- A request waits at the port, in order of commit time; the first one is in progress (R352). -/
def State.portRequest (s : State) (r : AtticReq) : State :=
  let free := s.at_.port.isEmpty
  let s := { s with at_ := { s.at_ with port := s.at_.port ++ [r] } }
  s.when free (·.portStarts)

/-- The RETIRE_LIST payload: the monitor bitmap, bits 0–43 (Table 15.3), as a 64-bit number, most significant byte first
(log 12). -/
def retirePayload (l : List Nat) : List Nat := beBytes 8 (ofBits (l.filter (· < 44)))

/-- The monitors of a RETIRE_LIST payload. -/
def retireOf (p : List Nat) : List Nat := bitsSet 44 (beNat p)

/-- The retire list is to be committed with its present contents; a change joins a commit that is still queued (R352). -/
def State.queueRetireList (s : State) : State :=
  let s := s.wr F.QUAL_RETIRE_STATUS_COMMIT_PENDING 0 1
  let pay := retirePayload s.ql.list
  let isList := fun r : AtticReq => r.rtype == rtRETIRE_LIST && r.repair == 0
  if (s.at_.port.drop 1).any isList then
    let later := (s.at_.port.drop 1).map (fun r => if isList r then { r with payload := pay } else r)
    { s with at_ := { s.at_ with port := s.at_.port.take 1 ++ later } }
  else s.portRequest { rtype := rtRETIRE_LIST, inst := 0, payload := pay, master := 19, replyKind := 0, replyTo := 0,
                       repair := 0 }

/-- A monitor joins or leaves the retire list, which is committed (R128). -/
def State.listRetire (s : State) (m : Nat) (on_ : Bool) : State :=
  let l := s.ql.list.filter (· != m)
  let l := if on_ then m :: l else l
  (({ s with ql := { s.ql with list := l } }).wr F.QUAL_RETIRE_STATUS_ENTRIES 0 l.length).queueRetireList

end Sys2Proof.Machine
end

