-- ==== Sys2Proof/Machine/AtticLog.lean ====
section
/-! DEFINITION. The event log in the attic (R356). -/

namespace Sys2Proof.Machine

/-- Pages of the event log, and the byte address of log page k (Table 15.1). -/
def logPages : Nat := 2560
def logAddr (k : Nat) : Nat := 256 * (1536 + k)

/-- The bytes of a log page: 7 records, LAP, FIRST_SEQ, COUNT, zeros, CRC-32C over bytes 0–251. -/
def logPageBytes (lap : Nat) (recs : List Nat) : List Nat :=
  let body := recs.flatMap (beBytes 32)
  let body := body ++ List.replicate (224 - body.length) 0
  let page := body ++ beBytes 4 lap ++ beBytes 2 (bitsOf (recs.headD 0) 128 16) ++ [recs.length] ++ List.replicate 21 0
  page ++ beBytes 4 (crc32c page)

/-- The page in progress is written; pages ascend and wrap, LAP counting the wraps. -/
def State.logPageWrite (s : State) : State :=
  if s.at_.logHeld.isEmpty then s
  else
    let k := s.rd F.ATTIC_LOG_STATUS_NEXT_PAGE
    let s := s.atticWrite (logAddr k) (logPageBytes s.at_.lap s.at_.logHeld)
    let lap := if k + 1 = logPages then s.at_.lap + 1 else s.at_.lap
    let s := { s with at_ := { s.at_ with logHeld := [], logFirst := none, lap := lap % 2 ^ 32 } }
    s.wrAll [(F.ATTIC_LOG_STATUS_NEXT_PAGE, 0, (k + 1) % logPages), (F.ATTIC_LOG_STATUS_PENDING, 0, 0),
             (F.ATTIC_LOG_STATUS_LAP, 0, lap)]

/-- A released record is one the log keeps: a fault at MIN_SEV or above after R339, or with INFO one of the sources that
R356 names. -/
def State.logs (s : State) (r : EvRec) : Bool :=
  if r.source < 64 then s.rd F.ATTIC_LOG_CFG_MIN_SEV ≤ r.severity
  else s.rdB F.ATTIC_LOG_CFG_INFO && [64, 87, 88, 98, 101, 102, 103].contains r.source

/-- A record that the merger emits goes to the log, at most 4,096 in a second; the page is written when it holds 7. -/
def State.logRecord (s : State) (b : BufRec) : State :=
  if !s.logs b.rcd || s.stage == 0 then s
  else
    let sec := s.tm.elapsed / unitsPerSec
    let n := if sec = s.at_.logSecond then s.at_.logThisSecond else 0
    if 4096 ≤ n then s.bump F.ATTIC_LOG_DROPPED_COUNT
    else
      let first := if s.at_.logHeld.isEmpty then some s.tm.elapsed else s.at_.logFirst
      let held := s.at_.logHeld ++ [recordBits b false]
      let s := { s with at_ := { s.at_ with logSecond := sec, logThisSecond := n + 1, logFirst := first, logHeld := held } }
      let s := s.wr F.ATTIC_LOG_STATUS_PENDING 0 held.length
      if 7 ≤ held.length then s.logPageWrite else s

/-- The valid records of log page k, with its LAP (R349, R356). -/
def State.readLogPage (s : State) (k : Nat) : Option (Nat × List Nat) :=
  let a := logAddr k
  let b := Memory.bytes s.at_.mem a 252
  let n := b.getD 230 0
  if s.groupsBad a 256 || crc32c b ≠ beNat (Memory.bytes s.at_.mem (a + 252) 4) || n = 0 || 7 < n then none
  else some (beNat ((b.drop 224).take 4), b.take (32 * n))

end Sys2Proof.Machine
end

