-- ==== Sys2Proof/Machine/FullReset.lean ====
section
/-! DEFINITION. A full reset (R83): everything returns to its reset value but the porch domain, the attic's contents,
the feeds that carry the module, the sampled straps, the fuses and what the spec keeps by name. -/

namespace Sys2Proof.Machine

/-- Fields of the porch domain, which only porch power-on resets (R384). -/
def porchFields : List Fld :=
  [F.PORCH_STATUS_TIME_VALID, F.PORCH_STATUS_SET, F.PORCH_STATUS_CRYSTAL_OK, F.PORCH_STATUS_TRACE_NEXT,
   F.PORCH_STATUS_TRACE_COUNT, F.PORCH_SECONDS_SECONDS, F.PORCH_TRACE_WORD, F.POWER_LOSS_COUNT_COUNT]

/-- Live conditions of the power stage, sampled straps and fuse-born values, which a full reset leaves as they are (the
feeds go on carrying the module; straps are sampled only at rails good and at RESET_N's release, R57; log 14), and
HOST_RESET_INFO, which R303 keeps. -/
def keptFields : List Fld :=
  porchFields ++
  [F.FEED_STATUS_STATE, F.FEED_STATUS_UV_WARN, F.FEED_STATUS_CARRYING, F.FEED_STATUS_DROPOUT, F.FEED_STATUS_OC,
   F.FEED_STATUS_REVERSED, F.FEED_STATUS_OV, F.FEED_STATUS_UV, F.FEED_STATUS_IN_WINDOW, F.FEED_VIN_VIN_MV,
   F.FEED_IIN_IIN_MA, F.FEED_PIN_PIN_MW, F.POWER_STATUS_PLATE_HOT, F.POWER_STATUS_HOLDUP_LOW,
   F.POWER_STATUS_REDUNDANT, F.POWER_STATUS_PWR_FAIL, F.POWER_STATUS_VBAT_LOW, F.POWER_STATUS_VBAT_PRESENT,
   F.POWER_STATUS_RAILS_GOOD, F.POWER_HOLDUP_HOLDUP_US, F.POWER_HOLDUP_BANK_V, F.POWER_PIN_TOTAL_PIN_MW,
   F.POWER_TEMP_PLATE_TEMP, F.POWER_TEMP_DIE_TEMP, F.POWER_TEMP_OCXO_TEMP, F.POWER_VBAT_MV,
   F.GLOBAL_STRAPS_SLOT, F.GLOBAL_STRAPS_ADDR0, F.GLOBAL_STRAPS_ADDR1, F.GLOBAL_STRAPS_TEST_EN,
   F.GLOBAL_STRAPS_PMBUS_ADDR, F.GLOBAL_STRAPS_SMB_ADDR, F.PEER_STRAPS_SLOT, F.PEER_STRAPS_SOLE,
   F.PEER_STRAPS_CLAIM_IN_P, F.PEER_STRAPS_CLAIM_IN_N, F.HOST_RESET_INFO_COUNT, F.HOST_RESET_INFO_LAST,
   F.IDENT_FUSE_FIELD_BLOWN, F.IDENT_FUSE_TEST_EN, F.IDENT_FUSE_SP_OPEN, F.ATTIC_LOG_STATUS_NEXT_PAGE,
   F.ATTIC_LOG_STATUS_LAP]

/-- Keep the register entries of the listed fields, whatever their index. -/
def keepOnly (l : List Fld) (t : Tab Nat) : Tab Nat := t.filter fun p => l.any fun f => f.id == p.1 / 65536

/-- R83: the state after a full reset with a given cause (CLK_RESET_CAUSE). A commit that has begun stays on the port
(it completes before the page groups reset); queued ones are dropped (R352). The log page in progress is written first
(R356), by the caller. Claims and drivers fall with the registers: CLAIM_OUT and every OUT are high-Z. A full reset that the
host or a reaction asked for keeps the PCIe link and its configuration space (Table 12.1). -/
def State.fullReset (s : State) (cause : Nat) : State :=
  let r : State := State.reset
  let link := s.hs.l0 && 3 ≤ cause
  let s1 : State :=
    { r with
      regs := keepOnly keptFields s.regs
      tm := { r.tm with porchSec := s.tm.porchSec, porchTicks := s.tm.porchTicks,
                        porchAnchored := s.tm.porchAnchored }
      pw := { s.pw with pmPage := 0, pmCml := false, pmLast := 0, alert := false, testNext := false }
      at_ := { s.at_ with staging := [], port := (s.at_.port.take 1).map fun q => { q with replyKind := 0 }, logHeld := [], logFirst := none,
                          conflictSeen := [], hourStage3 := false, hourHeld := 0 }
      hs := { r.hs with perst := s.hs.perst, l0 := link, everL0 := link }
      out := s.out
      freeCtr := s.freeCtr
      pending := s.pending }
  let s1 := s1.wr F.CLK_RESET_CAUSE_CAUSE 0 cause
  let s1 := if link then s1.wrAll ([F.HOST_LINK_SPEED, F.HOST_LINK_WIDTH, F.HOST_STATUS_NUM_VF, F.HOST_STATUS_D_STATE].map
      fun f => (f, 0, s.rd f)) else s1
  let s1 := s1.wr F.PEER_STATUS_PAIR_STATE 0 (if s.isSole then psSOLE else psWAITING)
  (s1.porchTrace 4 cause).lifeBump 2 1

end Sys2Proof.Machine
end

