-- ==== Sys2Proof/Machine/Stages.lean ====
section
/-! DEFINITION. The start stages (R64–R66): how a stage is entered, when a change takes effect, and what the module is
waiting for (R67). -/

namespace Sys2Proof.Machine

/-- The evaluation state of every node is cleared, at each entry to Stage 2 (R153). -/
def State.clearTree (s : State) : State := { s with tr := [] }

/-- At entry to Stage 2 every monitor on the retire list starts `RETIRED` with CAUSE 10 (R128). -/
def State.applyRetireList (s : State) : State :=
  s.ql.list.foldl (fun t m =>
    let q := t.ql.mon.at m {}
    let t := { t with ql := { t.ql with mon := t.ql.mon.set m { q with retireCause := 10 } {} } }
    (t.markRetired (uQMON m)).wrAll [(F.QM_STATUS_STATE, m, 6), (F.QM_STATUS_CAUSE, m, 10)]) s

/-- The module enters a stage (R64): STAGE and the pins, source 64 with the old stage, the new one and the row of Table
3.1 that made the change; what the entry brings with it (R65, R66, R128, R153, R311). -/
def State.setStage (s : State) (new row : Nat) : State :=
  let old := s.stage
  if old = new then s
  else
    let s := (s.wr F.CLK_STAGE_STATUS_STAGE 0 new).bump F.GLOBAL_STAGE_CHANGES
    let s := s.info 64 uMODULE old new row
    let s := s.when (new == 2) (·.clearTree)
    let s := s.when (new == 2 && old < 2) (·.applyRetireList)
    let s := s.when (new == 1 && 2 ≤ old) (·.wr F.CLK_STAGE_STATUS_LAST_DOWN_CAUSE 0 1)
    let s := s.when (new < 2) (·.releaseClaim)
    let s := { s with ck := { s.ck with everStage3 := s.ck.everStage3 || new == 3, stageReq := none,
                                        holdoffRuns := s.ck.holdoffRuns && new == 2 } }
    let s := s.when (new == 0) fun t => t.wr F.PEER_STATUS_CLAIM_OUT 0 0
    let s := { s with at_ := { s.at_ with hourStage3 := s.at_.hourStage3 && new == 3 } }
    let s := s.when (s.isSole && new != 0) fun t => t.wr F.PEER_STATUS_CLAIM_OUT 0 1
    s.pairReview

/-- A stage change whose condition holds (R64): at once before the counter first runs, otherwise at the next decision
epoch. -/
def State.requestStage (s : State) (new row : Nat) : State :=
  if s.tm.started then { s with ck := { s.ck with stageReq := some (new, row) } } else s.setStage new row

/-- A requested stage change takes effect. -/
def State.takeStage (s : State) : State :=
  match s.ck.stageReq with
  | some (new, row) => s.setStage new row
  | none => s

/-- Clock states of CLK_BASE_STATUS.BASE. -/
def State.base (s : State) : Nat := s.rd F.CLK_BASE_STATUS_BASE

/-- The TCXO is qualified; the OCXO is qualified; the OCXO is `WARM`. -/
def State.tcxoQual (s : State) : Bool := s.rdB F.CLK_TCXO_STATUS_QUALIFIED
def State.ocxoQual (s : State) : Bool := bitOf (s.rd F.CLK_OCXO_STATUS_STATE) 1
def State.ocxoWarm (s : State) : Bool := s.rdB F.CLK_OCXO_STATUS_WARM

/-- CLK_STAGE_STATUS.WAIT_REASON (R67): what the stage is waiting for at this moment. -/
def State.waitReason (s : State) : Nat :=
  if s.stage == 1 then
    if s.base == 0 && !s.rdB F.CLK_TCXO_STATUS_RETIRED then 1
    else if s.rdB F.CLK_BASE_STATUS_MOVE_PENDING && !s.rdB F.CLK_BASE_CFG_AUTO_MOVE then 3
    else if !s.ocxoWarm then 2 else 0
  else if s.stage == 2 then (if s.ck.holdoffRuns then 5 else 4)
  else 0

end Sys2Proof.Machine
end

