-- ==== Sys2Proof/Machine/Power.lean ====
section
/-! DEFINITION. Feeds, feed tests, power-down, thermal protection, the porch supply and PMBus (R46–R62). -/

namespace Sys2Proof.Machine

/-- Feed states, codes of FEED_STATUS.STATE. -/
def fsOFF : Nat := 0
def fsQUALIFYING : Nat := 1
def fsQUALIFIED : Nat := 2
def fsTESTING : Nat := 3
def fsFAULTED : Nat := 4

/-- The state of a feed. -/
def State.feedState (s : State) (n : Nat) : Nat := s.rd F.FEED_STATUS_STATE n

/-- A feed beside its registers. -/
def State.feed (s : State) (n : Nat) : FeedSt := s.pw.feeds.at n {}

/-- A feed's own state set. -/
def State.setFeed (s : State) (n : Nat) (f : FeedSt) : State :=
  { s with pw := { s.pw with feeds := s.pw.feeds.set n f {} } }

/-- Both feeds' REDUNDANT bit follows their states. -/
def State.noteRedundant (s : State) : State :=
  s.wrB F.POWER_STATUS_REDUNDANT 0 (s.feedState 0 == fsQUALIFIED && s.feedState 1 == fsQUALIFIED)

/-- A feed changes state and emits source 84 (R47). -/
def State.feedGoes (s : State) (n st : Nat) : State :=
  if s.feedState n = st then s
  else ((s.wr F.FEED_STATUS_STATE n st).noteRedundant).info 84 (uFEED n) 0 0 0

/-- A feed carries the module: QUALIFIED or TESTING. -/
def State.anyFeed (s : State) : Bool :=
  (List.range 2).any fun n => s.feedState n == fsQUALIFIED || s.feedState n == fsTESTING

/-- PWR_FAIL_N asserts (R50): source 87, the claim is released, the porch traces it, and the last gasp is due. `cause` is
1 for feed loss, 2 for a thermal trip. -/
def State.powerDown (s : State) (cause : Nat) : State :=
  if s.pw.powerDown || !s.rdB F.POWER_STATUS_RAILS_GOOD then s
  else
    let s := { s with pw := { s.pw with powerDown := true, thermalTrip := s.pw.thermalTrip || cause == 2 } }
    let s := s.wr F.POWER_STATUS_PWR_FAIL 0 1
    let s := s.info 87 uPLATFORM 0 0 0
    let s := s.releaseClaim
    let s := s.porchTrace 3 0
    { s with at_ := { s.at_ with gasp := some (s.now, cause), lifePending := s.at_.lifePending ++ [(3, 1)] } }

/-- With no feed QUALIFIED or TESTING the module powers down (R50). -/
def State.checkFeeds (s : State) : State := if s.anyFeed then s else s.powerDown 1

/-! PMBus status (R60–R62; the places of the status bits are those of PMBus 1.3, log 13). -/

/-- STATUS_INPUT of a feed: VIN_OV_FAULT 7, VIN_UV_WARNING 5, VIN_UV_FAULT 4, IIN_OC_FAULT 2. -/
def State.statusInput (s : State) (n : Nat) : Nat :=
  s.rd F.FEED_STATUS_OV n * 2 ^ 7 + s.rd F.FEED_STATUS_UV_WARN n * 2 ^ 5 + s.rd F.FEED_STATUS_UV n * 2 ^ 4 +
    s.rd F.FEED_STATUS_OC n * 2 ^ 2

/-- STATUS_TEMPERATURE: OT_FAULT 7 while a trip is pending, OT_WARNING 6 while the plate is above WARN_C. -/
def State.statusTemperature (s : State) : Nat :=
  b2n s.pw.tripPending * 2 ^ 7 + s.rd F.POWER_STATUS_PLATE_HOT * 2 ^ 6

/-- STATUS_WORD, the live summary: INPUT 13, POWER_GOOD# 11, OFF 6, VIN_UV_FAULT 3, TEMPERATURE 2, CML 1. -/
def State.statusWord (s : State) : Nat :=
  b2n (s.statusInput 0 != 0 || s.statusInput 1 != 0) * 2 ^ 13 + b2n (!s.rdB F.POWER_STATUS_RAILS_GOOD) * 2 ^ 11 +
    b2n (!s.rdB F.POWER_STATUS_RAILS_GOOD) * 2 ^ 6 +
    b2n (s.rdB F.FEED_STATUS_UV 0 || s.rdB F.FEED_STATUS_UV 1) * 2 ^ 3 + b2n (s.statusTemperature != 0) * 2 ^ 2 +
    b2n s.pw.pmCml * 2 ^ 1

/-- R62: ALERT_N asserts when a STATUS_WORD bit changes from 0 to 1. -/
def State.checkAlert (s : State) : State :=
  let w := s.statusWord
  let rose := (List.range 16).any fun b => bitOf w b && !bitOf s.pw.pmLast b
  { s with pw := { s.pw with pmLast := w, alert := s.pw.alert || rose } }

/-! Feed faults and tests. -/

/-- The registers of a feed test that ends (R49): LAST_FEED, RESULT (1 PASS, 2 FAIL, 3 ABORTED), source 85. -/
def State.testResult (s : State) (n result : Nat) : State :=
  let s := s.wrAll [(F.POWER_TEST_RESULT_LAST_FEED, 0, n + 1), (F.POWER_TEST_RESULT_RESULT, 0, result),
                    (F.POWER_STATUS_TEST_ACTIVE, 0, 0)]
  s.info 85 (uFEED n) 0 0 0

/-- A feed enters FAULTED (R47): cause, counters, its fault source, the end of a test it was under, and the power
check of R50. -/
def State.feedFaults (s : State) (n cause : Nat) : State :=
  let testing := s.feedState n == fsTESTING
  let f := s.feed n
  let hist := s.tm.elapsed :: f.history.filter fun t => s.tm.elapsed < t + 600 * unitsPerSec
  let s := s.setFeed n { f with history := hist.take 3, heldFaulted := f.heldFaulted || 3 ≤ hist.length }
  let s := s.wr F.FEED_LAST_CAUSE_CAUSE n cause
  let s := (s.bump F.FEED_FAULTS_COUNT n).wr F.FEED_STATUS_DROPOUT n 0
  let s := s.feedGoes n fsFAULTED
  let s := s.when testing (·.testResult n 2)
  let s := s.fault (12 + n) (uFEED n) cause 0
  let s := s.lifeBump 12 1
  s.checkFeeds.checkAlert

/-- Outcomes of a write (R372). -/
def ocNONE : Nat := 0
def ocOK : Nat := 1
def ocLOCKED : Nat := 2
def ocNOT_OWNER : Nat := 3
def ocRETIRED : Nat := 4
def ocBAD_TIME : Nat := 5
def ocIGNORED : Nat := 6
def ocNO_REDUNDANCY : Nat := 7
def ocBUSY : Nat := 8

/-- A feed test of feed n is requested (R49): `BUSY` while one runs, `NO_REDUNDANCY` unless both feeds are QUALIFIED.
The second component is the outcome of R372. -/
def State.startTest (s : State) (n : Nat) : State × Nat :=
  if s.rdB F.POWER_STATUS_TEST_ACTIVE then (s, ocBUSY)
  else if s.rdB F.POWER_STATUS_REDUNDANT then
    let s := s.feedGoes n fsTESTING
    (s.wrAll [(F.POWER_STATUS_TEST_ACTIVE, 0, 1), (F.POWER_TEST_RESULT_MIN_VIN, 0, s.rd F.FEED_VIN_VIN_MV n / 10)],
     ocOK)
  else
    (s.wrAll [(F.POWER_TEST_RESULT_LAST_FEED, 0, n + 1), (F.POWER_TEST_RESULT_RESULT, 0, 2)], ocNO_REDUNDANCY)

/-- A request for tests of A then B (R49). -/
def State.startTestsAB (s : State) : State × Nat :=
  let p := s.startTest 0
  if p.2 == ocOK then ({ p.1 with pw := { p.1.pw with testNext := true } }, ocOK)
  else if p.2 == ocNO_REDUNDANCY then
    let q := p.1.startTest 1
    (q.1, ocNO_REDUNDANCY)
  else p

/-- The hold-up bank is measured (R50): at each start and at each feed test. -/
def State.measureBank (s : State) (us volts : Nat) : State :=
  let s := s.wrAll [(F.POWER_HOLDUP_HOLDUP_US, 0, us), (F.POWER_HOLDUP_BANK_V, 0, volts)]
  let s := s.wrB F.POWER_STATUS_HOLDUP_LOW 0 (us < 6000)
  s.when (us < 6000) (·.fault 14 uPLATFORM us 0)

/-- The test in progress ends with a result, its feed going to `st`; feed B's test follows feed A's if asked for. -/
def State.endTest (s : State) (n st result : Nat) : State :=
  let s := (s.feedGoes n st).testResult n result
  if s.pw.testNext && n == 0 then ({ s with pw := { s.pw with testNext := false } }.startTest 1).1 else s

/-- A feed in TESTING ends its test `ABORTED` (reset or retire of FEEDA or FEEDB, Table 2.7). -/
def State.abortTest (s : State) : State :=
  let s := { s with pw := { s.pw with testNext := false } }
  if s.feedState 0 == fsTESTING then s.endTest 0 fsQUALIFIED 3
  else if s.feedState 1 == fsTESTING then s.endTest 1 fsQUALIFIED 3
  else s

/-! Meanings. -/

/-- FEED_SAMPLE (R46, Table 2.7): the sampled feed's window decision, live bits and telemetry. The undervoltage
threshold is 8.2 V for a feed that was in its window and 8.6 V for one that was not. -/
def State.feedSample (s : State) (n mv ma : Nat) (reversed : Bool) : State :=
  let wasIn := s.rdB F.FEED_STATUS_IN_WINDOW n
  let uv := mv ≤ (if wasIn then 8200 else 8600)
  let ov := 62000 ≤ mv
  let inWin := !uv && !ov && !reversed
  let warn := mv < s.rd F.FEED_CFG_UV_WARN n * 100
  let s := s.wrAll
    [(F.FEED_STATUS_UV, n, b2n uv), (F.FEED_STATUS_OV, n, b2n ov), (F.FEED_STATUS_REVERSED, n, b2n reversed),
     (F.FEED_STATUS_IN_WINDOW, n, b2n inWin), (F.FEED_STATUS_UV_WARN, n, b2n warn),
     (F.FEED_STATUS_CARRYING, n, b2n (100 < ma)), (F.FEED_VIN_VIN_MV, n, if reversed then 0 else mv),
     (F.FEED_IIN_IIN_MA, n, ma), (F.FEED_PIN_PIN_MW, n, mv * ma / 1000)]
  let s := s.wr F.POWER_PIN_TOTAL_PIN_MW 0 (s.rd F.FEED_PIN_PIN_MW 0 + s.rd F.FEED_PIN_PIN_MW 1)
  let st := s.feedState n
  let s :=
    if st == fsOFF && inWin && s.rdB F.FEED_CFG_ENABLE n && !s.isRetired (uFEED n) then s.feedGoes n fsQUALIFYING
    else if st == fsQUALIFYING && !inWin then s.feedGoes n fsOFF
    else if st == fsQUALIFIED && s.rdB F.FEED_STATUS_DROPOUT n && 8600 < mv then s.wr F.FEED_STATUS_DROPOUT n 0
    else if st == fsTESTING && mv / 10 < s.rd F.POWER_TEST_RESULT_MIN_VIN then
      s.wr F.POWER_TEST_RESULT_MIN_VIN 0 (mv / 10)
    else s
  s.checkAlert

/-- FEED_QUALIFIED (R47, R48): a QUALIFYING feed in its window closes its switch. -/
def State.feedQualified (s : State) (n : Nat) : State :=
  if s.feedState n == fsQUALIFYING && s.rdB F.FEED_STATUS_IN_WINDOW n then s.feedGoes n fsQUALIFIED else s

/-- FEED_DROPOUT (R47): a QUALIFIED feed falls below 8.2 V and enters the 1 ms grace. -/
def State.feedDropout (s : State) (n : Nat) : State :=
  if s.feedState n == fsQUALIFIED && !s.rdB F.FEED_STATUS_DROPOUT n then
    ((s.wr F.FEED_STATUS_DROPOUT n 1).bump F.FEED_DROPOUTS_COUNT n).wrAll
      [(F.FEED_STATUS_UV, n, 1), (F.FEED_STATUS_IN_WINDOW, n, 0)]
  else s

/-- FEED_UV_FAULT (R47): a feed in its dropout grace has stayed below 8.2 V for 1 ms. -/
def State.feedUvFault (s : State) (n : Nat) : State :=
  if s.feedState n == fsQUALIFIED && s.rdB F.FEED_STATUS_DROPOUT n then s.feedFaults n 1 else s

/-- FEED_OV (R46, R47): 62 V or above disconnects a QUALIFIED or TESTING feed. -/
def State.feedOv (s : State) (n : Nat) : State :=
  let s := s.wrAll [(F.FEED_STATUS_OV, n, 1), (F.FEED_STATUS_IN_WINDOW, n, 0)]
  if s.feedState n == fsQUALIFIED || s.feedState n == fsTESTING then s.feedFaults n 2 else s.checkAlert

/-- FEED_OC (R47): above 7.5 A for 50 µs disconnects a QUALIFIED or TESTING feed. -/
def State.feedOc (s : State) (n : Nat) : State :=
  let s := s.wr F.FEED_STATUS_OC n 1
  if s.feedState n == fsQUALIFIED || s.feedState n == fsTESTING then s.feedFaults n 4 else s.checkAlert

/-- FEED_RECOVER (R47): a FAULTED feed whose cause has been absent for 1 s, with fewer than 3 faults in 600 s. -/
def State.feedRecover (s : State) (n : Nat) : State :=
  if s.feedState n == fsFAULTED && !(s.feed n).heldFaulted then
    (s.wr F.FEED_STATUS_OC n 0).feedGoes n fsQUALIFYING
  else s

/-- FEED_TEST_END (R47, R49): the duration has passed with the feed at or above UV_WARN. -/
def State.feedTestEnd (s : State) (holdupUs bankV : Nat) : State :=
  let s := if s.feedState 0 == fsTESTING then s.endTest 0 fsQUALIFIED 1
    else if s.feedState 1 == fsTESTING then s.endTest 1 fsQUALIFIED 1
    else s
  s.measureBank holdupUs bankV

/-- FEED_TEST_FAIL (R47): the feed under test has stayed below UV_WARN for 1 ms. -/
def State.feedTestFail (s : State) (n : Nat) : State :=
  if s.feedState n == fsTESTING then s.feedFaults n 5 else s

/-- RAIL_OFF (R50, R51): the rails switch off 4.5 ms after PWR_FAIL_N. The stage becomes 0, the drivers fall to high-Z,
the porch counts and traces the loss, with the first latched fault still present, and the feeds restart from OFF. -/
def State.railOff (s : State) : State :=
  if s.pw.powerDown then
    let s := s.porchTrace 1 0
    let s := match s.flt.latches.foldl (fun (m : Option Latch) p => match m with
        | none => some p.2
        | some l => if p.2.firstTime < l.firstTime then some p.2 else some l) none with
      | some l => s.porchTrace 8 l.source
      | none => s
    let s := s.bump F.POWER_LOSS_COUNT_COUNT
    let s := s.releaseClaim.setStage 0 8
    let s := s.wrAll [(F.POWER_STATUS_RAILS_GOOD, 0, 0),
                      (F.FEED_STATUS_STATE, 0, fsOFF), (F.FEED_STATUS_STATE, 1, fsOFF),
                      (F.POWER_STATUS_REDUNDANT, 0, 0), (F.PEER_STATUS_CLAIM_OUT, 0, 0)]
    { s with pw := { s.pw with railOff := true, powerDown := false }
             tm := { s.tm with running := false } }
  else s

/-- RAIL_OFF_RESTART (R51): at least 20 ms after rail-off a feed qualifies; after a thermal trip only with the plate at
80 °C or below (R52). -/
def State.railOffRestart (s : State) (n : Nat) : State :=
  if s.pw.railOff && !s.pw.thermalTrip && s.rdB F.FEED_CFG_ENABLE n then
    (s.feedGoes n fsQUALIFYING).feedGoes n fsQUALIFIED
  else s

/-- THERMAL_SAMPLE (R52): temperatures in 1/16 °C, VBAT in mV, and the selected rail's telemetry. -/
def State.thermalSample (s : State) (plate die ocxo : Int) (vbat railMv railMa : Nat) : State :=
  let s := ((s.wrI F.POWER_TEMP_PLATE_TEMP 0 plate).wrI F.POWER_TEMP_DIE_TEMP 0 die).wrI F.POWER_TEMP_OCXO_TEMP 0 ocxo
  let s := s.wrAll [(F.POWER_VBAT_MV, 0, vbat), (F.POWER_STATUS_VBAT_PRESENT, 0, b2n (1000 < vbat)),
                    (F.POWER_RAIL_V_MV, 0, railMv), (F.POWER_RAIL_V_VALID, 0, 1), (F.POWER_RAIL_I_MA, 0, railMa),
                    (F.POWER_RAIL_I_VALID, 0, 1)]
  let s := s.when (s.rd F.POWER_VBAT_CFG_LOW_MV ≤ vbat) (·.wr F.POWER_STATUS_VBAT_LOW 0 0)
  let warn : Int := s.rd F.POWER_THERM_CFG_WARN_C * 16
  let hyst : Int := s.rd F.POWER_THERM_CFG_HYST_C * 16
  let was := s.rdB F.POWER_STATUS_PLATE_HOT
  let s := if !was && warn < plate then
      (s.wr F.POWER_STATUS_PLATE_HOT 0 1).fault 15 uPLATFORM (ofSigned 32 plate) 0
    else if was && plate ≤ warn - hyst then s.wr F.POWER_STATUS_PLATE_HOT 0 0
    else s
  let s := { s with pw := { s.pw with tripPending := 95 * 16 ≤ plate }
                    at_ := { s.at_ with hourHot := s.at_.hourHot && 75 * 16 < plate } }
  s.checkAlert

/-- THERMAL_TRIP (R52): the plate has been at 95 °C or above for 1 s; the module powers down. -/
def State.thermalTripped (s : State) : State :=
  if s.pw.tripPending && !s.pw.powerDown then
    (((s.porchTrace 6 0).lifeBump 4 1).powerDown 2)
  else s

/-- THERMAL_RESTART (R52): the plate is at 80 °C or below, and the module may restart. -/
def State.thermalRestart (s : State) (plate : Int) : State :=
  if plate ≤ 80 * 16 then { s with pw := { s.pw with thermalTrip := false, tripPending := false } } else s

/-- RAIL_FAULT (R52): an internal rail (code of POWER_RAIL_SEL) has left ±5 % for more than 10 µs. -/
def State.railFault (s : State) (rail mv : Nat) : State := s.fault 16 uPLATFORM rail mv

/-- VBAT_LOW (R53): VBAT has fallen below LOW_MV; below 2.0 V with the rails off the porch's time is lost (R213). -/
def State.vbatLow (s : State) (mv : Nat) : State :=
  if mv < s.rd F.POWER_VBAT_CFG_LOW_MV then
    let s := s.wr F.POWER_VBAT_MV 0 mv
    let s := ((s.wr F.POWER_STATUS_VBAT_LOW 0 1).info 86 uPLATFORM 0 0 0).porchTrace 5 0
    if mv < 2000 && s.pw.railOff then { s with tm := { s.tm with porchAnchored := false } } else s
  else s

/-- PORCH_POWER_ON (R384): the porch is powered again and resets its time, trace and counters. -/
def State.porchPowerOn (s : State) : State :=
  let s := { s with regs := s.regs.filter fun p => !(porchFields.any fun f => f.id == p.1 / 65536) }
  { s with tm := { s.tm with porchSec := 0, porchTicks := 0, porchAnchored := false } }

/-! PMBus commands. -/

/-- A PMBus answer. -/
def State.pmAnswer (s : State) (bytes : List Nat) : State :=
  ({ s with pw := { s.pw with pmCml := false } }.checkAlert).emitOut (.smbus (some bytes))

/-- A value in thousandths as a LINEAR11 word, low byte first. -/
def linear11 (milli : Int) : List Nat :=
  let e := Config.linear11Exp milli
  let m := if 0 ≤ e then quotient 1 milli (1000 * 2 ^ e.toNat) else quotient 1 (milli * 2 ^ (-e).toNat) 1000
  let w := ofSigned 5 e * 2048 + ofSigned 11 m
  [w % 256, w / 256]

/-- The page a read acts on: 0xFF reads page 2. -/
def State.readPage (s : State) : Nat := if s.pw.pmPage == 0xFF then 2 else s.pw.pmPage

/-- A value read on the pages that the command supports; on another page the spec states no answer, and the value is
free (log 10). -/
def State.pmRead (s : State) (pages : List Nat) (value : Nat → List Nat) : State :=
  if pages.contains s.readPage then s.pmAnswer (value s.readPage)
  else (s.pmAnswer [s.freeNat % 256, s.freeNat / 256 % 256]).drawn

/-- PAGE (R60): written, or read back. -/
def State.pmPageCmd (s : State) (write : Option Nat) : State :=
  match write with
  | some v => { s with pw := { s.pw with pmPage := v % 256, pmCml := false } }.checkAlert
  | none => s.pmAnswer [s.pw.pmPage]

/-- An input current of a page, in mA: the module total is the sum of the feeds. -/
def State.pageCurrent (s : State) (p : Nat) : Nat :=
  if p == 2 then s.rd F.FEED_IIN_IIN_MA 0 + s.rd F.FEED_IIN_IIN_MA 1 else s.rd F.FEED_IIN_IIN_MA p

/-- An input power of a page, in mW. -/
def State.pagePower (s : State) (p : Nat) : Nat :=
  if p == 2 then s.rd F.POWER_PIN_TOTAL_PIN_MW else s.rd F.FEED_PIN_PIN_MW p

/-- A temperature register in thousandths of a degree. -/
def State.milliC (s : State) (f : Fld) : Int := s.rdI f * 1000 / 16

/-- ASCII text as a block: count, then characters. -/
def asciiBlock (t : String) : List Nat := t.length :: (t.toList.map fun c => c.toNat)

/-- STATUS_WORD as a word, low byte first. It is the summary as the transaction finds it, CML included. -/
def State.pmStatusWord (s : State) : State := s.pmAnswer [s.statusWord % 256, s.statusWord / 256]

/-- MFR_MODEL: the variant's name; for variant 0 the spec gives none, and its characters are free (log 10). -/
def State.pmModel (s : State) : State :=
  match s.rd F.IDENT_PART_VARIANT with
  | 1 => s.pmAnswer (asciiBlock "VT8416-OA")
  | 2 => s.pmAnswer (asciiBlock "VT8416-OX")
  | _ => (s.pmAnswer (9 :: (List.range 9).map fun k => s.freeNat / 256 ^ k % 256)).drawn

/-- An unsupported command (R61): NACK, and CML until the next correct transaction. -/
def State.pmUnsupported (s : State) : State :=
  ({ s with pw := { s.pw with pmCml := true } }.checkAlert).emitOut (.smbus none)

/-- The PMBus address in use (R60). -/
def State.pmAddr (s : State) : Nat := s.rd F.GLOBAL_STRAPS_PMBUS_ADDR

/-- The Alert Response Address is answered with the PMBus address, and ALERT_N is released (R62). -/
def State.alertResponse (s : State) : State :=
  if s.pw.alert then { s with pw := { s.pw with alert := false } }.emitOut (.smbus (some [s.pmAddr * 2]))
  else s.emitOut (.smbus none)

end Sys2Proof.Machine
end

