-- ==== Sys2Proof/Machine/Pairs.lean ====
section
/-! DEFINITION. Declared pairs (R112, R121, R153, R370): their values, when they are consistent, and the pair in force. -/

namespace Sys2Proof.Machine

/-- The declared pairs in address order of their blocks: 28 nominals, 44 thresholds, 128 node link pairs. -/
def pairCount : Nat := 200

/-- The value of a register as the fields that lie in it. -/
def State.regRaw (s : State) (fs : List Fld) (i : Nat) : Nat := fs.foldl (fun a f => a + s.rd f i * 2 ^ f.lsb) 0

/-- The fields of the first and second register of pair k, and the register index. -/
def pairRegs (k : Nat) : List Fld × List Fld × Nat :=
  if k < 28 then ([F.TDC_CH_NOM_INT_HZ, F.TDC_CH_NOM_INT_TAG], [F.TDC_CH_NOM_FRAC_FRAC, F.TDC_CH_NOM_FRAC_TAG], k)
  else if k < 72 then ([F.QM_SOFT_SOFT], [F.QM_HARD_HARD], k - 28)
  else ([F.TREE_NODE_LINK0_CODE0, F.TREE_NODE_LINK0_LOCK0, F.TREE_NODE_LINK0_PRIO0, F.TREE_NODE_LINK0_CODE1,
         F.TREE_NODE_LINK0_LOCK1, F.TREE_NODE_LINK0_PRIO1, F.TREE_NODE_LINK0_TAG],
        [F.TREE_NODE_LINK1_CODE2, F.TREE_NODE_LINK1_LOCK2, F.TREE_NODE_LINK1_PRIO2, F.TREE_NODE_LINK1_CODE3,
         F.TREE_NODE_LINK1_LOCK3, F.TREE_NODE_LINK1_PRIO3, F.TREE_NODE_LINK1_TAG], k - 72)

/-- The pair as last written. -/
def State.pairNow (s : State) (k : Nat) : Nat × Nat :=
  let r := pairRegs k
  (s.regRaw r.1 r.2.2, s.regRaw r.2.1 r.2.2)

/-- The pair at its reset values. -/
def pairReset (k : Nat) : Nat × Nat :=
  let r := pairRegs k
  let raw := fun fs : List Fld => fs.foldl (fun a f => a + f.reset r.2.2 * 2 ^ f.lsb) 0
  (raw r.1, raw r.2.1)

/-- The limit that a threshold register holds: values above 100,000,000 clamp (R121). -/
def threshold (v : Nat) : Nat := min v 100000000

/-- A pair's values are consistent (Table 16.5). -/
def pairOk (k : Nat) (p : Nat × Nat) : Bool :=
  if 28 ≤ k ∧ k < 72 then threshold p.1 < threshold p.2 else p.1 / 2 ^ 31 == p.2 / 2 ^ 31

/-- The last consistent pair. -/
def State.pairLast (s : State) (k : Nat) : Nat × Nat := s.cp.lastPair.at k (pairReset k)

/-- The pair in force (R370): the present one while it is consistent and no mismatch stands, else the last consistent. -/
def State.pairOf (s : State) (k : Nat) : Nat × Nat :=
  if pairOk k (s.pairNow k) && !s.cp.mismatched.contains k then s.pairNow k else s.pairLast k

/-- The nominal frequency in force of channel c, in 2⁻³¹ Hz. -/
def State.nominal (s : State) (c : Nat) : Nat :=
  let p := s.pairOf c
  (p.1 % 2 ^ 31) * 2 ^ 31 + p.2 % 2 ^ 31

/-- QM_SOFT and QM_HARD in force of monitor m, in 10⁻¹². -/
def State.softHard (s : State) (m : Nat) : Nat × Nat :=
  let p := s.pairOf (28 + m)
  (threshold p.1, threshold p.2)

/-- Entry e of node n in force: reference code, lockout, priority or factor. -/
def State.entryOf (s : State) (n e : Nat) : Nat × Bool × Nat :=
  let p := s.pairOf (72 + n)
  let w := if e < 2 then p.1 else p.2
  if e % 2 == 0 then (bitsOf w 0 8, bitOf w 11, bitsOf w 12 4) else (bitsOf w 16 8, bitOf w 26, bitsOf w 27 4)

/-- The unit that holds a pair. -/
def pairUnit (k : Nat) : Nat := if k < 28 then uTDC k else if k < 72 then uQMON (k - 28) else uNODE (k - 72)

/-- The register address of a pair's first field. -/
def pairAddr (k : Nat) : Nat :=
  if k < 28 then 0x30004 + 0x40 * k else if k < 72 then 0x40004 + 0x20 * (k - 28) else 0x50004 + 0x10 * (k - 72)

/-- The pair is checked at an epoch (R370): found consistent, it is the last consistent pair; what changes against the
last check is reported, and comes into force, at t_{k+1}. -/
def State.checkPair (s : State) (k : Nat) : State :=
  let now := s.pairNow k
  let was := s.cp.mismatched.contains k
  let later := fun e : Eff => { s with ep := { s.ep with effects := s.ep.effects ++ [e] } }
  if pairOk k now then
    if was then later (.pairOk k)
    else { s with cp := { s.cp with lastPair := s.cp.lastPair.set k now (pairReset k) } }
  else if was then s
  else later (.pairBad k)

/-- A mismatch is reported (R370): source 52 with the address of the pair's first field, and the counts. -/
def State.pairEnters (s : State) (k : Nat) : State :=
  let s := { s with cp := { s.cp with mismatched := k :: s.cp.mismatched } }
  (s.bump F.GLOBAL_PAIR_STATUS_ENTRIES).fault 52 (pairUnit k) (pairAddr k) 0

/-- A pair found consistent again is in force (R370). -/
def State.pairLeaves (s : State) (k : Nat) : State :=
  { s with cp := { s.cp with mismatched := s.cp.mismatched.filter (· != k)
                             lastPair := if pairOk k (s.pairNow k) then
                               s.cp.lastPair.set k (s.pairNow k) (pairReset k) else s.cp.lastPair } }

/-- Every declared pair is checked. -/
def State.checkPairs (s : State) : State := State.forAll pairCount (fun k t => t.checkPair k) s

end Sys2Proof.Machine
end

