-- ==== Sys2Proof/Machine/Reels.lean ====
section
/-! DEFINITION. Reels as the other parts use them (R283–R291, R300): entries and completions, their PHASE bit, the
interrupt, records buffers and receive buffers, and reel faults. -/

namespace Sys2Proof.Machine

/-- Counts of reels are modulo 2³² (R284). -/
def wrap32 (a : Int) : Nat := (a % (2 ^ 32 : Int)).toNat

/-- The difference of two counts, modulo 2³². -/
def diff32 (a b : Nat) : Nat := wrap32 ((a : Int) - b)

/-- A reel, if it exists. -/
def State.reel? (s : State) (r : Nat) : Option Reel := Tab.find s.hs.reels r

/-- A reel's state put. -/
def State.putReel (s : State) (r : Nat) (x : Reel) : State := { s with hs := { s.hs with reels := s.hs.reels.put r x } }

/-- A reel's state changed, if it exists. -/
def State.modReel (s : State) (r : Nat) (f : Reel → Reel) : State :=
  match s.reel? r with
  | some x => s.putReel r (f x)
  | none => s

/-- The function a reel belongs to: 0 for PF0, v for VF v's event reel. -/
def reelFn (r : Nat) : Nat := r - 200

/-- The vector a reel signals (R300, R302): vector 0 for a VF's reel. -/
def Reel.vec (x : Reel) (r : Nat) : Nat := if 200 ≤ r then 0 else x.vector

/-- A reel sends its message and disarms itself. -/
def State.signalReel (s : State) (r : Nat) : State :=
  match s.reel? r with
  | some x => (s.putReel r { x with armed := false, pend := 0 }).sendMsix (reelFn r) (x.vec r)
  | none => s

/-- An entry has been written (R300): an armed reel sends at MOD_COUNT entries, or at once with MOD_US 0 or on an admin
reel. -/
def State.noteEntry (s : State) (r : Nat) : State :=
  match s.reel? r with
  | some x =>
    let x := { x with pend := x.pend + 1, pendSince := if x.pend = 0 then s.tm.elapsed else x.pendSince }
    let s := s.putReel r x
    if x.armed && (x.modUs == 0 || max x.modCount 1 ≤ x.pend || r == 160 || r == 161) then s.signalReel r else s
  | none => s

/-- The slot bits and PHASE of the next entry (R285). -/
def Reel.phase (x : Reel) : Bool := x.written / x.size % 2 == 0

/-- An entry goes into slot WRITTEN mod SIZE with its PHASE, if a consumed slot is free; otherwise it is held (R285).
A faulted reel takes nothing (R288). -/
def State.writeEntry (s : State) (r bits : Nat) : State :=
  match s.reel? r with
  | none => s
  | some x =>
    if x.reason ≠ 0 then s
    else if !x.held.isEmpty || x.size ≤ diff32 x.written x.cons || s.rd F.HOST_STATUS_D_STATE == 3 then
      s.putReel r { x with held := x.held ++ [bits], stalled := true }
    else
      let s := s.emitOut (.completion r (x.written % x.size) [bits + b2n x.phase * 2 ^ 255])
      (s.putReel r { x with written := wrap32 (x.written + 1) }).noteEntry r

/-- COMPLETION_WRITE (R285): the oldest held entry is written once a consumed slot is free. -/
def State.writeHeld (s : State) (r : Nat) : State :=
  match s.reel? r with
  | none => s
  | some x =>
    match x.held with
    | [] => s
    | b :: l =>
      if x.reason ≠ 0 || s.rd F.HOST_STATUS_D_STATE == 3 || x.size ≤ diff32 x.written x.cons then s
      else
        let s := s.emitOut (.completion r (x.written % x.size) [b + b2n x.phase * 2 ^ 255])
        (s.putReel r { x with written := wrap32 (x.written + 1), held := l, stalled := !l.isEmpty && x.stalled }).noteEntry r

/-- Reasons of a reel fault (Table 12.13). -/
def rfOVERRUN : Nat := 1
def rfCONSAHEAD : Nat := 2
def rfSLOTBUSY : Nat := 3
def rfDMA : Nat := 4

/-- A reel faults (R288): its queued work goes without completions, HOST_ERR_STATUS shows it, source 39, and
ERR_VECTOR with ERR_EN. -/
def State.faultReel (s : State) (r reason addr : Nat) : State :=
  match s.reel? r with
  | none => s
  | some x =>
    if x.reason ≠ 0 then s
    else
      let s := s.putReel r { x with reason := reason, held := [], ann := [], bufs := [], queue := [], busy := [] }
      let s := s.wrAll [(F.HOST_ERR_STATUS_REASON, 0, reason), (F.HOST_ERR_STATUS_REEL, 0, r),
                        (F.HOST_ERR_ADDR_LO_ADDR, 0, addr), (F.HOST_ERR_ADDR_HI_ADDR, 0, addr / 2 ^ 32)]
      let s := (s.bump F.HOST_ERR_COUNT_COUNT).fault 39 (if 200 ≤ r then uVF (r - 200) else uPCIE) r reason
      s.when (s.rdB F.HOST_CTRL_ERR_EN) fun t => t.sendMsix 0 (min (t.rd F.HOST_CTRL_ERR_VECTOR) 127)

/-- A descriptor completion (Table 12.8) as a 256-bit number, PHASE clear. -/
structure Compl where
  status : Nat
  slot : Nat
  cookie : Nat
  stamped : Bool := false
  late : Bool := false
  coarse : Bool := false
  degraded : Bool := false
  copy : Bool := false
  records : Bool := false
  gen : Nat := 0
  tag : Nat := 0
  time : Nat := 0
  length : Nat := 0
  count : Nat := 0
  port : Nat := 0
  deriving DecidableEq, Repr

/-- The bits of Table 12.8. -/
def Compl.bits (c : Compl) : Nat :=
  b2n c.stamped * 2 ^ 254 + b2n c.late * 2 ^ 253 + b2n c.coarse * 2 ^ 252 + b2n c.degraded * 2 ^ 251 +
    b2n c.copy * 2 ^ 250 + b2n c.records * 2 ^ 249 + c.status * 2 ^ 240 + (c.slot % 2 ^ 16) * 2 ^ 224 +
    (c.gen % 2 ^ 16) * 2 ^ 208 + (c.tag % 2 ^ 16) * 2 ^ 192 + (c.cookie % 2 ^ 32) * 2 ^ 160 + t96 c.time * 2 ^ 64 +
    (c.length % 2 ^ 14) * 2 ^ 50 + (c.count % 2 ^ 10) * 2 ^ 40 + c.port % 8 * 2 ^ 37

/-- A descriptor completes: its slot is free again once the completion is consumed (R287). -/
def State.complete (s : State) (r : Nat) (c : Compl) : State :=
  (s.writeEntry r c.bits).modReel r fun x => { x with busy := x.busy.filter (· != c.slot) }

/-- Buffers at the front that take no data complete at once (R291): LENGTH 0, and LENGTH 1–15 on a records reel. -/
def State.skipBuffers : Nat → State → Nat → State
  | 0, s, _ => s
  | fuel + 1, s, r =>
    match s.reel? r with
    | none => s
    | some x =>
      match x.bufs with
      | [] => s
      | b :: l =>
        if b.length = 0 then
          State.skipBuffers fuel ((s.putReel r { x with bufs := l }).complete r
            { status := 1, slot := b.slot, cookie := b.cookie, records := x.records }) r
        else if x.records ∧ b.length < 16 then
          State.skipBuffers fuel ((s.putReel r { x with bufs := l }).complete r
            { status := 14, slot := b.slot, cookie := b.cookie, records := true }) r
        else s

/-- The records buffer in use completes with its records (R291). -/
def State.finishRecords (s : State) (r : Nat) : State :=
  match s.reel? r with
  | none => s
  | some x =>
    match x.bufs with
    | [] => s
    | b :: l =>
      if b.recs.isEmpty then s
      else
        let s := s.emitOut (.dma b.addr (b.recs.flatMap (beBytes16 ·)))
        let s := s.putReel r { x with bufs := l }
        let s := s.complete r { status := 0, slot := b.slot, cookie := b.cookie, records := true,
                                length := 16 * b.recs.length, count := b.recs.length }
        State.skipBuffers (x.bufs.length + 1) s r
where
  /-- The 16 bytes of a record, most significant first. -/
  beBytes16 (v : Nat) : List Nat := (List.range 16).map fun k => v / 256 ^ (15 - k) % 256

/-- The stamp path's reel, if it is there and is a records reel (R100). -/
def State.streamReel (s : State) : Option Nat :=
  let r := 64 + s.rd F.TDC_STREAM_CFG_REEL
  if s.rdB F.TDC_STREAM_CFG_ENABLE then
    match s.reel? r with
    | some x => if x.records then some r else none
    | none => none
  else none

/-- The stamp path's reel is full: a records reel with no posted buffer (R291). -/
def State.streamFull (s : State) : Bool :=
  match s.streamReel with
  | some r => match s.reel? r with
    | some x => x.bufs.isEmpty
    | none => false
  | none => false

/-- A stamp-path record is placed in the buffer in use (R291); it completes when full, and after a take summary. -/
def State.pushRecord (s : State) (bits : Nat) (summary : Bool) : State :=
  match s.streamReel with
  | none => s
  | some r =>
    let s := State.skipBuffers 64 s r
    match s.reel? r with
    | none => s
    | some x =>
      match x.bufs with
      | [] => s
      | b :: l =>
        let b := { b with recs := b.recs ++ [bits], first := match b.first with
                    | some t => some t
                    | none => some s.now }
        let s := s.putReel r { x with bufs := b :: l }
        if summary || b.length / 16 ≤ b.recs.length then s.finishRecords r else s

/-- RECORDS_FLUSH (R291): at least FLUSH_US after the first record's tick the buffer completes. -/
def State.recordsFlush (s : State) (r : Nat) : State :=
  match s.reel? r with
  | some x =>
    match x.bufs with
    | b :: _ => match b.first with
      | some _ => if x.records then s.finishRecords r else s
      | none => s
    | [] => s
  | none => s

end Sys2Proof.Machine
end

