-- ==== Sys2Proof/Machine/Synth.lean ====
section
/-! DEFINITION. Output loops and outputs (R185–R202): active settings, frequencies, the commit and its validation,
alignment origins, the shutter and its causes, loss of lock and degraded intervals, phase verification. -/

namespace Sys2Proof.Machine

/-- Output n beside its registers. -/
def State.outSt (s : State) (n : Nat) : OutSt := s.sy.outs.at n {}
/-- Output n's own state set. -/
def State.setOut (s : State) (n : Nat) (o : OutSt) : State := { s with sy := { s.sy with outs := s.sy.outs.set n o {} } }
/-- Loop a (0–4) beside its registers. -/
def State.loopSt (s : State) (a : Nat) : LoopSt := s.sy.loops.at a {}
/-- Loop a's own state set. -/
def State.setLoop (s : State) (a : Nat) (l : LoopSt) : State :=
  { s with sy := { s.sy with loops := s.sy.loops.set a l {} } }

/-- A loop is locked (R187). -/
def State.loopLocked (s : State) (a : Nat) : Bool := s.rdB F.APLL_STATUS_LOCKED a

/-- The loop that output n selects, 1–4. -/
def State.outLoop (s : State) (n : Nat) : Nat := (s.outSt n).act.loop + 1

/-- N_nom of settings, in 2⁻⁴⁸ (R185). -/
def LoopAct.nominal (l : LoopAct) : Nat := l.int * 2 ^ 48 + l.fracHi * 2 ^ 32 + l.fracLo

/-- Numerator and denominator of an output's nominal frequency in Hz: 250 MHz × N_nom / (P × D), P = (8 + PRESCALE) / 2
(R190). -/
def outFreqNum (l : LoopAct) : Nat := 500000000 * l.nominal
def outFreqDen (o : OutAct) : Nat := 2 ^ 48 * ((8 + o.prescale) * o.div)

/-- OUT_FREQ.HZ: the nominal frequency of the active settings, rounded down; 0 when disabled. -/
def State.outFreq (s : State) (n : Nat) : Nat :=
  let o := (s.outSt n).act
  if o.enable then outFreqNum (s.loopSt (o.loop + 1)).act / outFreqDen o else 0

/-- ALIGN_S in use: 0 acts as 1. -/
def LoopAct.align (l : LoopAct) : Nat := max l.alignS 1

/-- OUT_STATUS.GRID_EXACT (R194): f_out × ALIGN_S is a whole number. -/
def State.gridExact (s : State) (n : Nat) : Bool :=
  let o := (s.outSt n).act
  let l := (s.loopSt (o.loop + 1)).act
  o.enable && outFreqNum l * l.align % outFreqDen o == 0

/-- R189, R306, R308: an output is high-Z in Stage 0, while disabled, in Stage 1 unless BOOT, and while the guarded
drivers are off. -/
def State.outHighZ (s : State) (n : Nat) : Bool :=
  s.stage == 0 || !(s.outSt n).act.enable || (s.stage == 1 && !s.rdB F.OUT_CFG_BOOT n) || !s.guardedOn

/-- APLL_STATUS.RUNNING: locked with an origin taken. -/
def State.loopRunning (s : State) (a : Nat) : Bool := s.loopLocked a && (s.loopSt a).origin.isSome

/-- OUT_STATUS.RUNNING: edges at the pin. -/
def State.outRunning (s : State) (n : Nat) : Bool :=
  !s.outHighZ n && !(s.outSt n).shut && s.loopRunning (s.outLoop n)

/-- DP_STATUS.STATE as it reads: `FREE_RUN` while the unit is retired or isolated (R167). -/
def State.dpState (s : State) (d : Nat) : Nat :=
  if s.isRetired (uDP d) || s.isIsolated (uDP d) then 1 else s.rd F.DP_STATUS_STATE d

/-- OUT_STATUS.TRACE of a running output (R189): 0 `UNTRACEABLE`, 1 `TRACEABLE`, 2 `HOLDOVER`. -/
def State.outTrace (s : State) (n : Nat) : Nat :=
  let l := (s.loopSt (s.outLoop n)).act
  if !s.outRunning n then 0
  else if s.stage == 1 || !l.steered || s.dpState l.dpll < 2 then 0
  else if 5 ≤ s.dpState l.dpll then 2
  else 1

/-- The causes of Table 8.6 present on output n (R198). A loss through APLL0 counts as cause 2, a base move as 7, any
other absence of lock as 1. -/
def State.outCauses (s : State) (n : Nat) : List Nat :=
  let o := s.outSt n
  let a := s.outLoop n
  let l := s.loopSt a
  let moving := s.rdB F.CLK_BASE_STATUS_MOVING
  (if !s.loopRunning a && (!l.everLocked || (!l.baseLost && !moving)) then [1] else []) ++
  (if l.baseLost then [2] else []) ++
  (if o.commit then [3] else []) ++
  (if o.realign then [4] else []) ++
  (if s.isResetting (uOUT n) || s.isIsolated (uOUT n) || s.isRetired (uOUT n) || s.isResetting (uAPLL a) ||
      s.isIsolated (uAPLL a) then [5] else []) ++
  (if s.isRetired (uAPLL a) then [6] else []) ++
  (if moving then [7] else [])

/-- OUT_STATUS.SHUT_CAUSE: the lowest code present on a shuttered output. -/
def State.shutCause (s : State) (n : Nat) : Nat :=
  if (s.outSt n).shut then (s.outCauses n).headD 0 else 0

/-- One gate closes if a cause is present (R197): source 81 and the count. -/
def State.closeGate (s : State) (n : Nat) : State :=
  let o := s.outSt n
  if o.act.enable && !o.shut && (s.sy.handover || !(s.outCauses n).isEmpty) then
    ((s.setOut n { o with shut := true, onGrid := false, static := false }).bump F.OUT_SHUTTERS_COUNT n).info 81
      (uOUT n) 0 0 0
  else if !o.act.enable && o.shut then s.setOut n { o with shut := false, onGrid := false }
  else s

/-- Every gate on which a cause is present closes. -/
def State.syncShutters (s : State) : State := if s.stage == 0 then s else State.forAll 24 (fun n t => t.closeGate n) s

/-- SYNTH_COMMIT_STATUS.BUSY: a changed output awaits its release and is not high-Z (R192). -/
def State.synthBusy (s : State) : Bool :=
  (List.range 24).any fun n => (s.outSt n).commit && !s.outHighZ n

/-- The alignment origin of loop a at the present tick (R193): the latest whole multiple of ALIGN_S seconds on the
steering DPLL's accumulator, or on the counter when unsteered; with REF_ALIGN the origin moves by B onto the reference's
own grid (the sign follows that of B; log 20). -/
def State.originNow (s : State) (a : Nat) : Int :=
  let l := (s.loopSt a).act
  let acc := if l.steered then s.accNow l.dpll else s.now
  let o := (s.now : Int) - acc % ((l.align * unitsPerSec : Nat) : Int)
  if l.refAlign && l.steered then o - (s.dpll l.dpll).b else o

/-- Loop a takes its origin. -/
def State.takeOrigin (s : State) (a : Nat) : State :=
  s.setLoop a { s.loopSt a with origin := some (s.originNow a) }

/-- The realignment of loop a (R195): its outputs close and it takes a new origin at this tick. -/
def State.doRealign (s : State) (a : Nat) : State :=
  let s := s.setLoop a { s.loopSt a with realignWanted := false }
  let s := s.takeOrigin a
  let s := State.forAll 24 (fun n t =>
    let o := t.outSt n
    if o.act.enable && o.act.loop + 1 == a then t.setOut n { o with realign := true } else t) s
  s.syncShutters

/-- SYNTH_REALIGN (R195): at once, or at the end of a commit's BUSY or of the loop's unlocked state. -/
def State.realign (s : State) (a : Nat) : State :=
  if s.synthBusy || !s.loopLocked a then s.setLoop a { s.loopSt a with realignWanted := true } else s.doRealign a

/-- Realignments that waited for BUSY to end are carried out. -/
def State.runRealigns (s : State) : State :=
  [1, 2, 3, 4].foldl (fun t a =>
    if (t.loopSt a).realignWanted && !t.synthBusy && t.loopLocked a then t.doRealign a else t) s

/-- SHUTTER_OPEN (R197, R198): with no cause left but a commit's or a realignment's own, the gate opens on the grid. -/
def State.shutterOpen (s : State) (n : Nat) : State :=
  let o := s.outSt n
  if o.shut && !s.sy.handover && (s.outCauses n).all (fun c => c == 3 || c == 4) then
    ((s.setOut n { o with shut := false, onGrid := true, commit := false, realign := false, static := false }).info 81
      (uOUT n) 0 0 0).runRealigns
  else s

/-- SHUTTER_FORCE (R197): no closing edge has come within 2 periods; the gate forces the static level. -/
def State.shutterForce (s : State) (n : Nat) : State :=
  let o := s.outSt n
  if o.shut then s.setOut n { o with static := true } else s

/-! The commit. -/

/-- The shadow settings of output n. -/
def State.outShadow (s : State) (n : Nat) : OutAct :=
  { enable := s.rdB F.OUT_CFG_ENABLE n, loop := s.rd F.OUT_CFG_APLL n, format := s.rd F.OUT_CFG_FORMAT n,
    lvN := s.rd F.OUT_CFG_LVCMOS_N n, prescale := s.rd F.OUT_DIV_PRESCALE n, div := s.rd F.OUT_DIV_DIV n,
    phase := s.rd F.OUT_PHASE_PHASE_PS n }

/-- The shadow settings of loop a. -/
def State.loopShadow (s : State) (a : Nat) : LoopAct :=
  { alignS := s.rd F.APLL_CFG_ALIGN_S a, refAlign := s.rdB F.APLL_CFG_REF_ALIGN a,
    steered := s.rdB F.APLL_CFG_STEERED a, dpll := s.rd F.APLL_CFG_DPLL a, int := s.rd F.APLL_FB_INT_INT a,
    fracHi := s.rd F.APLL_FB_INT_FRAC_HI a, fracLo := s.rd F.APLL_FB_FRAC_FRAC_LO a }

/-- Checks 1–4 of Table 8.4 on an output with its loop's settings: the first that fails. -/
def outCheck (o : OutAct) (l : LoopAct) : Option Nat :=
  if o.div = 0 ∨ 2 ^ 24 < o.div then some 1
  else if o.prescale = 15 then some 2
  else if 1600000000 * outFreqDen o < outFreqNum l ∨ outFreqNum l < 8000 * outFreqDen o then some 3
  else if o.format = 3 ∧ 250000000 * outFreqDen o < outFreqNum l then some 4
  else none

/-- Checks 5 and 6 of Table 8.4 on a loop: 250 MHz × N_nom within 9.80098–10.79892 GHz, INT within 39–43. -/
def loopCheck (l : LoopAct) : Option Nat :=
  if 250000000 * l.nominal < 9800980000 * 2 ^ 48 ∨ 10798920000 * 2 ^ 48 < 250000000 * l.nominal then some 5
  else if l.int < 39 ∨ 43 < l.int then some 6
  else none

/-- The first check that fails over all shadows (R191): its REASON and FIRST_BAD. -/
def State.commitFault (s : State) : Option (Nat × Nat) :=
  let outs := (List.range 24).filter fun n => (s.outShadow n).enable
  let bad := outs.findSome? fun n =>
    (outCheck (s.outShadow n) (s.loopShadow ((s.outShadow n).loop + 1))).map fun r => (r, n)
  match bad with
  | some x => some x
  | none =>
    let loops := [1, 2, 3, 4].filter fun a =>
      (outs.any fun n => (s.outShadow n).loop + 1 == a) || s.loopShadow a != (s.loopSt a).act
    loops.findSome? fun a => (loopCheck (s.loopShadow a)).map fun r => (r, 0x20 + a)

/-- The unit whose ID the records of the synthesis as a whole carry: its group. -/
def uSYNTH : Nat := 0x13

/-- The result of a commit is reported (R190, R191). -/
def State.commitResult (s : State) (result reason firstBad : Nat) : State :=
  (s.wrAll [(F.SYNTH_COMMIT_STATUS_RESULT, 0, result), (F.SYNTH_COMMIT_STATUS_REASON, 0, reason),
            (F.SYNTH_COMMIT_STATUS_FIRST_BAD, 0, firstBad)]).info 82 uSYNTH result 0 0

/-- SYNTH_COMMIT_GO (R190, R191): refused with `BUSY` while a commit's release runs, otherwise it awaits the next
decision epoch. -/
def State.commitGo (s : State) : State :=
  if s.synthBusy then s.commitResult 3 0 0x3F else { s with sy := { s.sy with go := true } }

/-- The shadows are copied (R190, R192): loops that changed relock, outputs that changed or lie on them are shuttered. -/
def State.commitCopy (s : State) : State :=
  let changed := [1, 2, 3, 4].filter fun a => s.loopShadow a != (s.loopSt a).act
  let s0 := s
  let s := changed.foldl (fun t a =>
    (t.setLoop a { t.loopSt a with act := s0.loopShadow a, origin := none }).wr F.APLL_STATUS_LOCKED a 0) s
  let s := State.forAll 24 (fun n t =>
    let o := t.outSt n
    let new := s0.outShadow n
    let touched := new.enable && (new != o.act || changed.contains (new.loop + 1))
    let t := t.wrAll [(F.OUT_DIV_ACTIVE_PRESCALE, n, new.prescale), (F.OUT_DIV_ACTIVE_DIV, n, new.div)]
    t.setOut n { o with act := new, commit := touched, realign := o.realign && new.enable }) s
  let s := s.bumpWrap F.SYNTH_COMMIT_STATUS_SEQ
  (s.commitResult 1 0 0x3F).syncShutters

/-- SYNTH_COMMIT_VALIDATE (R191): at the first decision epoch after GO. -/
def State.commitValidate (s : State) : State :=
  if s.sy.go then
    let s := { s with sy := { s.sy with go := false } }
    match s.commitFault with
    | some (reason, bad) => s.commitResult 2 reason bad
    | none => s.commitCopy
  else s

/-! Lock and loss of lock. -/

/-- An output loop locks (R187, R193): with APLL0 locked it takes its origin. -/
def State.outLoopLocks (s : State) (a : Nat) : State :=
  if s.loopLocked 0 && s.inService (uAPLL a) then
    let s := s.wr F.APLL_STATUS_LOCKED a 1
    let s := s.setLoop a { s.loopSt a with everLocked := true, baseLost := false }
    (s.takeOrigin a).runRealigns
  else s

/-- A realignment in progress on loop a starts again at the relock (R202). -/
def State.keepRealign (s : State) (a : Nat) : State :=
  let some_ := (List.range 24).any fun n => s.outLoop n == a && (s.outSt n).realign
  s.setLoop a { s.loopSt a with realignWanted := (s.loopSt a).realignWanted || some_ }

/-- APLL_UNLOCK (R199): source 25 and the count, unless APLL0 is what was lost. -/
def State.apllUnlock (s : State) (a : Nat) : State :=
  if s.loopLocked a then
    let s := (s.keepRealign a).wr F.APLL_STATUS_LOCKED a 0
    let s := s.setLoop a { s.loopSt a with origin := none, baseLost := !s.loopLocked 0 }
    if s.loopLocked 0 then ((s.bump F.APLL_COUNTS_UNLOCKS a).fault 25 (uAPLL a) 0 0).syncShutters
    else s.syncShutters
  else s

/-- RELOCK_ATTEMPT (R187): an attempt of an unlocked loop ends; a failure is counted. -/
def State.relockAttempt (s : State) (a : Nat) (failed : Bool) : State :=
  if failed && !s.loopLocked a then s.bump F.APLL_COUNTS_RELOCK_FAILS a else s

/-- Every output loop loses its reference with APLL0 (R200). -/
def State.dropLoops (s : State) (base : Bool) : State :=
  [1, 2, 3, 4].foldl (fun t a =>
    ((t.keepRealign a).setLoop a { (t.keepRealign a).loopSt a with
      origin := none, baseLost := base && (t.loopSt a).everLocked }).wr F.APLL_STATUS_LOCKED a 0) s

/-! Phase verification (R196). -/

/-- The output that TDC_LOOP_SEL routes to LOOP channel l. -/
def State.loopSource (s : State) (l : Nat) : Nat :=
  if l == 0 then s.rd F.TDC_LOOP_SEL_LOOP0_SRC else s.rd F.TDC_LOOP_SEL_LOOP1_SRC

/-- A stamp's distance from the nearest point of the verified output's grid, in FRACTION units: the grid is
t_o + k·T_out + OUT_PHASE (R193). -/
def State.gridError (s : State) (n : Nat) (t : Int) : Int :=
  let o := (s.outSt n).act
  let l := s.loopSt (o.loop + 1)
  let num : Int := (unitsPerSec * outFreqDen o : Nat)
  let den : Int := outFreqNum l.act
  let x := (t - l.origin.getD 0 - psToUnits (toSigned 32 o.phase)) * den % num
  quotient 2 (if num < 2 * x then x - num else x) den

/-- A LOOP channel's stamp takes part in the verification. -/
def State.verifyStamp (s : State) (c : Nat) (t : Int) : State :=
  if s.rdB F.SYNTH_VERIFY_CFG_ENABLE && c == 26 + s.rd F.SYNTH_VERIFY_CFG_LOOP then
    let n := s.loopSource (c - 26)
    if n < 24 && s.outRunning n then
      { s with sy := { s.sy with verSum := s.sy.verSum + s.gridError n t, verN := s.sy.verN + 1 } }
    else s
  else s

/-- PHASE_VERIFY (R196): the mean error of the last second is published; source 27 at the first second beyond the
tolerance. -/
def State.phaseVerify (s : State) : State :=
  let n := s.loopSource (s.rd F.SYNTH_VERIFY_CFG_LOOP)
  let valid := s.rdB F.SYNTH_VERIFY_CFG_ENABLE && n < 24 && s.outRunning n && s.sy.verN != 0
  let err := if s.sy.verN = 0 then 0 else quotient 3 (s.sy.verSum * 10000) (s.sy.verN * 65536)
  let tol : Int := max (s.rd F.SYNTH_VERIFY_CFG_TOL_01PS) 1
  let out := valid && tol < |err|
  let was := s.rdB F.SYNTH_VERIFY_STATUS_OUT_OF_TOL
  let s := { s with sy := { s.sy with verSum := 0, verN := 0 } }
  let s := s.wrAll [(F.SYNTH_VERIFY_STATUS_VALID, 0, b2n valid), (F.SYNTH_VERIFY_STATUS_OUT_OF_TOL, 0, b2n out),
                    (F.SYNTH_VERIFY_STATUS_OUTPUT, 0, if n < 24 then n else 0x3F)]
  let s := s.wrI F.SYNTH_VERIFY_STATUS_ERR 0 (if valid then err else 0)
  s.when (out && !was) (·.fault 27 (uOUT n) (ofSigned 32 err) 0)

/-- A word delivered by DPLL d reaches the loops it steers (R185). -/
def State.deliver (s : State) (d : Nat) : State :=
  [1, 2, 3, 4].foldl (fun t a =>
    let l := t.loopSt a
    if l.act.steered && l.act.dpll == d then t.setLoop a { l with word := (t.dpll d).word } else t) s

/-- FB_EFFECTIVE (Table 8.12): N_nom × (1 + y) in 2⁻⁵⁸. -/
def State.fbEffective (s : State) (a : Nat) : Nat :=
  let l := s.loopSt a
  let y := if l.act.steered then l.word else 0
  (((l.act.nominal * 2 ^ 10 : Nat) : Int) * (yOne + y) / yOne).toNat

/-- The length of the degraded interval that ends now, in µs. -/
def State.degradedUs (s : State) : Nat := (s.now - s.sy.degStart.getD s.now) / unitsPerUs

end Sys2Proof.Machine
end

