-- ==== Sys2Proof/Machine/Tdc.lean ====
section
/-! DEFINITION. TDC channels, stamps, regression and takes (R88–R110): what an edge becomes, what a gate's stamps give,
and the records of takes. -/

namespace Sys2Proof.Machine

/-- A channel beside its registers. -/
def State.chan (s : State) (c : Nat) : ChanSt := s.td.chan.at c {}
/-- A channel's own state set. -/
def State.setChan (s : State) (c : Nat) (x : ChanSt) : State := { s with td := { s.td with chan := s.td.chan.set c x {} } }
/-- A host estimate beside its registers. -/
def State.est (s : State) (e : Nat) : EstSt := s.td.est.at e {}
/-- A host estimate's own state set. -/
def State.setEst (s : State) (e : Nat) (x : EstSt) : State := { s with td := { s.td with est := s.td.est.set e x {} } }
/-- A take beside its registers. -/
def State.take (s : State) (t : Nat) : TakeSt := s.td.take.at t {}
/-- A take's own state set. -/
def State.setTake (s : State) (t : Nat) (x : TakeSt) : State := { s with td := { s.td with take := s.td.take.set t x {} } }

/-- The channel stamps (R88), and the counter has a majority (R206). -/
def State.chanRunning (s : State) (c : Nat) : Bool :=
  s.rdB F.TDC_CH_CFG_ENABLE c && !s.td.gated && !s.tm.lost && s.rdB F.TDC_CH_CAL_VALID c && s.inService (uTDC c)

/-- SLOPE = both on an IN channel: s = 2 (R101). -/
def State.bothSlopes (s : State) (c : Nat) : Bool := c < 16 && s.rd F.IN_CFG_SLOPE c == 2

/-- k, the prescaler exponent. -/
def State.prescale (s : State) (c : Nat) : Nat := s.rd F.TDC_CH_CFG_PRESCALE c

/-- Only even edge indices count with SLOPE = both and k = 0 (R103, R120). -/
def State.evenOnly (s : State) (c : Nat) : Bool := s.bothSlopes c && s.prescale c == 0

/-- The nominal prescaled period 2^k / f_nom in FRACTION units, as numerator and denominator (R103). -/
def State.periodNum (s : State) (c : Nat) : Nat := 2 ^ s.prescale c * unitsPerSec * 2 ^ 31
def State.periodDen (s : State) (c : Nat) : Nat := s.nominal c

/-- The configured rate exceeds 25 M stamps/s (R101). -/
def State.rateOver (s : State) (c : Nat) : Bool :=
  s.rdB F.TDC_CH_CFG_ENABLE c &&
    25000000 * 2 ^ 31 * 2 ^ s.prescale c < s.nominal c * (if s.bothSlopes c then 2 else 1)

/-- The regression load in stamps/s scaled by 2³¹ · 2³⁰ (R101): per enabled channel the configured rate, halved where only
even edges count, times 2^−d of its standing estimate and of each host estimate on it. -/
def State.loadScaled (s : State) : Nat :=
  ((List.range 28).map fun c =>
    if s.rdB F.TDC_CH_CFG_ENABLE c then
      let rate := s.nominal c * (if s.bothSlopes c && s.prescale c ≠ 0 then 2 else 1) * 2 ^ (15 - s.prescale c)
      let ests := (List.range 4).map fun e =>
        if s.rd F.EST_STATUS_STATE e ≠ 0 && (s.est e).channel == c then 2 ^ (15 - (s.est e).decim) else 0
      rate * (2 ^ (15 - s.rd F.TDC_CH_CFG_DECIM c) + ests.sum)
    else 0).sum

/-- TDC_STATUS.LOAD_M: the load in M stamps/s, rounded down; saturates at 1,023. -/
def State.loadM (s : State) : Nat := min 1023 (s.loadScaled / (1000000 * 2 ^ 61))

/-- TDC_STATUS.OVERCOMMIT: the load exceeds 320 M stamps/s. -/
def State.overcommit (s : State) : Bool := 320 * 1000000 * 2 ^ 61 < s.loadScaled

/-- Stamps of the channel carry DEGRADED now (R94, R200, Table 3.8). -/
def State.chanDegraded (s : State) (c : Nat) : Bool :=
  (s.chan c).rescaling || s.rdB F.SYNTH_DEG_STATUS_DEGRADED || s.rdB F.CLK_BASE_STATUS_MOVING

/-- P_path of R92: the IN_PATH_DELAY entry of the present MODE, TERM and polarity with the filter's delay, or the factory
value of the other channels (log 22). -/
def State.pathDelay (s : State) (c : Nat) (falling : Bool) : Int :=
  if c < 16 then
    s.rd F.IN_PATH_DELAY_DELAY (8 * c + 4 * s.rd F.IN_CFG_MODE c + 2 * s.rd F.IN_CFG_TERM c + b2n falling) +
      psToUnits (100 * s.rd F.IN_FILTER_MIN_WIDTH c)
  else Config.factoryDelay c

/-- Rounded to the nearest whole, ties to even (R92). -/
def roundEven (n : Int) (d : Nat) : Int :=
  let q := n / d
  let r := n % d
  if 2 * r < d then q else if (d : Int) < 2 * r then q + 1 else if q % 2 = 0 then q else q + 1

/-- The stamp of an edge (R92): coarse time in FRACTION units, line delay in 2⁻¹⁶ FRACTION units. -/
def State.stampTime (s : State) (c coarse line : Nat) (falling : Bool) : Int :=
  roundEven ((coarse : Int) * 65536 - line) 65536 - s.pathDelay c falling - s.rdI F.TDC_CH_DELAY_DELAY c

/-- Dead time of 3.2 ns (R96): fewer whole FRACTION units than 209,715.2. -/
def deadTime : Int := 209716

/-! Gates. -/

/-- The standing gate's length: 10^GATE_LOG ms, 7 acting as 6. -/
def State.standingLen (s : State) (c : Nat) : Nat := 10 ^ min 6 (s.rd F.TDC_CH_CFG_GATE_LOG c) * unitsPerMs

/-- A gate of length `len` that begins at or after `t`. -/
def State.newGate (s : State) (t len decim : Nat) : Gate :=
  let st := (t + len - 1) / len * len
  { start := st, stop := st + len, decim := decim, fine := s.fineAt st }

/-- The next standing gate, from the boundary after now. -/
def State.nextStanding (s : State) (c : Nat) : Gate :=
  s.newGate (s.now + 1) (s.standingLen c) (s.rd F.TDC_CH_CFG_DECIM c)

/-- A host estimate's gate length; larger values clamp. -/
def EstSt.len (e : EstSt) : Nat := min e.gateMs 1000000 * unitsPerMs

/-- P with 32 fractional bits (R103). -/
def State.period32 (s : State) (c : Nat) : Int := quotient 4 ((s.periodNum c : Int) * 2 ^ 32) (s.periodDen c)

/-- A stamp is accumulated in a gate (R102, R103, R104, R105). -/
def State.accumulate (s : State) (c : Nat) (g : Gate) (st : Stamp) : Gate :=
  let member := (g.start : Int) ≤ st.t && st.t < g.stop && st.idx % 2 ^ g.decim == 0 &&
    !(s.evenOnly c && st.idx % 2 == 1) && !g.range && !g.stepped && s.nominal c ≠ 0
  if !member then g
  else if 2 ^ 32 ≤ g.n then { g with capped := true }
  else
    let g := if g.n = 0 then { g with nRef := st.idx, tRef := st.t } else g
    let dx : Int := (st.idx : Int) - g.nRef
    let x := if s.evenOnly c then dx / 2 else dx
    let y := (st.t - g.tRef) * 2 ^ 32 - x * s.period32 c
    if 2 ^ 79 ≤ |y| then { g with range := true }
    else { g with n := g.n + 1, sx := g.sx + x, sy := g.sy + y, sxx := g.sxx + x * x, sxy := g.sxy + x * y,
                  syy := g.syy + y * y, degraded := g.degraded || st.degraded }

/-- The values of a gate with result `OK` (R103): OFFSET, PHASE and s. -/
def State.regress (s : State) (c : Nat) (g : Gate) : Int × Int × Nat :=
  let n : Int := g.n
  let p := s.period32 c
  let det := n * g.sxx - g.sx * g.sx
  let b := n * g.sxy - g.sx * g.sy
  let offset := quotient 5 (-b * yOne) (p * det + b)
  let xm := (2 * g.sx + n) / (2 * n)
  let num := g.sy * det - b * g.sx + n * b * xm
  let phase := g.tRef + quotient 6 (xm * p * n * det + num) (n * det * 2 ^ 32)
  let sq := g.syy * n * det - (g.sy * det - b * g.sx) * g.sy - n * b * g.sxy
  let resid := rootOf 7 (sq * 10000000000 / (n * det * (n - 2) * 2 ^ 96)).toNat
  (offset, phase, resid)

/-- A gate's result (R104, R105, Table 4.4). -/
def State.gateResult (s : State) (c : Nat) (g : Gate) : GateResult :=
  let fine : Int := (s.fineAt g.stop : Int) - g.fine
  let rate := if fine = 0 then 0 else quotient 8 (((g.stop - g.start) * 2 ^ 48 : Nat) * yOne) fine - yOne
  let base : GateResult := { code := 0, n := g.n, incomplete := g.incomplete, degraded := g.degraded,
                             capped := g.capped, start := g.start, stop := g.stop, rate := rate }
  if g.restarted then { base with code := 6 }
  else if g.stepped then { base with code := 4 }
  else if s.nominal c = 0 then { base with code := 7 }
  else if g.range then { base with code := 5 }
  else if g.n < 3 then { base with code := 2 }
  else
    let v := s.regress c g
    { base with code := 1, offset := v.1, phase := v.2.1, resid := v.2.2 }

/-- A gate in which a stamp of the channel was dropped at `t` is `INCOMPLETE` (R97). -/
def Gate.lost (g : Gate) (t : Int) : Gate :=
  if (g.start : Int) ≤ t && t < g.stop then { g with incomplete := true } else g

/-- The estimates on a channel, each gate changed. -/
def State.mapGates (s : State) (c : Nat) (f : Gate → Gate) : State :=
  let s := s.setChan c { s.chan c with gate := (s.chan c).gate.map f }
  State.forAll 4 (fun e t =>
    if (t.est e).channel == c && t.rd F.EST_STATUS_STATE e ≠ 0 then t.setEst e { t.est e with gate := (t.est e).gate.map f }
    else t) s

/-- R102: the running gate of every estimate on the channel is discarded with `RESTARTED`, and gates resume at the next
boundary. -/
def State.restartGates (s : State) (c : Nat) : State :=
  let x := s.chan c
  let s := match x.gate with
    | some g => s.setChan c { x with result := some { code := 6, start := g.start, stop := s.now },
                                     gate := some (s.nextStanding c) }
    | none => s
  State.forAll 4 (fun e t =>
    let x := t.est e
    if x.channel == c && t.rd F.EST_STATUS_STATE e == 2 then
      t.setEst e { x with result := some { code := 6, stop := t.now }, gate := some (t.newGate (t.now + 1) x.len x.decim) }
    else t) s

/-- The channel starts (R94, R98): the edge index at 0, no stamp queued, a first standing gate. -/
def State.startChannel (s : State) (c : Nat) : State :=
  let s := s.setChan c { s.chan c with edges := 0, lastEdge := none, fifo := [], dropNext := false, fullLines := 0,
                                       rescaling := false, gate := some (s.nextStanding c) }
  let s := s.wrAll [(F.TDC_CH_CAL_VALID, c, 0), (F.TDC_CH_CAL_FULL, c, 0), (F.TDC_CH_CAL_FAILED, c, 0),
                    (F.TDC_CH_FIFO_LEVEL, c, 0), (F.TDC_CH_FIFO_HIGH_WATER, c, 0), (F.TDC_CH_STATUS_LINE, c, 0),
                    (F.TDC_CH_STATUS_DROPPING, c, 0), (F.TDC_CH_STATUS_STALLED, c, 0)]
  if c < 16 then s.wrAll [(F.IN_FILTER_GLITCHES, c, 0), (F.IN_EDGES_COUNT, c, 0)] else s

/-- EST_START (R102): the configuration is latched; EST_GATE 0 gives `NO_GATE`. -/
def State.estStart (s : State) (e : Nat) : State :=
  let ms := s.rd F.EST_GATE_GATE_MS e
  if ms = 0 then s.wr F.EST_STATUS_RESULT e 3
  else
    let x : EstSt := { s.est e with channel := min 27 (s.rd F.EST_CFG_CHANNEL e), gateMs := min ms 1000000,
                                    decim := s.rd F.EST_CFG_DECIM e, event := s.rdB F.EST_CFG_EVENT e,
                                    continuous := s.rdB F.EST_CFG_CONTINUOUS e, result := none }
    let s := s.setEst e { x with gate := some (s.newGate (s.now + 1) x.len x.decim) }
    s.wrAll [(F.EST_STATUS_STATE, e, 1), (F.EST_SEQ_SEQ, e, 0)]

/-- EST_STOP (R102): the estimate ends; its running gate publishes nothing. -/
def State.estStop (s : State) (e : Nat) : State :=
  (s.setEst e { s.est e with gate := none, result := none }).wr F.EST_STATUS_STATE e 0

/-- GATE_END (R103): the gate of slot 0–27 (standing estimate of a channel) or 28–31 (EST0–EST3) ends at its boundary;
its result waits for publication, and the next gate begins (R102). -/
def State.gateEnd (s : State) (slot : Nat) : State :=
  if slot < 28 then
    let x := s.chan slot
    match x.gate with
    | none => s
    | some g =>
      let s := s.advanceTo g.stop
      s.setChan slot { x with result := some (s.gateResult slot g),
                              gate := some (s.newGate g.stop (s.standingLen slot) (s.rd F.TDC_CH_CFG_DECIM slot)) }
  else
    let e := slot - 28
    let x := s.est e
    match x.gate with
    | none => s
    | some g =>
      let s := s.advanceTo g.stop
      let r := s.gateResult x.channel g
      if x.continuous then
        (s.setEst e { x with result := some r, gate := some (s.newGate g.stop x.len x.decim) }).wr F.EST_STATUS_STATE e 2
      else (s.setEst e { x with result := some r, gate := none }).wr F.EST_STATUS_STATE e 0

/-- A host estimate's result is published (R106): registers and wide items together, source 72 with EVENT. -/
def State.publishEst (s : State) (e : Nat) : State :=
  let x := s.est e
  match x.result with
  | none => s
  | some r =>
    let ok := r.code == 1
    let s := s.setEst e { x with result := none, offset := if ok then some r.offset else none,
                                 phase := if ok then some r.phase else none, n := some r.n }
    let s := s.wrAll [(F.EST_STATUS_RESULT, e, r.code), (F.EST_STATUS_CAPPED, e, b2n r.capped),
                      (F.EST_STATUS_DEGRADED, e, b2n r.degraded), (F.EST_STATUS_INCOMPLETE, e, b2n r.incomplete),
                      (F.EST_COUNT_N, e, satTo 32 r.n)]
    let s := s.when ok fun t => (t.wrI F.EST_OFFSET_OFFSET e (quotient 9 r.offset 1000000000)).wr F.EST_RESID_RESID e
      (satTo 32 r.resid)
    let s := s.bumpWrap F.EST_SEQ_SEQ e
    s.when x.event (·.info 72 (uTDC x.channel) 0 0 0)

/-! Takes. -/

/-- A stamp record (Table 4.3, KIND 0). -/
def stampBits (source c : Nat) (st : Stamp) : Nat :=
  source * 2 ^ 123 + c * 2 ^ 118 + b2n st.falling * 2 ^ 117 + b2n st.degraded * 2 ^ 116 + b2n st.dropBefore * 2 ^ 115 +
    (st.idx % 2 ^ 19) * 2 ^ 96 + t96 st.t.toNat

/-- A record of take t is written (R100): without a usable reel the take is incomplete and the record discarded. -/
def State.takeRecord (s : State) (t bits : Nat) (summary : Bool) : State :=
  if s.streamReel.isNone then s.wr F.TAKE_STATUS_INCOMPLETE t 1
  else (s.pushRecord bits summary).bumpWrap F.TAKE_COUNT_RECORDS t

/-- The summary record (Table 4.3, KIND 2) and the end of the take with a result; source 71. -/
def State.takeSummary (s : State) (t result : Nat) : State :=
  let x := s.take t
  let start := x.start.getD s.now
  let stop := min s.now (x.stop.getD s.now)
  let bits := 2 * 2 ^ 126 + (t + 1) * 2 ^ 123 + result * 2 ^ 119 + s.rd F.TAKE_STATUS_INCOMPLETE t * 2 ^ 118 +
    s.rd F.TAKE_STATUS_DEGRADED t * 2 ^ 117 + s.rd F.TAKE_COUNT_RECORDS t * 2 ^ 64 +
    s.rd F.TAKE_STATUS_DISCARDS t * 2 ^ 48 + satTo 16 x.unpaired * 2 ^ 32 + satTo 32 ((stop - start) / unitsPerUs)
  let s := (s.takeRecord t bits true).wr F.TAKE_STATUS_RESULT t result
  s.setTake t { x with stop := some stop, pendingStart := none, heldStop := none, waiting := [] }

/-- The group whose ID the records of a take carry. -/
def uINPUT : Nat := 0x10

/-- A take starts at a time. -/
def State.takeStart (s : State) (t start : Nat) : State :=
  let x := s.take t
  let s := s.setTake t { x with start := some start, stop := some (start + x.gateMs * unitsPerMs), pendingStart := none,
                                heldStop := none, waiting := [], lastStart := none, lastStop := none, unpaired := 0,
                                pairCount := 0 }
  s.wrAll [(F.TAKE_STATUS_STATE, t, 2), (F.TAKE_STATUS_DISCARDS, t, 0), (F.TAKE_STATUS_INCOMPLETE, t, 0),
           (F.TAKE_STATUS_DEGRADED, t, 0), (F.TAKE_STATUS_ORDER_SEEN, t, 0), (F.TAKE_STATUS_SUB_BIN_SEEN, t, 0),
           (F.TAKE_COUNT_RECORDS, t, 0)]

/-- The take's pin is at its active level (R107). -/
def State.gateActive (s : State) (x : TakeSt) : Bool :=
  (if x.source == 1 then s.td.gate0 else s.td.gate1) != x.activeLow

/-- The channels a take names (R109, R110). -/
def takeChannels (pairs : Bool) (start stop mask : Nat) : List Nat := if pairs then [start, stop] else bitsSet 28 mask

/-- TAKE_ARM (Table 4.5). -/
def State.takeArm (s : State) (t : Nat) : State :=
  if s.rd F.TAKE_STATUS_STATE t ≠ 0 then s
  else
    let ms := s.rd F.TAKE_GATE_GATE_MS t
    let src := s.rd F.TAKE_CFG_SOURCE t
    let x : TakeSt :=
      { repeats := s.rdB F.TAKE_CFG_REPEAT t, level := s.rdB F.TAKE_CFG_LEVEL t,
        activeLow := s.rdB F.TAKE_CFG_POLARITY t, source := if src == 3 then 0 else src,
        pairs := s.rdB F.TAKE_CFG_MODE t, stopCh := s.rd F.TAKE_CFG_STOP t, startCh := s.rd F.TAKE_CFG_START t,
        mask := s.rd F.TAKE_MASK_CHANNELS t, gateMs := min ms 1000000,
        window := min (s.rd F.TAKE_WINDOW_WINDOW_PS t) 10000000, armTime := s.now }
    let bad := (takeChannels x.pairs x.startCh x.stopCh x.mask).any fun c =>
      !s.rdB F.TDC_CH_CFG_ENABLE c || s.isRetired (uTDC c) || s.isIsolated (uTDC c)
    if ms = 0 then s.wr F.TAKE_STATUS_RESULT t 3
    else if bad then s.wr F.TAKE_STATUS_RESULT t 9
    else if s.streamReel.isNone then s.wr F.TAKE_STATUS_RESULT t 10
    else
      let s := s.setTake t x
      if x.source == 0 || (x.level && s.gateActive x) then s.takeStart t s.now
      else s.wr F.TAKE_STATUS_STATE t 1

/-- TAKE_ABORT (Table 4.5). -/
def State.takeAbort (s : State) (t : Nat) : State :=
  let st := s.rd F.TAKE_STATUS_STATE t
  if st = 1 then (s.takeSummary t 8).wr F.TAKE_STATUS_STATE t 0
  else if st = 2 then ((s.takeSummary t 8).wr F.TAKE_STATUS_STATE t 0).info 71 uINPUT 0 0 0
  else s

/-- An interval record (Table 4.3, KIND 1) with its flags. -/
def State.takeInterval (s : State) (t : Nat) (a b : Stamp) (d : Int) (order : Bool) : State :=
  let x := s.take t
  let bin := max (s.rd F.TDC_CH_BIN_BIN x.startCh) (s.rd F.TDC_CH_BIN_BIN x.stopCh)
  let sub := |d| * 1024000 < bin * 65536
  let ord := order && !sub
  let deg := a.degraded || b.degraded
  let bits := 2 ^ 126 + (t + 1) * 2 ^ 123 + b2n ord * 2 ^ 122 + b2n sub * 2 ^ 121 + b2n deg * 2 ^ 120 +
    b2n (a.dropBefore || b.dropBefore) * 2 ^ 119 + (x.pairCount % 2 ^ 23) * 2 ^ 96 +
    ofSigned 64 (if sub then 0 else d) * 2 ^ 32 + (a.t / 65536 % 1000000000).toNat
  let s := s.setTake t { x with pairCount := x.pairCount + 1 }
  let s := s.takeRecord t bits false
  let s := s.when sub (·.wr F.TAKE_STATUS_SUB_BIN_SEEN t 1)
  s.when ord (·.wr F.TAKE_STATUS_ORDER_SEEN t 1)

/-- A stop is discarded. -/
def State.takeDiscard (s : State) (t : Nat) : State := s.bump F.TAKE_STATUS_DISCARDS t

/-- One stamp of a start–stop take in the order of R110. -/
def State.pairStep (s : State) (t : Nat) (isStop : Bool) (st : Stamp) : State :=
  let x := s.take t
  if x.startCh == x.stopCh then
    let s := match x.pendingStart with
      | some p => s.takeInterval t p st (st.t - p.t) false
      | none => s
    s.setTake t { s.take t with pendingStart := some st }
  else if !isStop then
    let x := { x with unpaired := x.unpaired + (if x.pendingStart.isSome then 1 else 0), pendingStart := some st,
                      heldStop := none }
    match (s.take t).heldStop with
    | none => s.setTake t x
    | some h =>
      if (st.t - h.t) * 1000 ≤ x.window * 65536 then
        let s := (s.setTake t x).takeInterval t st h (h.t - st.t) true
        s.setTake t { s.take t with pendingStart := none }
      else (s.setTake t x).takeDiscard t
  else
    match x.pendingStart with
    | some p =>
      let s := s.takeInterval t p st (st.t - p.t) false
      s.setTake t { s.take t with pendingStart := none }
    | none =>
      let s := if x.heldStop.isSome then s.takeDiscard t else s
      s.setTake t { s.take t with heldStop := some st }

/-- Insert a stamp in ascending time, a start before a stop at equal times. -/
def insertStamp (b : Bool) (st : Stamp) : List (Bool × Stamp) → List (Bool × Stamp)
  | [] => [(b, st)]
  | (c, x) :: l => if st.t < x.t || (st.t == x.t && !b && c) then (b, st) :: (c, x) :: l
    else (c, x) :: insertStamp b st l

/-- The stamps of a start–stop take that no earlier one can follow any more are processed; all of them at its end. -/
def State.takeDrain (s : State) (t : Nat) (all : Bool) : State :=
  let x := s.take t
  let ready := fun p : Bool × Stamp =>
    all || match x.lastStart, x.lastStop with
      | some a, some b => p.2.t < min a b
      | _, _ => false
  let go := x.waiting.filter ready
  let s := s.setTake t { x with waiting := x.waiting.filter fun p => !ready p }
  go.foldl (fun u p => u.pairStep t p.1 p.2) s

/-- A stamp of channel c reaches take t (R107, R109, R110). -/
def State.takeStamp (s : State) (t c : Nat) (st : Stamp) : State :=
  let x := s.take t
  let inGate := match x.start, x.stop with
    | some a, some b => (a : Int) ≤ st.t && st.t < b
    | _, _ => false
  if s.rd F.TAKE_STATUS_STATE t ≠ 2 || !inGate then s
  else
    let mine := (takeChannels x.pairs x.startCh x.stopCh x.mask).contains c
    if !mine then s
    else
      let s := s.when st.degraded (·.wr F.TAKE_STATUS_DEGRADED t 1)
      if !x.pairs then s.takeRecord t (stampBits (t + 1) c st) false
      else if x.startCh == x.stopCh then s.pairStep t false st
      else
        let isStop := c == x.stopCh
        (s.setTake t { x with waiting := insertStamp isStop st x.waiting,
                              lastStart := if isStop then x.lastStart else some st.t,
                              lastStop := if isStop then some st.t else x.lastStop }).takeDrain t false

/-- The gate of a running take ends (Table 4.5): summary `OK`, source 71, and the repeat. -/
def State.takeEnd (s : State) (t : Nat) : State :=
  if s.rd F.TAKE_STATUS_STATE t ≠ 2 then s
  else
    let s := s.takeDrain t true
    let x := s.take t
    let s := if x.pairs then
        let s := s.setTake t { x with unpaired := x.unpaired + (if x.pendingStart.isSome then 1 else 0) }
        if x.heldStop.isSome then s.takeDiscard t else s
      else s
    let s := (s.takeSummary t 1).info 71 uINPUT 0 0 0
    if x.repeats && x.source == 0 then s.takeStart t s.now
    else if x.repeats then s.wr F.TAKE_STATUS_STATE t 1
    else s.wr F.TAKE_STATUS_STATE t 0

/-- TAKE_GATE_END (R108): the gate time has elapsed. -/
def State.takeGateEnd (s : State) (t : Nat) : State :=
  match (s.take t).stop with
  | some e => if s.rd F.TAKE_STATUS_STATE t = 2 then (s.advanceTo e).takeEnd t else s
  | none => s

/-- GATE_PIN_EDGE (R107): a GATE pin's synchronized level changes in the cycle of counter value `cycle`; armed takes of
the pin start 3.2 ns before it, and running takes in level mode end when it goes inactive. -/
def State.gatePinEdge (s : State) (pin : Nat) (high : Bool) (cycle : Nat) : State :=
  let s := s.advanceTo cycle
  let s := if pin == 0 then { s with td := { s.td with gate0 := high } } else { s with td := { s.td with gate1 := high } }
  State.forAll 4 (fun t u =>
    let x := u.take t
    if x.source ≠ pin + 1 then u
    else if u.rd F.TAKE_STATUS_STATE t = 1 && u.gateActive x then u.takeStart t (cycle - 209715)
    else if u.rd F.TAKE_STATUS_STATE t = 2 && x.level && !u.gateActive x then u.takeEnd t
    else u) s

/-- A time step ends running takes with `STEPPED` and every gate in progress (R105, R108). -/
def State.stepGates (s : State) : State :=
  let s := State.forAll 4 (fun t u =>
    if u.rd F.TAKE_STATUS_STATE t = 2 then
      ((u.takeSummary t 4).wr F.TAKE_STATUS_STATE t 0).info 71 uINPUT 0 0 0 else u) s
  let mark := fun g : Gate => { g with stepped := true }
  let s := State.forAll 28 (fun c u =>
    match (u.chan c).gate with
    | some g => u.setChan c { u.chan c with result := some (u.gateResult c (mark g)), gate := some (u.nextStanding c) }
    | none => u) s
  State.forAll 4 (fun e u =>
    let x := u.est e
    match x.gate with
    | some g =>
      if u.rd F.EST_STATUS_STATE e == 2 || (g.start : Int) ≤ u.now then
        u.setEst e { x with result := some (u.gateResult x.channel (mark g)),
                            gate := some (u.newGate (u.now + 1) x.len x.decim) }
      else u.setEst e { x with gate := some (u.newGate (u.now + 1) x.len x.decim) }
    | none => u) s

/-! Calibration (R93, R94). -/

/-- CAL_VALID (R94): the factory shape has been scaled; the channel stamps. -/
def State.calValid (s : State) (c : Nat) : State :=
  if s.rdB F.TDC_CH_CFG_ENABLE c && !s.td.gated then
    let s := s.wr F.TDC_CH_CAL_VALID c 1
    if (s.chan c).gate.isNone then s.setChan c { s.chan c with gate := some (s.nextStanding c) } else s
  else s

/-- CAL_TABLE_READY (R93, R94): the idle line's table is built from its hits. `beyond` is the share of hits past the last
tap in parts per million, `maxTap` the widest tap in fs; a table that passes puts the line in service, one that fails
raises source 17. HOLD keeps the present tables. -/
def State.calTableReady (s : State) (c beyond maxTap taps bin dnl inl : Nat) : State :=
  if s.rdB F.TDC_CAL_CFG_HOLD || !s.rdB F.TDC_CH_CFG_ENABLE c then s
  else
    let idle := 1 - s.rd F.TDC_CH_STATUS_LINE c
    let reject := if 1000 < beyond then 1 else if 6000 < maxTap then 2 else 0
    let s := s.wrAll [(F.TDC_CH_CAL_DNL_MAX, c, dnl), (F.TDC_CH_CAL_INL_MAX, c, inl)]
    if reject ≠ 0 then (s.wr F.TDC_CH_CAL_FAILED c 1).fault 17 (uTDC c) idle reject
    else
      let x := s.chan c
      let full := x.fullLines ||| 2 ^ idle
      let s := s.setChan c { x with fullLines := full }
      s.wrAll [(F.TDC_CH_CAL_FAILED, c, 0), (F.TDC_CH_STATUS_LINE, c, idle), (F.TDC_CH_BIN_BIN, c, bin),
               (F.TDC_CH_BIN_TAPS, c, taps), (F.TDC_CH_CAL_FULL, c, b2n (full == 3))]

/-- CAL_RESCALE_DONE (R94): the stamps of the channel are no longer DEGRADED by a rescale. -/
def State.calRescaleDone (s : State) (c : Nat) : State := s.setChan c { s.chan c with rescaling := false }

/-- The TDC domain is gated (R88, R200): no stamps; detection is suspended (R129). -/
def State.gateTdc (s : State) : State :=
  if s.td.gated then s
  else
    let s := { s with td := { s.td with gated := true, blind := true } }
    State.forAll 28 (fun c t => t.setChan c { t.chan c with gatedAt := some t.tm.fine }) s

/-- The edges a gating hid (R98): the length times the nominal rate after the prescaler and (1 + OFFSET), to the nearest
whole edge. -/
def State.hiddenEdges (s : State) (c : Nat) (fine : Nat) : Nat :=
  let f := s.nominal c * (if s.evenOnly c then 2 else 1)
  let num : Int := (fine : Int) * f * (yOne + (s.chan c).offset.getD 0)
  let den : Int := ((2 ^ s.prescale c * unitsPerSec * 2 ^ 31 * 2 ^ 48 : Nat) : Int) * yOne
  ((2 * num + den) / (2 * den)).toNat

/-- The TDC domain is ungated (R94, R98): a channel that was VALID stamps on with its tables, DEGRADED until its rescale
is done; any other starts from its factory shape. -/
def State.ungateTdc (s : State) : State :=
  if !s.td.gated then s
  else
    let s := { s with td := { s.td with gated := false } }
    State.forAll 28 (fun c t =>
      if t.rdB F.TDC_CH_CFG_ENABLE c then
        let x := t.chan c
        if t.rdB F.TDC_CH_CAL_VALID c then
          let gone := t.tm.fine - x.gatedAt.getD t.tm.fine
          t.setChan c { x with rescaling := true, gatedAt := none,
                               edges := (x.edges + t.hiddenEdges c gone) % 2 ^ 48 }
        else t.startChannel c
      else t) s

end Sys2Proof.Machine
end

