-- ==== Sys2Proof/Machine/Clocks.lean ====
section
/-! DEFINITION. Oscillators, clock monitors, domain muxes, base moves and degraded intervals (R64–R86, R199–R202, R386).
Oscillators are numbered 0 TCXO, 1 OCXO, 2 the TCXO path; muxes 0 BASE_MUX, 1 TK_MUX; crossings as in Table 3.11. -/

namespace Sys2Proof.Machine

/-! Crossings. -/

/-- A domain crossing is `DISCONNECTED` (R85, Table 3.11): source 67 on a change. -/
def State.disconnect (s : State) (x : Nat) : State :=
  if s.rd F.CLK_XING_STATUS_STATE x = 1 then s
  else (s.wr F.CLK_XING_STATUS_STATE x 1).info 67 uPLATFORM 0 0 0

/-- ANNOUNCE_TOKEN (R86): a token that carries the crossing's next GENERATION returns it to `CONNECTED`; one from before
the reset carries an older GENERATION and is discarded. -/
def State.announceToken (s : State) (x gen : Nat) : State :=
  if gen % 256 = (s.rd F.CLK_XING_STATUS_GENERATION x + 1) % 256 && s.rd F.CLK_XING_STATUS_STATE x == 1 then
    (s.wrAll [(F.CLK_XING_STATUS_GENERATION, x, gen), (F.CLK_XING_STATUS_STATE, x, 0)]).info 67 uPLATFORM 0 0 0
  else s

/-! The timekeeping domain. -/

/-- The TCXO path is qualified (R68). -/
def State.pathQual (s : State) : Bool := s.rdB F.CLK_MON_STATUS_QUALIFIED 6

/-- The timekeeping domain is gated (Table 3.7): the counter stops. -/
def State.gateTk (s : State) : State :=
  let s := s.wrAll [(F.CLK_MUX_STATUS_GATED, 1, 1), (F.CLK_MUX_STATUS_INPUT, 1, 0), (F.CLK_MUX_STATUS_PENDING, 1, 0),
                    (F.CLK_BASE_STATUS_TK_ON_PATH, 0, 0), (F.TIME_STATUS_VALID, 0, 0)]
  ({ s with tm := { s.tm with running := false, pathC := 0 } }).disconnect 1

/-- TK_MUX goes to the TCXO path, each cycle scaled by (1 + c); with the path not qualified the domain is gated (R77,
R200, R201, R386). -/
def State.toPath (s : State) (c : Int) : State :=
  if s.pathQual then
    let s := s.wrAll [(F.CLK_MUX_STATUS_PENDING, 1, 2), (F.CLK_BASE_STATUS_TK_ON_PATH, 0, 1)]
    { s with tm := { s.tm with pathC := c } }
  else s.gateTk

/-! APLL0 and the base. -/

/-- APLL0 is unlocked: the bits that show it, the gating of the TDC domain and the outputs' loops (R200, Table 3.8). -/
def State.apll0Off (s : State) (lost : Bool) : State :=
  let s := s.wrAll [(F.APLL_STATUS_LOCKED, 0, 0), (F.CLK_BASE_STATUS_APLL0_LOCKED, 0, 0)]
  ((s.dropLoops lost).gateTdc.disconnect 0).syncShutters

/-- c of R201: the last offset of the TCXO against the OCXO, or 0 with the TCXO as base. -/
def State.pathOffset (s : State) : Int := if s.base == 2 then s.ck.offsetT else 0

/-- BASE_UNLOCK (R200–R202): a degraded interval begins; during a base move the loss is part of the move. -/
def State.baseUnlock (s : State) : State :=
  if !s.loopLocked 0 then s
  else if s.rdB F.CLK_BASE_STATUS_MOVING then
    s.wrAll [(F.APLL_STATUS_LOCKED, 0, 0), (F.CLK_BASE_STATUS_APLL0_LOCKED, 0, 0)]
  else
    let s := s.fault 26 (uAPLL 0) 0 0
    let s := ((s.wr F.SYNTH_DEG_STATUS_DEGRADED 0 1).bump F.SYNTH_DEG_STATUS_COUNT).bump F.APLL_COUNTS_UNLOCKS 0
    let s := { s with sy := { s.sy with degStart := some s.now, degEnd := none } }
    ((s.info 83 (uAPLL 0) 0 0 0).apll0Off true).toPath s.pathOffset

/-- DEGRADED_INTERVAL_END (R200): APLL0 has relocked, TK_MUX has returned, calibration has reconverged. -/
def State.degradedEnd (s : State) : State :=
  if s.rdB F.SYNTH_DEG_STATUS_DEGRADED && s.loopLocked 0 && !s.rdB F.CLK_BASE_STATUS_TK_ON_PATH &&
      !((List.range 28).any fun c => (s.chan c).rescaling) then
    let s := s.wrAll [(F.SYNTH_DEG_STATUS_DEGRADED, 0, 0), (F.SYNTH_DEG_LAST_LEN_US, 0, satTo 32 s.degradedUs)]
    ({ s with sy := { s.sy with degEnd := some s.now } }).info 83 (uAPLL 0) 0 0 0
  else s

/-- The input code of BASE_MUX for an oscillator (1 TCXO, 2 OCXO; Table 3.7): preferred is the OCXO if `WARM`. -/
def State.baseInput (s : State) (osc : Nat) : Nat := if (osc == 2) == s.ocxoWarm then 1 else 2

/-- BASE_MUX is asked for a switch to a qualified oscillator (R80). -/
def State.requestBase (s : State) (osc : Nat) : State :=
  let s := s.wr F.CLK_MUX_STATUS_PENDING 0 (s.baseInput osc)
  { s with ck := { s.ck with baseTarget := osc } }

/-- The base is gated: APLL0 unlocks (Table 3.7). -/
def State.gateBase (s : State) : State :=
  let s := s.baseUnlock
  let s := s.wrAll [(F.CLK_BASE_STATUS_BASE, 0, 0), (F.CLK_MUX_STATUS_INPUT, 0, 0), (F.CLK_MUX_STATUS_GATED, 0, 1),
                    (F.CLK_MUX_STATUS_PENDING, 0, 0), (F.CLK_BASE_STATUS_MOVING, 0, 0)]
  { s with ck := { s.ck with baseTarget := 0, moveTo := none } }

/-- With no base, whichever input first becomes usable is taken (R75, R76). -/
def State.takeUsable (s : State) : State :=
  if s.base ≠ 0 || s.ck.baseTarget ≠ 0 then s
  else if s.ocxoQual && s.ocxoWarm then s.requestBase 2
  else if s.tcxoQual then s.requestBase 1
  else s

/-- A word against the TCXO as a word against the OCXO, or the reverse, for the OCXO's offset c (R386). -/
def reRefer (toOcxo : Bool) (c y : Int) : Int :=
  if toOcxo then quotient 20 ((yOne + y) * yOne) (yOne + c) - yOne
  else quotient 21 ((yOne + y) * (yOne + c)) yOne - yOne

/-- The word and integrator of every DPLL are re-referred to the new base (R386). -/
def State.reReferAll (s : State) (toOcxo : Bool) (c : Int) : State :=
  State.forAll 16 (fun d t =>
    let t := t.setWord d (reRefer toOcxo c (t.dpll d).word)
    t.modDpll d fun p => { p with integ := reRefer toOcxo c p.integ }) s

/-- A base move starts (R77, R78, R386, Table 3.8), to the TCXO (1) or the OCXO (2). -/
def State.startMove (s : State) (target : Nat) : State :=
  let c := s.ck.offsetC
  let s := s.wrAll [(F.CLK_BASE_STATUS_MOVE_PENDING, 0, 0), (F.CLK_BASE_STATUS_MOVING, 0, 1)]
  let s := { s with ck := { s.ck with moveTo := some target } }
  let s := s.info 69 uPLATFORM 0 0 0
  let s := (s.reReferAll (target == 2) c).toPath (if target == 2 then c else 0)
  (s.apll0Off false).requestBase target

/-- BASE_MOVE (R77): a write of MOVE starts a pending move, and has no effect otherwise. -/
def State.baseMove (s : State) : State :=
  if s.rdB F.CLK_BASE_STATUS_MOVE_PENDING && !s.rdB F.CLK_BASE_STATUS_MOVING then s.startMove 2 else s

/-- A stage 1 start on an OCXO that is the base without a move leads to Stage 2 (R65, R76). -/
def State.directStage (s : State) : State :=
  if s.stage == 1 && s.base == 2 && s.ocxoWarm && s.loopLocked 0 && s.tm.started && s.ck.stageReq.isNone &&
      !s.rdB F.CLK_BASE_STATUS_MOVING then
    s.requestStage 2 (if s.rdB F.CLK_TCXO_STATUS_RETIRED then 3 else 2)
  else s

/-- BASE_MOVE_END (R77, R78): APLL0 has relocked on the new base; a move to the OCXO leads to Stage 2. -/
def State.baseMoveEnd (s : State) : State :=
  if s.rdB F.CLK_BASE_STATUS_MOVING && s.loopLocked 0 then
    let target := s.ck.moveTo
    let s := s.wr F.CLK_BASE_STATUS_MOVING 0 0
    let s := { s with ck := { s.ck with moveTo := none } }
    let s := s.info 69 uPLATFORM 0 0 0
    if target == some 2 && s.stage == 1 then s.requestStage 2 2 else s
  else s

/-- The OCXO leaves service as base (R78): Stage 1, with a move to the TCXO if that is qualified. -/
def State.ocxoLost (s : State) : State :=
  let s := s.when (2 ≤ s.stage) (·.requestStage 1 6)
  if s.tcxoQual then s.startMove 1 else s.gateBase

/-- The TCXO leaves service as base: the OCXO takes over if it is qualified and `WARM`, else the base is gated. -/
def State.tcxoLost (s : State) : State :=
  if s.ocxoQual && s.ocxoWarm then s.startMove 2 else s.gateBase

/-! Qualification of oscillators. -/

/-- Status bits of an oscillator: 0 AMPLITUDE, 1 QUALIFIED, 2 QUALIFYING, 3 RETIRED. -/
def State.oscBit (s : State) (osc b : Nat) : Bool :=
  if osc == 1 then bitOf (s.rd F.CLK_OCXO_STATUS_STATE) b
  else s.rdB ([F.CLK_TCXO_STATUS_AMPLITUDE, F.CLK_TCXO_STATUS_QUALIFIED, F.CLK_TCXO_STATUS_QUALIFYING].getD b
    F.CLK_TCXO_STATUS_RETIRED)

/-- One status bit of an oscillator set. -/
def State.setOscBit (s : State) (osc b : Nat) (v : Bool) : State :=
  if osc == 1 then
    let w := s.rd F.CLK_OCXO_STATUS_STATE
    s.wr F.CLK_OCXO_STATUS_STATE 0 (w - (w / 2 ^ b % 2) * 2 ^ b + b2n v * 2 ^ b)
  else s.wrB ([F.CLK_TCXO_STATUS_AMPLITUDE, F.CLK_TCXO_STATUS_QUALIFIED, F.CLK_TCXO_STATUS_QUALIFYING].getD b
    F.CLK_TCXO_STATUS_RETIRED) 0 v

/-- Monitor number and unit of an oscillator; LAST_FAIL and ATTEMPTS fields. -/
def oscMon (osc : Nat) : Nat := [1, 0, 6].getD osc 6
def oscUnit (osc : Nat) : Nat := if osc == 1 then uOCXO else uTCXO
def failField (osc : Nat) : Fld := if osc == 1 then F.CLK_OCXO_STATUS_LAST_FAIL else F.CLK_TCXO_STATUS_LAST_FAIL
def attemptField (osc : Nat) : Fld := if osc == 1 then F.CLK_OCXO_STATUS_ATTEMPTS else F.CLK_TCXO_STATUS_ATTEMPTS

/-- An attempt of an oscillator starts (R68); its reference is the TCXO once that is qualified. -/
def State.startAttempt (s : State) (osc : Nat) : State :=
  let s := s.setOscBit osc 2 true
  { s with ck := { s.ck with tripDuring := s.ck.tripDuring.filter (· != osc)
                             attemptTcxo := if osc == 1 then s.tcxoQual else s.ck.attemptTcxo } }

/-- The OCXO is no longer `WARM`; a pending move lapses. -/
def State.notWarm (s : State) : State :=
  s.wrAll [(F.CLK_OCXO_STATUS_WARM, 0, 0), (F.CLK_OCXO_STATUS_FREQ_STABLE, 0, 0), (F.CLK_OCXO_WARM_TIME_TIME, 0, 0),
           (F.CLK_BASE_STATUS_MOVE_PENDING, 0, 0)]

/-- The TCXO path loses its qualification; the timekeeping domain that runs on it is gated. -/
def State.pathLost (s : State) : State :=
  let s := s.wr F.CLK_MON_STATUS_QUALIFIED 6 0
  s.when (s.rdB F.CLK_BASE_STATUS_TK_ON_PATH) (·.gateTk)

/-- An oscillator loses its qualification (R68, R69, R75): the path and the attempts that depend on it restart. -/
def State.disqualify (s : State) (osc : Nat) : State :=
  let s := (s.setOscBit osc 1 false).wr F.CLK_MON_STATUS_QUALIFIED (oscMon osc) 0
  if osc == 1 then s.notWarm
  else
    let s := (s.wr F.CLK_PILOT_FREQ_HZ 0 0).pathLost
    if s.ck.attemptTcxo && s.oscBit 1 2 then s.startAttempt 1 else s

/-- An oscillator is retired (R69). -/
def State.retireOsc (s : State) (osc : Nat) : State :=
  let s := ((s.setOscBit osc 3 true).setOscBit osc 2 false).markRetired (oscUnit osc)
  s.fault 9 (oscUnit osc) (s.rd (failField osc)) 0

/-- An attempt fails (R69): LAST_FAIL, ATTEMPTS, and a new attempt at once; the third in a row retires the oscillator.
The TCXO path, which no status register counts, only starts again. -/
def State.attemptFails (s : State) (osc why : Nat) : State :=
  if osc == 2 then { s with ck := { s.ck with tripDuring := s.ck.tripDuring.filter (· != 2) } }
  else
    let s := s.wr (failField osc) 0 why
    let n := s.rd (attemptField osc) + 1
    let s := s.wr (attemptField osc) 0 (min n 3)
    if 3 ≤ n then s.retireOsc osc else s.startAttempt osc

/-- An attempt passes (R68, R69): source 68; the base may take the oscillator. -/
def State.attemptPasses (s : State) (osc : Nat) : State :=
  let s := s.wr F.CLK_MON_STATUS_QUALIFIED (oscMon osc) 1
  let s := if osc == 2 then s else ((s.setOscBit osc 1 true).setOscBit osc 2 false).wr (attemptField osc) 0 0
  let s := s.when (osc == 0) (·.backInService uTCXO)
  (s.info 68 (oscUnit osc) 0 0 0).takeUsable

/-- The accepted reference counts of Table 3.4. -/
def State.countWindow (s : State) (osc : Nat) : Nat × Nat :=
  if osc == 0 then (29013, 39253) else if osc == 2 then (5032, 5034)
  else if s.ck.attemptTcxo then (314567, 314579) else (139264, 188416)

/-- An attempt of the oscillator is in progress. -/
def State.attempting (s : State) (osc : Nat) : Bool :=
  if osc == 2 then s.tcxoQual && !s.pathQual else s.oscBit osc 2

/-- OSC_COUNT_DONE (R68): 65,536 candidate cycles have been counted while the reference made `count`. -/
def State.oscCountDone (s : State) (osc count : Nat) : State :=
  if !s.attempting osc then s
  else
    let s := if osc == 2 then s else s.setOscBit osc 0 true
    let w := s.countWindow osc
    if s.ck.tripDuring.contains osc then s.attemptFails osc 4
    else if count < w.1 then s.attemptFails osc 2
    else if w.2 < count then s.attemptFails osc 3
    else s.attemptPasses osc

/-- OSC_AMPLITUDE_TIMEOUT (R68): no amplitude within 10 ms of the attempt's start. -/
def State.oscAmplitudeTimeout (s : State) (osc : Nat) : State :=
  if osc < 2 && s.oscBit osc 2 then (s.setOscBit osc 0 false).attemptFails osc 1 else s

/-- OCXO_TEMP_SETTLED (R70). -/
def State.ocxoTempSettled (s : State) : State := s.wr F.CLK_OCXO_STATUS_TEMP_SETTLED 0 1

/-- OCXO_WARM (R70, R76, R77): the criteria are met `tenths` of a second after rails good. With the TCXO as base the move
is pending; with none, the OCXO becomes the base directly. -/
def State.ocxoBecomesWarm (s : State) (tenths : Nat) : State :=
  if s.ocxoQual && s.rdB F.CLK_OCXO_STATUS_TEMP_SETTLED && !s.ocxoWarm then
    let s := (s.wrAll [(F.CLK_OCXO_STATUS_WARM, 0, 1), (F.CLK_OCXO_WARM_TIME_TIME, 0, satTo 32 tenths)]).lifeBump 8 1
    let s := s.when (!s.rdB F.CLK_TCXO_STATUS_RETIRED) (·.wr F.CLK_OCXO_STATUS_FREQ_STABLE 0 1)
    let s := s.backInService uOCXO
    if s.base == 1 && !s.rdB F.CLK_BASE_STATUS_MOVING then s.wr F.CLK_BASE_STATUS_MOVE_PENDING 0 1
    else s.takeUsable
  else s

/-- OCXO_WARM_TIMEOUT (R71): source 10; the module goes on waiting. -/
def State.ocxoWarmTimeout (s : State) : State :=
  if s.ocxoWarm then s else ({ s with ck := { s.ck with warmRaised := true } }).fault 10 uOCXO 0 0

/-! Clock monitors. -/

/-- The unit a monitor's trip names (Table 14.1). -/
def monUnit (n : Nat) : Nat := [uOCXO, uTCXO, uMODULE, uMODULE, uAPLL 0, uAPLL 0, uTCXO].getD n uPCIE

/-- The reference a monitor is checked against, code of AGAINST (Table 3.6, R73). -/
def State.monAgainst (s : State) (n : Nat) : Nat :=
  if n == 1 then (if s.ocxoWarm then 2 else 0)
  else if n == 4 || n == 5 then 3
  else if s.tcxoQual then 1 else 0

/-- The reference is there to be used: monitors 2, 3 and 6 have only the TCXO, 4 and 5 only the base. -/
def State.monJudged (s : State) (n : Nat) : Bool :=
  if n == 2 || n == 3 || n == 6 then s.tcxoQual else if n == 4 || n == 5 then s.base != 0 else true

/-- TOL_PPM in use, in 10⁻²¹: ±15 % against the pilot and for the pilot itself. -/
def State.monTol (s : State) (n : Nat) : Int :=
  if n == 2 || s.monAgainst n == 0 then 150000000000000000000
  else (clampInt 1 1000 (s.rd F.CLK_MON_CFG_TOL_PPM n)) * 1000000000000000

/-- What a trip of monitor n does to the clock's users (Tables 3.6 and 3.7, R74, R75, R78). -/
def State.monFallback (s : State) (n : Nat) : State :=
  if n == 0 then
    let was := s.base == 2
    let s := s.disqualify 1
    let s := if s.oscBit 1 3 then s
      else if s.oscBit 1 2 then { s with ck := { s.ck with tripDuring := 1 :: s.ck.tripDuring } }
      else s.startAttempt 1
    if was then
      let s := s.when (!s.tcxoQual && s.oscBit 0 2) (·.startAttempt 0)
      s.ocxoLost
    else s
  else if n == 1 then
    let was := s.base == 1
    let s := s.disqualify 0
    let s := if s.oscBit 0 3 then s
      else if s.oscBit 0 2 then { s with ck := { s.ck with tripDuring := 0 :: s.ck.tripDuring } }
      else s.startAttempt 0
    if was then
      let s := s.when (!(s.ocxoQual && s.ocxoWarm) && s.oscBit 1 2) (·.startAttempt 1)
      s.tcxoLost
    else s
  else if n == 3 then s.wr F.PORCH_STATUS_CRYSTAL_OK 0 0
  else if n == 4 then (s.gateTdc.disconnect 0).wr F.CLK_MON_STATUS_GATED 4 1
  else if n == 5 then
    if s.rdB F.CLK_BASE_STATUS_TK_ON_PATH then s else s.toPath s.pathOffset
  else if n == 6 then
    let s := s.pathLost
    if s.attempting 2 then { s with ck := { s.ck with tripDuring := 2 :: s.ck.tripDuring.filter (· != 2) } } else s
  else if n == 7 then (s.wr F.CLK_MON_STATUS_GATED 7 1).disconnect 3
  else s

/-- A monitor trips (R74): source 8 with the monitor and 0 for missing edges or 1 for tolerance. -/
def State.monTrip (s : State) (n kind : Nat) : State :=
  let s := s.wr F.CLK_MON_STATUS_TRIPPED n 1
  let s := (s.bump F.CLK_MON_TRIPS_COUNT n).fault 8 (monUnit n) n kind
  s.monFallback n

/-- CLOCK_MON_MISS (R74): no edge for MISS nominal periods. -/
def State.clockMonMiss (s : State) (n : Nat) : State := (s.wr F.CLK_MON_STATUS_ACTIVE n 0).monTrip n 0

/-- CLOCK_MON_WINDOW (R72–R74): a 1 ms window of monitor n ends with a measured offset in 10⁻²¹. -/
def State.clockMonWindow (s : State) (n : Nat) (offset : Int) : State :=
  let s := s.wrAll [(F.CLK_MON_STATUS_ACTIVE, n, 1), (F.CLK_MON_STATUS_AGAINST, n, s.monAgainst n)]
  if !s.monJudged n then s
  else
    let s := s.wrI F.CLK_MON_OFFSET_OFFSET n (quotient 22 offset 1000000000000)
    let s := s.when (n == 2) fun t =>
      t.wr F.CLK_PILOT_FREQ_HZ 0 (satTo 25 ((25000000 * (yOne + offset)) / yOne).toNat)
    if s.monTol n < |offset| then s.monTrip n 1
    else
      let s := s.wrAll [(F.CLK_MON_STATUS_TRIPPED, n, 0), (F.CLK_MON_STATUS_GATED, n, 0)]
      let s := s.when (n == 3) (·.wr F.PORCH_STATUS_CRYSTAL_OK 0 1)
      if n == 0 && s.monAgainst 0 == 1 then { s with ck := { s.ck with offsetC := offset } }
      else if n == 1 && s.monAgainst 1 == 2 then { s with ck := { s.ck with offsetT := offset } }
      else s

/-! Muxes. -/

/-- MUX_SWITCH (R80): the pending switch of mux m completes after `len` tenths of a nanosecond. -/
def State.muxSwitch (s : State) (m len : Nat) : State :=
  let p := s.rd F.CLK_MUX_STATUS_PENDING m
  if p = 0 then s
  else
    let s := s.wrAll [(F.CLK_MUX_STATUS_INPUT, m, p), (F.CLK_MUX_STATUS_PENDING, m, 0), (F.CLK_MUX_STATUS_GATED, m, 0),
                      (F.CLK_MUX_STATUS_STALLED, m, 0), (F.CLK_MUX_LAST_LEN, m, min len 65534)]
    let s := (s.bump F.CLK_MUX_SWITCHES_COUNT m).info 65 uPLATFORM 0 0 0
    if m == 0 then
      let s := s.wr F.CLK_BASE_STATUS_BASE 0 s.ck.baseTarget
      { s with ck := { s.ck with baseTarget := 0 } }
    else if p == 1 then
      let s := s.wr F.CLK_BASE_STATUS_TK_ON_PATH 0 0
      { s with tm := { s.tm with pathC := 0 } }
    else s

/-- MUX_FORCED (R81): the hang detector forces the old side's release; the switch goes on. -/
def State.muxForced (s : State) (m : Nat) : State :=
  if s.rd F.CLK_MUX_STATUS_PENDING m = 0 then s
  else (s.bump F.CLK_MUX_FORCED_COUNT m).info 66 uPLATFORM 0 0 0

/-- MUX_STALL (R82): a switch that has not completed is abandoned and its domain left gated; the next request goes to
the next usable input. -/
def State.muxStall (s : State) (m : Nat) : State :=
  if s.rd F.CLK_MUX_STATUS_PENDING m = 0 then s
  else
    let s := s.wrAll [(F.CLK_MUX_STATUS_PENDING, m, 0), (F.CLK_MUX_STATUS_INPUT, m, 0), (F.CLK_MUX_STATUS_GATED, m, 1),
                      (F.CLK_MUX_STATUS_STALLED, m, 1), (F.CLK_MUX_LAST_LEN, m, 0xFFFF)]
    let s := s.fault 11 uPLATFORM m 0
    if m == 0 then
      let tried := s.ck.baseTarget
      let s := { s.wr F.CLK_BASE_STATUS_BASE 0 0 with ck := { s.ck with baseTarget := 0 } }
      if tried == 2 && s.tcxoQual then s.requestBase 1
      else if tried == 1 && s.ocxoQual && s.ocxoWarm then s.requestBase 2
      else s
    else s.gateTk

/-- APLL_LOCK (R187): a loop locks. APLL0 needs a base; with it the TDC domain is ungated and TK_MUX asked back. -/
def State.apllLock (s : State) (a : Nat) : State :=
  if a ≠ 0 then s.outLoopLocks a
  else if s.base = 0 || s.loopLocked 0 then s
  else
    let s := s.wrAll [(F.APLL_STATUS_LOCKED, 0, 1), (F.CLK_BASE_STATUS_APLL0_LOCKED, 0, 1),
                      (F.CLK_MUX_STATUS_PENDING, 1, 1), (F.CLK_MON_STATUS_GATED, 4, 0)]
    let s := { s with ck := { s.ck with apll0Ever := true } }
    s.ungateTdc.directStage

/-- STAGE3_HOLDOFF_END (R65): the time DPLL has been `LOCKED` to a traceable root for HOLDOFF_S. -/
def State.stage3HoldoffEnd (s : State) : State :=
  if s.stage == 2 && s.ck.holdoffRuns then s.requestStage 3 4 else s

end Sys2Proof.Machine
end

