-- ==== Sys2Proof/Machine/Hold.lean ====
section
/-! DEFINITION. Holdover learning, the holdover model and its fit, the holdover word and the budget (R173–R180, R387).
Seconds of learning are numbered by the model epochs that occur, so that a time step neither lengthens nor shortens them
(R14). -/

namespace Sys2Proof.Machine

/-- A rational the spec states and does not round, as one of its two neighbouring integers (log 8). -/
def roundQ (tag : Nat) (q : ℚ) : Int := quotient tag q.num q.den

/-- The root of a rational as one of its two neighbouring integers (log 8). -/
def rootQ (tag : Nat) (q : ℚ) : Int :=
  let r : Int := Nat.sqrt (q.num.toNat / q.den)
  if (r * r : ℚ) = q then r else if Config.roundUp tag q.num q.den then r + 1 else r

/-! Sums over learning seconds. -/

/-- One more learning second. -/
def LearnSum.add (a : LearnSum) (x : LearnSec) : LearnSum :=
  { n := a.n + 1, y := a.y + x.integ, theta := a.theta + x.theta, t2 := a.t2 + (2 * (x.sec : Int) - 1) }

/-- The sums of a list of learning seconds. -/
def LearnSum.of (l : List LearnSec) : LearnSum := l.foldl LearnSum.add {}

/-- Mean I (10⁻²¹), mean θ (°C), mean time (s). -/
def LearnSum.yMean (a : LearnSum) : ℚ := (a.y : ℚ) / a.n
def LearnSum.thMean (a : LearnSum) : ℚ := (a.theta : ℚ) / (16 * a.n)
def LearnSum.tMean (a : LearnSum) : ℚ := (a.t2 : ℚ) / (2 * a.n)

/-- R173: a point is valid with at least 2,700 learning seconds. -/
def HourPoint.valid (p : HourPoint) : Bool := 2700 ≤ p.sums.n

/-! The factory model (R387, Table 7.10). -/

/-- The fallback values of Table 7.10. -/
def factoryFallback : HoldCoef :=
  { a1 := 0, ud := 1160000, c := 0, uc := 20000000000, sh := 10000000000 }

/-- FACTORY instance 4, if it is there in version 1. -/
def State.factoryRecord (s : State) : Option HoldCoef :=
  match recType rtFACTORY with
  | none => none
  | some r =>
    match s.usableCopy r 4 with
    | none => none
    | some (x, _) =>
      if x.payload.length < 40 then none
      else
        let f := fun k => toSigned 64 (beNat ((x.payload.drop k).take 8))
        some { a1 := f 0, ud := f 8, c := f 16, uc := f 24, sh := f 32 }

/-- The factory model in use. -/
def State.factoryModel (s : State) : HoldCoef := s.factoryRecord.getD factoryFallback

/-! The fit (R174). -/

/-- FIT_H in use: 24–2,048. -/
def State.fitHours (s : State) (d : Nat) : Nat := max 24 (min 2048 (s.rd F.HOLD_CFG_FIT_H d))

/-- The valid points of the fit window, newest first. -/
def State.fitPoints (s : State) (d : Nat) : List HourPoint :=
  (s.dpll d).history.filter fun p => p.valid && s.ep.models < p.stop + 3600 * s.fitHours d

/-- The valid points of the whole history. -/
def State.histPoints (s : State) (d : Nat) : Nat := ((s.dpll d).history.filter (·.valid)).length

/-- MODEL codes (Table 7.6). -/
def mdNONE : Nat := 0
def mdOFFSET : Nat := 1
def mdDRIFT : Nat := 2
def mdLEARNED : Nat := 3
def mdRESTORED : Nat := 4

/-- The model state of a DPLL (Table 7.6). -/
def State.modelOf (s : State) (d : Nat) : Nat :=
  let p := s.dpll d
  if p.entry.isNone then mdNONE
  else if p.restored.isSome && p.newPoints < 72 then mdRESTORED
  else if s.histPoints d < 24 then mdOFFSET
  else if s.histPoints d < 72 then mdDRIFT
  else mdLEARNED

/-- "Model usable" (R167). -/
def State.modelUsable (s : State) (d : Nat) : Bool := s.modelOf d != mdNONE

/-- The points of a list span at least 1.0 °C. -/
def spansDegree (l : List HourPoint) : Bool :=
  l.any fun p => l.any fun q => 1 ≤ p.sums.thMean - q.sums.thMean

/-- Sums of a least-squares fit over centred coordinates: n, Σt², Σtθ, Σθ², Σty, Σθy, Σy². -/
structure FitSums where
  n : ℚ
  tt : ℚ
  tx : ℚ
  xx : ℚ
  ty : ℚ
  xy : ℚ
  yy : ℚ

/-- The sums over points (t, θ, y), taken about their means. -/
def fitSums (l : List (ℚ × ℚ × ℚ)) : FitSums :=
  let n : ℚ := l.length
  let m := fun f : ℚ × ℚ × ℚ → ℚ => (l.map f).sum / n
  let c := l.map fun p => (p.1 - m (·.1), p.2.1 - m (·.2.1), p.2.2 - m (·.2.2))
  let s := fun f : ℚ × ℚ × ℚ → ℚ => (c.map f).sum
  { n := n, tt := s fun p => p.1 * p.1, tx := s fun p => p.1 * p.2.1, xx := s fun p => p.2.1 * p.2.1,
    ty := s fun p => p.1 * p.2.2, xy := s fun p => p.2.1 * p.2.2, yy := s fun p => p.2.2 * p.2.2 }

/-- The fit with both terms: a1, c, their standard uncertainties, and the RMS residual. -/
def fitBoth (g : FitSums) : HoldCoef :=
  let det := g.tt * g.xx - g.tx * g.tx
  let a := (g.ty * g.xx - g.xy * g.tx) / det
  let c := (g.xy * g.tt - g.ty * g.tx) / det
  let rss := g.yy - a * g.ty - c * g.xy
  let s2 := rss / (g.n - 3)
  { a1 := roundQ 30 a, ud := rootQ 31 (s2 * g.xx / det), c := roundQ 32 c, uc := rootQ 33 (s2 * g.tt / det),
    sh := rootQ 34 (rss / g.n) }

/-- The fit of a1 alone, c being the factory value. -/
def fitDrift (g : FitSums) (factory : HoldCoef) : HoldCoef :=
  let cf : ℚ := factory.c
  let ty := g.ty - cf * g.tx
  let yy := g.yy - 2 * cf * g.xy + cf * cf * g.xx
  let a := ty / g.tt
  let rss := yy - a * ty
  { a1 := roundQ 35 a, ud := rootQ 36 (rss / (g.n - 2) / g.tt), c := factory.c, uc := factory.uc,
    sh := rootQ 37 (rss / g.n) }

/-- A fit at an hourly point (R174, Table 7.6): the coefficients and whether c is the factory value. -/
def State.fitNow (s : State) (d : Nat) : Option (HoldCoef × Bool) :=
  let l := s.fitPoints d
  if l.length < 24 then none
  else
    let g := fitSums (l.map fun p => (p.sums.tMean, p.sums.thMean, p.sums.yMean))
    if 72 ≤ s.histPoints d && spansDegree l && g.tt * g.xx - g.tx * g.tx ≠ 0 then some (fitBoth g, false)
    else some (fitDrift g s.factoryModel, true)

/-- The coefficients in force for the model's state (Table 7.6). -/
def State.coefOf (s : State) (d : Nat) : HoldCoef :=
  let p := s.dpll d
  let f := s.factoryModel
  let fit := p.fit.getD f
  let m := s.modelOf d
  if m == mdRESTORED then
    match p.restored with
    | some (r, _) => { r with ud := 2 * r.ud, uc := 2 * r.uc, sh := 2 * r.sh }
    | none => f
  else if m == mdDRIFT then { fit with c := f.c, uc := f.uc }
  else if m == mdLEARNED then fit
  else { f with a1 := 0 }

/-- The HOLD registers that show the model (R183). -/
def State.noteModel (s : State) (d : Nat) : State :=
  let m := s.modelOf d
  s.wrAll [(F.HOLD_STATUS_MODEL, d, m), (F.HOLD_STATUS_ENTRY_VALID, d, b2n (s.dpll d).entry.isSome),
           (F.HOLD_STATUS_HIST_POINTS, d, min 2048 (s.histPoints d)),
           (F.HOLD_STATUS_POINTS, d, min 2048 (s.fitPoints d).length),
           (F.HOLD_STATUS_C_FACTORY, d, b2n (m == mdOFFSET || m == mdDRIFT || (m == mdLEARNED && (s.dpll d).cFactory)))]

/-! The entry window (R173). -/

/-- The learning seconds of the entry window: the last ENTRY_S that end at least GUARD_S before the present second. -/
def State.entrySecs (s : State) (d : Nat) : List LearnSec :=
  let k := s.rd F.DP_STATUS_PROFILE d
  let guard_ := s.rd F.PROF_ENTRY_GUARD_S k
  let n := max 60 (s.rd F.PROF_ENTRY_ENTRY_S k)
  ((s.dpll d).window.filter fun x => x.sec + guard_ ≤ s.ep.models).take n

/-- u_f of the entry window (R173): the sample standard deviation of I over √n, floored at UF_FLOOR. -/
def State.entryUf (s : State) (d : Nat) (l : List LearnSec) : Int :=
  let n : ℚ := l.length
  let sum : ℚ := (l.map fun x => (x.integ : ℚ)).sum
  let sq : ℚ := (l.map fun x => (x.integ : ℚ) * x.integ).sum
  max (((max 1 (s.rd F.HOLD_CFG_UF_FLOOR d) : Nat) : Int) * 100000000)
    (rootQ 38 ((n * sq - sum * sum) / (n * n * (n - 1))))

/-- The entry window now, if it is valid: at least 60 learning seconds. -/
def State.entryWindow (s : State) (d : Nat) : Option EntryWin :=
  let l := s.entrySecs d
  if l.length < 60 then none else some { sums := LearnSum.of l, uf := s.entryUf d l }

/-! Episodes, the word and the budget. -/

/-- The latest sample of the OCXO case temperature, in 1/16 °C (R173, R176). -/
def State.theta (s : State) : Int := s.rdI F.POWER_TEMP_OCXO_TEMP

/-- y_hold (R175) at the present model epoch, with the entry window and coefficients of an episode. -/
def State.holdWord (s : State) (e : Episode) : Option Int :=
  e.entry.map fun w =>
    roundQ 39 (w.sums.yMean + e.coef.a1 * ((s.ep.models : ℚ) - w.sums.tMean) +
      e.coef.c * ((s.theta : ℚ) / 16 - w.sums.thMean))

/-- The terms of the budget (R179): c0, c1 and c2 in 10⁻²¹ s, and t in s. -/
structure Budget where
  c0 : ℚ
  c1 : ℚ
  c2 : ℚ
  t : ℚ

/-- Budget and TE0 of a DPLL in 10⁻²¹ s. -/
def State.budgetOf (s : State) (d : Nat) : ℚ := (min 100000 (s.rd F.HOLD_BUDGET_BUDGET_NS d) : Nat) * 1000000000000
def State.te0Of (s : State) (d : Nat) : ℚ := (s.rd F.HOLD_TE0_TE0_NS d : ℚ) * 1000000000000

/-- The terms at the present model epoch for an episode with its entry window (R179). -/
def State.budgetTerms (s : State) (d : Nat) (e : Episode) (w : EntryWin) : Budget :=
  let k : ℚ := (max 1 (s.rd F.HOLD_CFG_COVER d) : Nat) / 2
  let t : ℚ := ((s.now : ℚ) - e.start) / unitsPerSec
  let dth : ℚ := |(s.theta : ℚ) / 16 - w.sums.thMean|
  let area : ℚ := (e.area : ℚ) / (16 * w.sums.n)
  { c2 := k * e.coef.ud / 2, c1 := k * w.uf + e.coef.sh + k * e.coef.uc * dth,
    c0 := s.te0Of d + k * e.coef.uc * (area - dth * t), t := t }

/-- The crossing x after the episode's start, in FRACTION units: the floor, and whether it is exact (R179). -/
def crossingOf (b : Budget) (budget : ℚ) : Option (Int × Bool) :=
  if budget ≤ b.c0 then some (0, true)
  else if 0 < b.c2 then
    let a : ℚ := unitsPerSec / (2 * b.c2)
    let d : ℚ := b.c1 * b.c1 + 4 * b.c2 * (budget - b.c0)
    let q1 := a * a * d
    let q2 := a * b.c1
    let r : Int := Nat.sqrt ((q1 * q2.den * q2.den).floor.toNat)
    let lo := (r - q2.num) / q2.den
    some (lo, decide (((lo : ℚ) + q2) * ((lo : ℚ) + q2) = q1))
  else if 0 < b.c1 then
    let x := (budget - b.c0) / b.c1 * unitsPerSec
    some (x.floor, decide (x.den = 1))
  else none

/-- The crossing is published: its T96 time and HOLD_REMAIN (R179). The second component is the time left in FRACTION
units, rounded up. -/
def State.publishCrossing (s : State) (d : Nat) (start : Nat) (b : Budget) : State × Option Int :=
  match crossingOf b (s.budgetOf d) with
  | none => ((s.modDpll d fun p => { p with crossing := none }).wr F.HOLD_REMAIN_SECONDS d 0xFFFFFFFF, none)
  | some (lo, exact_) =>
    let x := if exact_ then lo else if Config.roundUp 40 lo start then lo + 1 else lo
    let left := max 0 (lo - roundQ 41 (b.t * unitsPerSec))
    let secs := (left / unitsPerSec).toNat
    let s := s.modDpll d fun p => { p with crossing := some ((start : Int) + x).toNat }
    (s.wr F.HOLD_REMAIN_SECONDS d (if secs < 2 ^ 32 - 1 then secs else 0xFFFFFFFF),
     some (left + if exact_ then 0 else 1))

/-- OUT_OF_SPEC is set and source 22 raised (R180). -/
def State.outOfSpec (s : State) (d te : Nat) : State :=
  if s.rdB F.HOLD_STATUS_OUT_OF_SPEC d then s
  else (s.wr F.HOLD_STATUS_OUT_OF_SPEC d 1).fault 22 (uDP d) te 0

/-- A holdover episode starts (R167, R175, R180). -/
def State.startEpisode (s : State) (d : Nat) : State :=
  if (s.dpll d).episode.isSome then s
  else
    let p := s.dpll d
    let s := if d = s.timeDpll then { s.lifeBump 6 1 with at_ := { (s.lifeBump 6 1).at_ with hourHeld := 0 } } else s
    let s := s.modDpll d fun p =>
      { p with episode := some { start := s.now, entry := p.entry, coef := s.coefOf d, area := 0 },
               lastStart := some s.now }
    let s := (s.wrAll [(F.HOLD_STATUS_IN_HOLDOVER, d, 1), (F.HOLD_ELAPSED_SECONDS, d, 0)]).bump
      F.DP_COUNTS_HOLDOVERS d
    if s.budgetOf d ≤ s.te0Of d then
      ((s.modDpll d fun q => { q with crossing := some s.now }).wr F.HOLD_REMAIN_SECONDS d 0).outOfSpec d
        (s.rd F.HOLD_TE0_TE0_NS d)
    else if p.entry.isNone then s.wr F.HOLD_REMAIN_SECONDS d 0xFFFFFFFF else s

/-- The whole seconds of the time DPLL's episode not yet counted go into HOLDOVER_SECONDS (Table 15.5). -/
def State.holdoverSeconds (s : State) (e : Episode) : State :=
  let n := (s.now - e.start) / unitsPerSec
  let s := s.lifeBump 7 (n - s.at_.hourHeld)
  { s with at_ := { s.at_ with hourHeld := n } }

/-- An episode ends (R167, R180). -/
def State.endEpisode (s : State) (d : Nat) : State :=
  match (s.dpll d).episode with
  | none => s
  | some e =>
    let s := s.when (d == s.timeDpll) (·.holdoverSeconds e)
    (s.modDpll d fun p => { p with episode := none }).wrAll
      [(F.HOLD_STATUS_IN_HOLDOVER, d, 0), (F.HOLD_STATUS_OUT_OF_SPEC, d, 0), (F.HOLD_STATUS_WARNED, d, 0),
       (F.HOLD_TE_PRED_TE_NS, d, 0), (F.HOLD_ELAPSED_SECONDS, d, satTo 32 ((s.now - e.start) / unitsPerSec))]

/-- One model epoch of an episode, or the prediction for one that would start now (R179, R180). -/
def State.budgetEpoch (s : State) (d : Nat) : State :=
  match (s.dpll d).episode with
  | some e =>
    let s := s.wr F.HOLD_ELAPSED_SECONDS d (satTo 32 ((s.now - e.start) / unitsPerSec))
    match e.entry with
    | none => s.wr F.HOLD_REMAIN_SECONDS d (if s.budgetOf d ≤ s.te0Of d then 0 else 0xFFFFFFFF)
    | some w =>
      let e := { e with area := e.area + (s.theta * w.sums.n - w.sums.theta).natAbs }
      let s := s.modDpll d fun p => { p with episode := some e }
      let b := s.budgetTerms d e w
      let te := b.c0 + b.c1 * b.t + b.c2 * b.t * b.t
      let teNs := satTo 32 (roundQ 42 (te / 1000000000000)).toNat
      let s := s.wr F.HOLD_TE_PRED_TE_NS d teNs
      let p := s.publishCrossing d e.start b
      let s := p.1
      let warn := s.rd F.HOLD_BUDGET_WARN_MIN d
      let soon := match p.2 with
        | some left => left ≤ (warn * 60 * unitsPerSec : Nat)
        | none => false
      let s := if warn ≠ 0 && soon && !s.rdB F.HOLD_STATUS_WARNED d then
          (s.wr F.HOLD_STATUS_WARNED d 1).infoAt s.now 79 (uDP d) (t96 ((s.dpll d).crossing.getD 0))
        else s
      if s.budgetOf d ≤ te then s.outOfSpec d teNs else s
  | none =>
    match (s.dpll d).entry with
    | none => s.wr F.HOLD_REMAIN_SECONDS d 0xFFFFFFFF
    | some w =>
      let e : Episode := { start := s.now, entry := some w, coef := s.coefOf d,
                           area := (s.theta * w.sums.n - w.sums.theta).natAbs }
      (s.publishCrossing d s.now (s.budgetTerms d e w)).1

/-! Learning. -/

/-- A learning second at a model epoch (R173), and the entry window it leaves. The stores keep what the largest ENTRY_S
and GUARD_S can ask for. -/
def State.learnSecond (s : State) (d : Nat) : State :=
  let p := s.dpll d
  let mean := if p.iN = 0 then p.integ else quotient 43 p.iSum p.iN
  let x : LearnSec := { sec := s.ep.models, integ := mean, theta := s.theta }
  let s := s.modDpll d fun p =>
    if p.learnOk then { p with window := (x :: p.window).take 65790, hourSecs := x :: p.hourSecs } else p
  let s := s.modDpll d fun p => { p with iSum := 0, iN := 0 }
  match s.entryWindow d with
  | some w => s.modDpll d fun p => { p with entry := some w }
  | none => s

/-- The conditions of a learning second hold now (R173). -/
def State.learnsNow (s : State) (d : Nat) : Bool :=
  s.rdB F.DP_CFG_LEARN d && s.rd F.DP_STATUS_STATE d == 3 && !s.rdB F.DP_STATUS_SLEWING d &&
    s.inService (uDP d) && match (s.dpll d).recipe with
      | some r => !r.suspect
      | none => false

/-- Whatever ends the conditions spoils the present second. -/
def State.spoilLearning (s : State) (d : Nat) : State :=
  if s.learnsNow d then s else s.modDpll d fun p => { p with learnOk := false }

/-- The holdover work of one DPLL at a model epoch (R173, R175, R179): learning, the holdover word, the budget. While
LOCKSTEP_HELD = 1 the word is not recomputed (R181). -/
def State.holdEpoch (s : State) (d : Nat) : State :=
  let s := (s.learnSecond d).noteModel d
  let s := s.modDpll d fun p => { p with learnOk := s.learnsNow d }
  let s := match (s.dpll d).episode with
    | some e =>
      if s.rd F.DP_STATUS_STATE d == 6 && s.inService (uDP d) && !s.rdB F.DP_STATUS_LOCKSTEP_HELD d then
        match s.holdWord e with
        | some y => (s.setWord d y).deliver d
        | none => s
      else s
    | none => s
  s.budgetEpoch d

/-- An hourly point (R173, R174): the hour's learning seconds become a point, and the model is refitted. -/
def State.hourPoint (s : State) (d : Nat) : State :=
  let pt : HourPoint := { stop := s.ep.models, sums := LearnSum.of (s.dpll d).hourSecs }
  let s := s.modDpll d fun p =>
    { p with hourSecs := [], history := (pt :: p.history).take 2048, newPoints := p.newPoints + b2n pt.valid }
  let s := match s.fitNow d with
    | some (c, factory) => s.modDpll d fun p => { p with fit := some c, cFactory := factory }
    | none => s
  s.noteModel d

/-! The holdover summary (R177, R355). The spec names its content and not its bytes: the layout is log 37. -/

/-- Serial number of the OCXO as the module's identity gives it; none while the identity record is missing or does not match
(R177, R376). -/
def State.ocxoSerial (s : State) : Option (List Nat) :=
  if s.rdB F.IDENT_RECORD_FOUND && s.rdB F.IDENT_RECORD_MATCH then
    some ((List.range 4).flatMap fun w => beBytes 4 (s.rd F.IDENT_OCXO_SN_CHARS w))
  else none

/-- The summary of a DPLL: a1, c, u_d, u_c, s_h, the count of valid points, the OCXO's serial number. In `RESTORED` the
restored values and count stand as they were restored. -/
def State.summaryPayload (s : State) (d : Nat) : List Nat :=
  let x := match s.modelOf d == mdRESTORED, (s.dpll d).restored with
    | true, some r => r
    | _, _ => (s.coefOf d, s.histPoints d)
  ([x.1.a1, x.1.c, x.1.ud, x.1.uc, x.1.sh].flatMap fun v => beBytes 8 (ofSigned 64 v)) ++ beBytes 4 x.2 ++
    ((List.range 4).flatMap fun w => beBytes 4 (s.rd F.IDENT_OCXO_SN_CHARS w))

/-- The summary of a DPLL with LEARN = 1 is committed. -/
def State.commitSummary (s : State) (d : Nat) : State :=
  s.when (s.rdB F.DP_CFG_LEARN d) fun t => t.writeSlot rtHOLD_SUMMARY d (t.summaryPayload d)

/-- The newest valid summary of a DPLL whose serial number is the module's. -/
def State.newestSummary (s : State) (d : Nat) : Option RecCopy :=
  match recType rtHOLD_SUMMARY, s.ocxoSerial with
  | some r, some sn =>
    (((List.range 8).filterMap fun k => s.readSlot r d k).filter fun c => (c.payload.drop 44).take 16 == sn).foldl
      (fun best x => match best with
        | none => some x
        | some y => if seqNewer x.seq y.seq then some x else some y) none
  | _, _ => none

/-- After a full reset the coefficients are restored. -/
def State.restoreSummary (s : State) (d : Nat) : State :=
  match s.newestSummary d with
  | none => s
  | some c =>
    let f := fun k => toSigned 64 (beNat ((c.payload.drop k).take 8))
    (s.modDpll d fun p =>
      { p with restored := some ({ a1 := f 0, c := f 8, ud := f 16, uc := f 24, sh := f 32 },
                                 beNat ((c.payload.drop 40).take 4)) }).noteModel d

/-- The summaries of a DPLL are erased: no slot of its ring stays valid (log 37). -/
def State.eraseSummary (s : State) (d : Nat) : State :=
  match recType rtHOLD_SUMMARY with
  | none => s
  | some r => State.forAll 8 (fun k t => t.atticWrite (256 * (r.page + r.pages * d + k)) (List.replicate 32 0)) s

/-- HOLD_CLEAR (R177): history, entry window and summary erased, MODEL `NONE`; refused with `BUSY` during an episode. -/
def State.holdClear (s : State) (d : Nat) : State × Nat :=
  if (s.dpll d).episode.isSome then (s, ocBUSY)
  else
    let s := s.modDpll d fun p =>
      { p with window := [], hourSecs := [], history := [], fit := none, restored := none, newPoints := 0,
               entry := none, cFactory := true }
    (((s.eraseSummary d).noteModel d).wr F.HOLD_REMAIN_SECONDS d 0xFFFFFFFF, ocOK)

end Sys2Proof.Machine
end

