-- ==== Sys2Proof/Machine/Dpll.lean ====
section
/-! DEFINITION. The sixteen digital loops (R157–R172, R181): gains, phase detection, updates, build-out, the states of
Table 7.4, re-entry after a jump. States are 0 `DISABLED`, 1 `FREE_RUN`, 2 `ACQUIRE`, 3 `LOCKED`, 4 `BUILDOUT`,
5 `FROZEN`, 6 `HOLDOVER`. -/

namespace Sys2Proof.Machine

/-- A monitor beside its registers. -/
def State.mon (s : State) (m : Nat) : QualSt := s.ql.mon.at m {}
/-- A monitor's own state set. -/
def State.setMon (s : State) (m : Nat) (q : QualSt) : State := { s with ql := { s.ql with mon := s.ql.mon.set m q {} } }
/-- A monitor's own state changed. -/
def State.modMon (s : State) (m : Nat) (f : QualSt → QualSt) : State := s.setMon m (f (s.mon m))

/-- The TDC channel of a leaf (Table 5.1, R318); servos and a PR leaf with no source have none. -/
def State.monChan (s : State) (m : Nat) : Option Nat :=
  if m < 24 then some m
  else if m < 40 then none
  else match s.peerRd F.PEER_PR_CFG_SRC (m - 40) with
    | 0 => some 24
    | 1 => some 25
    | _ => none

/-- The state register of a DPLL. -/
def State.dpSt (s : State) (d : Nat) : Nat := s.rd F.DP_STATUS_STATE d

/-- The DPLL takes transitions: its unit is in service and no lockstep mismatch holds it (R167, R181). -/
def State.dpFree (s : State) (d : Nat) : Bool := s.inService (uDP d) && !s.rdB F.DP_STATUS_LOCKSTEP_HELD d

/-- A paired module that is not `ACTIVE` (R318–R320). -/
def State.isStandby (s : State) : Bool := !s.isSole && s.pairState != psACTIVE

/-- The root code of a DPLL: STANDBY_ROOT for the time DPLL of a module that is not `ACTIVE` (R318). -/
def State.rootCode (s : State) (d : Nat) : Nat :=
  if d == s.timeDpll && s.isStandby then s.peerRd F.PEER_CFG_STANDBY_ROOT else s.rd F.DP_CFG_ROOT d

/-! Gains. -/

/-- π, to forty digits (log 23). -/
def piQ : ℚ := 31415926535897932384626433832795028841972 / 10 ^ 40

/-- Bandwidths of Table 7.1 in mHz. -/
def bwTable : List Nat :=
  [1, 2, 5, 10, 20, 50, 100, 200, 500, 1000, 2000, 5000, 10000, 20000, 50000, 100000, 200000, 500000, 1000000, 2000000,
   4000000]

/-- ζ and g(ζ) of Table 7.2. -/
def dampTable : List (ℚ × ℚ) :=
  [(1 / 2, 18174 / 10000), (707 / 1000, 20582 / 10000), (1, 24824 / 10000), (2, 42492 / 10000), (4, 8125 / 1000),
   (8, 160625 / 10000)]

/-- Update periods of R159 in FRACTION units. -/
def updatePeriod (code : Nat) : Nat :=
  unitsPerUs * [1, 8, 125, 1000].getD code 0 +
    (if code = 4 then unitsPerService else if code = 5 then 125 * unitsPerMs else if 6 ≤ code then unitsPerSec else 0)

/-- The nominal stamp interval of a leaf in s (R159): 2^k / (s · f_nom) for pin leaves, 125 µs for PK leaves. -/
def State.leafInterval (s : State) (m : Nat) : ℚ :=
  match s.monChan m with
  | some c =>
    if s.nominal c = 0 then 0
    else (2 ^ s.prescale c * 2 ^ 31 : ℚ) / (s.nominal c * (if s.bothSlopes c then 2 else 1))
  | none => 125 / 1000000

/-- T of R159 in s. -/
def State.sampleT (s : State) (d : Nat) : ℚ :=
  let p := s.dpll d
  let start : ℚ := (updatePeriod p.cfg.update : ℚ) / unitsPerSec
  match p.recipe with
  | some r => r.leaves.foldl (fun t (l : RecLeaf) => if l.w = 0 then t else max t (s.leafInterval l.m)) start
  | none => start

/-- The effective bandwidth code (R161); 31 below code 0. -/
def effBw (code : Nat) (t : ℚ) : Nat :=
  let code := min code 20
  match ((List.range 21).reverse.find? fun c => ((bwTable.getD c 0 : ℚ) / 1000) * (20 * t) ≤ 1) with
  | some c => min c code
  | none => 31

/-- The effective bandwidth in Hz. -/
def effHz (code : Nat) (t : ℚ) : ℚ := if effBw code t = 31 then 1 / (20 * t) else (bwTable.getD (effBw code t) 0 : ℚ) / 1000

/-- K_p per second and K_i per second and sample (R160). -/
def State.gains (s : State) (d : Nat) : ℚ × ℚ :=
  let p := s.dpll d
  let t := s.sampleT d
  let z := dampTable.getD (min p.cfg.damp 5) (8, 160625 / 10000)
  let w := 2 * piQ * effHz p.cfg.bw t / z.2
  (2 * z.1 * w, w * w * t)

/-- Settings of a profile as they stand in its registers (R162–R164). -/
def State.profCfg (s : State) (d : Nat) : LoopCfg :=
  let k := s.rd F.DP_STATUS_PROFILE d
  { update := s.rd F.DP_CFG_UPDATE d, bw := s.rd F.PROF_LOOP_BW k, damp := s.rd F.PROF_LOOP_DAMP k,
    psl := (max 1 (min 10000 (s.rd F.PROF_PSL_PSL_NS k)) : Nat) * 1000000000000,
    pull := (max 1 (min 100000 (s.rd F.PROF_PULLIN_PULLIN_PPB k)) : Nat) * 1000000000000 }

/-- The loop settings of DPLL d come into force (R162, R182). -/
def State.latchCfg (s : State) (d : Nat) : State :=
  let c := s.profCfg d
  s.modDpll d fun p => { p with cfg := c }

/-- The profile for a recipe (R162): that of the leaf with the largest effective weight, lowest code on a tie. -/
def State.profileFor (s : State) (d : Nat) (r : Recipe) : Nat :=
  match r.leaves.foldl (fun (m : Option RecLeaf) l => match m with
      | none => some l
      | some x => if x.w < l.w ∨ (x.w = l.w ∧ l.m < x.m) then some l else some x) none with
  | none => s.rd F.DP_STATUS_PROFILE d
  | some l =>
    if l.m < 16 then
      (if s.rdB F.QM_CFG_CLASS l.m then s.rd F.DP_PROF_SEL_IN_TIME d else s.rd F.DP_PROF_SEL_IN_FREQ d)
    else if l.m < 24 then s.rd F.DP_PROF_SEL_LN d
    else if l.m < 40 then s.rd F.DP_PROF_SEL_PK d
    else s.rd F.DP_PROF_SEL_PR d

/-! The phase detector (R158). -/

/-- The phase of a leaf now on the accumulator's timescale, in the sense of R133: its latest usable stamp's unwrapped
distance from its grid, advanced to now by the leaf's frequency y. -/
def State.leafPhase (s : State) (d m : Nat) : Option Int :=
  let q := s.mon m
  q.phase.map fun u =>
    let dt : Int := (s.tm.fine : Int) - q.phaseAt
    u + quotient 52 ((s.timeWord - q.y.getD s.timeWord) * dt) (yOne * 2 ^ 48) + (s.accNow d - s.now)

/-- The raw phase difference r over the leaves that take part (R158); positive when the output is behind the reference
(log 20). -/
def State.rawPhase (s : State) (d : Nat) (r : Recipe) (takes : Nat → Bool) : Option Int :=
  let ls := (r.leaves.filter fun l => l.w ≠ 0 && takes l.m).filterMap fun l => (s.leafPhase d l.m).map fun u => (l.w, u + l.o)
  let w : Int := (ls.map fun x => (x.1 : Int)).sum
  if w = 0 then none
  else some ((s.dpll d).rAdj - quotient 53 ((ls.map fun x => (x.1 : Int) * x.2).sum) w)

/-- A leaf has delivered a usable stamp or estimate: every DPLL whose recipe carries it may form a sample (R158). -/
def State.delivers (s : State) (m : Nat) : State :=
  State.forAll 16 (fun d t =>
    let p := t.dpll d
    match p.recipe with
    | some r =>
      if r.leaves.any fun l => l.m == m && l.w ≠ 0 then
        t.setDpll d { p with delivered := m :: p.delivered.filter (· != m), fresh := m :: p.fresh.filter (· != m) }
      else t
    | none => t) s

/-! States. -/

/-- A change of state with its row of Table 7.4 (R167): source 78. -/
def State.setDp (s : State) (d new cause : Nat) : State :=
  let old := s.dpSt d
  if old = new then s
  else
    let s := s.wr F.DP_STATUS_STATE d new
    let s := s.modDpll d fun p => { p with lockedAt := if new = 3 then s.tm.elapsed else p.lockedAt, unlockEpochs := 0 }
    let s := s.when (new == 3) (·.wr F.DP_STATUS_EVER_LOCKED d 1)
    let s := s.when (new != 2 && new != 3) fun t =>
      t.wr F.DP_STATUS_SLOPE_LIMITED d 0
    let s := s.when (new != 2 && new != 3 && new != 4) (·.wr F.DP_STATUS_LOCK_OK d 0)
    (s.spoilLearning d).infoAt s.now 78 (uDP d) (old * 2 ^ 88 + new * 2 ^ 80 + cause * 2 ^ 72)

/-- A new word, delivered to the loops it steers (R157, R185). -/
def State.putWord (s : State) (d : Nat) (w : Int) : State := (s.setWord d w).deliver d

/-- DP_FREE_WORD in 10⁻²¹, held to ±100 ppm. -/
def State.freeWord (s : State) (d : Nat) : Int :=
  clampInt (-100000000000000000) 100000000000000000 (s.rdI F.DP_FREE_WORD_WORD d * 100000000)

/-- HELD is cleared on the DPLL's held leaves. -/
def State.clearHeld (s : State) (d : Nat) : State :=
  (s.modDpll d fun p => { p with held := [], heldRecipe := none, ackStep := false }).wr F.DP_STATUS_HELD d 0

/-- A build-out ends without completing, or a completed one has been taken up. -/
def DpllSt.noBuild (p : DpllSt) : DpllSt :=
  { p with pending := none, lost := false, done := false, boWait := false, boSum := 0, boN := 0 }

/-- Rows 1–4 of Table 7.4: the DPLL stops following anything and its word is DP_FREE_WORD. -/
def State.goFree (s : State) (d new cause : Nat) : State :=
  let s := (s.clearHeld d).wr F.DP_STATUS_SLEWING d 0
  let s := s.modDpll d fun p => { p.noBuild with b := 0, recipe := none, delivered := [], fresh := [] }
  (s.putWord d (s.freeWord d)).setDp d new cause

/-- A DPLL leaves `DISABLED`: its accumulator is loaded with the counter while that runs (R157). -/
def State.enableDp (s : State) (d : Nat) : State :=
  let s := s.when s.tm.running fun t =>
    t.modDpll d fun p => { p with acc := (t.now : Int) * 2 ^ 48, accAt := t.tm.fine }
  s.goFree d 1 4

/-- Holdover, or free run where no model is usable (R167, R175). -/
def State.toHold (s : State) (d cause : Nat) : State :=
  let s := (s.startEpisode d).modDpll d DpllSt.noBuild
  if s.modelUsable d then
    let s := match (s.dpll d).episode with
      | some e => match s.holdWord e with
        | some y => s.putWord d y
        | none => s
      | none => s
    (s.wr F.DP_STATUS_SLEWING d 0).setDp d 6 cause
  else s.goFree d 1 cause

/-- The record of a re-entry (R169, R385): policy, 0 at a completion or 1 at a slew's end, J. -/
def State.reentry (s : State) (d stop : Nat) : State :=
  s.infoAt s.now 80 (uDP d) (s.rd F.DP_STATUS_POLICY d * 2 ^ 88 + stop * 2 ^ 80 + ofSigned 64 (s.dpll d).jump)

/-- A slew of B to 0 starts (R169); with B already 0 it ends at once. -/
def State.startSlew (s : State) (d : Nat) : State :=
  let s := s.wr F.DP_STATUS_POLICY d 2
  if (s.dpll d).b = 0 then s else (s.wr F.DP_STATUS_SLEWING d 1).spoilLearning d

/-- B is formed from each leaf's latest stamp or estimate; with none, from the first sample (R165). -/
def State.formB (s : State) (d : Nat) (r : Recipe) : State :=
  match s.rawPhase d r (fun _ => true) with
  | some x => s.modDpll d fun p => { p with b := x, boWait := false, boSum := 0, boN := 0 }
  | none => s.modDpll d fun p => { p with boWait := true, boSum := 0, boN := 0 }

/-- A recipe takes effect and its build-out starts (R165, R138, R156): source 77. -/
def State.startBuild (s : State) (d : Nat) (want : Recipe) (delta : Int) (cause : Nat) : State :=
  let old := s.dpSt d
  let s := s.modDpll d fun p =>
    { p.noBuild with integ := if old = 1 then clampInt (-p.cfg.pull) p.cfg.pull want.freq else p.integ,
                     recipe := some want, yRoot := want.freq, delivered := [], fresh := [],
                     boFrom := if old = 4 then p.boFrom else old, boOldB := p.b,
                     rootDelta := some delta, rootTime := s.now }
  let s := (s.formB d want).bump F.DP_COUNTS_SWITCHES d
  let s := s.putWord d (s.dpll d).integ
  let s := s.infoAt s.now 77 (uDP d) (want.root * 2 ^ 88 + ofSigned 64 delta)
  s.setDp d 4 cause

/-- A freeze strobe reaches a DPLL (R119, R139, R167): the word is held at I, a build-out ends, and an episode starts. -/
def State.freezeDp (s : State) (d : Nat) : State :=
  let st := s.dpSt d
  if (st == 2 || st == 3 || st == 4) && s.dpFree d then
    let s := (s.startEpisode d).modDpll d DpllSt.noBuild
    (s.putWord d (s.dpll d).integ).setDp d 5 7
  else s

/-- The two lockstep cores of a DPLL disagree (R181): the word is held at its last agreed value. -/
def State.lockstep (s : State) (d : Nat) : State :=
  let st := s.dpSt d
  if !s.inService (uDP d) || s.rdB F.DP_STATUS_LOCKSTEP_HELD d || st == 0 then s
  else
    let s := (s.bump F.DP_LOCKSTEP_MISMATCHES d).wr F.DP_STATUS_LOCKSTEP_HELD d 1
    let s := s.when (st == 2 || st == 3 || st == 4) (·.startEpisode d)
    let s := s.modDpll d DpllSt.noBuild
    let s := if st == 1 then s else s.setDp d (if s.modelUsable d then 6 else 1) 5
    s.fault 3 (uDP d) 0 0

/-- R168: the loop after a reset of its unit. -/
def State.dpAfterReset (s : State) (d : Nat) : State :=
  let s := (s.clearHeld d).wrAll
    [(F.DP_STATUS_SLEWING, d, 0), (F.DP_STATUS_LOCKSTEP_HELD, d, 0), (F.DP_STATUS_EVER_LOCKED, d, 0),
     (F.DP_STATUS_LOCK_OK, d, 0), (F.DP_STATUS_RANGE, d, 0), (F.DP_STATUS_SLOPE_LIMITED, d, 0)]
  let s := s.modDpll d fun p =>
    { p.noBuild with integ := 0, b := 0, recipe := none, delivered := [], fresh := [], eSum := 0, n := 0,
                     eBar := 0, rAdj := 0 }
  if s.dpSt d == 0 then s
  else if s.modelUsable d then s.toHold d 0
  else s.goFree d 1 0

/-! Completion of a build-out and re-entry (R165, R169–R172). -/

/-- REENTRY of the governing node; a root that is a leaf governs with 0 (R169). -/
def State.governs (s : State) (r : Recipe) : Nat := if 0x80 ≤ r.root then s.rd F.TREE_NODE_CFG_REENTRY (r.root - 0x80) else 0

/-- Table 7.5: 1 `ABSORB`, 2 `SLEW`, 3 `HOLD`. -/
def reentryPolicy (governing cls : Nat) (beyond : Bool) : Nat :=
  if cls = 0 then 1
  else if governing = 1 then 1
  else if governing = 2 then 2
  else if beyond then 3 else 2

/-- The class 1 leaves of a recipe (R169). -/
def State.classOne (s : State) (r : Recipe) : List Nat :=
  (r.leaves.filter fun l => l.w ≠ 0 && s.rdB F.QM_CFG_CLASS l.m).map (·.m)

/-- J in 0.1 ns. -/
def tenthNs (j : Int) : Int := quotient 54 (j * 10) 65536

/-- The policy of Table 7.5 is applied (R169). -/
def State.applyPolicy (s : State) (d : Nat) (r : Recipe) : State :=
  let p := s.dpll d
  let h : Int := (max 1 (s.rd F.DP_REENTRY_HOLD_THRESH_NS d) : Nat) * 65536
  let pol := reentryPolicy (s.governs r) r.cls (h < |p.jump|)
  let s := s.wr F.DP_STATUS_POLICY d pol
  let s := if pol = 2 then s.startSlew d
    else if pol = 3 then
      let s := (s.modDpll d fun p => { p with held := s.classOne r, heldRecipe := some r }).wr F.DP_STATUS_HELD d 1
      s.fault 24 (uDP d) (ofSigned 32 (tenthNs p.jump)) 0
    else s
  s.reentry d 0

/-- The offset of PR0's latest stamp from the nearest whole counter second, in the sense of J (R319). -/
def State.pr0Offset (s : State) : Option Int :=
  let q := s.mon 40
  if s.rd F.QM_STATUS_STATE 40 == 3 then
    match q.resid with
    | (t, _, _) :: _ =>
      let x := t % (unitsPerSec : Int)
      some (-(if (unitsPerSec : Int) < 2 * x then x - unitsPerSec else x))
    | [] => none
  else none

/-- The alignment of R172 for the time DPLL: J is to be removed by a time step. -/
def State.alignTime (s : State) (d : Nat) (j : Int) : State :=
  let s := s.modDpll d fun p => { p with aligned := true, jump := j }
  let s := { s with tm := { s.tm with reqDpll := some (s.tm.reqDpll.getD 0 + j) } }
  (s.wr F.DP_STATUS_POLICY d 4).reentry d 0

/-- BUILDOUT_COMPLETE (R165, R169, R172, Table 7.4): B is refined, J recorded, the episode ends; a pending recipe is left
to the next epoch, otherwise the profile and the re-entry policy are applied. -/
def State.buildoutComplete (s : State) (d : Nat) : State :=
  let p := s.dpll d
  match p.recipe with
  | none => s
  | some r =>
    if s.dpSt d ≠ 4 || p.boWait || p.done || !s.dpFree d then s
    else
      let b := if p.boN = 0 then p.b else quotient 55 p.boSum p.boN
      let j := if r.cls = 1 then b else b - p.boOldB
      let s := (s.setDpll d { p with b := b, jump := j, boSum := 0, boN := 0, everBuilt := true, eSum := 0, n := 0 }).endEpisode d
      let s := s.wr F.DP_STATUS_PROFILE d (s.profileFor d r)
      let s := s.wr F.DP_STATUS_SLEWING d 0
      if p.lost then s.toHold d 14
      else
        let time := d == s.timeDpll
        let waits := time && !p.aligned && s.isStandby && s.pr0Offset.isNone
        let aligns := time && !p.aligned && !waits
        let s := if aligns then s.alignTime d (if s.isStandby then s.pr0Offset.getD j else j)
          else if !time && r.cls == 1 && !s.rdB F.DP_STATUS_EVER_LOCKED d then
            (((s.modDpll d fun p => { p with acc := p.acc + j * 2 ^ 48, b := 0 }).wr F.DP_STATUS_POLICY d 4)).reentry d 0
          else s
        let stepped := aligns || (!time && r.cls == 1 && !s.rdB F.DP_STATUS_EVER_LOCKED d)
        if p.pending.isSome then s.modDpll d fun p => { p with done := true }
        else
          let s := if stepped || waits then s else s.applyPolicy d r
          if p.boFrom = 3 && s.rdB F.DP_STATUS_LOCK_OK d then s.setDp d 3 15 else s.setDp d 2 16

/-- A held jump is released (R170): HELD is cleared on the held leaves, and with `slew` the DPLL slews, unless its recipe
has changed since. -/
def State.releaseHeld (s : State) (d : Nat) (slew : Bool) : State :=
  let p := s.dpll d
  if !s.rdB F.DP_STATUS_HELD d then s
  else
    let same := p.heldRecipe == p.recipe
    let s := s.clearHeld d
    if slew && same then s.startSlew d else s

/-- REF_ACK (R170): the held jump is released by a slew. -/
def State.refAck (s : State) (d : Nat) : State := s.releaseHeld d true

/-- REF_ACK_STEP (R171): on the time DPLL the held jump is released by a time step; on any other as REF_ACK. -/
def State.refAckStep (s : State) (d : Nat) : State :=
  if d ≠ s.timeDpll then s.refAck d
  else if !s.rdB F.DP_STATUS_HELD d then s
  else
    let p := s.dpll d
    let same := p.heldRecipe == p.recipe
    let s := s.clearHeld d
    if same then
      ({ s with tm := { s.tm with reqDpll := some (s.tm.reqDpll.getD 0 + p.jump) } }).wr F.DP_STATUS_POLICY d 4
    else s

/-- DPLL_LOCK_TIMER (R166, R167): the lock criteria have held for LOCK_S. -/
def State.lockTimer (s : State) (d : Nat) : State :=
  if s.dpSt d == 2 && s.rdB F.DP_STATUS_LOCK_OK d && s.dpFree d then s.setDp d 3 17 else s

/-! Updates (R158–R164). -/

/-- B moves toward 0 during a slew (R164); source 80 when it gets there. -/
def State.slewStep (s : State) (d : Nat) : State :=
  let p := s.dpll d
  if !s.rdB F.DP_STATUS_SLEWING d then s
  else
    let most := quotient 56 (p.cfg.psl * updatePeriod p.cfg.update) yOne
    let b := if |p.b| ≤ most then 0 else if 0 < p.b then p.b - most else p.b + most
    let s := s.setDpll d { p with b := b }
    if b = 0 then (s.wr F.DP_STATUS_SLEWING d 0).reentry d 1 else s

/-- The filter's step with a new sample e (R160, R163, R164). -/
def State.filterStep (s : State) (d : Nat) (e : Int) : State :=
  let p := s.dpll d
  let g := s.gains d
  let es : ℚ := (e : ℚ) * yOne / unitsPerSec
  let step := roundQ 50 (g.2 * es)
  let want := p.integ + step + roundQ 51 (g.1 * es)
  let y := clampInt (p.yRoot - p.cfg.psl) (p.yRoot + p.cfg.psl) want
  let limited := y ≠ want
  let away := (0 < step && 0 < y - p.yRoot) || (step < 0 && y - p.yRoot < 0)
  let step := if limited && away then 0 else step
  let i := clampInt (-p.cfg.pull) p.cfg.pull (p.integ + step)
  let s := s.setDpll d { p with integ := i, eSum := p.eSum + e }
  (s.putWord d (clampInt (-p.cfg.pull) p.cfg.pull y)).wrB F.DP_STATUS_SLOPE_LIMITED d limited

/-- The word is counted in the epoch's mean, and I in the second's (R166, R173). -/
def State.countUpdate (s : State) (d : Nat) (sample : Bool) : State :=
  s.modDpll d fun p =>
    { p with wSum := p.wSum + p.word, wN := p.wN + 1, n := p.n + b2n sample, iSum := p.iSum + p.integ, iN := p.iN + 1, fresh := [] }

/-- LOOP_UPDATE (R158–R165, R181): one update of DPLL d; `mismatch` is the comparator's finding. -/
def State.loopUpdate (s : State) (d : Nat) (mismatch : Bool) : State :=
  if mismatch then s.lockstep d
  else if !s.dpFree d then s
  else
    let p := s.dpll d
    let st := s.dpSt d
    match p.recipe with
    | none => s
    | some r =>
      let sample := if p.fresh.isEmpty then none else s.rawPhase d r p.delivered.contains
      if st = 4 then
        let s := match sample with
          | some x => s.modDpll d fun p =>
              if p.boWait then { p with b := x, boWait := false, boSum := x, boN := 1 }
              else { p with boSum := p.boSum + x, boN := p.boN + 1 }
          | none => s
        s.modDpll d fun p => { p with fresh := [] }
      else if st = 2 || st = 3 then
        let s := match sample with
          | some x => s.filterStep d (x - p.b)
          | none => s
        (s.slewStep d).countUpdate d sample.isSome
      else s

/-! A change of the time DPLL (R207). -/

/-- TIME_DPLL_CHANGE: DPLL d takes the counter; the previous one keeps a copy. -/
def State.takeCounter (s : State) (d : Nat) : State :=
  let old := s.timeDpll
  if old = d then s
  else
    let load := fun (p : DpllSt) => { p with acc := (s.now : Int) * 2 ^ 48, accAt := s.tm.fine }
    let s := (s.modDpll old load).modDpll d load
    let s := (s.wr F.TIME_STATUS_DPLL 0 d).info 90 uTCOUNT 0 0 0
    match (s.dpll d).recipe with
    | none => s
    | some r =>
      if s.dpSt d == 2 || s.dpSt d == 3 then s.startBuild d r 0 11
      else if s.dpSt d == 4 then s.formB d r
      else s

end Sys2Proof.Machine
end

