-- ==== Sys2Proof/Machine/Qual.lean ====
section
/-! DEFINITION. Qualification of references (R114–R129): what an edge does to its monitor, freeze strobes, the causes, the
votes and the state machine of Table 5.3. States are 0 `DISABLED`, 1 `ACQUIRING`, 2 `VALIDATING`, 3 `QUALIFIED`,
4 `SUSPECT`, 5 `FAILED`, 6 `RETIRED`. -/

namespace Sys2Proof.Machine

/-- A result of a decision epoch waits for the next boundary (R20). -/
def State.later (s : State) (e : Eff) : State := { s with ep := { s.ep with effects := s.ep.effects ++ [e] } }

/-- The state of a monitor. -/
def State.qmSt (s : State) (m : Nat) : Nat := s.rd F.QM_STATUS_STATE m

/-- A monitor judges its leaf (R114). -/
def State.judges (s : State) (m : Nat) : Bool := s.rdB F.QM_CFG_ENABLE m && 2 ≤ s.stage && s.inService (uQMON m)

/-- R129: detection of TDC-fed leaves is suspended. -/
def State.suspended (s : State) : Bool :=
  s.td.blind || s.td.gated || s.rdB F.CLK_BASE_STATUS_MOVING || !s.loopLocked 0

/-- The leaf's nominal frequency is at least 20 MHz: it has a missing-edge detector (R117, R118). -/
def State.fastLeaf (s : State) (c : Nat) : Bool := 20000000 * 2 ^ 31 ≤ s.nominal c

/-- The prescaled period P times a count, in FRACTION units. -/
def State.periods (s : State) (c : Nat) (n : Int) : Int :=
  if s.periodDen c = 0 then 0 else quotient 60 (n * s.periodNum c) (s.periodDen c)

/-- The residual of a stamp (R120): its distance from the nearest point of the grid from T96 zero, in (−P/2, P/2]. -/
def State.residual (s : State) (c : Nat) (t : Int) : Int :=
  let num : Int := s.periodNum c
  let den : Int := s.periodDen c
  if den = 0 then 0
  else
    let x := t * den % num
    quotient 61 (if num < 2 * x then x - num else x) den

/-- Half-widths of the arrival window (R118), in FRACTION units. -/
def windowWidth (code : Nat) : Int := [20, 50, 100, 200, 500, 1000, 2000, 5000].getD code 5000 * 65536

/-- Time to the next stamped edge of a slow leaf (R118), with the last published OFFSET. -/
def State.nextArrival (s : State) (c : Nat) : Int :=
  let p := s.periods c 1
  quotient 62 (p * yOne) ((yOne + (s.chan c).offset.getD 0) * (if s.bothSlopes c && !s.evenOnly c then 2 else 1))

/-- The DPLLs of a leaf's freeze set (R119, R140): those whose recipe in effect, or in build-out, carries it. -/
def State.freezeSet (s : State) (m : Nat) : List Nat :=
  (List.range 16).filter fun d => match (s.dpll d).recipe with
    | some r => r.leaves.any fun l => l.m == m && l.w != 0
    | none => false

/-- A freeze strobe (R119): 1 loss of activity, 2 phase hit. -/
def State.strobe (s : State) (m kind : Nat) : State :=
  let s := s.modMon m fun q => { q with strobe := if q.strobe = 1 then 1 else kind }
  let s := ((s.wr F.QM_STATUS_FROZEN m 1).bump F.QUAL_FREEZES_COUNT).info 75 (uQMON m) 0 0 0
  (s.freezeSet m).foldl (fun t d => t.freezeDp d) s

/-- A phase hit (R120). -/
def State.phaseHit (s : State) (m : Nat) : State :=
  ((s.modMon m fun q => { q with sinceHit := 0 }).bump F.QM_COUNTS_PHASE_HITS m).strobe m 2

/-- PHASE_HIT ≥ P/2: hit detection is off (R120). -/
def State.hitBlind (s : State) (m : Nat) : Bool :=
  match s.monChan m with
  | some c =>
    let h := s.rd F.QM_LIMITS_PHASE_HIT m
    h != 0 && s.periodNum c * 10 ≤ 2 * (h * 65536) * s.periodDen c
  | none => false

/-- The reference level at a time (R120): the mean of the previous 16 accepted residuals, advanced by the last published
OFFSET over the time since them; a fast input's residuals fall. -/
def State.hitLevel (s : State) (m c : Nat) (t : Int) : Int :=
  let l := (s.mon m).resid
  let n : Int := l.length
  if n = 0 then 0
  else
    let mean := (l.map fun x => x.2.1).sum
    let tm := (l.map fun x => x.1).sum
    quotient 63 (mean * yOne - (n * t - tm) * (s.chan c).offset.getD 0) (n * yOne)

/-- An accepted residual enters the mean (R120, R133). -/
def State.acceptResidual (s : State) (m c : Nat) (st : Stamp) : State :=
  let res := s.residual c st.t
  s.modMon m fun q =>
    let o := q.origin.getD (st.t, st.idx, res)
    let u := o.2.2 + (st.t - o.1) - s.periods c ((st.idx : Int) - o.2.1)
    let l := ((st.t, res, u) :: q.resid).take 16
    { q with origin := some o, resid := l, sinceRestart := q.sinceRestart + 1, sinceHit := q.sinceHit + 1,
             meanRes := some (quotient 64 ((l.map fun x => x.2.1).sum) l.length),
             meanPhase := some (quotient 65 ((l.map fun x => x.2.2).sum) l.length) }

/-- The residual of a stamp is judged against PHASE_HIT and, unless it is a hit, accepted (R120). -/
def State.judgeHit (s : State) (m c : Nat) (st : Stamp) : State :=
  let h := s.rd F.QM_LIMITS_PHASE_HIT m
  let far := |s.residual c st.t - s.hitLevel m c st.t| * 10 > (h * 65536 : Nat)
  if h ≠ 0 && !s.hitBlind m && 16 ≤ (s.mon m).sinceRestart && far then s.phaseHit m else s.acceptResidual m c st

/-- A stamped edge reaches its leaf's monitor (R117, R118, R120, R129). -/
def State.qualStamp (s : State) (m c : Nat) (st : Stamp) : State :=
  if !s.judges m || s.qmSt m == 0 || s.qmSt m == 6 || s.suspended then s
  else
    let s := s.modMon m fun q => { q with active := true }
    if st.degraded || (s.evenOnly c && st.idx % 2 == 1) || s.nominal c = 0 then s
    else if s.fastLeaf c then s.judgeHit m c st
    else
      let w := windowWidth (s.rd F.QM_CFG_ARR_WIN m)
      match (s.mon m).expect with
      | none => (s.modMon m fun q => { q with expect := some (st.t + s.nextArrival c) }).judgeHit m c st
      | some e =>
        if |st.t - e| ≤ w then
          (s.modMon m fun q => { q with expect := some (st.t + s.nextArrival c) }).judgeHit m c st
        else s.phaseHit m

/-- The monitors fed by a channel: its own leaf's, or the PR leaves that name it (Table 5.1, R318). -/
def State.monsOf (s : State) (c : Nat) : List Nat :=
  if c < 24 then [c] else [40, 41, 42, 43].filter fun m => s.monChan m == some c

/-- MISSING_EDGE (R117): no edge for MISS nominal intervals of a fast leaf. -/
def State.missingEdge (s : State) (m : Nat) : State :=
  match s.monChan m with
  | some c =>
    if s.judges m && s.qmSt m != 0 && s.qmSt m != 6 && !s.suspended && s.fastLeaf c && (s.mon m).active then
      (s.modMon m fun q => { q with active := false }).strobe m 1
    else s
  | none => s

/-- ARRIVAL_WINDOW_MISS (R118): a slow leaf's window closes without an edge; the next edge opens the windows anew. -/
def State.windowMiss (s : State) (m : Nat) : State :=
  match s.monChan m with
  | some c =>
    if s.judges m && s.qmSt m != 0 && s.qmSt m != 6 && !s.suspended && !s.fastLeaf c && (s.mon m).expect.isSome then
      (s.modMon m fun q => { q with active := false, expect := none }).strobe m 1
    else s
  | none => s

/-- Phase-hit judging starts again after a time step, a `STEPPED` result or the resumption of detection (R120, R129). -/
def QualSt.restartHits (q : QualSt) : QualSt := { q with resid := [], sinceRestart := 0 }

/-- QUAL_DETECT_RESUME (R129): new arrival windows and a new start for phase hits. -/
def State.detectResume (s : State) : State :=
  if s.td.gated || s.rdB F.CLK_BASE_STATUS_MOVING || !s.loopLocked 0 then s
  else
    let s := { s with td := { s.td with blind := false } }
    State.forAll 44 (fun m t =>
      if 24 ≤ m && m < 40 then t else t.modMon m fun q => { q.restartHits with expect := none }) s

/-! Estimates (R116). -/

/-- dy/dt (R121): the least-squares slope of the last updates of y against their gate ends, in 10⁻²¹ per s. -/
def driftOf (h : List (Nat × Int)) : Option Int :=
  if h.length < 4 then none
  else
    let n : ℚ := h.length
    let t := h.map fun x => (x.1 : ℚ) / unitsPerSec
    let y := h.map fun x => (x.2 : ℚ)
    let tm := t.sum / n
    let ym := y.sum / n
    let c := (t.zip y).map fun p => (p.1 - tm, p.2 - ym)
    let tt := (c.map fun p => p.1 * p.1).sum
    if tt = 0 then none else some (roundQ 66 ((c.map fun p => p.1 * p.2).sum / tt))

/-- y is updated from a published OFFSET and the counter's mean rate over the same gate (R116). -/
def State.updateY (s : State) (m stop : Nat) (offset rate : Int) : State :=
  let y := quotient 67 ((yOne + offset) * (yOne + rate)) yOne - yOne
  s.modMon m fun q =>
    let h := ((stop, y) :: q.hist).take 8
    { q with y := some y, hist := h, drift := driftOf h, yEpoch := s.cp.epochs, updates := q.updates + 1 }

/-- A standing estimate's result reaches its monitors (R116, R120). -/
def State.monResult (s : State) (c : Nat) (r : GateResult) : State :=
  (s.monsOf c).foldl (fun t m =>
    if !t.judges m then t
    else if r.code == 1 && !r.degraded then t.updateY m r.stop r.offset r.rate
    else if r.code == 4 then t.modMon m QualSt.restartHits
    else t) s

/-! Causes. -/

/-- Quality-level code of an SSM value, an enhanced SSM value, a clockClass (Table 6.4; enhanced values, log 24). -/
def ssmCode (v : Nat) : Nat :=
  if v = 0x2 then 0x40 else if v = 0x4 then 0x50 else if v = 0x8 then 0x60 else if v = 0xB then 0x80
  else if v = 0xF then 0xF0 else 0xE0
def essmCode (v : Nat) : Nat :=
  if v = 0x21 then 0x10 else if v = 0x20 then 0x20 else if v = 0x23 then 0x30 else if v = 0x22 then 0x70 else 0xE0
def classCode (v : Nat) : Nat :=
  if v = 6 then 0x20 else if v = 7 then 0x28 else if v = 135 then 0x2C else if v = 140 then 0x40
  else if v = 150 then 0x50 else if v = 160 then 0x60 else if v = 165 then 0x70 else 0xE0

/-- Bits of QM_STATUS.CAUSES. -/
def cbHELD : Nat := 0
def cbDRIFT : Nat := 1
def cbSOFT : Nat := 2
def cbNOEST : Nat := 3
def cbOUTV : Nat := 4
def cbQL : Nat := 5
def cbHARD : Nat := 6
def cbHIT : Nat := 7
def cbLOS : Nat := 8

/-- CAUSE codes by rank with their bits (Table 5.2). -/
def causeRanks : List (Nat × Nat) :=
  [(cbLOS, 1), (cbHIT, 2), (cbHARD, 3), (cbQL, 4), (cbOUTV, 5), (cbNOEST, 8), (cbSOFT, 6), (cbDRIFT, 7), (cbHELD, 9)]

/-- The highest-ranked present cause (R124). -/
def causeCode (causes : Nat) : Nat := ((causeRanks.find? fun p => bitOf causes p.1).map (·.2)).getD 0

/-- R121: a cause with hysteresis: set beyond the limit, cleared below limit × (1 − h), kept between. -/
def hysteresis (was : Bool) (mag limit : Int) (hyst : Nat) : Bool :=
  if limit < mag then true else if mag * 100 < limit * (100 - 5 * (min hyst 10 : Nat)) then false else was

/-- The leaf has activity (Table 5.1). -/
def State.activity (s : State) (m : Nat) : Bool :=
  match s.monChan m with
  | some c => (s.mon m).active && s.chanRunning c && !(16 ≤ m && m < 24 && !s.rdB F.PORT_STATUS_CDR_LOCK (m - 16))
  | none => 24 ≤ m && m < 40 && s.rd F.PK_STATUS_STATE (m - 24) == 3

/-- The leaf's gate time in decision epochs (R116, R123); 1 s for a servo (R271). -/
def State.gateEpochs (s : State) (m : Nat) : Nat :=
  match s.monChan m with
  | some c => s.standingLen c / unitsPerEpoch
  | none => 8000

/-- y was updated within the last k gate times. -/
def State.freshY (s : State) (m k : Nat) : Bool :=
  (s.mon m).y.isSome && s.cp.epochs ≤ (s.mon m).yEpoch + k * s.gateEpochs m

/-- QL_FAIL (R122). -/
def State.qlFail (s : State) (m : Nat) : Bool :=
  if 16 ≤ m ∧ m < 24 then
    let limit := max 1 (min 60 (s.rd F.QUAL_QL_CFG_ESMC_TIMEOUT_S)) * unitsPerSec
    let late := match (s.mon m).lastEsmc with
      | some t => t + limit ≤ s.tm.elapsed
      | none => true
    late || (!s.rdB F.QM_STATUS_ESSM m && s.rd F.QM_STATUS_RAW_QL m == 0xF && s.rdB F.QUAL_QL_CFG_DNU_FAIL)
  else if 24 ≤ m ∧ m < 40 then
    s.rd F.QUAL_QL_CFG_CLASS_MAX < s.rd F.PK_ANNOUNCE_CLOCK_CLASS (m - 24) || !s.rdB F.PK_STATUS_ANN_OK (m - 24)
  else false

/-- A quality level is captured at the epoch (R122): source 74 on a change. -/
def State.captureQl (s : State) (m : Nat) : State :=
  let fixed := m < 16 || 40 ≤ m
  let v : Nat × Bool × Nat :=
    if fixed then
      let q := s.rd F.QM_CFG_QL_FIXED m
      (q, false, if q = 0 then 0xE0 else q)
    else if m < 24 then
      match (s.mon m).rawNext with
      | some (raw, e) => (raw, e, if e then essmCode raw else ssmCode raw)
      | none => (s.rd F.QM_STATUS_RAW_QL m, s.rdB F.QM_STATUS_ESSM m, (s.mon m).ql)
    else
      let q := s.rd F.PK_ANNOUNCE_CLOCK_CLASS (m - 24)
      (q, false, classCode q)
  let was := (s.mon m).ql
  let s := s.modMon m fun q => { q with ql := v.2.2, rawNext := none }
  let s := s.wrAll [(F.QM_STATUS_RAW_QL, m, v.1), (F.QM_STATUS_ESSM, m, b2n v.2.1)]
  if was ≠ v.2.2 && was ≠ 0 then s.later (.info 74 (uQMON m) 0) else s

/-- The causes present on a leaf at this epoch (R117–R124). -/
def State.causesNow (s : State) (m : Nat) : Nat :=
  let q := s.mon m
  let was := fun b => bitOf (s.rd F.QM_STATUS_CAUSES m) b
  let lim := s.softHard m
  let hy := s.rd F.QM_CFG_HYST m
  let y := |q.y.getD 0|
  let dl : Int := s.rd F.QM_LIMITS_DRIFT_LIM m * 100000000
  ofBits
    ((if q.strobe == 1 || !s.activity m then [cbLOS] else []) ++
     (if q.strobe == 2 || (was cbHIT && q.sinceHit < 16) then [cbHIT] else []) ++
     (if q.y.isSome && hysteresis (was cbHARD) y (lim.2 * 1000000000 : Nat) hy then [cbHARD] else []) ++
     (if s.qlFail m then [cbQL] else []) ++
     (if q.outFreq || q.outPhase then [cbOUTV] else []) ++
     (if s.freshY m 3 then [] else [cbNOEST]) ++
     (if q.y.isSome && hysteresis (was cbSOFT) y (lim.1 * 1000000000 : Nat) hy then [cbSOFT] else []) ++
     (match q.drift with
      | some d => if dl ≠ 0 && hysteresis (was cbDRIFT) |d| dl hy then [cbDRIFT] else []
      | none => []) ++
     (if (List.range 16).any fun d => (s.dpll d).held.contains m then [cbHELD] else []))

/-- While R129 suspends detection, LOS and PHASE_HIT of a TDC-fed leaf stand as they were. -/
def State.causesOf (s : State) (m : Nat) : Nat :=
  let n := s.causesNow m
  if s.suspended && !(24 ≤ m && m < 40) then
    let old := s.rd F.QM_STATUS_CAUSES m
    n % 2 ^ cbHIT + old / 2 ^ cbHIT * 2 ^ cbHIT
  else n

/-! Votes (R123). -/

/-- A leaf may vote: VOTE = 1, qualified, with a recent y. -/
def State.mayVote (s : State) (m : Nat) : Bool :=
  s.rdB F.QM_CFG_VOTE m && (s.qmSt m == 3 || s.qmSt m == 4) && s.freshY m 2

/-- A sorted insertion. -/
def insertInt (x : Int) : List Int → List Int
  | [] => [x]
  | y :: l => if x ≤ y then x :: y :: l else y :: insertInt x l

/-- Twice the median of a list. -/
def median2 (l : List Int) : Int :=
  let t := l.foldl (fun a x => insertInt x a) []
  let n := t.length
  if n % 2 = 1 then 2 * t.getD (n / 2) 0 else t.getD (n / 2 - 1) 0 + t.getD (n / 2) 0

/-- The verdict on one leaf's value against its voters' (R123): `none` without a majority. -/
def verdict (x : Int) (voters : List Int) (minVoters : Nat) (thresh : Int) (hyst : Nat) (was : Bool) : Option Bool :=
  let m := median2 voters
  let near := (voters.filter fun v => |2 * v - m| ≤ 2 * thresh).length
  if voters.length < minVoters ∨ 2 * near ≤ voters.length then none
  else
    let d := |2 * x - m|
    if 2 * thresh < d then some true
    else if d * 100 < 2 * thresh * (100 - 5 * (min hyst 10 : Nat)) then some false
    else some was

/-- MIN_VOTERS in use; the thresholds of the two votes. -/
def State.minVoters (s : State) : Nat := max 2 (s.rd F.QUAL_VOTE_CFG_MIN_VOTERS)
def State.freqThresh (s : State) : Int := s.rd F.QUAL_VOTE_CFG_FREQ_THRESH * 1000000000
def State.phaseThresh (s : State) : Int := (max 1 (s.rd F.QUAL_VOTE_CFG_PHASE_THRESH) : Nat) * 65536

/-- The values that leaf j is held against in a vote. -/
def voteValues (l : List Nat) (j : Nat) (f : Nat → Option Int) : List Int := (l.filter (· != j)).filterMap f

/-- A newly outvoted leaf raises source 20: item 0 frequency, 1 phase vote. -/
def State.setOut2 (s : State) (m kind : Nat) (v : Bool) : State :=
  let q := s.mon m
  let was := q.outFreq || q.outPhase
  let q := if kind = 0 then { q with outFreq := v } else { q with outPhase := v }
  let s := s.setMon m q
  if v && !was then (s.later (.fault 20 (uQMON m) kind 0)).wr F.QUAL_VOTE_STATUS_LAST_OUTVOTED 0 m else s

/-- Both votes at an epoch. -/
def State.votes (s : State) : State :=
  let fv := (List.range 44).filter s.mayVote
  let pv := fv.filter fun m => s.rdB F.QM_CFG_CLASS m && (s.mon m).meanRes.isSome
  let s0 := s
  let yOf := fun m => (s0.mon m).y
  let rOf := fun m => (s0.mon m).meanRes
  let vf := fun j => (yOf j).bind fun x =>
    verdict x (voteValues fv j yOf) s0.minVoters s0.freqThresh (s0.rd F.QM_CFG_HYST j) (s0.mon j).outFreq
  let vp := fun j => (rOf j).bind fun x =>
    verdict x (voteValues pv j rOf) s0.minVoters s0.phaseThresh (s0.rd F.QM_CFG_HYST j) (s0.mon j).outPhase
  let mine := (List.range 44).filter fun m => s0.rdB F.QM_CFG_VOTE m && s0.judges m
  let s := mine.foldl (fun t j =>
    let t := match vf j with
      | some v => t.setOut2 j 0 v
      | none => t
    if s0.rdB F.QM_CFG_CLASS j then
      match vp j with
      | some v => t.setOut2 j 1 v
      | none => t
    else t) s
  let s := s.wrAll [(F.QUAL_VOTE_STATUS_FREQ_VOTERS, 0, fv.length), (F.QUAL_VOTE_STATUS_PHASE_VOTERS, 0, pv.length),
    (F.QUAL_VOTE_STATUS_FREQ_MAJORITY, 0, b2n (mine.any fun j => (vf j).isSome)),
    (F.QUAL_VOTE_STATUS_PHASE_MAJORITY, 0,
     b2n (mine.any fun j => s0.rdB F.QM_CFG_CLASS j && (vp j).isSome))]
  State.forAll 44 (fun m t => t.wrB F.QM_STATUS_VOTING m (fv.contains m)) s

/-! The state machine (Table 5.3). -/

/-- A monitor enters a state (R126): source 73, at the next boundary when an epoch decides it. -/
def State.qmGoes (s : State) (m new : Nat) (epoch : Bool) : State :=
  let old := s.qmSt m
  if old = new then s
  else
    let s := s.wr F.QM_STATUS_STATE m new
    let s := s.modMon m fun q => { q with updates := 0 }
    let s := s.when (new == 1) fun t =>
      t.modMon m fun q => { q.restartHits with active := false, expect := none, origin := none, strobe := 0 }
    let items := detail3 old new (s.rd F.QM_STATUS_CAUSE m)
    if epoch then s.later (.info 73 (uQMON m) items) else s.infoAt s.now 73 (uQMON m) items

/-- WINDOW_S in epochs. -/
def State.windowEpochs (s : State) : Nat := max 1 (s.rd F.QUAL_RETRY_CFG_WINDOW_S) * 8000

/-- Counted entries within the last WINDOW_S. -/
def State.counted (s : State) (m : Nat) : Nat :=
  ((s.mon m).retry.filter fun e => s.cp.epochs < e + s.windowEpochs).length

/-- A monitor is retired by recurrence (R127, R128). -/
def State.qmRetire (s : State) (m : Nat) : State :=
  let cause := s.rd F.QM_STATUS_CAUSE m
  let s := s.modMon m fun q => { q with retireCause := cause }
  let s := (s.qmGoes m 6 true).later (.fault 19 (uQMON m) cause 0)
  let s := s.markRetired (uQMON m)
  s.when (s.rdB F.QUAL_RETIRE_CFG_PERSIST) (·.listRetire m true)

/-- One decision of the state machine at an epoch, by the first row that applies. -/
def State.qmEpoch (s : State) (m : Nat) : State :=
  let st := s.qmSt m
  let en := s.rdB F.QM_CFG_ENABLE m
  let c := s.rd F.QM_STATUS_CAUSES m
  let has := fun b => bitOf c b
  let counting := has cbLOS || has cbHIT || has cbHARD
  let bad := counting || has cbQL || has cbOUTV || has cbNOEST
  let suspect := has cbSOFT || has cbDRIFT || has cbHELD
  if s.isResetting (uQMON m) || (unitAncestors (uQMON m)).any s.un.retired.contains || s.isIsolated (uQMON m) then s
  else if !en then (if st = 0 then s else s.qmGoes m 0 true)
  else if s.stage < 2 then (if st = 0 || st = 6 then s else s.qmGoes m 1 true)
  else if st = 0 then (if s.isRetired (uQMON m) then s else s.qmGoes m 1 true)
  else if st = 1 then (if s.activity m && 1 ≤ (s.mon m).updates && !bad then s.qmGoes m 2 true else s)
  else if st = 2 || st = 3 || st = 4 then
    if s.suspended && !(24 ≤ m && m < 40) then s
    else if counting then
      if s.rd F.QUAL_RETRY_CFG_MAX_RETRIES + 1 ≤ s.counted m + 1 then s.qmRetire m
      else
        let s := s.modMon m fun q => { q with retry := (s.cp.epochs :: q.retry).take 16 }
        (s.bump F.QM_COUNTS_TRANSIENTS m).qmGoes m 5 true
    else if bad then s.qmGoes m 5 true
    else if st = 3 && suspect then s.qmGoes m 4 true
    else if st = 4 && !suspect then s.qmGoes m 3 true
    else s
  else s

/-- Qualification at a decision epoch (R20, R114–R128). -/
def State.qualEpoch (s : State) : State :=
  let s := if 2 ≤ s.stage then State.forAll 44 (fun m t => if t.judges m then t.captureQl m else t) s else s
  let s := s.votes
  let s := State.forAll 44 (fun m t =>
    if t.judges m then
      let c := t.causesOf m
      let t := t.wr F.QM_STATUS_CAUSES m c
      t.when (t.qmSt m != 6) (·.wr F.QM_STATUS_CAUSE m (causeCode c))
    else t) s
  State.forAll 44 (fun m t =>
    let t := t.qmEpoch m
    let t := (t.wr F.QM_COUNTS_IN_WINDOW m (min 15 (t.counted m))).wrB F.QM_STATUS_HIT_BLIND m (t.hitBlind m)
    let t := t.wr F.QM_STATUS_FROZEN m 0
    if (t.mon m).strobe ≠ 0 && !t.suspended then t.modMon m fun q => { q with strobe := 0 } else t) s

/-- QUAL_VALIDATION_END (R126): VALID_S has elapsed with at least two updates of y and no disqualifying cause. -/
def State.validationEnd (s : State) (m : Nat) : State :=
  let c := s.causesOf m
  if s.qmSt m == 2 && s.judges m && 2 ≤ (s.mon m).updates && c / 8 == 0 then
    s.qmGoes m (if c == 0 then 3 else 4) false
  else s

/-- QUAL_HOLDOFF_END (R126, R127): HOLDOFF_S has elapsed in `FAILED` and no disqualifying cause is present. -/
def State.holdoffEnd (s : State) (m : Nat) : State :=
  if s.qmSt m == 5 && s.judges m && s.causesOf m / 8 == 0 then s.qmGoes m 2 false else s

/-! Operations on the unit (Table 5.3, R127, R128). -/

/-- The state a monitor takes when it starts anew. -/
def State.qmStart (s : State) (m : Nat) : Nat := if s.rdB F.QM_CFG_ENABLE m && 2 ≤ s.stage then 1 else 0

/-- Unit reset: retry history, causes and window cleared, counts kept; a retired monitor stays `RETIRED`. -/
def State.qmReset (s : State) (m : Nat) : State :=
  if s.qmSt m == 6 then s.modMon m fun q => { q with retry := [] }
  else
    let s := s.wrAll [(F.QM_STATUS_CAUSES, m, 0), (F.QM_STATUS_CAUSE, m, 0), (F.QM_COUNTS_IN_WINDOW, m, 0),
                      (F.QM_STATUS_FROZEN, m, 0)]
    let q := s.mon m
    let s := s.setMon m { ql := q.ql, rawNext := q.rawNext, lastEsmc := q.lastEsmc }
    s.qmGoes m (s.qmStart m) false

/-- A retire mark over the monitor: `RETIRED` with CAUSE 10. -/
def State.qmUnitRetire (s : State) (m : Nat) : State :=
  if s.qmSt m == 6 then s
  else
    let s := (s.wr F.QM_STATUS_CAUSE m 10).modMon m fun q => { q with retireCause := 10 }
    s.qmGoes m 6 false

/-- The last retire mark over the monitor is cleared. -/
def State.qmUnretire (s : State) (m : Nat) : State :=
  if s.qmSt m == 6 then (s.wr F.QM_STATUS_CAUSE m 0).qmGoes m (s.qmStart m) false else s

end Sys2Proof.Machine
end

