-- ==== Sys2Proof/Machine/Stamps.lean ====
section
/-! DEFINITION. The way of a stamp (R91, R92, R96–R98, R100, R106, R158): an edge into its channel's FIFO, the distributor,
and the publication of estimates. -/

namespace Sys2Proof.Machine

/-- Edges of channel c are seen: it is enabled, its domain runs and its unit is in service (R88, R98). -/
def State.edgesSeen (s : State) (c : Nat) : Bool :=
  s.rdB F.TDC_CH_CFG_ENABLE c && !s.td.gated && s.inService (uTDC c)

/-- A stamp that finds its FIFO full is dropped (R97). -/
def State.dropStamp (s : State) (c : Nat) (t : Int) : State :=
  let s := s.setChan c { s.chan c with dropNext := true, lastDrop := some t }
  let s := (s.bump F.TDC_CH_OVERRUN_COUNT c).mapGates c fun g => g.lost t
  let s := State.forAll 4 (fun k u =>
    let x := u.take k
    let within := match x.start, x.stop with
      | some a, some b => decide ((a : Int) ≤ t ∧ t < b)
      | _, _ => false
    let mine := (takeChannels x.pairs x.startCh x.stopCh x.mask).contains c
    if u.rd F.TAKE_STATUS_STATE k = 2 && within && mine then u.wr F.TAKE_STATUS_INCOMPLETE k 1 else u) s
  let s := (s.monsOf c).foldl (fun u m => u.modMon m fun q => { q with active := true }) s
  s.faultOnce 18 (uTDC c) 0 0

/-- Channel c carries the pulse of a time-of-day input that is on (R216), or of the partner's TIME messages (R319). -/
def State.isPulse (s : State) (c : Nat) : Bool :=
  ([0, 1].any fun j => s.rdB F.TODI_CFG_ENABLE j && min 27 (s.rd F.TODI_CFG_PULSE j) == c) || s.monChan 40 == some c

/-- A pulse stamp is kept for the messages that refer to it. -/
def State.notePulse (s : State) (c : Nat) (t : Int) : State :=
  if s.isPulse c then
    let x := s.chan c
    s.setChan c { x with pulses := (t, s.gen) :: x.pulses.filter fun p => t < p.1 + 3 * unitsPerSec }
  else s

/-- A stamp enters its FIFO and reaches its monitors (R97, R114). -/
def State.pushStamp (s : State) (c : Nat) (st : Stamp) : State :=
  let x := s.chan c
  let s := (s.setChan c { x with fifo := x.fifo ++ [st], dropNext := false }).notePulse c st.t
  let n := x.fifo.length + 1
  let s := s.wrAll [(F.TDC_CH_FIFO_LEVEL, c, n), (F.TDC_CH_FIFO_HIGH_WATER, c, max n (s.rd F.TDC_CH_FIFO_HIGH_WATER c))]
  (s.monsOf c).foldl (fun u m => u.qualStamp m c st) s

/-- EDGE_STAMP (R92, R96–R98): an edge leaves the prescaler of channel c. `coarse` is the time of the coarse edge that
sampled the line and `line` the calibrated, scaled line delay in 2⁻¹⁶ FRACTION units; since the edge before it the
comparator of an IN channel has made `comparator` edges and its discriminator has discarded `glitches` pulses (R91). -/
def State.edgeStamp (s : State) (c coarse line : Nat) (falling : Bool) (comparator glitches : Nat) : State :=
  if !s.edgesSeen c then s
  else
    let s := s.advanceTo coarse
    let s := s.when (c < 16) fun u => (u.wr F.IN_EDGES_COUNT c (u.rd F.IN_EDGES_COUNT c + comparator)).bumpBy
      F.IN_FILTER_GLITCHES c glitches
    let t := s.stampTime c coarse line falling
    let x := s.chan c
    let idx := x.edges
    let close := match x.lastEdge with
      | some p => decide (t - p < deadTime)
      | none => false
    let s := s.setChan c { x with edges := (x.edges + 1) % 2 ^ 48, lastEdge := some t }
    if !s.chanRunning c then s
    else if close then s.bump F.TDC_CH_SKIPS_COUNT c
    else if 128 ≤ x.fifo.length then s.dropStamp c t
    else s.pushStamp c { t := t, idx := idx, falling := falling, degraded := s.chanDegraded c,
                         dropBefore := x.dropNext }

/-- The running takes that take stamps of channel c. -/
def State.takesOf (s : State) (c : Nat) : List Nat :=
  (List.range 4).filter fun k =>
    let x := s.take k
    s.rd F.TAKE_STATUS_STATE k == 2 && (takeChannels x.pairs x.startCh x.stopCh x.mask).contains c

/-- A consumer of channel c refuses: the stream path's reel is full (R97, R100). -/
def State.refuses (s : State) (c : Nat) : Bool :=
  s.streamFull && (s.rdB F.TDC_CH_CFG_STREAM c || !(s.takesOf c).isEmpty)

/-- The unwrapped phase of a usable stamp (R133, R158): the stamp's distance from the grid of its edge index. -/
def State.unwrapped (s : State) (m c : Nat) (st : Stamp) : Option Int :=
  (s.mon m).origin.map fun o => o.2.2 + (st.t - o.1) - s.periods c ((st.idx : Int) - o.2.1)

/-- A usable stamp is its leaf's latest, and the DPLLs that follow the leaf may form a sample (R158). -/
def State.leafStamp (s : State) (c : Nat) (st : Stamp) : State :=
  if st.degraded || (s.evenOnly c && st.idx % 2 == 1) then s
  else (s.monsOf c).foldl (fun u m =>
    match u.unwrapped m c st with
    | some x =>
      let back := (u.now : Int) - st.t
      let at_ := u.tm.fine - u.fineFor back.toNat
      (u.modMon m fun q => { q with phase := some x, phaseAt := at_ }).delivers m
    | none => u) s

/-- STAMP_DISTRIBUTE (R97): the distributor offers the oldest stamp of channel c to all its consumers; it leaves the FIFO
when every one accepts. -/
def State.stampDistribute (s : State) (c : Nat) : State :=
  match (s.chan c).fifo with
  | [] => s
  | st :: rest =>
    if s.refuses c then s
    else
      let s := s.setChan c { s.chan c with fifo := rest, lastStamp := some st.t }
      let s := (s.wr F.TDC_CH_FIFO_LEVEL c rest.length).bumpWrap F.TDC_CH_STAMPS_COUNT c
      let s := s.when (s.rdB F.TDC_CH_CFG_STREAM c) (·.pushRecord (stampBits 0 c st) false)
      let s := State.forAll 4 (fun k u => u.takeStamp k c st) s
      let s0 := s
      let s := s.mapGates c fun g => s0.accumulate c g st
      (s.verifyStamp c st.t).leafStamp c st

/-- ESTIMATE_PUBLISH (R106, R116): the result of slot 0–27 (standing estimate) or 28–31 (EST0–EST3) is published. -/
def State.estimatePublish (s : State) (slot : Nat) : State :=
  if slot < 28 then
    let x := s.chan slot
    match x.result with
    | none => s
    | some r =>
      let ok := r.code == 1
      let s := s.setChan slot { x with result := none, offsetOk := ok, okAge := if ok then 0 else x.okAge + 1,
                                       offset := if ok then some r.offset else x.offset }
      s.monResult slot r
  else s.publishEst (slot - 28)

end Sys2Proof.Machine
end

