-- ==== Sys2Proof/Machine/Tree.lean ====
section
/-! DEFINITION. The reference tree (R132–R154): what leaves and nodes present, the structure check, cut and mix nodes, the
mix weights and their adaptation, the recipe of a root. -/

namespace Sys2Proof.Machine

/-- The whole of a weight: 32,768. -/
def wholeWeight : Nat := 32768

/-- A node slot beside its registers. -/
def State.node (s : State) (n : Nat) : NodeSt := s.tr.at n {}
/-- A node slot's own state set. -/
def State.setNode (s : State) (n : Nat) (x : NodeSt) : State := { s with tr := s.tr.set n x {} }

/-- A node's evaluation state is cleared (R152, R153). -/
def State.clearNode (s : State) (n : Nat) : State := s.setNode n {}

/-- WTR in epochs is only whether there is a wait at all: its end is the command WAIT_TO_RESTORE_END. -/
def State.hasWtr (s : State) (n : Nat) : Bool := s.rd F.TREE_NODE_CFG_WTR n != 0

/-- WAIT_TO_RESTORE_END (R145): the timer of an entry completes. -/
def State.wtrEnd (s : State) (n e : Nat) : State :=
  let x := s.node n
  let y := x.entries.at e {}
  if y.wtr then s.setNode n { x with entries := x.entries.set e { y with wtr := false, ended := true } {} } else s

/-! What leaves and nodes present. -/

/-- A leaf as it presents (R133); `none` while it is disqualified. -/
def State.leafShown (s : State) (m : Nat) : Option Presented :=
  let st := s.qmSt m
  if s.stage < 2 || !(st == 3 || st == 4) then none
  else
    let q := s.mon m
    let phase := (if 24 ≤ m ∧ m < 40 then q.phase else q.meanPhase).getD s.freeInt
    some { qualified := true, suspect := st == 4, cls := s.rd F.QM_CFG_CLASS m, ql := q.ql, freq := q.y.getD s.freeInt,
           phase := phase, leaves := [{ m := m, w := wholeWeight, o := 0 }], path := [], members := [] }

/-- The child that a reference code names, as it presents (Table 6.1). -/
def State.child (s : State) (code : Nat) : Option Presented :=
  if code < 0x2C then s.leafShown code else if 0x80 ≤ code then (s.node (code - 0x80)).shown else none

/-- R136: traceable. -/
def Presented.traceable (p : Presented) : Bool := p.qualified && p.cls == 1 && 0x10 ≤ p.ql && p.ql ≤ 0x2F

/-! The structure (R135). -/

/-- The entries of a node in force: code, lockout, priority or factor. -/
def State.nodeEntries (s : State) (n : Nat) : List (Nat × Bool × Nat) := (List.range 4).map (s.entryOf n)

/-- The entries that name something. -/
def usedCodes (l : List (Nat × Bool × Nat)) : List Nat := (l.map (·.1)).filter (· != 0x7F)

/-- REASON codes. -/
def trEMPTY : Nat := 1
def trBAD : Nat := 2
def trCYCLE : Nat := 3
def trDEEP : Nat := 4
def trZERO : Nat := 5
def trDUP : Nat := 6

/-- The first condition that a node's own entries meet, 0 for none. -/
def State.ownReason (s : State) (n : Nat) : Nat :=
  let es := s.nodeEntries n
  let cs := usedCodes es
  if cs.isEmpty then trEMPTY
  else if cs.any fun c => 0x2C ≤ c && c ≤ 0x7E then trBAD
  else if s.rdB F.TREE_NODE_CFG_KIND n && es.all fun x => x.1 == 0x7F || x.2.2 == 0 then trZERO
  else if cs.eraseDups.length != cs.length then trDUP
  else 0

/-- The children of a node that are slots of a list. -/
def State.nodeKids (s : State) (l : List Nat) (n : Nat) : List Nat :=
  ((usedCodes (s.nodeEntries n)).filter (0x80 ≤ ·)).map (· - 0x80) |>.filter l.contains

/-- What a set of slots reaches in `fuel` more steps. -/
def reach (kids : Nat → List Nat) : Nat → List Nat → List Nat
  | 0, l => l
  | fuel + 1, l => reach kids fuel (l ++ ((l.flatMap kids).filter fun x => !l.contains x).eraseDups)

/-- One round of levels: every node all of whose children have one gets its own; one past 8 counts as 0 and is too deep. -/
def levelRound (kids : Nat → List Nat) (l : List Nat) (known : List (Nat × Nat)) : List (Nat × Nat) :=
  l.foldl (fun k n =>
    if (k.any fun p => p.1 == n) || !((kids n).all fun c => k.any fun p => p.1 == c) then k
    else
      let below := (kids n).map fun c => ((k.find? fun p => p.1 == c).map (·.2)).getD 0
      let lv := 1 + below.foldl max 0
      (n, if 8 < lv then 0 else lv) :: k) known

/-- The levels after enough rounds. -/
def levelRounds (kids : Nat → List Nat) (l : List Nat) : Nat → List (Nat × Nat) → List (Nat × Nat)
  | 0, known => known
  | fuel + 1, known => levelRounds kids l fuel (levelRound kids l known)

/-- The enabled slots. -/
def State.enabledNodes (s : State) : List Nat := (List.range 128).filter fun n => s.rdB F.TREE_NODE_CFG_ENABLE n

/-- The check of every enabled slot (R135): slot, level, reason. -/
def State.structure_ (s : State) : List (Nat × Nat × Nat) :=
  let on_ := s.enabledNodes
  let good := on_.filter fun n => s.ownReason n == 0
  let kids := s.nodeKids good
  let cyclic := good.filter fun n => (reach kids good.length (kids n)).contains n
  let sound := good.filter fun n => !cyclic.contains n
  let kids2 := s.nodeKids sound
  let levels := levelRounds kids2 sound sound.length []
  on_.map fun n =>
    if s.ownReason n != 0 then (n, 0, s.ownReason n)
    else if cyclic.contains n then (n, 0, trCYCLE)
    else
      let lv := ((levels.find? fun p => p.1 == n).map (·.2)).getD 0
      (n, lv, if lv = 0 then trDEEP else 0)

/-! Wait-to-restore (R145). -/

/-- An entry's timer and history after an epoch that finds its child qualified or not. -/
def entryEpoch (x : EntrySt) (qualified hasWtr : Bool) : EntrySt :=
  if !qualified then { x with wtr := false, was := false }
  else if x.was then x
  else { x with was := true, ever := true, wtr := x.ever && hasWtr }

/-- The entries of a node at an epoch: number, code, lockout, priority or factor, what the child presents. -/
def State.entryKids (s : State) (n : Nat) : List (Nat × Nat × Bool × Nat × Option Presented) :=
  (List.range 4).filterMap fun e =>
    let x := s.entryOf n e
    if x.1 = 0x7F then none else some (e, x.1, x.2.1, x.2.2, s.child x.1)

/-- The timers of every entry take the epoch's findings. -/
def State.wtrEpoch (s : State) (n : Nat) : State :=
  let ks := s.entryKids n
  let x := s.node n
  s.setNode n { x with entries := ks.foldl (fun t k =>
    t.set k.1 (entryEpoch (t.at k.1 {}) k.2.2.2.2.isSome (s.hasWtr n)) {}) x.entries }

/-- The timer of an entry counts for nothing more: an idle node has taken it (R145). -/
def State.wtrTaken (s : State) (n : Nat) (es : List Nat) : State :=
  let x := s.node n
  s.setNode n { x with entries := x.entries.map fun p =>
    (p.1, { p.2 with wtr := p.2.wtr && !es.contains p.1, ended := false }) }

/-! Cut nodes (R143, R144, R146, R154). -/

/-- The key (S, Q, P, e) of a candidate as one number (R144). -/
def cutKey (qlMode : Bool) (e prio : Nat) (p : Presented) : Nat :=
  ((b2n p.suspect * 256 + if qlMode then p.ql else 0) * 16 + (if prio = 0 then 15 else prio)) * 4 + e

/-- The least of a list by a key. -/
def leastBy {α : Type} (key : α → Nat) : List α → Option α
  | [] => none
  | x :: l => match leastBy key l with
    | none => some x
    | some y => if key y < key x then some y else some x

/-- The entry a cut node selects, the force's effect (0 none, 1 forced, 2 blocked). -/
def State.cutChoice (s : State) (n : Nat) (cand : List (Nat × Nat × Presented)) : Option Nat × Nat :=
  let ql := s.rdB F.TREE_NODE_CFG_QL_MODE n
  let best := leastBy (fun c : Nat × Nat × Presented => cutKey ql c.1 c.2.1 c.2.2) cand
  let old := (s.node n).sel.bind fun e => cand.find? fun c => c.1 == e
  let pick := match best, old with
    | some b, some o =>
      if s.rdB F.TREE_NODE_CFG_REVERTIVE n || (o.2.2.suspect && !b.2.2.suspect) || (ql && b.2.2.ql < o.2.2.ql) then
        some b.1
      else some o.1
    | some b, none => some b.1
    | none, _ => none
  if s.rdB F.TREE_NODE_CFG_FORCE_EN n then
    let f := s.rd F.TREE_NODE_CFG_FORCE_CHILD n
    let x := s.entryOf n f
    if x.1 != 0x7F && !x.2.1 && (s.child x.1).isSome then (some f, 1) else (pick, 2)
  else (pick, 0)

/-- The reason of a changed selection (Table 14.8). -/
def State.cutReason (s : State) (n : Nat) (old new : Option Nat) (cand : List (Nat × Nat × Presented)) (forced : Bool) : Nat :=
  let ended := match new with
    | some e => ((s.node n).entries.at e {}).ended
    | none => false
  if forced then 3
  else match old with
    | some o =>
      if (s.entryOf n o).2.1 then 4
      else if !(cand.any fun c => c.1 == o) then 1
      else if ended then 5 else 2
    | none => if ended then 5 else 2

/-- What a node shows in TREE_NODE_STATUS. -/
structure NodeShow where
  ql : Nat := 0
  state : Nat := 0
  reason : Nat := 0
  level : Nat := 0
  cls : Nat := 0
  traceable : Bool := false
  blocked : Bool := false
  wtr : Nat := 0
  contrib : Nat := 0

/-- The status of a node is written. -/
def State.showNode (s : State) (n : Nat) (x : NodeShow) : State :=
  s.wrAll [(F.TREE_NODE_STATUS_QL, n, x.ql), (F.TREE_NODE_STATUS_STATE, n, x.state),
           (F.TREE_NODE_STATUS_REASON, n, x.reason), (F.TREE_NODE_STATUS_LEVEL, n, x.level),
           (F.TREE_NODE_STATUS_CLASS, n, x.cls), (F.TREE_NODE_STATUS_TRACEABLE, n, b2n x.traceable),
           (F.TREE_NODE_STATUS_PAIR_MISMATCH, n, b2n (s.cp.mismatched.contains (72 + n))),
           (F.TREE_NODE_STATUS_FORCE_BLOCKED, n, b2n x.blocked), (F.TREE_NODE_STATUS_WTR_RUNNING, n, x.wtr),
           (F.TREE_NODE_STATUS_CONTRIB, n, x.contrib)]

/-- The running timers of a node as bits. -/
def NodeSt.wtrBits (x : NodeSt) : Nat := ofBits ((x.entries.filter fun p => p.2.wtr).map (·.1))

/-- A node presents, and shows what it presents. -/
def State.present (s : State) (n level contrib cls : Nat) (blocked : Bool) (p : Option Presented) : State :=
  let s := s.setNode n { s.node n with shown := p }
  let base : NodeShow := { level := level, wtr := (s.node n).wtrBits, blocked := blocked, contrib := contrib }
  s.showNode n (match p with
    | some x => { base with ql := x.ql, state := if x.suspect then 4 else 3, cls := x.cls, traceable := x.traceable }
    | none => { base with state := 2, cls := cls })

/-- A cut node at an epoch. -/
def State.evalCut (s : State) (n level : Nat) : State :=
  let s := s.wtrEpoch n
  let x := s.node n
  let idle := s.rdB F.TREE_NODE_CFG_WTR_IDLE_SKIP n && x.sel.isNone
  let cand := (s.entryKids n).filterMap fun k => match k.2.2.2.2 with
    | some p => if !k.2.2.1 && (idle || !(x.entries.at k.1 {}).wtr) then some (k.1, k.2.2.2.1, p) else none
    | none => none
  let c := s.cutChoice n cand
  let new := c.1
  let s := if new = x.sel then s
    else
      let code := fun o : Option Nat => o.getD 0xFF
      s.later (.info 76 (uNODE n) (code x.sel * 2 ^ 80 + code new * 2 ^ 72 +
        s.cutReason n x.sel new cand (c.2 == 1) * 2 ^ 64))
  let s := s.setNode n { s.node n with sel := new, members := [], offsets := [] }
  let s := s.wtrTaken n (if idle then new.toList else [])
  let p := new.bind fun e =>
    let code := (s.entryOf n e).1
    (s.child code).map fun p => { p with path := (n, code) :: p.path }
  s.present n level (match new with
    | some e => 2 ^ e
    | none => 0) 0 (c.2 == 2) p

/-! Mix nodes (R147–R151). -/

/-- The nearest whole number; at the middle, one of the two (log 8). -/
def nearestQ (tag : Nat) (q : ℚ) : Int :=
  let f := ⌊q⌋
  if 2 * (q - f) < 1 then f else if 2 * (q - f) = 1 then roundQ tag q else f + 1

/-- Weights that sum to 32,768: each rounded to the nearest unit, the residual to the largest, lowest key on a tie
(R136, R150). -/
def normWeights (l : List (Nat × ℚ)) : List (Nat × Nat) :=
  let r := l.map fun x => (x.1, (nearestQ 70 x.2).toNat)
  let sum := (r.map (·.2)).sum
  let top := r.foldl (fun (m : Option (Nat × Nat)) x => match m with
    | none => some x
    | some y => if y.2 < x.2 ∨ (y.2 = x.2 ∧ x.1 < y.1) then some x else some y) none
  match top with
  | some t => r.map fun x => if x.1 = t.1 then (x.1, x.2 + wholeWeight - sum) else x
  | none => r

/-- Weights in proportion to positive shares. -/
def shareWeights (l : List (Nat × Nat)) : List (Nat × Nat) :=
  let sum := (l.map (·.2)).sum
  if sum = 0 then l.map fun x => (x.1, 0)
  else normWeights (l.map fun x => (x.1, ((wholeWeight * x.2 : Nat) : ℚ) / sum))

/-- The value of a key in a list of pairs. -/
def lookN (l : List (Nat × Nat)) (k : Nat) : Nat := ((l.find? fun p => p.1 == k).map (·.2)).getD 0
def lookI (l : List (Nat × Int)) (k : Nat) : Int := ((l.find? fun p => p.1 == k).map (·.2)).getD 0

/-- The node's phase over members with their weights, offsets and phases (R148). -/
def mixPhase (ws : List (Nat × Nat)) (os : List (Nat × Int)) (p : Nat → Int) : Int :=
  quotient 71 ((ws.map fun x => (x.2 : Int) * (p x.1 + lookI os x.1)).sum) wholeWeight

/-- The leaves of a mix: each member's leaves scaled by its weight, offsets added along the path, several paths summed
(R136, R138). -/
def mixLeaves (ws : List (Nat × Nat)) (os : List (Nat × Int)) (kid : Nat → Option Presented) : List RecLeaf :=
  let all : List (Nat × ℚ × Int) := (ws.filter fun x => x.2 != 0).flatMap fun x => match kid x.1 with
    | some p => p.leaves.map fun l => (l.m, ((x.2 * l.w : Nat) : ℚ) / wholeWeight, l.o + lookI os x.1)
    | none => []
  let codes := (all.map (·.1)).eraseDups
  let sums := codes.map fun m => (m, ((all.filter fun a => a.1 == m).map fun a => a.2.1).sum)
  (normWeights sums).map fun x =>
    { m := x.1, w := x.2, o := ((all.filter fun a => a.1 == x.1).map fun a => a.2.2).sum }

/-- The children of a mix node at an epoch that are eligible, and the members among them (R147). -/
def State.mixEligible (s : State) (n : Nat) (idle : Bool) : List (Nat × Nat × Nat × Presented) :=
  let x := s.node n
  (s.entryKids n).filterMap fun k => match k.2.2.2.2 with
    | some p =>
      if !k.2.2.1 && k.2.2.2.1 != 0 && p.cls == s.rd F.TREE_NODE_CFG_CLASS n && (idle || !(x.entries.at k.1 {}).wtr) then
        some (k.1, k.2.1, k.2.2.2.1, p)
      else none
    | none => none

/-- The members' weights and offsets after an epoch (R150): formation, leaves, joins. -/
def mixMembers (cls : Nat) (x : NodeSt) (mem : List (Nat × Nat × Nat × Presented)) :
    List (Nat × Nat) × List (Nat × Int) :=
  let fac := fun e => ((mem.find? fun k => k.1 == e).map fun k => k.2.2.1).getD 0
  let ph := fun e => ((mem.find? fun k => k.1 == e).map fun k => k.2.2.2.phase).getD 0
  let ids := mem.map (·.1)
  let stay := x.members.filter fun p => ids.contains p.1
  let join := ids.filter fun e => !(x.members.any fun p => p.1 == e)
  if stay.isEmpty then
    let ws := shareWeights (ids.map fun e => (e, fac e))
    let mean := quotient 72 ((ws.map fun w => (w.2 : Int) * ph w.1).sum) wholeWeight
    (ws, ids.map fun e => (e, if cls = 0 then mean - ph e else 0))
  else
    let sum := (stay.map (·.2)).sum
    let ws := if stay.length = x.members.length then stay
      else if sum = 0 then shareWeights (stay.map fun p => (p.1, fac p.1))
      else shareWeights stay
    let os := stay.map fun p => (p.1, lookI x.offsets p.1)
    let phi := mixPhase ws os ph
    (ws ++ join.map fun e => (e, 0), os ++ join.map fun e => (e, if cls = 0 then phi - ph e else 0))

/-- A mix node at an epoch. -/
def State.evalMix (s : State) (n level : Nat) : State :=
  let s := s.wtrEpoch n
  let x := s.node n
  let cls := s.rd F.TREE_NODE_CFG_CLASS n
  let idle := s.rdB F.TREE_NODE_CFG_WTR_IDLE_SKIP n && x.members.isEmpty
  let elig := s.mixEligible n idle
  let firm := elig.filter fun k => !k.2.2.2.suspect
  let mem := if firm.isEmpty then elig else firm
  let ids := mem.map (·.1)
  let old := x.members.map (·.1)
  let joined := ids.filter fun e => !old.contains e
  let left := old.filter fun e => !ids.contains e
  let mw := mixMembers cls x mem
  let kept := x.wander.filter fun p => elig.any fun k => k.1 == p.1
  let moved := kept.map fun p =>
    if joined.contains p.1 then (p.1, { p.2 with hist := p.2.hist.map (· + lookI mw.2 p.1) }) else p
  let changed := !joined.isEmpty || !left.isEmpty
  let s := if changed then s.later (.info 76 (uNODE n) (2 ^ 88 + ofBits joined * 2 ^ 60 + ofBits left * 2 ^ 56)) else s
  let s := s.setNode n { s.node n with sel := none, members := mw.1, offsets := mw.2, wander := moved,
                                       nextWeights := if changed then none else x.nextWeights }
  let s := s.wtrTaken n (if idle then ids else [])
  let kid := fun e => (mem.find? fun k => k.1 == e).map fun k => k.2.2.2
  let p : Option Presented := if mem.isEmpty then none else
    some { qualified := true, suspect := firm.isEmpty, cls := cls,
           ql := (mem.map fun k => k.2.2.2.ql).foldl max 0,
           freq := quotient 73 ((mw.1.map fun w => (w.2 : Int) * ((kid w.1).map (·.freq)).getD 0).sum) wholeWeight,
           phase := mixPhase mw.1 mw.2 (fun e => ((kid e).map (·.phase)).getD 0),
           leaves := mixLeaves mw.1 mw.2 kid,
           path := mem.flatMap fun k => k.2.2.2.path,
           members := (mem.map fun k => (n, k.2.1)) ++ mem.flatMap fun k => k.2.2.2.members }
  s.present n level (ofBits ids) cls false p

/-! Adaptation (R149, R150). -/

/-- (1 ps)² in the units of v, rounded up. -/
def wanderFloor : Nat := 18446744073710

/-- One more deviation of a child: the estimate is updated by its second difference, where there is one. -/
def wanderStep (x : Wander) (tau mem : Nat) (d : Int) : Wander :=
  let h := d :: x.hist
  let h2 := h.take (2 * tau + 1)
  if h.length ≤ 2 * tau then { x with hist := h2 }
  else
    let z := d - 2 * h.getD tau 0 + h.getD (2 * tau) 0
    let zz : Nat := (z * z).toNat * 2 ^ 32
    let v := if x.n = 0 then (zz : Int) else x.v + quotient 74 ((zz : Int) - x.v) (2 ^ mem)
    { v := max wanderFloor v.toNat, n := x.n + 1, hist := h2 }

/-- r_i: the weighted mean of the other members, or their plain mean. -/
def wanderRef (ws : List (Nat × Nat)) (val : Nat → Int) (e : Nat) : Int :=
  let o := ws.filter fun w => w.1 != e
  let sum := (o.map (·.2)).sum
  if o.isEmpty then 0
  else if sum = 0 then quotient 75 ((o.map fun w => val w.1).sum) o.length
  else quotient 75 ((o.map fun w => (w.2 : Int) * val w.1).sum) sum

/-- The target weights ŵ of the members (R149). -/
def wanderTargets (ws : List (Nat × Nat)) (fac : Nat → Nat) (wan : Tab Wander) : List (Nat × ℚ) :=
  let ok := fun e => 8 ≤ (wan.at e {}).n
  let wv : ℚ := (wholeWeight : ℚ) - ((ws.filter fun w => !ok w.1).map fun w => (w.2 : ℚ)).sum
  let share := fun e => (fac e : ℚ) / ((wan.at e {}).v : ℚ)
  let sum := ((ws.filter fun w => ok w.1).map fun w => share w.1).sum
  ws.map fun w => (w.1, if ok w.1 && sum != 0 then wv * share w.1 / sum else (w.2 : ℚ))

/-- One adaptation step of at most 512 (R150). -/
def adaptStep (ws : List (Nat × Nat)) (target : List (Nat × ℚ)) : List (Nat × Nat) :=
  let want := fun e => ((target.find? fun t => t.1 == e).map (·.2)).getD 0
  let most := ws.foldl (fun (m : ℚ) w => max m |want w.1 - w.2|) 0
  if most = 0 then ws
  else
    let a : ℚ := min 1 (512 / most)
    normWeights (ws.map fun w => (w.1, (w.2 : ℚ) + a * (want w.1 - w.2)))

/-- A mix node at a model epoch: the weights of the step before take effect, the wander estimates are updated, and the
next weights are formed. -/
def State.adaptNode (s : State) (n : Nat) : State :=
  let x := s.node n
  let x := match x.nextWeights with
    | some w => { x with members := w, nextWeights := none }
    | none => x
  if x.members.isEmpty then s.setNode n x
  else
    let s := s.setNode n x
    let elig := s.mixEligible n false
    let ph := fun e => ((elig.find? fun k => k.1 == e).map fun k => k.2.2.2.phase).getD 0
    let val := fun e => ph e + lookI x.offsets e
    let tau := 2 ^ min 10 (s.rd F.TREE_NODE_CFG_TAU_LOG n)
    let mem := max 2 (min 12 (s.rd F.TREE_NODE_CFG_MEM_LOG n))
    let wan := if x.members.length < 2 then x.wander
      else elig.foldl (fun (t : Tab Wander) k =>
        t.set k.1 (wanderStep (t.at k.1 {}) tau mem (val k.1 - wanderRef x.members val k.1)) {}) x.wander
    let fac := fun e => (s.entryOf n e).2.2
    s.setNode n { x with wander := wan, nextWeights := some (adaptStep x.members (wanderTargets x.members fac wan)) }

/-- MIX_ADAPTATION (R149, R150) of every enabled mix node. -/
def State.adaptMixes (s : State) : State :=
  if s.stage < 2 then s
  else s.enabledNodes.foldl (fun t n => if t.rdB F.TREE_NODE_CFG_KIND n then t.adaptNode n else t) s

/-! The epoch (R137). -/

/-- An invalid slot (R135, R151): it presents as disqualified, carries no weights, and raises source 21 at its first
epoch. -/
def State.invalidNode (s : State) (n reason : Nat) : State :=
  let was := (s.node n).wasInvalid
  let s := s.setNode n { s.node n with sel := none, members := [], offsets := [], wander := [], nextWeights := none,
                                       wasInvalid := true, shown := none }
  let s := s.showNode n { state := 1, reason := reason }
  s.when (!was) (·.later (.fault 21 (uNODE n) reason 0))

/-- One enabled slot is evaluated at its level. -/
def State.evalNode (s : State) (n level : Nat) : State :=
  if !s.inService (uNODE n) then
    (s.setNode n { s.node n with shown := none }).showNode n { state := 5, level := level }
  else if s.rdB F.TREE_NODE_CFG_KIND n then s.evalMix n level
  else s.evalCut n level

/-- TREE_EVALUATION (R137): every slot in ascending level and slot. -/
def State.treeEpoch (s : State) : State :=
  if s.stage < 2 then s
  else
    let str := s.structure_
    let s := State.forAll 128 (fun n t =>
      if t.rdB F.TREE_NODE_CFG_ENABLE n then t
      else if t.rd F.TREE_NODE_STATUS_STATE n = 0 && (t.node n).shown.isNone then t
      else (t.setNode n { t.node n with shown := none, wasInvalid := false }).showNode n {}) s
    let bad := str.filter fun x => x.2.2 != 0
    let s := bad.foldl (fun t x => t.invalidNode x.1 x.2.2) s
    let ok := str.filter fun x => x.2.2 == 0
    let s := ok.foldl (fun t x => t.setNode x.1 { t.node x.1 with wasInvalid := false, shown := none }) s
    [1, 2, 3, 4, 5, 6, 7, 8].foldl (fun t lv =>
      (ok.filter fun x => x.2.1 == lv).foldl (fun u x => u.evalNode x.1 lv) t) s

/-- The recipe of a root code (R138). -/
def State.recipeOf (s : State) (root : Nat) : Option Recipe :=
  (s.child root).map fun p =>
    { root := root, leaves := p.leaves, path := p.path.eraseDups, members := p.members.eraseDups, cls := p.cls,
      suspect := p.suspect, ql := p.ql, freq := p.freq, phase := p.phase }

/-- The recipe is traceable (R136). -/
def Recipe.traceable (r : Recipe) : Bool := r.cls == 1 && 0x10 ≤ r.ql && r.ql ≤ 0x2F

/-- R138: the change from one recipe to another is a recipe change, not a weight update. -/
def recipeChanges (cur want : Recipe) : Bool :=
  cur.root != want.root || (cur.path.any fun p => !want.path.contains p) ||
    (cur.members.any fun p => !want.members.contains p)

/-- The phase of a recipe from the leaves' present mean phases (R137). -/
def State.recipePhase (s : State) (r : Recipe) : Int :=
  quotient 76 ((r.leaves.map fun l =>
    let q := s.mon l.m
    (l.w : Int) * ((if 24 ≤ l.m ∧ l.m < 40 then q.phase else q.meanPhase).getD s.freeInt + l.o)).sum) wholeWeight

/-- The nodes whose decision is held by a switch in flight (R139). -/
def State.heldNodes (s : State) : List Nat :=
  ((List.range 16).flatMap fun d =>
    let p := s.dpll d
    match p.recipe, p.pending with
    | some cur, some want =>
      if s.dpSt d == 4 then
        ((want.path.filter fun x => !cur.path.contains x) ++ (cur.path.filter fun x => !want.path.contains x) ++
          (want.members.filter fun x => !cur.members.contains x) ++
          (cur.members.filter fun x => !want.members.contains x)).map (·.1)
      else []
    | _, _ => []).eraseDups

end Sys2Proof.Machine
end

