-- ==== Sys2Proof/Machine/DpllEpoch.lean ====
section
/-! DEFINITION. The DPLLs at a decision epoch (R137–R139, R163, R166, R167, R170, R319): what each decides from the tree's
recipe, and how a decision is carried out at the next boundary. -/

namespace Sys2Proof.Machine

/-- R166: ē and the mean word of the epoch's updates; with none, they stay as they were. -/
def State.meanErrors (s : State) (d : Nat) : State :=
  s.modDpll d fun p =>
    { p with eBar := if p.n = 0 then p.eBar else quotient 80 p.eSum p.n
             wBar := if p.wN = 0 then p.wBar else quotient 81 p.wSum p.wN
             eSum := 0, n := 0, wSum := 0, wN := 0 }

/-- DPLL_RANGE (R163): the root's frequency against the pull-in range. -/
def State.rangeEpoch (s : State) (d : Nat) (want : Option Recipe) : State :=
  let p := s.dpll d
  match want with
  | none => (s.setDpll d { p with rangeSeen := false }).wr F.DP_STATUS_RANGE d 0
  | some w =>
    let out := decide (p.cfg.pull < |w.freq|)
    let s := (s.setDpll d { p with yRoot := w.freq, rangeSeen := out }).wrB F.DP_STATUS_RANGE d out
    s.when (out && !p.rangeSeen) (·.later (.fault 23 (uDP d) 0 0))

/-- The lock and unlock criteria (R166). -/
def State.lockEpoch (s : State) (d : Nat) : State :=
  let st := s.dpSt d
  let p := s.dpll d
  let k := s.rd F.DP_STATUS_PROFILE d
  let ph := max 1 (s.rd F.PROF_LOCK_PHASE_LOCK_10PS k)
  let fr : Int := (max 1 (s.rd F.PROF_LOCK_FREQ_LOCK_FREQ k) * 1000000000 : Nat)
  let ok := |p.eBar| * 100 ≤ (ph * 65536 : Nat) && |p.wBar - p.yRoot| ≤ fr && !p.rangeSeen
  let far := decide ((s.rd F.PROF_UNLOCK_UNLOCK_10PS k * 65536 : Nat) < |p.eBar| * 100)
  if st == 2 || st == 3 then
    (s.setDpll d { p with unlockEpochs := if far then p.unlockEpochs + 1 else 0 }).wrB F.DP_STATUS_LOCK_OK d ok
  else s

/-- UNLOCK_N epochs in a row have met the unlock criteria. -/
def State.unlocks (s : State) (d : Nat) : Bool :=
  max 1 (s.rd F.PROF_UNLOCK_UNLOCK_N (s.rd F.DP_STATUS_PROFILE d)) ≤ (s.dpll d).unlockEpochs

/-- Δ of a change to a recipe (R138): free where there is none to change from (log 10). -/
def State.deltaTo (s : State) (d : Nat) (want : Recipe) : Int :=
  match (s.dpll d).recipe with
  | some cur => s.recipePhase want - s.recipePhase cur
  | none => s.freeInt

/-- DPLL d decides to leave its state, or to take a recipe, at the next boundary. -/
def State.dpDecides (s : State) (d : Nat) (a : DAct) : State := s.later (.dpll d (s.dpSt d) a)

/-- The switch to a recipe. -/
def State.dpSwitch (s : State) (d : Nat) (want : Recipe) (row : Nat) : State :=
  (s.dpDecides d (.switch want (s.deltaTo d want) row)).drawn

/-- What a DPLL that is building out does with the tree's recipe (R139). -/
def State.dpPending (s : State) (d : Nat) (cur : Recipe) (want : Option Recipe) : State :=
  match want with
  | none => s.modDpll d fun p => { p with lost := true, pending := none }
  | some w =>
    if recipeChanges cur w then s.modDpll d fun p => { p with pending := some w, lost := false }
    else (s.modDpll d fun p => { p with pending := none, lost := false }).dpDecides d (.adapt w)

/-- Table 7.4 at a decision epoch: the first row that applies to DPLL d. -/
def State.dpEpoch (s : State) (d : Nat) : State :=
  let st := s.dpSt d
  let want := s.recipeOf (s.rootCode d)
  let hold := s.rdB F.DP_CTRL_FORCE_HOLD d
  let p := s.dpll d
  if !s.rdB F.DP_CFG_ENABLE d then (if st = 0 || !s.inService (uDP d) then s else s.dpDecides d .disable)
  else if !s.dpFree d then s
  else if st = 0 then s.dpDecides d .enable
  else if s.stage < 2 then (if st = 1 then s else s.dpDecides d (.freeRun 2))
  else if s.rdB F.DP_CTRL_FORCE_FREE d then (if st = 1 then s else s.dpDecides d (.freeRun 3))
  else if st = 1 then
    match want with
    | some w => if hold then (if s.modelUsable d then s.dpDecides d (.hold 10) else s) else s.dpSwitch d w 9
    | none => if hold && s.modelUsable d then s.dpDecides d (.hold 10) else s
  else if st = 2 || st = 3 then
    if hold then s.dpDecides d (.hold 8)
    else match want with
      | none => s.dpDecides d (.hold 12)
      | some w =>
        match p.recipe with
        | none => s.dpSwitch d w 11
        | some cur =>
          if recipeChanges cur w then s.dpSwitch d w 11
          else
            let s := s.dpDecides d (.adapt w)
            if st = 3 && s.unlocks d then s.dpDecides d .unlock else s
  else if st = 4 then
    if p.done then
      match want with
      | some w => s.dpSwitch d w 13
      | none => s.dpDecides d (.hold 14)
    else match p.recipe with
      | some cur => s.dpPending d cur want
      | none => s
  else if st = 5 then
    match want with
    | some w => if hold then s.dpDecides d (.hold 12) else s.dpSwitch d w 11
    | none => s.dpDecides d (.hold 12)
  else match want with
    | some w => if hold then s else s.dpSwitch d w 11
    | none => s

/-- A leaf is corroborated by another (R170). -/
def State.corroborated (s : State) (d l : Nat) : Bool :=
  (List.range 44).any fun q =>
    s.rdB F.QM_CFG_CLASS q && s.rdB F.QM_CFG_VOTE q && s.qmSt q == 3 && !(s.dpll d).held.contains q &&
      match (s.mon l).meanRes, (s.mon q).meanRes with
      | some a, some b => decide (|a - b| < s.phaseThresh)
      | _, _ => false

/-- A held jump at an epoch (R170): corroboration slews it off, the departure of every held leaf clears it. -/
def State.heldEpoch (s : State) (d : Nat) : State :=
  let p := s.dpll d
  if !s.rdB F.DP_STATUS_HELD d then s
  else if p.held.any (s.corroborated d) then s.dpDecides d (.release true)
  else if p.held.all fun l => !(s.qmSt l == 3 || s.qmSt l == 4) then s.dpDecides d (.release false)
  else s

/-- R319: the standby's first alignment waits for PR0. -/
def State.alignEpoch (s : State) (d : Nat) : State :=
  let p := s.dpll d
  if d == s.timeDpll && s.isStandby && !p.aligned && p.everBuilt && s.dpSt d == 2 then
    match s.pr0Offset with
    | some j => s.dpDecides d (.align j)
    | none => s
  else s

/-- STANDBY_ALIGN (R320): the first epoch past the tolerance after ALIGNED. -/
def State.standbyEpoch (s : State) : State :=
  let d := s.timeDpll
  let far := (max 1 (min 1000 (s.peerRd F.PEER_TIMING_ALIGN_TOL_PS)) * 65536 : Nat) < |(s.dpll d).eBar| * 1000
  if s.isStandby && s.rdB F.PEER_STATUS_ALIGNED then
    if s.dpSt d != 3 then s.wr F.PEER_STATUS_ALIGNED 0 0
    else if far then
      ((s.wr F.PEER_STATUS_ALIGNED 0 0).later (.fault 46 (uDP d) (ofSigned 32 (quotient 82 ((s.dpll d).eBar * 10000) 65536)) 0))
    else s
  else s

/-- Every DPLL at a decision epoch. -/
def State.dpllEpochs (s : State) : State :=
  let s := State.forAll 16 (fun d t =>
    if t.inService (uDP d) then
      let t := t.meanErrors d
      let t := if t.dpSt d == 0 then t else t.rangeEpoch d (t.recipeOf (t.rootCode d))
      (((t.lockEpoch d).heldEpoch d).alignEpoch d).dpEpoch d
    else t) s
  let s := s.standbyEpoch
  let held := s.heldNodes
  s.enabledNodes.foldl (fun t n => t.wrB F.TREE_NODE_STATUS_PENDING n (held.contains n)) s

/-- A weight update (R138): the recipe's weights, offsets and values follow the tree without a build-out. -/
def State.adaptRecipe (s : State) (d : Nat) (want : Recipe) : State :=
  s.modDpll d fun p => { p with recipe := some want, yRoot := want.freq }

/-- A decision of the last epoch still stands: the DPLL is in the state it was decided in, or a freeze has come between
and the decision is a recipe's or a holdover's (Table 7.4). -/
def State.dpStands (s : State) (d old : Nat) (a : DAct) : Bool :=
  s.dpSt d == old || (s.dpSt d == 5 && (old == 2 || old == 3) && match a with
    | .switch _ _ _ => true
    | .hold _ => true
    | _ => false)

/-- A transition decided at the last epoch is carried out, if it stands and the DPLL still takes transitions (R20, R167). -/
def State.dpApply (s : State) (d old : Nat) (a : DAct) : State :=
  if !s.dpStands d old a then s
  else match a with
    | .disable => if s.inService (uDP d) then s.goFree d 0 1 else s
    | a =>
      if !s.dpFree d then s
      else match a with
        | .disable => s
        | .freeRun row => s.goFree d 1 row
        | .enable => s.enableDp d
        | .hold row => s.toHold d row
        | .switch w delta row => s.startBuild d w delta row
        | .adapt w => s.adaptRecipe d w
        | .unlock => s.setDp d 2 18
        | .release slew => s.releaseHeld d slew
        | .align j => if (s.dpll d).aligned then s else s.alignTime d j

end Sys2Proof.Machine
end

