-- ==== Sys2Proof/Machine/Ports.lean ====
section
/-! DEFINITION. Ethernet ports (R226–R251): link, transmit reference, time stamps, one-step insertion, ESMC, bridge pairs,
and the descriptors, frames and cues that ports send. -/

namespace Sys2Proof.Machine

/-- A port beside its registers. -/
def State.port (s : State) (p : Nat) : PortSt := s.po.at p {}
/-- A port's own state set. -/
def State.setPort (s : State) (p : Nat) (x : PortSt) : State := { s with po := s.po.set p x {} }

/-- A port counter advances (Table 10.7); it wraps. -/
def State.pcount (s : State) (p i : Nat) : State := s.bumpWrap F.PORT_COUNTER_COUNT (32 * p + i)

/-! Modes and links. -/

/-- The port's mode (Table 10.1). -/
def State.portMode (s : State) (p : Nat) : Nat := if s.rd F.PORT_CFG_MODE p ≤ 3 then s.rd F.PORT_CFG_MODE p else 0

/-- FEC as written; 3 acts as 0. -/
def State.fecAsked (s : State) (p : Nat) : Nat := s.rd F.PORT_CFG_FEC p % 3

/-- The FEC option in use: one that the mode does not offer acts as none (R226). -/
def State.portFec (s : State) (p : Nat) : Nat := if s.fecAsked p < s.portMode p then s.fecAsked p else 0

/-- PORT_STATUS.FEC_IGNORED. -/
def State.fecIgnored (s : State) (p : Nat) : Bool := s.fecAsked p != s.portFec p

/-- The port is on: enabled in a mode, in Stages 1–3. -/
def State.portOn (s : State) (p : Nat) : Bool := s.rdB F.PORT_CFG_ENABLE p && s.portMode p != 0 && s.stage != 0

/-- PORT_STATUS.LINK_UP. -/
def State.linkUp (s : State) (p : Nat) : Bool := s.rdB F.PORT_STATUS_LINK_UP p

/-- Line rate in Gb/s of the MAC. -/
def State.portGb (s : State) (p : Nat) : Nat := [1, 1, 10, 25].getD (s.portMode p) 1

/-! Bridge state (R240). -/

/-- The bridge pair of a port. -/
def brOf (p : Nat) : Nat := p / 2

/-- What BR_STATUS.STATE is to be: 0 `OFF`, 1 `MISMATCH`, 2 `DOWN`, 3 `FORWARDING`. -/
def State.bridgeWants (s : State) (b : Nat) : Nat :=
  if !s.rdB F.BR_CFG_ENABLE b || s.stage == 0 then 0
  else if !s.portOn (2 * b) || !s.portOn (2 * b + 1) || s.portMode (2 * b) != s.portMode (2 * b + 1) then 1
  else if !s.linkUp (2 * b) || !s.linkUp (2 * b + 1) then 2
  else 3

/-- A pair's state follows its ports and its configuration; each change emits source 93. -/
def State.bridgeReview (s : State) (b : Nat) : State :=
  if s.rd F.BR_STATUS_STATE b = s.bridgeWants b then s
  else (s.wr F.BR_STATUS_STATE b (s.bridgeWants b)).info 93 (uBR b) 0 0 0

/-- The port's pair is `FORWARDING`. -/
def State.bridged (s : State) (p : Nat) : Bool := s.rd F.BR_STATUS_STATE (brOf p) == 3

/-- LINK_UP (R227): CDR, lock, FEC lock where FEC is in use and auto-negotiation with AN37 are complete. -/
def State.linkUpNow (s : State) (p : Nat) : State :=
  if !s.portOn p || s.linkUp p || !s.inService (uP p) then s
  else
    let s := s.wrAll [(F.PORT_STATUS_LINK_UP, p, 1), (F.PORT_STATUS_CDR_LOCK, p, 1), (F.PORT_STATUS_BLOCK_LOCK, p, 1),
                      (F.PORT_STATUS_FEC_LOCK, p, b2n (s.portFec p != 0)),
                      (F.PORT_STATUS_AN_DONE, p, b2n (s.portMode p == 1 && s.rdB F.PORT_CFG_AN37 p))]
    ((s.setPort p { s.port p with upAt := some s.tm.elapsed }).info 91 (uP p) 0 0 0).bridgeReview (brOf p)

/-- LINK_DOWN (R227): the link of a port that was up is lost, with the CDR's lock or without: source 30, source 91. -/
def State.linkDownNow (s : State) (p : Nat) (cdr : Bool) : State :=
  if !s.linkUp p then s
  else
    let s := s.wrAll [(F.PORT_STATUS_LINK_UP, p, 0), (F.PORT_STATUS_BLOCK_LOCK, p, 0), (F.PORT_STATUS_FEC_LOCK, p, 0),
                      (F.PORT_STATUS_AN_DONE, p, 0)]
    let s := s.when cdr fun t => t.wr F.PORT_STATUS_CDR_LOCK p 0
    let s := ((s.setPort p { s.port p with upAt := none }).pcount p 24).fault 30 (uP p) 0 0
    (s.info 91 (uP p) 0 0 0).bridgeReview (brOf p)

/-- CDR_LOCK (R230): the receive CDR locks; the LN divider restarts and the LN channel gets edges. -/
def State.cdrLock (s : State) (p : Nat) : State :=
  if s.portOn p && s.inService (uP p) then s.wr F.PORT_STATUS_CDR_LOCK p 1 else s

/-- RESTART_EQ (R228): adaptation restarts from its initial settings; the link stays up. -/
def State.restartEq (s : State) (p : Nat) : State := if s.portOn p then s.pcount p 30 else s

/-! Transmit reference (R229). -/

/-- The loop a port names as its transmit reference; 0 for the TCXO. -/
def State.txLoop (s : State) (p : Nat) : Nat := if s.rd F.PORT_CFG_TX_REF p ≤ 4 then s.rd F.PORT_CFG_TX_REF p else 0

/-- PORT_STATUS.TX_REF_BAD: the selected loop's active N_nom is not 40. -/
def State.txRefBad (s : State) (p : Nat) : Bool :=
  s.txLoop p != 0 && (s.loopSt (s.txLoop p)).act.nominal != 40 * 2 ^ 48

/-- LANE_REF_FALLBACK: the selected loop is not `RUNNING`; the lane PLL moves to the TCXO. -/
def State.laneFallback (s : State) (p : Nat) : State :=
  if s.txLoop p != 0 && !s.txRefBad p && !s.loopRunning (s.txLoop p) && s.portOn p &&
      !s.rdB F.PORT_STATUS_TX_REF_FALLBACK p then
    ((s.wr F.PORT_STATUS_TX_REF_FALLBACK p 1).pcount p 28).fault 31 (uP p) (s.rd F.PORT_CFG_TX_REF p) 0
  else s

/-- LANE_REF_RETURN: the loop has been `RUNNING` for 1 s. -/
def State.laneReturn (s : State) (p : Nat) : State :=
  if s.rdB F.PORT_STATUS_TX_REF_FALLBACK p && s.loopRunning (s.txLoop p) then
    s.wr F.PORT_STATUS_TX_REF_FALLBACK p 0
  else s

/-! Time stamps (R233, R235). -/

/-- The module's own clockIdentity, or that of its pair while it is paired (R253). -/
def State.clockIdent (s : State) : Nat :=
  match s.pr.pairId with
  | some x => if s.isSole then s.id_.clockId else x
  | none => s.id_.clockId

/-- Factory latency of a direction for the active mode and FEC. -/
def State.latency (s : State) (dir p : Nat) : Nat := Config.portLatency dir p (s.portMode p) (s.portFec p)

/-- The timestamp point of a transmitted frame at the pins. -/
def State.txTime (s : State) (p : Nat) (pcs : Int) : Int :=
  pcs + s.latency 0 p + psToUnits (s.rdI F.PORT_TS_ADJ_TX_ADJ p)

/-- The timestamp point of a received frame at the pins. -/
def State.rxTime (s : State) (p : Nat) (pcs : Int) : Int :=
  pcs - s.latency 1 p - psToUnits (s.rdI F.PORT_TS_ADJ_RX_ADJ p)

/-- A stamp taken in a degraded interval is counted (R200, R235). -/
def State.noteStamp (s : State) (p : Nat) : State := s.when s.degradedNow (·.pcount p 29)

/-! PTP messages (R236–R238). -/

/-- Headers within which a port finds a PTP message. -/
def State.ptpHeaders (s : State) (p : Nat) (f : Frame) : Bool :=
  f.tags ≤ 2 && match f.net with
    | .ptp2 => s.rdB F.PORT_PTP_CFG_L2 p
    | .udp4 h _ _ u => s.rdB F.PORT_PTP_CFG_IPV4 p && 20 ≤ h && h ≤ 60 && (u.dport == 319 || u.dport == 320)
    | .udp6 e _ _ u => s.rdB F.PORT_PTP_CFG_IPV6 p && e ≤ 64 && (u.dport == 319 || u.dport == 320)
    | _ => false

/-- A PTP message's versions. -/
def Ptp.versionOk (m : Ptp) : Bool := m.version == 2 && m.minor ≤ 1

/-- The PTP message in a frame, if it is one. -/
def State.ptpOf (s : State) (p : Nat) (f : Frame) : Option Ptp :=
  match f.body with
  | .ptp m => if s.ptpHeaders p f && m.versionOk then some m else none
  | _ => none

/-- The frame matches in all but its version. -/
def State.ptpMismatch (s : State) (p : Nat) (f : Frame) : Bool :=
  match f.body with
  | .ptp m => s.ptpHeaders p f && !m.versionOk
  | _ => false

/-- Event messages: Sync, Delay_Req, Pdelay_Req, Pdelay_Resp. -/
def Ptp.isEvent (m : Ptp) : Bool := m.mtype ≤ 3

/-- The greatest correctionField. -/
def corrMax : Int := 0x7FFFFFFFFFFFFFFF

/-- An amount added to correctionField, and whether the sum saturates (R237). -/
def Ptp.addCorrection (m : Ptp) (c : Int) : Ptp × Bool :=
  if corrMax < m.correction + c then ({ m with correction := corrMax }, true)
  else ({ m with correction := m.correction + c }, false)

/-- A one-step insertion (R237): Sync takes t_tx, Pdelay_Resp the time since its request; no other message takes one. -/
def Ptp.insert (m : Ptp) (t tReq : Nat) : Option (Ptp × Bool) :=
  if m.twoStep then none
  else if m.mtype = 0 then
    some ({ m with sec := t / unitsPerSec % 2 ^ 48, ns := t % unitsPerSec / unitsPerNs }.addCorrection
      ((t % unitsPerNs : Nat) : Int))
  else if m.mtype = 3 then some (m.addCorrection ((t : Int) - tReq))
  else none

/-- The 16-bit words of a message that an insertion can change. -/
def Ptp.words (m : Ptp) : List Nat :=
  let c := ofSigned 64 m.correction
  [bitsOf c 48 16, bitsOf c 32 16, bitsOf c 16 16, bitsOf c 0 16, bitsOf m.sec 32 16, bitsOf m.sec 16 16,
   bitsOf m.sec 0 16, bitsOf m.ns 16 16, bitsOf m.ns 0 16]

/-- The checksum-complement trailer after a change of the message, so that the UDP checksum stays valid (R238): a
difference in one's complement. Zero has two words there, and the spec names neither (log 9). -/
def State.trailerFor (s : State) (old new : Ptp) (u : Udp) : Nat :=
  let swap := fun w : Nat => if u.payload % 2 = 1 then w % 256 * 256 + w / 256 else w
  let d : Int := ((swap u.trailer + old.words.sum : Nat) : Int) - new.words.sum
  let r := (d % 65535).toNat
  swap (if r = 0 && s.freeBool then 65535 else r)

/-- A UDP payload has room for the trailer (R238). -/
def Udp.hasTrailer (u : Udp) (m : Ptp) : Bool := m.length + 2 ≤ u.payload

/-- The frame with a changed message (R238): none for IPv6 without a trailer. -/
def State.withMessage (s : State) (f : Frame) (old new : Ptp) : Option Frame :=
  match f.net with
  | .udp4 h a b u => some { f with net := .udp4 h a b { u with sum := 0 }, body := .ptp new }
  | .udp6 e a b u =>
    if u.hasTrailer old then some { f with net := .udp6 e a b { u with trailer := s.trailerFor old new u }, body := .ptp new }
    else none
  | _ => some { f with body := .ptp new }

/-- Completion statuses of Table 12.9. -/
def csOK : Nat := 0
def csZERO : Nat := 1
def csLONG : Nat := 2
def csPARAM : Nat := 3
def csTIME : Nat := 4
def csDOWN : Nat := 5
def csBRIDGED : Nat := 6
def csNOTONE : Nat := 7
def csTRAILER : Nat := 8
def csLATE : Nat := 9
def csFAR : Nat := 10
def csRETIRED : Nat := 11
def csCANCELLED : Nat := 12
def csDMA : Nat := 13
def csSHORT : Nat := 14

/-- A frame leaves port p with its timestamp point at `t`: one-step insertion where it is asked for, stamp where it is
wanted, counters. The status is `OK`, `NOT_ONE_STEP` or `NO_TRAILER`. -/
def State.sendFrame (s : State) (p : Nat) (f : Frame) (t : Nat) (stamp oneStep : Bool) (tReq : Nat) : State × Nat :=
  let go := fun (s : State) (f : Frame) (status : Nat) =>
    let ev := match s.ptpOf p f with
      | some m => m.isEvent
      | none => false
    let s := ((s.pcount p 1).when ev (·.pcount p 7)).when (stamp || oneStep) (·.noteStamp p)
    (s.emitOut (.frame p (if stamp || oneStep then some t else none) f), status)
  if !oneStep then go s f csOK
  else match s.ptpOf p f with
    | none => go (s.pcount p 11) f csNOTONE
    | some m => match m.insert t tReq with
      | none => go (s.pcount p 11) f csNOTONE
      | some (m', sat) => match s.withMessage f m m' with
        | none => (s.pcount p 12, csTRAILER)
        | some f' => go (((s.drawn).pcount p (if m.mtype = 0 then 9 else 10)).when sat (·.pcount p 13)) f' csOK

/-! Frames for the host (R291). -/

/-- A receive reel of content frames. -/
def State.framesReel (s : State) (i : Nat) : Option Nat :=
  match s.reel? (64 + i) with
  | some x => if x.records then none else some (64 + i)
  | none => none

/-- A frame goes whole into the next buffer of a receive reel, without its FCS; a copy says so. With no usable reel or
buffer it is dropped and counted in port counter 31. -/
def State.deliver_ (s : State) (reel : Option Nat) (p : Nat) (f : Frame) (t : Int) (degraded copy : Bool) : State :=
  match reel with
  | none => s.pcount p 31
  | some r =>
    let s := State.skipBuffers 65536 s r
    match s.reel? r with
    | none => s.pcount p 31
    | some x =>
      match x.bufs with
      | [] => s.pcount p 31
      | b :: l =>
        let len := f.bytes - 4
        let s := s.putReel r { x with bufs := l }
        let c : Compl := { status := if b.length < len then csLONG else csOK, slot := b.slot, cookie := b.cookie,
                           stamped := true, degraded := degraded, copy := copy, gen := s.gen, time := t.toNat,
                           length := len, port := p }
        (s.when (len ≤ b.length) (·.emitOut (.hostFrame b.addr f))).complete r c

/-- A frame of Table 11.2 row 5 from port p (R291). -/
def State.toHost (s : State) (p : Nat) (f : Frame) (t : Int) (degraded : Bool) : State :=
  s.deliver_ (if s.rdB F.HOST_PORT_RX_ENABLE p then s.framesReel (s.rd F.HOST_PORT_RX_REEL p) else none) p f t degraded
    false

/-! ESMC (R231, R232). -/

/-- An ESMC PDU, or what looks like one: slow protocol with subtype 0x0A to the slow-protocol address. -/
def esmcOf (f : Frame) : Option Esmc :=
  match f.net, f.body with
  | .slow, .esmc m => if m.subtype == 0x0A && f.dst == 0x0180C2000002 then some m else none
  | _, _ => none

/-- R231: the PDU is accepted. -/
def Esmc.accepted (m : Esmc) : Bool :=
  m.oui == 0x0019A7 && m.itu == 1 && m.version == 1 && m.qlType == 1 && m.qlLen == 4 &&
    match m.ext with
    | some e => e.tlvType == 2 && e.tlvLen == 20
    | none => true

/-- ESMC_RX (R231): the oldest PDU the dispatcher handed to the port is accepted, and its level waits for the monitor's
next epoch (R122), or rejected. -/
def State.esmcTake (s : State) (p : Nat) (m : Esmc) : State :=
  if !s.rdB F.PORT_SYNCE_CFG_ESMC_RX p then s
  else if !m.accepted then s.pcount p 15
  else
    let e := m.ext.map (·.essm)
    let s := s.pcount p 14
    let s := s.wrAll [(F.PORT_ESMC_STATUS_RX_SSM, p, m.ssm), (F.PORT_ESMC_STATUS_RX_ESSM_VALID, p, b2n e.isSome)]
    let s := match e with
      | some v => s.wr F.PORT_ESMC_STATUS_RX_ESSM p v
      | none => s
    let s := s.setPort p { s.port p with esmcAt := some s.tm.elapsed
                                         origin := m.ext.map fun x => (x.originator, x.cascade1, x.cascade2) }
    s.modMon (16 + p) fun q => { q with rawNext := some (match e with
                                          | some v => (v, true)
                                          | none => (m.ssm, false))
                                        lastEsmc := some s.tm.elapsed }

/-- The oldest frame in the inbox that a receiver is to take, and the inbox without it. -/
def takeFrom (want : RxFrame → Bool) : List RxFrame → Option (RxFrame × List RxFrame)
  | [] => none
  | r :: l => if want r then some (r, l) else (takeFrom want l).map fun x => (x.1, r :: x.2)

/-- A frame that port p handed to the server, with a PTP message of this type. -/
def RxFrame.forServer (p ty : Nat) (r : RxFrame) : Bool :=
  r.taker == 3 && r.port == p && (match r.frame.body with
    | .ptp m => m.mtype == ty
    | _ => false)

/-- The oldest frame for a receiver leaves the inbox. -/
def State.takeRx (s : State) (want : RxFrame → Bool) : Option (RxFrame × State) :=
  (takeFrom want s.sv.inbox).map fun x => (x.1, { s with sv := { s.sv with inbox := x.2 } })

/-- ESMC_RX of port p. -/
def State.esmcRx (s : State) (p : Nat) : State :=
  match s.takeRx fun r => r.taker == 1 && r.port == p with
  | none => s
  | some (r, s) => match esmcOf r.frame with
    | some m => s.esmcTake p m
    | none => s

/-- The root whose trace a port's transmit frequency has: its loop's DPLL, if it runs on a steered loop. -/
def State.portDpll (s : State) (p : Nat) : Option Nat :=
  let a := s.txLoop p
  if a == 0 || s.txRefBad p || s.rdB F.PORT_STATUS_TX_REF_FALLBACK p || !(s.loopSt a).act.steered then none
  else some (s.loopSt a).act.dpll

/-- Leaves with a weight in a DPLL's recipe. -/
def State.traceLeaves (s : State) (d : Nat) : List RecLeaf :=
  match (s.dpll d).recipe with
  | some r => r.leaves.filter fun l => l.w != 0
  | none => []

/-- The code a port sends (Table 10.3), and LOOP_BLOCKED. -/
def State.esmcAuto (s : State) (p : Nat) : Nat × Bool :=
  match s.portDpll p with
  | none => (0xF0, false)
  | some d =>
    if s.dpState d < 2 then (0xF0, false)
    else if (s.traceLeaves d).any fun l => l.m == 16 + p then (0xF0, true)
    else if 5 ≤ s.dpState d then (s.rd F.PORT_SYNCE_CFG_HOLDOVER_QL p, false)
    else match s.child (s.rootCode d) with
      | some c => (c.ql, false)
      | none => match (s.dpll d).recipe with
        | some r => (r.ql, false)
        | none => (0xF0, false)

/-- What a port sends under ESMC_TX: none with ESMC off or on a forwarding pair; DNU from a module that is not `ACTIVE` with
automatic ESMC (R321). -/
def State.esmcLevel (s : State) (p : Nat) : Option (Nat × Bool) :=
  if s.bridged p then none
  else if s.rd F.PORT_SYNCE_CFG_ESMC_TX p = 1 then some (if s.isStandby then (0xF0, false) else s.esmcAuto p)
  else if s.rd F.PORT_SYNCE_CFG_ESMC_TX p = 2 then some (s.rd F.PORT_SYNCE_CFG_FIXED_QL p, false)
  else none

/-- A code as an SSM (R232). -/
def codeSsm (c : Nat) : Nat :=
  if 0x10 ≤ c && c ≤ 0x40 then 0x2 else if 0x41 ≤ c && c ≤ 0x50 then 0x4 else if 0x51 ≤ c && c ≤ 0x60 then 0x8
  else if 0x61 ≤ c && c ≤ 0x80 then 0xB else 0xF

/-- A code as an enhanced SSM code (log 24). -/
def codeEssm (c : Nat) : Nat :=
  if c = 0x10 then 0x21 else if c = 0x20 then 0x20 else if c = 0x30 then 0x23 else if c = 0x70 then 0x22 else 0xFF

/-- The extended QL TLV a port sends (R232): its own identity as originator when the root has no LN leaf, otherwise the one
received on the heaviest LN leaf's port with its cascade counts raised. The counts beside the module's own identity are not
stated (log 10). -/
def State.extQl (s : State) (p code : Nat) : ExtQl :=
  let lns := match s.portDpll p with
    | some d => (s.traceLeaves d).filter fun l => 16 ≤ l.m && l.m < 24
    | none => []
  let got := match leastBy (fun l : RecLeaf => (wholeWeight - l.w) * 256 + l.m) lns with
    | some l => (s.port (l.m - 16)).origin
    | none => none
  match got with
  | some o => { essm := codeEssm code, originator := o.1, cascade1 := o.2.1 + 1, cascade2 := o.2.2 + 1 }
  | none => { essm := codeEssm code, originator := s.clockIdent, cascade1 := s.freeNat % 256,
              cascade2 := Config.freeNat (s.freeCtr + 1) % 256 }

/-- The port's MAC address. -/
def State.portMac (s : State) (p : Nat) : Nat := s.rd F.PORT_MAC_HI_ADDR p * 2 ^ 32 + s.rd F.PORT_MAC_LO_ADDR p

/-- An ESMC PDU leaves port p with the level in its TX_QL. -/
def State.esmcSend (s : State) (p : Nat) (event : Bool) : State :=
  if !s.linkUp p then s
  else
    let code := s.rd F.PORT_ESMC_STATUS_TX_QL p
    let m : Esmc := { event := event, ssm := codeSsm code,
                      ext := if s.rdB F.PORT_SYNCE_CFG_ESSM_TX p then some (s.extQl p code) else none }
    let s := ((s.drawn).drawn.pcount p 16).when event (·.pcount p 17)
    (s.pcount p 1).emitOut (.frame p none { dst := 0x0180C2000002, src := s.portMac p, net := .slow, body := .esmc m })

/-- ESMC_TX (R232): at each whole second an information PDU; a change of level not yet shown is the epoch's. -/
def State.esmcTx (s : State) (p : Nat) : State :=
  match s.esmcLevel p with
  | none => s
  | some _ => s.esmcSend p false

/-- The decision epoch's part of R232: a changed level is shown, an event PDU and source 92 follow at the boundary. -/
def State.esmcEpoch (s : State) : State :=
  State.forAll 8 (fun p t =>
    match t.esmcLevel p with
    | none => t
    | some (c, b) =>
      let old := t.rd F.PORT_ESMC_STATUS_TX_QL p
      let t := t.wrAll [(F.PORT_ESMC_STATUS_TX_QL, p, c), (F.PORT_ESMC_STATUS_TX_SSM, p, codeSsm c),
                        (F.PORT_ESMC_STATUS_LOOP_BLOCKED, p, b2n b)]
      if old = c then t else t.later (.esmc p)) s

/-- The changed level takes effect. -/
def State.esmcChanged (s : State) (p : Nat) : State := (s.info 92 (uP p) 0 0 0).esmcSend p true

/-! Bridge pairs (R241–R243). -/

/-- R_b in FRACTION units for a mode. -/
def residence (mode : Nat) : Nat := if mode = 3 then 11796480 else if mode = 2 then 15728640 else if mode = 1 then 78643200 else 0

/-- OFFSET_in of an ingress port, with rate compensation active (R241). -/
def State.ingressOffset (s : State) (b p : Nat) : Option Int :=
  let x := s.chan (16 + p)
  if s.rdB F.BR_CFG_RATE_COMP b && x.okAge < 3 then x.offset else none

/-- C of R241, rounded to the nearest FRACTION unit. -/
def State.bridgeC (s : State) (b p : Nat) : Int :=
  let n : Int := residence (s.portMode p) * yOne
  let d : Int := yOne + (s.ingressOffset b p).getD 0
  (2 * n + d) / (2 * d)

/-- A counter of pair b: 0 frames, 1 corrected, 2 no trailer, 3 saturated, 4 dropped. -/
def State.bcount (s : State) (b i : Nat) : State := s.bumpWrap F.BR_COUNTER_COUNT (5 * b + i)

/-- The frame as it leaves the pair (R242): selected event messages get C added. -/
def State.bridgeCorrect (s : State) (b p : Nat) (f : Frame) : State × Frame :=
  match s.ptpOf p f with
  | none => (s, f)
  | some m =>
    if !(m.isEvent && bitOf (s.rd F.BR_CFG_CORRECT b) m.mtype) then (s, f)
    else
      let r := m.addCorrection (s.bridgeC b p)
      match s.withMessage f m r.1 with
      | none => ((s.bcount b 2).faultOnce 32 (uBR b) p 0, f)
      | some f' => ((s.drawn.bcount b 1).when r.2 (·.bcount b 3), f')

/-- Received-frame counters: 0, and 5, 6, 8 for PTP. -/
def State.countRx (s : State) (p : Nat) (f : Frame) : State :=
  let s := s.pcount p 0
  match s.ptpOf p f with
  | some m => s.pcount p (if m.isEvent then 5 else 6)
  | none => s.when (s.ptpMismatch p f) (·.pcount p 8)

/-- A frame within the lengths of R227; shorter ones count as runts, longer ones as oversize. -/
def State.rxLength (s : State) (p : Nat) (f : Frame) : State × Bool :=
  if f.bytes < 64 then (s.pcount p 3, false) else if 9216 < f.bytes then (s.pcount p 4, false) else (s, true)

/-- BRIDGE_FORWARD (R240–R244): a frame enters pair b at its odd or even port. -/
def State.bridgeForward (s : State) (b : Nat) (odd : Bool) (pcs : Int) (f : Frame) : State :=
  let p := 2 * b + b2n odd
  let q := 2 * b + 1 - b2n odd
  if s.rd F.BR_STATUS_STATE b ≠ 3 then s
  else if !s.inService (uBR b) then s.bcount b 4
  else
    let l := s.rxLength p f
    if !l.2 then l.1
    else
      let t := s.rxTime p pcs
      let s := ((s.countRx p f).when (!f.fcsOk) (·.pcount p 2)).noteStamp p
      let s := match esmcOf f with
        | some _ => { s with sv := { s.sv with inbox := s.sv.inbox ++ [(⟨1, 0, p, t, s.gen, s.degradedNow, f⟩ : RxFrame)] } }
        | none => s
      let s := s.when (s.rdB F.BR_CFG_COPY_PTP b && (s.ptpOf p f).isSome) fun u =>
        u.deliver_ (u.framesReel (u.rd F.BR_CFG_COPY_REEL b)) p f t u.degradedNow true
      let r := s.bridgeCorrect b p f
      let ev := match r.1.ptpOf p f with
        | some m => m.isEvent
        | none => false
      (((r.1.bcount b 0).pcount q 1).when ev (·.pcount q 7)).emitOut (.frame q none r.2)

/-! Transmit descriptors (R289, R290). -/

/-- Fields of a descriptor's base (Table 12.4), in the upper half of the 512 bits. -/
def TxDesc.base (d : TxDesc) (lo w : Nat) : Nat := bitsOf d.bits (256 + lo) w
def TxDesc.port (d : TxDesc) : Nat := d.base 41 3
def TxDesc.cookie (d : TxDesc) : Nat := d.base 64 32
def TxDesc.isGather (d : TxDesc) : Bool := d.base 44 1 == 1
def TxDesc.stamp (d : TxDesc) : Bool := d.base 40 1 == 1
def TxDesc.oneStep (d : TxDesc) : Bool := d.base 39 1 == 1
def TxDesc.tReq (d : TxDesc) : Nat := ofT96 (d.base 160 96)
/-- Fields of format 2 (Table 12.5). -/
def TxDesc.isCue (d : TxDesc) : Bool := bitOf d.bits 159
def TxDesc.launch (d : TxDesc) : Nat := ofT96 (bitsOf d.bits 160 96)
def TxDesc.cueTag (d : TxDesc) : Nat := bitsOf d.bits 143 16
/-- The frame's length without FCS. -/
def TxDesc.len (d : TxDesc) : Nat := if d.isGather then d.gather else d.base 50 14

/-- The frame as the port sends it: padded to 60 bytes, with its FCS. -/
def TxDesc.onWire (d : TxDesc) : Frame := { d.frame with bytes := max d.len 60 + 4, fcsOk := true }

/-- What is wrong with a descriptor (R289, R290), if anything. -/
def TxDesc.wrong (d : TxDesc) : Option Nat :=
  if d.base 0 39 != 0 || bitsOf d.bits 0 143 != 0 then some csPARAM
  else if d.isGather && 16 < d.base 45 5 then some csPARAM
  else if (d.isGather && d.base 45 5 == 0) || d.len == 0 then some csZERO
  else if d.len < 14 then some csPARAM
  else if 9212 < d.len then some csLONG
  else if d.isCue && !t96Legal (bitsOf d.bits 160 96) then some csTIME
  else none

/-- A transmit descriptor completes. -/
def State.txDone (s : State) (d : TxDesc) (c : Compl) : State :=
  s.complete d.reel { c with slot := d.slot, cookie := d.cookie, tag := d.cueTag }
/-- Cues the store holds (R247). -/
def cueStoreSize : Nat := 4096

/-- An eligible descriptor of a transmit reel is taken up: a wrong one completes, an ordinary frame waits for its port, a
cue enters the store or is turned away (Table 10.5). None when the store is full. -/
def State.takeUp (s : State) (d : TxDesc) : Option State :=
  let late := match s.reel? d.reel with
    | some x => x.dropLate
    | none => false
  match d.wrong with
  | some st => some (s.txDone d { status := st, slot := 0, cookie := 0, port := d.port })
  | none =>
    if !d.isCue then some { s with hs := { s.hs with ready := s.hs.ready ++ [d] } }
    else if d.launch ≠ 0 && s.now + 4096 * unitsPerSec < d.launch then
      some ((s.pcount d.port 23).txDone d { status := csFAR, slot := 0, cookie := 0, port := d.port })
    else if d.launch ≠ 0 && late && d.launch < d.release then
      some (((s.pcount d.port 20).faultOnce 33 (uP d.port) d.reel d.cueTag).txDone d
        { status := csLATE, slot := 0, cookie := 0, port := d.port })
    else if cueStoreSize ≤ s.hs.cues.length then none
    else
      let s := { s with hs := { s.hs with cues := s.hs.cues ++ [d] } }
      some (s.wr F.HOST_CUE_STORE_HIGH_WATER 0 (max (s.rd F.HOST_CUE_STORE_HIGH_WATER) s.hs.cues.length))

/-- A transmit reel's eligible descriptors are taken up in order, until one must wait for the cue store (R247). -/
def State.drainTx : Nat → State → Nat → State
  | 0, s, _ => s
  | fuel + 1, s, r =>
    match s.reel? r with
    | none => s
    | some x =>
      match x.queue with
      | [] => s.putReel r { x with stalled := !x.held.isEmpty }
      | d :: l =>
        match s.takeUp d with
        | none => s.putReel r { x with stalled := true }
        | some t => State.drainTx fuel (t.modReel r fun y => { y with queue := l }) r

/-- A cue has left the store: the reels that wait for room go on, in ascending number. -/
def State.drainStalled (s : State) : State :=
  State.forAll 64 (fun r t => match t.reel? r with
    | some x => if x.queue.isEmpty then t else State.drainTx (x.queue.length + 1) t r
    | none => t) s

/-- The order in which a port takes ordinary frames (R290). -/
def TxDesc.before (a b : TxDesc) : Bool := a.release < b.release || (a.release == b.release && a.reel < b.reel)

/-- The order in which a port's cues launch (R246). -/
def TxDesc.cueBefore (a b : TxDesc) : Bool := a.launch < b.launch || (a.launch == b.launch && a.reel < b.reel)

/-- The first of a list under an order; the earlier of two equals. -/
def firstBy (lt : TxDesc → TxDesc → Bool) : List TxDesc → Option TxDesc
  | [] => none
  | d :: l => match firstBy lt l with
    | none => some d
    | some e => if lt e d then some e else some d

/-- The next cue of a port. -/
def State.nextCue (s : State) (p : Nat) : Option TxDesc := firstBy TxDesc.cueBefore (s.hs.cues.filter fun d => d.port == p)

/-- An ordinary frame with its gap ends before the preamble of the port's next cue begins (R246); a cue with launch time 0
goes first. -/
def State.clearOfCue (s : State) (p : Nat) (t : Nat) (f : Frame) : Bool :=
  match s.nextCue p with
  | none => true
  | some c => c.launch ≠ 0 && ((f.bytes + 12 + 8) * 8 * 65536 + t * s.portGb p ≤ c.launch * s.portGb p)

/-- The completion of a frame that has been sent, or could not be corrected. -/
def State.sentCompl (s : State) (d : TxDesc) (status t : Nat) : Compl :=
  let w := d.stamp && status != csTRAILER
  { status := status, slot := 0, cookie := 0, stamped := w, degraded := w && s.degradedNow, gen := s.gen,
    time := if w then t else 0, length := if status = csTRAILER then 0 else d.len, port := d.port }

/-- FRAME_TX (R290): port p sends its next ordinary frame; `pcs` is when its timestamp point crosses the PCS. -/
def State.frameTx (s : State) (p : Nat) (pcs : Int) : State :=
  match firstBy TxDesc.before (s.hs.ready.filter fun d => d.port == p) with
  | none => s
  | some d =>
    let t := (s.txTime p pcs).toNat
    let drop := fun s : State => { s with hs := { s.hs with ready := s.hs.ready.erase d } }
    if s.bridged p then (drop s).txDone d { status := csBRIDGED, slot := 0, cookie := 0, port := p }
    else if !s.linkUp p then (drop s).txDone d { status := csDOWN, slot := 0, cookie := 0, port := p }
    else if !s.clearOfCue p t d.onWire then s
    else
      let r := (drop s).sendFrame p d.onWire t d.stamp d.oneStep d.tReq
      r.1.txDone d (s.sentCompl d r.2 t)

/-- A time lies within a degraded interval (Table 10.5). -/
def State.inDegraded (s : State) (t : Nat) : Bool :=
  match s.sy.degStart with
  | none => false
  | some a => a ≤ t && match s.sy.degEnd with
    | none => true
    | some e => t ≤ e

/-- CUE_LAUNCH (R245–R247): the next cue of port p; `busy` tells that the port is still sending an earlier frame at the
stated time. -/
def State.cueLaunch (s : State) (p : Nat) (pcs : Int) (busy : Bool) : State :=
  match s.nextCue p with
  | none => s
  | some d =>
    let t := (s.txTime p pcs).toNat
    let s := { s with hs := { s.hs with cues := s.hs.cues.erase d } }
    let deg := d.launch ≠ 0 && s.inDegraded d.launch
    let late := d.launch ≠ 0 && (busy || d.launch < d.release || d.launch + 131072 < s.now || deg)
    let coarse := d.launch ≠ 0 && !late && d.launch < d.release + 500 * unitsPerUs
    let dropLate := match s.reel? d.reel with
      | some x => x.dropLate
      | none => false
    let s :=
      if s.bridged p then s.txDone d { status := csBRIDGED, slot := 0, cookie := 0, port := p }
      else if !s.linkUp p then (s.pcount p 22).txDone d { status := csDOWN, slot := 0, cookie := 0, port := p }
      else
        let s := s.when late (·.faultOnce 33 (uP p) d.reel d.cueTag)
        if late && dropLate then (s.pcount p 20).txDone d { status := csLATE, slot := 0, cookie := 0, port := p }
        else
          let r := s.sendFrame p d.onWire t true d.oneStep d.tReq
          let c := r.1.sentCompl d r.2 t
          let c := { c with stamped := r.2 != csTRAILER, time := if r.2 = csTRAILER then 0 else t, late := late,
                            coarse := coarse, degraded := c.degraded || deg || s.degradedNow }
          let u := if r.2 = csTRAILER then r.1
            else ((r.1.pcount p 18).when late (·.pcount p 19)).when coarse (·.pcount p 21)
          u.txDone d c
    s.drainStalled

/-! Received frames (R254, Table 11.2). -/

/-- Source address of a frame for a servo's transport: MAC, IPv4 or IPv6. -/
def Frame.srcAddr (f : Frame) : Nat :=
  match f.net with
  | .udp4 _ a _ _ => a
  | .udp6 _ a _ _ => a
  | _ => f.src

/-- The transport of a frame: 0 layer 2, 1 UDP/IPv4, 2 UDP/IPv6. -/
def Frame.transport (f : Frame) : Nat :=
  match f.net with
  | .udp4 _ _ _ _ => 1
  | .udp6 _ _ _ _ => 2
  | _ => 0

/-- A servo beside its registers. -/
def State.servo (s : State) (k : Nat) : ServoSt := s.pk.at k {}
/-- A servo's own state set. -/
def State.setServo (s : State) (k : Nat) (x : ServoSt) : State := { s with pk := s.pk.set k x {} }

/-- A PK register as in force since the last decision epoch (R277). -/
def State.pkRd (s : State) (k : Nat) (f : Fld) (i : Nat) : Nat := Tab.at (s.servo k).cfg (f.key i) (f.reset i)

/-- A SERVICE register as in force since the last service epoch (R263). -/
def State.svRd (s : State) (f : Fld) (i : Nat := 0) : Nat := Tab.at s.sv.cfg (f.key i) (f.reset i)

/-- The configured master address of a servo; 0 for the first master seen. -/
def State.pkMaster (s : State) (k : Nat) : Nat :=
  let w := fun i => s.pkRd k F.PK_MASTER_ADDR (4 * k + i)
  match s.pkRd k F.PK_CFG_TRANSPORT k with
  | 1 => w 0
  | 2 => w 0 + w 1 * 2 ^ 32 + w 2 * 2 ^ 64 + w 3 * 2 ^ 96
  | _ => w 0 + w 1 % 2 ^ 16 * 2 ^ 32

/-- A servo's transport; 3 acts as layer 2. -/
def State.pkTransport (s : State) (k : Nat) : Nat :=
  if s.pkRd k F.PK_CFG_TRANSPORT k = 3 then 0 else s.pkRd k F.PK_CFG_TRANSPORT k

/-- Row 2 of Table 11.2: servo k takes a PTP message. -/
def State.servoTakes (s : State) (k p : Nat) (f : Frame) (m : Ptp) : Bool :=
  s.rd F.PK_STATUS_STATE k != 0 && !s.rdB F.PK_STATUS_CFG_BAD k && s.inService (uPK k) &&
    s.pkRd k F.PK_CFG_PORT k == p && s.pkTransport k == f.transport && s.pkRd k F.PK_CFG_DOMAIN k == m.domain &&
    (if s.pkMaster k ≠ 0 then f.srcAddr == s.pkMaster k
     else match (s.servo k).master with
       | none => true
       | some x => x.1 == f.srcAddr)

/-- The IPv6 address of a port. -/
def State.portIp6 (s : State) (p : Nat) : Nat :=
  let w := fun i => s.svRd F.SVC_PORT_IPV6_ADDR (4 * p + i)
  w 0 + w 1 * 2 ^ 32 + w 2 * 2 ^ 64 + w 3 * 2 ^ 96

/-- The frame is addressed to the port itself. -/
def State.toPort (s : State) (p : Nat) (f : Frame) : Bool :=
  match f.net with
  | .udp4 _ _ d _ => s.svRd F.SVC_PORT_IPV4_ADDR p != 0 && d == s.svRd F.SVC_PORT_IPV4_ADDR p
  | .udp6 _ _ d _ => s.portIp6 p != 0 && d == s.portIp6 p
  | _ => f.dst == s.portMac p

/-- The profile in force; 3 acts as 2. -/
def State.profile (s : State) : Nat := min 2 (s.svRd F.SVC_CFG_PROFILE)

/-- The frame is addressed to the profile's multicast address (Table 11.3); the addresses of the custom profile are those of
IEEE 1588 (log 30). -/
def State.toMulticast (s : State) (p : Nat) (f : Frame) : Bool :=
  let nonfwd := s.svRd F.SVC_PORT_CFG_L2_NONFWD p == 1
  match s.profile with
  | 0 => f.transport == 0 && f.dst == (if nonfwd then 0x0180C200000E else 0x011B19000000)
  | 1 => false
  | _ => match f.net with
    | .udp4 _ _ d _ => d == 0xE0000181 || d == 0xE000006B
    | .udp6 _ _ d _ => d % 2 ^ 112 == 0x181 && d / 2 ^ 120 == 0xFF || d == 0xFF02 * 2 ^ 112 + 0x6B
    | _ => f.dst == 0x0180C200000E || f.dst == 0x011B19000000

/-- Row 3 of Table 11.2: the PTP server takes a message. -/
def State.serverTakes (s : State) (p : Nat) (f : Frame) (m : Ptp) : Bool :=
  s.svRd F.SVC_PORT_CFG_MODE p != 0 && m.domain == s.svRd F.SVC_CFG_DOMAIN &&
    (m.mtype == 1 || m.mtype == 2 || m.mtype == 0xC || m.mtype == 0xD) && (s.toPort p f || s.toMulticast p f)

/-- Row 4 of Table 11.2: the NTP responder takes a packet. -/
def State.ntpTakes (s : State) (p : Nat) (f : Frame) : Bool :=
  s.svRd F.SVC_PORT_CFG_NTP p == 1 && s.toPort p f && match f.net, f.body with
    | .udp4 _ _ _ u, .ntp n => u.dport == 123 && u.payload == 48 && n.mode == 3 && (n.version == 3 || n.version == 4)
    | .udp6 _ _ _ u, .ntp n => u.dport == 123 && u.payload == 48 && n.mode == 3 && (n.version == 3 || n.version == 4)
    | _, _ => false

/-- The receiver of Table 11.2 that takes a frame: 1 ESMC, 2 a servo, 3 the server, 4 the responder, none the host. -/
def State.dispatch (s : State) (p : Nat) (f : Frame) : Option (Nat × Nat) :=
  if (esmcOf f).isSome then some (1, 0)
  else match s.ptpOf p f with
    | some m => match (List.range 16).find? fun k => s.servoTakes k p f m with
      | some k => some (2, k)
      | none => if s.serverTakes p f m then some (3, 0) else none
    | none => if s.ntpTakes p f then some (4, 0) else none

/-- FRAME_RX (R227, R233, R235, R254): a frame is received whole on a port that is up and not bridged. -/
def State.frameRx (s : State) (p : Nat) (pcs : Int) (f : Frame) : State :=
  if !s.linkUp p || s.bridged p || !s.inService (uP p) then s
  else
    let l := s.rxLength p f
    if !l.2 then l.1
    else if !f.fcsOk then s.pcount p 2
    else
      let t := s.rxTime p pcs
      let s := (s.countRx p f).noteStamp p
      match s.dispatch p f with
      | some (k, n) => { s with sv := { s.sv with inbox := s.sv.inbox ++ [(⟨k, n, p, t, s.gen, s.degradedNow, f⟩ : RxFrame)] } }
      | none => s.toHost p f t s.degradedNow

/-! Port resets (R248). -/

/-- The port's frames and pending cues complete with `RETIRED`. -/
def State.retireFrames (s : State) (p : Nat) : State :=
  let mine := (s.hs.ready ++ s.hs.cues).filter fun d => d.port == p
  let s := { s with hs := { s.hs with ready := s.hs.ready.filter fun d => d.port != p
                                      cues := s.hs.cues.filter fun d => d.port != p } }
  (mine.foldl (fun t d => t.txDone d { status := csRETIRED, slot := 0, cookie := 0, port := p }) s).drainStalled

/-- A port reset, or a restart of its link under the same rules (R226, R248). -/
def State.portReset (s : State) (p : Nat) : State :=
  ((s.linkDownNow p true).wr F.PORT_STATUS_CDR_LOCK p 0).retireFrames p

/-- RESTART_LINK (R226). -/
def State.restartLink (s : State) (p : Nat) : State := if s.portOn p then s.portReset p else s

end Sys2Proof.Machine
end

