-- ==== Sys2Proof/Machine/Service.lean ====
section
/-! DEFINITION. The time service (R252–R268): its state and class, the client table, negotiation, what it sends at service
epochs, its answers, and the NTP responder. -/

namespace Sys2Proof.Machine

/-! State and class (R252, R255, R262). -/

/-- Service states, codes of SVC_STATUS.STATE. -/
def svOFF : Nat := 0
def svWAITING : Nat := 1
def svSERVING : Nat := 2
def svSUPPRESSED : Nat := 3
def svSILENT : Nat := 4
def svSTANDBY : Nat := 5

/-- A service counter advances; it wraps. -/
def State.scount (s : State) (i : Nat) : State := s.bumpWrap F.SVC_COUNTER_COUNT i

/-- The domains of a profile (Table 11.3). -/
def domainOk (profile d : Nat) : Bool :=
  if profile = 0 then 24 ≤ d && d ≤ 43 else if profile = 1 then 44 ≤ d && d ≤ 63 else d ≤ 127

/-- SVC_STATUS.CFG_BAD. -/
def State.svcBad (s : State) : Bool := !domainOk s.profile (s.svRd F.SVC_CFG_DOMAIN)

/-- Table 11.1 at an epoch, for the service as a whole. -/
def State.svcWants (s : State) : Nat :=
  if s.svRd F.SVC_CFG_ENABLE == 0 || s.svcBad then svOFF
  else if !s.ck.everStage3 then svWAITING
  else if s.isStandby then svSTANDBY
  else if s.stage < 2 || s.tm.lost then svSILENT
  else if s.degradedNow then svSUPPRESSED
  else svSERVING

/-- The state of a part: PTPSRV or NTPSRV out of service makes its own part `SILENT`. -/
def State.partState (s : State) (u : Nat) : Nat :=
  let t := s.rd F.SVC_STATUS_STATE
  if (t == svSERVING || t == svSUPPRESSED) && !s.inService u then svSILENT else t

/-- The leaf with the largest weight in the time DPLL's recipe; the lowest code on a tie (R262). -/
def State.timeLeaf (s : State) : Option Nat :=
  (leastBy (fun l : RecLeaf => (wholeWeight - l.w) * 256 + l.m) (s.traceLeaves s.timeDpll)).map (·.m)

/-- The code presented by the time DPLL's root. -/
def State.timeRootQl (s : State) : Nat :=
  match s.child (s.rootCode s.timeDpll) with
  | some c => c.ql
  | none => 0xE0

/-- The row of Table 11.5 that applies at an epoch, for a service state. -/
def State.classRow (s : State) (st : Nat) : Nat :=
  let d := s.timeDpll
  let ho := (s.dpll d).episode.isSome
  if st == svSUPPRESSED then 1
  else if s.dpState d < 2 || (s.stage == 2 && !ho) then 2
  else if ho && s.rdB F.HOLD_STATUS_OUT_OF_SPEC d then 3
  else if ho then 4
  else if 0x10 ≤ s.timeRootQl && s.timeRootQl ≤ 0x27 then 5
  else if 0x28 ≤ s.timeRootQl && s.timeRootQl ≤ 0x2B then 6
  else if 0x2C ≤ s.timeRootQl && s.timeRootQl ≤ 0x2F then 7
  else 8

/-- clockClass of a row (Table 11.5). -/
def State.rowClass (s : State) (row : Nat) : Nat :=
  let bc := s.svRd F.SVC_CFG_ROLE == 1
  match row with
  | 1 => s.svRd F.SVC_CLASS_CFG_DEGRADED_CLASS
  | 3 => if bc then s.svRd F.SVC_CLASS_CFG_BC_OOS_CLASS else s.svRd F.SVC_CLASS_CFG_OOS_CLASS
  | 4 => if bc then 135 else 7
  | 5 => 6
  | 6 => 7
  | 7 => 135
  | _ => s.svRd F.SVC_CLASS_CFG_FREE_CLASS

/-- The service's part of a decision epoch (R252, R262): the registers, and source 94 with a change of state or class. -/
def State.svcEpoch (s : State) : State :=
  let st := s.svcWants
  let row := s.classRow st
  let cls := s.rowClass row
  let changed := st != s.rd F.SVC_STATUS_STATE || cls != s.rd F.SVC_STATUS_CLOCK_CLASS
  let newClass := cls != s.rd F.SVC_STATUS_CLOCK_CLASS
  let s := s.wrAll [(F.SVC_STATUS_STATE, 0, st), (F.SVC_STATUS_CLASS_ROW, 0, row), (F.SVC_STATUS_CLOCK_CLASS, 0, cls),
                    (F.SVC_STATUS_CFG_BAD, 0, b2n s.svcBad),
                    (F.SVC_STATUS_PAIRED, 0, b2n (s.pr.pairId.isSome && !s.isSole))]
  let s := s.when newClass fun t => { t with sv := { t.sv with classChanged := some t.nextEpoch } }
  s.when changed (·.later .svc)

/-! The client table (R264, R265). -/

/-- A word with `n` bits from `lo` replaced. -/
def putBits (w lo n v : Nat) : Nat := w - bitsOf w lo n * 2 ^ lo + v % 2 ^ n * 2 ^ lo

/-- Fields of a client entry (Table 11.6). -/
def clValid (w : Nat) : Bool := bitOf w 511 && bitsOf w 505 2 != 3
def clStatic (w : Nat) : Bool := bitOf w 510
def clPort (w : Nat) : Nat := bitsOf w 507 3
def clTransport (w : Nat) : Nat := bitsOf w 505 2
def clRate (w msg : Nat) : Nat := bitsOf w (if msg = 0 then 216 else if msg = 9 then 208 else 200) 8
def clExpiry (w msg : Nat) : Nat := bitsOf w (if msg = 0 then 160 else if msg = 9 then 128 else 96) 32
def clSlot (w : Nat) : Nat := bitsOf w 53 11

/-- The address of an entry in its transport: MAC, IPv4 or IPv6. -/
def clAddr (w : Nat) : Nat :=
  if clTransport w = 0 then bitsOf w 448 48 else if clTransport w = 1 then bitsOf w 320 32 else bitsOf w 320 128

/-- The key of R257: port, transport, address, sourcePortIdentity. -/
def clKey (w : Nat) : Nat × Nat × Nat × Nat := (clPort w, clTransport w, clAddr w, bitsOf w 240 80)

/-- The three message types that are granted: Sync, Delay_Resp, Announce. -/
def grantTypes : List Nat := [0, 9, 0xB]

/-- A rate and an expiry put into an entry. -/
def clGrant (w msg rate expiry : Nat) : Nat :=
  putBits (putBits w (if msg = 0 then 216 else if msg = 9 then 208 else 200) 8 rate)
    (if msg = 0 then 160 else if msg = 9 then 128 else 96) 32 expiry

/-- The engine fields of an entry: bits 191 to 0. -/
def engineBits : Nat := 192

/-- An entry's contents; 0 for a free one. -/
def State.client (s : State) (i : Nat) : Nat := Tab.at s.sv.table i 0

/-- Valid entries with their indices. -/
def State.clients (s : State) : List (Nat × Nat) := s.sv.table.filter fun p => clValid p.2

/-- An entry set; a change is to be mirrored by an `ACTIVE` module over a link of version 2 or 3 (R321). -/
def State.setClient (s : State) (i w : Nat) (mirror : Bool) : State :=
  let s := { s with sv := { s.sv with table := Tab.set s.sv.table i w 0 } }
  if mirror && s.pairState == psACTIVE && 2 ≤ s.rd F.PEER_STATUS_VERSION && s.rd F.PEER_STATUS_LINK_STATE == 3 then
    { s with pr := { s.pr with mirror := s.pr.mirror.filter (·.1 != i) ++ [(i, if clValid w then some w else none)] } }
  else s

/-- The entry of a key. -/
def State.findClient (s : State) (k : Nat × Nat × Nat × Nat) : Option (Nat × Nat) :=
  s.clients.find? fun p => clKey p.2 == k

/-! Budgets (R258), in units of 2⁻¹²⁷ messages per second. -/

/-- The charge of a rate code. -/
def rateCharge (code : Nat) : Nat := if code = 0x7F then 0 else 2 ^ (127 - toSigned 8 code).toNat

/-- The charge of an entry: its Sync and Delay_Resp rates. -/
def clCharge (w : Nat) : Nat := if clValid w then rateCharge (clRate w 0) + rateCharge (clRate w 9) else 0

/-- SVC_PORT_CFG.MODE of a port. -/
def State.svcMode (s : State) (p : Nat) : Nat := s.svRd F.SVC_PORT_CFG_MODE p
def State.multicasts (s : State) (p : Nat) : Bool := s.svcMode p == 1 || s.svcMode p == 3
def State.unicasts (s : State) (p : Nat) : Bool := s.svcMode p == 2 || s.svcMode p == 3

/-- A signed log field of four bits. -/
def State.logOf (s : State) (f : Fld) (p : Nat) : Int := toSigned 4 (s.svRd f p)

/-- The multicast charge of a port. -/
def State.portOwnCharge (s : State) (p : Nat) : Nat :=
  if s.multicasts p then
    2 ^ (127 - s.logOf F.SVC_PORT_CFG_SYNC_LOG p).toNat + s.svRd F.SVC_PORT_CFG_DREQ_RESERVE p * 2 ^ 127
  else 0

/-- The sum charged to a port. -/
def State.portCharge (s : State) (p : Nat) : Nat :=
  s.portOwnCharge p + ((s.clients.filter fun c => clPort c.2 == p).map fun c => clCharge c.2).sum

/-- The sum charged to the module. -/
def State.totalCharge (s : State) : Nat :=
  ((List.range 8).map s.portOwnCharge).sum + (s.clients.map fun c => clCharge c.2).sum

/-- The budget of a port. -/
def State.portBudget (s : State) (p : Nat) : Nat := (if s.portMode p = 1 then 524288 else 1048576) * 2 ^ 127

/-- The charges of a port and of the module lie within their budgets. -/
def State.withinBudget (s : State) (p : Nat) : Bool :=
  s.portCharge p ≤ s.portBudget p && s.totalCharge ≤ 4194304 * 2 ^ 127

/-! Table mailbox (R265). -/

/-- Results of SVC_TBL_STATUS. -/
def tbOK : Nat := 1
def tbNOT_FOUND : Nat := 2
def tbNOT_STATIC : Nat := 3
def tbDUPLICATE : Nat := 4
def tbNO_CAPACITY : Nat := 5
def tbBUSY : Nat := 6

/-- SVC_TBL_DATA as one number. -/
def State.tblData (s : State) : Nat := ((List.range 16).map fun w => s.rd F.SVC_TBL_DATA_WORD w * 2 ^ (32 * w)).sum

/-- A mailbox operation ends with a result. -/
def State.tblResult (s : State) (r : Nat) : State := s.wr F.SVC_TBL_STATUS_RESULT 0 r

/-- An operation runs unless one is in progress. -/
def State.tblRun (s : State) (f : State → State) : State :=
  if s.rdB F.SVC_TBL_STATUS_BUSY then s.tblResult tbBUSY else f s

/-- TBL_READ. -/
def State.tblRead (s : State) : State :=
  s.tblRun fun s =>
    let w := s.client (s.rd F.SVC_TBL_CTRL_INDEX)
    (State.forAll 16 (fun k t => t.wr F.SVC_TBL_DATA_WORD k (w / 2 ^ (32 * k))) s).tblResult tbOK

/-- Data as they are stored: reserved bits 0; engine fields kept where the entry was valid, 0 in a new one. -/
def storeEntry (data old : Nat) : Nat :=
  let host := putBits (putBits (data / 2 ^ engineBits * 2 ^ engineBits) 192 8 0) 496 9 0
  host + (if clValid old then old % 2 ^ engineBits else 0)

/-- TBL_WRITE: refused for an entry or data that is valid and not STATIC, for a key already in use, for want of capacity. -/
def State.tblWrite (s : State) : State :=
  s.tblRun fun s =>
    let i := s.rd F.SVC_TBL_CTRL_INDEX
    let old := s.client i
    let w := storeEntry s.tblData old
    let t := s.setClient i w true
    if (clValid old && !clStatic old) || (clValid w && !clStatic w) then s.tblResult tbNOT_STATIC
    else if clValid w && s.clients.any fun c => c.1 != i && clKey c.2 == clKey w then s.tblResult tbDUPLICATE
    else if clCharge old < clCharge w && !t.withinBudget (clPort w) then s.tblResult tbNO_CAPACITY
    else t.tblResult tbOK

/-- TBL_DELETE: the entry is freed, with source 95 if it was in use. -/
def State.tblDelete (s : State) : State :=
  s.tblRun fun s =>
    let i := s.rd F.SVC_TBL_CTRL_INDEX
    let used := clValid (s.client i)
    ((s.setClient i 0 true).when used (·.info 95 uPTPSRV 0 0 0)).tblResult tbOK

/-- TBL_FIND: the key in SVC_TBL_DATA is looked up. -/
def State.tblFind (s : State) : State :=
  s.tblRun fun s =>
    match s.findClient (clKey s.tblData) with
    | some c => (s.wr F.SVC_TBL_STATUS_FOUND 0 c.1).tblResult tbOK
    | none => s.tblResult tbNOT_FOUND

/-- CLIENT_WINDOW_ACCESS: a direct access reads 0 or is ignored, and is counted. -/
def State.clientWindow (s : State) : State := s.bump F.SVC_TBL_STATUS_DIRECT

/-! Frames the server builds. -/

/-- sourcePortIdentity of a port. -/
def State.portIdent (s : State) (p : Nat) : Nat := s.clockIdent * 2 ^ 16 + (p + 1)

/-- Octets of a frame with a UDP or layer 2 payload. -/
def frameBytes (tags : Nat) (net : Net) (len : Nat) : Nat :=
  max 64 (18 + 4 * tags + match net with
    | .udp4 _ _ _ u => 28 + u.payload
    | .udp6 e _ _ u => 48 + e + u.payload
    | _ => len)

/-- UDP payload of a PTP message: event messages over IPv6 carry the trailer (R259). -/
def ptpUdp (v6 event : Bool) (len : Nat) : Udp :=
  { sport := if event then 319 else 320, dport := if event then 319 else 320,
    payload := len + if v6 && event then 2 else 0 }

/-- A frame from port p that carries a message in a given transport to a given address. -/
def State.ptpFrame (s : State) (p transport mac addr tags vlan : Nat) (m : Ptp) : Frame :=
  let net : Net := match transport with
    | 1 => .udp4 20 (s.svRd F.SVC_PORT_IPV4_ADDR p) addr (ptpUdp false m.isEvent m.length)
    | 2 => .udp6 0 (s.portIp6 p) addr (ptpUdp true m.isEvent m.length)
    | _ => .ptp2
  { dst := mac, src := s.portMac p, tags := tags, vlan := vlan, net := net, bytes := frameBytes tags net m.length,
    body := .ptp m }

/-- The multicast address a port sends to (Table 11.3). -/
def State.multicastMac (s : State) (p : Nat) : Nat :=
  if s.svRd F.SVC_PORT_CFG_L2_NONFWD p == 1 then 0x0180C200000E else 0x011B19000000

/-- A multicast frame. -/
def State.mcFrame (s : State) (p : Nat) (m : Ptp) : Frame := s.ptpFrame p 0 (s.multicastMac p) 0 0 0 m

/-- A frame to a client entry. -/
def State.clFrame (s : State) (p w : Nat) (m : Ptp) : Frame :=
  s.ptpFrame p (clTransport w) (bitsOf w 448 48) (clAddr w) (bitsOf w 239 1) (bitsOf w 224 15) m

/-- An answer to a received frame: back to its sender, or to the multicast address the request came to. -/
def State.replyFrame (s : State) (p : Nat) (f : Frame) (m : Ptp) : Frame :=
  let mc := s.toMulticast p f
  match f.net with
  | .udp4 _ a d _ => s.ptpFrame p 1 (if mc then f.dst else f.src) (if mc then d else a) f.tags f.vlan m
  | .udp6 _ a d _ => s.ptpFrame p 2 (if mc then f.dst else f.src) (if mc then d else a) f.tags f.vlan m
  | _ => s.ptpFrame p 0 (if mc then f.dst else f.src) 0 f.tags f.vlan m

/-- A message of the server's own. -/
def State.ownPtp (s : State) (p mtype len seq : Nat) (log : Int) : Ptp :=
  { mtype := mtype, domain := s.svRd F.SVC_CFG_DOMAIN, length := len, source := s.portIdent p, seq := seq % 2 ^ 16,
    logPeriod := log }

/-- The Announce of the present state (Table 11.4, Table 11.5). timeSource for a leaf that is none of those the table names is
not stated (log 10). -/
def State.announceBody (s : State) : Ann :=
  let row := s.rd F.SVC_STATUS_CLASS_ROW
  let leaf := s.timeLeaf
  let pk := match leaf with
    | some m => if 24 ≤ m && m < 40 then some (m - 24) else none
    | none => none
  let auto_ := if row == 5 || row == 6 || row == 7 then
      match leaf with
      | some m => if m < 16 || 40 ≤ m then 0x20 else if 24 ≤ m then 0x40 else s.freeNat % 256
      | none => s.freeNat % 256
    else 0xA0
  let src := s.svRd F.SVC_ANNOUNCE_TIME_SOURCE
  let bc := s.svRd F.SVC_CFG_ROLE == 1 && src == 0 && (row == 5 || row == 6 || row == 7)
  let gm := match pk with
    | some k => if bc then match (s.servo k).gm with
        | some g => (g, s.rd F.PK_ANNOUNCE_STEPS_REMOVED k + 1)
        | none => (s.clockIdent, 0)
      else (s.clockIdent, 0)
    | none => (s.clockIdent, 0)
  let good := row == 5 || row == 6 || row == 7
  { gm := gm.1, steps := gm.2, prio1 := s.svRd F.SVC_ANNOUNCE_PRIORITY1, prio2 := s.svRd F.SVC_ANNOUNCE_PRIORITY2,
    cls := s.rd F.SVC_STATUS_CLOCK_CLASS, accuracy := if good then 0x21 else 0xFE,
    variance := if good then 0x4E5D else 0xFFFF, utcOffset := s.rdI F.TIME_UTC_OFFSET,
    timeSource := if src != 0 then src else auto_, ptpScale := true, utcValid := s.rdB F.TIME_UTC_VALID,
    leap61 := s.rdB F.TIME_UTC_LEAP61, leap59 := s.rdB F.TIME_UTC_LEAP59, timeTrace := good || row == 4,
    freqTrace := good || row == 3 || row == 4 || row == 8 }

/-- When a message that a service epoch schedules crosses the pins: at or after the epoch's boundary, not stated further
(log 10). -/
def State.epochTx (s : State) : Nat := s.now + s.freeNat

/-- A two-step message that has left waits for its general message. -/
def State.awaitGeneral (s : State) (w : TwoStep) : State := { s with sv := { s.sv with waiting := s.sv.waiting ++ [w] } }

/-- A Sync leaves (R259): one-step, or two-step with its Follow_Up to come. -/
def State.syncSend (s : State) (p : Nat) (client : Option Nat) (f : Ptp → Frame) (seq : Nat) (log : Int) : State :=
  let one := s.svRd F.SVC_PORT_CFG_ONE_STEP p == 1
  let t := s.epochTx
  let m := { s.ownPtp p 0 44 seq log with twoStep := !one }
  let r := (s.drawn.scount 0).sendFrame p (f m) t true one 0
  if one then r.1 else r.1.awaitGeneral ⟨p, client, 8, seq % 2 ^ 16, t, f { m with mtype := 8, twoStep := false }⟩

/-- An Announce leaves. -/
def State.announceSend (s : State) (p : Nat) (f : Ptp → Frame) (seq : Nat) (log : Int) : State :=
  let m := { s.ownPtp p 0xB 64 seq log with ann := some s.announceBody }
  (s.drawn.scount 3).sendFrame p (f m) 0 false false 0 |>.1

/-! Service epochs (R259). -/

/-- The epoch index e. -/
def State.epochIndex (s : State) : Nat := s.now / unitsPerService % 2048

/-- A message of period 2^L s is due in an epoch with a slot. -/
def slotDue (e slot : Nat) (log : Int) : Bool := ((e : Int) - slot) % (2 ^ (log + 7).toNat : Nat) == 0

/-- A port's own counts. -/
def State.svcPort (s : State) (p : Nat) : SvcPort := s.sv.ports.at p {}
def State.setSvcPort (s : State) (p : Nat) (x : SvcPort) : State :=
  { s with sv := { s.sv with ports := s.sv.ports.set p x {} } }

/-- The multicast messages of port p. -/
def State.multicastEpoch (s : State) (p e : Nat) (full : Bool) : State :=
  let ls := s.logOf F.SVC_PORT_CFG_SYNC_LOG p
  let la := s.logOf F.SVC_PORT_CFG_ANN_LOG p
  let s := s.when (full && slotDue e 0 ls) fun t =>
    let x := t.svcPort p
    (t.setSvcPort p { x with syncSeq := (x.syncSeq + 1) % 65536 }).syncSend p none (t.mcFrame p) x.syncSeq ls
  s.when (slotDue e 0 la) fun t =>
    let x := t.svcPort p
    (t.setSvcPort p { x with annSeq := (x.annSeq + 1) % 65536 }).announceSend p (t.mcFrame p) x.annSeq la

/-- The messages of client entry i. -/
def State.clientEpoch (s : State) (i e : Nat) (full : Bool) : State :=
  let w := s.client i
  let p := clPort w
  let ls := toSigned 8 (clRate w 0)
  let la := toSigned 8 (clRate w 0xB)
  let s := s.when (full && clRate w 0 != 0x7F && slotDue e (clSlot w) ls) fun t =>
    let q := bitsOf w 80 16
    (t.setClient i (putBits w 80 16 (q + 1)) false).syncSend p (some i) (t.clFrame p w) q ls
  let w := s.client i
  s.when (clRate w 0xB != 0x7F && slotDue e (clSlot w) la) fun t =>
    let q := bitsOf w 64 16
    (t.setClient i (putBits w 64 16 (q + 1)) false).announceSend p (t.clFrame p w) q la

/-- What the server sends at a service epoch: per port multicast first, then clients in ascending index. -/
def State.serverSends (s : State) : State :=
  let st := s.partState uPTPSRV
  if st != svSERVING && st != svSUPPRESSED then s
  else
    let e := s.epochIndex
    State.forAll 8 (fun p t =>
      if !t.linkUp p || t.bridged p then t
      else
        let t := t.when (t.multicasts p) (·.multicastEpoch p e (st == svSERVING))
        if t.unicasts p then
          (t.clients.filter fun c => clPort c.2 == p).foldl (fun u c => u.clientEpoch c.1 e (st == svSERVING)) t
        else t) s

/-! Negotiation (R257). -/

/-- A second has reached an expiry: both are the low 32 bits of the counter's seconds. -/
def expired (sec expiry : Nat) : Bool := (sec + 2 ^ 32 - expiry % 2 ^ 32) % 2 ^ 32 < 2 ^ 31

/-- An entry without its expired grants. -/
def dropExpired (sec w : Nat) : Nat :=
  if clStatic w then w
  else grantTypes.foldl (fun w m => if clRate w m != 0x7F && expired sec (clExpiry w m) then clGrant w m 0x7F 0 else w) w

/-- Every rate of an entry is none. -/
def noRates (w : Nat) : Bool := grantTypes.all fun m => clRate w m == 0x7F

/-- GRANT_EXPIRY: expired grants are removed at the service epoch. -/
def State.expireGrants (s : State) : State :=
  let sec := s.now / unitsPerSec % 2 ^ 32
  let gone := s.clients.filter fun c => clRate c.2 9 != 0x7F && clRate (dropExpired sec c.2) 9 == 0x7F
  let s := { s with sv := { s.sv with lapsed := gone } }
  s.clients.foldl (fun t c => if dropExpired sec c.2 = c.2 then t else t.setClient c.1 (dropExpired sec c.2) true) s

/-- Entries that are not static and hold no grant are freed, with source 95. -/
def State.freeEntries (s : State) : State :=
  (s.clients.filter fun c => !clStatic c.2 && noRates c.2).foldl
    (fun t c => (t.setClient c.1 0 true).info 95 uPTPSRV 0 0 0) s

/-- The Sync load that granted entries of a port put on an offset, for a period of 2^k epochs, in units of 2⁻³². -/
def State.offsetLoad (s : State) (p k o : Nat) : Nat :=
  ((s.clients.filter fun c => clPort c.2 == p && clRate c.2 0 != 0x7F).map fun c =>
    let k' := (toSigned 8 (clRate c.2 0) + 7).toNat
    let m := 2 ^ min k k'
    if o % m = clSlot c.2 % m then 2 ^ (32 - (k' - k)) else 0).sum

/-- The offset with the least load; the lowest on a tie (R259). -/
def State.bestSlot (s : State) (p : Nat) (log : Int) : Nat :=
  let k := (log + 7).toNat
  (leastBy (fun o => s.offsetLoad p k o * 4096 + o) (List.range (2 ^ min k 11))).getD 0

/-- The lowest free index of the client table. -/
def State.freeIndex (s : State) : Option Nat := (List.range 16384).find? fun i => !clValid (s.client i)

/-- A negotiation in progress: the state, the entry's contents, the responses in order. -/
structure Nego where
  s : State
  w : Nat
  out : List Tlv

/-- A request is denied. -/
def Nego.deny (n : Nego) (msg : Nat) (log : Int) : Nego :=
  { n with s := n.s.scount 5, out := n.out ++ [.grant msg log 0 false] }

/-- The fastest rate of a message type. -/
def State.fastest (s : State) (msg : Nat) : Int :=
  if msg = 0xB then clampInt (-3) 4 (s.logOf F.SVC_GRANT_CFG_ANN_FAST_LOG 0)
  else clampInt (-7) 4 (s.logOf F.SVC_GRANT_CFG_FAST_LOG 0)

/-- A duration clamped to DUR_MIN_S–DUR_MAX_S. -/
def State.clampDuration (s : State) (d : Nat) : Nat :=
  let hi := max 10 (s.svRd F.SVC_GRANT_CFG_DUR_MAX_S)
  let lo := min hi (max 10 (s.svRd F.SVC_GRANT_CFG_DUR_MIN_S))
  max lo (min hi d)

/-- One request of a Signaling message for entry i (R257). -/
def Nego.request (n : Nego) (i p msg : Nat) (log : Int) (dur : Nat) : Nego :=
  if !grantTypes.contains msg || !n.s.unicasts p || clStatic n.w then n.deny msg log
  else if log < n.s.fastest msg || 4 < log then n.deny msg log
  else
    let s := n.s
    let rate := ofSigned 8 log
    let d := s.clampDuration dur
    let renewal := clRate n.w msg == rate
    let w := clGrant (putBits n.w 511 1 1) msg rate ((s.now / unitsPerSec + d) % 2 ^ 32)
    let full := !s.withinBudget p ||
      (msg != 0xB && !renewal && !(s.setClient i w false).withinBudget p)
    if full then
      { n with s := s.faultOnce 37 uPTPSRV p (b2n (decide ((s.setClient i w false).portCharge p ≤ s.portBudget p))) }.deny msg log
    else
      let fresh := !renewal && (msg == 0 || (msg == 0xB && clRate n.w 0 == 0x7F))
      let w := if fresh then putBits w 53 11 ((s.setClient i 0 false).bestSlot p log) else w
      { s := (s.scount 4).setClient i w false, w := w, out := n.out ++ [.grant msg log d true] }

/-- One cancel of a Signaling message. -/
def Nego.cancel (n : Nego) (i msg : Nat) : Nego :=
  let w := if clValid n.w && !clStatic n.w then clGrant n.w msg 0x7F 0 else n.w
  { s := (n.s.scount 6).when (clValid n.w) (·.setClient i w false), w := w, out := n.out ++ [.ackCancel msg] }

/-- The key of a received message's client. -/
def keyOf (r : RxFrame) (m : Ptp) : Nat × Nat × Nat × Nat := (r.port, r.frame.transport, r.frame.srcAddr, m.source)

/-- A new entry for the sender of a Signaling message, with no rates and not yet valid. -/
def newEntry (r : RxFrame) (m : Ptp) : Nat :=
  let f := r.frame
  let t := f.transport
  r.port * 2 ^ 507 + t * 2 ^ 505 + f.src % 2 ^ 48 * 2 ^ 448 + (if t = 0 then 0 else f.srcAddr % 2 ^ 128) * 2 ^ 320 +
    m.source % 2 ^ 80 * 2 ^ 240 + (if f.tags = 0 then 0 else 2 ^ 15 + f.vlan % 2 ^ 15) * 2 ^ 224 +
    0x7F * 2 ^ 216 + 0x7F * 2 ^ 208 + 0x7F * 2 ^ 200

/-- One Signaling message handled (R257): its TLVs in order, one message of responses. -/
def State.signal (s : State) (r : RxFrame) (m : Ptp) : State :=
  let p := r.port
  let known := s.findClient (keyOf r m)
  let room := match known with
    | some c => some c.1
    | none => s.freeIndex
  let n : Nego := match room with
    | some i =>
      m.tlvs.foldl (fun n t => match t with
        | .request msg log d => n.request i p msg log d
        | .cancel msg => n.cancel i msg
        | _ => n) { s := s, w := (known.map (·.2)).getD (newEntry r m), out := [] }
    | none =>
      m.tlvs.foldl (fun n t => match t with
        | .request msg log _ => { n with s := n.s.faultOnce 34 uPTPSRV p 0 }.deny msg log
        | .cancel msg => { n with s := n.s.scount 6, out := n.out ++ [.ackCancel msg] }
        | _ => n) { s := s, w := 0, out := [] }
  let i := room.getD 0
  let s := if room.isSome && clValid n.w && n.s.client i != s.client i then n.s.setClient i n.w true else n.s
  let s := s.when (known.isNone && room.isSome && clValid (s.client i)) (·.info 95 uPTPSRV 0 0 0)
  if n.out.isEmpty || !s.linkUp p || s.bridged p then s
  else
    let x := s.svcPort p
    let len := 44 + 10 + (n.out.map fun t => match t with
      | .grant _ _ _ _ => 12
      | _ => 6).sum
    let m' := { s.ownPtp p 0xC len x.sigSeq 0x7F with peer := m.source, tlvs := n.out }
    ((s.setSvcPort p { x with sigSeq := (x.sigSeq + 1) % 65536 }).sendFrame p (s.clFrame p (newEntry r m) m') 0 false false 0).1

/-- The order in which Signaling messages are handled: receive stamp, then port. -/
def sigBefore (a b : RxFrame) : Bool := a.time < b.time || (a.time == b.time && a.port ≤ b.port)

/-- A message put in its place. -/
def sigInsert (r : RxFrame) : List RxFrame → List RxFrame
  | [] => [r]
  | x :: l => if sigBefore r x then r :: x :: l else x :: sigInsert r l

/-- The Signaling messages received before the boundary are handled; in a state that does not serve they are dropped and
counted in counter 11. -/
def State.handleSignals (s : State) : State :=
  let due := (s.sv.signals.filter fun r => r.time < (s.now : Int)).foldl (fun l r => sigInsert r l) []
  let s := { s with sv := { s.sv with signals := s.sv.signals.filter fun r => !(r.time < (s.now : Int)) } }
  let st := s.partState uPTPSRV
  due.foldl (fun t r => match r.frame.body with
    | .ptp m => if st == svSERVING || st == svSUPPRESSED then t.signal r m else t.scount 11
    | _ => t) s

/-- The server's part of a service epoch (R257, R259, R263). -/
def State.serverEpoch (s : State) : State :=
  let s := { s with sv := { s.sv with cfg := s.latchRegs 546 599 } }
  (((s.expireGrants).handleSignals).freeEntries).serverSends

/-- PTP_SIGNALING_RX: the oldest Signaling message that port p was handed waits for the next service epoch. -/
def State.signalingRx (s : State) (p : Nat) : State :=
  match s.takeRx (RxFrame.forServer p 0xC) with
  | none => s
  | some (r, s) => { s with sv := { s.sv with signals := s.sv.signals ++ [r] } }

/-! Delay requests (R256, R260). -/

/-- One token, in the units of a client's bucket: a token of 2¹²⁷ parts per second of FRACTION units. -/
def tokenUnit : Nat := unitsPerSec * 2 ^ 127

/-- A bucket filled up to a stamp, and a token taken if it has one. What a bucket holds at first is not stated (log 10). -/
def State.takeToken (s : State) (b : Option Bucket) (t : Int) (gain cap unit : Nat) : Bucket × Bool :=
  let b := b.getD { tokens := s.freeNat % (cap * unit + 1), at_ := t }
  let n := min (cap * unit) (b.tokens + (t - b.at_).toNat * gain)
  if unit ≤ n then ({ b with tokens := n - unit, at_ := t }, true) else ({ b with tokens := n, at_ := t }, false)

/-- The client entry that a request is answered under: one with a Delay_Resp grant, or one whose grant had not expired when
the request came (R263). -/
def State.clientFor (s : State) (r : RxFrame) (m : Ptp) : Option (Nat × Nat) :=
  if !s.unicasts r.port then none
  else match s.clients.find? fun c => clKey c.2 == keyOf r m && clRate c.2 9 != 0x7F with
    | some c => some c
    | none => s.sv.lapsed.find? fun c => clKey c.2 == keyOf r m &&
        !expired (r.time / unitsPerSec).toNat (clExpiry c.2 9)

/-- A request within DREQ_RESERVE of its second on a multicast port. -/
def State.reserveTakes (s : State) (p : Nat) : State × Bool :=
  let x := s.svcPort p
  let sec := s.now / unitsPerSec
  let n := if x.reqSec = sec then x.reqCount else 0
  if n < s.svRd F.SVC_PORT_CFG_DREQ_RESERVE p then (s.setSvcPort p { x with reqSec := sec, reqCount := n + 1 }, true)
  else (s, false)

/-- Whether a request is answered: under its client's bucket, else from the port's reserve; DREQ_COUNT and DREQ_DROPS. -/
def State.admits (s : State) (r : RxFrame) (m : Ptp) : State × Bool :=
  match s.clientFor r m with
  | some c =>
    let gain := 2 ^ (127 - toSigned 8 (clRate c.2 9)).toNat
    let b := s.takeToken (Tab.find s.sv.buckets c.1) r.time gain 8 tokenUnit
    let s := { s.drawn with sv := { s.sv with buckets := s.sv.buckets.put c.1 b.1 } }
    let w := s.client c.1
    let w' := if b.2 then putBits w 16 32 (bitsOf w 16 32 + 1) else putBits w 0 16 (satTo 16 (bitsOf w 0 16 + 1))
    (if clValid w then s.setClient c.1 w' false else s, b.2)
  | none => if s.multicasts r.port then s.reserveTakes r.port else (s, false)

/-- A request that must be dropped because of the service's state or a step, counted in counter 11. -/
def State.turnedAway (s : State) (u gen : Nat) : Bool := s.partState u != svSERVING || gen != s.gen

/-- The response to a Delay_Req (R260). -/
def State.delayResp (s : State) (r : RxFrame) (m : Ptp) : Ptp :=
  let t := r.time.toNat
  { s.ownPtp r.port 9 54 m.seq m.logPeriod with
      sec := t / unitsPerSec, ns := t % unitsPerSec / unitsPerNs, correction := m.correction - (t % unitsPerNs : Nat),
      peer := m.source }

/-- DELAY_REQ_RX (R256, R260, R263): the oldest Delay_Req that port p handed to the server. -/
def State.delayReqRx (s : State) (p : Nat) : State :=
  match s.takeRx (RxFrame.forServer p 1) with
  | none => s
  | some (r, s) => match r.frame.body with
    | .ptp m =>
      if s.turnedAway uPTPSRV r.gen then s.scount 11
      else if s.svRd F.SVC_PORT_CFG_P2P p == 1 then s.scount 2
      else
        let a := s.admits r m
        if !a.2 then a.1.scount 2
        else ((a.1.scount 1).sendFrame p (s.replyFrame p r.frame (s.delayResp r m)) 0 false false 0).1
    | _ => s

/-- PDELAY_REQ_RX (R260): a Pdelay_Resp with the insertion of R237, or two-step; `pcs` is when its timestamp point crosses
the PCS. -/
def State.pdelayReqRx (s : State) (p : Nat) (pcs : Int) : State :=
  match s.takeRx (RxFrame.forServer p 2) with
  | none => s
  | some (r, s) => match r.frame.body with
    | .ptp m =>
      if s.turnedAway uPTPSRV r.gen then s.scount 11
      else if s.svRd F.SVC_PORT_CFG_P2P p == 0 then s.scount 2
      else
        let a := s.admits r m
        if !a.2 then a.1.scount 2
        else
          let one := s.svRd F.SVC_PORT_CFG_ONE_STEP p == 1
          let t := (s.txTime p pcs).toNat
          let t4 := r.time.toNat
          let m' : Ptp := { s.ownPtp p 3 54 m.seq m.logPeriod with correction := m.correction, peer := m.source }
          let m' := if one then m'
            else { m' with twoStep := true, sec := t4 / unitsPerSec, ns := t4 % unitsPerSec / unitsPerNs,
                           correction := m.correction - (t4 % unitsPerNs : Nat) }
          let q := (a.1.scount 1).sendFrame p (s.replyFrame p r.frame m') t true one t4
          if one then q.1
          else q.1.awaitGeneral ⟨p, none, 0xA, m.seq, t,
            s.replyFrame p r.frame { s.ownPtp p 0xA 54 m.seq m.logPeriod with peer := m.source }⟩
    | _ => s

/-- FOLLOW_UP_SEND (R259, R260, R263): the oldest two-step message of port p gets its general message, with its own
transmit stamp. -/
def State.followUpSend (s : State) (p : Nat) : State :=
  match s.sv.waiting.find? fun w => w.port == p with
  | none => s
  | some w =>
    let s := { s with sv := { s.sv with waiting := s.sv.waiting.erase w } }
    match w.dst.body with
    | .ptp m =>
      if s.partState uPTPSRV != svSERVING || !s.linkUp p then s
      else
        let m' := { m with mtype := w.mtype, twoStep := false, seq := w.seq, sec := w.time / unitsPerSec,
                           ns := w.time % unitsPerSec / unitsPerNs, correction := (w.time % unitsPerNs : Nat) }
        (s.sendFrame p { w.dst with body := .ptp m' } 0 false false 0).1
    | _ => s

/-! Management (R261). -/

/-- managementIds that are answered, and the error codes (IEEE 1588; log 30). -/
def mgmtIds : List Nat := [0x0001, 0x2000, 0x2001, 0x2002, 0x2003, 0x2004]
def mgNO_SUCH_ID : Nat := 2
def mgNOT_SUPPORTED : Nat := 6

/-- MANAGEMENT_RX (R261): the oldest Management message that port p handed to the server. -/
def State.managementRx (s : State) (p : Nat) : State :=
  match s.takeRx (RxFrame.forServer p 0xD) with
  | none => s
  | some (r, s) => match r.frame.body with
    | .ptp m =>
      let st := s.partState uPTPSRV
      let target := m.peer / 2 ^ 16
      if st != svSERVING && st != svSUPPRESSED then s.scount 11
      else if target != s.clockIdent && target != 2 ^ 64 - 1 then s
      else
        let id := match m.tlvs with
          | .management i :: _ => i
          | _ => 0
        let ok := m.action == 0 && mgmtIds.contains id
        let t : Tlv := if ok then .management id
          else .errorStatus id (if m.action == 0 then mgNO_SUCH_ID else mgNOT_SUPPORTED)
        let m' := { s.ownPtp p 0xD m.length m.seq 0x7F with
          peer := m.source, action := 2, tlvs := [t], ann := if ok then some s.announceBody else none }
        ((s.drawn.scount (if ok then 7 else 8)).sendFrame p (s.replyFrame p r.frame m') 0 false false 0).1
    | _ => s

/-! NTP (R266–R268). -/

/-- An NTP timestamp of a T96 time in FRACTION units (R267). -/
def State.ntpTime (s : State) (t : Nat) : Nat :=
  let sec := ((t / unitsPerSec : Nat) : Int) - s.rdI F.TIME_UTC_OFFSET
  let sec := ((sec + 2208988800) % (2 ^ 32 : Int)).toNat
  let n := t % unitsPerSec * 2 ^ 32
  let frac := (2 * n + unitsPerSec) / (2 * unitsPerSec)
  (sec * 2 ^ 32 + frac) % 2 ^ 64

/-- The responder is unsynchronized (R266). -/
def State.ntpUnsync (s : State) : Bool :=
  let row := s.rd F.SVC_STATUS_CLASS_ROW
  row == 1 || row == 2 || row == 3 || row == 8 || !s.rdB F.TIME_UTC_VALID

/-- LI of a response. -/
def State.ntpLi (s : State) : Nat :=
  if s.ntpUnsync then 3 else if s.rdB F.TIME_UTC_LEAP61 then 1 else if s.rdB F.TIME_UTC_LEAP59 then 2 else 0

/-- Stratum of a response. -/
def State.ntpStratum (s : State) : Nat :=
  let v := s.svRd F.NTP_CFG_STRATUM
  if s.ntpUnsync then 16 else if v = 0 || 15 < v then 15 else v

/-- Root Dispersion, in 2⁻¹⁶ s. -/
def State.ntpDisp (s : State) : Nat :=
  let lo := s.svRd F.NTP_CFG_DISP_MIN
  let d := s.timeDpll
  if (s.dpll d).episode.isSome then max lo ((s.rd F.HOLD_TE_PRED_TE_NS d * 65536 + 999999999) / 1000000000) else lo

/-- Reference ID; not stated where the leaf is none of those the table names (log 10). -/
def State.ntpRef (s : State) : Nat :=
  let v := s.svRd F.NTP_REFID_REFID
  if v != 0 then v
  else match s.timeLeaf with
    | some m => if m < 16 || 40 ≤ m then 0x474E5353 else if 24 ≤ m then 0x50545000 else s.freeNat % 2 ^ 32
    | none => s.freeNat % 2 ^ 32

/-- The 16-bit words of an NTP packet. -/
def Ntp.words (n : Ntp) : List Nat :=
  let w32 := fun v : Nat => [bitsOf v 16 16, bitsOf v 0 16]
  let w64 := fun v : Nat => [bitsOf v 48 16, bitsOf v 32 16, bitsOf v 16 16, bitsOf v 0 16]
  [n.li * 2 ^ 14 + n.version % 8 * 2 ^ 11 + n.mode % 8 * 2 ^ 8 + n.stratum % 256,
   n.poll % 256 * 256 + ofSigned 8 n.precision] ++ w32 n.rootDelay ++ w32 n.rootDisp ++ w32 n.refId ++ w64 n.refTime ++
    w64 n.origin ++ w64 n.receive ++ w64 n.transmit

/-- A valid UDP checksum over the words of its pseudo-header, header and data; 0 is sent as 0xFFFF. -/
def udpSum (words : List Nat) : Nat := if words.sum % 65535 = 0 then 0xFFFF else 65535 - words.sum % 65535

/-- The words of an address of `n` octets. -/
def addrWords (n a : Nat) : List Nat := (List.range (n / 2)).map fun k => bitsOf a (16 * k) 16

/-- The frame that answers an NTP request, with its checksum (R267). -/
def State.ntpFrame (s : State) (p : Nat) (f : Frame) (n : Ntp) : Frame :=
  let mk := fun (u : Udp) (pseudo : List Nat) =>
    let u' : Udp := { sport := 123, dport := u.sport, payload := 48 }
    { u' with sum := udpSum (pseudo ++ [17, 56, 123, u.sport, 56] ++ n.words) }
  let net : Net := match f.net with
    | .udp4 _ a d u => .udp4 20 d a (mk u (addrWords 4 a ++ addrWords 4 d))
    | .udp6 _ a d u => .udp6 0 d a (mk u (addrWords 16 a ++ addrWords 16 d))
    | x => x
  { f with dst := f.src, src := s.portMac p, net := net, bytes := frameBytes f.tags net 48, fcsOk := true, body := .ntp n }

/-- The limiter's bucket of a request (R268). -/
def State.ntpBucket (s : State) (f : Frame) : Nat :=
  let seed := s.svRd F.NTP_LIMIT_SEED
  match f.net with
  | .udp4 _ a _ _ => crc32c (seed :: (beBytes 4 a).take 3) % 4096
  | .udp6 _ a _ _ => crc32c (seed :: (beBytes 16 a).take 8) % 4096
  | _ => 0

/-- The responder's budgets (R268): answers of the present second on a port and in the module. -/
def State.ntpBudget (s : State) (p : Nat) : State × Bool :=
  let sec := s.now / unitsPerSec
  let x := s.svcPort p
  let a := if x.ntpSec = sec then x.ntpCount else 0
  let b := if s.sv.ntpSec = sec then s.sv.ntpCount else 0
  if a < (if s.portMode p = 1 then 524288 else 1048576) && b < 4194304 then
    let s := s.setSvcPort p { x with ntpSec := sec, ntpCount := a + 1 }
    ({ s with sv := { s.sv with ntpSec := sec, ntpCount := b + 1 } }, true)
  else (s, false)

/-- The answer to an NTP request, with transmit time t (Table 11.7). -/
def State.ntpAnswer (s : State) (r : RxFrame) (n : Ntp) (t : Nat) : Ntp :=
  { li := s.ntpLi, version := n.version, mode := 4, stratum := s.ntpStratum, poll := n.poll, precision := -29,
    rootDisp := s.ntpDisp, refId := s.ntpRef, refTime := s.ntpTime (s.sv.lockedSec * unitsPerSec), origin := n.transmit,
    receive := s.ntpTime r.time.toNat, transmit := s.ntpTime t }

/-- A limited request (R268): counted, source 36 once per decision epoch, and with KOD a kiss-o'-death at most once per
bucket per second. -/
def State.ntpLimited (s : State) (r : RxFrame) (n : Ntp) (k : Nat) (b : Bucket) (t : Nat) : State :=
  let s := (s.scount 10).faultOnce 36 uNTPSRV k 0
  let sec := (r.time / unitsPerSec).toNat
  if s.svRd F.NTP_CFG_KOD == 1 && b.kod != some sec then
    let s := { s with sv := { s.sv with ntp := s.sv.ntp.put k { b with kod := some sec } } }
    let n' := { s.ntpAnswer r n t with stratum := 0, refId := 0x52415445, li := 3 }
    (s.drawn.sendFrame r.port (s.ntpFrame r.port r.frame n') t true false 0).1
  else s

/-- NTP_REQUEST_RX (R263, R266–R268): the oldest request that port p handed to the responder; `pcs` is when the answer's
timestamp point would cross the PCS. -/
def State.ntpRx (s : State) (p : Nat) (pcs : Int) : State :=
  match s.takeRx fun r => r.taker == 4 && r.port == p with
  | none => s
  | some (r, s) => match r.frame.body with
    | .ntp n =>
      if s.svRd F.NTP_CFG_ENABLE == 0 then s
      else if s.turnedAway uNTPSRV r.gen then s.scount 11
      else if s.ntpUnsync && s.svRd F.NTP_CFG_ANSWER_UNSYNC == 0 then s.scount 11
      else
        let t := (s.txTime p pcs).toNat
        let k := s.ntpBucket r.frame
        let b := s.takeToken (Tab.find s.sv.ntp k) r.time (s.svRd F.NTP_LIMIT_RATE_PER_S)
          (max 1 (s.svRd F.NTP_LIMIT_BURST)) unitsPerSec
        let s := { s.drawn with sv := { s.sv with ntp := s.sv.ntp.put k b.1 } }
        if !b.2 then s.ntpLimited r n k b.1 t
        else
          let g := s.ntpBudget p
          if !g.2 then g.1.scount 10
          else ((g.1.drawn.scount 9).sendFrame p (s.ntpFrame p r.frame (s.ntpAnswer r n t)) t true false 0).1
    | _ => s

end Sys2Proof.Machine
end

