-- ==== Sys2Proof/Machine/TimeCtr.lean ====
section
/-! DEFINITION. The time counter (R14, R206–R213, R215): boundaries of the epoch series, requests, orders and steps, votes,
start and restart, the porch's anchors, leap seconds, pulses (R211, R219, R317), and the seconds rule of R217. -/

namespace Sys2Proof.Machine

/-- The boundary of a series that comes next: now, if the counter stands on one that has not occurred yet (R14). -/
def State.boundary (s : State) (p : Nat) (last : Option Nat) : Nat :=
  if s.now % p = 0 ∧ last ≠ some s.now then s.now else nextBoundary p s.now

/-- The counter advances and drives: it runs with a majority (R206). -/
def State.counterValid (s : State) : Bool := s.tm.running && !s.tm.lost

/-! Requests (R209). -/

/-- TIME_SET: the counter is to be set to SET_TIME; a later request replaces a kept one. A SET_TIME with NANOSECONDS past
999,999,999 is refused (R5, R210). -/
def State.timeSet (s : State) : State :=
  if t96Legal s.tm.setTime then { s with tm := { s.tm with reqSet := some (ofT96 s.tm.setTime) } }
  else s.wr F.TIME_STEP_STATUS_RESULT 0 2

/-- TIME_STEP_REQUEST: the counter is to be stepped by STEP_AMOUNT; kept amounts add. -/
def State.timeStepRequest (s : State) : State :=
  { s with tm := { s.tm with reqStep := some (s.tm.reqStep.getD 0 + toSigned 96 s.tm.stepAmount) } }

/-- Cause codes of Table 9.1. -/
def tcSTART : Nat := 0
def tcRESTART : Nat := 1
def tcSET : Nat := 2
def tcSTEP : Nat := 3
def tcDPLL : Nat := 4
def tcTOD : Nat := 5

/-- The requests of an epoch make one order for the boundary that follows it (R209, R210). -/
def State.orderStep (s : State) (boundary : Nat) : State :=
  let t := s.tm
  if !s.counterValid || (t.reqSet.isNone && t.reqStep.isNone && t.reqDpll.isNone && t.reqTod.isNone) then s
  else
    let o : StepOrder := match t.reqSet with
      | some v => { causes := 2 ^ tcSET, amount := (v : Int) - boundary, refused := false, boundary := boundary }
      | none =>
        let part := fun (r : Option Int) (c : Nat) => if r.isSome then 2 ^ c else 0
        let amount := t.reqStep.getD 0 + t.reqDpll.getD 0 + t.reqTod.getD 0
        { causes := part t.reqStep tcSTEP + part t.reqDpll tcDPLL + part t.reqTod tcTOD, amount := amount,
          refused := (boundary : Int) + amount < 0, boundary := boundary }
    { s with tm := { t with reqSet := none, reqStep := none, reqDpll := none, reqTod := none, ordered := some o } }

/-! A step (R209–R211). -/

/-- A run of equal seconds results through a step (R217): a step of whole seconds A moves its d to d − A, any other breaks
it. -/
def TodRun.stepped (r : TodRun) (a : Int) : TodRun :=
  if a % (unitsPerSec : Int) = 0 then { r with d := r.d - a / unitsPerSec, lastPulse := r.lastPulse.map (· + a) }
  else { r with run := 0, lastPulse := r.lastPulse.map (· + a) }

/-- Stored stamps of a channel move with the counter. -/
def ChanSt.stepped (x : ChanSt) (a : Int) : ChanSt :=
  { x with lastEdge := x.lastEdge.map (· + a), lastStamp := x.lastStamp.map (· + a), lastDrop := x.lastDrop.map (· + a)
           fifo := x.fifo.map fun st => { st with t := st.t + a }
           pulses := x.pulses.map fun p => (p.1 + a, p.2) }

/-- Stored stamps of a monitor move with the counter, and hit judging starts again (R120). -/
def QualSt.steppedBy (q : QualSt) (a : Int) : QualSt :=
  { q with origin := q.origin.map fun o => (o.1 + a, o.2), expect := q.expect.map (· + a)
           hist := q.hist.map fun h => (((h.1 : Int) + a).toNat, h.2), resid := [], sinceRestart := 0 }

/-- Accumulators and times of a DPLL move with the counter (R157, R158). -/
def DpllSt.stepped (p : DpllSt) (a : Int) : DpllSt :=
  let mv := fun t : Nat => ((t : Int) + a).toNat
  { p with acc := p.acc + a * 2 ^ 48
           episode := p.episode.map fun e => { e with start := mv e.start } }

/-- A servo's samples and exchanges through a step of amount A (R269): A is added to forward samples and taken from reverse
ones, and θ runs on with the counter. -/
def ServoSt.stepped (x : ServoSt) (a : Int) : ServoSt :=
  { x with fwd := x.fwd.map fun p => (p.1 + a, p.2 + a)
           rev := x.rev.map fun p => (p.1 + a, p.2 - a)
           hist := x.hist.map fun p => (p.1 + a, p.2 + a)
           theta := x.theta.map (· + a)
           syncs := x.syncs.map fun p => { p with time := p.time + a }
           reqs := x.reqs.map fun p => (p.1, p.2.1 + a, p.2.2) }

/-- Frames on their way to a servo keep their place in time through a step. -/
def RxFrame.stepped (r : RxFrame) (a : Int) : RxFrame := if r.taker = 2 then { r with time := r.time + a } else r

/-- What a step moves in every part that measures time against the counter. -/
def State.shiftTimes (s : State) (a : Int) : State :=
  let mv := fun t : Nat => ((t : Int) + a).toNat
  let s := s.shiftFaultTimers a
  { s with
    td := { s.td with chan := s.td.chan.map fun p => (p.1, p.2.stepped a) }
    ql := { s.ql with mon := s.ql.mon.map fun p => (p.1, p.2.steppedBy a) }
    dp := s.dp.map fun p => (p.1, p.2.stepped a)
    sy := { s.sy with degStart := s.sy.degStart.map mv, degEnd := s.sy.degEnd.map mv }
    pk := s.pk.map fun p => (p.1, p.2.stepped a)
    sv := { s.sv with inbox := s.sv.inbox.map fun r => r.stepped a }
    pr := { s.pr with timeRun := s.pr.timeRun.stepped a }
    tm := { s.tm with tod := s.tm.tod.map fun p => (p.1, p.2.stepped a), servoRun := s.tm.servoRun.stepped a } }

/-- The period of the grid of the time DPLL's heaviest pin leaf, numerator and denominator in FRACTION units. -/
def State.gridOf (s : State) (d : Nat) : Int × Int :=
  let leaves := match (s.dpll d).recipe with
    | some r => r.leaves.filter fun l => l.w ≠ 0
    | none => []
  match leastBy (fun l : RecLeaf => (wholeWeight - l.w) * 256 + l.m) leaves with
  | some l => match s.monChan l.m with
    | some c => (s.periodNum c, s.periodDen c)
    | none => (unitsPerSec, 1)
  | none => (unitsPerSec, 1)

/-- A phase reduced to (−P/2, P/2] of a grid. -/
def wrapTo (p : Int × Int) (x : Int) : Int :=
  if p.2 = 0 then x
  else
    let n := x * p.2 % p.1
    quotient 85 (if p.1 < 2 * n then n - p.1 else n) p.2

/-- The time DPLL after a step of kind R171 or R172: B := 0, and the raw phase is measured anew against the stepped
counter, modulo the leaf's grid (log 26). -/
def State.dpllStepped (s : State) (j : Int) : State :=
  let d := s.timeDpll
  let p := s.dpll d
  let r := wrapTo (s.gridOf d) (p.b - j)
  ((s.setDpll d { p with rAdj := p.rAdj + r - p.b, b := 0 }).wr F.DP_STATUS_SLEWING d 0).wr F.TIME_STATUS_FRACTION_SET 0 1

/-- The counter takes a new value at once; the series go on from it (R14). -/
def State.jumpTo (s : State) (t : Nat) : State :=
  let keep := fun c : Nat => c % 2 ^ 48
  { s with tm := { s.tm with copyA := t * 2 ^ 48 + keep s.tm.copyA, copyB := t * 2 ^ 48 + keep s.tm.copyB,
                             copyC := t * 2 ^ 48 + keep s.tm.copyC, series := t, lastHour := some t,
                             lastService := some t, lastModel := some t, lastAnchor := some t } }

/-- The generation, status and record of a step that has been made (R209, Table 14.7). -/
def State.stepRecord (s : State) (causes : Nat) (amount : Int) (newGen : Bool) : State :=
  let s := s.when newGen fun t => t.wr F.TIME_STEP_STATUS_GEN 0 (t.gen + 1)
  let s := s.wrAll [(F.TIME_STEP_STATUS_RESULT, 0, 1), (F.TIME_STEP_STATUS_CAUSES, 0, causes),
                    (F.TIME_STATUS_AGREE, 0, 0), (F.TIME_STATUS_MISMATCH_PENDING, 0, 0)]
  let s := s.bump F.TIME_STEP_STATUS_COUNT
  let s := { s with tm := { s.tm with lastStepAt := some s.now, lastStepAmount := some amount } }
  s.hold { gen := s.gen, time := s.now, source := 88, unit := uTCOUNT, severity := 0, conseq := false, late := false,
           detail := causes * 2 ^ 88 + ofSigned 88 amount, bound := s.tm.elapsed, order := 0 }

/-- The ordered step is made: all three copies change together (R209–R211). -/
def State.applyStep (s : State) : State :=
  match s.tm.ordered with
  | none => s
  | some o =>
    let s := { s with tm := { s.tm with ordered := none } }
    let host := bitOf o.causes tcSET || bitOf o.causes tcSTEP
    if o.refused then s.wr F.TIME_STEP_STATUS_RESULT 0 2
    else
      let s := s.when (host || (bitOf o.causes tcTOD && o.amount != 0)) fun t => t.wr F.TIME_STATUS_SECONDS_SET 0 1
      let s := s.when (bitOf o.causes tcDPLL) fun t => t.dpllStepped ((t.dpll t.timeDpll).jump)
      if o.amount = 0 then s.wr F.TIME_STEP_STATUS_RESULT 0 3
      else
        let s := ((s.shiftTimes o.amount).jumpTo ((s.now : Int) + o.amount).toNat).stepGates
        let s := s.stepRecord o.causes o.amount true
        s.when (bitOf o.causes tcTOD) fun t => t.info 89 uTCOUNT 0 0 0

/-- TIME_STEP (R209): at its boundary the ordered step takes effect; the epoch that begins there is still to come. -/
def State.timeStep (s : State) : State :=
  match s.tm.ordered with
  | some o =>
    if s.counterValid then
      let s := (s.advanceTo o.boundary).applyStep
      { s with tm := { s.tm with stepEpoch := true } }
    else s
  | none => s

/-! Votes (R206). -/

/-- TIME_VOTE_ONE: copy `c` (0 A, 1 B, 2 C) differs; it is reloaded from the other two. -/
def State.timeVoteOne (s : State) (c : Nat) : State :=
  if !s.counterValid || 2 < c then s
  else
    let v := if c = 0 then s.tm.copyB else s.tm.copyA
    let s := if c = 0 then { s with tm := { s.tm with copyA := v } }
      else if c = 1 then { s with tm := { s.tm with copyB := v } }
      else { s with tm := { s.tm with copyC := v } }
    ((s.bump F.TIME_VOTE_STATUS_REPAIRS).wr F.TIME_VOTE_STATUS_LAST_COPY 0 c).fault 4 uTCOUNT c 0

/-- TIME_VOTE_NONE: no two copies agree; the counter drives nothing until TCOUNT is reset, while the series go on. -/
def State.timeVoteNone (s : State) : State :=
  if !s.counterValid then s
  else
    let s := { s with tm := { s.tm with lost := true, series := s.now } }
    (s.wrAll [(F.TIME_STATUS_VALID, 0, 0), (F.TIME_VOTE_STATUS_NO_MAJORITY, 0, 1)]).fault 5 uTCOUNT 0 0

/-! Start and restart (R213). -/

/-- FRACTION units of a count of porch ticks: 30,517.578125 ns each, rounded down to a whole unit. -/
def porchUnits (sec ticks : Nat) : Nat := sec * unitsPerSec + ticks * 2000000000

/-- The timekeeping domain runs: on APLL0, or on the qualified TCXO path. -/
def State.tkRuns (s : State) : Bool := s.loopLocked 0 || (s.rdB F.CLK_BASE_STATUS_TK_ON_PATH && s.pathQual)

/-- The counter's start value loads every DPLL's accumulator, and alignments are to be made anew (R157, R172). -/
def State.loadDplls (s : State) : State :=
  State.forAll 16 (fun d t => t.modDpll d fun p =>
    { p with acc := (t.now : Int) * 2 ^ 48, accAt := t.tm.fine, aligned := false, everBuilt := false }) s

/-- COUNTER_START (R16, R209, R213): the domain runs and the counter takes the porch time now read, or T96 zero where that
is not valid. For a restart, `expected` is the counter's extrapolated value. -/
def State.counterStart (s : State) (sec ticks expected : Nat) : State :=
  if s.tm.running || !s.tkRuns || !s.inService uTCOUNT then s
  else
    let good := s.tm.porchAnchored
    let value := if good then porchUnits sec (ticks % 32768) else 0
    let first := !s.tm.started
    let amount : Int := if first then 0 else (value : Int) - expected
    let s := { s with tm := { s.tm with running := true, started := true, lost := false, ordered := none,
                                        stepEpoch := false,
                                        porchSec := if good then sec else s.tm.porchSec,
                                        porchTicks := if good then ticks % 32768 else s.tm.porchTicks } }
    let s := if first then s else s.shiftTimes amount
    let s := ((s.jumpTo value).loadDplls).stepGates
    let s := { s with tm := { s.tm with copyA := value * 2 ^ 48, copyB := value * 2 ^ 48, copyC := value * 2 ^ 48,
                                        lastEpoch := some value } }
    let s := s.wrAll [(F.TIME_STATUS_VALID, 0, 1), (F.TIME_STATUS_SECONDS_SET, 0, 0),
                      (F.TIME_STATUS_FRACTION_SET, 0, 0), (F.TIME_STATUS_PORCH_START, 0, b2n good),
                      (F.TIME_STATUS_PORCH_LOST, 0, b2n (!good)), (F.TIME_VOTE_STATUS_NO_MAJORITY, 0, 0),
                      (F.CLK_MUX_STATUS_GATED, 1, 0)]
    let s := s.porchTrace 7 (b2n (!good))
    let s := if first || amount != 0 then s.stepRecord (if first then 1 else 2) amount (!first)
      else s.wr F.TIME_STEP_STATUS_RESULT 0 3
    s.directStage

/-- PORCH_ANCHOR (R212): at a whole second of the valid counter the porch takes its seconds. -/
def State.porchAnchor (s : State) : State :=
  if !s.counterValid then s
  else
    let s := s.advanceTo (s.boundary unitsPerSec s.tm.lastAnchor)
    let sec := s.now / unitsPerSec
    let s := { s with tm := { s.tm with porchSec := sec, porchTicks := 0, porchAnchored := true,
                                        lastAnchor := some s.now } }
    s.wrAll [(F.PORCH_STATUS_TIME_VALID, 0, 1), (F.PORCH_STATUS_SET, 0, s.rd F.TIME_STATUS_SECONDS_SET),
             (F.PORCH_SECONDS_SECONDS, 0, sec)]

/-- LEAP_SECOND (R215): at the end of the UTC day OFFSET changes by the leap flags, which clear. -/
def State.leapSecond (s : State) : State :=
  let d : Int := (s.rd F.TIME_UTC_LEAP61 : Int) - s.rd F.TIME_UTC_LEAP59
  s.wrAll [(F.TIME_UTC_OFFSET, 0, ofSigned 16 (s.rdI F.TIME_UTC_OFFSET + d)), (F.TIME_UTC_LEAP61, 0, 0),
           (F.TIME_UTC_LEAP59, 0, 0)]

/-! Pulses (R211, R219, R317). -/

/-- The QUALIFY condition of pulse output p (R219). -/
def State.ppsQualified (s : State) (p : Nat) : Bool :=
  let q := s.rd F.PPS_CFG_QUALIFY p
  let d := s.timeDpll
  q == 0 || (s.rdB F.TIME_STATUS_SECONDS_SET &&
    (q == 1 || s.dpState d == 3 || ((s.dpll d).episode.isSome && !s.rdB F.HOLD_STATUS_OUT_OF_SPEC d)))

/-- Pulse output p is held at its idle level: in Stages 0 and 1, disabled, not qualified, without a valid counter, or while
its unit is out of service. -/
def State.ppsHeld (s : State) (p : Nat) : Bool :=
  s.stage < 2 || !s.rdB F.PPS_CFG_ENABLE p || !s.ppsQualified p || !s.counterValid || !s.inService (uPPS p)

/-- Width, offset and polarity as the registers of pulse output p stand: width clamped to 100–500,000,000 ns. -/
def State.ppsSettings (s : State) (p : Nat) : Nat × Nat × Nat :=
  (max 100 (min 500000000 (s.rd F.PPS_WIDTH_WIDTH_NS p)), s.rd F.PPS_OFFSET_OFFSET_PS p, s.rd F.PPS_CFG_POLARITY p)

/-- The next leading edge of a pulse with a given offset, and its whole second, not before now and not a second already
used. -/
def State.pulseAt (s : State) (last : Option Nat) (offset : Nat) : Nat × Nat :=
  let off := psToUnits (toSigned 32 offset)
  let x := (s.now : Int) - off
  let k := x / (unitsPerSec : Int) * unitsPerSec
  let k := if k = x ∧ last ≠ some k.toNat then k else k + unitsPerSec
  (k.toNat, (k + off).toNat)

/-- The settings that govern the next pulse: the newest whose leading edge lies at least 1 ms after their commit. -/
def State.pulseSettings (s : State) (p : Nat) : Nat × Nat × Nat :=
  let x := s.tm.pps.at p {}
  match x.sets.find? fun w => w.1 + unitsPerMs ≤ (s.pulseAt x.lastAt w.2.2.1).2 with
  | some w => w.2
  | none => match x.sets.getLast? with
    | some w => w.2
    | none => s.ppsSettings p

/-- A write of PPS settings is noted with its commit time; `old` are the settings before it. -/
def State.notePps (s : State) (p : Nat) (old : Nat × Nat × Nat) : State :=
  let x := s.tm.pps.at p {}
  let sets := (s.now, s.ppsSettings p) :: (if x.sets.isEmpty then [(0, old)] else x.sets.take 15)
  { s with tm := { s.tm with pps := s.tm.pps.set p { x with sets := sets } {} } }

/-- One pulse: the counter reaches its leading edge; a pulse less than 100 ns after the trailing edge of the one before is
not issued (R211). -/
def State.pulse (s : State) (p second lead width : Nat) (held : Bool) : State :=
  let s := s.advanceTo lead
  let x := s.tm.pps.at p {}
  let close := match x.trailing with
    | some e => decide (s.tm.elapsed < e + 100 * unitsPerNs)
    | none => false
  let put := fun (y : PpsSt) => { s with tm := { s.tm with pps := s.tm.pps.set p y {} } }
  if held then put { x with lastAt := some second }
  else if close then (put { x with lastAt := some second }).when (p < 4) (·.bump F.PPS_STATUS_SUPPRESSED p)
  else (put { x with lastAt := some second, trailing := some (s.tm.elapsed + width * unitsPerNs) }).emitOut
    (.pulse p second width)

/-- PPS_PULSE (R219, R317): pulse output p (0–3), or HWO_PPS as number 4, at its next whole second. -/
def State.ppsPulse (s : State) (p : Nat) : State :=
  if !s.tm.running then s
  else if p = 4 then
    let at_ := s.pulseAt (s.tm.pps.at 4 {}).lastAt 0
    s.pulse 4 at_.1 at_.2 100000 (s.isSole || s.pairState != psACTIVE || !s.counterValid)
  else
    let set := s.pulseSettings p
    let at_ := s.pulseAt (s.tm.pps.at p {}).lastAt set.2.1
    s.pulse p at_.1 at_.2 set.1 (s.ppsHeld p)

/-! Seconds (R217). -/

/-- One more result d of a run; a result with another d starts a new run. -/
def TodRun.add (r : TodRun) (d : Int) : TodRun :=
  if r.run ≠ 0 ∧ r.d = d then { r with run := r.run + 1 } else { r with d := d, run := 1 }

/-- A seconds decision (R217): the counter agrees, is stepped by d seconds, or a mismatch is flagged. -/
def State.secondsDecision (s : State) (unit : Nat) (d : Int) (auto_ : Bool) : State :=
  if d = 0 then
    (s.wrAll [(F.TIME_STATUS_SECONDS_SET, 0, 1), (F.TIME_STATUS_AGREE, 0, 1), (F.TIME_STATUS_MISMATCH_PENDING, 0, 0)]).info
      89 uTCOUNT 0 0 0
  else if !s.rdB F.TIME_STATUS_SECONDS_SET || auto_ then
    let s := s.wrAll [(F.TIME_STATUS_AGREE, 0, 0), (F.TIME_STATUS_MISMATCH_PENDING, 0, 0)]
    { s with tm := { s.tm with reqTod := some (d * unitsPerSec) } }
  else
    ((s.wrAll [(F.TIME_STATUS_AGREE, 0, 0), (F.TIME_STATUS_MISMATCH_PENDING, 0, 1)]).fault 28
      (if unit == uTODI 1 then unit else uTODI 0) (ofSigned 32 d) 0).info 89 uTCOUNT 0 0 0

/-- The whole second nearest a stamp, and the stamp's distance from it. -/
def nearestSecond (t : Int) : Int × Int :=
  let n := (2 * t + unitsPerSec) / (2 * unitsPerSec)
  (n, t - n * unitsPerSec)

end Sys2Proof.Machine
end

