-- ==== Sys2Proof/Machine/Tod.lean ====
section
/-! DEFINITION. Time-of-day input (R215–R217): calendar, the two message formats, the pulse a message refers to, and its
result. -/

namespace Sys2Proof.Machine

/-! Calendar. -/

/-- Days from 1970-01-01 to a date of the Gregorian calendar. -/
def daysFrom (y m d : Nat) : Int :=
  let a : Int := if m ≤ 2 then (y : Int) - 1 else y
  let k : Int := ((m + 9) % 12 : Nat)
  365 * a + a / 4 - a / 100 + a / 400 + (153 * k + 2) / 5 + d - 1 - 719468

/-- Year, month and day of a day count from 1970-01-01. -/
def dateOf (days : Nat) : Nat × Nat × Nat :=
  let z := days + 719468
  let era := z / 146097
  let doe := z % 146097
  let yoe := (doe - doe / 1460 + doe / 36524 - doe / 146096) / 365
  let doy := doe - (365 * yoe + yoe / 4 - yoe / 100)
  let k := (5 * doy + 2) / 153
  let m := if k < 10 then k + 3 else k - 9
  (yoe + era * 400 + (if m ≤ 2 then 1 else 0), m, doy - (153 * k + 2) / 5 + 1)

/-- Days of a month. -/
def monthDays (y m : Nat) : Nat :=
  if m = 2 then (if y % 4 = 0 ∧ (y % 100 ≠ 0 ∨ y % 400 = 0) then 29 else 28)
  else if m = 4 ∨ m = 6 ∨ m = 9 ∨ m = 11 then 30 else 31

/-! NMEA 0183. -/

/-- The characters of a text as bytes. -/
def ascii (t : String) : List Nat := t.toList.map fun c => c.toNat

/-- XOR of a run of bytes. -/
def xorAll (l : List Nat) : Nat := l.foldl (· ^^^ ·) 0

/-- The value of a hexadecimal digit. -/
def hexDigit (c : Nat) : Option Nat :=
  if 48 ≤ c ∧ c ≤ 57 then some (c - 48)
  else if 65 ≤ c ∧ c ≤ 70 then some (c - 55)
  else if 97 ≤ c ∧ c ≤ 102 then some (c - 87)
  else none

/-- A number of decimal digits only. -/
def decimal (l : List Nat) : Option Nat :=
  if l.isEmpty then none
  else l.foldl (fun a c => match a with
    | some v => if 48 ≤ c ∧ c ≤ 57 then some (v * 10 + (c - 48)) else none
    | none => none) (some 0)

/-- The fields of a sentence between commas. -/
def commaFields : List Nat → List (List Nat)
  | [] => [[]]
  | c :: l => match commaFields l with
    | f :: r => if c = 44 then [] :: f :: r else (c :: f) :: r
    | [] => [[c]]

/-- hhmmss with an optional fraction of .00 as seconds of the day; second 60 only at the end of the day's last minute. -/
def nmeaTime (f : List Nat) : Option Nat :=
  let tail := f.drop 6
  if tail ≠ [] ∧ tail ≠ ascii ".00" then none
  else match decimal (f.take 2), decimal ((f.drop 2).take 2), decimal ((f.drop 4).take 2) with
    | some h, some m, some s =>
      if f.length < 6 ∨ 23 < h ∨ 59 < m ∨ 60 < s ∨ (s = 60 ∧ (h ≠ 23 ∨ m ≠ 59)) then none else some (h * 3600 + m * 60 + s)
    | _, _, _ => none

/-- A date and a time of day as UTC seconds from 1970. -/
def utcSeconds (y m d t : Nat) : Option Int :=
  if m = 0 ∨ 12 < m ∨ d = 0 ∨ monthDays y m < d then none else some (daysFrom y m d * 86400 + t)

/-- What a message says once read: its result so far (0 while none has been found), the seconds it states, whether they
are UTC, whether it refers to the pulse after it, and the values of a binary message. -/
structure TodRead where
  result : Nat
  seconds : Int := 0
  utc : Bool := false
  after : Bool := false
  offset : Int := 0
  flags : Nat := 0
  deriving DecidableEq, Repr

/-- The text of a sentence between `$` and `*`, its checksum digits, and whether its length is allowed. -/
def nmeaBody (b : List Nat) : Option (List Nat × List Nat) :=
  let b := if b.drop (b.length - 2) = [13, 10] then b.take (b.length - 2) else b
  match b with
  | 36 :: l =>
    let body := l.takeWhile (· ≠ 42)
    let rest := l.drop body.length
    match rest with
    | 42 :: h => some (body, h)
    | _ => none
  | _ => none

/-- A ZDA sentence's fields. -/
def readZda (f : List (List Nat)) : TodRead :=
  match nmeaTime (f.getD 1 []), decimal (f.getD 2 []), decimal (f.getD 3 []), decimal (f.getD 4 []) with
  | some t, some d, some m, some y =>
    if (f.getD 2 []).length ≠ 2 ∨ (f.getD 3 []).length ≠ 2 ∨ (f.getD 4 []).length ≠ 4 then { result := 3 }
    else match utcSeconds y m d t with
      | some u => { result := 0, seconds := u, utc := true }
      | none => { result := 3 }
  | _, _, _, _ => { result := 3 }

/-- An RMC sentence's fields: status A, a two-digit year taken as 1970–2069. -/
def readRmc (f : List (List Nat)) : TodRead :=
  let date := f.getD 9 []
  match nmeaTime (f.getD 1 []), decimal (date.take 2), decimal ((date.drop 2).take 2), decimal (date.drop 4) with
  | some t, some d, some m, some yy =>
    if date.length ≠ 6 then { result := 3 }
    else if f.getD 2 [] = ascii "V" then { result := 4 }
    else if f.getD 2 [] ≠ ascii "A" then { result := 3 }
    else match utcSeconds (if yy < 70 then 2000 + yy else 1900 + yy) m d t with
      | some u => { result := 0, seconds := u, utc := true }
      | none => { result := 3 }
  | _, _, _, _ => { result := if f.getD 2 [] = ascii "V" then 4 else 3 }

/-- A sentence (R216): its checksum, then its type, then its fields. -/
def readNmea (b : List Nat) : TodRead :=
  match nmeaBody b with
  | none => { result := 3 }
  | some (body, h) =>
    match (h.getD 0 0 |> hexDigit), (h.getD 1 0 |> hexDigit) with
    | some x, some y =>
      if h.length ≠ 2 ∨ 82 < b.length then { result := 3 }
      else if xorAll body ≠ x * 16 + y then { result := 2 }
      else
        let f := commaFields body
        let kind := (f.getD 0 []).drop 2
        if (f.getD 0 []).length ≠ 5 then { result := 7 }
        else if kind = ascii "ZDA" then readZda f
        else if kind = ascii "RMC" then readRmc f
        else { result := 7 }
    | _, _ => { result := 2 }

/-- A binary message (Table 9.3). -/
def readBinary (b : List Nat) : TodRead :=
  if b.length ≠ 24 then { result := 3 }
  else if crc16 (b.take 22) ≠ beNat (b.drop 22) then { result := 2 }
  else if b.take 4 ≠ [0xC7, 0x3E, 1, 1] ∨ b.getD 21 0 ≠ 0 ∨ 64 ≤ b.getD 12 0 then { result := 3 }
  else
    { result := 0, seconds := beNat ((b.drop 4).take 6), after := bitOf (b.getD 12 0) 5,
      offset := toSigned 16 (beNat ((b.drop 10).take 2)), flags := b.getD 12 0 }

/-! The result (Table 9.4). -/

/-- The channel of a port's pulse; 28–31 act as 27. -/
def State.todPulse (s : State) (j : Nat) : Nat := min 27 (s.rd F.TODI_CFG_PULSE j)

/-- Confirmations a port asks for; 0 acts as 1. -/
def State.todConfirm (s : State) (j : Nat) : Nat := max 1 (s.rd F.TODI_CFG_CONFIRM j)

/-- A time-of-day output that is on sends NMEA. -/
def State.nmeaNeeded (s : State) : Bool :=
  [0, 1].any fun j => s.rdB F.TODO_CFG_ENABLE j && s.rd F.TODO_CFG_FORMAT j != 1

/-- The pulse stamp a message refers to (R216), with its generation. -/
def State.todStamp (s : State) (c start stop : Nat) (after : Bool) : Option (Int × Nat) :=
  let l := (s.chan c).pulses
  let ms : Int := unitsPerMs
  if after then
    l.reverse.find? fun p => (stop : Int) + 10 * ms ≤ p.1 && p.1 ≤ stop + 990 * ms
  else l.find? fun p => p.1 + 10 * ms ≤ start && (start : Int) ≤ p.1 + 990 * ms

/-- A port's run put. -/
def State.setTod (s : State) (j : Nat) (r : TodRun) : State := { s with tm := { s.tm with tod := s.tm.tod.set j r {} } }

/-- A binary message on the port of TIME_UTC.SOURCE updates TIME_UTC (R215; what it updates is log 27). -/
def State.utcFrom (s : State) (j : Nat) (r : TodRead) : State :=
  if s.rd F.TIME_UTC_SOURCE == j + 1 && bitOf r.flags 4 then
    s.wrAll [(F.TIME_UTC_OFFSET, 0, ofSigned 16 r.offset), (F.TIME_UTC_VALID, 0, 1),
             (F.TIME_UTC_LEAP61, 0, b2n (bitOf r.flags 0)), (F.TIME_UTC_LEAP59, 0, b2n (bitOf r.flags 1))]
  else s

/-- The result of a message on port j: code, S_tod and d, with the pulse (R216, R217). -/
def State.todJudge (s : State) (j : Nat) (r : TodRead) (start stop : Nat) : Nat × Int × Int × Int :=
  if r.result ≠ 0 then (r.result, 0, 0, 0)
  else if !r.utc && !bitOf r.flags 4 && s.nmeaNeeded then (4, 0, 0, 0)
  else if r.utc && !s.rdB F.TIME_UTC_VALID then (6, 0, 0, 0)
  else match s.todStamp (s.todPulse j) start stop r.after with
    | none => (5, 0, 0, 0)
    | some (t, g) =>
      let n := nearestSecond t
      let tod := if r.utc then r.seconds + s.rdI F.TIME_UTC_OFFSET else r.seconds
      if g ≠ s.gen then (10, 0, 0, t)
      else if (s.tm.tod.at j {}).lastPulse = some t then (9, 0, 0, t)
      else if 100 * (unitsPerMs : Int) < |n.2| then (11, 0, 0, t)
      else (1, tod, tod - n.1, t)

/-- TOD_MESSAGE_RX (R216, R217): port j has received a whole message; `framing` tells a missing stop bit, `start` and `stop`
are the counter's values at its first start bit and last stop bit. -/
def State.todMessage (s : State) (j : Nat) (bytes : List Nat) (framing : Bool) (start stop : Nat) : State :=
  if !s.rdB F.TODI_CFG_ENABLE j || !s.inService (uTODI j) then s
  else
    let s := s.advanceTo stop
    let binary := s.rd F.TODI_CFG_FORMAT j == 1
    let r := if framing then { result := 8 } else if binary then readBinary bytes else readNmea bytes
    let v := s.todJudge j r start stop
    let x := s.tm.tod.at j {}
    let run := if v.1 = 1 then { x.add v.2.2.1 with lastPulse := some v.2.2.2, lastOk := some start }
      else { x with run := 0, lastOk := some start }
    let s := (s.setTod j run).wrAll [(F.TODI_STATUS_LAST_RESULT, j, v.1), (F.TODI_STATUS_RUN, j, min 7 run.run)]
    if v.1 ≠ 1 then s
    else
      let s := (s.bumpWrap F.TODI_STATUS_ACCEPTED j).wr F.TODI_STATUS_LAST_D j
        (ofSigned 8 (clampInt (-127) 127 v.2.2.1))
      let s := { s with tm := { s.tm with todLast := s.tm.todLast.put j v.2.1.toNat } }
      let s := s.when binary (·.utcFrom j r)
      if s.rd F.TIME_CFG_SEC_SRC == j + 1 && !s.isStandby && s.todConfirm j ≤ run.run then
        s.secondsDecision (uTODI j) v.2.2.1 (s.rdB F.TIME_CFG_AUTO_SEC)
      else s

end Sys2Proof.Machine
end

