-- ==== Sys2Proof/Machine/Servo.lean ====
section
/-! DEFINITION. Packet servos (R269–R273): exchanges and samples, the estimate, windows and frequency, the state machine of
Table 11.8. States are 0 `DISABLED`, 1 `REQUESTING`, 2 `FILLING`, 3 `TRACKING`, 4 `LOST`. -/

namespace Sys2Proof.Machine

/-- The state of servo k. -/
def State.pkState (s : State) (k : Nat) : Nat := s.rd F.PK_STATUS_STATE k

/-- A servo's own state changed. -/
def State.modServo (s : State) (k : Nat) (f : ServoSt → ServoSt) : State := s.setServo k (f (s.servo k))

/-- UNICAST of servo k. -/
def State.pkUnicast (s : State) (k : Nat) : Bool := s.pkRd k F.PK_CFG_UNICAST k == 1

/-- The port of servo k. -/
def State.pkPort (s : State) (k : Nat) : Nat := s.pkRd k F.PK_CFG_PORT k

/-- The servo's DOMAIN lies outside the profile's range (R255). -/
def State.pkBad (s : State) (k : Nat) : Bool := !domainOk s.profile (s.pkRd k F.PK_CFG_DOMAIN k)

/-- Bounds of the windows, as logarithms (PK_FILTER). -/
def State.pkWinMin (s : State) (k : Nat) : Nat := max 3 (min 11 (s.pkRd k F.PK_FILTER_WIN_MIN_LOG k))
def State.pkWinMax (s : State) (k : Nat) : Nat := max (s.pkWinMin k) (max 3 (min 11 (s.pkRd k F.PK_FILTER_WIN_MAX_LOG k)))

/-- n(fwd) and n(rev). -/
def State.pkN (s : State) (k : Nat) (rev : Bool) : Nat :=
  let x := s.servo k
  let n := if rev then x.nRev else x.nFwd
  if n = 0 then 2 ^ s.pkWinMin k else n

/-- The windows are cleared, and all that was formed from them. -/
def State.pkClear (s : State) (k : Nat) : State :=
  let s := s.modServo k fun x =>
    { x with fwd := [], rev := [], nFwd := 0, nRev := 0, calmFwd := 0, calmRev := 0, spreadFwd := none, spreadRev := none,
             theta := none, hist := [], offset := none, syncs := [], reqs := [] }
  s.wrAll [(F.PK_WINDOW_N_FWD, k, s.pkN k false), (F.PK_WINDOW_N_REV, k, s.pkN k true), (F.PK_WINDOW_SPREAD_NS, k, 0)]

/-- The grants are cleared. -/
def State.pkUngrant (s : State) (k : Nat) : State :=
  (s.modServo k fun x => { x with sync := {}, dresp := {}, annc := {} }).wrAll
    [(F.PK_STATUS_SYNC_GRANTED, k, 0), (F.PK_STATUS_DRESP_GRANTED, k, 0), (F.PK_STATUS_ANN_GRANTED, k, 0)]

/-- A change of state: source 96 (R272). -/
def State.pkGoes (s : State) (k new : Nat) : State :=
  if s.pkState k = new then s else (s.wr F.PK_STATUS_STATE k new).info 96 (uPK k) 0 0 0

/-! Messages sent. -/

/-- The servo may send: in service, on a port that can, not passive, its DOMAIN within the range. -/
def State.pkSends (s : State) (k : Nat) : Bool :=
  s.pkState k != 0 && !s.isStandby && !s.pkBad k && s.inService (uPK k) && s.linkUp (s.pkPort k) && !s.bridged (s.pkPort k)

/-- Where the servo's messages go: to its master, by the address its frames came from; with UNICAST = 0 to the profile's
multicast address (log 30). A master's MAC address that no frame has shown is not stated (log 10). -/
def State.pkFrame (s : State) (k : Nat) (multicast : Bool) (m : Ptp) : Frame :=
  let p := s.pkPort k
  let x := s.servo k
  let addr := if s.pkMaster k ≠ 0 then s.pkMaster k else (x.master.map (·.1)).getD 0
  if multicast then
    match s.pkTransport k with
    | 1 => s.ptpFrame p 1 0x01005E000181 0xE0000181 0 0 m
    | 2 => s.ptpFrame p 2 0x333300000181 (0xFF0E * 2 ^ 112 + 0x181) 0 0 m
    | _ => s.mcFrame p m
  else
    s.ptpFrame p (s.pkTransport k) (if s.pkTransport k = 0 then addr else x.mac.getD (s.freeNat % 2 ^ 48)) addr 0 0 m

/-- A message of servo k. -/
def State.pkPtp (s : State) (k mtype len seq : Nat) (log : Int) : Ptp :=
  { s.ownPtp (s.pkPort k) mtype len seq log with domain := s.pkRd k F.PK_CFG_DOMAIN k }

/-- Message type, rate log and grant of the three services (Announce, Sync, Delay_Resp). -/
def State.pkLog (s : State) (k msg : Nat) : Int :=
  toSigned 4 (s.pkRd k (if msg = 0 then F.PK_RATES_SYNC_LOG else if msg = 9 then F.PK_RATES_DREQ_LOG else F.PK_RATES_ANN_LOG) k)

/-- DURATION_S, clamped to 60–1,000. -/
def State.pkDuration (s : State) (k : Nat) : Nat := max 60 (min 1000 (s.pkRd k F.PK_RATES_DURATION_S k))

/-- A Signaling message with TLVs leaves for the master. -/
def State.pkSignal (s : State) (k : Nat) (tlvs : List Tlv) (len : Nat) : State :=
  if tlvs.isEmpty || !s.pkSends k || (s.pkMaster k == 0 && (s.servo k).master.isNone) then s
  else
    let x := s.servo k
    let m := { s.pkPtp k 0xC (54 + len) x.nextSeq 0x7F with peer := (x.master.map (·.2)).getD (2 ^ 80 - 1), tlvs := tlvs }
    let f := s.pkFrame k false m
    ((s.drawn.setServo k { x with nextSeq := (x.nextSeq + 1) % 65536 }).sendFrame (s.pkPort k) f 0 false false 0).1

/-- Requests for unicast transmission (R269). -/
def State.pkRequest (s : State) (k : Nat) (msgs : List Nat) : State :=
  if s.pkUnicast k then
    s.pkSignal k (msgs.map fun m => .request m (s.pkLog k m) (s.pkDuration k)) (10 * msgs.length)
  else s

/-- The three services of a servo. -/
def pkServices : List Nat := [0xB, 0, 9]

/-- SERVO_RENEW (R269): half a grant's duration has passed, or 1 s since a denial: the request goes out again. -/
def State.servoRenew (s : State) (k msg : Nat) : State := s.pkRequest k (pkServices.filter (· == msg))

/-- A Delay_Req leaves in a service epoch (R269): every 2^DREQ_LOG s while the servo may ask. -/
def State.delayReqSend (s : State) (k : Nat) : State :=
  let x := s.servo k
  let log := s.pkLog k 9
  let due := s.now / unitsPerService % 2 ^ (log + 7).toNat == 0
  if !due || !s.pkSends k || s.pkState k < 2 || (s.pkUnicast k && !x.dresp.held) then s
  else
    let t := s.epochTx
    let m := s.pkPtp k 1 44 x.nextSeq log
    let f := s.drawn.pkFrame k (!s.pkUnicast k) m
    let s := s.drawn.drawn.setServo k
      { x with nextSeq := (x.nextSeq + 1) % 65536, reqs := (x.reqs ++ [(x.nextSeq % 65536, (t : Int), !s.degradedNow)]).reverse.take 2048 |>.reverse }
    (s.sendFrame (s.pkPort k) f t true false 0).1

/-- The servos' part of a service epoch. -/
def State.servoService (s : State) : State := State.forAll 16 (fun k t => t.delayReqSend k) s

/-! Messages received (R269). -/

/-- The PDV store holds 2,048 samples for each direction. -/
def pdvStore : Nat := 2048

/-- A sample of a direction: its time and its value. -/
def State.pkSample (s : State) (k : Nat) (rev : Bool) (t d : Int) : State :=
  s.modServo k fun x =>
    if rev then { x with rev := ((t, d) :: x.rev).take pdvStore } else { x with fwd := ((t, d) :: x.fwd).take pdvStore }

/-- A message's timestamp in FRACTION units. -/
def Ptp.stamp (m : Ptp) : Int := m.sec * unitsPerSec + m.ns * unitsPerNs

/-- A Sync: a sample of its own, or one that waits for its Follow_Up. -/
def State.pkSyncRx (s : State) (k : Nat) (r : RxFrame) (m : Ptp) : State :=
  let s := s.wrB F.PK_STATUS_TWO_STEP k m.twoStep
  if m.twoStep then
    s.modServo k fun x => { x with syncs := x.syncs ++ [⟨m.seq, r.time, m.correction, !r.degraded⟩] }
  else if r.degraded then s
  else s.pkSample k false r.time (r.time - (m.stamp + m.correction))

/-- A Follow_Up completes the Sync with its sequenceId. -/
def State.pkFollowRx (s : State) (k : Nat) (m : Ptp) : State :=
  match (s.servo k).syncs.find? fun y => y.seq == m.seq with
  | none => s
  | some y =>
    let s := s.modServo k fun x => { x with syncs := x.syncs.filter fun z => z.seq != m.seq }
    if y.good then s.pkSample k false y.time (y.time - (m.stamp + m.correction + y.correction)) else s

/-- A Delay_Resp completes the Delay_Req with its sequenceId. -/
def State.pkRespRx (s : State) (k : Nat) (m : Ptp) : State :=
  if m.peer ≠ s.portIdent (s.pkPort k) then s
  else
    match (s.servo k).reqs.find? fun y => y.1 == m.seq with
    | none => s
    | some y =>
      let s := s.modServo k fun x => { x with reqs := x.reqs.filter fun z => z.1 != m.seq }
      if y.2.2 then s.pkSample k true y.2.1 (m.stamp - m.correction - y.2.1) else s

/-- An Announce of the master (R272, PK_ANNOUNCE). -/
def State.pkAnnRx (s : State) (k : Nat) (m : Ptp) : State :=
  match m.ann with
  | none => s
  | some a =>
    (s.modServo k fun x => { x with gm := some a.gm }).wrAll
      [(F.PK_STATUS_ANN_OK, k, 1), (F.PK_ANNOUNCE_CLOCK_CLASS, k, a.cls), (F.PK_ANNOUNCE_CLOCK_ACCURACY, k, a.accuracy),
       (F.PK_ANNOUNCE_TIME_SOURCE, k, a.timeSource), (F.PK_ANNOUNCE_STEPS_REMOVED, k, min 255 a.steps)]

/-- The state of one of the three grants. -/
def State.pkGrant (s : State) (k msg : Nat) (g : PkGrant) : State :=
  let s := s.modServo k fun x =>
    if msg = 0 then { x with sync := g } else if msg = 9 then { x with dresp := g } else { x with annc := g }
  s.wrB (if msg = 0 then F.PK_STATUS_SYNC_GRANTED else if msg = 9 then F.PK_STATUS_DRESP_GRANTED else F.PK_STATUS_ANN_GRANTED)
    k g.held

/-- SERVO_LOST (R272): no Sync (`why` 0), no Delay_Resp (1), or the loss of a grant (2, of `msg`), from `TRACKING` or `FILLING`; the loss report of a tracking
servo freezes (R119) and raises source 35; `LOST` is left at once. -/
def State.servoLost (s : State) (k why : Nat) (msg : Option Nat) : State :=
  let st := s.pkState k
  let s := match msg with
    | some m => if pkServices.contains m then s.pkGrant k m {} else s
    | none => s
  if st ≠ 2 ∧ st ≠ 3 then s
  else
    let s := (s.pkClear k).pkGoes k 4
    let s := s.when (st == 3) fun t =>
      ((t.bump F.PK_STATUS_LOSSES k).fault 35 (uPK k) why 0).when (t.judges (24 + k)) (·.strobe (24 + k) 1)
    s.pkGoes k 1

/-- A TLV of the master's Signaling message (R269): a grant, a denial (duration 0), a cancel, which is acknowledged. -/
def State.pkTlv (s : State) (k : Nat) (t : Tlv) : State :=
  match t with
  | .grant msg _ d _ =>
    if !pkServices.contains msg || d = 0 then s
    else s.pkGrant k msg { held := true, duration := d, expiry := s.now + d * unitsPerSec }
  | .cancel msg => if pkServices.contains msg then (s.servoLost k 2 (some msg)).pkSignal k [.ackCancel msg] 6 else s
  | _ => s

/-- SERVO_FRAME_RX: the oldest frame handed to servo k. The first master seen is the one followed where none is configured. -/
def State.servoFrameRx (s : State) (k : Nat) : State :=
  match s.takeRx fun r => r.taker == 2 && r.servo == k with
  | none => s
  | some (r, s) => match r.frame.body with
    | .ptp m =>
      let x := s.servo k
      let known := match x.master with
        | some a => a.1 == r.frame.srcAddr
        | none => true
      if s.pkState k = 0 || s.pkBad k || !s.inService (uPK k) || (s.pkMaster k == 0 && !known) then s
      else
        let s := if m.mtype = 0 ∨ m.mtype = 0xB then
            s.setServo k { x with master := some (r.frame.srcAddr, m.source), mac := some r.frame.src }
          else s
        match m.mtype with
        | 0 => s.pkSyncRx k r m
        | 8 => s.pkFollowRx k m
        | 9 => s.pkRespRx k m
        | 0xB => s.pkAnnRx k m
        | 0xC => m.tlvs.foldl (fun t v => t.pkTlv k v) s
        | _ => s
    | _ => s

/-- FOLLOW_UP_TIMEOUT (R269): the oldest Sync that waits for its Follow_Up is void. -/
def State.followUpTimeout (s : State) (k : Nat) : State := s.modServo k fun x => { x with syncs := x.syncs.drop 1 }

/-- ANNOUNCE_TIMEOUT (R272). -/
def State.announceTimeout (s : State) (k : Nat) : State := s.wr F.PK_STATUS_ANN_OK k 0

/-! The estimate (R270). -/

/-- A sample ordered by its x, the newer first on equal x: inserted into an ascending list. -/
def pdvInsert (a : Int) : List Int → List Int
  | [] => [a]
  | b :: l => if a ≤ b then a :: b :: l else b :: pdvInsert a l

/-- The values of a list in ascending order. -/
def pdvSort (l : List Int) : List Int := l.foldr pdvInsert []

/-- One direction at t_k: the sum of the selected x in 10⁻²¹ FRACTION units, how many, and their spread. -/
def pdvFloor (w : List (Int × Int)) (n : Nat) (sgn slope tk : Int) (pct : Nat) : Option (Int × Nat × Int) :=
  let l := (w.filter fun p => p.1 < tk).take n
  if l.length < 8 then none
  else
    let x := pdvSort (l.map fun p => p.2 * yOne - sgn * slope * (p.1 - tk))
    let sel := x.take (max 4 (l.length * pct / 100))
    some (sel.sum, sel.length, sel.getLastD 0 - sel.headD 0)

/-- θ and the delay at the present epoch, and the two spreads (R270). -/
def State.pkEstimate (s : State) (k : Nat) : State :=
  let x := s.servo k
  let slope := -(x.offset.getD 0)
  let pct := max 1 (s.pkRd k F.PK_FILTER_SEL_PCT k)
  let f := pdvFloor x.fwd (s.pkN k false) 1 slope s.now pct
  let r := pdvFloor x.rev (s.pkN k true) (-1) slope s.now pct
  match f, r with
  | some f, some r =>
    let den : Int := 2 * f.2.1 * r.2.1 * yOne
    let asym := psToUnits (toSigned 32 (s.pkRd k F.PK_ASYM_ASYM_PS k))
    let theta := quotient 90 (f.1 * r.2.1 - r.1 * f.2.1) den - asym
    let sf := quotient 91 f.2.2 yOne
    let sr := quotient 91 r.2.2 yOne
    let s := s.setServo k { x with theta := some theta, spreadFwd := some sf, spreadRev := some sr }
    (s.wrI F.PK_DELAY_DELAY k (quotient 92 ((f.1 * r.2.1 + r.1 * f.2.1) * 10) (den * unitsPerNs))).wr F.PK_WINDOW_SPREAD_NS k
      (min 255 ((max sf sr) / unitsPerNs).toNat)
  | _, _ => s.setServo k { x with theta := none }

/-- The whole seconds in θ: round(θ / 1 s). -/
def thetaSeconds (theta : Int) : Int := (nearestSecond theta).1

/-- The servo that sets the seconds (R217): the one with the largest weight in the time DPLL's recipe. -/
def State.secondsServo (s : State) : Option Nat :=
  (leastBy (fun l : RecLeaf => (wholeWeight - l.w) * 256 + l.m)
    ((s.traceLeaves s.timeDpll).filter fun l => l.w ≠ 0 && 24 ≤ l.m && l.m < 40)).map (·.m - 24)

/-- One offer of d from the servo (R217, R273): CONFIRM consecutive epochs of equal d decide. The count of TODI0 is used, the
port that a decision without a port is reported under (log 31). -/
def State.servoSeconds (s : State) (d : Int) : State :=
  let run := s.tm.servoRun.add d
  let s := { s with tm := { s.tm with servoRun := run } }
  if run.run < s.todConfirm 0 then s
  else if d = 0 then
    (s.wrAll [(F.TIME_STATUS_SECONDS_SET, 0, 1), (F.TIME_STATUS_AGREE, 0, 1), (F.TIME_STATUS_MISMATCH_PENDING, 0, 0)]).later
      (.info 89 uTCOUNT 0)
  else if !s.rdB F.TIME_STATUS_SECONDS_SET || s.rdB F.TIME_CFG_AUTO_SEC then
    let s := s.wrAll [(F.TIME_STATUS_AGREE, 0, 0), (F.TIME_STATUS_MISMATCH_PENDING, 0, 0)]
    { s with tm := { s.tm with reqTod := some (d * unitsPerSec) } }
  else
    ((s.wrAll [(F.TIME_STATUS_AGREE, 0, 0), (F.TIME_STATUS_MISMATCH_PENDING, 0, 1)]).later
      (.fault 28 (uTODI 0) (ofSigned 32 d) 0)).later (.info 89 uTCOUNT 0)

/-- The seconds at an epoch with SEC_SRC = 3. -/
def State.servoSecondsEpoch (s : State) : State :=
  if s.rd F.TIME_CFG_SEC_SRC ≠ 3 || s.isStandby || !s.counterValid then s
  else match s.secondsServo with
    | none => { s with tm := { s.tm with servoRun := {} } }
    | some k => match s.pkState k, (s.servo k).theta with
      | 3, some th => s.servoSeconds (-(thetaSeconds th))
      | _, _ => { s with tm := { s.tm with servoRun := {} } }

/-! Epochs. -/

/-- What Table 11.8 decides for servo k at an epoch. -/
def State.pkWants (s : State) (k : Nat) : Nat :=
  let st := s.pkState k
  let x := s.servo k
  if s.pkRd k F.PK_CFG_ENABLE k == 0 then 0
  else if st = 0 ∨ s.pkBad k then 1
  else if !s.inService (uPK k) then st
  else if st = 1 then
    if (x.sync.held && x.dresp.held) || !s.pkUnicast k then 2 else 1
  else if st = 2 then
    if 8 ≤ x.fwd.length && 8 ≤ x.rev.length then 3 else 2
  else st

/-- Servo k at a decision epoch (R270, R272, R273): its decision, its estimate and what it delivers. -/
def State.servoEpoch (s : State) (k : Nat) : State :=
  let st := s.pkState k
  let want := s.pkWants k
  let s := s.when (st != want) (·.later (.servo k st want))
  let s := s.wrAll [(F.PK_STATUS_PASSIVE, k, b2n (s.isStandby && st != 0)),
                    (F.PK_STATUS_CFG_BAD, k, b2n (s.pkBad k && s.pkRd k F.PK_CFG_ENABLE k == 1))]
  if st < 2 then s
  else
    let s := s.pkEstimate k
    if st ≠ 3 && want ≠ 3 then s
    else match (s.servo k).theta with
      | none => s
      | some th =>
        (s.modMon (24 + k) fun q => { q with phase := some (th - thetaSeconds th * unitsPerSec), phaseAt := s.tm.fine }).delivers
          (24 + k)

/-- All servos at a decision epoch. -/
def State.servoEpochs (s : State) : State := (State.forAll 16 (fun k t => t.servoEpoch k) s).servoSecondsEpoch

/-- A decision of Table 11.8 takes effect, if the servo still stands where it stood. -/
def State.pkApply (s : State) (k old new : Nat) : State :=
  if s.pkState k ≠ old then s
  else if new = 0 then
    let x := s.servo k
    let held := pkServices.filter fun m => if m = 0 then x.sync.held else if m = 9 then x.dresp.held else x.annc.held
    ((((s.pkSignal k (held.map fun m => .cancel m) (6 * held.length)).pkClear k).pkUngrant k).wr F.PK_STATUS_ANN_OK k 0).pkGoes k 0
  else if new = 1 then
    let s := ((s.pkClear k).pkUngrant k).pkGoes k 1
    if old = 0 then s.pkRequest k pkServices else s
  else s.pkGoes k new

/-- A reset of PK k (Table 11.8): windows and grants are cleared. -/
def State.pkReset (s : State) (k : Nat) : State :=
  let s := (s.pkClear k).pkUngrant k
  let s := s.modServo k fun x => { x with master := none, mac := none }
  if s.pkState k = 0 then s else s.pkGoes k 1

/-- The PK registers in force from this epoch; a change of PORT, TRANSPORT, UNICAST, DOMAIN or PK_MASTER acts as a reset of
the servo (R277). -/
def State.latchServos (s : State) : State :=
  let all := s.latchRegs 600 637
  State.forAll 16 (fun k t =>
    let old := (t.servo k).cfg
    let g := fun (c : Tab Nat) (f : Fld) (i : Nat) => Tab.at c (f.key i) (f.reset i)
    let same := [F.PK_CFG_PORT, F.PK_CFG_TRANSPORT, F.PK_CFG_UNICAST, F.PK_CFG_DOMAIN].all (fun f => g old f k == g all f k) &&
      (List.range 4).all fun i => g old F.PK_MASTER_ADDR (4 * k + i) == g all F.PK_MASTER_ADDR (4 * k + i)
    let t := t.modServo k fun x => { x with cfg := all.filter fun p =>
      (p.1 / 65536 != F.PK_MASTER_ADDR.id && p.1 % 65536 == k) || (p.1 / 65536 == F.PK_MASTER_ADDR.id && p.1 % 65536 / 4 == k) }
    if same then t else t.pkReset k) s

/-! Model epochs (R271). -/

/-- One direction's window after a model epoch: n and calm. -/
def adaptWindow (spread : Option Int) (n calm lo hi winMin winMax : Nat) : Nat × Nat :=
  match spread with
  | none => (n, calm)
  | some sp =>
    if ((hi * unitsPerNs : Nat) : Int) < sp ∧ n < 2 ^ winMax then (2 * n, 0)
    else if sp < ((lo * unitsPerNs : Nat) : Int) then
      if 8 ≤ calm + 1 ∧ 2 ^ winMin < n then (n / 2, 0) else (n, calm + 1)
    else (n, 0)

/-- Least-squares slope of θ over points (seconds, θ), in 10⁻²¹. -/
def thetaSlope (l : List (Int × Int)) : Option Int :=
  let n : Int := l.length
  let t0 := (l.headD (0, 0)).1
  let x := l.map fun p => ((p.1 - t0) / (unitsPerSec : Int), p.2)
  let st := (x.map (·.1)).sum
  let sy := (x.map (·.2)).sum
  let den := n * (x.map fun p => p.1 * p.1).sum - st * st
  if l.length < 4 ∨ den = 0 then none
  else some (quotient 93 ((n * (x.map fun p => p.1 * p.2).sum - st * sy) * yOne) (den * unitsPerSec))

/-- Servo k at a model epoch: windows, θ at the whole second, frequency. `rate` is the counter's gain over the last second
against the base, in 10⁻²¹ (R116). -/
def State.servoModel (s : State) (k : Nat) (rate : Int) : State :=
  if s.pkState k < 2 then s
  else
    let x := s.servo k
    let w := fun sp n calm => adaptWindow sp n calm (s.pkRd k F.PK_FILTER_SPREAD_LO_NS k)
      (s.pkRd k F.PK_FILTER_SPREAD_HI_NS k) (s.pkWinMin k) (s.pkWinMax k)
    let f := w x.spreadFwd (s.pkN k false) x.calmFwd
    let r := w x.spreadRev (s.pkN k true) x.calmRev
    let span := 2 ^ max 2 (min 10 (s.pkRd k F.PK_CFG_FREQ_LOG k))
    let hist := (match x.theta with
      | some th => ((s.now : Int), th) :: x.hist
      | none => x.hist).take 1024
    let fit := thetaSlope (hist.filter fun p => (s.now : Int) < p.1 + (span * unitsPerSec : Nat))
    let s := s.setServo k { x with nFwd := f.1, calmFwd := f.2, nRev := r.1, calmRev := r.2, hist := hist
                                   offset := match fit with
                                     | some sl => some (-sl)
                                     | none => x.offset }
    let s := s.wrAll [(F.PK_WINDOW_N_FWD, k, f.1), (F.PK_WINDOW_N_REV, k, r.1)]
    match fit with
    | some sl => if s.pkState k = 3 && s.judges (24 + k) then s.updateY (24 + k) s.now (-sl) rate else s
    | none => s

/-- The counter's gain since the last model epoch, in 10⁻²¹; 0 where there was none. -/
def State.modelRate (s : State) : Int :=
  match s.ep.fineModel with
  | some f => if f < s.tm.fine then quotient 94 ((unitsPerSec * 2 ^ 48 : Nat) * yOne) ((s.tm.fine : Int) - f) - yOne else 0
  | none => 0

/-- The servos' part of a model epoch. -/
def State.servoModels (s : State) : State :=
  let rate := s.modelRate
  let s := State.forAll 16 (fun k t => t.servoModel k rate) s
  { s with ep := { s.ep with fineModel := some s.tm.fine } }

end Sys2Proof.Machine
end

