-- ==== Sys2Proof/Machine/TodOut.lean ====
section
/-! DEFINITION. Time-of-day output (R218): the two message formats and when they are sent. -/

namespace Sys2Proof.Machine

/-- A number in n decimal digits. -/
def digits (n v : Nat) : List Nat := (List.range n).map fun k => 48 + v / 10 ^ (n - 1 - k) % 10

/-- An upper-case hexadecimal digit. -/
def hexChar (d : Nat) : Nat := if d < 10 then 48 + d else 55 + d

/-- The ZDA sentence of a UTC second, a count from 1970; `leap` marks the second 23:59:60 that is inserted before it. -/
def zdaSentence (utc : Nat) (leap : Bool) : List Nat :=
  let day := if leap then utc / 86400 - 1 else utc / 86400
  let t := utc % 86400
  let date := dateOf day
  let time := if leap then digits 2 23 ++ digits 2 59 ++ digits 2 60
    else digits 2 (t / 3600) ++ digits 2 (t / 60 % 60) ++ digits 2 (t % 60)
  let body := ascii "GNZDA," ++ time ++ ascii ".00," ++ digits 2 date.2.2 ++ ascii "," ++ digits 2 date.2.1 ++ ascii "," ++
    digits 4 date.1 ++ ascii ",00,00"
  let x := xorAll body
  36 :: body ++ [42, hexChar (x / 16 % 16), hexChar (x % 16), 13, 10]

/-- TRACE as the outputs of DPLL d carry it (R189). -/
def State.dpTrace (s : State) (d : Nat) : Nat :=
  if s.stage < 2 || s.dpState d < 2 then 0 else if 5 ≤ s.dpState d then 2 else 1

/-- The binary message for a whole second (Table 9.3), ASSOC 1. -/
def State.binaryTod (s : State) (second : Nat) : List Nat :=
  let d := s.timeDpll
  let flags := b2n (s.rdB F.TIME_UTC_LEAP61) + 2 * b2n (s.rdB F.TIME_UTC_LEAP59) + 4 * b2n (s.dpTrace d == 1) +
    8 * b2n (s.dpTrace d == 2) + 16 * b2n (s.rdB F.TIME_UTC_VALID) + 32
  let te := if (s.dpll d).episode.isSome then s.rd F.HOLD_TE_PRED_TE_NS d else 0
  let b := [0xC7, 0x3E, 1, 1] ++ beBytes 6 second ++ beBytes 2 (s.rd F.TIME_UTC_OFFSET) ++ [flags] ++
    beBytes 1 (s.rd F.SVC_STATUS_CLOCK_CLASS) ++ beBytes 1 s.timeRootQl ++ beBytes 4 te ++ beBytes 2 s.gen ++ [0]
  b ++ beBytes 2 (crc16 b)

/-- TODO_SEND (R218): output j, DELAY_MS after the next whole second of the counter, sends, withholds or skips its
message. -/
def State.todoSend (s : State) (j : Nat) : State :=
  if !s.rdB F.TODO_CFG_ENABLE j || !s.inService (uTODO j) || !s.tm.running then s
  else
    let x := s.tm.todo.at j {}
    let delay := max 1 (min 900 (s.rd F.TODO_CFG_DELAY_MS j)) * unitsPerMs
    let k := (s.now + (unitsPerSec - 1) - delay) / unitsPerSec
    let k := if x.lastAt = some k then k + 1 else k
    let s := s.advanceTo (k * unitsPerSec + delay)
    let put := fun (s : State) (y : PpsSt) => { s with tm := { s.tm with todo := s.tm.todo.set j y {} } }
    let binary := s.rd F.TODO_CFG_FORMAT j == 1
    let hold := !s.counterValid || (!s.rdB F.TIME_STATUS_SECONDS_SET && !s.rdB F.TODO_CFG_SEND_UNSET j) ||
      (!binary && !s.rdB F.TIME_UTC_VALID)
    let utc := ((k : Int) - s.rdI F.TIME_UTC_OFFSET).toNat
    let bytes := if binary then s.binaryTod (k + 1) else zdaSentence utc (s.rdB F.TIME_UTC_LEAP61 && utc % 86400 == 0)
    let baud := max 12 (min 10000 (s.rd F.TODO_CFG_BAUD_100 j)) * 100
    let tooLong := decide (990 * unitsPerMs * baud < delay * baud + bytes.length * 10 * unitsPerSec)
    let s := s.wrAll [(F.TODO_STATUS_WITHHELD, j, b2n hold), (F.TODO_STATUS_OVERLONG, j, b2n (!hold && tooLong))]
    if hold || tooLong then put s { x with lastAt := some k }
    else
      (put (s.bumpWrap F.TODO_STATUS_SENT j)
        { x with lastAt := some k, trailing := some (s.tm.elapsed + bytes.length * 10 * unitsPerSec / baud) }).emitOut
        (.tod j bytes)

end Sys2Proof.Machine
end

