-- ==== Sys2Proof/Machine/Host.lean ====
section
/-! DEFINITION. The host side (R279–R302): PCIe link and its resets, doorbells, fetched descriptors, interrupts, the event
merger's release and delivery (R26–R29, R221, R222, R292), the time pages and the VFs' event reels. -/

namespace Sys2Proof.Machine

/-- HOST_STATUS.READY (R280, R299): the link is in L0, and the module in Stage 1 or later. -/
def State.hostReady (s : State) : Bool := s.hs.l0 && s.stage != 0

/-- VF v exists (R301). -/
def State.vfOn (s : State) (v : Nat) : Bool := 1 ≤ v && v ≤ 15 && v ≤ s.rd F.HOST_STATUS_NUM_VF

/-- The unit of a reel. -/
def reelUnit (r : Nat) : Nat := if 200 ≤ r then uVF (r - 200) else uPCIE

/-- A reel is an event reel: EV0–EV31, or a VF's. -/
def isEventReel (r : Nat) : Bool := (128 ≤ r && r < 160) || 200 ≤ r

/-! Creation and destruction (R295, R296). -/

/-- A reel comes into being; an event reel takes records from the next one on. -/
def State.createReel (s : State) (r : Nat) (x : Reel) : State :=
  let s := s.putReel r x
  let s := if isEventReel r then
      { s with ev := { s.ev with taken := s.ev.taken.filter (·.1 != r) ++ [(r, s.ev.nextSeq)],
                                 lossPending := s.ev.lossPending.filter (· != r) } }
    else s
  s.info 97 (reelUnit r) 0 0 0

/-- How many descriptors and cues a reel has that have not completed. -/
def State.reelWork (s : State) (r : Nat) : Nat :=
  let mine := fun l : List TxDesc => (l.filter fun d => d.reel == r).length
  match s.reel? r with
  | some x => x.queue.length + x.bufs.length + mine s.hs.ready + mine s.hs.cues
  | none => 0

/-- A reel ceases to exist; its queued work goes without completions. -/
def State.destroyReel (s : State) (r : Nat) : State :=
  match s.reel? r with
  | none => s
  | some _ =>
    let s := { s with
      hs := { s.hs with reels := s.hs.reels.erase r, formats := s.hs.formats.erase r
                        ready := s.hs.ready.filter fun d => d.reel != r
                        cues := s.hs.cues.filter fun d => d.reel != r
                        drains := s.hs.drains.filter fun d => d.1 != r }
      ev := { s.ev with taken := s.ev.taken.filter (·.1 != r), lossPending := s.ev.lossPending.filter (· != r) } }
    s.info 97 (reelUnit r) 0 0 0

/-- The reels that exist, in ascending number. -/
def State.reelNumbers (s : State) : List Nat := s.hs.reels.map (·.1)

/-! Resets of the host side (R281, Table 12.1). -/

/-- A function's MSI-X table after its reset: every vector masked, none pending. -/
def State.msixReset (s : State) (fn : Nat) : State :=
  { s with hs := { s.hs with unmasked := s.hs.unmasked.filter fun k => k / 256 != fn
                             pba := s.hs.pba.filter fun k => k / 256 != fn } }

/-- Nothing that is under way answers a command of admin reel a any more. -/
def State.forgetReplies (s : State) (a : Nat) : State :=
  { s with
    hs := { s.hs with waiting := s.hs.waiting.filter (· != a), stopping := s.hs.stopping.filter (· != a)
                      drains := s.hs.drains.filter fun d => d.2.1 != a }
    un := { s.un with awaiting := s.un.awaiting.filter fun w => w.1 != 4 + a }
    pr := { s.pr with switch := s.pr.switch.map fun w =>
              { w with reply := w.reply.filter fun y => y.1 != a } }
    at_ := { s.at_ with port := s.at_.port.map fun q =>
               if q.replyKind = 1 && q.replyTo = a then { q with replyKind := 0 } else q } }

/-- A reset of unit PCIE (R281, R371). -/
def State.pcieReset (s : State) : State :=
  let s := (s.reelNumbers.filter (· < 200)).foldl (fun t r => t.destroyReel r) s
  let s := (s.forgetReplies 0).forgetReplies 1
  let s := { s with hs := { s.hs with formats := [], ready := [], cues := [], drains := [], waiting := [], stopping := [] } }
  ((s.msixReset 0).wr F.HOST_STATUS_ADMIN_VER 0 1).openBytes 0

/-- The registers of a page as they are after reset (R304). -/
def State.pageReset (s : State) (v : Nat) : State :=
  let one := [F.TM_CTRL_SEQ, F.TM_STATE_STEPPED, F.TM_STATE_OUT_OF_SPEC, F.TM_STATE_SECONDS_SET, F.TM_STATE_VALID,
    F.TM_STATE_TRACE, F.TM_STATE_CLOCK_CLASS, F.TM_STATE_GEN, F.TM_UTC_OFFSET, F.TM_UTC_LEAP59, F.TM_UTC_LEAP61,
    F.TM_UTC_VALID, F.TM_TE_TE_NS, F.VF_EVT_CFG_MOD_10US, F.VF_EVT_CFG_MOD_COUNT, F.VF_EVT_CFG_SIZE_LOG,
    F.VF_EVT_CFG_NOTIFY, F.VF_EVT_CFG_ENABLE, F.VF_EVT_STATUS_RESULT]
  let cell := fun (t : State) (f : Fld) (i : Nat) => t.wr f i (f.reset i)
  let s := one.foldl (fun t f => cell t f v) s
  let s := State.forAll 3 (fun w t => cell t F.TM_TIME_TIME (3 * v + w)) s
  let s := State.forAll 4 (fun w t => cell t F.TM_SUB_SOURCES (4 * v + w)) s
  State.forAll 2 (fun w t => cell t F.VF_EVT_ADDR_ADDR (2 * v + w)) s

/-- A reset of unit VF v (R302): its reel is disabled, its page returns to reset values. -/
def State.vfReset (s : State) (v : Nat) : State := ((s.destroyReel (200 + v)).pageReset v).msixReset v

/-- VF_FLR (R281, R304). -/
def State.vfFlr (s : State) (v : Nat) : State := if s.vfOn v then (s.vfReset v).bump F.HOST_VF_STATUS_FLRS v else s

/-- PCIE and every VF are reset: the record of it, and the configuration space with NumVFs and the power state. -/
def State.hostReset (s : State) (cause : Nat) : State :=
  let s := State.forAll 16 (fun v t => if v = 0 then t else t.vfReset v) s.pcieReset
  (s.wrAll [(F.HOST_STATUS_NUM_VF, 0, 0), (F.HOST_STATUS_D_STATE, 0, 0), (F.HOST_RESET_INFO_LAST, 0, cause)]).bump
    F.HOST_RESET_INFO_COUNT

/-- The link is down. -/
def State.linkGone (s : State) : State :=
  { s.wrAll [(F.HOST_LINK_SPEED, 0, 0), (F.HOST_LINK_WIDTH, 0, 0)] with hs := { s.hs with l0 := false } }

/-- PERST_N (R280, R281): low resets the host side; released, training may start. -/
def State.perstN (s : State) (low : Bool) : State :=
  if low then
    let s := (s.hostReset 1).linkGone
    { s with hs := { s.hs with perst := true } }
  else { s with hs := { s.hs with perst := false } }

/-- LINK_L0 (R280): training has reached L0 at a rate (1–4) and width. -/
def State.linkL0 (s : State) (speed width : Nat) : State :=
  if s.hs.perst || s.stage == 0 || s.hs.l0 || !s.inService uPCIE then s
  else
    let s := s.wrAll [(F.HOST_LINK_SPEED, 0, speed), (F.HOST_LINK_WIDTH, 0, width)]
    let s := s.when s.hs.everL0 (·.bump F.HOST_LINK_RETRAINS)
    { s with hs := { s.hs with l0 := true, everL0 := true } }

/-- HOST_LINK_DOWN (R281): the link leaves L0 for another cause than PERST_N. -/
def State.hostLinkDown (s : State) : State :=
  if !s.hs.l0 then s
  else (((s.hostReset 2).linkGone).bump F.HOST_LINK_DOWNS).fault 38 uPCIE 0 0

/-- PF0_FLR (R281): a function level reset of PF0, or a return from D3hot to D0. -/
def State.pf0Flr (s : State) (fromD3 : Bool) : State :=
  if fromD3 then (if s.rd F.HOST_STATUS_D_STATE == 3 then s.hostReset 4 else s)
  else s.hostReset 3

/-- D3HOT_ENTRY (R280). -/
def State.d3hot (s : State) : State := if s.hs.l0 then s.wr F.HOST_STATUS_D_STATE 0 3 else s

/-- NUMVFS_CHANGE (R301): VFs that are no longer covered cease to exist, with their reels. -/
def State.numVfs (s : State) (n : Nat) : State :=
  let n := min n 15
  let s := State.forAll 16 (fun v t => if n < v then t.vfReset v else t) s
  s.wr F.HOST_STATUS_NUM_VF 0 n

/-! Delivery of event records (R221, R222, R292). -/

/-- A record is for an event reel: the PF0 reel its source names, or a VF's that may receive it. -/
def State.routedTo (s : State) (r source : Nat) : Bool :=
  if 200 ≤ r then s.vfPermits (r - 200) source
  else s.rdB F.EVT_SRC_CFG_PF_DELIVER source && s.rd F.EVT_SRC_CFG_REEL source + 128 == r

/-- The bits of an event entry (Table 12.10), PHASE clear. -/
def entryBits (b : BufRec) (lost : Bool) : Nat := recordBits b lost * 2 ^ 256

/-- A reel has a free slot for an entry. -/
def State.reelHasSlot (s : State) (r : Nat) : Bool :=
  match s.reel? r with
  | some x => x.reason == 0 && x.held.isEmpty && diff32 x.written x.cons < x.size && s.rd F.HOST_STATUS_D_STATE != 3
  | none => false

/-- An event reel is offered the records of the buffer from the first it has not taken, in order, until one finds no
slot. -/
def State.offer (s : State) (r : Nat) : List BufRec → State
  | [] => s
  | b :: l =>
    if !s.routedTo r b.rcd.source then State.offer s r l
    else if s.reelHasSlot r then
      let lost := s.ev.lossPending.contains r
      let s := s.writeEntry r (entryBits b lost)
      let s := { s with ev := { s.ev with lossPending := s.ev.lossPending.filter (· != r)
                                          taken := s.ev.taken.map fun p => if p.1 = r then (r, b.seq + 1) else p } }
      State.offer s r l
    else s

/-- The records an event reel has not taken, oldest first. -/
def State.untaken (s : State) (seq : Nat) : List BufRec := (s.ev.buffer.takeWhile fun b => seq ≤ b.seq).reverse

/-- One event reel takes what it can. -/
def State.deliverReel (s : State) (r : Nat) : State :=
  match s.ev.taken.find? fun p => p.1 == r with
  | some p => s.offer r (s.untaken p.2)
  | none => s

/-- Every event reel takes what it can. -/
def State.deliverEvents (s : State) : State := (s.ev.taken.map (·.1)).foldl (fun t r => t.deliverReel r) s

/-- The oldest record is about to be overwritten: every reel that has not taken it loses it (R221). -/
def State.loseOldest (s : State) : State :=
  if s.ev.buffer.length < bufferSize then s
  else match s.ev.buffer.getLast? with
    | none => s
    | some o =>
      (s.ev.taken.filter fun p => p.2 ≤ o.seq && s.routedTo p.1 o.rcd.source).foldl (fun t p =>
        let t := { t with ev := { t.ev with
          lossPending := p.1 :: t.ev.lossPending.filter (· != p.1)
          taken := t.ev.taken.map fun q : Nat × Nat => if q.1 = p.1 then (q.1, o.seq + 1) else q } }
        let t := t.bump F.EVT_DROPPED_COUNT
        let t := t.when (200 ≤ p.1) (·.bump F.EVT_VF_CFG_DROPS (p.1 - 200))
        t.faultOnce 29 uMERGER (p.1 - 200) 0) s

/-- A record leaves the merger toward the buffer and its destinations. -/
def State.emitRecord (s : State) (r : EvRec) : State :=
  let s := s.when (s.buffered r.source) (·.loseOldest)
  let s := (s.releaseRecord r).logRecord { seq := s.ev.nextSeq, rcd := r }
  let s := s.when r.late (·.fault 7 uMERGER r.source 0)
  s.deliverEvents

/-- The merger may release a record (R28): 2 µs past its bound, or late (R29). -/
def State.releasable (s : State) (r : EvRec) : Bool := r.late || r.bound + mergeWindow ≤ s.tm.elapsed

/-- MERGER_RELEASE (R28): the first record in key order that is past its bound leaves; late ones leave at once. -/
def State.mergerRelease (s : State) : State :=
  match firstRecord (s.ev.held.filter (s.releasable ·)) with
  | none => s
  | some r => ({ s with ev := { s.ev with held := s.ev.held.erase r } }).emitRecord r

/-- MERGER_RECORD_IN (R28, R29): a source delivers a record with a given stamp; one that comes after a greater key was
released leaves at once. -/
def State.mergerRecordIn (s : State) (source unit severity detail time gen : Nat) : State :=
  if !s.inService uMERGER then s
  else
    let r : EvRec := { gen := gen, time := time, source := source, unit := unit, severity := severity, conseq := false,
                       late := false, detail := detail, bound := s.boundFor time, order := s.ev.produced }
    let s := s.wr F.EVT_MERGE_MAX_DELAY_NS 0 (max (s.rd F.EVT_MERGE_MAX_DELAY_NS) (min 65535 ((s.now - time) / unitsPerNs)))
    if s.isLate r then
      ({ s with ev := { s.ev with produced := s.ev.produced + 1 } }).emitRecord { r with late := true }
    else s.hold r

/-! Doorbells (R284, R300). -/

/-- A doorbell that is ignored (R284): counted with its BAR2 offset. -/
def State.dbIgnored (s : State) (offset : Nat) : State :=
  (s.bump F.HOST_DB_ERR_COUNT).wr F.HOST_DB_ERR_LAST_OFFSET 0 offset

/-- RELEASE_US, clamped (R286). -/
def State.releaseUs (s : State) : Nat := max 2 (min 100 (s.rd F.HOST_CTRL_RELEASE_US))

/-- The release tick of a doorbell committed now (R286). -/
def State.releaseTick (s : State) : Nat := tickAtOrAfter (s.now + s.releaseUs * unitsPerUs)

/-- DOORBELL_PROD (R284, R286): descriptors are announced, or the reel faults with `OVERRUN`. -/
def State.doorbellProd (s : State) (r value : Nat) (dword : Bool) : State :=
  match s.reel? r with
  | none => s.dbIgnored (0x100 * r)
  | some x =>
    if !dword || isEventReel r then s.dbIgnored (0x100 * r)
    else if x.reason ≠ 0 then s
    else
      let v := value % 2 ^ 32
      if diff32 v x.cons < diff32 v x.fetch || x.size < diff32 v x.cons then s.faultReel r rfOVERRUN 0
      else if v = x.prod then s
      else s.putReel r { x with prod := v, ann := x.ann ++ [(v, s.releaseTick)] }

/-- A consumer count (R284): the slots are free, or the reel faults with `CONS_AHEAD`. -/
def State.consume (s : State) (r value : Nat) : State :=
  match s.reel? r with
  | none => s
  | some x =>
    if x.reason ≠ 0 then s
    else
      let v := value % 2 ^ 32
      if x.size < diff32 x.written v ||
          (!isEventReel r && (diff32 x.prod v < diff32 x.prod x.fetch || x.size < diff32 x.prod v)) then
        s.faultReel r rfCONSAHEAD 0
      else
        let s := s.putReel r { x with cons := v }
        let s := if isEventReel r then s.deliverReel r else s
        if r < 64 then State.drainTx (x.queue.length + 1) s r else s

/-- DOORBELL_CONS. -/
def State.doorbellCons (s : State) (r value : Nat) (dword : Bool) : State :=
  if !dword || (s.reel? r).isNone then s.dbIgnored (0x100 * r + 4) else s.consume r value

/-- The reel is armed; with entries past the count just written it signals at once (R300). -/
def State.armReel (s : State) (r : Nat) : State :=
  match s.reel? r with
  | some x =>
    if x.reason ≠ 0 then s
    else
      let s := s.putReel r { x with armed := true, pend := diff32 x.written x.cons }
      if 0 < diff32 x.written x.cons then s.signalReel r else s
  | none => s

/-- DOORBELL_CONS_ARM. -/
def State.doorbellConsArm (s : State) (r value : Nat) (dword : Bool) : State :=
  if !dword || (s.reel? r).isNone then s.dbIgnored (0x100 * r + 8) else (s.consume r value).armReel r

/-- MSIX_MODERATION (R300): MOD_US after the first pending entry an armed reel signals. -/
def State.moderate (s : State) (r : Nat) : State :=
  match s.reel? r with
  | some x => if x.armed && 0 < x.pend && x.reason == 0 then s.signalReel r else s
  | none => s

/-! Descriptors (R286–R291). -/

/-- A fetched receive buffer is posted; a wrong one completes (R289, Table 12.7). -/
def State.postBuffer (s : State) (r slot bits : Nat) : State :=
  match s.reel? r with
  | none => s
  | some x =>
    let cookie := bitsOf bits 160 32
    if bitsOf bits 0 146 ≠ 0 || bitsOf bits 192 64 % 16 ≠ 0 then
      s.complete r { status := csPARAM, slot := slot, cookie := cookie, records := x.records }
    else
      let b : RxBuf := { slot := slot, addr := bitsOf bits 192 64, cookie := cookie, length := bitsOf bits 146 14 }
      State.skipBuffers (x.bufs.length + 2) (s.putReel r { x with bufs := x.bufs ++ [b] }) r

/-- The next descriptor of a reel is read and becomes eligible at a tick (R286); a slot whose descriptor has not completed
faults the reel (R287). -/
def State.takeFetched (s : State) (r release : Nat) (f : Fetched) : State :=
  match s.reel? r with
  | none => s
  | some x =>
    let slot := x.fetch % x.size
    if x.reason ≠ 0 then s
    else if x.busy.contains slot then s.faultReel r rfSLOTBUSY 0
    else
      let x := { x with fetch := wrap32 (x.fetch + 1), busy := slot :: x.busy }
      if 64 ≤ r && r < 128 then (s.putReel r x).postBuffer r slot f.bits
      else
        let bits := if r < 64 && x.format == 1 then f.bits % 2 ^ 256 * 2 ^ 256 else f.bits % 2 ^ 512
        let d : TxDesc := { reel := r, slot := slot, bits := bits, release := release, gather := f.gather, frame := f.frame }
        let x := { x with queue := x.queue ++ [d] }
        if r < 64 then State.drainTx (x.queue.length + 1) (s.putReel r x) r else s.putReel r x

/-- DESCRIPTOR_RELEASE (R286): the release tick of the oldest announcement; the descriptors that have been fetched whole
become eligible, as far as they are announced. -/
def State.descriptorRelease (s : State) (r : Nat) (l : List Fetched) : State :=
  match s.reel? r with
  | none => s
  | some x =>
    match x.ann with
    | [] => s
    | a :: rest =>
      if s.rd F.HOST_STATUS_D_STATE == 3 || x.reason ≠ 0 then s
      else
        let s := s.putReel r { x with ann := rest, rel := a.1 }
        (l.take (diff32 a.1 x.fetch)).foldl (fun t f => t.takeFetched r a.2 f) s

/-- DESCRIPTOR_FETCH_DONE (R286): a descriptor is fetched whole after its release tick. -/
def State.descriptorFetched (s : State) (r : Nat) (f : Fetched) : State :=
  match s.reel? r with
  | none => s
  | some x =>
    if x.fetch = x.rel || 2 ^ 31 ≤ diff32 x.rel x.fetch || s.rd F.HOST_STATUS_D_STATE == 3 || x.reason ≠ 0 then s
    else (((s.bump F.HOST_FETCH_LATE_COUNT).faultOnce 40 uPCIE r 0).takeFetched r s.now f)

/-- DMA_ERROR (R288): a read of the module's own has failed for reel r at a host address; `cookie` is that of the descriptor
concerned, if there is one. It completes with `DMA_ERROR` if a slot is free, and the reel faults. -/
def State.dmaError (s : State) (r addr : Nat) (desc : Option (Nat × Nat)) : State :=
  match s.reel? r with
  | none => s
  | some x =>
    if x.reason ≠ 0 then s
    else
      let s := match desc with
        | some d => if s.reelHasSlot r && !isEventReel r then
            s.writeEntry r (if 160 ≤ r then 0x14 * 2 ^ 240 + (d.1 % 2 ^ 16) * 2 ^ 224 + (d.2 % 2 ^ 32) * 2 ^ 192
              else Compl.bits { status := csDMA, slot := d.1, cookie := d.2 })
          else s
        | none => s
      let s := s.faultReel r rfDMA addr
      { s with hs := { s.hs with ready := s.hs.ready.filter fun d => d.reel != r
                                 cues := s.hs.cues.filter fun d => d.reel != r } }

/-! Admin completions (R293). -/

/-- The command in progress on admin reel a: the front of its queue. -/
def State.adminFront (s : State) (a : Nat) : Option TxDesc :=
  match s.reel? (160 + a) with
  | some x => if x.reason ≠ 0 || s.rd F.HOST_STATUS_D_STATE == 3 then none else x.queue.head?
  | none => none

/-- The bits of an admin completion (Table 12.12), PHASE clear. -/
def adminBits (d : TxDesc) (status : Nat) (results : List Nat) : Nat :=
  status * 2 ^ 240 + (d.slot % 2 ^ 16) * 2 ^ 224 + bitsOf d.bits 448 32 * 2 ^ 192 +
    ((List.range 6).map fun j => results.getD j 0 % 2 ^ 32 * 2 ^ (160 - 32 * j)).sum

/-- The command in progress on admin reel a completes; a reel told to stop after it stops (ADMIN_CFG). -/
def State.adminDone (s : State) (a status : Nat) (results : List Nat) : State :=
  match s.adminFront a with
  | none => s
  | some d =>
    let r := 160 + a
    let s := s.modReel r fun x => { x with queue := x.queue.drop 1, busy := x.busy.filter (· != d.slot) }
    let s := (s.writeEntry r (adminBits d status results)).bumpWrap F.ADMIN_STATUS_EXECUTED a
    let s := { s with hs := { s.hs with waiting := s.hs.waiting.filter (· != a) } }
    if s.hs.stopping.contains a then
      { s.destroyReel r with hs := { (s.destroyReel r).hs with stopping := s.hs.stopping.filter (· != a) } }
    else s

/-- The command in progress on admin reel a waits for its completion. -/
def State.adminWait (s : State) (a : Nat) : State := { s with hs := { s.hs with waiting := a :: s.hs.waiting } }

/-! Time pages (R301, R304) and the VFs' event reels (R302). -/

/-- TIME_SNAPSHOT (R301): a snapshot in page v (0 for PF0) at the arrival of its TLP. -/
def State.timeSnapshot (s : State) (v at_ : Nat) : State :=
  if v ≠ 0 && !s.vfOn v then s
  else
    let d := s.timeDpll
    let valid := s.rdB F.TIME_STATUS_VALID
    let t := t96 (if valid then at_ else 0)
    let s := s.bumpWrap F.TM_CTRL_SEQ v
    let s := State.forAll 3 (fun w u => u.wr F.TM_TIME_TIME (3 * v + w) (bitsOf t (32 * w) 32)) s
    s.wrAll [(F.TM_STATE_STEPPED, v, b2n (s.rd F.TM_STATE_GEN v != s.gen % 65536)), (F.TM_STATE_GEN, v, s.gen),
      (F.TM_STATE_CLOCK_CLASS, v, s.rd F.SVC_STATUS_CLOCK_CLASS), (F.TM_STATE_TRACE, v, s.dpTrace d),
      (F.TM_STATE_VALID, v, b2n valid), (F.TM_STATE_SECONDS_SET, v, s.rd F.TIME_STATUS_SECONDS_SET),
      (F.TM_STATE_OUT_OF_SPEC, v, s.rd F.HOLD_STATUS_OUT_OF_SPEC d),
      (F.TM_UTC_VALID, v, s.rd F.TIME_UTC_VALID), (F.TM_UTC_LEAP61, v, s.rd F.TIME_UTC_LEAP61),
      (F.TM_UTC_LEAP59, v, s.rd F.TIME_UTC_LEAP59), (F.TM_UTC_OFFSET, v, s.rd F.TIME_UTC_OFFSET),
      (F.TM_TE_TE_NS, v, if (s.dpll d).episode.isSome then s.rd F.HOLD_TE_PRED_TE_NS d else 0)]

/-- VF_EVT_REEL_ENABLE (R302): VF_EVT_CFG of VF v takes a value; its event reel is created, or destroyed. -/
def State.vfEvtCfg (s : State) (v value : Nat) : State :=
  if !s.vfOn v then s
  else
    let s := s.wrAll [(F.VF_EVT_CFG_MOD_10US, v, bitsOf value 0 8), (F.VF_EVT_CFG_MOD_COUNT, v, bitsOf value 8 8),
      (F.VF_EVT_CFG_SIZE_LOG, v, bitsOf value 16 5), (F.VF_EVT_CFG_NOTIFY, v, bitsOf value 30 1),
      (F.VF_EVT_CFG_ENABLE, v, bitsOf value 31 1)]
    if bitsOf value 31 1 = 0 then s.destroyReel (200 + v)
    else if (s.reel? (200 + v)).isSome then
      s.modReel (200 + v) fun x => { x with modUs := 10 * bitsOf value 0 8, modCount := max 1 (bitsOf value 8 8) }
    else
      let log := bitsOf value 16 5
      let most := max 4 (min 16 (s.rd F.HOST_VF_CFG_EVT_MAX_LOG v))
      if log < 4 || most < log then s.wr F.VF_EVT_STATUS_RESULT v 2
      else if s.rd F.VF_EVT_ADDR_ADDR (2 * v) % 4096 ≠ 0 then s.wr F.VF_EVT_STATUS_RESULT v 3
      else
        (s.wr F.VF_EVT_STATUS_RESULT v 1).createReel (200 + v)
          { size := 2 ^ log, modUs := 10 * bitsOf value 0 8, modCount := max 1 (bitsOf value 8 8)
            cring := s.rd F.VF_EVT_ADDR_ADDR (2 * v) + s.rd F.VF_EVT_ADDR_ADDR (2 * v + 1) * 2 ^ 32 }

/-- VF_EVT_CONS and VF_EVT_CONS_ARM (R302). -/
def State.vfEvtCons (s : State) (v value : Nat) (arm : Bool) : State :=
  if !s.vfOn v || (s.reel? (200 + v)).isNone then s
  else (s.consume (200 + v) value).when arm (·.armReel (200 + v))

/-- What the VFs are told of (R302): generation, clockClass and TRACE; a change sends vector 1 of each VF with NOTIFY. -/
def State.notifyReview (s : State) : State :=
  let cur := (s.gen % 65536, s.rd F.SVC_STATUS_CLOCK_CLASS, s.dpTrace s.timeDpll)
  if s.hs.told = cur then s
  else
    State.forAll 16 (fun v t => t.when (t.vfOn v && t.rdB F.VF_EVT_CFG_NOTIFY v) (·.sendMsix v 1))
      { s with hs := { s.hs with told := cur } }

end Sys2Proof.Machine
end

