-- ==== Sys2Proof/Machine/Attic.lean ====
section
/-! DEFINITION. The attic's operations (R348–R361): reading records, commits and repairs at the write port, the mailbox, the
last gasp, the scan and the hourly counters. -/

namespace Sys2Proof.Machine

/-- Factory test mode (R380). -/
def State.testMode (s : State) : Bool := s.rdB F.IDENT_FUSE_TEST_MODE

/-- A source of the attic at a page: ITEM_A the page, ITEM_B the record type (Table 14.1). -/
def State.atticFault (s : State) (source page t : Nat) : State := s.fault source (uPG (page / 64)) page t

/-- The page at which a copy of an archive record begins. -/
def copyPage (r : RecType) (inst : Nat) (copyB : Bool) : Nat := copyAddr r inst copyB / 256

/-! Reading (R349, R350). -/

/-- An invalid copy beside a valid one is repaired (R350, R358): the valid copy's bytes are committed into that slot. One
repair waits at a time (R352). -/
def State.queueRepair (s : State) (t inst which : Nat) (c : RecCopy) : State :=
  if s.at_.port.any fun q => q.repair != 0 then s
  else s.portRequest { rtype := t, inst := inst, payload := c.payload, master := 19, replyKind := 0, replyTo := 0, repair := which }

/-- What a read of an archive record brings with it (R350, R358): source 49 where a record is lost, source 105 at the first
read of a conflict, a repair of an invalid copy. -/
def State.noteChosen (s : State) (t inst : Nat) (r : RecType) (c : Chosen) : State :=
  let s := s.when (c.rcd.isNone && !c.bothEmpty) fun u =>
    (u.bumpBy F.ATTIC_ERR_COUNT_INVALID_COPIES 0 2).atticFault 49 (copyPage r inst false) t
  let s := if c.conflict && !s.at_.conflictSeen.contains (t, inst) then
      ({ s with at_ := { s.at_ with conflictSeen := (t, inst) :: s.at_.conflictSeen } }).info 105
        (uPG (copyPage r inst false / 64)) 0 0 0
    else s
  match c.rcd with
  | some x => if c.repair = 0 then s else (s.bump F.ATTIC_ERR_COUNT_INVALID_COPIES).queueRepair t inst c.repair x
  | none => s

/-- A record as a read returns it: payload, sequence (the page's LAP for a log page), `CONFLICT`. -/
structure RecRead where
  payload : List Nat
  seq : Nat
  conflict : Bool := false
  deriving DecidableEq, Repr

/-- The lifetime counters as one record: 16 counters of 8 bytes, most significant byte first (log 12). Its sequence number
is stated nowhere: a free value (log 10). -/
def State.lifeRecord (s : State) : RecRead :=
  { payload := (List.range 16).flatMap fun n => beBytes 8 (s.lifeValue n), seq := s.freeNat % 2 ^ 32 }

/-- Source 49 for every lifetime counter with neither slot valid (R357). -/
def State.noteLife (s : State) : State :=
  State.forAll 16 (fun n t => t.when (t.lifeRead n).isNone (·.atticFault 49 (lifeAddr n 0 / 256) rtLIFETIME)) s

/-- ATTIC_READ and the mailbox READ (R349, R350): the record of a type and instance that exist, and what the read brings. -/
def State.readRecord (s : State) (t inst : Nat) : State × Option RecRead :=
  match recType t with
  | none => (s, none)
  | some r =>
    if r.archive then
      let c := s.chooseCopy r inst
      (s.noteChosen t inst r c, c.rcd.map fun x => { payload := x.payload, seq := x.seq, conflict := c.conflict })
    else if t = rtLIFETIME then (s.noteLife.drawn, some s.lifeRecord)
    else if t = rtEVENT_LOG then (s, (s.readLogPage inst).map fun p => { payload := p.2, seq := p.1 })
    else (s, (s.newestSlot t inst).map fun x => { payload := x.2.payload, seq := x.2.seq })

/-- The instance exists within its type (R348). -/
def recExists (t inst : Nat) : Bool := match recType t with
  | some r => inst < r.instances
  | none => false

/-- A record that the module itself uses (R348, R350): a copy in a version it does not know counts as absent, and raises
source 49. -/
def State.useRecord (s : State) (t inst : Nat) : State × Option RecRead :=
  match recType t with
  | none => (s, none)
  | some r =>
    let c := s.chooseCopy r inst
    let alien := fun b : Bool => match s.readCopy (copyAddr r inst b) r.maxLen with
      | some x => x.version != 1
      | none => false
    let s := s.noteChosen t inst r (if alien false || alien true then { c with repair := 0 } else c)
    let s := s.when (alien false || alien true) (·.atticFault 49 (copyPage r inst false) t)
    (s, (s.usableCopy r inst).map fun x => { payload := x.1.payload, seq := x.1.seq, conflict := x.2 })

/-! Commits (R351–R353). -/

/-- The host may write records of a type: those of Table 15.3, and in factory test mode the factory's own (R348, R380). -/
def State.mayWrite (s : State) (t : Nat) : Bool :=
  (match recType t with
    | some r => r.hostWrite
    | none => false) || (s.testMode && (t == rtIDENTITY || t == rtFACTORY || t == rtTDC_SHAPE))

/-- A request's copy of a record and SEQ: one higher than the record in force, 1 with none, its own for a repair (R350). -/
def State.commitSeq (s : State) (q : AtticReq) (r : RecType) : Nat :=
  match (s.chooseCopy r q.inst).rcd with
  | some x => if q.repair = 0 then (x.seq + 1) % 2 ^ 32 else x.seq
  | none => 1

/-- The bytes of one copy of a request. A repaired copy keeps the time of the record (R358). -/
def State.commitBytes (s : State) (q : AtticReq) (r : RecType) (copyB : Bool) : List Nat :=
  let time := if q.repair = 0 then s.at_.began else match (s.chooseCopy r q.inst).rcd with
    | some x => x.time
    | none => s.at_.began
  copyBytes q.rtype q.inst copyB (s.commitSeq q r) time q.payload

/-- The first n pages of a copy are written; the page after them, if the write of it failed, holds bytes that nothing fixes
(log 33). -/
def State.writePages (s : State) (a : Nat) (bs : List Nat) (n : Nat) (broken : Bool) : State :=
  let s := s.atticWrite a (bs.take (256 * n))
  if broken then
    let junk := (List.range 256).map fun k => s.freeNat / 256 ^ k % 256
    (s.atticWrite (a + 256 * n) junk).drawn
  else s

/-- Pages of a copy (R347). -/
def pagesOf (payload : List Nat) : Nat := (32 + payload.length + 255) / 256

/-- The next request's commit starts; with the port free the pending counter updates are written. -/
def State.portNext (s : State) : State :=
  let s := { s with at_ := { s.at_ with port := s.at_.port.drop 1 } }
  if s.at_.port.isEmpty then s.flushLife else s.portStarts

/-- A UNIT_OP or unit-control operation that awaited the retire list's commit completes (R128, R297, R374). -/
def State.retireListDone (s : State) (flags : Nat) : State :=
  let due := s.un.awaiting.filter fun w => w.2.2
  let s := { s with un := { s.un with awaiting := s.un.awaiting.filter fun w => !w.2.2 } }
  let s := due.foldl (fun t w =>
    let st := t.unitStatus w.2.1
    if 4 ≤ w.1 then t.adminDone (w.1 - 4) 0 [st, flags]
    else t.wrAll [(F.GLOBAL_UNIT_RESULT_BUSY, w.1, 0), (F.GLOBAL_UNIT_RESULT_CODE, w.1, 0),
      (F.GLOBAL_UNIT_RESULT_UNIT_STATUS, w.1, st)]) s
  let more := (s.at_.port.drop 1).any fun q => q.rtype == rtRETIRE_LIST && q.repair == 0
  s.wrB F.QUAL_RETIRE_STATUS_COMMIT_PENDING 0 more

/-- A record commit's registers: counts, the last commit, source 50 for an outcome other than committed. -/
def State.commitRegs (s : State) (q : AtticReq) (r : RecType) (outcome us : Nat) : State :=
  let s := s.wrAll [(F.ATTIC_LAST_COMMIT_TYPE, 0, q.rtype), (F.ATTIC_LAST_COMMIT_INSTANCE, 0, q.inst),
    (F.ATTIC_LAST_COMMIT_OUTCOME, 0, outcome), (F.ATTIC_LAST_COMMIT_LEN_US, 0, satTo 13 us)]
  let s := s.when (outcome != 3) (·.bumpWrap F.ATTIC_COMMIT_COUNT_DONE)
  s.when (outcome != 1) fun t =>
    (t.bump F.ATTIC_COMMIT_COUNT_FAILED).atticFault 50 (copyPage r q.inst (outcome == 3)) q.rtype

/-- The requester of a commit is answered (R353): RESULT0 the SEQ in force, RESULT1 ONE_COPY and NOT_COMMITTED. -/
def State.commitReply (s : State) (q : AtticReq) (r : RecType) (outcome : Nat) : State :=
  let seq := match (s.chooseCopy r q.inst).rcd with
    | some x => x.seq
    | none => 0
  let flags := b2n (outcome == 2) + 2 * b2n (outcome == 3)
  if q.rtype = rtRETIRE_LIST then
    (s.wr F.QUAL_RETIRE_STATUS_LIST_SEQ 0 seq).retireListDone flags
  else if q.replyKind = 1 then s.adminDone q.replyTo 0 [seq, flags]
  else if q.replyKind = 2 then
    s.wrAll [(F.ATTIC_MB_STATUS_RESULT, 0, if outcome = 3 then 7 else 1), (F.ATTIC_MB_STATUS_ONE_COPY, 0, b2n (outcome == 2)),
             (F.ATTIC_MB_SEQ_SEQ, 0, seq)]
  else s

/-- A repair ends (R358): source 49 and counter 14; source 50 where it failed its read-back. -/
def State.repairDone (s : State) (q : AtticReq) (r : RecType) (failed : Option Nat) : State :=
  let copyB := q.repair = 2
  let bs := s.commitBytes q r copyB
  let a := copyAddr r q.inst copyB
  let s := match failed with
    | none => s.atticWrite a bs
    | some k => s.writePages a bs (min k (pagesOf q.payload - 1)) true
  let s := { s with at_ := { s.at_ with port := s.at_.port.drop 1 } }
  let s := (s.atticFault 49 (copyPage r q.inst copyB) q.rtype).lifeBump 14 1
  let s := s.when failed.isSome (·.atticFault 50 (copyPage r q.inst copyB) q.rtype)
  if s.at_.port.isEmpty then s.flushLife else s.portStarts

/-- ATTIC_COMMIT_DONE (R351–R353): the commit in progress ends. `failed` tells the copy (true B) and page whose rewrites
failed, and `us` its duration. -/
def State.commitDone (s : State) (failed : Option (Bool × Nat)) (us : Nat) : State :=
  match s.at_.port with
  | [] => s
  | q :: _ =>
    match recType q.rtype with
    | none => s.portNext
    | some r =>
      if q.repair ≠ 0 then s.repairDone q r (failed.map (·.2))
      else
        let b := s.commitBytes q r true
        let a := s.commitBytes q r false
        let last := pagesOf q.payload - 1
        let p := match failed with
          | none => (((s.atticWrite (copyAddr r q.inst true) b).atticWrite (copyAddr r q.inst false) a), 1)
          | some (false, k) =>
            ((s.atticWrite (copyAddr r q.inst true) b).writePages (copyAddr r q.inst false) a (min k last) true, 2)
          | some (true, k) => (s.writePages (copyAddr r q.inst true) b (min k last) true, 3)
        let s := p.1
        let s := { s with at_ := { s.at_ with conflictSeen := s.at_.conflictSeen.filter (· != (q.rtype, q.inst)) } }
        let s := s.commitRegs q r p.2 us
        let s := s.commitReply q r p.2
        (s.when (p.2 != 3) (·.lifeBump 13 1)).portNext

/-- The same record's commit is in progress (R298, R352). -/
def State.commitBusy (s : State) (t inst : Nat) : Bool :=
  match s.at_.port with
  | q :: _ => q.rtype == t && q.inst == inst
  | [] => false

/-! The mailbox (R353, R354, R361, R362). -/

/-- The mailbox result. -/
def State.mbResult (s : State) (code : Nat) : State :=
  s.wrAll [(F.ATTIC_MB_STATUS_RESULT, 0, code), (F.ATTIC_MB_STATUS_ONE_COPY, 0, 0), (F.ATTIC_MB_STATUS_CONFLICT, 0, 0)]

/-- Bytes go into the staging buffer from byte 0. -/
def State.stage_ (s : State) (bs : List Nat) : State :=
  { s with at_ := { s.at_ with staging := Memory.writeBytes s.at_.staging 0 (bs.take 4096) } }

/-- ATTIC_MB_READ. -/
def State.mbRead (s : State) : State :=
  let t := s.rd F.ATTIC_MB_CTRL_TYPE
  let inst := s.rd F.ATTIC_MB_CTRL_INSTANCE
  if !recExists t inst then s.mbResult 3
  else
    let p := s.readRecord t inst
    match p.2 with
    | none => p.1.mbResult 2
    | some x => ((p.1.stage_ x.payload).mbResult 1).wrAll
        [(F.ATTIC_MB_LEN_LENGTH, 0, x.payload.length), (F.ATTIC_MB_SEQ_SEQ, 0, x.seq),
         (F.ATTIC_MB_STATUS_CONFLICT, 0, b2n x.conflict)]

/-- ATTIC_MB_WRITE: the payload is the first LENGTH bytes of staging. -/
def State.mbWrite (s : State) : State :=
  let t := s.rd F.ATTIC_MB_CTRL_TYPE
  let inst := s.rd F.ATTIC_MB_CTRL_INSTANCE
  let len := s.rd F.ATTIC_MB_LEN_LENGTH
  match recType t with
  | none => s.mbResult 3
  | some r =>
    if r.instances ≤ inst then s.mbResult 3
    else if !s.mayWrite t then s.mbResult 4
    else if r.maxLen < len then s.mbResult 5
    else if !s.at_.port.isEmpty then s.mbResult 6
    else (s.mbResult 0).portRequest
      { rtype := t, inst := inst, payload := Memory.bytes s.at_.staging 0 len, master := 16, replyKind := 2, replyTo := 0, repair := 0 }

/-- The 8-byte groups of a page of the dailies that are uncorrectable. -/
def State.badInPage (s : State) (p : Nat) : List Nat := s.at_.badGroups.filter fun g => g / 32 == p

/-- ATTIC_MB_RAW_READ (R361). -/
def State.mbRawRead (s : State) : State :=
  let p := s.rd F.ATTIC_MB_ADDR_PAGE
  let s := s.stage_ (Memory.bytes s.at_.mem (256 * p) 256)
  s.mbResult (if 1024 ≤ p && !(s.badInPage p).isEmpty then 8 else 1)

/-- The bytes of a raw write, wrapped within its page (R361). -/
def State.rawWrite (s : State) (page start : Nat) (bs : List Nat) : State :=
  let n := 256 - start
  (s.atticWrite (256 * page + start) (bs.take n)).when (n < bs.length) (·.atticWrite (256 * page) (bs.drop n))

/-- ATTIC_MB_RAW_WRITE (R361, R380). -/
def State.mbRawWrite (s : State) : State :=
  let p := s.rd F.ATTIC_MB_ADDR_PAGE
  let len := s.rd F.ATTIC_MB_LEN_LENGTH
  if len = 0 || 256 < len then s.mbResult 3
  else if (1160 ≤ p && p ≤ 1535) || s.testMode then
    (s.rawWrite p (s.rd F.ATTIC_MB_LEN_START) (Memory.bytes s.at_.staging 0 len)).mbResult 1
  else s.mbResult 4

/-- The staging word at OFFSET, and OFFSET's advance by 4 (ATTIC_MB_DATA). -/
def State.stagingWord (s : State) : Nat := beNat (Memory.bytes s.at_.staging (s.rd F.ATTIC_MB_ADDR_OFFSET / 4 * 4) 4)
def State.stagingNext (s : State) : State :=
  s.wr F.ATTIC_MB_ADDR_OFFSET 0 (s.rd F.ATTIC_MB_ADDR_OFFSET / 4 * 4 + 4)

/-- A write of ATTIC_MB_DATA. -/
def State.stagingPut (s : State) (v : Nat) : State :=
  let m := Memory.writeBytes s.at_.staging (s.rd F.ATTIC_MB_ADDR_OFFSET / 4 * 4) (beBytes 4 v)
  ({ s with at_ := { s.at_ with staging := m } }).stagingNext

/-! Power-down (R360). -/

/-- The SHUTDOWN payload: what R360 lists, in its order (the layout is log 34): T96 of PWR_FAIL_N, stage, cause, the slate's
source, unit and time, latch entries, TIME_STATUS, and the length of the last gasp in µs. -/
def State.shutdownPayload (s : State) (at_ cause us : Nat) : List Nat :=
  let slate := s.flt.slate
  beBytes 12 (t96 at_) ++ [s.stage, cause, (slate.map (·.source)).getD 0] ++ beBytes 2 ((slate.map (·.unit)).getD 0) ++
    beBytes 12 (t96 ((slate.map (·.time)).getD 0)) ++ beBytes 2 s.flt.latches.length ++
    beBytes 4 (s.regRaw [F.TIME_STATUS_VALID, F.TIME_STATUS_SECONDS_SET, F.TIME_STATUS_FRACTION_SET,
      F.TIME_STATUS_PORCH_START, F.TIME_STATUS_PORCH_LOST, F.TIME_STATUS_DPLL] 0) ++ beBytes 2 (satTo 11 us)

/-- The commit in progress stops after `pages` whole pages of its copies, B before A; what waits is dropped (R360). -/
def State.stopCommit (s : State) (pages : Nat) : State :=
  match s.at_.port with
  | [] => s
  | q :: _ =>
    let s := match recType q.rtype with
      | none => s
      | some r =>
        let n := pagesOf q.payload
        let bytes := fun b : Bool => s.commitBytes q r b
        let b := bytes true
        let a := bytes false
        if q.repair ≠ 0 then s.writePages (copyAddr r q.inst (q.repair == 2)) (bytes (q.repair == 2)) (min pages n) false
        else
          let s := s.writePages (copyAddr r q.inst true) b (min pages n) false
          let s := s.when (n < pages) (·.writePages (copyAddr r q.inst false) a (min (pages - n) n) false)
          s.wr F.ATTIC_LAST_COMMIT_OUTCOME 0 4
    { s with at_ := { s.at_ with port := [] } }

/-- LAST_GASP (R360): the commit has stopped after `pages` pages; the SHUTDOWN slot, the pending counters and the log page in
progress are written, in `us` µs. -/
def State.lastGasp (s : State) (pages us : Nat) : State :=
  match s.at_.gasp with
  | none => s
  | some (t, cause) =>
    let s := s.stopCommit pages
    let s := s.writeSlot rtSHUTDOWN 0 (s.shutdownPayload t cause us)
    let s := s.flushLife.logPageWrite
    { s with at_ := { s.at_ with gasp := none } }

/-- ATTIC_LASTGASP as the newest SHUTDOWN slot reports it. -/
def State.loadLastGasp (s : State) : State :=
  match s.newestSlot rtSHUTDOWN 0 with
  | none => s
  | some x =>
    let p := x.2.payload
    s.wrAll [(F.ATTIC_LASTGASP_VALID, 0, 1), (F.ATTIC_LASTGASP_CAUSE, 0, p.getD 13 0), (F.ATTIC_LASTGASP_STAGE, 0, p.getD 12 0),
             (F.ATTIC_LASTGASP_LEN_US, 0, beNat ((p.drop 35).take 2))]

/-- The T96 of PWR_FAIL_N in the newest SHUTDOWN slot. -/
def State.lastShutdown (s : State) : Option Nat :=
  (s.newestSlot rtSHUTDOWN 0).map fun x => beNat (x.2.payload.take 12)

/-! Hours and the scan (R357, R358). -/

/-- POWER_ON_HOUR (Table 15.5): an hour with rails good has passed. -/
def State.powerOnHour (s : State) : State :=
  if !s.rdB F.POWER_STATUS_RAILS_GOOD then s
  else
    let s := s.lifeBump 0 1
    let s := s.when s.at_.hourStage3 (·.lifeBump 5 1)
    let s := match (s.dpll s.timeDpll).episode with
      | some e =>
        let n := (s.now - e.start) / unitsPerSec
        let s := s.lifeBump 7 (n - s.at_.hourHeld)
        { s with at_ := { s.at_ with hourHeld := n } }
      | none => s
    let s := s.when s.at_.hourHot (·.lifeBump 15 1)
    { s with at_ := { s.at_ with hourStage3 := s.stage == 3, hourHot := 75 * 16 < s.rdI F.POWER_TEMP_PLATE_TEMP } }

/-- The archive record that holds a page, and whether the page is its copy's first (Table 15.1). -/
def recordOfPage (p : Nat) : Option (Nat × Nat × Bool × Bool) :=
  let q := p % 512
  let pick := [rtIDENTITY, rtFACTORY, rtTDC_SHAPE, rtRETIRE_LIST, rtBOOT, rtHOST].find? fun t => match recType t with
    | some r => r.page ≤ q && q < r.page + r.pages * r.instances
    | none => false
  match pick with
  | none => none
  | some t => match recType t with
    | none => none
    | some r => some (t, (q - r.page) / r.pages, 512 ≤ p, (q - r.page) % r.pages == 0)

/-- A page has been rewritten by the scan: source 106. -/
def State.refreshed (s : State) (p : Nat) : State :=
  (s.bump F.ATTIC_SCAN_STATUS_REFRESHED).info 106 (uPG (p / 64)) 0 0 0

/-- ATTIC_SCAN_PAGE (R358): the next page is checked. For an archive page `weak` tells that its two reads differ; for a page
of the dailies `single` counts its groups with one wrong bit and `bad` lists those that cannot be corrected (0–31). -/
def State.scanPage (s : State) (weak : Bool) (single : Nat) (bad : List Nat) : State :=
  let p := s.rd F.ATTIC_SCAN_STATUS_PAGE
  let s := s.wr F.ATTIC_SCAN_STATUS_PAGE 0 ((p + 1) % 4096)
  if p < 1024 then
    match recordOfPage p with
    | none => s
    | some (t, inst, copyB, first) =>
      match recType t with
      | none => s
      | some r =>
        let valid := (s.readCopy (copyAddr r inst copyB) r.maxLen).isSome
        let s := s.when (weak && valid) (·.refreshed p)
        if first then s.noteChosen t inst r (s.chooseCopy r inst) else s
  else
    let gs := (bad.filter (· < 32)).map fun k => 32 * p + k
    let s := { s with at_ := { s.at_ with badGroups := gs ++ s.at_.badGroups.filter (!gs.contains ·) } }
    let s := s.bumpBy F.ATTIC_ERR_COUNT_CORRECTED 0 single
    let s := s.when (single != 0) (·.refreshed p)
    gs.foldl (fun t _ => (t.bump F.ATTIC_ERR_COUNT_UNCORRECTABLE).atticFault 49 p
      (if p < 1028 then rtLIFETIME else if p < 1032 then rtSHUTDOWN else if p < 1160 then rtHOLD_SUMMARY
        else if p < 1536 then 0 else rtEVENT_LOG)) s

end Sys2Proof.Machine
end

