-- ==== Sys2Proof/Machine/Access.lean ====
section
/-! DEFINITION. What each master is told of its accesses (R367, R371, R372) and the faults a refused write raises (R341). -/

namespace Sys2Proof.Machine

/-- The bank of a master at the banked registers of GLOBAL: masters 0, 16, 17 and 18 have one (R369, R375). -/
def bankOf (m : Nat) : Option Nat :=
  if m = 0 then some 0 else if m = 16 then some 1 else if m = 17 then some 2 else if m = 18 then some 3 else none

/-- The master of a bank. -/
def bankMaster (b : Nat) : Nat := [0, 16, 17, 18].getD b 0

/-- The unit named by sources 41 and 51 for a master (R341). -/
def masterUnit (m : Nat) : Nat :=
  if m = 0 then uPCIE else if m ≤ 15 then uVF m else if m = 16 then uSMBUS else if m = 17 then uHALLWAY else uMODULE

/-- A master's own unit: an operation that reaches it is handled apart (R297, R374). -/
def ownUnit (m : Nat) : Option Nat :=
  if m = 0 then some uPCIE else if m = 16 then some uSMBUS else if m = 17 then some uHALLWAY else none

/-- The outcome of an access is placed in the master's bank (R372). -/
def State.outcome (s : State) (m code addr : Nat) : State :=
  let s := s.when (code == ocRETIRED) (·.bump F.GLOBAL_IGNORED_RETIRED)
  match bankOf m with
  | none => s
  | some b =>
    let s := s.wrAll [(F.GLOBAL_ACCESS_STATUS_RESULT, b, code), (F.GLOBAL_ACCESS_ADDR_ADDR, b, addr)]
    s.when (code != ocOK) (·.bump F.GLOBAL_ACCESS_STATUS_REFUSED b)

/-- The fault of a refused write: access type 2 a register write, 5 the wide mailbox (R341). -/
def State.accessFault (s : State) (source m addr access : Nat) : State :=
  s.raise { source := source, unit := masterUnit m, itemA := addr, itemB := m % 32 + access * 32, access := access,
            master := m, addr := addr }

/-- A locked write (R367): counted, and source 41. -/
def State.noteLocked (s : State) (m addr access : Nat) : State := (s.bump F.LOCKED_WRITES_COUNT).accessFault 41 m addr access

/-- A write to a block that another master owns (R371): counted, and source 51. -/
def State.noteNotOwner (s : State) (m addr access : Nat) : State :=
  (s.bump F.GLOBAL_NOT_OWNER_COUNT).accessFault 51 m addr access

end Sys2Proof.Machine
end

