-- ==== Sys2Proof/Machine/Peer.lean ====
section
/-! DEFINITION. The pair (R305–R328): reading and asserting claims, the hallway link and its messages, the mirror of the
client table, standby alignment, and the switch. -/

namespace Sys2Proof.Machine

/-! The deadbolt (R307–R311). -/

/-- SLOT of this module. -/
def State.slot (s : State) : Nat := s.rd F.PEER_STRAPS_SLOT

/-- Table 13.2's BLOCKED: the claim is released, if it is held. -/
def State.block (s : State) (cause : Nat) : State :=
  let s := { s with pr := { s.pr with slotDelay := false, confirm := false, conflictHold := false,
                                      reclaiming := s.pr.reclaiming || s.claims } }
  (s.wrAll [(F.PEER_STATUS_CLAIM_OUT, 0, 0), (F.PEER_STATUS_BLOCK_CAUSE, 0, cause)]).setPairState psBLOCKED

/-- The whole client table is to be sent to the partner (R321). -/
def State.mirrorAll (s : State) : State :=
  if s.pairState == psACTIVE && 2 ≤ s.rd F.PEER_STATUS_VERSION && s.rd F.PEER_STATUS_LINK_STATE == 3 then
    { s with pr := { s.pr with mirror := s.clients.map fun c => (c.1, some c.2), bulk := true } }
  else s

/-- Codes of Table 12.14 that a switch ends with. -/
def acOK : Nat := 0
def acBUSY : Nat := 9
def acNOT_PAIRED : Nat := 0x15
def acNOT_READY : Nat := 0x16

/-- A switch ends with a code (R324): shown, source 98, told to its requester. -/
def State.endSwitch (s : State) (code : Nat) : State :=
  match s.pr.switch with
  | none => s
  | some w =>
    let s := { s with pr := { s.pr with switch := none, bySwitch := s.pr.bySwitch && code == acOK }
                      sy := { s.sy with handover := false } }
    let s := s.wrAll [(F.PEER_SWITCH_STATUS_RESULT, 0, code), (F.PEER_SWITCH_STATUS_IN_PROGRESS, 0, 0)]
    let s := (s.when (code == acOK) (·.bump F.PEER_SWITCH_STATUS_COUNT)).info 98 uDEADBOLT 0 0 0
    match w.reply with
    | some (a, _) => s.adminDone a code []
    | none => s

/-- Entry to `ACTIVE` (R308, R323): ACTIVE_N low, the drivers on; a fail-over unless a switch brought it. -/
def State.enterActive (s : State) : State :=
  let since := s.tm.elapsed - s.pr.claimAbsent.getD 0
  let failover := !s.pr.bySwitch
  let s := { s with pr := { s.pr with confirm := false, conflictHold := false, slotDelay := false, bySwitch := false,
                                      lastActiveAt := some s.now } }
  let s := s.wrAll [(F.PEER_STATUS_CLAIM_OUT, 0, 1), (F.PEER_STATUS_BLOCK_CAUSE, 0, 0), (F.PEER_STATUS_ALIGNED, 0, 0)]
  let s := s.when failover fun t => (t.bump F.PEER_COUNTS_FAILOVERS).wr F.PEER_LAST_FAILOVER_LEN_US 0
    (satTo 32 (since / unitsPerUs))
  let s := (s.setPairState psACTIVE).mirrorAll
  match s.pr.switch with
  | some w => if w.handover.isSome && w.origin == 3 || !w.shut then s.endSwitch acOK else s
  | none => s

/-- A conflict (R309): source 47 and its count. -/
def State.conflict (s : State) : State := (s.bump F.PEER_CLAIM_EVENTS_CONFLICTS).fault 47 uDEADBOLT s.slot 0

/-- A claim is read in the confirm window. -/
def State.confirmConflict (s : State) : State :=
  let again := match s.pr.lastConflict with
    | some t => decide (s.tm.elapsed ≤ t + unitsPerSec)
    | none => false
  let s := s.conflict
  let s := { s with pr := { s.pr with lastConflict := some s.tm.elapsed } }
  if s.slot == 0 then { s with pr := { s.pr with conflictHold := true } }
  else if again then s.block 3
  else
    let s := { s with pr := { s.pr with confirm := false, reclaiming := true } }
    ((s.wr F.PEER_STATUS_CLAIM_OUT 0 0).setPairState psSTANDBY).pairReview

/-- A broken pair is read (R310). -/
def State.brokenRead (s : State) (code : Nat) : State :=
  let s := (s.bump F.PEER_CLAIM_EVENTS_BROKEN).fault 44 uDEADBOLT code 0
  let p := s.pairState
  if p == psWAITING || p == psSTANDBY || p == psCLAIMING then s.block 1 else s

/-- CLAIM_IN_CHANGE (R307, R309, R310): the deglitched reading (codes of Table 13.1) changes. -/
def State.claimInChange (s : State) (code : Nat) : State :=
  if s.isSole || s.rd F.PEER_STATUS_CLAIM_IN = code then s
  else
    let s := s.wr F.PEER_STATUS_CLAIM_IN 0 code
    let s := { s with pr := { s.pr with claimAbsent := if code = 0 then some s.tm.elapsed else none } }
    if code = 2 ∨ code = 3 then s.brokenRead code
    else if code = 0 then s.pairReview
    else if s.pairState == psACTIVE then
      if s.slot == 1 then (s.fault 47 uDEADBOLT s.slot 0).releaseClaim else s
    else if s.pairState == psCLAIMING && s.claims then s.confirmConflict
    else s.pairReview

/-- CLAIM_SLOT_DELAY_END (R309): no claim read at the end of the slot delay: CLAIM_OUT is asserted. -/
def State.slotDelayEnd (s : State) : State :=
  if s.pairState == psCLAIMING && s.pr.slotDelay && !s.claimRead then
    { s.wr F.PEER_STATUS_CLAIM_OUT 0 1 with pr := { s.pr with slotDelay := false, confirm := true } }
  else s

/-- CLAIM_CONFIRM_END (R309): the confirm window ends clear. -/
def State.confirmEnd (s : State) : State :=
  if s.pairState == psCLAIMING && s.pr.confirm && !s.pr.conflictHold && !s.claimRead then s.enterActive else s

/-- CLAIM_CONFLICT_HOLD_END (R309): with the partner's claim still read the module blocks; otherwise its own stands. -/
def State.conflictHoldEnd (s : State) : State :=
  if s.pairState == psCLAIMING && s.pr.conflictHold then
    if s.claimRead then s.block 2 else s.enterActive
  else s

/-- RECLAIM_HOLDOFF_END (R309). -/
def State.reclaimEnd (s : State) : State := ({ s with pr := { s.pr with reclaiming := false } }).pairReview

/-! The hallway link (R313, R314). -/

/-- Link states, codes of PEER_STATUS.LINK_STATE. -/
def lkDOWN : Nat := 0
def lkTRAINING : Nat := 1
def lkNEGOTIATING : Nat := 2
def lkUP : Nat := 3
def lkINCOMPATIBLE : Nat := 4
def lkLOST : Nat := 5

/-- The state of the link. -/
def State.linkState (s : State) : Nat := s.rd F.PEER_STATUS_LINK_STATE

/-- The link changes state: source 99. -/
def State.setLink (s : State) (n : Nat) : State :=
  if s.linkState = n then s else (s.wr F.PEER_STATUS_LINK_STATE 0 n).info 99 uHALLWAY 0 0 0

/-- A lane is up. -/
def State.laneUp (s : State) (l : Nat) : Bool := s.rdB F.PEER_LANE_STATUS_UP l

/-- The module uses the hallway link: a paired module, from Stage 1, its unit in service. -/
def State.hallwayOn (s : State) : Bool := !s.isSole && s.stage != 0 && s.inService uHALLWAY

/-- A message leaves (R313): HELLO, HEARTBEAT, TIME and the switch messages on both lanes, the others on lane 1 while it is
up. The lanes of HELLO are not stated (log 32). -/
def State.hallwaySend (s : State) (type : Nat) (fields : List Nat) : State :=
  if !s.hallwayOn || (!s.laneUp 0 && !s.laneUp 1) then s
  else
    let both := type < 6
    let s := s.when (s.laneUp 0 && (both || !s.laneUp 1)) (·.bumpWrap F.PEER_LANE_TX_COUNT 0)
    let s := s.when (s.laneUp 1) (·.bumpWrap F.PEER_LANE_TX_COUNT 1)
    let q := s.pr.txSeq.at type 0
    let s := { s with pr := { s.pr with txSeq := s.pr.txSeq.set type ((q + 1) % 65536) 0 } }
    (s.bumpWrap F.PEER_MSG_TX_COUNT type).emitOut (.hallway type (q :: fields))

/-- A frame of a type has come on a lane (R313): counted, and taken unless its CRC is wrong or its SEQ has been taken. -/
def State.hallwayTake (s : State) (h : Hl) (type : Nat) : State × Bool :=
  let l := h.lane.val
  if !s.hallwayOn || !s.laneUp l then (s, false)
  else if !h.crcOk then (s.bump F.PEER_LANE_CRC_COUNT l, false)
  else
    let s := s.bumpWrap F.PEER_LANE_RX_COUNT l
    if s.pr.rxSeq.at type 0 = h.seq % 65536 + 1 then (s, false)
    else
      (({ s with pr := { s.pr with rxSeq := s.pr.rxSeq.set type (h.seq % 65536 + 1) 0 } }).bumpWrap F.PEER_MSG_RX_COUNT type,
        true)

/-- Messages other than HELLO are heeded once negotiation has succeeded (R314). -/
def State.linked (s : State) : Bool := s.linkState == lkUP || s.linkState == lkLOST

/-- HALLWAY_LANE_UP (R313, R314): a lane comes up; with the first one the link starts to negotiate. -/
def State.laneComesUp (s : State) (l : Nat) : State :=
  if !s.hallwayOn || s.laneUp l then s
  else
    let first := !s.laneUp 0 && !s.laneUp 1
    let s := s.wrAll [(F.PEER_LANE_STATUS_UP, l, 1), (F.PEER_LANE_STATUS_SIGNAL, l, 1), (F.PEER_LANE_STATUS_ALIGNED, l, 1)]
    if first then ({ s with pr := { s.pr with rxSeq := [] } }).setLink lkNEGOTIATING else s

/-- No lane is up: the negotiation is void. -/
def State.linkDown (s : State) (state : Nat) : State := (s.wr F.PEER_STATUS_VERSION 0 0).setLink state

/-- HALLWAY_LANE_DOWN (R313). -/
def State.laneGoesDown (s : State) (l : Nat) : State :=
  if !s.laneUp l then s
  else
    let s := s.wrAll [(F.PEER_LANE_STATUS_UP, l, 0), (F.PEER_LANE_STATUS_SIGNAL, l, 0), (F.PEER_LANE_STATUS_ALIGNED, l, 0)]
    let s := s.bump F.PEER_LANE_RETRAINS_COUNT l
    if s.laneUp (1 - l) then s.fault 42 uHALLWAY l 0 else s.linkDown lkTRAINING

/-- A reset, retirement or isolation of unit HALLWAY: its lanes are down, and master 17's bytes are open (R326, R371). -/
def State.hallwayReset (s : State) : State :=
  let s := State.forAll 2 (fun l t => t.wrAll [(F.PEER_LANE_STATUS_UP, l, 0), (F.PEER_LANE_STATUS_SIGNAL, l, 0),
    (F.PEER_LANE_STATUS_ALIGNED, l, 0)]) s
  (s.linkDown lkDOWN).openBytes 17

/-! Negotiation (R314, R378). -/

/-- The versions this module offers. -/
def State.offered (s : State) : Nat :=
  let v := s.peerRd F.PEER_CFG_VERSIONS
  if v / 2 % 8 = 0 then 0b1110 else v / 2 % 8 * 2

/-- The pair identity this module derives (R378); none where it needs the partner's clockIdentity and has not read it. -/
def State.ownPairId (s : State) (partner : Option Nat) : Option Nat :=
  if s.rdB F.IDENT_PAIR_CFG_MODE then some s.id_.pairCfg
  else if s.slot == 0 then some ((s.id_.clockId + 1) % 2 ^ 64)
  else partner.map fun x => (x + 1) % 2 ^ 64

/-- HELLO_TX (R314): while negotiating, or incompatible. -/
def State.helloTx (s : State) : State :=
  if s.linkState ≠ lkNEGOTIATING ∧ s.linkState ≠ lkINCOMPATIBLE then s
  else
    (s.wr F.PEER_VERSION_OFFERED 0 s.offered).hallwaySend 0
      [s.offered, s.slot, b2n s.isSole, (s.ownPairId s.pr.partnerId).getD 0, s.id_.clockId]

/-- What makes a negotiation fail: ITEM_A of source 45, 0 for nothing. -/
def State.helloFails (s : State) (h : Hello) : Nat :=
  let own := s.ownPairId (some h.clockId)
  if [1, 2, 3].all fun v => !(bitOf s.offered v && bitOf h.versions v) then 1
  else if h.slot == s.slot then 2
  else if h.sole then 3
  else if own == some 0 || (h.pairId.isSome && h.pairId != own) then 4
  else 0

/-- HELLO_RX (R314). -/
def State.helloRx (s : State) (f : Hl) (h : Hello) : State :=
  let r := s.hallwayTake f 0
  if !r.2 then r.1
  else
    let s := r.1.wr F.PEER_VERSION_PARTNER_VERSIONS 0 h.versions
    let s := { s with pr := { s.pr with partnerId := some h.clockId } }
    if s.linkState ≠ lkNEGOTIATING ∧ s.linkState ≠ lkINCOMPATIBLE then s
    else if s.helloFails h ≠ 0 then (s.fault 45 uHALLWAY (s.helloFails h) 0).setLink lkINCOMPATIBLE
    else
      let s := s.hallwaySend 0 [s.offered, s.slot, 0, (s.ownPairId (some h.clockId)).getD 0, s.id_.clockId]
      let v := if bitOf s.offered 3 && bitOf h.versions 3 then 3 else if bitOf s.offered 2 && bitOf h.versions 2 then 2 else 1
      let s := { s with pr := { s.pr with everNegotiated := true, pairId := s.ownPairId (some h.clockId), hbSeen := true,
                                          digestSeen := false, unacked := [], mirror := [], bulk := false } }
      let s := s.wrAll [(F.PEER_STATUS_VERSION, 0, v), (F.PEER_VERSION_NEGOTIATED, 0, v), (F.PEER_STATUS_HB_CURRENT, 0, 1),
                        (F.PEER_HB_MISSED_COUNT, 0, 0)]
      let s := s.when (v < 3) (·.wr F.PEER_PARTNER_DIGEST_DIGEST 0 0)
      let s := s.when (v < 3 && !s.rdB F.PEER_STATUS_CFG_MATCH) fun t =>
        (t.wr F.PEER_STATUS_CFG_MATCH 0 1).info 100 uHALLWAY 0 0 0
      (s.setLink lkUP).mirrorAll

/-! Heartbeats (R315, Table 13.4). -/

/-- Entries sent and not acknowledged, or still to be sent. -/
def State.backlog (s : State) : Nat := s.pr.mirror.length + s.pr.unacked.length

/-- PEER_ALIGN.ERR (R320): the module's own ē, or what the partner reports; 0x8000_0000 for none. -/
def State.alignErr (s : State) : Nat :=
  if s.isSole then 0x80000000
  else if s.pairState == psACTIVE then s.rd F.PEER_ALIGN_ERR
  else if s.dpSt s.timeDpll == 3 then
    ofSigned 32 (clampSigned 32 (quotient 95 ((s.dpll s.timeDpll).eBar * 10000) unitsPerNs))
  else 0x80000000

/-- HEARTBEAT_TX (R315): every 1 ms; a period without one from the partner is counted. -/
def State.heartbeatTx (s : State) : State :=
  if !s.linked then s
  else
    let s := s.when (!s.pr.hbSeen) (·.bump F.PEER_HB_MISSED_COUNT)
    let s := { s with pr := { s.pr with hbSeen := false } }
    let flags := b2n s.claims + 2 * s.rd F.PEER_STATUS_ALIGNED + 4 * b2n (!s.flt.latches.isEmpty) + 8 * b2n (s.laneUp 0) +
      16 * b2n (s.laneUp 1) + 32 * s.peerRd F.PEER_CFG_CLAIM_EN
    s.hallwaySend 1 [s.pairState, s.stage, flags, s.dpState s.timeDpll, s.rd F.SVC_STATUS_STATE, s.timeRootQl,
      s.gen % 65536, s.alignErr, s.backlog]

/-- HEARTBEAT_RX (R315, R316): the partner's state; a switch ends when the partner reports `ACTIVE` (R324). -/
def State.heartbeatRx (s : State) (f : Hl) (h : Heartbeat) : State :=
  let r := s.hallwayTake f 1
  if !r.2 || !s.linked then r.1
  else
    let s := { r.1 with pr := { r.1.pr with hbSeen := true } }
    let s := (s.bumpWrap F.PEER_HB_RX_COUNT).wrAll
      [(F.PEER_PARTNER_PAIR_STATE, 0, h.pairState), (F.PEER_PARTNER_STAGE, 0, h.stage),
       (F.PEER_PARTNER_DPLL_STATE, 0, h.dpll), (F.PEER_PARTNER_SVC_STATE, 0, h.svc),
       (F.PEER_PARTNER_FAULT_LATCHED, 0, b2n (bitOf h.flags 2)), (F.PEER_PARTNER_CLAIM_EN, 0, b2n (bitOf h.flags 5)),
       (F.PEER_PARTNER_LANE1_UP, 0, b2n (bitOf h.flags 4)), (F.PEER_PARTNER_LANE0_UP, 0, b2n (bitOf h.flags 3)),
       (F.PEER_PARTNER_ROOT_QL, 0, h.ql), (F.PEER_STATUS_HB_CURRENT, 0, 1), (F.PEER_ALIGN_ERR, 0, h.alignErr)]
    let s := { s with pr := { s.pr with partnerAligned := bitOf h.flags 1, partnerBacklog := h.backlog } }
    let s := s.when (s.linkState == lkLOST) (·.setLink lkUP)
    match s.pr.switch with
    | some w => if w.shut && h.pairState == psACTIVE && s.pairState != psACTIVE then s.endSwitch acOK else s
    | none => s

/-- HEARTBEAT_LOST (R315, R371). -/
def State.heartbeatLost (s : State) : State :=
  if s.isSole || !s.rdB F.PEER_STATUS_HB_CURRENT then s
  else
    let s := (s.wr F.PEER_STATUS_HB_CURRENT 0 0).bump F.PEER_COUNTS_HB_LOSSES
    let s := { s with pr := { s.pr with lastHbLossAt := some s.now } }
    ((s.openBytes 17).fault 43 uHALLWAY 0 0).setLink lkLOST

/-! Time from the partner (R319). -/

/-- The TIME message of an `ACTIVE` module, with each pulse of HWO_PPS; the spec names its content and no other moment
(log 32). -/
def State.timeTx (s : State) (second : Nat) : State :=
  if s.pairState == psACTIVE && s.linked then
    s.hallwaySend 2 [second, s.gen % 65536, s.rd F.TIME_UTC_OFFSET, s.rd F.TIME_UTC_VALID, s.rd F.TIME_UTC_LEAP61,
      s.rd F.TIME_UTC_LEAP59]
  else s

/-- PPS_PULSE, with the TIME message that names the edge of HWO_PPS. -/
def State.ppsPulseTime (s : State) (p : Nat) : State :=
  let t := s.ppsPulse p
  if p = 4 && t.out.length != s.out.length then t.timeTx (((t.tm.pps.at 4 {}).lastAt.getD 0) / unitsPerSec) else t

/-- The partner's TIME_UTC, where it differs, is written as master 17 at the epoch that accepts the message. -/
def State.partnerUtc (s : State) (m : TimeMsg) : State :=
  let l : List (Fld × Nat) := [(F.TIME_UTC_OFFSET, ofSigned 16 m.offset), (F.TIME_UTC_VALID, b2n m.valid),
    (F.TIME_UTC_LEAP61, b2n m.leap61), (F.TIME_UTC_LEAP59, b2n m.leap59)]
  (l.filter fun p => s.rd p.1 != p.2).foldl (fun t p => t.later (.reg (p.1.key 0) p.2)) s

/-- The latest pulse of PR0's channel and its d against the seconds of a TIME message; none where it gives no result
(R216, R217). -/
def State.partnerPulse (s : State) (seconds : Nat) : Option (Int × Int) :=
  match s.monChan 40 with
  | none => none
  | some c => match (s.chan c).pulses.find? fun p => p.1 ≤ (s.now : Int) with
    | none => none
    | some (t, g) =>
      let n := nearestSecond t
      if g ≠ s.gen || s.pr.timeRun.lastPulse == some t || 100 * (unitsPerMs : Int) < |n.2| then none
      else some ((seconds : Int) - n.1, t)

/-- TIME_MSG_RX (R319): on a module that is not `ACTIVE` the message sets seconds and TIME_UTC. -/
def State.timeMsgRx (s : State) (f : Hl) (m : TimeMsg) : State :=
  let r := s.hallwayTake f 2
  if !r.2 || !s.linked || !s.isStandby then r.1
  else
    let s := r.1.partnerUtc m
    match s.partnerPulse m.seconds with
    | none => { s with pr := { s.pr with timeRun := { s.pr.timeRun with run := 0 } } }
    | some (d, t) =>
      let run := { s.pr.timeRun.add d with lastPulse := some t }
      let s := { s with pr := { s.pr with timeRun := run } }
      if max 1 (s.peerRd F.PEER_CFG_CONFIRM) ≤ run.run then s.secondsDecision uTCOUNT d true else s

/-! The client table (R321). -/

/-- The part of an entry that is mirrored: all but the engine's counts. -/
def mirrorBits (w : Nat) : Nat := w / 2 ^ 96 * 2 ^ 96 + bitsOf w 48 16 * 2 ^ 48

/-- The entries that wait are sent, within a service epoch of their change. -/
def State.mirrorSend (s : State) : State :=
  if s.pairState ≠ psACTIVE || s.rd F.PEER_STATUS_VERSION < 2 || s.linkState ≠ lkUP then s
  else
    let l := s.pr.mirror
    let s := { s with pr := { s.pr with mirror := [], unacked := s.pr.unacked.filter (fun i => !(l.map (·.1)).contains i) ++
                                                                   l.map (·.1) } }
    l.foldl (fun t e => t.hallwaySend 6 (match e.2 with
      | some w => [1, e.1, mirrorBits w]
      | none => [0, e.1])) s

/-- TABLE_SYNC_RX (R316, R321). -/
def State.tableSyncRx (s : State) (f : Hl) (m : TableMsg) : State :=
  let r := s.hallwayTake f 6
  if !r.2 || !s.linked || s.rd F.PEER_STATUS_VERSION < 2 then r.1
  else
    let s := r.1
    match m with
    | .entry i w =>
      if s.pairState == psACTIVE || 16384 ≤ i then s
      else (s.setClient i (mirrorBits w + (s.client i - mirrorBits (s.client i))) false).hallwaySend 6 [2, i]
    | .deletion i => if s.pairState == psACTIVE || 16384 ≤ i then s else (s.setClient i 0 false).hallwaySend 6 [2, i]
    | .ack i =>
      let left := s.pr.unacked.filter (· != i)
      { s with pr := { s.pr with unacked := left, bulk := s.pr.bulk && !(left.isEmpty && s.pr.mirror.isEmpty) } }

/-! The configuration digest (R322). -/

/-- CFG_MATCH follows the two digests; a change emits source 100. -/
def State.compareDigests (s : State) : State :=
  let same := s.rd F.PEER_CFG_DIGEST_DIGEST == s.rd F.PEER_PARTNER_DIGEST_DIGEST
  if s.rdB F.PEER_STATUS_CFG_MATCH == same then s
  else (s.wr F.PEER_STATUS_CFG_MATCH 0 (b2n same)).info 100 uHALLWAY 0 0 0

/-- CFG_DIGEST_RX. -/
def State.digestRx (s : State) (f : Hl) (d : Nat) : State :=
  let r := s.hallwayTake f 7
  if !r.2 || !s.linked || s.rd F.PEER_STATUS_VERSION < 3 then r.1
  else
    let s := r.1.wr F.PEER_PARTNER_DIGEST_DIGEST 0 d
    ({ s with pr := { s.pr with digestSeen := true } }).compareDigests

/-- The module's own digest at a model epoch, sent over a link of version 3. -/
def State.ownDigest (s : State) (d : Nat) : State :=
  let s := s.wr F.PEER_CFG_DIGEST_DIGEST 0 d
  if s.linked && s.rd F.PEER_STATUS_VERSION == 3 then
    (s.when s.pr.digestSeen (·.compareDigests)).hallwaySend 7 [s.rd F.PEER_CFG_DIGEST_DIGEST]
  else s

/-! Alignment (R320). -/

/-- STANDBY_ALIGNED (R320): |ē| has stayed within the tolerance for ALIGN_HOLD_S. -/
def State.standbyAligned (s : State) : State :=
  let d := s.timeDpll
  let tol : Int := (max 1 (min 1000 (s.peerRd F.PEER_TIMING_ALIGN_TOL_PS)) * 65536 : Nat)
  let onRoot := match (s.dpll d).recipe with
    | some r => r.root == s.peerRd F.PEER_CFG_STANDBY_ROOT
    | none => false
  if s.isStandby && s.dpSt d == 3 && onRoot && decide (|(s.dpll d).eBar| * 1000 ≤ tol) then s.wr F.PEER_STATUS_ALIGNED 0 1
  else s

/-! Switching (R324, R325). -/

/-- A request that never starts: its code is shown and told, and source 98 emitted. -/
def State.refuseSwitch (s : State) (origin code : Nat) (reply : Option Nat) : State :=
  let s := (s.wrAll [(F.PEER_SWITCH_STATUS_RESULT, 0, code), (F.PEER_SWITCH_STATUS_ORIGIN, 0, origin)]).info 98 uDEADBOLT 0 0 0
  match reply with
  | some a => s.adminDone a code []
  | none => s

/-- R324's readiness, as the active module judges it. -/
def State.switchReady (s : State) : Bool :=
  s.linkState == lkUP && s.rdB F.PEER_STATUS_HB_CURRENT && s.rd F.PEER_PARTNER_PAIR_STATE == psSTANDBY &&
    s.pr.partnerAligned && s.rdB F.PEER_PARTNER_CLAIM_EN && s.stage ≤ s.rd F.PEER_PARTNER_STAGE && s.backlog == 0 &&
    s.rdB F.PEER_STATUS_CFG_MATCH

/-- A switch is under way. -/
def State.beginSwitch (s : State) (w : SwitchReq) : State :=
  let s := { s with pr := { s.pr with switch := some w } }
  let s := s.wrAll [(F.PEER_SWITCH_STATUS_IN_PROGRESS, 0, 1), (F.PEER_SWITCH_STATUS_ORIGIN, 0, w.origin)]
  match w.reply with
  | some (a, _) => s.adminWait a
  | none => s

/-- t_s: the first decision-epoch boundary at least 1 ms from now. -/
def State.handoverTime (s : State) : Nat := (s.now + unitsPerMs + unitsPerEpoch - 1) / unitsPerEpoch * unitsPerEpoch

/-- The `ACTIVE` module accepts a switch: SWITCH_ACCEPT with t_s. -/
def State.acceptSwitch (s : State) (ident origin : Nat) (force : Bool) (reply : Option Nat) : State :=
  let t := s.handoverTime
  (s.beginSwitch { ident := ident, origin := origin, force := force, handover := some t, shut := true,
                   reply := reply.map fun a => (a, 0) }).hallwaySend 4 [ident, t96 t]

/-- A forced claim (R325): at once, without slot delay and confirm window; it ends `BLOCKED`. -/
def State.forceClaim (s : State) (origin : Nat) (reply : Option Nat) : State :=
  if s.stage < 2 || !s.inService uDEADBOLT then s.refuseSwitch origin acNOT_READY reply
  else
    let s := s.beginSwitch { ident := 0, origin := origin, force := true, handover := none, shut := false,
                             reply := reply.map fun a => (a, 0) }
    ({ s with pr := { s.pr with bySwitch := true } }).enterActive

/-- The SWITCH command (R324, R325): from an admin reel (`reply`) or from the register. -/
def State.switchRequest (s : State) (origin : Nat) (force : Bool) (reply : Option Nat) : State :=
  let up := s.linkState == lkUP
  let ident := s.pr.nextIdent
  let offer := fun (s : State) =>
    let s := { s with pr := { s.pr with nextIdent := ident + 1, bySwitch := true } }
    (s.beginSwitch { ident := ident, origin := origin, force := force, handover := none, shut := false,
                     reply := reply.map fun a => (a, 0) }).hallwaySend 3 [ident, b2n force]
  if s.isSole || (!force && !s.pr.everNegotiated) then s.refuseSwitch origin acNOT_PAIRED reply
  else if s.pr.switch.isSome then s.refuseSwitch origin acBUSY reply
  else if s.pairState == psACTIVE then
    if (force && up) || (!force && s.switchReady) then
      ({ s with pr := { s.pr with nextIdent := ident + 1 } }).acceptSwitch ident origin force reply
    else s.refuseSwitch origin acNOT_READY reply
  else if force && (s.pairState == psBLOCKED || !up) then s.forceClaim origin reply
  else if s.pairState == psSTANDBY && up then offer s
  else s.refuseSwitch origin acNOT_READY reply

/-- PEER_SWITCH_FORCE: the register form needs its key. -/
def State.switchForce (s : State) (key : Nat) : State := if key = 0x8416 then s.switchRequest 2 true none else s

/-- SWITCH_OFFER_RX (R324, R325). -/
def State.offerRx (s : State) (f : Hl) (ident : Nat) (force : Bool) : State :=
  let r := s.hallwayTake f 3
  if !r.2 || !s.linked then r.1
  else
    let s := r.1
    if s.pairState ≠ psACTIVE then s.hallwaySend 5 [ident, acNOT_READY]
    else if s.pr.switch.isSome then s.hallwaySend 5 [ident, acBUSY]
    else if force then
      ((s.beginSwitch { ident := ident, origin := 3, force := true, handover := some s.now, shut := true, reply := none })
        ).releaseClaim
    else if s.switchReady then s.acceptSwitch ident 3 false none
    else (s.refuseSwitch 3 acNOT_READY none).hallwaySend 5 [ident, acNOT_READY]

/-- SWITCH_ACCEPT_RX (R324): the standby learns t_s. -/
def State.acceptRx (s : State) (f : Hl) (ident t : Nat) : State :=
  let r := s.hallwayTake f 4
  if !r.2 || !s.linked || r.1.pairState == psACTIVE then r.1
  else
    let s := { r.1 with pr := { r.1.pr with bySwitch := true } }
    match s.pr.switch with
    | some w => { s with pr := { s.pr with switch := some { w with handover := some t } } }
    | none => s.beginSwitch { ident := ident, origin := 3, force := false, handover := some t, shut := false, reply := none }

/-- SWITCH_REFUSE_RX (R324). -/
def State.refuseRx (s : State) (f : Hl) (ident : Nat) : State :=
  let r := s.hallwayTake f 5
  if !r.2 || !s.linked then r.1
  else match r.1.pr.switch with
    | some w => if w.ident == ident && !w.shut then r.1.endSwitch acNOT_READY else r.1
    | none => r.1

/-- SWITCH_HANDOVER (R324): at t_s the active closes the shutter of every OUT. -/
def State.switchHandover (s : State) : State :=
  match s.pr.switch with
  | some w => if w.shut && w.handover.isSome && s.pairState == psACTIVE then
      ({ s with sy := { s.sy with handover := true } }).syncShutters
    else s
  | none => s

/-- Every OUT is static (R197). -/
def State.allStatic (s : State) : Bool :=
  (List.range 24).all fun n => !(s.outSt n).act.enable || (s.outSt n).static || s.outHighZ n

/-- The release of a handover at a decision epoch (R324). -/
def State.handoverRelease (s : State) : State :=
  if s.sy.handover && s.pairState == psACTIVE && s.allStatic then
    let s := s.releaseClaim
    { s with sy := { s.sy with handover := false } }
  else s

/-- SWITCH_TIMEOUT (R324): the partner has not claimed within 20 ms of t_s. -/
def State.switchTimeout (s : State) : State :=
  match s.pr.switch with
  | some w => if w.handover.isSome then s.endSwitch acNOT_READY else s
  | none => s

end Sys2Proof.Machine
end

