-- ==== Sys2Proof/Machine/UnitOps.lean ====
section
/-! DEFINITION. The unit operations (R31–R34, R84, R297, R374): what refuses them, what a reset, a retirement, an isolation
and a return to service do in each unit of Table 1.5. -/

namespace Sys2Proof.Machine

/-- Operation codes of UNIT_OP and GLOBAL_UNIT_CTRL. -/
def opSTATUS : Nat := 0
def opRESET : Nat := 1
def opRETIRE : Nat := 2
def opISOLATE : Nat := 3
def opRELEASE : Nat := 4
def opUNRETIRE : Nat := 5

/-! Refusals (R31, R33, R48, R79, R202, R326). -/

/-- The feed would be the last QUALIFIED one to go. -/
def State.lastFeed (s : State) (n u : Nat) : Bool :=
  s.feedState n == fsQUALIFIED && !(s.feedState (1 - n) == fsQUALIFIED && !isUnder (uFEED (1 - n)) u)

/-- The oscillator is the present base, and the other cannot become the base at once. -/
def State.lastBase (s : State) (osc u : Nat) : Bool :=
  (s.base == if osc == 1 then 2 else 1) &&
    !(if osc == 1 then s.tcxoQual && !isUnder uTCXO u else s.ocxoQual && s.ocxoWarm && !isUnder uOCXO u)

/-- A leaf's own refusal of an operation on unit u by a master, as a code of Table 12.14; 0 for none. -/
def State.leafRefuses (s : State) (op u leaf m : Nat) : Nat :=
  let out := op == opRETIRE || op == opISOLATE
  if out && ownUnit m == some leaf then 0x0F
  else if out && leaf == uAPLL 0 then 0x0D
  else if (out || op == opRESET) && leaf == uOCXO && s.lastBase 1 u then 0x0D
  else if (out || op == opRESET) && leaf == uTCXO && s.lastBase 0 u then 0x0D
  else if out && (leaf == uFEED 0 || leaf == uFEED 1) && s.lastFeed (leaf - uFEED 0) u then 0x0D
  else if (out || op == opRESET) && leaf == uDEADBOLT && s.claims then 0x0D
  else 0

/-- The code with which an operation on a unit is refused, 0 for none (R30–R34). -/
def State.opRefused (s : State) (op u m : Nat) : Nat :=
  if 5 < op then 0x02
  else if !unitExists u then 0x0A
  else if op = opSTATUS then 0
  else if u == uPAIR || u == uPARTNER then 0x0C
  else if (op == opRELEASE || op == opUNRETIRE) && s.heldByGroup u then 0x0B
  else if op == opUNRETIRE && s.un.retired.contains u && !s.un.resetSince.contains u then 0x0E
  else ((unitLeaves u).map fun l => s.leafRefuses op u l m).find? (· != 0) |>.getD 0

/-! Within each unit. -/

/-- Results of the last epoch that have not taken effect are dropped for a unit that starts anew: its register fields (a
range of field numbers, at its index), its DPLL's transition, its records. -/
def State.dropDeferred (s : State) (lo hi idx unit : Nat) (d : Option Nat) : State :=
  let stays := fun e : Eff => match e with
    | .reg k _ => !(lo ≤ k / 65536 && k / 65536 ≤ hi && k % 65536 == idx)
    | .info _ u _ => u != unit
    | .fault _ u _ _ => u != unit
    | .dpll x _ _ => some x != d
    | _ => true
  { s with ep := { s.ep with effects := s.ep.effects.filter stays } }

/-- The counter stops and is to be started from the porch again (Table 3.10). -/
def State.stopCounter (s : State) : State :=
  let s := s.wrAll [(F.TIME_STATUS_VALID, 0, 0), (F.TIME_VOTE_STATUS_NO_MAJORITY, 0, 0)]
  { s with tm := { s.tm with running := false, lost := false } }

/-- An output loop loses its lock with a reset of its unit (Table 3.10, Table 8.6 cause 5). -/
def State.dropLoop (s : State) (a : Nat) : State :=
  let s := (s.keepRealign a).wr F.APLL_STATUS_LOCKED a 0
  (s.setLoop a { s.loopSt a with origin := none, baseLost := false })

/-- An oscillator leaves service as base: the other takes over (R78, R79). -/
def State.leaveBase (s : State) (osc : Nat) : State :=
  if osc == 1 then (if s.base == 2 then s.ocxoLost else s) else (if s.base == 1 then s.tcxoLost else s)

/-- A reset of an oscillator's unit (R69, R70, R79): it requalifies. A retired one starts again when it is un-retired. -/
def State.oscReset (s : State) (osc : Nat) : State :=
  let s := ((s.leaveBase osc).disqualify osc).wr (attemptField osc) 0 0
  if s.oscBit osc 3 then s.backInService (oscUnit osc) else s.startAttempt osc

/-- The unit of an event destination or channel counts a take's loss (Table 4.8). -/
def State.takesIncomplete (s : State) (c : Nat) : State :=
  State.forAll 4 (fun k u =>
    let x := u.take k
    let mine := (takeChannels x.pairs x.startCh x.stopCh x.mask).contains c
    if u.rd F.TAKE_STATUS_STATE k = 2 && mine then u.wr F.TAKE_STATUS_INCOMPLETE k 1 else u) s

/-- What a reset does inside one leaf at its commit time (R31, R84, Table 3.10 and the rule of each unit). Configuration
registers keep their values (log 36). -/
def State.leafReset (s : State) (u : Nat) : State :=
  let i := u % 256
  let s := s.holdReset u
  if 0x100 ≤ u && u < 0x11C then ((s.takesIncomplete i).restartGates i).startChannel i
  else if 0x120 ≤ u && u < 0x124 then s.estStop (u - 0x120)
  else if u / 256 == 2 then (s.dropDeferred 187 209 i u none).qmReset i
  else if u / 256 == 3 then (s.dropDeferred 235 271 i u none).clearNode i
  else if u / 256 == 4 then (s.dropDeferred 272 340 i u (some i)).wr F.DP_STATUS_LOCKSTEP_HELD i 0
  else if u == uAPLL 0 then s.baseUnlock
  else if 0x501 ≤ u && u < 0x505 then s.dropLoop i
  else if u == uTCOUNT then s.stopCounter
  else if 0x610 ≤ u && u < 0x614 then { s with tm := { s.tm with pps := s.tm.pps.erase (u - 0x610) } }
  else if 0x620 ≤ u && u < 0x622 then { s with tm := { s.tm with tod := s.tm.tod.erase (u - 0x620) } }
  else if 0x628 ≤ u && u < 0x62A then { s with tm := { s.tm with todo := s.tm.todo.erase (u - 0x628) } }
  else if u == uMERGER then { s with ev := { s.ev with held := [], lastKey := none } }
  else if 0x700 ≤ u && u < 0x708 then (s.disconnect (6 + i)).portReset i
  else if 0x810 ≤ u && u < 0x820 then s.pkReset (u - 0x810)
  else if u == uPCIE then (s.disconnect 3).pcieReset
  else if 0x911 ≤ u && u < 0x920 then s.vfReset (u - 0x910)
  else if u == uSMBUS then s.openBytes 16
  else if u == uHALLWAY then (s.disconnect 5).hallwayReset
  else if u == uDEADBOLT then
    { s with pr := { s.pr with slotDelay := false, confirm := false, conflictHold := false, reclaiming := false } }
  else if u == uFEED 0 || u == uFEED 1 then
    let n := u - uFEED 0
    let s := s.setFeed n { s.feed n with history := [], heldFaulted := false }
    if s.feedState n == fsFAULTED then (s.wr F.FEED_STATUS_OC n 0).feedGoes n fsQUALIFYING else s
  else if u == uOCXO then s.oscReset 1
  else if u == uTCXO then s.oscReset 0
  else s

/-- What leaving service brings with it in one leaf: by a retire mark, or by an isolate mark. -/
def State.leafOut (s : State) (u : Nat) (retire : Bool) : State :=
  let i := u % 256
  if u / 256 == 2 then (if retire then s.qmUnitRetire i else s)
  else if u == uTCOUNT then s.stopCounter
  else if 0x700 ≤ u && u < 0x708 then (if retire then s else s.disconnect (6 + i)).portReset i
  else if u == uPCIE then ((if retire then s else s.disconnect 3).pcieReset).linkGone
  else if 0x911 ≤ u && u < 0x920 then s.vfReset (u - 0x910)
  else if u == uHALLWAY then (if retire then s else s.disconnect 5).hallwayReset
  else if u == uFEED 0 || u == uFEED 1 then
    let n := u - uFEED 0
    let s := s.when (s.feedState 0 == fsTESTING || s.feedState 1 == fsTESTING) (·.abortTest)
    if s.feedState n == fsOFF then s else (s.feedGoes n fsOFF).checkFeeds
  else if u == uOCXO then ((s.leaveBase 1).disqualify 1).when retire (·.setOscBit 1 3 true)
  else if u == uTCXO then ((s.leaveBase 0).disqualify 0).when retire (·.setOscBit 0 3 true)
  else s

/-- What the return to service brings with it in one leaf, once no mark stands over it. -/
def State.leafBack (s : State) (u : Nat) : State :=
  let i := u % 256
  if u / 256 == 2 then s.qmUnretire i
  else if u / 256 == 4 then s.dpAfterReset i
  else if u == uFEED 0 || u == uFEED 1 then s.when (s.feedState (u - uFEED 0) == fsOFF && s.rdB F.FEED_CFG_ENABLE (u - uFEED 0))
    (·.feedGoes (u - uFEED 0) fsQUALIFYING)
  else if u == uOCXO then ((s.setOscBit 1 3 false).wr (attemptField 1) 0 0).startAttempt 1
  else if u == uTCXO then ((s.setOscBit 0 3 false).wr (attemptField 0) 0 0).startAttempt 0
  else s

/-- What follows for the rest of the module when units come or go: shutters, bridge pairs, the pair state. -/
def State.afterUnits (s : State) : State :=
  (State.forAll 4 (fun b t => t.bridgeReview b) s.syncShutters).pairReview

/-- A reset of a unit (R31, R84, R335): every leaf beneath it at one commit time; latch entries of it and its descendants
are cleared but the one kept by the reaction that issued it. -/
def State.unitReset (s : State) (u : Nat) (keep : Option Nat) : State :=
  let s := s.noteReset u
  let s := if isGroup u then { s with un := { s.un with groupResets := u :: s.un.groupResets.filter (· != u) } } else s
  let s := (unitLeaves u).foldl (fun t l => t.leafReset l) s
  (s.clearLatchesUnder u keep).afterUnits

/-- The leaves of a unit over which no mark stands. -/
def State.freeLeaves (s : State) (u : Nat) : List Nat := (unitLeaves u).filter fun l => !s.isRetired l && !s.isIsolated l

/-- A mark is set on a unit (R31): each leaf that no mark held before leaves service. -/
def State.unitMark (s : State) (u : Nat) (retire : Bool) : State :=
  let ls := if retire then (unitLeaves u).filter fun l => !s.isRetired l else s.freeLeaves u
  let s := if retire then s.markRetired u else s.markIsolated u
  (ls.foldl (fun t l => t.leafOut l retire) s).afterUnits

/-- A mark is cleared (R31): each leaf over which no mark is left returns to service. -/
def State.unitUnmark (s : State) (u : Nat) (retire : Bool) : State :=
  let had := if retire then s.un.retired.contains u else s.un.isolated.contains u
  let s := if retire then s.clearRetired u else s.clearIsolated u
  if had then ((s.freeLeaves u).foldl (fun t l => t.leafBack l) s).afterUnits else s

/-- UNIT_BACK_IN_SERVICE (R84, Table 3.10): a leaf's hold and restart are over. An oscillator returns with its
qualification, not here; PCIE with its link down waits for READY. -/
def State.unitBack (s : State) (u : Nat) : State :=
  if !s.isResetting u || u == uOCXO || u == uTCXO then s
  else
    let s := s.backInService u
    let gs := s.un.groupResets.filter fun g => (unitLeaves g).any s.isResetting
    let s := { s with un := { s.un with groupResets := gs } }
    let s := if u / 256 == 4 && !s.isRetired u && !s.isIsolated u then s.dpAfterReset (u % 256) else s
    s.afterUnits

/-! Operations. -/

/-- A QMON operation that changes the retire list (R128): whether the monitor joins or leaves it. -/
def State.listChange (s : State) (op u : Nat) : Option Bool :=
  if u / 256 == 2 && isLeaf u then
    if op == opRETIRE && s.rdB F.QUAL_RETIRE_CFG_PERSIST && !s.ql.list.contains (u % 256) then some true
    else if op == opUNRETIRE && s.ql.list.contains (u % 256) then some false
    else none
  else none

/-- One operation carried out on a unit that does not refuse it. `who` is the requester of R128 that awaits a commit. -/
def State.unitDo (s : State) (op u : Nat) (who : Option Nat) : State :=
  let change := s.listChange op u
  let s := if op == opRESET then s.unitReset u none
    else if op == opRETIRE then s.unitMark u true
    else if op == opISOLATE then s.unitMark u false
    else if op == opRELEASE then s.unitUnmark u false
    else if op == opUNRETIRE then s.unitUnmark u true
    else s
  match change with
  | none => s
  | some on_ =>
    let s := match who with
      | some w => { s with un := { s.un with awaiting := s.un.awaiting ++ [(w, u, false)] } }
      | none => s
    s.listRetire (u % 256) on_

/-- An operation reaches the master's own unit by a reset, and takes effect 1 ms later (R297, R374). -/
def ownReset (op u m : Nat) : Bool := op == opRESET && match ownUnit m with
  | some x => isUnder x u
  | none => false

/-- An operation by a master: the state after it, its code of Table 12.14, the status it reports (R32), and whether its
completion awaits a commit. -/
def State.unitOp (s : State) (op u m : Nat) (who : Option Nat) : State × Nat × Nat × Bool :=
  let code := s.opRefused op u m
  if code ≠ 0 then (s, code, s.unitStatus u, false)
  else if ownReset op u m then
    ({ s with un := { s.un with deferred := s.un.deferred ++ [(u, m)] } }, 0, stRESETTING, false)
  else
    let waits := (s.listChange op u).isSome
    let t := s.unitDo op u who
    (t, 0, if op == opRESET then stRESETTING else t.unitStatus u, waits)

/-- OWN_UNIT_RESET (R297, R374): a reset that reaches the master's own unit takes effect, 1 ms after its result. -/
def State.ownUnitReset (s : State) : State :=
  match s.un.deferred with
  | [] => s
  | (u, m) :: l =>
    let s := { s with un := { s.un with deferred := l } }
    if s.opRefused opRESET u m = 0 then s.unitReset u none else s

/-- A write of GLOBAL_UNIT_CTRL.GO by the master of a bank (R374). -/
def State.unitCtrl (s : State) (bank op u : Nat) : State :=
  if s.rdB F.GLOBAL_UNIT_RESULT_BUSY bank then s.wr F.GLOBAL_UNIT_RESULT_CODE bank 0x09
  else
    let p := s.unitOp op u (bankMaster bank) (some bank)
    let t := p.1
    if p.2.2.2 then t.wrAll [(F.GLOBAL_UNIT_RESULT_BUSY, bank, 1)]
    else t.wrAll [(F.GLOBAL_UNIT_RESULT_CODE, bank, p.2.1),
      (F.GLOBAL_UNIT_RESULT_UNIT_STATUS, bank, if unitExists u then p.2.2.1 else 0xFF)]

end Sys2Proof.Machine
end

