-- ==== Sys2Proof/Machine/FaultOps.lean ====
section
/-! DEFINITION. The fault collector's commands (R330, R332, R336–R342): causes and broken pairs, acknowledgement and
escalation, the operation and completion of a reaction, settle windows, the error pins, injection. -/

namespace Sys2Proof.Machine

/-- The numbers of fault sources that exist beside source 0 (Table 14.1). -/
def isFaultSource (n : Nat) : Bool := 1 ≤ n && n ≤ 52

/-- FAULT_CAUSE (R330): a detector raises source 1–52 at a unit, with its items. Its cause lies in no access of a master. -/
def State.faultCause (s : State) (source unit itemA itemB : Nat) : State :=
  if isFaultSource source then s.fault source unit itemA itemB else s

/-- A pair breaks (R330): its source is raised at its unit with WIRE, and source 0; once per break. -/
def State.breakPair (s : State) (source unit : Nat) (injected : Bool) : State :=
  if s.flt.broken.contains (source, unit) then s
  else
    let s := { s with flt := { s.flt with broken := (source, unit) :: s.flt.broken } }
    let s := s.bump F.FLT_WIRE_COUNT_COUNT
    (s.raise { source := source, unit := unit, wire := true, injected := injected }).fault 0 uMODULE source 0

/-- A pair reads valid again. -/
def State.mendPair (s : State) (source unit : Nat) : State :=
  { s with flt := { s.flt with broken := s.flt.broken.filter (· != (source, unit)) } }

/-- FAULT_WIRE (R330): a pair reads equal legs for 10 ns, or has read valid for 1 µs again. -/
def State.faultWire (s : State) (source unit : Nat) (broken : Bool) : State :=
  if !isFaultSource source then s
  else if broken then s.breakPair source unit false
  else if s.flt.injectBroken == some (source, unit) then s else s.mendPair source unit

/-- SRAM_SCRUB (R332): an ECC error at a byte address; a double one is left as found. -/
def State.sramScrub (s : State) (addr : Nat) (double : Bool) : State :=
  if double then s.fault 1 uMODULE addr 0 else s.faultOnce 48 uMODULE addr 0

/-- FAULT_ACK (R336): the entry's timer stops if it is running and E has not passed. -/
def State.faultAck (s : State) (k : Nat) : State :=
  match Tab.find s.flt.latches k with
  | some l => match l.graceEnd with
    | some e => if s.now ≤ e then s.putLatch k { l with graceEnd := none, acked := true } else s
    | none => s
  | none => s

/-- GRACE_EXPIRY (R336): an entry's timer expires unacknowledged: source 102 at E, and the reaction with cause time E. -/
def State.graceExpiry (s : State) (k : Nat) : State :=
  match Tab.find s.flt.latches k with
  | some l => match l.graceEnd with
    | some e =>
      let s := s.putLatch k { l with graceEnd := none, escalated := true }
      let s := (s.bump F.FLT_ESCALATIONS_COUNT).infoAt e 102 l.unit 0
      s.startReaction l.source l.unit k e
    | none => s
  | none => s

/-! Reactions (R337, R339). -/

/-- The unit that a reaction's operation names: the fault's, or its parent for ACTION 2, or the module for a full reset. -/
def Reaction.names (r : Reaction) : Nat :=
  if r.action = 2 then (unitParent r.unit).getD r.unit else if r.action = 4 then uMODULE else r.unit

/-- The record of a reaction's start or completion (R385). -/
def State.reactionRecord (s : State) (r : Reaction) (stop : Nat) : State :=
  s.infoAt s.now 103 r.names (r.source * 2 ^ 88 + stop * 2 ^ 80 + r.action * 2 ^ 72 + (if stop = 0 then 0xFF else r.code) * 2 ^ 64)

/-- OUT0–OUT23 are isolated until the host releases them (R337). -/
def State.shutterAll (s : State) : State :=
  (State.forAll 24 (fun n t => if t.un.isolated.contains (uOUT n) then t else t.unitMark (uOUT n) false) s).syncShutters

/-- A reaction completes (R337, R339): source 103, and its window runs on for SETTLE. -/
def State.finishReaction (s : State) (r : Reaction) : State :=
  let s := s.reactionRecord r 1
  let close := fun w : Window =>
    if w.source = r.source ∧ w.entry = r.entry ∧ w.start = r.cause ∧ w.stop = none then { w with stop := some (s.now + w.settle) } else w
  { s with flt := { s.flt with reactions := s.flt.reactions.filter (· != r), windows := s.flt.windows.map close } }

/-- The oldest reaction that satisfies a condition. -/
def State.oldestReaction (s : State) (p : Reaction → Bool) : Option Reaction := s.flt.reactions.reverse.find? p

/-- REACTION_OPERATION (R337): at its tick the oldest reaction not yet applied shutters the outputs and carries out its
unit operation as master 19; an isolation, a refusal and ACTION 0 complete it at once. -/
def State.reactionOperation (s : State) : State :=
  match s.oldestReaction fun r => !r.applied with
  | none => s
  | some r =>
    let s := (s.reactionRecord r 0).lifeBump 11 1
    let s := s.when r.shutter (·.shutterAll)
    if r.action = 4 then
      { s with hs := { s.hs with resetDue := some 3 }
               flt := { s.flt with reactions := s.flt.reactions.map fun x => if x = r then { x with applied := true, code := 0 } else x } }
    else
      let op := if r.action = 3 then opISOLATE else if r.action = 0 then opSTATUS else opRESET
      let code := if r.action = 0 then 0 else s.opRefused op r.names 19
      let s := s.when (code != 0) (·.wr F.FLT_REACT_STATUS_REFUSED 0 1)
      let s := if code ≠ 0 || r.action = 0 then s
        else if op == opRESET then s.unitReset r.names (some r.entry)
        else s.unitDo op r.names none
      let done := { r with applied := true, code := code }
      let s := { s with flt := { s.flt with reactions := s.flt.reactions.map fun x => if x = r then done else x } }
      if op == opRESET && code = 0 then s else s.finishReaction done

/-- REACTION_COMPLETE (R337): a reaction's unit is back in service. -/
def State.reactionComplete (s : State) : State :=
  match s.oldestReaction fun r => r.applied && r.action != 4 && (unitLeaves r.names).all fun u => !s.isResetting u with
  | none => s
  | some r => s.finishReaction r

/-- SETTLE_WINDOW_END (R339): windows whose end has come close. -/
def State.settleEnd (s : State) : State :=
  let stays := fun w : Window => match w.stop with
    | some e => s.now < e
    | none => true
  { s with flt := { s.flt with windows := s.flt.windows.filter stays } }

/-- ERR_TOGGLE (R340): every 500 µs while not in fault with HEARTBEAT = 1. -/
def State.errToggle (s : State) : State :=
  if s.errFault || !s.rdB F.FLT_CFG_HEARTBEAT then s else { s with flt := { s.flt with errPhase := !s.flt.errPhase } }

/-- ERR_N and ERR_P as driven (R340). -/
def State.errPins (s : State) : Bool × Bool :=
  if s.errFault then (false, true)
  else if s.rdB F.FLT_CFG_HEARTBEAT then (s.flt.errPhase, !s.flt.errPhase)
  else (true, false)

/-! Injection (R342). -/

/-- The record and count of an injection. -/
def State.injected (s : State) (unit : Nat) : State := (s.bump F.FLT_INJECT_STATUS_COUNT).info 107 unit 0 0 0

/-- FAULT_INJECT (R342): GO raises the selected source at its unit. -/
def State.injectGo (s : State) : State :=
  let src := s.rd F.FLT_INJECT_SEL_SOURCE
  let unit := s.rd F.FLT_INJECT_SEL_UNIT
  if !s.testMode || !isFaultSource src then s
  else (s.injected unit).raise { source := src, unit := unit, injected := true }

/-- FAULT_INJECT_BREAK (R342): BREAK holds the selected pair broken until it is written 0. -/
def State.injectBreak (s : State) (on_ : Bool) : State :=
  if !s.testMode then s
  else
    let s := s.wrB F.FLT_INJECT_CTRL_BREAK 0 on_
    if on_ then
      let p := (s.rd F.FLT_INJECT_SEL_SOURCE, s.rd F.FLT_INJECT_SEL_UNIT)
      if !isFaultSource p.1 || s.flt.injectBroken.isSome then s
      else ({ s.injected p.2 with flt := { (s.injected p.2).flt with injectBroken := some p } }).breakPair p.1 p.2 true
    else match s.flt.injectBroken with
      | some p => { s.mendPair p.1 p.2 with flt := { (s.mendPair p.1 p.2).flt with injectBroken := none } }
      | none => s

/-- Factory test mode ends (R380): a pair held broken is released and BREAK is 0. -/
def State.leaveTestMode (s : State) : State :=
  if s.testMode then (s.injectBreak false).wr F.IDENT_FUSE_TEST_MODE 0 0 else s

end Sys2Proof.Machine
end

