-- ==== Sys2Proof/Machine/Ident.lean ====
section
/-! DEFINITION. Identity, factory test mode, the field fuse and the service port's TAP (R376–R381). -/

namespace Sys2Proof.Machine

/-- Fields of the IDENTITY record, by the numbers that `Config.identityField` knows them by (log 29): 0–1 lot, 2 wafer, 3 and
4 die X and Y, 5 variant, 6 year, 7 week, 8–11 module serial, 12–15 OCXO serial, 16 clockIdentity. -/
def identField (n : Nat) (p : List Nat) : Nat := Config.identityField n p

/-- The lot, wafer and die fields of the record agree with the fuses (R376). -/
def State.dieMatches (s : State) (p : List Nat) : Bool :=
  identField 0 p == s.rd F.IDENT_LOT_CHARS 0 && identField 1 p == s.rd F.IDENT_LOT_CHARS 1 &&
    identField 2 p == s.rd F.IDENT_DIE_WAFER && identField 3 p == s.rd F.IDENT_DIE_DIE_X &&
    identField 4 p == s.rd F.IDENT_DIE_DIE_Y

/-- The fallback clockIdentity (R377). -/
def State.fallbackId (s : State) : Nat :=
  let lot := beBytes 4 (s.rd F.IDENT_LOT_CHARS 0) ++ beBytes 4 (s.rd F.IDENT_LOT_CHARS 1)
  0x02 * 2 ^ 56 + s.rd F.IDENT_DIE_WAFER * 2 ^ 48 + crc32c lot % 2 ^ 24 * 2 ^ 24 +
    s.rd F.IDENT_DIE_DIE_X % 256 * 2 ^ 16 + s.rd F.IDENT_DIE_DIE_Y % 256 * 2 ^ 8

/-- Four characters as a register word, the first in bits [31:24] (R382). -/
def charWord (l : List Nat) : Nat := beNat ((l ++ [0x20, 0x20, 0x20, 0x20]).take 4)

/-- The model's name by variant; the spec gives none for variant 0, whose words are free values (log 10). -/
def State.modelWord (s : State) (v w : Nat) : Nat :=
  let name := if v = 1 then some "VT8416-OA" else if v = 2 then some "VT8416-OX" else none
  match name with
  | some t => charWord ((t.toList.map fun c => c.toNat).drop (4 * w))
  | none => s.freeNat / 2 ^ (32 * w) % 2 ^ 32

/-- The registers that the record holds, or spaces and zeros where it is not used (R376). -/
def State.recordFields (s : State) (p : Option (List Nat)) : State :=
  let f := fun n : Nat => (p.map (identField n)).getD (if n < 8 then 0 else 0x20202020)
  let v := f 5
  let s := s.wrAll [(F.IDENT_PART_VARIANT, 0, v), (F.IDENT_DATE_YEAR, 0, f 6), (F.IDENT_DATE_WEEK, 0, f 7)]
  let s := State.forAll 4 (fun w t => t.wrAll [(F.IDENT_MODULE_SN_CHARS, w, f (8 + w)), (F.IDENT_OCXO_SN_CHARS, w, f (12 + w))]) s
  (State.forAll 3 (fun w t => t.wr F.IDENT_MODEL_CHARS w (s.modelWord v w)) s).drawn

/-- IDENT_CHECK: CRC-32C over IDENT + 0x00 to 0x47, register by register, most significant byte first (log 12). -/
def State.identCrc (s : State) : Nat :=
  let word := fun fs i => beBytes 4 (s.regRaw fs i)
  crc32c (word [F.IDENT_PART_STEPPING, F.IDENT_PART_VARIANT, F.IDENT_PART_PART] 0 ++ word [F.IDENT_VENDOR_PCI_VENDOR] 0 ++
    word [F.IDENT_JTAG_ID_ONE, F.IDENT_JTAG_ID_MANUFACTURER, F.IDENT_JTAG_ID_PART, F.IDENT_JTAG_ID_VERSION] 0 ++
    word [F.IDENT_LOT_CHARS] 0 ++ word [F.IDENT_LOT_CHARS] 1 ++
    word [F.IDENT_DIE_DIE_Y, F.IDENT_DIE_DIE_X, F.IDENT_DIE_WAFER] 0 ++ word [F.IDENT_DATE_WEEK, F.IDENT_DATE_YEAR] 0 ++
    (List.range 4).flatMap (word [F.IDENT_MODULE_SN_CHARS]) ++ (List.range 4).flatMap (word [F.IDENT_OCXO_SN_CHARS]) ++
    (List.range 3).flatMap (word [F.IDENT_MODEL_CHARS]))

/-- The IDENTITY record is read at the step from Stage 0 to Stage 1 (R376, R377). -/
def State.loadIdentity (s : State) : State :=
  let empty := match recType rtIDENTITY with
    | some r => (s.chooseCopy r 0).bothEmpty
    | none => true
  let p := s.useRecord rtIDENTITY 0
  let s := p.1
  let rcd := fun (t : State) (found match_ fallback conflict : Bool) (seq : Nat) =>
    t.wrAll [(F.IDENT_RECORD_FOUND, 0, b2n found), (F.IDENT_RECORD_MATCH, 0, b2n match_), (F.IDENT_RECORD_FALLBACK, 0, b2n fallback),
             (F.IDENT_RECORD_CONFLICT, 0, b2n conflict), (F.IDENT_RECORD_SEQ, 0, seq)]
  let s := match p.2 with
    | some x =>
      if s.dieMatches x.payload then
        let s := rcd (s.recordFields (some x.payload)) true true false x.conflict x.seq
        { s with id_ := { s.id_ with clockId := identField 16 x.payload % 2 ^ 64 } }
      else
        let s := (rcd (s.recordFields none) true false true x.conflict x.seq).atticFault 49 0 rtIDENTITY
        { s with id_ := { s.id_ with clockId := s.fallbackId } }
    | none =>
      let s := rcd (s.recordFields none) false false true false 0
      let s := s.when empty (·.atticFault 49 0 rtIDENTITY)
      { s with id_ := { s.id_ with clockId := s.fallbackId } }
  s.wr F.IDENT_CHECK_CRC 0 s.identCrc

/-! Factory test mode and the fuse (R380, R381). -/

/-- The field fuse is intact. -/
def State.fuseIntact (s : State) : Bool := !s.rdB F.IDENT_FUSE_FIELD_BLOWN

/-- BAR0 offset of IDENT_TEST_CTRL. -/
def testCtrlAddr : Nat := 0x140050

/-- A write with ENTER = 1 and a KEY (R380), and its outcome. -/
def State.testModeTry (s : State) (m key : Nat) : State × Nat :=
  if s.rdB F.IDENT_FUSE_FUSE_BUSY || key ≠ 0x8416 then (s, ocOK)
  else if s.fuseIntact && s.rdB F.IDENT_FUSE_TEST_EN then (s.wr F.IDENT_FUSE_TEST_MODE 0 1, ocOK)
  else (s.noteLocked m testCtrlAddr 2, ocLOCKED)

/-- TEST_MODE_ENTER (R380): by master m. -/
def State.testModeEnter (s : State) (m key : Nat) : State :=
  let p := s.testModeTry m key
  p.1.outcome m p.2 testCtrlAddr

/-- FUSE_BLOW (R381): a write with BLOW = 1 and a KEY in factory test mode starts the programming. -/
def State.fuseBlow (s : State) (key : Nat) : State :=
  if s.rdB F.IDENT_FUSE_FUSE_BUSY || key ≠ 0x8416 || !s.testMode then s else s.wr F.IDENT_FUSE_FUSE_BUSY 0 1

/-- TAP_RESET (R379): the instruction register returns to its reset value; the TAP only. -/
def State.tapReset (s : State) : State := s.wr F.IDENT_SP_STATUS_INSTRUCTION 0 0xFF

/-- FUSE_BLOW_DONE (R381): the fuse is blown, test mode ends, the service port closes. -/
def State.fuseBlowDone (s : State) : State :=
  if s.rdB F.IDENT_FUSE_FUSE_BUSY then
    (s.leaveTestMode.wrAll [(F.IDENT_FUSE_FUSE_BUSY, 0, 0), (F.IDENT_FUSE_FIELD_BLOWN, 0, 1)]).tapReset
  else s

/-! The TAP (R379). -/

/-- The service port works: the fuse is intact, and the module is not in Stage 0. -/
def State.portOpen (s : State) : Bool := s.fuseIntact && s.stage != 0

/-- The 1-bit bypass register: a 0 captured, then the bits shifted in, each one place late. -/
def State.tapBypass (s : State) (code : Nat) (shift : List Bool) : State :=
  if s.portOpen then (s.wr F.IDENT_SP_STATUS_INSTRUCTION 0 code).emitOut (.tdo ((false :: shift).take shift.length)) else s

/-- The boundary-scan register: the levels at the pins are captured and shifted out, and the bits shifted in stay in it. -/
def State.tapScan (s : State) (code : Nat) (pins shift : List Bool) : State :=
  if s.portOpen then
    let s := (s.wr F.IDENT_SP_STATUS_INSTRUCTION 0 code).emitOut (.tdo ((pins ++ shift).take shift.length))
    { s with id_ := { s.id_ with boundary := (pins ++ shift).drop shift.length } }
  else s

/-- EXTEST (R379): boundary scan in factory test mode, BYPASS otherwise. -/
def State.tapExtest (s : State) (pins shift : List Bool) : State :=
  if s.testMode then s.tapScan 0x00 pins shift else s.tapBypass 0x00 shift

/-- IDCODE: IDENT_JTAG_ID, least significant bit first. -/
def State.tapIdcode (s : State) : State :=
  if s.portOpen then
    let w := s.regRaw [F.IDENT_JTAG_ID_ONE, F.IDENT_JTAG_ID_MANUFACTURER, F.IDENT_JTAG_ID_PART, F.IDENT_JTAG_ID_VERSION] 0
    (s.wr F.IDENT_SP_STATUS_INSTRUCTION 0 0x02).emitOut (.tdo ((List.range 32).map (bitOf w)))
  else s

end Sys2Proof.Machine
end

