-- ==== Sys2Proof/Machine/Admin.lean ====
section
/-! DEFINITION. The admin reels (R293–R299): how one is set up, and what each command of Table 12.13 does. A command's
operation acts on the admin reel it names, and only while the command at the front of that reel is the one it stands
for. -/

namespace Sys2Proof.Machine

/-! Codes of Table 12.14 beside those the other parts use. -/
def adOK : Nat := 0x00
def adBAD_OPCODE : Nat := 0x01
def adBAD_PARAM : Nat := 0x02
def adBAD_SIZE : Nat := 0x03
def adNO_VERSION : Nat := 0x04
def adNO_FORMAT : Nat := 0x05
def adNOT_NEGOTIATED : Nat := 0x06
def adIN_USE : Nat := 0x07
def adNO_REEL : Nat := 0x08
def adBUSY : Nat := 0x09
def adNOT_FOUND : Nat := 0x10
def adSHORT_BUFFER : Nat := 0x11
def adTOO_LONG : Nat := 0x12
def adREAD_ONLY : Nat := 0x13
def adDMA_ERROR : Nat := 0x14

/-! Setting a reel up (ADMIN_CFG, ADMIN_STATUS). -/

/-- A ring address from its two registers. -/
def State.ringAddr (s : State) (lo hi : Fld) (a : Nat) : Nat := s.rd lo a + s.rd hi a * 2 ^ 32

/-- An admin reel stops: at once, or after the command in progress. -/
def State.adminStop (s : State) (a : Nat) : State :=
  match s.reel? (160 + a) with
  | none => s
  | some x =>
    if x.reason = 0 && s.hs.waiting.contains a then
      { s with hs := { s.hs with stopping := s.hs.stopping.filter (· != a) ++ [a] } }
    else (s.forgetReplies a).destroyReel (160 + a)

/-- An admin reel starts, or is refused with `BAD_SIZE` or `BAD_PARAM`. -/
def State.adminStart (s : State) (a : Nat) : State :=
  let log := s.rd F.ADMIN_CFG_SIZE_LOG a
  let sq := s.ringAddr F.ADMIN_SQ_LO_ADDR F.ADMIN_SQ_HI_ADDR a
  let cq := s.ringAddr F.ADMIN_CQ_LO_ADDR F.ADMIN_CQ_HI_ADDR a
  if log < 4 || 12 < log then s.wr F.ADMIN_STATUS_RESULT a 2
  else if sq % 4096 ≠ 0 || cq % 4096 ≠ 0 then s.wr F.ADMIN_STATUS_RESULT a 3
  else (s.wr F.ADMIN_STATUS_RESULT a 1).createReel (160 + a)
    { size := 2 ^ log, vector := min 127 (s.rd F.ADMIN_CFG_VECTOR a), ring := sq, cring := cq }

/-- ADMIN_ENABLE (R293): ADMIN_CFG of reel a takes a value. Before READY the reel is not enabled (R280). -/
def State.adminCfgWrite (s : State) (a value : Nat) : State :=
  let on_ := bitOf value 31
  let live := (s.reel? (160 + a)).isSome
  let s := s.wr F.ADMIN_CFG_VECTOR a (bitsOf value 16 8)
  let s := s.when (!live) (·.wr F.ADMIN_CFG_SIZE_LOG a (bitsOf value 0 4))
  if !on_ then (s.wr F.ADMIN_CFG_ENABLE a 0).adminStop a
  else if live then
    (s.wr F.ADMIN_CFG_ENABLE a 1).modReel (160 + a) fun x => { x with vector := min 127 (bitsOf value 16 8) }
  else if !s.hostReady || !s.inService uPCIE then s
  else (s.wr F.ADMIN_CFG_ENABLE a 1).adminStart a

/-! The command at the front of an admin reel (Table 12.11). -/

/-- Its opcode. -/
def TxDesc.opcode (d : TxDesc) : Nat := bitsOf d.bits 504 8

/-- Parameter word i. -/
def TxDesc.param (d : TxDesc) (i : Nat) : Nat := bitsOf d.bits (320 - 32 * i) 32

/-- A reserved field of the command is not 0. -/
def TxDesc.adminReserved (d : TxDesc) : Bool := bitsOf d.bits 497 7 ≠ 0 || bitsOf d.bits 480 16 ≠ 0

/-- The opcode exists in the command set in force (R294). -/
def State.opcodeKnown (s : State) (op : Nat) : Bool :=
  (1 ≤ op && op ≤ 9) || ((op == 0x0A || op == 0x0B) && s.rd F.HOST_STATUS_ADMIN_VER == 2)

/-- The command of admin reel a, if its turn has come: the one before it has completed. -/
def State.adminNext (s : State) (a : Nat) : Option TxDesc := if s.hs.waiting.contains a then none else s.adminFront a

/-- A command with the given opcode is carried out. A reserved field that is not 0 completes it with `BAD_PARAM`. -/
def State.adminRun (s : State) (a op : Nat) (f : TxDesc → State) : State :=
  match s.adminNext a with
  | none => s
  | some d =>
    if d.opcode ≠ op || !s.opcodeKnown op then s
    else if d.adminReserved then s.adminDone a adBAD_PARAM []
    else f d

/-- ADMIN_BAD_OPCODE (R294). -/
def State.adminBadOpcode (s : State) (a : Nat) : State :=
  match s.adminNext a with
  | none => s
  | some d => if s.opcodeKnown d.opcode then s else s.adminDone a adBAD_OPCODE []

/-- The reel that KIND and INDEX name (Table 12.15). -/
def reelOf (p : Nat) : Option Nat :=
  let kind := bitsOf p 8 8
  let index := bitsOf p 0 8
  if kind = 0 && index ≤ 63 then some index
  else if kind = 1 && index ≤ 63 then some (64 + index)
  else if kind = 2 && index ≤ 31 then some (128 + index)
  else none

/-- The highest of the listed numbers whose bit a mask has set. -/
def highestOf (mask : Nat) (l : List Nat) : Option Nat := (l.reverse.find? fun v => bitOf mask v)

/-- NEGOTIATE (R294). -/
def State.negotiate (s : State) (a : Nat) : State :=
  s.adminRun a 0x01 fun d =>
    if d.param 0 = 0 then
      if s.reelNumbers.any (· < 160) then s.adminDone a adBUSY []
      else match highestOf (d.param 1) [1, 2] with
        | none => s.adminDone a adNO_VERSION []
        | some v => (s.wr F.HOST_STATUS_ADMIN_VER 0 v).adminDone a adOK [v]
    else if d.param 0 = 1 then
      match reelOf (d.param 1) with
      | none => s.adminDone a adBAD_PARAM []
      | some r =>
        if 128 ≤ r then s.adminDone a adBAD_PARAM []
        else if (s.reel? r).isSome then s.adminDone a adIN_USE []
        else match highestOf (d.param 2) (if r < 64 then [1, 2] else [1]) with
          | none => s.adminDone a adNO_FORMAT []
          | some f => ({ s with hs := { s.hs with formats := s.hs.formats.put r f } }).adminDone a adOK [f]
    else s.adminDone a adBAD_PARAM []

/-- A size that R283 allows. -/
def sizeOk (n : Nat) : Bool := 16 ≤ n && n ≤ 65536 && 2 ^ Nat.log2 n == n

/-- CREATE_REEL (R283, R295, Table 12.15). -/
def State.createReelCmd (s : State) (a : Nat) : State :=
  s.adminRun a 0x02 fun d =>
    match reelOf (d.param 0) with
    | none => s.adminDone a adBAD_PARAM []
    | some r =>
      let ring := d.param 2 + d.param 3 * 2 ^ 32
      let cring := d.param 4 + d.param 5 * 2 ^ 32
      let p6 := d.param 6
      let p7 := d.param 7
      if 127 < bitsOf p6 0 8 || (r < 128 && ring % 4096 ≠ 0) || cring % 4096 ≠ 0 then s.adminDone a adBAD_PARAM []
      else if !sizeOk (d.param 1) then s.adminDone a adBAD_SIZE []
      else if r < 128 && (s.hs.formats.find r).isNone then s.adminDone a adNOT_NEGOTIATED []
      else if (s.reel? r).isSome then s.adminDone a adIN_USE []
      else
        let x : Reel := { size := d.param 1, vector := bitsOf p6 0 8, modUs := min 1000 (bitsOf p6 16 16)
                          modCount := max 1 (bitsOf p6 8 8), flushUs := max 1 (min 10000 (bitsOf p7 16 16))
                          records := 64 ≤ r && r < 128 && bitOf p7 1, dropLate := r < 64 && bitOf p7 0
                          format := s.hs.formats.at r 1, ring := if r < 128 then ring else 0, cring := cring }
        (s.createReel r x).adminDone a adOK [0x100 * r]

/-- DRAIN_REEL of reel r by another admin reel finds it gone. -/
def State.endDrains (s : State) (r : Nat) : State :=
  (s.hs.drains.filter fun d => d.1 == r).foldl (fun t d => t.adminDone d.2.1 adNO_REEL []) s

/-- DESTROY_REEL (R296). -/
def State.destroyReelCmd (s : State) (a : Nat) : State :=
  s.adminRun a 0x03 fun d =>
    match reelOf (d.param 0) with
    | none => s.adminDone a adBAD_PARAM []
    | some r =>
      if (s.reel? r).isNone then s.adminDone a adNO_REEL []
      else
        let n := s.reelWork r
        (((s.endDrains r).destroyReel r).adminDone a adOK [n]).drainStalled

/-- SET_VECTOR (R300). -/
def State.setVector (s : State) (a : Nat) : State :=
  s.adminRun a 0x04 fun d =>
    let p := d.param 1
    match reelOf (d.param 0) with
    | none => s.adminDone a adBAD_PARAM []
    | some r =>
      if 127 < bitsOf p 0 8 then s.adminDone a adBAD_PARAM []
      else if (s.reel? r).isNone then s.adminDone a adNO_REEL []
      else (s.modReel r fun x => { x with vector := bitsOf p 0 8, modUs := min 1000 (bitsOf p 16 16)
                                          modCount := max 1 (bitsOf p 8 8) }).adminDone a adOK []

/-- UNIT_OP (R297). -/
def State.unitOpCmd (s : State) (a : Nat) : State :=
  s.adminRun a 0x05 fun d =>
    let op := bitsOf (d.param 0) 16 8
    let u := bitsOf (d.param 0) 0 16
    if 5 < op then s.adminDone a adBAD_PARAM []
    else
      let p := s.unitOp op u 0 (some (4 + a))
      if p.2.2.2 then p.1.adminWait a else p.1.adminDone a p.2.1 [p.2.2.1]

/-- ATTIC_READ (R298): `ok` says whether the host's buffer took the payload. -/
def State.atticReadCmd (s : State) (a : Nat) (ok : Bool) : State :=
  s.adminRun a 0x06 fun d =>
    let t := d.param 0
    let inst := d.param 1
    if !recExists t inst then s.adminDone a adBAD_PARAM []
    else
      let p := s.readRecord t inst
      match p.2 with
      | none => p.1.adminDone a adNOT_FOUND []
      | some x =>
        let n := x.payload.length
        if bitsOf d.bits 352 32 < n then p.1.adminDone a adSHORT_BUFFER [n]
        else if !ok then p.1.adminDone a adDMA_ERROR [n]
        else (p.1.emitOut (.dma (bitsOf d.bits 384 64) x.payload)).adminDone a adOK [n, x.seq, b2n x.conflict]

/-- ATTIC_WRITE (R298): the bytes of the host's buffer, none where reading it failed; then the reel faults too (R288). -/
def State.atticWriteCmd (s : State) (a : Nat) (buffer : Option (List Nat)) : State :=
  s.adminRun a 0x07 fun d =>
    let t := d.param 0
    let inst := d.param 1
    let len := bitsOf d.bits 352 32
    match recType t with
    | none => s.adminDone a adBAD_PARAM []
    | some r =>
      if r.instances ≤ inst then s.adminDone a adBAD_PARAM []
      else if !s.mayWrite t then s.adminDone a adREAD_ONLY []
      else if r.maxLen < len then s.adminDone a adTOO_LONG []
      else if s.commitBusy t inst then s.adminDone a adBUSY []
      else match buffer with
        | none => (s.adminDone a adDMA_ERROR []).dmaError (160 + a) (bitsOf d.bits 384 64) none
        | some bs =>
          (s.adminWait a).portRequest
            { rtype := t, inst := inst, payload := (List.range len).map fun k => bs.getD k 0 % 256, master := 0
              replyKind := 1, replyTo := a, repair := 0 }

/-- FULL_RESET (R299): the reset itself follows 1 ms after the completion. -/
def State.fullResetCmd (s : State) (a : Nat) : State :=
  s.adminRun a 0x08 fun d =>
    if d.param 0 ≠ 0x8416 then s.adminDone a adBAD_PARAM []
    else
      let t := s.adminDone a adOK []
      { t with hs := { t.hs with resetDue := some 4 } }

/-- PAIR_SWITCH (R324, R325). -/
def State.pairSwitchCmd (s : State) (a : Nat) : State :=
  s.adminRun a 0x09 fun d => s.switchRequest 1 (bitOf d.bits 496) (some a)

/-- The state of a reel (R288): 0 absent, 1 active, 2 stalled, 3 faulted. -/
def State.reelState (s : State) (r : Nat) : Nat :=
  match s.reel? r with
  | none => 0
  | some x => if x.reason ≠ 0 then 3 else if x.stalled || !x.held.isEmpty then 2 else 1

/-- REEL_STATUS (Table 12.13). -/
def State.reelStatusCmd (s : State) (a : Nat) : State :=
  s.adminRun a 0x0A fun d =>
    match reelOf (d.param 0) with
    | none => s.adminDone a adBAD_PARAM []
    | some r =>
      match s.reel? r with
      | none => s.adminDone a adOK [0, 0, 0, 0, 0, 0]
      | some x => s.adminDone a adOK [s.reelState r, x.reason, x.fetch, x.written, x.prod, x.cons]

/-! DRAIN_REEL (R296). -/

/-- What waits on a reel: slot and cookie of each descriptor, pending cue and unused receive buffer, in slot order. -/
def State.queuedWork (s : State) (r : Nat) : List (Nat × Nat) :=
  match s.reel? r with
  | none => []
  | some x =>
    let tx := (x.queue ++ (s.hs.ready ++ s.hs.cues).filter fun d => d.reel == r).map fun d => (d.slot, d.cookie)
    let rx := x.bufs.map fun b => (b.slot, b.cookie)
    (tx ++ rx).mergeSort fun p q => p.1 ≤ q.1

/-- All queued work of a reel completes `CANCELLED`. -/
def State.cancelWork (s : State) (r : Nat) : State :=
  let work := s.queuedWork r
  let recs := match s.reel? r with
    | some x => x.records
    | none => false
  let s := { s with hs := { s.hs with ready := s.hs.ready.filter fun d => d.reel != r
                                      cues := s.hs.cues.filter fun d => d.reel != r } }
  let s := s.modReel r fun x => { x with queue := [], bufs := [], stalled := !x.held.isEmpty }
  work.foldl (fun t w => t.complete r { status := csCANCELLED, slot := w.1, cookie := w.2, records := recs }) s

/-- DRAIN_REEL. -/
def State.drainReelCmd (s : State) (a : Nat) : State :=
  s.adminRun a 0x0B fun d =>
    match reelOf (d.param 0) with
    | none => s.adminDone a adBAD_PARAM []
    | some r =>
      if 128 ≤ r then s.adminDone a adBAD_PARAM []
      else match s.reel? r with
        | none => s.adminDone a adNO_REEL []
        | some x =>
          if x.reason ≠ 0 then s.adminDone a adOK [0]
          else
            let n := (s.queuedWork r).length
            let t := s.cancelWork r
            match t.reel? r with
            | some y =>
              if y.held.isEmpty then (t.adminDone a adOK [n]).drainStalled
              else (({ t with hs := { t.hs with drains := t.hs.drains ++ [(r, a, n)] } }).adminWait a).drainStalled
            | none => t

/-- The drains of a reel whose entries have all been written complete. -/
def State.drainReview (s : State) (r : Nat) : State :=
  match s.reel? r with
  | none => s
  | some x =>
    if !x.held.isEmpty then s
    else
      let due := s.hs.drains.filter fun d => d.1 == r
      let s := { s with hs := { s.hs with drains := s.hs.drains.filter fun d => d.1 != r } }
      due.foldl (fun t d => t.adminDone d.2.1 adOK [d.2.2]) s

/-- COMPLETION_WRITE (R285): the oldest held entry of a reel is written; a drain that waited for it may be done. -/
def State.completionWrite (s : State) (r : Nat) : State := (s.writeHeld r).drainReview r

/-- DRAIN_TIMEOUT (R296): no slot has freed for 10 ms. -/
def State.drainTimeout (s : State) (a : Nat) : State :=
  match s.hs.drains.find? fun d => d.2.1 == a with
  | none => s
  | some d =>
    let held := match s.reel? d.1 with
      | some x => x.held.length
      | none => 0
    let s := { s with hs := { s.hs with drains := s.hs.drains.filter fun e => e.2.1 != a } }
    s.adminDone a adBUSY [d.2.2 - min d.2.2 held]

end Sys2Proof.Machine
end

