-- ==== Sys2Proof/Machine/Wide.lean ====
section
/-! DEFINITION. The wide mailbox (R369) and the wide items of every block (R113, R131, R156, R184, R205, R224, R278, R328,
R344, R363, R375, R383). -/

namespace Sys2Proof.Machine

/-- A wide item: its width, whether it is signed, whether it may be written, and its value while it has one (VALID). -/
structure WideItem where
  width : Nat
  signed : Bool := false
  rw : Bool := false
  value : Option Int
  deriving DecidableEq, Repr

/-- An unsigned item. -/
def wUns (width : Nat) (v : Option Nat) : WideItem := { width := width, value := v.map fun x => (x : Int) }

/-- A signed item. -/
def wSig (width : Nat) (v : Option Int) : WideItem := { width := width, signed := true, value := v }

/-- A T96 item, from FRACTION units. -/
def wTime (v : Option Nat) : WideItem := wUns 96 (v.map t96)

/-- A T96 item from an integer time. -/
def wTimeI (v : Option Int) : WideItem := wTime (v.map Int.toNat)

/-- An item of a range that starts at `base` and has `n` members. -/
def inRange (item base n : Nat) : Bool := base ≤ item && item < base + n

/-- R113, Table 4.6. -/
def State.wideTdc (s : State) (i : Nat) : Option WideItem :=
  if inRange i 0x00 28 then some (wTimeI (s.chan i).lastStamp)
  else if inRange i 0x20 28 then
    let x := s.chan (i - 0x20)
    some (wSig 64 (if x.offsetOk then x.offset else none))
  else if inRange i 0x40 4 then some (wSig 64 (s.est (i - 0x40)).offset)
  else if inRange i 0x44 4 then some (wTimeI (s.est (i - 0x44)).phase)
  else if inRange i 0x48 4 then some (wUns 64 (s.est (i - 0x48)).n)
  else if inRange i 0x50 4 then some (wTime (s.take (i - 0x50)).start)
  else if inRange i 0x54 4 then some (wTime (s.take (i - 0x54)).stop)
  else none

/-- R131, Table 5.4. -/
def State.wideQual (s : State) (i : Nat) : Option WideItem :=
  if inRange i 0x00 44 then some (wSig 64 (s.mon i).y)
  else if inRange i 0x30 44 then some (wSig 64 (s.mon (i - 0x30)).drift)
  else if inRange i 0x60 44 then some (wSig 64 (s.mon (i - 0x60)).meanRes)
  else none

/-- What a node presents, while it is qualified. -/
def State.presents (s : State) (n : Nat) : Option Presented := (s.node n).shown.filter (·.qualified)

/-- The weights of a node's entries (NODE_WEIGHT). -/
def State.entryWeight (s : State) (n e : Nat) : Nat :=
  if s.rd F.TREE_NODE_CFG_KIND n = 0 then (if (s.node n).sel = some e then wholeWeight else 0)
  else lookN (s.node n).members e

/-- R156, Table 6.6. -/
def State.wideTree (s : State) (i : Nat) : Option WideItem :=
  if inRange i 0x000 128 then some (wSig 64 ((s.presents i).map (·.phase)))
  else if inRange i 0x080 128 then some (wSig 64 ((s.presents (i - 0x80)).map (·.freq)))
  else if inRange i 0x100 128 then
    some (wUns 64 ((s.presents (i - 0x100)).map fun _ =>
      ((List.range 4).map fun e => s.entryWeight (i - 0x100) e % 65536 * 2 ^ (16 * e)).sum))
  else if inRange i 0x180 16 then
    some (wUns 64 ((s.dpll (i - 0x180)).recipe.map fun r => ofBits ((r.leaves.filter (·.w != 0)).map (·.m))))
  else if inRange i 0x190 16 then some (wSig 64 (s.dpll (i - 0x190)).rootDelta)
  else if inRange i 0x1A0 16 then
    let p := s.dpll (i - 0x1A0)
    some (wTime (p.rootDelta.map fun _ => p.rootTime))
  else none

/-- R184, Table 7.9: the DPLL block. The word and the integrator exist from reset on. -/
def State.wideDpll (s : State) (i : Nat) : Option WideItem :=
  let p := s.dpll (i % 16)
  if 0x50 ≤ i then none
  else if i < 0x10 then some (wSig 64 (if p.everBuilt then some p.b else none))
  else if i < 0x20 then some (wSig 64 (if p.everBuilt then some p.jump else none))
  else if i < 0x30 then some (wSig 64 (some p.word))
  else if i < 0x40 then some (wSig 64 (some p.integ))
  else some (wUns 64 (some (ofBits p.held)))

/-- R184, Table 7.9: the HOLD block. -/
def State.wideHold (s : State) (i : Nat) : Option WideItem :=
  let d := i % 16
  let p := s.dpll d
  let k := s.coefOf d
  let model := fun x : Int => if s.modelUsable d then some x else none
  if 0x90 ≤ i then none
  else if i < 0x10 then some (wSig 64 (p.entry.map fun e => roundQ 60 e.sums.yMean))
  else if i < 0x20 then some (wSig 64 (model k.a1))
  else if i < 0x30 then some (wSig 64 (model k.c))
  else if i < 0x40 then some (wUns 64 ((model k.ud).map Int.toNat))
  else if i < 0x50 then some (wUns 64 ((model k.uc).map Int.toNat))
  else if i < 0x60 then some (wUns 64 ((model k.sh).map Int.toNat))
  else if i < 0x70 then some (wUns 64 (p.entry.map fun e => e.uf.toNat))
  else if i < 0x80 then some (wTime p.crossing)
  else some (wTime (match p.episode with
    | some e => some e.start
    | none => p.lastStart))

/-- R205, Table 8.12. -/
def State.wideSynth (s : State) (i : Nat) : Option WideItem :=
  if i < 4 then some (wUns 64 (if (s.loopSt (i + 1)).everLocked then some (s.fbEffective (i + 1)) else none))
  else if i < 8 then some (wTimeI (s.loopSt (i - 3)).origin)
  else if i = 8 then some (wTime s.sy.degStart)
  else if i = 9 then some (wTime s.sy.degEnd)
  else none

/-- The porch's time (R212). What it has counted since the last anchor, and all of it without one, is the crystal's:
a free value. -/
def State.porchTime (s : State) : Nat :=
  if s.counterValid && s.rdB F.TIME_STATUS_VALID then porchUnits s.tm.porchSec (s.freeNat % 32768) else s.freeNat

/-- R224, Table 9.7. -/
def State.wideTime (s : State) (i : Nat) : Option WideItem :=
  if i = 0 then some (wTime (if s.tm.started && !s.tm.lost then some s.now else none))
  else if i = 1 then some (wUns 16 (some (s.gen % 65536)))
  else if i = 2 then some { wUns 96 (some s.tm.setTime) with rw := true }
  else if i = 3 then some { wSig 96 (some (toSigned 96 s.tm.stepAmount)) with rw := true }
  else if i = 4 then some (wTime s.tm.lastStepAt)
  else if i = 5 then some (wSig 96 s.tm.lastStepAmount)
  else if i = 6 || i = 7 then some (wUns 96 ((s.tm.todLast.find (i - 6)).map fun x => x * 2 ^ 48))
  else if i = 8 then some (wTime (if s.tm.porchAnchored then some s.porchTime else none))
  else none

/-- R278, Table 11.11: the SERVO block. -/
def State.wideServo (s : State) (i : Nat) : Option WideItem :=
  let x := s.servo (i % 16)
  if 0x40 ≤ i then none
  else if i < 0x10 then some (wSig 64 x.theta)
  else if i < 0x20 then some (wSig 64 x.offset)
  else if i < 0x30 then some (wUns 80 (x.master.map (·.2)))
  else some (wUns 64 x.gm)

/-- R344, Table 14.6. -/
def State.wideFault (s : State) (i : Nat) : Option WideItem :=
  if i < 0x40 then some { wUns 64 (some (s.depMaskOf i)) with rw := true }
  else if i = 0x40 then some (wTime (s.flt.slate.map (·.time)))
  else if i = 0x41 then some (wTime ((s.flt.latches.find (s.rd F.FLT_LATCH_SEL_ENTRY)).map (·.firstTime)))
  else none

/-- An item of a block (Table 16.1), as the master of a bank sees it. -/
def State.wideItem (s : State) (bank block i : Nat) : Option WideItem :=
  match block with
  | 0x00 => if i = 0 then some (wUns 96 (s.cp.last.find bank)) else none
  | 0x03 => s.wideTdc i
  | 0x04 => s.wideQual i
  | 0x05 => s.wideTree i
  | 0x06 => s.wideDpll i
  | 0x07 => s.wideHold i
  | 0x08 => s.wideSynth i
  | 0x09 => s.wideTime i
  | 0x0D => if i = 0 then some (wUns 64 (some s.clockIdent)) else if i = 1 then some (wTime s.sv.classChanged) else none
  | 0x0E => s.wideServo i
  | 0x10 => if i = 0 then some (wUns 64 s.pr.partnerId) else if i = 1 then some (wUns 64 s.pr.pairId)
      else if i = 2 then some (wTime s.pr.lastActiveAt) else if i = 3 then some (wTime s.pr.lastHbLossAt) else none
  | 0x11 => s.wideFault i
  | 0x12 => if i < 16 then some (wUns 64 (some (s.lifeValue i))) else if i = 16 then some (wUns 96 s.lastShutdown) else none
  | 0x14 => if i = 0 then some (wUns 64 (some s.id_.clockId))
      else if i = 1 then some { wUns 64 (some s.id_.pairCfg) with rw := true } else none
  | _ => none

/-- The 128 bits of an item's value: sign-extended for a signed item, otherwise with zeros above the width (R369). -/
def WideItem.word (w : WideItem) (v : Int) : Nat :=
  if w.signed then ofSigned 128 (clampSigned w.width v) else ofSigned w.width v

/-- A 128-bit value fits an item: its bits above the width are as they must be written (R369). -/
def WideItem.fits (w : WideItem) (v : Nat) : Bool :=
  if w.signed then ofSigned 128 (toSigned w.width v) == v else v < 2 ^ w.width

/-- WIDE_DATA of a bank as one value. -/
def State.wideData (s : State) (bank : Nat) : Nat :=
  ((List.range 4).map fun w => s.rd F.WIDE_DATA_DATA (4 * bank + w) * 2 ^ (32 * w)).sum

/-- WIDE_DATA of a bank set. -/
def State.putWide (s : State) (bank v : Nat) : State :=
  State.forAll 4 (fun w t => t.wr F.WIDE_DATA_DATA (4 * bank + w) (bitsOf v (32 * w) 32)) s

/-- WIDE_STATUS of a bank. -/
def State.wideStatus (s : State) (bank result width : Nat) (valid : Bool) : State :=
  s.wrAll [(F.WIDE_STATUS_GEN, bank, s.gen), (F.WIDE_STATUS_VALID, bank, b2n valid), (F.WIDE_STATUS_RESULT, bank, result),
           (F.WIDE_STATUS_WIDTH, bank, width)]

/-- Results of WIDE_STATUS. -/
def wrOK : Nat := 1
def wrNO_ITEM : Nat := 2
def wrBAD_TIME : Nat := 3
def wrLOCKED : Nat := 4
def wrNOT_OWNER : Nat := 5
def wrBAD_WIDTH : Nat := 6

/-- Reading a lifetime counter with neither slot valid raises source 49 (R357). -/
def State.noteCapture (s : State) (block i : Nat) : State :=
  s.when (block == 0x12 && i < 16 && (s.lifeRead i).isNone) (·.atticFault 49 (lifeAddr i 0 / 256) rtLIFETIME)

/-- WIDE_SEL of a bank as written. -/
def State.wideSel (s : State) (bank dir block i : Nat) : State :=
  s.wrAll [(F.WIDE_SEL_ITEM, bank, i), (F.WIDE_SEL_BLOCK, bank, block), (F.WIDE_SEL_DIR, bank, dir)]

/-- WIDE_CAPTURE (R369): the item goes into the bank. An item that has no value leaves WIDE_DATA as it was. -/
def State.wideCapture (s : State) (bank block i : Nat) : State :=
  let s := s.wideSel bank 0 block i
  match s.wideItem bank block i with
  | none => s.wideStatus bank wrNO_ITEM 0 false
  | some w =>
    let t := match w.value with
      | some v => (s.putWide bank (w.word v)).drawn
      | none => s
    (t.wideStatus bank wrOK w.width w.value.isSome).noteCapture block i

/-- The value of a writable item is replaced. -/
def State.wideApply (s : State) (block i v : Nat) : State :=
  if block = 0x09 then
    if i = 2 then { s with tm := { s.tm with setTime := v } }
    else { s with tm := { s.tm with stepAmount := v % 2 ^ 96 } }
  else if block = 0x11 then { s with flt := { s.flt with depMask := s.flt.depMask.set i v (depMaskReset i) } }
  else { s with id_ := { s.id_ with pairCfg := v } }

/-- The master that owns a block, if one does (R371). -/
def State.ownerOf (s : State) (block : Nat) : Option Nat :=
  let f := [F.GLOBAL_OWNER_OWNER0, F.GLOBAL_OWNER_OWNER1, F.GLOBAL_OWNER_OWNER2, F.GLOBAL_OWNER_OWNER3].getD (block % 4)
    F.GLOBAL_OWNER_OWNER0
  let o := s.rd f (block / 4)
  if block = 0 || 21 ≤ block || o = 0x3F then none else some o

/-- A write to a block by a master is refused by its owner (R371). -/
def State.notOwned (s : State) (m block : Nat) : Bool :=
  m != 19 && match s.ownerOf block with
    | some o => o != m
    | none => false

/-- GLOBAL_SMB_CFG keeps master 16 from a block (Table 16.3). -/
def State.smbMasked (s : State) (m block : Nat) : Bool :=
  m == 16 && block != 0 && !bitOf (s.rd F.GLOBAL_SMB_CFG_WRITE_MASK) block

/-- The address of WIDE_SEL. -/
def wideSelAddr : Nat := 0x40

/-- WIDE_WRITE (R369): WIDE_DATA is applied whole to an item; the outcome with which a write is refused. -/
def State.wideTry (s : State) (m bank block i : Nat) : State × Nat :=
  let s := s.wideSel bank 1 block i
  match s.wideItem bank block i with
  | none => (s.wideStatus bank wrNO_ITEM 0 false, ocOK)
  | some w =>
    let v := s.wideData bank
    let same := match w.value with
      | some x => w.word x == v
      | none => false
    if !w.rw || (s.smbMasked m block && !same) then
      ((s.wideStatus bank wrLOCKED w.width false).noteLocked m wideSelAddr 5, ocLOCKED)
    else if s.notOwned m block then
      ((s.wideStatus bank wrNOT_OWNER w.width false).noteNotOwner m wideSelAddr 5, ocNOT_OWNER)
    else if !w.fits v then (s.wideStatus bank wrBAD_WIDTH w.width false, ocOK)
    else if block = 0x09 && i = 2 && !t96Legal v then (s.wideStatus bank wrBAD_TIME w.width false, ocBAD_TIME)
    else ((s.wideApply block i v).wideStatus bank wrOK w.width true, ocOK)

/-- WIDE_WRITE by a master that has a bank. -/
def State.wideWrite (s : State) (m block i : Nat) : State :=
  match bankOf m with
  | some b =>
    let p := s.wideTry m b block i
    p.1.outcome m p.2 wideSelAddr
  | none => s

end Sys2Proof.Machine
end

