-- ==== Sys2Proof/Machine/Flags.lean ====
section
/-! DEFINITION. What a register shows (R366): most fields show what they hold; the status and summary fields below are
formed from the state when they are read. A field that no rule gives a value (a physical reading) shows a free one. -/

namespace Sys2Proof.Machine

/-- A reading that only the hardware could give (log 10). -/
def State.physical (s : State) (f : Fld) (i : Nat) : Nat := Config.freeField s.freeCtr (f.key i) % 2 ^ f.width

/-- How many of the first n indices satisfy a condition. -/
def countOf (n : Nat) (p : Nat → Bool) : Nat := ((List.range n).filter p).length

/-- Bits b of word h for the numbers 32·h + b below n that satisfy a condition. -/
def mapWord (n h : Nat) (p : Nat → Bool) : Nat := ofBits ((List.range 32).filter fun b => 32 * h + b < n && p (32 * h + b))

/-- A signed reading in a field of 32 bits, saturated. -/
def signed32 (v : Int) : Nat := ofSigned 32 (clampSigned 32 v)

/-- FRACTION units in tenths of a picosecond. -/
def tenthsPs (v : Int) : Int := quotient 70 (v * 10000) unitsPerNs

/-! The fault collector (R330, R334–R342). -/

/-- The latch entries of a source. -/
def State.entriesOf (s : State) (n : Nat) : List Latch := (s.flt.latches.map (·.2)).filter fun l => l.source == n

/-- A pair of a source is broken. -/
def State.wireBroken (s : State) (n : Nat) : Bool := s.flt.broken.any fun p => p.1 == n

/-- A grace timer of a source runs. -/
def State.graceRuns (s : State) (n : Nat) : Bool := (s.entriesOf n).any fun l => l.graceEnd.isSome

/-- The open settle windows. -/
def State.openWindows (s : State) : List Window := s.flt.windows.filter fun w => w.openAt s.now

/-- FLT_LATCH_DATA. -/
def State.latchWord (s : State) (w : Nat) : Nat :=
  match s.flt.latches.find (s.rd F.FLT_LATCH_SEL_ENTRY) with
  | none => 0
  | some l =>
    if w = 0 then
      2 ^ 31 + l.source % 128 * 2 ^ 24 + l.severity % 4 * 2 ^ 22 + b2n l.wire * 2 ^ 21 + b2n l.graceEnd.isSome * 2 ^ 20 +
        b2n l.acked * 2 ^ 19 + b2n l.escalated * 2 ^ 18 + l.unit % 65536
    else if w = 1 then satTo 32 l.count
    else if w = 2 then
      match l.graceEnd with
      | some e => (quotient 71 (e - s.now : Nat) unitsPerMs).toNat
      | none => 0
    else l.gen % 65536 * 2 ^ 16 + (l.seq.getD s.freeNat) % 65536

/-- A field of the slate, 0 while it is empty. -/
def State.slateGet (s : State) (f : Slate → Nat) : Nat := (s.flt.slate.map f).getD 0

/-! Monitors, nodes, DPLLs. -/

/-- The state that entry i of QUAL_MAP shows. -/
def qualMapState (i : Nat) : Nat := [3, 4, 5, 6].getD (i / 2) 3

/-- The leaf's loop of R161 runs on less than its profile's bandwidth. -/
def State.bwLimited (s : State) (d : Nat) : Bool :=
  s.dpSt d != 0 && effBw (s.dpll d).cfg.bw (s.sampleT d) != min (s.dpll d).cfg.bw 20

/-- The bandwidth code in use (R161). -/
def State.bwInUse (s : State) (d : Nat) : Nat := effBw (s.dpll d).cfg.bw (s.sampleT d)

/-- The DPLL holds its word (R181, Table 7.3): in `BUILDOUT` and `FROZEN`, and after a lockstep mismatch. -/
def State.wordHeld (s : State) (d : Nat) : Bool := s.dpSt d == 4 || s.dpSt d == 5 || s.rdB F.DP_STATUS_LOCKSTEP_HELD d

/-- A channel's source is there (TDC_CH_STATUS.SOURCE_PRESENT). -/
def State.sourcePresent (s : State) (c : Nat) : Bool :=
  if 16 ≤ c && c < 24 then s.rdB F.PORT_STATUS_CDR_LOCK (c - 16)
  else if 26 ≤ c then
    let src := s.loopSource (c - 26)
    if src < 24 then s.outRunning src else inRange src 0x20 4 && !s.ppsHeld (src - 0x20)
  else true

/-- A stamp within the last 1 ms or two nominal periods (TDC_CH_STATUS.ACTIVE). -/
def State.chanActive (s : State) (c : Nat) : Bool :=
  match (s.chan c).lastEdge with
  | some t =>
    let twice := if s.periodDen c = 0 then 0 else 2 * s.periodNum c / s.periodDen c
    decide ((s.now : Int) - t ≤ (max unitsPerMs twice : Nat))
  | none => false

/-- The last dropped stamp lies within the last 1 ms. -/
def State.chanDropping (s : State) (c : Nat) : Bool :=
  match (s.chan c).lastDrop with
  | some t => decide ((s.now : Int) - t ≤ (unitsPerMs : Nat))
  | none => false

/-! Reels. -/

/-- How many reels exist in a range of numbers. -/
def State.reelsIn (s : State) (base n : Nat) : Nat := (s.reelNumbers.filter fun r => inRange r base n).length

/-- STATE of ADMIN_STATUS and VF_EVT_STATUS: 0 off, 1 running, 2 faulted. -/
def State.runState (s : State) (r : Nat) : Nat :=
  match s.reel? r with
  | none => 0
  | some x => if x.reason = 0 then 1 else 2

/-- The reason of a reel's fault. -/
def State.reelReason (s : State) (r : Nat) : Nat := ((s.reel? r).map (·.reason)).getD 0

/-- A VF whose TM fields read 0 (R301). -/
def State.noTime (s : State) (v : Nat) : Bool := v != 0 && !s.rdB F.HOST_VF_CFG_TIME_EN v

/-- A TM field as it reads: `n` of its indices belong to one page. -/
def State.tmShown (f : Fld) (n : Nat) : Fld × (State → Nat → Nat) := (f, fun s i => if s.noTime (i / n) then 0 else s.rd f i)

/-! Event records. -/

/-- The record that EVT_READ_SEL selects. -/
def State.selectedRecord (s : State) : Option BufRec := s.ev.buffer.find? fun b => b.seq % 65536 == s.rd F.EVT_READ_SEL_SEQ

/-- Records that the slowest destination has not taken. -/
def State.evtBacklog (s : State) : Nat :=
  min 32768 ((s.ev.taken.map fun t => s.ev.nextSeq - t.2).foldl max 0)

/-- GLOBAL_GROUP_STATUS. -/
def State.groupWord (s : State) (i : Nat) : Nat :=
  let one := fun j : Nat =>
    if i = 0 || j < 3 then s.unitStatus (0x10 + 8 * i + j) else if j = 3 then s.unitStatus uMODULE else 0xF
  ((List.range 8).map fun j => one j % 16 * 2 ^ (4 * j)).sum

/-- R_b of a pair (BR_RESIDENCE). -/
def State.residenceShown (s : State) (b : Nat) : Nat :=
  if s.rd F.BR_STATUS_STATE b = 3 then [0, 78643200, 15728640, 11796480].getD (s.portMode (2 * b)) 0 else 0

/-! The views, by block. -/

/-- GLOBAL and CLOCKS. -/
def viewsGlobal : List (Fld × (State → Nat → Nat)) :=
  [(F.GLOBAL_STAGE_STAGE, fun s _ => s.stage),
   (F.GLOBAL_STATUS_TIME_VALID, fun s _ => s.rd F.TIME_STATUS_VALID),
   (F.GLOBAL_STATUS_SECONDS_SET, fun s _ => s.rd F.TIME_STATUS_SECONDS_SET),
   (F.GLOBAL_STATUS_IN_HOLDOVER, fun s _ => b2n (s.dpll s.timeDpll).episode.isSome),
   (F.GLOBAL_STATUS_OUT_OF_SPEC, fun s _ => s.rd F.HOLD_STATUS_OUT_OF_SPEC s.timeDpll),
   (F.GLOBAL_STATUS_DEGRADED, fun s _ => b2n s.degradedNow),
   (F.GLOBAL_STATUS_ANY_LATCHED, fun s _ => b2n (!s.flt.latches.isEmpty)),
   (F.GLOBAL_STATUS_DRIVING, fun s _ => b2n s.guardedOn),
   (F.GLOBAL_STATUS_PAIR_MISMATCH, fun s _ => b2n (!s.cp.mismatched.isEmpty)),
   (F.GLOBAL_PAIR_STATUS_MISMATCHED, fun s _ => s.cp.mismatched.length),
   (F.GLOBAL_GROUP_STATUS_STATUS, fun s i => s.groupWord i),
   (F.CLK_STAGE_STATUS_WAIT_REASON, fun s _ => s.waitReason)]

/-- INPUTS, TDC and QUAL. -/
def viewsTdc : List (Fld × (State → Nat → Nat)) :=
  [(F.IN_STATUS_ON, fun s n => s.rd F.TDC_CH_CFG_ENABLE n),
   (F.IN_STATUS_ACTIVE, fun s n => s.rd F.TDC_CH_CFG_ENABLE n * s.physical F.IN_STATUS_ACTIVE n),
   (F.IN_STATUS_LEVEL, fun s n => s.rd F.TDC_CH_CFG_ENABLE n * s.physical F.IN_STATUS_LEVEL n),
   (F.IN_STATUS_OVERRANGE, fun s n => s.rd F.TDC_CH_CFG_ENABLE n * s.physical F.IN_STATUS_OVERRANGE n),
   (F.IN_DC_P_MV, fun s n => s.rd F.TDC_CH_CFG_ENABLE n * s.physical F.IN_DC_P_MV n),
   (F.IN_DC_N_MV, fun s n => s.rd F.TDC_CH_CFG_ENABLE n * s.physical F.IN_DC_N_MV n),
   (F.TDC_CH_STATUS_SOURCE_PRESENT, fun s c => b2n (s.sourcePresent c)),
   (F.TDC_CH_STATUS_ACTIVE, fun s c => b2n (s.chanActive c)),
   (F.TDC_CH_STATUS_RUNNING, fun s c => b2n (s.chanRunning c)),
   (F.TDC_CH_STATUS_DEGRADED, fun s c => b2n (s.chanDegraded c)),
   (F.TDC_CH_STATUS_DROPPING, fun s c => b2n (s.chanDropping c)),
   (F.TDC_CH_STATUS_STALLED, fun s c => b2n (s.refuses c)),
   (F.TDC_CH_STATUS_RATE_OVER, fun s c => b2n (s.rateOver c)),
   (F.TDC_STATUS_LOAD_M, fun s _ => s.loadM),
   (F.TDC_STATUS_OVERCOMMIT, fun s _ => b2n s.overcommit),
   (F.TDC_STATUS_CHAN_OVER, fun s _ => b2n ((List.range 28).any s.rateOver)),
   (F.TDC_STATUS_REEL_BAD, fun s _ => b2n (s.rdB F.TDC_STREAM_CFG_ENABLE && s.streamReel.isNone)),
   (F.QUAL_RETIRE_STATUS_ENTRIES, fun s _ => s.ql.list.length),
   (F.QUAL_SUMMARY_QUALIFIED, fun s _ => countOf 44 fun m => s.qmSt m == 3),
   (F.QUAL_SUMMARY_SUSPECT, fun s _ => countOf 44 fun m => s.qmSt m == 4),
   (F.QUAL_SUMMARY_FAILED, fun s _ => countOf 44 fun m => s.qmSt m == 5),
   (F.QUAL_SUMMARY_RETIRED, fun s _ => countOf 44 fun m => s.qmSt m == 6),
   (F.QUAL_MAP_MONITORS, fun s i => mapWord 44 (i % 2) fun m => s.qmSt m == qualMapState i)]

/-- DPLL. -/
def viewsDpll : List (Fld × (State → Nat → Nat)) :=
  [(F.DP_STATUS_PENDING, fun s d => b2n (s.dpll d).pending.isSome),
   (F.DP_STATUS_BW_LIMITED, fun s d => b2n (s.bwLimited d)),
   (F.DP_STATUS_TIME_DPLL, fun s d => b2n (d == s.timeDpll)),
   (F.DP_PHASE_ERR, fun s d => signed32 (tenthsPs (s.dpll d).eBar)),
   (F.DP_FREQ_YOUT, fun s d => signed32 (quotient 72 (s.dpll d).wBar 100000000)),
   (F.DP_BUILDOUT_B, fun s d => signed32 (tenthsPs (s.dpll d).b)),
   (F.DP_JUMP_J, fun s d => signed32 (tenthNs (s.dpll d).jump)),
   (F.DP_SLEW_LEFT_LEFT, fun s d => if s.rdB F.DP_STATUS_SLEWING d then satTo 32 (tenthNs |(s.dpll d).b|).toNat else 0),
   (F.DP_EFFECTIVE_T_US, fun s d => satTo 20 (roundQ 73 (s.sampleT d * 1000000)).toNat),
   (F.DP_EFFECTIVE_BW_CODE, fun s d => s.bwInUse d),
   (F.DP_EFFECTIVE_DAMP, fun s d => min (s.dpll d).cfg.damp 5),
   (F.DP_LOCK_TIME_SECONDS, fun s d =>
     if s.dpSt d = 3 then satTo 32 ((s.tm.elapsed - (s.dpll d).lockedAt) / unitsPerSec) else 0)]

/-- SYNTH. -/
def viewsSynth : List (Fld × (State → Nat → Nat)) :=
  [(F.OUT_STATUS_TRACE, fun s n => s.outTrace n),
   (F.OUT_STATUS_GRID_EXACT, fun s n => b2n (s.gridExact n)),
   (F.OUT_STATUS_ON_GRID, fun s n => b2n (s.outSt n).onGrid),
   (F.OUT_STATUS_PENDING, fun s n => b2n (s.outSt n).commit),
   (F.OUT_STATUS_SHUTTERED, fun s n => b2n (s.outSt n).shut),
   (F.OUT_STATUS_HIGH_Z, fun s n => b2n (s.outHighZ n)),
   (F.OUT_STATUS_RUNNING, fun s n => b2n (s.outRunning n)),
   (F.OUT_STATUS_SHUT_CAUSE, fun s n => s.shutCause n),
   (F.OUT_FREQ_HZ, fun s n => s.outFreq n),
   (F.APLL_STATUS_RUNNING, fun s a => b2n (s.loopRunning a || (a == 0 && s.loopLocked 0))),
   (F.APLL_STATUS_ALIGNING, fun s a => b2n ((s.loopSt a).realignWanted ||
     (List.range 24).any fun n => (s.outSt n).realign && s.outLoop n == a)),
   (F.APLL_STATUS_REF_OK, fun s a => if a = 0 then 1 - s.rd F.CLK_MUX_STATUS_GATED 0 else b2n (s.loopLocked 0)),
   (F.APLL_STATUS_WORD_HELD, fun s a =>
     b2n (a != 0 && (s.loopSt a).act.steered && s.wordHeld (s.loopSt a).act.dpll)),
   (F.APLL_STATUS_UNSTEERED, fun s a => b2n (!(s.loopSt a).act.steered)),
   (F.APLL_VCO_KHZ, fun s a => s.physical F.APLL_VCO_KHZ a),
   (F.SYNTH_COMMIT_STATUS_BUSY, fun s _ => b2n s.synthBusy),
   (F.SYNTH_SHUTTER_MAP_OUTPUTS, fun s _ => mapWord 24 0 fun n => (s.outSt n).shut),
   (F.SYNTH_RUN_MAP_OUTPUTS, fun s _ => mapWord 24 0 s.outRunning),
   (F.SYNTH_UNTRACE_MAP_OUTPUTS, fun s _ => mapWord 24 0 fun n => s.outRunning n && s.outTrace n == 0)]

/-- TIME and EVENT. -/
def viewsTime : List (Fld × (State → Nat → Nat)) :=
  [(F.TIME_STATUS_ON_TCXO_PATH, fun s _ => b2n (s.tm.running && s.rdB F.CLK_BASE_STATUS_TK_ON_PATH)),
   (F.PORCH_SECONDS_SECONDS, fun s i =>
     if s.counterValid && s.rdB F.TIME_STATUS_VALID then s.rd F.PORCH_SECONDS_SECONDS else s.physical F.PORCH_SECONDS_SECONDS i),
   (F.PPS_STATUS_RUNNING, fun s p => b2n (!s.ppsHeld p)),
   (F.PPS_STATUS_HELD, fun s p => b2n (s.ppsHeld p)),
   (F.PPS_STATUS_QUALIFIED, fun s p => b2n (s.ppsQualified p)),
   (F.TODI_STATUS_ACTIVE, fun s j => b2n (match (s.tm.tod.at j {}).lastOk with
     | some t => s.now ≤ t + 2 * unitsPerSec
     | none => false)),
   (F.TODO_STATUS_SENDING, fun s j => b2n (match (s.tm.todo.at j {}).trailing with
     | some t => s.tm.elapsed < t
     | none => false)),
   (F.EVT_LEVEL_BACKLOG, fun s _ => s.evtBacklog),
   (F.EVT_READ_SEL_VALID, fun s _ => b2n s.selectedRecord.isSome),
   (F.EVT_READ_DATA_WORD, fun s w => bitsOf ((s.selectedRecord.map fun b => recordBits b false).getD 0) (32 * w) 32)]

/-- PORT and BRIDGE. -/
def viewsPort : List (Fld × (State → Nat → Nat)) :=
  [(F.PORT_STATUS_DEGRADED, fun s _ => b2n s.degradedNow),
   (F.PORT_STATUS_BRIDGED, fun s p => b2n (s.bridged p)),
   (F.PORT_STATUS_TX_REF_BAD, fun s p => b2n (s.txRefBad p)),
   (F.PORT_STATUS_FEC_IGNORED, fun s p => b2n (s.fecIgnored p)),
   (F.PORT_STATUS_HI_BER, fun s p => s.physical F.PORT_STATUS_HI_BER p),
   (F.PORT_EQ_STATUS_CTLE, fun s p => s.physical F.PORT_EQ_STATUS_CTLE p),
   (F.PORT_EQ_STATUS_EYE_4MV, fun s p => s.physical F.PORT_EQ_STATUS_EYE_4MV p),
   (F.PORT_EQ_STATUS_DFE_TAP1, fun s p => s.physical F.PORT_EQ_STATUS_DFE_TAP1 p),
   (F.PORT_EQ_STATUS_CONVERGED, fun s p => s.physical F.PORT_EQ_STATUS_CONVERGED p),
   (F.PORT_TX_LATENCY_LATENCY, fun s p => s.latency 0 p % 2 ^ 32),
   (F.PORT_RX_LATENCY_LATENCY, fun s p => s.latency 1 p % 2 ^ 32),
   (F.PORT_ESMC_STATUS_TX_QL, fun s p => if s.bridged p then 0xF0 else s.rd F.PORT_ESMC_STATUS_TX_QL p),
   (F.PORT_ESMC_STATUS_TX_SSM, fun s p => if s.bridged p then 0xF else s.rd F.PORT_ESMC_STATUS_TX_SSM p),
   (F.PORT_ESMC_AGE_AGE_MS, fun s p => match (s.port p).esmcAt with
     | some t => satTo 16 ((s.tm.elapsed - t) / unitsPerMs)
     | none => 0xFFFF),
   (F.PORT_CUE_STATUS_PENDING, fun s p => (s.hs.cues.filter fun d => d.port == p).length),
   (F.PORT_UP_TIME_SECONDS, fun s p => match (s.port p).upAt with
     | some t => if s.linkUp p then satTo 32 ((s.tm.elapsed - t) / unitsPerSec) else 0
     | none => 0),
   (F.BR_STATUS_RATE_COMP_EVEN, fun s b => b2n (s.rd F.BR_STATUS_STATE b == 3) * s.rd F.BR_CFG_RATE_COMP b),
   (F.BR_STATUS_RATE_COMP_ODD, fun s b => b2n (s.rd F.BR_STATUS_STATE b == 3) * s.rd F.BR_CFG_RATE_COMP b),
   (F.BR_RESIDENCE_RES, fun s b => s.residenceShown b)]

/-- SERVICE, HOST and the time pages. -/
def viewsHost : List (Fld × (State → Nat → Nat)) :=
  [(F.SVC_STATUS_CLIENTS, fun s _ => s.clients.length),
   (F.SVC_LOAD_GRANTED, fun s _ => satTo 23 (quotient 74 (s.totalCharge : Nat) (2 ^ 127)).toNat),
   (F.SVC_PORT_LOAD_GRANTED, fun s p => satTo 21 (quotient 74 (s.portCharge p : Nat) (2 ^ 127)).toNat),
   (F.NTP_STATUS_LI, fun s _ => s.ntpLi),
   (F.NTP_STATUS_STRATUM, fun s _ => s.ntpStratum),
   (F.NTP_STATUS_ANSWERING, fun s _ => b2n (s.svRd F.NTP_CFG_ENABLE == 1 && s.partState uNTPSRV == svSERVING &&
     (!s.ntpUnsync || s.svRd F.NTP_CFG_ANSWER_UNSYNC == 1))),
   (F.HOST_STATUS_READY, fun s _ => b2n s.hostReady),
   (F.HOST_REEL_COUNT_TX, fun s _ => s.reelsIn 0 64),
   (F.HOST_REEL_COUNT_RX, fun s _ => s.reelsIn 64 64),
   (F.HOST_REEL_COUNT_EVENT, fun s _ => s.reelsIn 128 32),
   (F.HOST_REEL_COUNT_ADMIN, fun s _ => countOf 2 fun a => s.runState (160 + a) == 1),
   (F.HOST_CUE_STORE_PENDING, fun s _ => s.hs.cues.length),
   (F.ADMIN_STATUS_STATE, fun s a => s.runState (160 + a)),
   (F.ADMIN_STATUS_REASON, fun s a => s.reelReason (160 + a)),
   (F.HOST_VF_STATUS_ENABLED, fun s v => b2n (s.vfOn v)),
   (F.HOST_VF_STATUS_REEL_ACTIVE, fun s v => b2n (s.runState (200 + v) == 1)),
   (F.HOST_VF_STATUS_REEL_FAULTED, fun s v => b2n (s.runState (200 + v) == 2)),
   (F.VF_EVT_STATUS_STATE, fun s v => s.runState (200 + v)),
   (F.VF_EVT_STATUS_REASON, fun s v => s.reelReason (200 + v)),
   State.tmShown F.TM_CTRL_SEQ 1, State.tmShown F.TM_TIME_TIME 3, State.tmShown F.TM_STATE_STEPPED 1,
   State.tmShown F.TM_STATE_OUT_OF_SPEC 1, State.tmShown F.TM_STATE_SECONDS_SET 1, State.tmShown F.TM_STATE_VALID 1,
   State.tmShown F.TM_STATE_TRACE 1, State.tmShown F.TM_STATE_CLOCK_CLASS 1, State.tmShown F.TM_STATE_GEN 1,
   State.tmShown F.TM_UTC_OFFSET 1, State.tmShown F.TM_UTC_LEAP59 1, State.tmShown F.TM_UTC_LEAP61 1,
   State.tmShown F.TM_UTC_VALID 1, State.tmShown F.TM_TE_TE_NS 1]

/-- PEER, FAULT, ATTIC and IDENT. -/
def viewsFault : List (Fld × (State → Nat → Nat)) :=
  [(F.PEER_STATUS_ELIGIBLE, fun s _ => b2n s.eligible),
   (F.PEER_ALIGN_ERR, fun s _ => s.alignErr),
   (F.PEER_TABLE_SYNC_BULK, fun s _ => b2n s.pr.bulk),
   (F.PEER_TABLE_SYNC_BACKLOG, fun s _ => satTo 15 s.backlog),
   (F.PEER_HW_STATUS_HWO_DRIVEN, fun s _ => b2n (!s.isSole && s.pairState == psACTIVE && s.rdB F.TIME_STATUS_VALID)),
   (F.PEER_HW_STATUS_HWI_CLK_ACTIVE, fun s i => s.physical F.PEER_HW_STATUS_HWI_CLK_ACTIVE i),
   (F.PEER_HW_STATUS_HWI_PPS_ACTIVE, fun s i => s.physical F.PEER_HW_STATUS_HWI_PPS_ACTIVE i),
   (F.PEER_HW_STATUS_ACTIVE_N_LOW, fun s _ => b2n s.activeNLow),
   (F.FLT_SRC_STAT_ENTRIES, fun s n => satTo 8 (s.entriesOf n).length),
   (F.FLT_SRC_STAT_WIRE_BROKEN, fun s n => b2n (s.wireBroken n)),
   (F.FLT_SRC_STAT_GRACE_RUNNING, fun s n => b2n (s.graceRuns n)),
   (F.FLT_STATUS_ANY_LATCHED, fun s _ => b2n (!s.flt.latches.isEmpty)),
   (F.FLT_STATUS_ERR_FAULT, fun s _ => b2n s.errFault),
   (F.FLT_STATUS_SLATE_VALID, fun s _ => b2n s.flt.slate.isSome),
   (F.FLT_STATUS_LATCH_FULL, fun s _ => b2n (256 ≤ s.flt.latches.length)),
   (F.FLT_STATUS_WIRE_BROKEN, fun s _ => b2n (!s.flt.broken.isEmpty)),
   (F.FLT_STATUS_REACTING, fun s _ => b2n (!s.flt.reactions.isEmpty || !s.openWindows.isEmpty)),
   (F.FLT_STATUS_TEST_MODE, fun s _ => b2n s.testMode),
   (F.FLT_STATUS_ENTRIES, fun s _ => s.flt.latches.length),
   (F.FLT_STATUS_MAX_SEV, fun s _ => (s.flt.latches.map fun p => p.2.severity).foldl max 0),
   (F.FLT_LATCH_DATA_WORD, fun s w => s.latchWord w),
   (F.FLT_SLATE_INFO_VALID, fun s _ => b2n s.flt.slate.isSome),
   (F.FLT_SLATE_INFO_SOURCE, fun s _ => s.slateGet (·.source)),
   (F.FLT_SLATE_INFO_SEVERITY, fun s _ => s.slateGet (·.severity)),
   (F.FLT_SLATE_INFO_WIRE, fun s _ => s.slateGet fun x => b2n x.wire),
   (F.FLT_SLATE_INFO_MASTER, fun s _ => s.slateGet (·.master)),
   (F.FLT_SLATE_INFO_ACCESS, fun s _ => s.slateGet (·.access)),
   (F.FLT_SLATE_ADDR_ADDR, fun s _ => s.slateGet fun x => x.addr % 2 ^ 32),
   (F.FLT_SLATE_UNIT_UNIT, fun s _ => s.slateGet (·.unit)),
   (F.FLT_WIRE_MAP_SOURCES, fun s h => mapWord 64 h fun n => n != 0 && s.wireBroken n),
   (F.FLT_LATCH_MAP_SOURCES, fun s h => mapWord 64 h fun n => !(s.entriesOf n).isEmpty),
   (F.FLT_GRACE_MAP_SOURCES, fun s h => mapWord 64 h s.graceRuns),
   (F.FLT_REACT_STATUS_WINDOWS, fun s _ => min 15 s.openWindows.length),
   (F.FLT_INJECT_STATUS_AVAILABLE, fun s _ => b2n s.testMode),
   (F.FLT_ERR_STATUS_TOGGLING, fun s _ => b2n (!s.errFault) * s.rd F.FLT_CFG_HEARTBEAT),
   (F.FLT_ERR_STATUS_ERR_N, fun s _ => b2n s.errPins.1),
   (F.FLT_ERR_STATUS_ERR_P, fun s _ => b2n s.errPins.2),
   (F.ATTIC_STATUS_BUSY, fun s _ => b2n (!s.at_.port.isEmpty)),
   (F.ATTIC_STATUS_QUEUED, fun s _ => min 5 (s.at_.port.length - 1)),
   (F.ATTIC_STATUS_TYPE, fun s _ => (s.at_.port.head?.map (·.rtype)).getD 0),
   (F.ATTIC_STATUS_INSTANCE, fun s _ => (s.at_.port.head?.map (·.inst)).getD 0),
   (F.ATTIC_MB_DATA_DATA, fun s _ => s.stagingWord),
   (F.IDENT_FUSE_SP_OPEN, fun s _ => b2n s.fuseIntact)]

/-- Every field that is formed when it is read. -/
def views : List (Fld × (State → Nat → Nat)) :=
  viewsGlobal ++ viewsTdc ++ viewsDpll ++ viewsSynth ++ viewsTime ++ viewsPort ++ viewsHost ++ viewsFault

/-- What a read of a field returns (Table 16.2): 0 for a WT field, the present value otherwise. -/
def State.shown (s : State) (f : Fld) (i : Nat) : Nat :=
  match views.find? fun v => v.1.id == f.id with
  | some v => v.2 s i % 2 ^ f.width
  | none => if f.acc = .WT then 0 else s.rd f i

end Sys2Proof.Machine
end

