-- ==== Sys2Proof/Machine/Operands.lean ====
section
/-! DEFINITION. The operands of a register access: which register an address names (R364, R365), which bank or page of it a
master reaches (R301, R369, R375), what a written value becomes (Table 16.2 and the clamps of the field descriptions), and
what a read returns (R366, R372). -/

namespace Sys2Proof.Machine

/-- The registers of a block, by wide index (Table 16.1). -/
def blockRegs : Nat → List Reg
  | 0x00 => regsGlobal
  | 0x01 => regsClocks
  | 0x02 => regsInputs
  | 0x03 => regsTdc
  | 0x04 => regsQual
  | 0x05 => regsTree
  | 0x06 => regsDpll
  | 0x07 => regsHold
  | 0x08 => regsSynth
  | 0x09 => regsTime
  | 0x0A => regsEvent
  | 0x0B => regsPort
  | 0x0C => regsBridge
  | 0x0D => regsService
  | 0x0E => regsServo
  | 0x0F => regsHost
  | 0x10 => regsPeer
  | 0x11 => regsFault
  | 0x12 => regsAttic
  | 0x13 => regsPower
  | 0x14 => regsIdent
  | _ => []

/-- The index of a register at an address: the outer stride divides the offset, the inner one what it leaves. -/
def Reg.locate (r : Reg) (a : Nat) : Option Nat :=
  let o := a - r.base
  let rest := if r.s1 = 0 then o else o % r.s1
  let i := (if r.s1 = 0 then 0 else o / r.s1) * r.c2 + (if r.s2 = 0 then 0 else rest / r.s2)
  if r.base ≤ a && r.lo ≤ i && i < r.lo + r.count && r.addr i == a then some i else none

/-- A register of a list and its index, at an address. -/
def locateIn : List Reg → Nat → Option (Reg × Nat)
  | [], _ => none
  | r :: l, a => match r.locate a with
    | some i => some (r, i)
    | none => locateIn l a

/-- A register that exists once per bank or page: its copies share one address. -/
def Reg.banked (r : Reg) : Bool := r.s1 == 0 && r.c1 != 1

/-- The offset is in the client table window (R265). -/
def inClientWindow (a : Nat) : Bool := 0x200000 ≤ a && a < 0x300000

/-- A VF: its addresses are offsets in its own page (R301). -/
def isVf (m : Nat) : Bool := 1 ≤ m && m ≤ 15

/-- The block of a BAR0 offset. -/
def blockOf (a : Nat) : Nat := a / 65536

/-- The register and the index that a master's access names; `none` where R365 assigns nothing. A banked register has no
copy for a master without a bank. -/
def placeOf (m a : Nat) : Option (Reg × Nat) :=
  if a % 4 ≠ 0 then none
  else if isVf m then (locateIn regsPage a).map fun p => (p.1, m * p.1.c2 + p.2)
  else match locateIn (blockRegs (blockOf a)) a with
    | none => none
    | some (r, i) =>
      if r.banked then (bankOf m).map fun b => (r, b * r.c2 + i) else some (r, i)

/-! Values a field takes. -/

/-- A written value that the field's description clamps: the field and the range of its value, signed or not. -/
structure Clamp where
  fld : Fld
  lo : Int
  hi : Int
  deriving DecidableEq, Repr

/-- The clamps of the field descriptions, with the rules that state them. -/
def clamps : List Clamp :=
  [⟨F.POWER_TEST_CFG_PERIOD_H, 0, 8760⟩, ⟨F.POWER_TEST_CFG_DURATION_MS, 10, 1000⟩,
   ⟨F.POWER_THERM_CFG_WARN_C, 60, 85⟩, ⟨F.POWER_THERM_CFG_HYST_C, 1, 10⟩,
   ⟨F.CLK_MON_CFG_MISS, 2, 255⟩, ⟨F.CLK_MON_CFG_TOL_PPM, 1, 1000⟩, ⟨F.CLK_OCXO_CFG_WARM_TIMEOUT_S, 60, 3600⟩,
   ⟨F.CLK_STAGE_CFG_HOLDOFF_S, 0, 600⟩, ⟨F.IN_LEVEL_THRESH_MV, 0, 2500⟩, ⟨F.IN_LEVEL_DIFF_OFFSET_MV, -100, 100⟩,
   ⟨F.EST_GATE_GATE_MS, 0, 1000000⟩, ⟨F.TAKE_GATE_GATE_MS, 0, 1000000⟩, ⟨F.TAKE_WINDOW_WINDOW_PS, 0, 10000000⟩,
   ⟨F.TDC_CAL_CFG_HITS_LOG, 16, 24⟩, ⟨F.QUAL_RETRY_CFG_HOLDOFF_S, 1, 60⟩, ⟨F.QUAL_QL_CFG_ESMC_TIMEOUT_S, 1, 60⟩] ++
  [⟨F.TREE_NODE_CFG_TAU_LOG, 0, 10⟩, ⟨F.TREE_NODE_CFG_MEM_LOG, 2, 12⟩, ⟨F.TREE_NODE_CFG_WTR, 0, 144⟩,
   ⟨F.DP_FREE_WORD_WORD, -1000000000, 1000000000⟩, ⟨F.PROF_PSL_PSL_NS, 0, 10000⟩,
   ⟨F.PROF_PULLIN_PULLIN_PPB, 1, 100000⟩, ⟨F.PROF_ENTRY_ENTRY_S, 60, 65535⟩, ⟨F.HOLD_CFG_FIT_H, 24, 2048⟩,
   ⟨F.HOLD_BUDGET_BUDGET_NS, 0, 100000⟩, ⟨F.SYNTH_LOCK_CFG_RELOCK_MS, 5, 100⟩, ⟨F.PPS_WIDTH_WIDTH_NS, 100, 500000000⟩,
   ⟨F.TODI_CFG_BAUD_100, 12, 10000⟩, ⟨F.TODO_CFG_BAUD_100, 12, 10000⟩, ⟨F.TODO_CFG_DELAY_MS, 1, 900⟩,
   ⟨F.SVC_GRANT_CFG_DUR_MAX_S, 10, 4095⟩, ⟨F.PK_CFG_FREQ_LOG, 2, 10⟩, ⟨F.PK_RATES_DURATION_S, 60, 1000⟩,
   ⟨F.PK_FILTER_WIN_MIN_LOG, 3, 11⟩, ⟨F.PK_FILTER_WIN_MAX_LOG, 3, 11⟩, ⟨F.HOST_CTRL_RELEASE_US, 2, 100⟩,
   ⟨F.HOST_VF_CFG_EVT_MAX_LOG, 4, 16⟩, ⟨F.PEER_TIMING_ALIGN_TOL_PS, 1, 1000⟩]

/-- A written value as the field holds it. -/
def clampTo (c : Clamp) (v : Nat) : Nat :=
  let x : Int := if c.lo < 0 then toSigned c.fld.width v else v
  ofSigned c.fld.width (clampInt c.lo c.hi x)

/-- What a field takes of a written register value. -/
def Fld.taken (f : Fld) (v : Nat) : Nat :=
  let x := bitsOf v f.lsb f.width
  match clamps.find? fun c => c.fld.id == f.id with
  | some c => clampTo c x
  | none => x

/-- The types whose written value the field keeps (Table 16.2). -/
def Fld.stored (f : Fld) : Bool := f.acc == .RW || f.acc == .PR || f.acc == .CM

/-- A write to field f of index i changes it: a WT field acts on a value that is not 0. -/
def State.wouldChange (s : State) (f : Fld) (i v : Nat) : Bool :=
  if f.acc == .WT then bitsOf v f.lsb f.width != 0 else f.stored && f.taken v != s.rd f i

/-! The crossing of a port's registers (R85). -/

/-- The port whose registers an address lies in, while its crossing completes accesses `RETIRED`: the port is in reset or
isolated. -/
def State.retiredPort (s : State) (r : Reg) (i : Nat) : Option Nat :=
  let p := i / r.c2
  if r.base / 65536 = 0x0B && r.s1 = 0x100 && (s.isResetting (uP p) || s.isIsolated (uP p)) then some p else none

/-- An access completes `RETIRED`, counted at the port's crossing (R85). -/
def State.noteRetired (s : State) (p : Nat) : State := s.bump F.CLK_XING_STATUS_RETIRED_COUNT (6 + p)

/-! Reading. -/

/-- A register's value as a read returns it. -/
def State.regValue (s : State) (r : Reg) (i : Nat) : Nat := (r.flds.map fun f => s.shown f i * 2 ^ f.lsb).sum

/-- An access that R365 discards. -/
def State.ignored (s : State) : State := s.bump F.GLOBAL_IGNORED_IGNORED

/-- A read of one register by a master (R365, R366, R372): the state after it and the value. -/
def State.readReg (s : State) (m a : Nat) : State × Nat :=
  if inClientWindow a && !isVf m then (s.clientWindow, 0)
  else match placeOf m a with
    | none => (s.ignored, 0)
    | some (r, i) =>
      match s.retiredPort r i with
      | some p => ((s.noteRetired p).outcome m ocRETIRED a, 0)
      | none =>
        let v := s.regValue r i
        ((if r.base = 0x120014 then s.stagingNext else s).drawn, v)

end Sys2Proof.Machine
end

