-- ==== Sys2Proof/Machine/CommitPoint.lean ====
section
/-! DEFINITION. The commit point (R15–R18): a write reaches it, and at its commit time is judged (R365, R367, R371, R372),
applied field by field (R366), and its action carried out. -/

namespace Sys2Proof.Machine

/-! Judging a write. -/

/-- The fields of a register that are locked for a master (Table 16.3), but for a block kept from master 16. -/
def State.lockedFlds (s : State) (m : Nat) (r : Reg) (i : Nat) : List Fld :=
  match r.base with
  | 0x110000 => -- FLT_SRC_CFG
    (if i = 2 || i = 3 || i = 5 then [F.FLT_SRC_CFG_SEVERITY] else []) ++
    (if i = 0 || i = 2 then [F.FLT_SRC_CFG_ACTION] else []) ++ (if i = 0 then [F.FLT_SRC_CFG_SHUTTER] else [])
  | 0x80800 | 0x80804 | 0x80808 => if i = 0 then r.flds else [] -- APLL_CFG, APLL_FB_INT, APLL_FB_FRAC
  | 0xf0100 | 0xf0104 | 0xf0108 | 0xf010c => -- ADMIN_SQ, ADMIN_CQ
    if s.rdB F.ADMIN_CFG_ENABLE i then r.flds else []
  | 0xf0110 => if s.rdB F.ADMIN_CFG_ENABLE i then [F.ADMIN_CFG_SIZE_LOG] else []
  | 0x120008 => if m = 16 || m = 18 then [] else r.flds
  | 0x11025c | 0x110260 => if s.testMode then [] else r.flds -- FLT_INJECT_SEL, FLT_INJECT_CTRL
  | 0x34 => if m = 16 then r.flds else []
  | _ => []

/-- The write is a locked write (R367). -/
def State.lockedWrite (s : State) (m : Nat) (r : Reg) (i v : Nat) : Bool :=
  (if s.smbMasked m (blockOf r.base) then r.flds else s.lockedFlds m r i).any fun f => s.wouldChange f i v

/-- Ownership does not cover the attic mailbox (R371). -/
def atticMailbox (base : Nat) : Bool := 0x120008 ≤ base && base ≤ 0x12001c

/-- What refuses the whole write, if anything does. -/
def State.refusal (s : State) (m : Nat) (r : Reg) (i v : Nat) : Option Nat :=
  if s.lockedWrite m r i v then some ocLOCKED
  else if s.notOwned m (blockOf r.base) && !atticMailbox r.base then some ocNOT_OWNER
  else if (s.retiredPort r i).isSome then some ocRETIRED
  else none

/-- The rank of an outcome when one write meets several (R372). -/
def ocRank (c : Nat) : Nat :=
  if c == ocLOCKED || c == ocNOT_OWNER || c == ocRETIRED then 0
  else if c == ocBAD_TIME || c == ocNO_REDUNDANCY || c == ocBUSY then 1
  else if c == ocIGNORED then 2 else 3

/-- The outcome shown of two. -/
def ocFirst (a b : Nat) : Nat := if ocRank b < ocRank a then b else a

/-! Applying a write. -/

/-- The field of this register takes no written value: the action carries the write (ADMIN_CFG, ATTIC_MB_DATA,
GLOBAL_OWNER), or the field is read-only at this index (EVT_SRC_CFG.BUFFER for n < 64). -/
def keptApart (r : Reg) (f : Fld) (i : Nat) : Bool :=
  r.base == 0xf0110 || r.base == 0x120014 || r.base == 0x80 || (f.id == F.EVT_SRC_CFG_BUFFER.id && i < 64)

/-- The fields of a register take their values (Table 16.2). -/
def State.storeFields (s : State) (r : Reg) (i v : Nat) : State :=
  r.flds.foldl (fun t f => if f.stored && !keptApart r f i then t.wr f i (f.taken v) else t) s

/-- The four fields of an entry of GLOBAL_OWNER. -/
def ownerFld (j : Nat) : Fld :=
  [F.GLOBAL_OWNER_OWNER0, F.GLOBAL_OWNER_OWNER1, F.GLOBAL_OWNER_OWNER2, F.GLOBAL_OWNER_OWNER3].getD j F.GLOBAL_OWNER_OWNER0

/-- A master may change an owner byte from one value to another (R371). -/
def ownerMay (m cur v : Nat) : Bool :=
  m == 0 || m == 18 || m == 19 || (cur == 0x3F && v == m) || (cur == m && (v == 0x3F || v ≤ 19))

/-- A write of GLOBAL_OWNER entry g: each byte is judged alone (R371). -/
def State.ownerWrite (s : State) (m g v a : Nat) : State × Nat :=
  (List.range 4).foldl (fun p j =>
    let f := ownerFld j
    let x := bitsOf v f.lsb f.width
    let cur := p.1.rd f g
    if x = cur || 4 * g + j = 0 || 21 ≤ 4 * g + j then p
    else if ownerMay m cur x then (p.1.wr f g x, p.2)
    else (p.1.noteNotOwner m a 2, ocNOT_OWNER)) (s, ocOK)

/-- An action without an outcome of its own. -/
def plain (s : State) : State × Nat := (s, ocOK)

/-- Actions of the blocks GLOBAL to TDC. `s0` is the state before the fields took their values. -/
def State.actMeasure (s0 s : State) (m base i v : Nat) : State × Nat :=
  match base with
  | 0x40 => -- WIDE_SEL
    if bitOf v 31 then s0.wideTry m i (bitsOf v 16 8) (bitsOf v 0 12)
    else plain (s.wideCapture i (bitsOf v 16 8) (bitsOf v 0 12))
  | 0x60 => -- GLOBAL_UNIT_CTRL
    plain (s.when (bitOf v 31) (·.unitCtrl i (bitsOf v 16 8) (bitsOf v 0 16)))
  | 0x80 => s.ownerWrite m i v (0x80 + 4 * i) -- GLOBAL_OWNER
  | 0x10200 => plain (s.when (bitOf v 1) (·.baseMove)) -- CLK_BASE_CFG
  | 0x20000 => -- IN_CFG
    plain (s.when ([F.IN_CFG_SLOPE, F.IN_CFG_MODE, F.IN_CFG_TERM].any fun f => s0.rd f i != s.rd f i) (·.restartGates i))
  | 0x20008 => -- IN_FILTER
    plain (s.when (s0.rd F.IN_FILTER_MIN_WIDTH i != s.rd F.IN_FILTER_MIN_WIDTH i) (·.restartGates i))
  | 0x3000c => -- TDC_CH_DELAY
    plain (s.when (regsTdc.any fun r => r.base == base && r.flds.any fun f => s0.rd f i != s.rd f i) (·.restartGates i))
  | 0x30000 => -- TDC_CH_CFG
    let was := s0.rdB F.TDC_CH_CFG_ENABLE i
    let on_ := s.rdB F.TDC_CH_CFG_ENABLE i
    if !was && on_ then plain (s.startChannel i)
    else if was && !on_ then
      let t := s.restartGates i
      plain (t.setChan i { t.chan i with gate := none })
    else plain (s.when (s0.rd F.TDC_CH_CFG_PRESCALE i != s.rd F.TDC_CH_CFG_PRESCALE i) (·.restartGates i))
  | 0x31208 => -- TDC_LOOP_SEL
    let s1 := s.when (s0.rd F.TDC_LOOP_SEL_LOOP0_SRC != s.rd F.TDC_LOOP_SEL_LOOP0_SRC) (·.restartGates 26)
    plain (s1.when (s0.rd F.TDC_LOOP_SEL_LOOP1_SRC != s.rd F.TDC_LOOP_SEL_LOOP1_SRC) (·.restartGates 27))
  | 0x31008 => plain ((s.when (bitOf v 1) (·.estStop i)).when (bitOf v 0) (·.estStart i)) -- EST_CTRL
  | 0x31110 => plain ((s.when (bitOf v 1) (·.takeAbort i)).when (bitOf v 0) (·.takeArm i)) -- TAKE_CTRL
  | _ => plain s

/-- Actions of the blocks TREE to TIME. -/
def State.actLoops (s0 s : State) (base i v : Nat) : State × Nat :=
  match base with
  | 0x50000 => -- TREE_NODE_CFG
    plain (s.when ([F.TREE_NODE_CFG_ENABLE, F.TREE_NODE_CFG_KIND, F.TREE_NODE_CFG_CLASS].any fun f => s0.rd f i != s.rd f i)
      (·.clearNode i))
  | 0x60014 => plain (s.when (bitOf v 0) fun t => if bitOf v 1 then t.refAckStep i else t.refAck i) -- DP_REF_ACK
  | 0x7001c => if bitOf v 0 then s.holdClear i else plain s -- HOLD_CTRL
  | 0x80900 => -- SYNTH_COMMIT
    plain ([1, 2, 3, 4].foldl (fun t a => t.when (bitOf v a) (·.realign a)) (s.when (bitOf v 0) (·.commitGo)))
  | 0x8091c => -- SYNTH_VERIFY_CFG
    if s0.rd F.SYNTH_VERIFY_CFG_ENABLE = s.rd F.SYNTH_VERIFY_CFG_ENABLE then plain s
    else plain ({ s with sy := { s.sy with verSum := 0, verN := 0 } }.wrAll
      [(F.SYNTH_VERIFY_STATUS_OUT_OF_TOL, 0, 0), (F.SYNTH_VERIFY_STATUS_VALID, 0, 0)])
  | 0x80000 => plain (s.when (s0.rd F.OUT_CFG_BOOT i != s.rd F.OUT_CFG_BOOT i) (·.syncShutters)) -- OUT_CFG
  | 0x90008 => -- TIME_CTRL
    let bad := bitOf v 0 && !t96Legal s.tm.setTime
    let s1 := s.when (bitOf v 0 && !bad) (·.timeSet)
    (s1.when (bitOf v 1) (·.timeStepRequest), if bad then ocBAD_TIME else ocOK)
  | 0x90100 | 0x90104 | 0x90108 => -- PPS_CFG, PPS_WIDTH, PPS_OFFSET
    if s0.ppsSettings i = s.ppsSettings i then plain s else plain (s.notePps i (s0.ppsSettings i))
  | _ => plain s

/-- Actions of the blocks PORT to PEER. -/
def State.actHost (s0 s : State) (base i v : Nat) : State × Nat :=
  match base with
  | 0xb0000 => -- PORT_CFG
    let restart := [F.PORT_CFG_MODE, F.PORT_CFG_FEC, F.PORT_CFG_AN37].any (fun f => s0.rd f i != s.rd f i) ||
      (s0.rdB F.PORT_CFG_ENABLE i && !s.rdB F.PORT_CFG_ENABLE i)
    let s1 := s.when restart (·.portReset i)
    plain ((s1.when (s0.rd F.PORT_CFG_TX_REF i != s.rd F.PORT_CFG_TX_REF i) (·.wr F.PORT_STATUS_TX_REF_FALLBACK i 0)
      ).bridgeReview (brOf i))
  | 0xb0038 => plain ((s.when (bitOf v 0) (·.restartLink i)).when (bitOf v 1) (·.restartEq i)) -- PORT_CTRL
  | 0xc0000 => plain (s.bridgeReview i) -- BR_CFG
  | 0xd0018 => -- SVC_TBL_CTRL
    match bitsOf v 28 4 with
    | 1 => plain s.tblRead
    | 2 => plain s.tblWrite
    | 3 => plain s.tblDelete
    | 4 => plain s.tblFind
    | _ => plain s
  | 0xf0110 => plain (s.adminCfgWrite i v) -- ADMIN_CFG
  | 0x100018 => -- PEER_SWITCH
    if bitOf v 1 then plain (s.switchForce (bitsOf v 16 16))
    else plain (s.when (bitOf v 0) (·.switchRequest 2 false none))
  | _ => plain s

/-- A write of FEED_CFG (R47, R48): a feed that is the only QUALIFIED one is not switched off. -/
def State.feedCfgWrite (s0 s : State) (n : Nat) : State × Nat :=
  if s0.rdB F.FEED_CFG_ENABLE n && !s.rdB F.FEED_CFG_ENABLE n then
    if s.feedState n == fsQUALIFIED && s.feedState (1 - n) != fsQUALIFIED then (s.wr F.FEED_CFG_ENABLE n 1, ocNO_REDUNDANCY)
    else
      let s := s.when (s.feedState n == fsTESTING) (·.abortTest)
      plain ((s.feedGoes n fsOFF).checkFeeds)
  else plain s

/-- A write of POWER_TEST (R49). -/
def State.powerTestWrite (s : State) (v : Nat) : State × Nat :=
  if bitOf v 0 && bitOf v 1 then s.startTestsAB
  else if bitOf v 0 then s.startTest 0
  else if bitOf v 1 then s.startTest 1
  else plain s

/-- Actions of the blocks FAULT to IDENT. -/
def State.actModule (s0 s : State) (m base i v : Nat) : State × Nat :=
  match base with
  | 0x110208 => plain (s.faultAck (bitsOf v 0 8)) -- FLT_ACK
  | 0x110260 => -- FLT_INJECT_CTRL
    let s1 := s.when (s0.rd F.FLT_INJECT_CTRL_BREAK != s.rd F.FLT_INJECT_CTRL_BREAK) (·.injectBreak (bitOf v 1))
    plain (s1.when (bitOf v 0) (·.injectGo))
  | 0x120008 => -- ATTIC_MB_CTRL
    match bitsOf v 28 4 with
    | 1 => plain s.mbRead
    | 2 => plain s.mbWrite
    | 3 => plain s.mbRawRead
    | 4 => plain s.mbRawWrite
    | _ => plain s
  | 0x120014 => plain (s.stagingPut v) -- ATTIC_MB_DATA
  | 0x130000 => s0.feedCfgWrite s i -- FEED_CFG
  | 0x130044 => s.powerTestWrite v -- POWER_TEST
  | 0x140050 => -- IDENT_TEST_CTRL
    let p := if bitOf v 0 then s.testModeTry m (bitsOf v 16 16) else plain s
    (p.1.when (bitOf v 1) (·.fuseBlow (bitsOf v 16 16)), p.2)
  | _ => plain s

/-- The action of a write, by block. -/
def State.act (s0 s : State) (m base i v : Nat) : State × Nat :=
  if base < 0x040000 then s0.actMeasure s m base i v
  else if base < 0x0B0000 then s0.actLoops s base i v
  else if base < 0x110000 then s0.actHost s base i v
  else s0.actModule s m base i v

/-- The write is recorded for R17: the registers written in this tick and their masters. -/
def State.noteWritten (s : State) (m a : Nat) (r : Reg) : State :=
  if r.banked || !(r.flds.any fun f => f.stored || f.acc == .WT) then s
  else { s with cp := { s.cp with written := s.cp.written ++ [(a, m)] } }

/-- A write to a register of the map, not refused: the fields, the action, the reserved bits. -/
def State.applyAt (s : State) (m a : Nat) (r : Reg) (i v : Nat) : State × Nat :=
  let p := s.act ((s.noteWritten m a r).storeFields r i v) m r.base i v
  if r.reservedSet v then (p.1.ignored, ocFirst p.2 ocIGNORED) else p

/-- A write at its commit time, to a BAR0 offset: the state after it and its outcome. -/
def State.writeAt (s : State) (m a v : Nat) : State × Nat :=
  if inClientWindow a then (s.clientWindow, ocIGNORED)
  else match placeOf m a with
    | none => (s.ignored, ocIGNORED)
    | some (r, i) =>
      match s.refusal m r i v with
      | none => s.applyAt m a r i v
      | some c =>
        if c == ocLOCKED then (s.noteLocked m a 2, c)
        else if c == ocNOT_OWNER then (s.noteNotOwner m a 2, c)
        else (s.noteRetired (i / r.c2), c)

/-- The commit time of a master's last write (GLOBAL_COMMIT_TIME, LAST_COMMIT). -/
def State.noteCommit (s : State) (m : Nat) : State :=
  match bankOf m with
  | none => s
  | some b =>
    let t := t96 s.now
    { s with cp := { s.cp with last := Tab.put s.cp.last b t } }.wr F.GLOBAL_COMMIT_TIME_NS b (bitsOf t 16 32)

/-- A write of a VF to its page (R301, R302, R304); the commit point tells a VF nothing. -/
def State.pageWrite (s : State) (v a x : Nat) : State :=
  if !s.vfOn v then s
  else match placeOf v a with
    | none => s
    | some (r, i) =>
      match r.base with
      | 0x0 => s.when (bitOf x 0) (·.timeSnapshot v s.now) -- TM_CTRL
      | 0x38 => s.vfEvtCfg v x -- VF_EVT_CFG
      | 0x40 => s.vfEvtCons v x false -- VF_EVT_CONS
      | 0x44 => s.vfEvtCons v x true -- VF_EVT_CONS_ARM
      | _ => s.storeFields r i x

/-- One write, at its commit time (R366, R367, R371, R372). -/
def State.applyWrite (s : State) (w : PendWrite) : State :=
  if isVf w.master then s.pageWrite w.master w.addr w.value
  else
    let p := s.writeAt w.master w.addr (w.value % 2 ^ 32)
    (p.1.outcome w.master p.2 w.addr).noteCommit w.master

/-! Ticks. -/

/-- Writes in ascending master number, one master's in the order it issued them (R17). -/
def byMaster (l : List PendWrite) : List PendWrite := (List.range 20).flatMap fun m => l.filter fun w => w.master == m

/-- The masters that wrote an address in this tick. -/
def mastersOf (l : List (Nat × Nat)) (a : Nat) : List Nat := (l.filter fun p => p.1 == a).map (·.2)

/-- WRITE_COLLISION (R17): one record per register that two masters or more wrote in the tick. -/
def State.collisions (s : State) : State :=
  let l := s.cp.written
  let s := { s with cp := { s.cp with written := [] } }
  ((l.map (·.1)).eraseDups).foldl (fun t a =>
    let ms := mastersOf l a
    let lo := ms.foldl min 20
    let hi := ms.foldl max 0
    if lo < hi then (t.bump F.GLOBAL_COLLISIONS_COUNT).info 70 uMODULE a lo hi else t) s

/-- The writes that wait are applied (R17). -/
def State.applyQueue (s : State) : State :=
  let q := s.cp.queue
  ((byMaster q).foldl State.applyWrite { s with cp := { s.cp with queue := [], written := [] } }).collisions

/-- REGISTER_WRITE (R15): a write reaches the commit point. -/
def State.registerWrite (s : State) (m a v : Nat) : State :=
  { s with cp := { s.cp with queue := s.cp.queue ++ [{ master := m, addr := a, value := v }] } }

/-- COMMIT_TICK (R15, R17): the counter reaches the next commit-tick boundary and every waiting write applies. -/
def State.commitTick (s : State) : State :=
  if s.tm.running then (s.advanceTo (nextBoundary unitsPerUs s.now)).applyQueue else s

/-- PROVISIONAL_TICK (R16): a tick of the provisional series, which runs while the counter does not. -/
def State.provisionalTick (s : State) : State := if s.tm.running then s else s.applyQueue

/-- R19: a read by a master is not served before its own earlier writes have applied, at the next tick. -/
def State.readReady (s : State) (m : Nat) : State :=
  if s.cp.queue.any fun w => w.master == m then
    (if s.tm.running then s.commitTick else s.provisionalTick)
  else s

end Sys2Proof.Machine
end

