-- ==== Sys2Proof/Machine/SmBus.lean ====
section
/-! DEFINITION. Register accesses over the SMBus (R373) and the service port's REGACC (R379). -/

namespace Sys2Proof.Machine

/-- PEC: the CRC-8 of SMBus 3.0 over the bytes of the transaction, address byte first (log 38). -/
def smbPec (l : List Nat) : Nat :=
  l.foldl (fun c b => (List.range 8).foldl (fun x _ => if 128 ≤ x then (x * 2 ^^^ 0x07) % 256 else x * 2) (c ^^^ (b % 256))) 0

/-- The module answers at its register address, from Stage 1 on, while unit SMBUS is in service. -/
def State.smbHere (s : State) (sa : Nat) : Bool :=
  sa == s.rd F.GLOBAL_STRAPS_SMB_ADDR && s.stage != 0 && s.inService uSMBUS

/-- A byte is not acknowledged; `counted` for a wrong code, count or n. -/
def State.smbNack (s : State) (counted : Bool) : State :=
  (s.when counted (·.bump F.GLOBAL_SMB_STATUS_NACKS)).emitOut (.smbus none)

/-- `n` 32-bit big-endian values in a list of bytes. -/
def beWords (l : List Nat) : Nat → List Nat
  | 0 => []
  | n + 1 => beNat (l.take 4) :: beWords (l.drop 4) n

/-- Consecutive registers, written in ascending offset (R373). -/
def State.writeRun (s : State) (m a : Nat) : List Nat → State
  | [] => s
  | v :: l => (s.registerWrite m a v).writeRun m (a + 4) l

/-- Consecutive registers, read. -/
def State.readRun (s : State) (m a : Nat) : Nat → State × List Nat
  | 0 => (s, [])
  | n + 1 =>
    let p := s.readReg m a
    let q := p.1.readRun m (a + 4) n
    (q.1, p.2 :: q.2)

/-- One of the writes carries OP = WRITE of ATTIC_MB_CTRL (R353). -/
def carriesAtticWrite (a : Nat) : List Nat → Bool
  | [] => false
  | v :: l => (a == 0x120008 && bitsOf v 28 4 == 2) || carriesAtticWrite (a + 4) l

/-- A block write: count byte, then OFFSET and the values, then the PEC if the master appends it. -/
def State.smbWrite (s : State) (sa code count : Nat) (data : List Nat) (pec : Option Nat) : State :=
  let bad := match pec with
    | some x => x != smbPec ([sa * 2, code, count] ++ data)
    | none => false
  let a := beNat (data.take 4)
  let vs := beWords (data.drop 4) ((count - 4) / 4)
  if data.length ≠ count then s
  else if carriesAtticWrite a vs && !s.at_.port.isEmpty then (s.mbResult 6).smbNack false
  else if bad then (s.bump F.GLOBAL_SMB_STATUS_PEC_ERRORS).smbNack false
  else (s.writeRun 16 a vs).emitOut (.smbus (some []))

/-- SMB_BLOCK_WRITE: command 0x10, one register write. -/
def State.smbBlockWrite (s : State) (sa count : Nat) (data : List Nat) (pec : Option Nat) : State :=
  if !s.smbHere sa then s
  else if count ≠ 8 then s.smbNack true
  else s.smbWrite sa 0x10 count data pec

/-- SMB_BLOCK_WRITE_MULTI: command 0x11, n writes to consecutive registers. -/
def State.smbBlockWriteMulti (s : State) (sa count : Nat) (data : List Nat) (pec : Option Nat) : State :=
  if !s.smbHere sa then s
  else if count % 4 ≠ 0 || count < 8 || 36 < count then s.smbNack true
  else s.smbWrite sa 0x11 count data pec

/-- SMB_BLOCK_READ: command 0x20, n reads of consecutive registers. The clock is stretched until the values are served,
which is not before the commit time of the master's own writes (R19). -/
def State.smbBlockRead (s : State) (sa count : Nat) (data : List Nat) : State :=
  let n := data.getD 4 0
  if !s.smbHere sa then s
  else if count ≠ 5 || n < 1 || 8 < n then s.smbNack true
  else if data.length ≠ count then s
  else
    let p := (s.readReady 16).readRun 16 (beNat (data.take 4)) n
    p.1.emitOut (.smbus (some ((4 * n) :: p.2.flatMap (beBytes 4))))

/-- SMB_BAD_COMMAND: an unknown command code is answered with a NACK of that byte. -/
def State.smbBadCommand (s : State) (sa code : Nat) : State :=
  if !s.smbHere sa || code == 0x10 || code == 0x11 || code == 0x20 then s else s.smbNack true

/-- REGACC (R379): Capture-DR shifts out the data of the last read; at Update-DR the access is made as master 18. It is
ignored while the fuse is being programmed (R381). -/
def State.tapRegacc (s : State) (write : Bool) (a v : Nat) : State :=
  if !s.portOpen then s
  else
    let last := s.id_.tapRead
    let s := (s.wr F.IDENT_SP_STATUS_INSTRUCTION 0 0x10).emitOut (.tdo ((List.range 32).map (bitOf last)))
    if s.rdB F.IDENT_FUSE_FUSE_BUSY then s
    else
      let s := s.bump F.IDENT_SP_STATUS_ACCESSES
      if write then s.registerWrite 18 a v
      else
        let p := (s.readReady 18).readReg 18 a
        { p.1 with id_ := { p.1.id_ with tapRead := p.2 } }

end Sys2Proof.Machine
end

