-- ==== Sys2Proof/Machine/Boot.lean ====
section
/-! DEFINITION. How a start begins: rails good, RESET_N, the boot read, and the full resets the host or a reaction asks for
(R56, R57, R65, R83, R299, R305, R359, R376, R387). -/

namespace Sys2Proof.Machine

/-- The straps are sampled. -/
def State.sampleStraps (s : State) (x : Straps) : State :=
  let a := 2 * b2n x.addr1 + b2n x.addr0
  let sole := !x.claimP && !x.claimN
  let s := s.wrAll
    [(F.GLOBAL_STRAPS_SLOT, 0, b2n x.slot), (F.GLOBAL_STRAPS_ADDR0, 0, b2n x.addr0), (F.GLOBAL_STRAPS_ADDR1, 0, b2n x.addr1),
     (F.GLOBAL_STRAPS_TEST_EN, 0, b2n x.testEn), (F.GLOBAL_STRAPS_PMBUS_ADDR, 0, 0x44 + a),
     (F.GLOBAL_STRAPS_SMB_ADDR, 0, 0x60 + a), (F.PEER_STRAPS_SLOT, 0, b2n x.slot), (F.PEER_STRAPS_SOLE, 0, b2n sole),
     (F.PEER_STRAPS_CLAIM_IN_P, 0, b2n x.claimP), (F.PEER_STRAPS_CLAIM_IN_N, 0, b2n x.claimN),
     (F.IDENT_FUSE_TEST_EN, 0, b2n x.testEn), (F.PEER_STATUS_PAIR_STATE, 0, if sole then psSOLE else psWAITING)]
  s.when (!x.testEn) (·.leaveTestMode)

/-- A full reset takes place: the log page in progress is written (R356), the registers return to reset; the stage change
and each cleared latch entry are told by the merger after it (R64, R335). -/
def State.resetNow (s : State) (cause row : Nat) : State :=
  let old := s.stage
  let cleared := s.flt.latches.map (·.2)
  let s := (s.logPageWrite).fullReset cause
  let s := s.when (old != 0) (·.info 64 uMODULE old 0 row)
  cleared.foldl (fun t l => t.info 101 l.unit l.source l.unit 0) s

/-- RAILS_GOOD (Table 3.3): a feed is QUALIFIED and the rails are within tolerance. The pilot and the fabric start, the
straps are sampled, the hold-up bank is measured. -/
def State.railsGood (s : State) (x : Straps) (holdupUs bankV : Nat) : State :=
  if s.rdB F.POWER_STATUS_RAILS_GOOD || !s.anyFeed then s
  else
    let s := (s.fullReset 1).wrAll [(F.POWER_STATUS_RAILS_GOOD, 0, 1), (F.POWER_STATUS_PWR_FAIL, 0, 0),
      (F.HOST_RESET_INFO_COUNT, 0, 0), (F.HOST_RESET_INFO_LAST, 0, 0)]
    let s := { s with pw := { s.pw with railOff := false, powerDown := false } }
    (((s.porchTrace 2 0).lifeBump 1 1).sampleStraps x).measureBank holdupUs bankV

/-- RESET_N_LOW (R56): a low pulse of RESET_N, in ns. From 1 µs on it resets; below 200 ns it does not; between the two the
pilot decides, which is a free choice. -/
def State.resetNLow (s : State) (ns : Nat) : State :=
  if !s.rdB F.POWER_STATUS_RAILS_GOOD || ns < 200 then s
  else
    let open_ := ns < 1000
    let hit := !open_ || s.freeBool
    let s := if open_ then s.drawn else s
    if hit then
      let t := s.resetNow 2 7
      { t with pw := { t.pw with resetLow := true } }
    else s

/-- RESET_N_RELEASE (R56, R57): the straps and the claim pins are sampled and the start begins. -/
def State.resetNRelease (s : State) (x : Straps) : State :=
  if s.pw.resetLow then { s with pw := { s.pw with resetLow := false } }.sampleStraps x else s

/-- FULL_RESET_START (R299, R337): the full reset that FULL_RESET or a reaction has asked for. -/
def State.fullResetStart (s : State) : State :=
  match s.hs.resetDue with
  | none => s
  | some cause =>
    let s := s.resetNow cause 7
    s.when (cause == 4) fun t => (t.wr F.HOST_RESET_INFO_LAST 0 5).bump F.HOST_RESET_INFO_COUNT

/-! The boot profile (R359). -/

/-- The blocks of a BOOT instance, by wide index. -/
def bootBlocks (i : Nat) : List Nat :=
  if i < 14 then [i + 1] else if i = 14 then [0x10] else [0x11, 0x13]

/-- The bits of a register that a boot value may set: its RW, PR and CM fields. -/
def Reg.bootBits (r : Reg) (i v : Nat) : Nat :=
  ((r.flds.filter fun f => f.stored && !keptApart r f i).map fun f => bitsOf v f.lsb f.width * 2 ^ f.lsb).sum

/-- One boot value, written by master 19. -/
def State.bootWrite (s : State) (a v : Nat) : State :=
  match placeOf 19 a with
  | some (r, i) => s.applyWrite { master := 19, addr := a, value := r.bootBits i v }
  | none => s.applyWrite { master := 19, addr := a, value := 0 }

/-- The values of one run. -/
def State.bootValues (s : State) (a : Nat) : List Nat → State
  | [] => s
  | v :: l => (s.bootWrite a v).bootValues (a + 4) l

/-- The runs of an instance, in payload order: the state, and whether all of them applied. -/
def State.bootRuns (blocks : List Nat) : Nat → State → List Nat → State × Bool
  | _, s, [] => (s, true)
  | 0, s, _ => (s, false)
  | fuel + 1, s, h :: l =>
    let n := bitsOf h 21 11
    let a := bitsOf h 0 21
    if n = 0 || a % 4 ≠ 0 || l.length < n || !blocks.contains (blockOf a) || blockOf a ≠ blockOf (a + 4 * (n - 1)) then (s, false)
    else State.bootRuns blocks fuel (s.bootValues a (l.take n)) (l.drop n)

/-- Instance i is read and written. -/
def State.bootInstance (s : State) (i : Nat) : State :=
  let bad := fun t : State => t.wr F.ATTIC_BOOT_STATUS_BAD 0 (t.rd F.ATTIC_BOOT_STATUS_BAD ||| 2 ^ i)
  match recType rtBOOT with
  | none => s
  | some r =>
    let c := s.chooseCopy r i
    let p := s.useRecord rtBOOT i
    match p.2 with
    | none => p.1.when (c.rcd.isNone && !c.bothEmpty) bad
    | some x =>
      let q := State.bootRuns (bootBlocks i) x.payload.length p.1 (beWords x.payload (x.payload.length / 4))
      if q.2 && x.payload.length % 4 = 0 then
        q.1.wr F.ATTIC_BOOT_STATUS_APPLIED 0 (q.1.rd F.ATTIC_BOOT_STATUS_APPLIED ||| 2 ^ i)
      else (bad q.1).atticFault 49 (copyPage r i false) rtBOOT

/-- The whole profile: after instance 7 the sequencer writes SYNTH_COMMIT.GO. -/
def State.bootProfile (s : State) : State :=
  State.forAll 16 (fun i t => (t.bootInstance i).when (i == 7) (·.commitGo)) s

/-- The retire list in use (R128, R350). -/
def State.loadRetireList (s : State) : State :=
  let p := s.useRecord rtRETIRE_LIST 0
  match p.2 with
  | none => p.1
  | some x =>
    { p.1 with ql := { p.1.ql with list := retireOf x.payload } }.wrAll
      [(F.QUAL_RETIRE_STATUS_LIST_SEQ, 0, x.seq), (F.QUAL_RETIRE_STATUS_CONFLICT, 0, b2n x.conflict)]

/-- The OCXO's factory model is looked for (R387): a record that is not found raises source 49. -/
def State.loadFactory (s : State) : State :=
  match recType rtFACTORY with
  | none => s
  | some r =>
    let c := s.chooseCopy r 4
    (s.useRecord rtFACTORY 4).1.when c.bothEmpty (·.atticFault 49 (copyPage r 4 false) rtFACTORY)

/-- BOOT_READ_DONE (Table 3.1, row 1): the records that the start needs have been read, the boot profile is written, the
module enters Stage 1 and the oscillators' qualification starts. -/
def State.bootReadDone (s : State) : State :=
  if s.stage ≠ 0 || !s.rdB F.POWER_STATUS_RAILS_GOOD || s.pw.resetLow || s.pw.powerDown then s
  else
    let s := ((s.loadIdentity.loadLastGasp).loadRetireList).loadFactory
    let s := State.forAll 16 (fun d t => t.restoreSummary d) s
    let s := s.bootProfile.setStage 1 1
    let s := ((s.startAttempt 0).startAttempt 1).syncShutters
    s.when s.hs.l0 (·.wr F.HOST_STATUS_READY 0 1)

end Sys2Proof.Machine
end

