-- ==== Sys2Proof/Machine/Epochs.lean ====
section
/-! DEFINITION. The epoch series (R14, R16, R20–R22): what a decision epoch puts in effect, what it snapshots and what it
decides for the next boundary; service and model epochs, hourly points, a missed deadline, the fabric's supply (R12). -/

namespace Sys2Proof.Machine

/-! Results that wait for a boundary (R20). -/

/-- A result of the last epoch takes effect; its records carry this boundary's time (R26). -/
def State.applyEff (s : State) : Eff → State
  | .reg key value => { s with regs := Tab.set s.regs key value 0 }
  | .upd key was now_ =>
    if Tab.find s.regs key = was then
      { s with regs := match now_ with
        | some v => Tab.put s.regs key v
        | none => Tab.erase s.regs key }
    else s
  | .info source unit detail => s.infoAt s.now source unit detail
  | .fault source unit a b => s.fault source unit a b
  | .dpll d old act => s.dpApply d old act
  | .pairOk k => s.pairLeaves k
  | .pairBad k => s.pairEnters k
  | .esmc p => s.esmcChanged p
  | .svc => s.info 94 uPTPSRV 0 0 0
  | .servo k old new => s.pkApply k old new

/-- Everything the last epoch decided takes effect, in the order decided. -/
def State.applyEffects (s : State) : State :=
  s.ep.effects.foldl State.applyEff { s with ep := { s.ep with effects := [] } }

/-- The register entries in which an evaluation differs from the state it started from. -/
def regDiff (old new : Tab Nat) : List Eff :=
  ((new.filter fun p => Tab.find old p.1 != some p.2).map fun p => Eff.upd p.1 (Tab.find old p.1) (some p.2)) ++
    ((old.filter fun p => (Tab.find new p.1).isNone).map fun p => Eff.upd p.1 (some p.2) none)

/-- An evaluation is carried out on the snapshot: the registers it would change wait for the next boundary. -/
def State.deferred (s : State) (f : State → State) : State :=
  let t := f s
  { t with regs := s.regs, ep := { t.ep with effects := t.ep.effects ++ regDiff s.regs t.regs } }

/-! What comes into force at a boundary. -/

/-- Severities written since the last epoch come into force; every change emits source 104 (R333). -/
def State.takeSeverities (s : State) : State :=
  State.forAll 64 (fun n t =>
    let w := t.rd F.FLT_SRC_CFG_SEVERITY n
    let old := t.severityOf n
    if w = old then t
    else ({ t with flt := { t.flt with severity := t.flt.severity.set n w (F.FLT_SRC_CFG_SEVERITY.reset n) } }).info 104
      uMODULE 0 0 0) s

/-- The PEER configuration comes into force (R327): a claim that CLAIM_EN no longer allows is released (R309). -/
def State.takePeerCfg (s : State) : State :=
  let s := { s with pr := { s.pr with cfg := s.latchRegs F.PEER_CFG_CLAIM_EN.id F.PEER_MSG_RX_COUNT.id } }
  (s.when (!s.isSole && s.claims && s.peerRd F.PEER_CFG_CLAIM_EN == 0) (·.releaseClaim)).pairReview

/-- DP_FREE_WORD of a DPLL that runs on it comes into force (R167). -/
def State.takeFreeWord (s : State) (d : Nat) : State :=
  if (s.dpSt d == 0 || s.dpSt d == 1) && s.dpFree d && (s.dpll d).word != s.freeWord d then s.putWord d (s.freeWord d) else s

/-- Configuration of the loops, the servos, the pair and the faults with commit time at or before this boundary. -/
def State.takeConfig (s : State) : State :=
  let s := s.takeSeverities
  let s := s.when (s.rd F.TIME_CFG_DPLL != s.timeDpll) fun t => t.takeCounter (t.rd F.TIME_CFG_DPLL)
  let s := State.forAll 16 (fun d t => (t.latchCfg d).takeFreeWord d) s
  (s.takePeerCfg).latchServos

/-- A shuttered output has reached its static level by the next decision epoch (R197). -/
def State.settleShutters (s : State) : State :=
  State.forAll 24 (fun n t => if (t.outSt n).shut then t.setOut n { t.outSt n with static := true } else t) s

/-! What an epoch decides. -/

/-- The stage conditions of a decision epoch: row 5 of Table 3.1, and whether HOLDOFF_S runs (R65). -/
def State.stageEpoch (s : State) : State :=
  let d := s.timeDpll
  let traceable := match (s.dpll d).recipe with
    | some r => r.traceable
    | none => false
  let s := { s with ck := { s.ck with holdoffRuns := s.stage == 2 && s.dpSt d == 3 && traceable } }
  let oos := (s.dpll d).episode.isSome && s.rdB F.HOLD_STATUS_OUT_OF_SPEC d
  let down := fun t : State => fun cause : Nat =>
    ({ t with ck := { t.ck with stageReq := some (2, 5) } }).later (.reg (F.CLK_STAGE_STATUS_LAST_DOWN_CAUSE.key 0) cause)
  let s := if s.stage == 3 && s.ck.stageReq.isNone then
      if oos then down s 2 else if s.dpSt d == 1 then down s 3 else s
    else s
  s.directStage

/-- The last whole second at which the time DPLL was `LOCKED` is kept up. -/
def State.noteLocked_ (s : State) : State :=
  if s.dpSt s.timeDpll == 3 then { s with sv := { s.sv with lockedSec := s.now / unitsPerSec } } else s

/-- Pairs, qualification, tree, loops, ESMC levels, service state and servos on the snapshot of R20. -/
def State.evaluate (s : State) : State :=
  (((((s.checkPairs.qualEpoch).treeEpoch).dpllEpochs).esmcEpoch).svcEpoch).servoEpochs

/-- The work of a decision epoch, or of a provisional one (R16): effects, configuration, commit validation (R190), the base
move that waits for an epoch (R77), a handover's release (R324); then the decisions. -/
def State.epochWork (s : State) : State :=
  let s := { s with cp := { s.cp with epochs := s.cp.epochs + 1 }, flt := { s.flt with onceThisEpoch := [] } }
  let s := s.applyEffects
  let s := (s.takeStage.takeConfig).commitValidate
  let s := (s.syncShutters.settleShutters).handoverRelease
  let s := s.when (s.rdB F.CLK_BASE_STATUS_MOVE_PENDING && s.rdB F.CLK_BASE_CFG_AUTO_MOVE) (·.baseMove)
  let s := s.noteLocked_
  let s := (s.deferred State.evaluate).stageEpoch
  (s.orderStep (nextBoundary unitsPerEpoch s.now)).notifyReview

/-! Meanings. -/

/-- The counter reaches the next decision-epoch boundary: writes that wait apply at their ticks first, an ordered step is
made at its boundary (R209). -/
def State.toEpoch (s : State) : State :=
  if s.tm.stepEpoch then { s with tm := { s.tm with stepEpoch := false } }
  else match s.tm.ordered with
    | some _ =>
      let s := s.when (!s.cp.queue.isEmpty) (·.commitTick)
      let s := s.timeStep
      { s with tm := { s.tm with stepEpoch := false } }
    | none =>
      let t := s.boundary unitsPerEpoch s.tm.lastEpoch
      let s := s.when (!s.cp.queue.isEmpty && s.now < t) (·.commitTick)
      s.advanceTo t

/-- DECISION_EPOCH (R14, R20): a 125 µs boundary of the counter. -/
def State.decisionEpoch (s : State) : State :=
  if s.tm.running then
    let s := s.toEpoch
    { s with tm := { s.tm with lastEpoch := some s.now } }.epochWork
  else s

/-- PROVISIONAL_EPOCH (R16): an epoch of the provisional series; its own tick applies the writes that wait first. -/
def State.provisionalEpoch (s : State) : State :=
  if s.tm.running || s.stage == 0 then s else s.provisionalTick.epochWork

/-- EPOCH_MISS (R21): the work of a series (0 loop update, 1 decision, 2 service, 3 model, as Table 1.3 counts after the
commit tick) has not completed by its deadline: source 2, and no result of it is applied. -/
def State.epochMiss (s : State) (series : Nat) : State :=
  let at_ := match series with
    | 1 => s.tm.lastEpoch
    | 2 => s.tm.lastService
    | 3 => s.tm.lastModel
    | _ => none
  let s := if series = 1 then { s with ep := { s.ep with effects := [] } } else s
  s.fault 2 uMODULE (series + 1) (bitsOf (t96 (at_.getD s.now)) 16 32)

/-- SERVICE_EPOCH (R259): a 7.8125 ms boundary. -/
def State.serviceEpoch (s : State) : State :=
  if s.tm.running then
    let s := s.advanceTo (s.boundary unitsPerService s.tm.lastService)
    let s := { s with tm := { s.tm with lastService := some s.now } }
    ((s.serverEpoch).servoService).mirrorSend
  else s

/-- Numbers of the fields that the digest of R322 covers. -/
def digestFields : List Nat :=
  (((regsInputs ++ regsQual ++ regsTree ++ regsDpll ++ regsHold ++ regsSynth ++ regsTime ++ regsService).flatMap (·.flds)
    ).filter (·.stored)).map (·.id)

/-- The configuration digest. -/
def State.cfgDigest (s : State) : Nat := Config.cfgDigest (s.regs.filter fun p => digestFields.contains (p.1 / 65536)) % 2 ^ 32

/-- TDC_CH_RATE over the last full second. -/
def State.channelRate (s : State) (c : Nat) : State :=
  let n := s.rd F.TDC_CH_STAMPS_COUNT c
  let x := s.chan c
  (s.setChan c { x with stampsAt := n }).wr F.TDC_CH_RATE_RATE c ((n + 2 ^ 32 - x.stampsAt) % 2 ^ 32)

/-- MODEL_EPOCH (R173, R175, R179, R149, R271, R322): a whole second of the counter. -/
def State.modelEpoch (s : State) : State :=
  if s.tm.running then
    let s := s.advanceTo (s.boundary unitsPerSec s.tm.lastModel)
    let s := { s with tm := { s.tm with lastModel := some s.now }, ep := { s.ep with models := s.ep.models + 1 } }
    let s := State.forAll 16 (fun d t => t.holdEpoch d) s
    let s := (State.forAll 28 (fun c t => t.channelRate c) s.adaptMixes).servoModels
    s.ownDigest s.cfgDigest
  else s

/-- HOURLY_POINT (R173, R174, R177): every 3,600 s from T96 zero each DPLL forms its point and fits, and its summary is
committed. -/
def State.hourlyPoint (s : State) : State :=
  if s.tm.running then
    let s := s.advanceTo (s.boundary (3600 * unitsPerSec) s.tm.lastHour)
    let s := { s with tm := { s.tm with lastHour := some s.now } }
    State.forAll 16 (fun d t => (t.hourPoint d).commitSummary d) s
  else s

/-- VFAB_UPDATE (R12, R13): the worst slack in % of the matched delay, and whether it has stayed above 40 % for 10 ms. -/
def State.vfabUpdate (s : State) (slack : Nat) (steady : Bool) : State :=
  if s.stage == 0 then s
  else
    let v := s.rd F.GLOBAL_FABRIC_VFAB_MV
    let top := v == 880
    let v := if slack < 25 then v + 4 else if 40 < slack && steady then v - 4 else v
    let v := max 720 (min 880 v)
    let s := s.wrAll [(F.GLOBAL_FABRIC_VFAB_MV, 0, v), (F.GLOBAL_FABRIC_SLACK_PCT, 0, slack)]
    s.when (slack < 10 && top) (·.fault 6 uMODULE slack v)

end Sys2Proof.Machine
end

