-- ==== Sys2Proof/Machine/CmdAccess.lean ====
section
/-! DEFINITION. The meanings of the commands of wide access, SMBus, service port: one definition per command, each a call of the operation that its
rule describes. -/

namespace Sys2Proof.Machine

/-- WIDE_CAPTURE (R369). -/
def execWideCapture (bank : Fin 4) (block : Nat) (item : Nat) (s : State) : Host.Outcome State Fault Refusal :=
  .next (s.wideCapture bank block item)

/-- WIDE_WRITE (R369). -/
def execWideWrite (m : Fin 20) (block : Nat) (item : Nat) (s : State) : Host.Outcome State Fault Refusal :=
  .next (s.wideWrite m block item)

/-- SMB_BLOCK_WRITE (R373). -/
def execSmbBlockWrite (sa : Nat) (count : Nat) (data : List Nat) (pec : Option Nat) (s : State) : Host.Outcome State Fault Refusal :=
  .next (s.smbBlockWrite sa count data pec)

/-- SMB_BLOCK_WRITE_MULTI (R373). -/
def execSmbBlockWriteMulti (sa : Nat) (count : Nat) (data : List Nat) (pec : Option Nat) (s : State) : Host.Outcome State Fault Refusal :=
  .next (s.smbBlockWriteMulti sa count data pec)

/-- SMB_BLOCK_READ (R373). -/
def execSmbBlockRead (sa : Nat) (count : Nat) (data : List Nat) (s : State) : Host.Outcome State Fault Refusal :=
  .next (s.smbBlockRead sa count data)

/-- SMB_BAD_COMMAND (R373). -/
def execSmbBadCommand (sa : Nat) (code : Nat) (s : State) : Host.Outcome State Fault Refusal :=
  .next (s.smbBadCommand sa code)

/-- EXTEST (R379). -/
def execExtest (pins : List Bool) (shift : List Bool) (s : State) : Host.Outcome State Fault Refusal :=
  .next (s.tapExtest pins shift)

/-- SAMPLE_PRELOAD (R379). -/
def execSamplePreload (pins : List Bool) (shift : List Bool) (s : State) : Host.Outcome State Fault Refusal :=
  .next (s.tapScan 0x01 pins shift)

/-- IDCODE (R379). -/
def execIdcode (s : State) : Host.Outcome State Fault Refusal := .next s.tapIdcode

/-- REGACC (R379). -/
def execRegacc (write : Bool) (addr : Nat) (value : Nat) (s : State) : Host.Outcome State Fault Refusal :=
  .next (s.tapRegacc write addr value)

/-- BYPASS (R379). -/
def execBypass (code : Nat) (shift : List Bool) (s : State) : Host.Outcome State Fault Refusal :=
  .next (s.tapBypass code shift)

/-- TAP_RESET (R379). -/
def execTapReset (s : State) : Host.Outcome State Fault Refusal := .next s.tapReset

/-- TEST_MODE_ENTER (R380). -/
def execTestModeEnter (m : Fin 20) (key : Nat) (s : State) : Host.Outcome State Fault Refusal :=
  .next (s.testModeEnter m key)

/-- FUSE_BLOW (R381). -/
def execFuseBlow (key : Nat) (s : State) : Host.Outcome State Fault Refusal := .next (s.fuseBlow key)

/-- FUSE_BLOW_DONE (R381). -/
def execFuseBlowDone (s : State) : Host.Outcome State Fault Refusal := .next s.fuseBlowDone

end Sys2Proof.Machine
end

