-- ==== Sys2Proof/Machine/CmdAdmin.lean ====
section
/-! DEFINITION. The meanings of the commands of admin commands: one definition per command, each a call of the operation that its
rule describes. -/

namespace Sys2Proof.Machine

/-- ADMIN_ENABLE (R293). -/
def execAdminEnable (a : Fin 2) (value : Nat) (s : State) : Host.Outcome State Fault Refusal :=
  .next (s.adminCfgWrite a value)

/-- NEGOTIATE (R294). -/
def execNegotiate (a : Fin 2) (s : State) : Host.Outcome State Fault Refusal := .next (s.negotiate a)

/-- CREATE_REEL (R295). -/
def execCreateReel (a : Fin 2) (s : State) : Host.Outcome State Fault Refusal := .next (s.createReelCmd a)

/-- DESTROY_REEL (R296). -/
def execDestroyReel (a : Fin 2) (s : State) : Host.Outcome State Fault Refusal := .next (s.destroyReelCmd a)

/-- SET_VECTOR (R300). -/
def execSetVector (a : Fin 2) (s : State) : Host.Outcome State Fault Refusal := .next (s.setVector a)

/-- ATTIC_READ (R298). -/
def execAtticRead (a : Fin 2) (ok : Bool) (s : State) : Host.Outcome State Fault Refusal := .next (s.atticReadCmd a ok)

/-- ATTIC_WRITE (R298). -/
def execAtticWrite (a : Fin 2) (buffer : Option (List Nat)) (s : State) : Host.Outcome State Fault Refusal :=
  .next (s.atticWriteCmd a buffer)

/-- FULL_RESET (R299). -/
def execFullReset (a : Fin 2) (s : State) : Host.Outcome State Fault Refusal := .next (s.fullResetCmd a)

/-- FULL_RESET_START (R299). -/
def execFullResetStart (s : State) : Host.Outcome State Fault Refusal := .next s.fullResetStart

/-- PAIR_SWITCH (R324). -/
def execPairSwitch (a : Fin 2) (s : State) : Host.Outcome State Fault Refusal := .next (s.pairSwitchCmd a)

/-- REEL_STATUS (R294). -/
def execReelStatus (a : Fin 2) (s : State) : Host.Outcome State Fault Refusal := .next (s.reelStatusCmd a)

/-- DRAIN_REEL (R296). -/
def execDrainReel (a : Fin 2) (s : State) : Host.Outcome State Fault Refusal := .next (s.drainReelCmd a)

/-- DRAIN_TIMEOUT (R296). -/
def execDrainTimeout (a : Fin 2) (s : State) : Host.Outcome State Fault Refusal := .next (s.drainTimeout a)

/-- ADMIN_BAD_OPCODE (R294). -/
def execAdminBadOpcode (a : Fin 2) (s : State) : Host.Outcome State Fault Refusal := .next (s.adminBadOpcode a)

end Sys2Proof.Machine
end

