-- ==== Sys2Proof/Machine/CmdAttic.lean ====
section
/-! DEFINITION. The meanings of the commands of the attic: one definition per command, each a call of the operation that its
rule describes. -/

namespace Sys2Proof.Machine

/-- ATTIC_COMMIT_DONE (R351). -/
def execAtticCommitDone (failed : Option (Bool × Nat)) (us : Nat) (s : State) : Host.Outcome State Fault Refusal :=
  .next (s.commitDone failed us)

/-- ATTIC_MB_READ (R353). -/
def execAtticMbRead (s : State) : Host.Outcome State Fault Refusal := .next s.mbRead

/-- ATTIC_MB_WRITE (R353). -/
def execAtticMbWrite (s : State) : Host.Outcome State Fault Refusal := .next s.mbWrite

/-- ATTIC_MB_RAW_READ (R361). -/
def execAtticMbRawRead (s : State) : Host.Outcome State Fault Refusal := .next s.mbRawRead

/-- ATTIC_MB_RAW_WRITE (R361). -/
def execAtticMbRawWrite (s : State) : Host.Outcome State Fault Refusal := .next s.mbRawWrite

/-- LOG_PAGE_WRITE (R356). -/
def execLogPageWrite (s : State) : Host.Outcome State Fault Refusal := .next s.logPageWrite

/-- POWER_ON_HOUR (R357). -/
def execPowerOnHour (s : State) : Host.Outcome State Fault Refusal := .next s.powerOnHour

/-- ATTIC_SCAN_PAGE (R358). -/
def execAtticScanPage (weak : Bool) (single : Nat) (bad : List Nat) (s : State) : Host.Outcome State Fault Refusal :=
  .next (s.scanPage weak single bad)

end Sys2Proof.Machine
end

