-- ==== Sys2Proof/Machine/CmdBlock.lean ====
section
/-! DEFINITION. The meanings of the commands of register writes, ticks and epochs, the merger: one definition per command, each a call of the operation that its
rule describes. -/

namespace Sys2Proof.Machine

/-- REGISTER_WRITE (R366). -/
def execRegisterWrite (m : Fin 20) (addr : Nat) (value : Nat) (s : State) : Host.Outcome State Fault Refusal :=
  .next (s.registerWrite m addr value)

/-- COMMIT_TICK (R15). -/
def execCommitTick (s : State) : Host.Outcome State Fault Refusal := .next s.commitTick

/-- PROVISIONAL_TICK (R16). -/
def execProvisionalTick (s : State) : Host.Outcome State Fault Refusal := .next s.provisionalTick

/-- PROVISIONAL_EPOCH (R16). -/
def execProvisionalEpoch (s : State) : Host.Outcome State Fault Refusal := .next s.provisionalEpoch

/-- DECISION_EPOCH (R20). -/
def execDecisionEpoch (s : State) : Host.Outcome State Fault Refusal := .next s.decisionEpoch

/-- EPOCH_MISS (R21). -/
def execEpochMiss (series : Fin 4) (s : State) : Host.Outcome State Fault Refusal := .next (s.epochMiss series)

/-- SERVICE_EPOCH (R259). -/
def execServiceEpoch (s : State) : Host.Outcome State Fault Refusal := .next s.serviceEpoch

/-- MODEL_EPOCH (R175). -/
def execModelEpoch (s : State) : Host.Outcome State Fault Refusal := .next s.modelEpoch

/-- HOURLY_POINT (R174). -/
def execHourlyPoint (s : State) : Host.Outcome State Fault Refusal := .next s.hourlyPoint

/-- VFAB_UPDATE (R12). -/
def execVfabUpdate (slack : Nat) (steady : Bool) (s : State) : Host.Outcome State Fault Refusal :=
  .next (s.vfabUpdate slack steady)

/-- MERGER_RECORD_IN (R28). -/
def execMergerRecordIn (source : Fin 128) (unit : Nat) (severity : Fin 4) (detail : Nat) (time : Nat) (gen : Nat) (s : State) : Host.Outcome State Fault Refusal :=
  .next (s.mergerRecordIn source unit severity detail time gen)

/-- MERGER_RELEASE (R28). -/
def execMergerRelease (s : State) : Host.Outcome State Fault Refusal := .next s.mergerRelease

end Sys2Proof.Machine
end

