-- ==== Sys2Proof/Machine/CmdClocks.lean ====
section
/-! DEFINITION. The meanings of the commands of oscillators, monitors, muxes and stages: one definition per command, each a call of the operation that its
rule describes. -/

namespace Sys2Proof.Machine

/-- OSC_AMPLITUDE_TIMEOUT (R68). -/
def execOscAmplitudeTimeout (osc : Fin 3) (s : State) : Host.Outcome State Fault Refusal :=
  .next (s.oscAmplitudeTimeout osc)

/-- OSC_COUNT_DONE (R68). -/
def execOscCountDone (osc : Fin 3) (count : Nat) (s : State) : Host.Outcome State Fault Refusal :=
  .next (s.oscCountDone osc count)

/-- OCXO_TEMP_SETTLED (R70). -/
def execOcxoTempSettled (s : State) : Host.Outcome State Fault Refusal := .next s.ocxoTempSettled

/-- OCXO_WARM (R70). -/
def execOcxoWarm (tenths : Nat) (s : State) : Host.Outcome State Fault Refusal := .next (s.ocxoBecomesWarm tenths)

/-- OCXO_WARM_TIMEOUT (R71). -/
def execOcxoWarmTimeout (s : State) : Host.Outcome State Fault Refusal := .next s.ocxoWarmTimeout

/-- CLOCK_MON_WINDOW (R73). -/
def execClockMonWindow (n : Fin 8) (offset : Int) (s : State) : Host.Outcome State Fault Refusal :=
  .next (s.clockMonWindow n offset)

/-- CLOCK_MON_MISS (R74). -/
def execClockMonMiss (n : Fin 8) (s : State) : Host.Outcome State Fault Refusal := .next (s.clockMonMiss n)

/-- BASE_MOVE (R77). -/
def execBaseMove (s : State) : Host.Outcome State Fault Refusal := .next s.baseMove

/-- BASE_MOVE_END (R77). -/
def execBaseMoveEnd (s : State) : Host.Outcome State Fault Refusal := .next s.baseMoveEnd

/-- MUX_SWITCH (R80). -/
def execMuxSwitch (m : Fin 2) (len : Nat) (s : State) : Host.Outcome State Fault Refusal := .next (s.muxSwitch m len)

/-- MUX_FORCED (R81). -/
def execMuxForced (m : Fin 2) (s : State) : Host.Outcome State Fault Refusal := .next (s.muxForced m)

/-- MUX_STALL (R82). -/
def execMuxStall (m : Fin 2) (s : State) : Host.Outcome State Fault Refusal := .next (s.muxStall m)

/-- STAGE3_HOLDOFF_END (R65). -/
def execStage3HoldoffEnd (s : State) : Host.Outcome State Fault Refusal := .next s.stage3HoldoffEnd

end Sys2Proof.Machine
end

