-- ==== Sys2Proof/Machine/CmdFaults.lean ====
section
/-! DEFINITION. The meanings of the commands of faults and reactions: one definition per command, each a call of the operation that its
rule describes. -/

namespace Sys2Proof.Machine

/-- FAULT_CAUSE (R330). -/
def execFaultCause (source : Fin 53) (unit : Nat) (itemA : Nat) (itemB : Nat) (s : State) : Host.Outcome State Fault Refusal :=
  .next (s.faultCause source unit itemA itemB)

/-- FAULT_WIRE (R330). -/
def execFaultWire (source : Fin 53) (unit : Nat) (broken : Bool) (s : State) : Host.Outcome State Fault Refusal :=
  .next (s.faultWire source unit broken)

/-- SRAM_SCRUB (R332). -/
def execSramScrub (addr : Nat) (double : Bool) (s : State) : Host.Outcome State Fault Refusal :=
  .next (s.sramScrub addr double)

/-- FAULT_ACK (R336). -/
def execFaultAck (k : Fin 256) (s : State) : Host.Outcome State Fault Refusal := .next (s.faultAck k)

/-- GRACE_EXPIRY (R336). -/
def execGraceExpiry (k : Fin 256) (s : State) : Host.Outcome State Fault Refusal := .next (s.graceExpiry k)

/-- REACTION_OPERATION (R337). -/
def execReactionOperation (s : State) : Host.Outcome State Fault Refusal := .next s.reactionOperation.notifyReview

/-- REACTION_COMPLETE (R337). -/
def execReactionComplete (s : State) : Host.Outcome State Fault Refusal := .next s.reactionComplete

/-- SETTLE_WINDOW_END (R339). -/
def execSettleWindowEnd (s : State) : Host.Outcome State Fault Refusal := .next s.settleEnd

/-- ERR_TOGGLE (R340). -/
def execErrToggle (s : State) : Host.Outcome State Fault Refusal := .next s.errToggle

/-- FAULT_INJECT (R342). -/
def execFaultInject (s : State) : Host.Outcome State Fault Refusal := .next s.injectGo

/-- FAULT_INJECT_BREAK (R342). -/
def execFaultInjectBreak (on_ : Bool) (s : State) : Host.Outcome State Fault Refusal := .next (s.injectBreak on_)

end Sys2Proof.Machine
end

