-- ==== Sys2Proof/Machine/CmdHost.lean ====
section
/-! DEFINITION. The meanings of the commands of the host interface: one definition per command, each a call of the operation that its
rule describes. -/

namespace Sys2Proof.Machine

/-- PERST_N (R281). -/
def execPerstN (low : Bool) (s : State) : Host.Outcome State Fault Refusal := .next (s.perstN low)

/-- LINK_L0 (R280). -/
def execLinkL0 (speed : Nat) (width : Nat) (s : State) : Host.Outcome State Fault Refusal :=
  .next (s.linkL0 speed width)

/-- HOST_LINK_DOWN (R281). -/
def execHostLinkDown (s : State) : Host.Outcome State Fault Refusal := .next s.hostLinkDown

/-- PF0_FLR (R281). -/
def execPf0Flr (fromD3 : Bool) (s : State) : Host.Outcome State Fault Refusal := .next (s.pf0Flr fromD3)

/-- VF_FLR (R281). -/
def execVfFlr (v : Fin 16) (s : State) : Host.Outcome State Fault Refusal := .next (s.vfFlr v)

/-- D3HOT_ENTRY (R280). -/
def execD3hotEntry (s : State) : Host.Outcome State Fault Refusal := .next s.d3hot

/-- NUMVFS_CHANGE (R301). -/
def execNumVfsChange (n : Nat) (s : State) : Host.Outcome State Fault Refusal := .next (s.numVfs n)

/-- DOORBELL_PROD (R284). -/
def execDoorbellProd (r : Nat) (value : Nat) (dword : Bool) (s : State) : Host.Outcome State Fault Refusal :=
  .next (s.doorbellProd r value dword)

/-- DOORBELL_CONS (R284). -/
def execDoorbellCons (r : Nat) (value : Nat) (dword : Bool) (s : State) : Host.Outcome State Fault Refusal :=
  .next (s.doorbellCons r value dword)

/-- DOORBELL_CONS_ARM (R300). -/
def execDoorbellConsArm (r : Nat) (value : Nat) (dword : Bool) (s : State) : Host.Outcome State Fault Refusal :=
  .next (s.doorbellConsArm r value dword)

/-- DESCRIPTOR_RELEASE (R286). -/
def execDescriptorRelease (r : Nat) (l : List Fetched) (s : State) : Host.Outcome State Fault Refusal :=
  .next (s.descriptorRelease r l)

/-- DESCRIPTOR_FETCH_DONE (R286). -/
def execDescriptorFetchDone (r : Nat) (d : Fetched) (s : State) : Host.Outcome State Fault Refusal :=
  .next (s.descriptorFetched r d)

/-- COMPLETION_WRITE (R285). -/
def execCompletionWrite (r : Nat) (s : State) : Host.Outcome State Fault Refusal := .next (s.completionWrite r)

/-- DMA_ERROR (R288). -/
def execDmaError (r : Nat) (addr : Nat) (desc : Option (Nat × Nat)) (s : State) : Host.Outcome State Fault Refusal :=
  .next (s.dmaError r addr desc)

/-- RECORDS_FLUSH (R291). -/
def execRecordsFlush (r : Nat) (s : State) : Host.Outcome State Fault Refusal := .next (s.recordsFlush r)

/-- MSIX_MODERATION (R300). -/
def execMsixModeration (r : Nat) (s : State) : Host.Outcome State Fault Refusal := .next (s.moderate r)

/-- MSIX_UNMASK (R300). -/
def execMsixUnmask (fn : Nat) (vec : Nat) (s : State) : Host.Outcome State Fault Refusal := .next (s.unmask fn vec)

/-- TIME_SNAPSHOT (R301). -/
def execTimeSnapshot (v : Fin 16) (at_ : Nat) (s : State) : Host.Outcome State Fault Refusal :=
  .next (s.timeSnapshot v at_)

/-- VF_EVT_REEL_ENABLE (R302). -/
def execVfEvtReelEnable (v : Fin 16) (value : Nat) (s : State) : Host.Outcome State Fault Refusal :=
  .next (s.vfEvtCfg v value)

/-- VF_EVT_CONS (R302). -/
def execVfEvtCons (v : Fin 16) (value : Nat) (s : State) : Host.Outcome State Fault Refusal :=
  .next (s.vfEvtCons v value false)

/-- VF_EVT_CONS_ARM (R302). -/
def execVfEvtConsArm (v : Fin 16) (value : Nat) (s : State) : Host.Outcome State Fault Refusal :=
  .next (s.vfEvtCons v value true)

end Sys2Proof.Machine
end

