-- ==== Sys2Proof/Machine/CmdLoops.lean ====
section
/-! DEFINITION. The meanings of the commands of qualification, the tree, the DPLLs and holdover: one definition per command, each a call of the operation that its
rule describes. -/

namespace Sys2Proof.Machine

/-- LOOP_UPDATE (R164). -/
def execLoopUpdate (d : Fin 16) (mismatch : Bool) (s : State) : Host.Outcome State Fault Refusal :=
  .next (s.loopUpdate d mismatch).notifyReview

/-- MISSING_EDGE (R117). -/
def execMissingEdge (m : Fin 44) (s : State) : Host.Outcome State Fault Refusal := .next (s.missingEdge m).notifyReview

/-- ARRIVAL_WINDOW_MISS (R118). -/
def execArrivalWindowMiss (m : Fin 44) (s : State) : Host.Outcome State Fault Refusal :=
  .next (s.windowMiss m).notifyReview

/-- QUAL_VALIDATION_END (R126). -/
def execQualValidationEnd (m : Fin 44) (s : State) : Host.Outcome State Fault Refusal := .next (s.validationEnd m)

/-- QUAL_HOLDOFF_END (R126). -/
def execQualHoldoffEnd (m : Fin 44) (s : State) : Host.Outcome State Fault Refusal := .next (s.holdoffEnd m)

/-- QUAL_DETECT_RESUME (R129). -/
def execQualDetectResume (s : State) : Host.Outcome State Fault Refusal := .next s.detectResume

/-- WAIT_TO_RESTORE_END (R145). -/
def execWaitToRestoreEnd (n : Fin 128) (e : Fin 4) (s : State) : Host.Outcome State Fault Refusal :=
  .next (s.wtrEnd n e)

/-- BUILDOUT_COMPLETE (R165). -/
def execBuildoutComplete (d : Fin 16) (s : State) : Host.Outcome State Fault Refusal :=
  .next (s.buildoutComplete d).notifyReview

/-- DPLL_LOCK_TIMER (R167). -/
def execDpllLockTimer (d : Fin 16) (s : State) : Host.Outcome State Fault Refusal := .next (s.lockTimer d).notifyReview

/-- REF_ACK (R170). -/
def execRefAck (d : Fin 16) (s : State) : Host.Outcome State Fault Refusal := .next (s.refAck d)

/-- REF_ACK_STEP (R171). -/
def execRefAckStep (d : Fin 16) (s : State) : Host.Outcome State Fault Refusal := .next (s.refAckStep d)

/-- HOLD_CLEAR (R177). -/
def execHoldClear (d : Fin 16) (s : State) : Host.Outcome State Fault Refusal := .next (s.holdClear d).1

end Sys2Proof.Machine
end

