-- ==== Sys2Proof/Machine/CmdPeer.lean ====
section
/-! DEFINITION. The meanings of the commands of claim, hallway and switch-over: one definition per command, each a call of the operation that its
rule describes. -/

namespace Sys2Proof.Machine

/-- CLAIM_IN_CHANGE (R307). -/
def execClaimInChange (code : Fin 4) (s : State) : Host.Outcome State Fault Refusal := .next (s.claimInChange code)

/-- CLAIM_SLOT_DELAY_END (R309). -/
def execClaimSlotDelayEnd (s : State) : Host.Outcome State Fault Refusal := .next s.slotDelayEnd

/-- CLAIM_CONFIRM_END (R309). -/
def execClaimConfirmEnd (s : State) : Host.Outcome State Fault Refusal := .next s.confirmEnd

/-- CLAIM_CONFLICT_HOLD_END (R309). -/
def execClaimConflictHoldEnd (s : State) : Host.Outcome State Fault Refusal := .next s.conflictHoldEnd

/-- RECLAIM_HOLDOFF_END (R309). -/
def execReclaimHoldoffEnd (s : State) : Host.Outcome State Fault Refusal := .next s.reclaimEnd

/-- HALLWAY_LANE_UP (R313). -/
def execHallwayLaneUp (l : Fin 2) (s : State) : Host.Outcome State Fault Refusal := .next (s.laneComesUp l)

/-- HALLWAY_LANE_DOWN (R313). -/
def execHallwayLaneDown (l : Fin 2) (s : State) : Host.Outcome State Fault Refusal := .next (s.laneGoesDown l)

/-- HELLO_TX (R314). -/
def execHelloTx (s : State) : Host.Outcome State Fault Refusal := .next s.helloTx

/-- HELLO_RX (R314). -/
def execHelloRx (fr : Hl) (h : Hello) (s : State) : Host.Outcome State Fault Refusal := .next (s.helloRx fr h)

/-- HEARTBEAT_TX (R315). -/
def execHeartbeatTx (s : State) : Host.Outcome State Fault Refusal := .next s.heartbeatTx

/-- HEARTBEAT_RX (R315). -/
def execHeartbeatRx (fr : Hl) (h : Heartbeat) (s : State) : Host.Outcome State Fault Refusal :=
  .next (s.heartbeatRx fr h)

/-- HEARTBEAT_LOST (R315). -/
def execHeartbeatLost (s : State) : Host.Outcome State Fault Refusal := .next s.heartbeatLost

/-- TIME_MSG_RX (R319). -/
def execTimeMsgRx (fr : Hl) (t : TimeMsg) (s : State) : Host.Outcome State Fault Refusal := .next (s.timeMsgRx fr t)

/-- TABLE_SYNC_RX (R321). -/
def execTableSyncRx (fr : Hl) (t : TableMsg) (s : State) : Host.Outcome State Fault Refusal :=
  .next (s.tableSyncRx fr t)

/-- CFG_DIGEST_RX (R322). -/
def execCfgDigestRx (fr : Hl) (digest : Nat) (s : State) : Host.Outcome State Fault Refusal :=
  .next (s.digestRx fr digest)

/-- STANDBY_ALIGNED (R320). -/
def execStandbyAligned (s : State) : Host.Outcome State Fault Refusal := .next s.standbyAligned

/-- PEER_SWITCH_GO (R324). -/
def execPeerSwitchGo (s : State) : Host.Outcome State Fault Refusal := .next (s.switchRequest 2 false none)

/-- PEER_SWITCH_FORCE (R325). -/
def execPeerSwitchForce (key : Nat) (s : State) : Host.Outcome State Fault Refusal := .next (s.switchForce key)

/-- SWITCH_OFFER_RX (R324). -/
def execSwitchOfferRx (fr : Hl) (ident : Nat) (force : Bool) (s : State) : Host.Outcome State Fault Refusal :=
  .next (s.offerRx fr ident force)

/-- SWITCH_ACCEPT_RX (R324). -/
def execSwitchAcceptRx (fr : Hl) (ident : Nat) (t : Nat) (s : State) : Host.Outcome State Fault Refusal :=
  .next (s.acceptRx fr ident t)

/-- SWITCH_REFUSE_RX (R324). -/
def execSwitchRefuseRx (fr : Hl) (ident : Nat) (s : State) : Host.Outcome State Fault Refusal :=
  .next (s.refuseRx fr ident)

/-- SWITCH_HANDOVER (R324). -/
def execSwitchHandover (s : State) : Host.Outcome State Fault Refusal := .next s.switchHandover

/-- SWITCH_TIMEOUT (R324). -/
def execSwitchTimeout (s : State) : Host.Outcome State Fault Refusal := .next s.switchTimeout

end Sys2Proof.Machine
end

