-- ==== Sys2Proof/Machine/CmdPmbus.lean ====
section
/-! DEFINITION. The meanings of the commands of PMBus: one definition per command, each a call of the operation that its
rule describes. -/

namespace Sys2Proof.Machine

/-- PMBUS_PAGE (R60). -/
def execPmbusPage (write : Option Nat) (s : State) : Host.Outcome State Fault Refusal := .next (s.pmPageCmd write)

/-- PMBUS_CAPABILITY (R60). -/
def execPmbusCapability (s : State) : Host.Outcome State Fault Refusal := .next (s.pmAnswer [0xB0])

/-- PMBUS_STATUS_WORD (R60). -/
def execPmbusStatusWord (s : State) : Host.Outcome State Fault Refusal := .next s.pmStatusWord

/-- PMBUS_STATUS_INPUT (R60). -/
def execPmbusStatusInput (s : State) : Host.Outcome State Fault Refusal :=
  .next (s.pmRead [0, 1] fun p => [s.statusInput p])

/-- PMBUS_STATUS_TEMPERATURE (R60). -/
def execPmbusStatusTemperature (s : State) : Host.Outcome State Fault Refusal :=
  .next (s.pmRead [2] fun _ => [s.statusTemperature])

/-- PMBUS_READ_VIN (R60). -/
def execPmbusReadVin (s : State) : Host.Outcome State Fault Refusal :=
  .next (s.pmRead [0, 1] fun p => linear11 (s.rd F.FEED_VIN_VIN_MV p))

/-- PMBUS_READ_IIN (R60). -/
def execPmbusReadIin (s : State) : Host.Outcome State Fault Refusal :=
  .next (s.pmRead [0, 1, 2] fun p => linear11 (s.pageCurrent p))

/-- PMBUS_READ_TEMPERATURE_1 (R60). -/
def execPmbusReadTemperature1 (s : State) : Host.Outcome State Fault Refusal :=
  .next (s.pmRead [2] fun _ => linear11 (s.milliC F.POWER_TEMP_PLATE_TEMP))

/-- PMBUS_READ_TEMPERATURE_2 (R60). -/
def execPmbusReadTemperature2 (s : State) : Host.Outcome State Fault Refusal :=
  .next (s.pmRead [2] fun _ => linear11 (s.milliC F.POWER_TEMP_DIE_TEMP))

/-- PMBUS_READ_TEMPERATURE_3 (R60). -/
def execPmbusReadTemperature3 (s : State) : Host.Outcome State Fault Refusal :=
  .next (s.pmRead [2] fun _ => linear11 (s.milliC F.POWER_TEMP_OCXO_TEMP))

/-- PMBUS_READ_PIN (R60). -/
def execPmbusReadPin (s : State) : Host.Outcome State Fault Refusal :=
  .next (s.pmRead [0, 1, 2] fun p => linear11 (s.pagePower p))

/-- PMBUS_REVISION (R60). -/
def execPmbusRevision (s : State) : Host.Outcome State Fault Refusal := .next (s.pmAnswer [0x33])

/-- PMBUS_MFR_ID (R60). -/
def execPmbusMfrId (s : State) : Host.Outcome State Fault Refusal := .next (s.pmAnswer (asciiBlock "GENVEL"))

/-- PMBUS_MFR_MODEL (R60). -/
def execPmbusMfrModel (s : State) : Host.Outcome State Fault Refusal := .next s.pmModel

/-- PMBUS_UNSUPPORTED (R61). -/
def execPmbusUnsupported (s : State) : Host.Outcome State Fault Refusal := .next s.pmUnsupported

/-- ALERT_RESPONSE (R62). -/
def execAlertResponse (s : State) : Host.Outcome State Fault Refusal := .next s.alertResponse

end Sys2Proof.Machine
end

