-- ==== Sys2Proof/Machine/CmdPorts.lean ====
section
/-! DEFINITION. The meanings of the commands of Ethernet ports: one definition per command, each a call of the operation that its
rule describes. -/

namespace Sys2Proof.Machine

/-- LINK_UP (R227). -/
def execLinkUp (p : Fin 8) (s : State) : Host.Outcome State Fault Refusal := .next (s.linkUpNow p)

/-- LINK_DOWN (R227). -/
def execLinkDown (p : Fin 8) (cdr : Bool) (s : State) : Host.Outcome State Fault Refusal := .next (s.linkDownNow p cdr)

/-- CDR_LOCK (R230). -/
def execCdrLock (p : Fin 8) (s : State) : Host.Outcome State Fault Refusal := .next (s.cdrLock p)

/-- RESTART_LINK (R226). -/
def execRestartLink (p : Fin 8) (s : State) : Host.Outcome State Fault Refusal := .next (s.restartLink p)

/-- RESTART_EQ (R228). -/
def execRestartEq (p : Fin 8) (s : State) : Host.Outcome State Fault Refusal := .next (s.restartEq p)

/-- LANE_REF_FALLBACK (R229). -/
def execLaneRefFallback (p : Fin 8) (s : State) : Host.Outcome State Fault Refusal := .next (s.laneFallback p)

/-- LANE_REF_RETURN (R229). -/
def execLaneRefReturn (p : Fin 8) (s : State) : Host.Outcome State Fault Refusal := .next (s.laneReturn p)

/-- ESMC_RX (R231). -/
def execEsmcRx (p : Fin 8) (s : State) : Host.Outcome State Fault Refusal := .next (s.esmcRx p)

/-- ESMC_TX (R232). -/
def execEsmcTx (p : Fin 8) (s : State) : Host.Outcome State Fault Refusal := .next (s.esmcTx p)

/-- FRAME_RX (R254). -/
def execFrameRx (p : Fin 8) (pcs : Int) (fr : Frame) (s : State) : Host.Outcome State Fault Refusal :=
  .next (s.frameRx p pcs fr)

/-- FRAME_TX (R290). -/
def execFrameTx (p : Fin 8) (pcs : Int) (s : State) : Host.Outcome State Fault Refusal := .next (s.frameTx p pcs)

/-- BRIDGE_FORWARD (R242). -/
def execBridgeForward (b : Fin 4) (odd : Bool) (pcs : Int) (fr : Frame) (s : State) : Host.Outcome State Fault Refusal :=
  .next (s.bridgeForward b odd pcs fr)

/-- CUE_LAUNCH (R245). -/
def execCueLaunch (p : Fin 8) (pcs : Int) (busy : Bool) (s : State) : Host.Outcome State Fault Refusal :=
  .next (s.cueLaunch p pcs busy)

end Sys2Proof.Machine
end

