-- ==== Sys2Proof/Machine/CmdPower.lean ====
section
/-! DEFINITION. The meanings of the commands of power, reset and start: one definition per command, each a call of the operation that its
rule describes. -/

namespace Sys2Proof.Machine

/-- FEED_SAMPLE (R46). -/
def execFeedSample (n : Fin 2) (mv : Nat) (ma : Nat) (reversed : Bool) (s : State) : Host.Outcome State Fault Refusal :=
  .next (s.feedSample n mv ma reversed)

/-- FEED_QUALIFIED (R47). -/
def execFeedQualified (n : Fin 2) (s : State) : Host.Outcome State Fault Refusal := .next (s.feedQualified n)

/-- FEED_DROPOUT (R47). -/
def execFeedDropout (n : Fin 2) (s : State) : Host.Outcome State Fault Refusal := .next (s.feedDropout n)

/-- FEED_UV_FAULT (R47). -/
def execFeedUvFault (n : Fin 2) (s : State) : Host.Outcome State Fault Refusal := .next (s.feedUvFault n)

/-- FEED_OV (R47). -/
def execFeedOv (n : Fin 2) (s : State) : Host.Outcome State Fault Refusal := .next (s.feedOv n)

/-- FEED_OC (R47). -/
def execFeedOc (n : Fin 2) (s : State) : Host.Outcome State Fault Refusal := .next (s.feedOc n)

/-- FEED_RECOVER (R47). -/
def execFeedRecover (n : Fin 2) (s : State) : Host.Outcome State Fault Refusal := .next (s.feedRecover n)

/-- FEED_TEST_A (R49). -/
def execFeedTestA (s : State) : Host.Outcome State Fault Refusal := .next (s.startTest 0).1

/-- FEED_TEST_B (R49). -/
def execFeedTestB (s : State) : Host.Outcome State Fault Refusal := .next (s.startTest 1).1

/-- FEED_TEST_PERIOD (R49). -/
def execFeedTestPeriod (s : State) : Host.Outcome State Fault Refusal := .next s.startTestsAB.1

/-- FEED_TEST_END (R47). -/
def execFeedTestEnd (holdupUs : Nat) (bankV : Nat) (s : State) : Host.Outcome State Fault Refusal :=
  .next (s.feedTestEnd holdupUs bankV)

/-- FEED_TEST_FAIL (R47). -/
def execFeedTestFail (n : Fin 2) (s : State) : Host.Outcome State Fault Refusal := .next (s.feedTestFail n)

/-- LAST_GASP (R360). -/
def execLastGasp (pages : Nat) (us : Nat) (s : State) : Host.Outcome State Fault Refusal := .next (s.lastGasp pages us)

/-- RAIL_OFF (R50). -/
def execRailOff (s : State) : Host.Outcome State Fault Refusal := .next s.railOff

/-- RAIL_OFF_RESTART (R51). -/
def execRailOffRestart (n : Fin 2) (s : State) : Host.Outcome State Fault Refusal := .next (s.railOffRestart n)

/-- THERMAL_SAMPLE (R52). -/
def execThermalSample (plate : Int) (die : Int) (ocxo : Int) (vbat : Nat) (railMv : Nat) (railMa : Nat) (s : State) : Host.Outcome State Fault Refusal :=
  .next (s.thermalSample plate die ocxo vbat railMv railMa)

/-- THERMAL_TRIP (R52). -/
def execThermalTrip (s : State) : Host.Outcome State Fault Refusal := .next s.thermalTripped

/-- THERMAL_RESTART (R52). -/
def execThermalRestart (plate : Int) (s : State) : Host.Outcome State Fault Refusal := .next (s.thermalRestart plate)

/-- RAIL_FAULT (R52). -/
def execRailFault (rail : Fin 8) (mv : Nat) (s : State) : Host.Outcome State Fault Refusal :=
  .next (s.railFault rail mv)

/-- VBAT_LOW (R53). -/
def execVbatLow (mv : Nat) (s : State) : Host.Outcome State Fault Refusal := .next (s.vbatLow mv)

/-- PORCH_POWER_ON (R384). -/
def execPorchPowerOn (s : State) : Host.Outcome State Fault Refusal := .next s.porchPowerOn

/-- RESET_N_LOW (R56). -/
def execResetNLow (ns : Nat) (s : State) : Host.Outcome State Fault Refusal := .next (s.resetNLow ns)

/-- RESET_N_RELEASE (R56). -/
def execResetNRelease (x : Straps) (s : State) : Host.Outcome State Fault Refusal := .next (s.resetNRelease x)

/-- RAILS_GOOD (R65). -/
def execRailsGood (x : Straps) (holdupUs : Nat) (bankV : Nat) (s : State) : Host.Outcome State Fault Refusal :=
  .next (s.railsGood x holdupUs bankV)

/-- BOOT_READ_DONE (R359). -/
def execBootReadDone (s : State) : Host.Outcome State Fault Refusal := .next s.bootReadDone

end Sys2Proof.Machine
end

