-- ==== Sys2Proof/Machine/CmdService.lean ====
section
/-! DEFINITION. The meanings of the commands of the time service and the servos: one definition per command, each a call of the operation that its
rule describes. -/

namespace Sys2Proof.Machine

/-- PTP_SIGNALING_RX (R257). -/
def execPtpSignalingRx (p : Fin 8) (s : State) : Host.Outcome State Fault Refusal := .next (s.signalingRx p)

/-- FOLLOW_UP_SEND (R259). -/
def execFollowUpSend (p : Fin 8) (s : State) : Host.Outcome State Fault Refusal := .next (s.followUpSend p)

/-- DELAY_REQ_RX (R260). -/
def execDelayReqRx (p : Fin 8) (s : State) : Host.Outcome State Fault Refusal := .next (s.delayReqRx p)

/-- PDELAY_REQ_RX (R260). -/
def execPdelayReqRx (p : Fin 8) (pcs : Int) (s : State) : Host.Outcome State Fault Refusal :=
  .next (s.pdelayReqRx p pcs)

/-- MANAGEMENT_RX (R261). -/
def execManagementRx (p : Fin 8) (s : State) : Host.Outcome State Fault Refusal := .next (s.managementRx p)

/-- NTP_REQUEST_RX (R266). -/
def execNtpRequestRx (p : Fin 8) (pcs : Int) (s : State) : Host.Outcome State Fault Refusal := .next (s.ntpRx p pcs)

/-- TBL_READ (R265). -/
def execTblRead (s : State) : Host.Outcome State Fault Refusal := .next s.tblRead

/-- TBL_WRITE (R265). -/
def execTblWrite (s : State) : Host.Outcome State Fault Refusal := .next s.tblWrite

/-- TBL_DELETE (R265). -/
def execTblDelete (s : State) : Host.Outcome State Fault Refusal := .next s.tblDelete

/-- TBL_FIND (R265). -/
def execTblFind (s : State) : Host.Outcome State Fault Refusal := .next s.tblFind

/-- CLIENT_WINDOW_ACCESS (R265). -/
def execClientWindowAccess (s : State) : Host.Outcome State Fault Refusal := .next s.clientWindow

/-- SERVO_FRAME_RX (R269). -/
def execServoFrameRx (k : Fin 16) (s : State) : Host.Outcome State Fault Refusal := .next (s.servoFrameRx k)

/-- SERVO_RENEW (R269). -/
def execServoRenew (k : Fin 16) (msg : Nat) (s : State) : Host.Outcome State Fault Refusal := .next (s.servoRenew k msg)

/-- FOLLOW_UP_TIMEOUT (R269). -/
def execFollowUpTimeout (k : Fin 16) (s : State) : Host.Outcome State Fault Refusal := .next (s.followUpTimeout k)

/-- SERVO_LOST (R272). -/
def execServoLost (k : Fin 16) (why : Fin 3) (grant : Option Nat) (s : State) : Host.Outcome State Fault Refusal :=
  .next (s.servoLost k why grant)

/-- ANNOUNCE_TIMEOUT (R272). -/
def execAnnounceTimeout (k : Fin 16) (s : State) : Host.Outcome State Fault Refusal := .next (s.announceTimeout k)

end Sys2Proof.Machine
end

