-- ==== Sys2Proof/Machine/CmdSynth.lean ====
section
/-! DEFINITION. The meanings of the commands of synthesis and outputs: one definition per command, each a call of the operation that its
rule describes. -/

namespace Sys2Proof.Machine

/-- SYNTH_COMMIT_GO (R190). -/
def execSynthCommitGo (s : State) : Host.Outcome State Fault Refusal := .next s.commitGo

/-- SYNTH_COMMIT_VALIDATE (R191). -/
def execSynthCommitValidate (s : State) : Host.Outcome State Fault Refusal := .next s.commitValidate

/-- SYNTH_REALIGN (R195). -/
def execSynthRealign (a : Fin 4) (s : State) : Host.Outcome State Fault Refusal := .next (s.realign (a.val + 1))

/-- APLL_LOCK (R187). -/
def execApllLock (a : Fin 5) (s : State) : Host.Outcome State Fault Refusal := .next (s.apllLock a)

/-- APLL_UNLOCK (R199). -/
def execApllUnlock (a : Fin 4) (s : State) : Host.Outcome State Fault Refusal := .next (s.apllUnlock (a.val + 1))

/-- RELOCK_ATTEMPT (R187). -/
def execRelockAttempt (a : Fin 5) (failed : Bool) (s : State) : Host.Outcome State Fault Refusal :=
  .next (s.relockAttempt a failed)

/-- BASE_UNLOCK (R200). -/
def execBaseUnlock (s : State) : Host.Outcome State Fault Refusal := .next s.baseUnlock

/-- DEGRADED_INTERVAL_END (R200). -/
def execDegradedIntervalEnd (s : State) : Host.Outcome State Fault Refusal := .next s.degradedEnd

/-- SHUTTER_FORCE (R197). -/
def execShutterForce (n : Fin 24) (s : State) : Host.Outcome State Fault Refusal := .next (s.shutterForce n)

/-- SHUTTER_OPEN (R198). -/
def execShutterOpen (n : Fin 24) (s : State) : Host.Outcome State Fault Refusal := .next (s.shutterOpen n)

/-- PHASE_VERIFY (R196). -/
def execPhaseVerify (s : State) : Host.Outcome State Fault Refusal := .next s.phaseVerify

end Sys2Proof.Machine
end

