-- ==== Sys2Proof/Machine/CmdTdc.lean ====
section
/-! DEFINITION. The meanings of the commands of stamps, calibration, estimates and takes: one definition per command, each a call of the operation that its
rule describes. -/

namespace Sys2Proof.Machine

/-- EDGE_STAMP (R92). -/
def execEdgeStamp (c : Fin 28) (coarse : Nat) (line : Nat) (falling : Bool) (comparator : Nat) (glitches : Nat) (s : State) : Host.Outcome State Fault Refusal :=
  .next (s.edgeStamp c coarse line falling comparator glitches).notifyReview

/-- STAMP_DISTRIBUTE (R97). -/
def execStampDistribute (c : Fin 28) (s : State) : Host.Outcome State Fault Refusal :=
  .next (s.stampDistribute c).notifyReview

/-- CAL_TABLE_READY (R93). -/
def execCalTableReady (c : Fin 28) (beyond : Nat) (maxTap : Nat) (taps : Nat) (bin : Nat) (dnl : Nat) (inl : Nat) (s : State) : Host.Outcome State Fault Refusal :=
  .next (s.calTableReady c beyond maxTap taps bin dnl inl)

/-- CAL_VALID (R94). -/
def execCalValid (c : Fin 28) (s : State) : Host.Outcome State Fault Refusal := .next (s.calValid c)

/-- CAL_RESCALE_DONE (R94). -/
def execCalRescaleDone (c : Fin 28) (s : State) : Host.Outcome State Fault Refusal := .next (s.calRescaleDone c)

/-- GATE_END (R103). -/
def execGateEnd (slot : Fin 32) (s : State) : Host.Outcome State Fault Refusal := .next (s.gateEnd slot)

/-- ESTIMATE_PUBLISH (R106). -/
def execEstimatePublish (slot : Fin 32) (s : State) : Host.Outcome State Fault Refusal := .next (s.estimatePublish slot)

/-- EST_START (R102). -/
def execEstStart (e : Fin 4) (s : State) : Host.Outcome State Fault Refusal := .next (s.estStart e)

/-- EST_STOP (R102). -/
def execEstStop (e : Fin 4) (s : State) : Host.Outcome State Fault Refusal := .next (s.estStop e)

/-- TAKE_ARM (R108). -/
def execTakeArm (t : Fin 4) (s : State) : Host.Outcome State Fault Refusal := .next (s.takeArm t)

/-- TAKE_ABORT (R108). -/
def execTakeAbort (t : Fin 4) (s : State) : Host.Outcome State Fault Refusal := .next (s.takeAbort t)

/-- GATE_PIN_EDGE (R107). -/
def execGatePinEdge (pin : Fin 2) (high : Bool) (cycle : Nat) (s : State) : Host.Outcome State Fault Refusal :=
  .next (s.gatePinEdge pin high cycle)

/-- TAKE_GATE_END (R108). -/
def execTakeGateEnd (t : Fin 4) (s : State) : Host.Outcome State Fault Refusal := .next (s.takeGateEnd t)

end Sys2Proof.Machine
end

