-- ==== Sys2Proof/Machine/CmdTime.lean ====
section
/-! DEFINITION. The meanings of the commands of time, time of day, pulses: one definition per command, each a call of the operation that its
rule describes. -/

namespace Sys2Proof.Machine

/-- TIME_SET (R209). -/
def execTimeSet (s : State) : Host.Outcome State Fault Refusal := .next s.timeSet

/-- TIME_STEP_REQUEST (R209). -/
def execTimeStepRequest (s : State) : Host.Outcome State Fault Refusal := .next s.timeStepRequest

/-- TIME_STEP (R209). -/
def execTimeStep (s : State) : Host.Outcome State Fault Refusal := .next s.timeStep.notifyReview

/-- TIME_VOTE_ONE (R206). -/
def execTimeVoteOne (c : Fin 3) (s : State) : Host.Outcome State Fault Refusal := .next (s.timeVoteOne c)

/-- TIME_VOTE_NONE (R206). -/
def execTimeVoteNone (s : State) : Host.Outcome State Fault Refusal := .next s.timeVoteNone.notifyReview

/-- COUNTER_START (R213). -/
def execCounterStart (sec : Nat) (ticks : Nat) (expected : Nat) (s : State) : Host.Outcome State Fault Refusal :=
  .next (s.counterStart sec ticks expected).notifyReview

/-- PORCH_ANCHOR (R212). -/
def execPorchAnchor (s : State) : Host.Outcome State Fault Refusal := .next s.porchAnchor

/-- LEAP_SECOND (R215). -/
def execLeapSecond (s : State) : Host.Outcome State Fault Refusal := .next s.leapSecond

/-- TOD_MESSAGE_RX (R216). -/
def execTodMessageRx (j : Fin 2) (bytes : List Nat) (framing : Bool) (start : Nat) (stop : Nat) (s : State) : Host.Outcome State Fault Refusal :=
  .next (s.todMessage j bytes framing start stop)

/-- TODO_SEND (R218). -/
def execTodoSend (j : Fin 2) (s : State) : Host.Outcome State Fault Refusal := .next (s.todoSend j)

/-- PPS_PULSE (R219). -/
def execPpsPulse (p : Fin 5) (s : State) : Host.Outcome State Fault Refusal := .next (s.ppsPulseTime p)

end Sys2Proof.Machine
end

