-- ==== Sys2Proof/Machine/CmdUnits.lean ====
section
/-! DEFINITION. The meanings of the commands of unit operations: one definition per command, each a call of the operation that its
rule describes. -/

namespace Sys2Proof.Machine

/-- UNIT_OP (R297). -/
def execUnitOp (a : Fin 2) (s : State) : Host.Outcome State Fault Refusal := .next (s.unitOpCmd a).notifyReview

/-- UNIT_RESET (R31). -/
def execUnitReset (bank : Fin 4) (u : Nat) (s : State) : Host.Outcome State Fault Refusal :=
  .next (s.unitCtrl bank opRESET u).notifyReview

/-- UNIT_RETIRE (R31). -/
def execUnitRetire (bank : Fin 4) (u : Nat) (s : State) : Host.Outcome State Fault Refusal :=
  .next (s.unitCtrl bank opRETIRE u).notifyReview

/-- UNIT_ISOLATE (R31). -/
def execUnitIsolate (bank : Fin 4) (u : Nat) (s : State) : Host.Outcome State Fault Refusal :=
  .next (s.unitCtrl bank opISOLATE u).notifyReview

/-- UNIT_RELEASE (R31). -/
def execUnitRelease (bank : Fin 4) (u : Nat) (s : State) : Host.Outcome State Fault Refusal :=
  .next (s.unitCtrl bank opRELEASE u).notifyReview

/-- UNIT_UNRETIRE (R31). -/
def execUnitUnretire (bank : Fin 4) (u : Nat) (s : State) : Host.Outcome State Fault Refusal :=
  .next (s.unitCtrl bank opUNRETIRE u).notifyReview

/-- UNIT_STATUS (R32). -/
def execUnitStatus (bank : Fin 4) (u : Nat) (s : State) : Host.Outcome State Fault Refusal :=
  .next (s.unitCtrl bank opSTATUS u)

/-- UNIT_BACK_IN_SERVICE (R84). -/
def execUnitBackInService (u : Nat) (s : State) : Host.Outcome State Fault Refusal := .next (s.unitBack u).notifyReview

/-- OWN_UNIT_RESET (R297). -/
def execOwnUnitReset (s : State) : Host.Outcome State Fault Refusal := .next s.ownUnitReset.notifyReview

/-- ANNOUNCE_TOKEN (R86). -/
def execAnnounceToken (x : Fin 14) (gen : Nat) (s : State) : Host.Outcome State Fault Refusal :=
  .next (s.announceToken x gen)

end Sys2Proof.Machine
end

