-- ==== Sys2Proof/Machine/Dispatch.lean ====
section
/-! DEFINITION. One arm per command. -/

namespace Sys2Proof.Machine

def exec (i : Instr) (s : State) : Host.Outcome State Fault Refusal :=
  match i with
  | .registerWrite m addr value => Sys2Proof.Machine.execRegisterWrite m addr value s
  | .commitTick => Sys2Proof.Machine.execCommitTick s
  | .provisionalTick => Sys2Proof.Machine.execProvisionalTick s
  | .provisionalEpoch => Sys2Proof.Machine.execProvisionalEpoch s
  | .decisionEpoch => Sys2Proof.Machine.execDecisionEpoch s
  | .epochMiss series => Sys2Proof.Machine.execEpochMiss series s
  | .loopUpdate d mismatch => Sys2Proof.Machine.execLoopUpdate d mismatch s
  | .serviceEpoch => Sys2Proof.Machine.execServiceEpoch s
  | .modelEpoch => Sys2Proof.Machine.execModelEpoch s
  | .hourlyPoint => Sys2Proof.Machine.execHourlyPoint s
  | .vfabUpdate slack steady => Sys2Proof.Machine.execVfabUpdate slack steady s
  | .mergerRecordIn source unit severity detail time gen => Sys2Proof.Machine.execMergerRecordIn source unit severity detail time gen s
  | .mergerRelease => Sys2Proof.Machine.execMergerRelease s
  | .unitOp a => Sys2Proof.Machine.execUnitOp a s
  | .unitReset bank u => Sys2Proof.Machine.execUnitReset bank u s
  | .unitRetire bank u => Sys2Proof.Machine.execUnitRetire bank u s
  | .unitIsolate bank u => Sys2Proof.Machine.execUnitIsolate bank u s
  | .unitRelease bank u => Sys2Proof.Machine.execUnitRelease bank u s
  | .unitUnretire bank u => Sys2Proof.Machine.execUnitUnretire bank u s
  | .unitStatus bank u => Sys2Proof.Machine.execUnitStatus bank u s
  | .unitBackInService u => Sys2Proof.Machine.execUnitBackInService u s
  | .announceToken x gen => Sys2Proof.Machine.execAnnounceToken x gen s
  | .feedSample n mv ma reversed => Sys2Proof.Machine.execFeedSample n mv ma reversed s
  | .feedQualified n => Sys2Proof.Machine.execFeedQualified n s
  | .feedDropout n => Sys2Proof.Machine.execFeedDropout n s
  | .feedUvFault n => Sys2Proof.Machine.execFeedUvFault n s
  | .feedOv n => Sys2Proof.Machine.execFeedOv n s
  | .feedOc n => Sys2Proof.Machine.execFeedOc n s
  | .feedRecover n => Sys2Proof.Machine.execFeedRecover n s
  | .feedTestA => Sys2Proof.Machine.execFeedTestA s
  | .feedTestB => Sys2Proof.Machine.execFeedTestB s
  | .feedTestPeriod => Sys2Proof.Machine.execFeedTestPeriod s
  | .feedTestEnd holdupUs bankV => Sys2Proof.Machine.execFeedTestEnd holdupUs bankV s
  | .lastGasp pages us => Sys2Proof.Machine.execLastGasp pages us s
  | .railOff => Sys2Proof.Machine.execRailOff s
  | .railOffRestart n => Sys2Proof.Machine.execRailOffRestart n s
  | .thermalSample plate die ocxo vbat railMv railMa => Sys2Proof.Machine.execThermalSample plate die ocxo vbat railMv railMa s
  | .thermalTrip => Sys2Proof.Machine.execThermalTrip s
  | .railFault rail mv => Sys2Proof.Machine.execRailFault rail mv s
  | .vbatLow mv => Sys2Proof.Machine.execVbatLow mv s
  | .porchPowerOn => Sys2Proof.Machine.execPorchPowerOn s
  | .resetNLow ns => Sys2Proof.Machine.execResetNLow ns s
  | .resetNRelease x => Sys2Proof.Machine.execResetNRelease x s
  | .pmbusPage write => Sys2Proof.Machine.execPmbusPage write s
  | .pmbusCapability => Sys2Proof.Machine.execPmbusCapability s
  | .pmbusStatusWord => Sys2Proof.Machine.execPmbusStatusWord s
  | .pmbusStatusInput => Sys2Proof.Machine.execPmbusStatusInput s
  | .pmbusStatusTemperature => Sys2Proof.Machine.execPmbusStatusTemperature s
  | .pmbusReadVin => Sys2Proof.Machine.execPmbusReadVin s
  | .pmbusReadIin => Sys2Proof.Machine.execPmbusReadIin s
  | .pmbusReadTemperature1 => Sys2Proof.Machine.execPmbusReadTemperature1 s
  | .pmbusReadTemperature2 => Sys2Proof.Machine.execPmbusReadTemperature2 s
  | .pmbusReadTemperature3 => Sys2Proof.Machine.execPmbusReadTemperature3 s
  | .pmbusReadPin => Sys2Proof.Machine.execPmbusReadPin s
  | .pmbusRevision => Sys2Proof.Machine.execPmbusRevision s
  | .pmbusMfrId => Sys2Proof.Machine.execPmbusMfrId s
  | .pmbusMfrModel => Sys2Proof.Machine.execPmbusMfrModel s
  | .pmbusUnsupported => Sys2Proof.Machine.execPmbusUnsupported s
  | .alertResponse => Sys2Proof.Machine.execAlertResponse s
  | .railsGood x holdupUs bankV => Sys2Proof.Machine.execRailsGood x holdupUs bankV s
  | .bootReadDone => Sys2Proof.Machine.execBootReadDone s
  | .oscAmplitudeTimeout osc => Sys2Proof.Machine.execOscAmplitudeTimeout osc s
  | .oscCountDone osc count => Sys2Proof.Machine.execOscCountDone osc count s
  | .ocxoTempSettled => Sys2Proof.Machine.execOcxoTempSettled s
  | .ocxoWarm tenths => Sys2Proof.Machine.execOcxoWarm tenths s
  | .ocxoWarmTimeout => Sys2Proof.Machine.execOcxoWarmTimeout s
  | .clockMonWindow n offset => Sys2Proof.Machine.execClockMonWindow n offset s
  | .clockMonMiss n => Sys2Proof.Machine.execClockMonMiss n s
  | .baseMove => Sys2Proof.Machine.execBaseMove s
  | .baseMoveEnd => Sys2Proof.Machine.execBaseMoveEnd s
  | .muxSwitch m len => Sys2Proof.Machine.execMuxSwitch m len s
  | .muxForced m => Sys2Proof.Machine.execMuxForced m s
  | .muxStall m => Sys2Proof.Machine.execMuxStall m s
  | .stage3HoldoffEnd => Sys2Proof.Machine.execStage3HoldoffEnd s
  | .edgeStamp c coarse line falling comparator glitches => Sys2Proof.Machine.execEdgeStamp c coarse line falling comparator glitches s
  | .stampDistribute c => Sys2Proof.Machine.execStampDistribute c s
  | .calTableReady c beyond maxTap taps bin dnl inl => Sys2Proof.Machine.execCalTableReady c beyond maxTap taps bin dnl inl s
  | .calValid c => Sys2Proof.Machine.execCalValid c s
  | .calRescaleDone c => Sys2Proof.Machine.execCalRescaleDone c s
  | .gateEnd slot => Sys2Proof.Machine.execGateEnd slot s
  | .estimatePublish slot => Sys2Proof.Machine.execEstimatePublish slot s
  | .estStart e => Sys2Proof.Machine.execEstStart e s
  | .estStop e => Sys2Proof.Machine.execEstStop e s
  | .takeArm t => Sys2Proof.Machine.execTakeArm t s
  | .takeAbort t => Sys2Proof.Machine.execTakeAbort t s
  | .gatePinEdge pin high cycle => Sys2Proof.Machine.execGatePinEdge pin high cycle s
  | .takeGateEnd t => Sys2Proof.Machine.execTakeGateEnd t s
  | .missingEdge m => Sys2Proof.Machine.execMissingEdge m s
  | .arrivalWindowMiss m => Sys2Proof.Machine.execArrivalWindowMiss m s
  | .qualValidationEnd m => Sys2Proof.Machine.execQualValidationEnd m s
  | .qualHoldoffEnd m => Sys2Proof.Machine.execQualHoldoffEnd m s
  | .qualDetectResume => Sys2Proof.Machine.execQualDetectResume s
  | .waitToRestoreEnd n e => Sys2Proof.Machine.execWaitToRestoreEnd n e s
  | .buildoutComplete d => Sys2Proof.Machine.execBuildoutComplete d s
  | .dpllLockTimer d => Sys2Proof.Machine.execDpllLockTimer d s
  | .refAck d => Sys2Proof.Machine.execRefAck d s
  | .refAckStep d => Sys2Proof.Machine.execRefAckStep d s
  | .holdClear d => Sys2Proof.Machine.execHoldClear d s
  | .synthCommitGo => Sys2Proof.Machine.execSynthCommitGo s
  | .synthCommitValidate => Sys2Proof.Machine.execSynthCommitValidate s
  | .synthRealign a => Sys2Proof.Machine.execSynthRealign a s
  | .apllLock a => Sys2Proof.Machine.execApllLock a s
  | .apllUnlock a => Sys2Proof.Machine.execApllUnlock a s
  | .relockAttempt a failed => Sys2Proof.Machine.execRelockAttempt a failed s
  | .baseUnlock => Sys2Proof.Machine.execBaseUnlock s
  | .degradedIntervalEnd => Sys2Proof.Machine.execDegradedIntervalEnd s
  | .shutterForce n => Sys2Proof.Machine.execShutterForce n s
  | .shutterOpen n => Sys2Proof.Machine.execShutterOpen n s
  | .phaseVerify => Sys2Proof.Machine.execPhaseVerify s
  | .timeSet => Sys2Proof.Machine.execTimeSet s
  | .timeStepRequest => Sys2Proof.Machine.execTimeStepRequest s
  | .timeStep => Sys2Proof.Machine.execTimeStep s
  | .timeVoteOne c => Sys2Proof.Machine.execTimeVoteOne c s
  | .timeVoteNone => Sys2Proof.Machine.execTimeVoteNone s
  | .counterStart sec ticks expected => Sys2Proof.Machine.execCounterStart sec ticks expected s
  | .porchAnchor => Sys2Proof.Machine.execPorchAnchor s
  | .leapSecond => Sys2Proof.Machine.execLeapSecond s
  | .todMessageRx j bytes framing start stop => Sys2Proof.Machine.execTodMessageRx j bytes framing start stop s
  | .todoSend j => Sys2Proof.Machine.execTodoSend j s
  | .ppsPulse p => Sys2Proof.Machine.execPpsPulse p s
  | .linkUp p => Sys2Proof.Machine.execLinkUp p s
  | .linkDown p cdr => Sys2Proof.Machine.execLinkDown p cdr s
  | .restartLink p => Sys2Proof.Machine.execRestartLink p s
  | .restartEq p => Sys2Proof.Machine.execRestartEq p s
  | .laneRefFallback p => Sys2Proof.Machine.execLaneRefFallback p s
  | .laneRefReturn p => Sys2Proof.Machine.execLaneRefReturn p s
  | .esmcRx p => Sys2Proof.Machine.execEsmcRx p s
  | .esmcTx p => Sys2Proof.Machine.execEsmcTx p s
  | .frameRx p pcs fr => Sys2Proof.Machine.execFrameRx p pcs fr s
  | .frameTx p pcs => Sys2Proof.Machine.execFrameTx p pcs s
  | .bridgeForward b odd pcs fr => Sys2Proof.Machine.execBridgeForward b odd pcs fr s
  | .cueLaunch p pcs busy => Sys2Proof.Machine.execCueLaunch p pcs busy s
  | .ptpSignalingRx p => Sys2Proof.Machine.execPtpSignalingRx p s
  | .followUpSend p => Sys2Proof.Machine.execFollowUpSend p s
  | .delayReqRx p => Sys2Proof.Machine.execDelayReqRx p s
  | .pdelayReqRx p pcs => Sys2Proof.Machine.execPdelayReqRx p pcs s
  | .managementRx p => Sys2Proof.Machine.execManagementRx p s
  | .ntpRequestRx p pcs => Sys2Proof.Machine.execNtpRequestRx p pcs s
  | .tblRead => Sys2Proof.Machine.execTblRead s
  | .tblWrite => Sys2Proof.Machine.execTblWrite s
  | .tblDelete => Sys2Proof.Machine.execTblDelete s
  | .tblFind => Sys2Proof.Machine.execTblFind s
  | .clientWindowAccess => Sys2Proof.Machine.execClientWindowAccess s
  | .servoFrameRx k => Sys2Proof.Machine.execServoFrameRx k s
  | .servoRenew k msg => Sys2Proof.Machine.execServoRenew k msg s
  | .followUpTimeout k => Sys2Proof.Machine.execFollowUpTimeout k s
  | .servoLost k why grant => Sys2Proof.Machine.execServoLost k why grant s
  | .announceTimeout k => Sys2Proof.Machine.execAnnounceTimeout k s
  | .perstN low => Sys2Proof.Machine.execPerstN low s
  | .linkL0 speed width => Sys2Proof.Machine.execLinkL0 speed width s
  | .hostLinkDown => Sys2Proof.Machine.execHostLinkDown s
  | .pf0Flr fromD3 => Sys2Proof.Machine.execPf0Flr fromD3 s
  | .vfFlr v => Sys2Proof.Machine.execVfFlr v s
  | .doorbellProd r value dword => Sys2Proof.Machine.execDoorbellProd r value dword s
  | .doorbellCons r value dword => Sys2Proof.Machine.execDoorbellCons r value dword s
  | .doorbellConsArm r value dword => Sys2Proof.Machine.execDoorbellConsArm r value dword s
  | .descriptorRelease r l => Sys2Proof.Machine.execDescriptorRelease r l s
  | .descriptorFetchDone r d => Sys2Proof.Machine.execDescriptorFetchDone r d s
  | .completionWrite r => Sys2Proof.Machine.execCompletionWrite r s
  | .dmaError r addr desc => Sys2Proof.Machine.execDmaError r addr desc s
  | .recordsFlush r => Sys2Proof.Machine.execRecordsFlush r s
  | .msixModeration r => Sys2Proof.Machine.execMsixModeration r s
  | .adminEnable a value => Sys2Proof.Machine.execAdminEnable a value s
  | .negotiate a => Sys2Proof.Machine.execNegotiate a s
  | .createReel a => Sys2Proof.Machine.execCreateReel a s
  | .destroyReel a => Sys2Proof.Machine.execDestroyReel a s
  | .setVector a => Sys2Proof.Machine.execSetVector a s
  | .atticRead a ok => Sys2Proof.Machine.execAtticRead a ok s
  | .atticWrite a buffer => Sys2Proof.Machine.execAtticWrite a buffer s
  | .fullReset a => Sys2Proof.Machine.execFullReset a s
  | .fullResetStart => Sys2Proof.Machine.execFullResetStart s
  | .pairSwitch a => Sys2Proof.Machine.execPairSwitch a s
  | .reelStatus a => Sys2Proof.Machine.execReelStatus a s
  | .drainReel a => Sys2Proof.Machine.execDrainReel a s
  | .adminBadOpcode a => Sys2Proof.Machine.execAdminBadOpcode a s
  | .timeSnapshot v at_ => Sys2Proof.Machine.execTimeSnapshot v at_ s
  | .vfEvtReelEnable v value => Sys2Proof.Machine.execVfEvtReelEnable v value s
  | .vfEvtCons v value => Sys2Proof.Machine.execVfEvtCons v value s
  | .vfEvtConsArm v value => Sys2Proof.Machine.execVfEvtConsArm v value s
  | .claimInChange code => Sys2Proof.Machine.execClaimInChange code s
  | .claimSlotDelayEnd => Sys2Proof.Machine.execClaimSlotDelayEnd s
  | .claimConfirmEnd => Sys2Proof.Machine.execClaimConfirmEnd s
  | .claimConflictHoldEnd => Sys2Proof.Machine.execClaimConflictHoldEnd s
  | .reclaimHoldoffEnd => Sys2Proof.Machine.execReclaimHoldoffEnd s
  | .hallwayLaneUp l => Sys2Proof.Machine.execHallwayLaneUp l s
  | .hallwayLaneDown l => Sys2Proof.Machine.execHallwayLaneDown l s
  | .helloTx => Sys2Proof.Machine.execHelloTx s
  | .helloRx fr h => Sys2Proof.Machine.execHelloRx fr h s
  | .heartbeatTx => Sys2Proof.Machine.execHeartbeatTx s
  | .heartbeatRx fr h => Sys2Proof.Machine.execHeartbeatRx fr h s
  | .heartbeatLost => Sys2Proof.Machine.execHeartbeatLost s
  | .timeMsgRx fr t => Sys2Proof.Machine.execTimeMsgRx fr t s
  | .tableSyncRx fr t => Sys2Proof.Machine.execTableSyncRx fr t s
  | .cfgDigestRx fr digest => Sys2Proof.Machine.execCfgDigestRx fr digest s
  | .standbyAligned => Sys2Proof.Machine.execStandbyAligned s
  | .peerSwitchGo => Sys2Proof.Machine.execPeerSwitchGo s
  | .peerSwitchForce key => Sys2Proof.Machine.execPeerSwitchForce key s
  | .switchOfferRx fr ident force => Sys2Proof.Machine.execSwitchOfferRx fr ident force s
  | .switchAcceptRx fr ident t => Sys2Proof.Machine.execSwitchAcceptRx fr ident t s
  | .switchRefuseRx fr ident => Sys2Proof.Machine.execSwitchRefuseRx fr ident s
  | .switchHandover => Sys2Proof.Machine.execSwitchHandover s
  | .switchTimeout => Sys2Proof.Machine.execSwitchTimeout s
  | .faultCause source unit itemA itemB => Sys2Proof.Machine.execFaultCause source unit itemA itemB s
  | .faultWire source unit broken => Sys2Proof.Machine.execFaultWire source unit broken s
  | .sramScrub addr double => Sys2Proof.Machine.execSramScrub addr double s
  | .faultAck k => Sys2Proof.Machine.execFaultAck k s
  | .graceExpiry k => Sys2Proof.Machine.execGraceExpiry k s
  | .reactionOperation => Sys2Proof.Machine.execReactionOperation s
  | .reactionComplete => Sys2Proof.Machine.execReactionComplete s
  | .settleWindowEnd => Sys2Proof.Machine.execSettleWindowEnd s
  | .errToggle => Sys2Proof.Machine.execErrToggle s
  | .faultInject => Sys2Proof.Machine.execFaultInject s
  | .faultInjectBreak on_ => Sys2Proof.Machine.execFaultInjectBreak on_ s
  | .atticCommitDone failed us => Sys2Proof.Machine.execAtticCommitDone failed us s
  | .atticMbRead => Sys2Proof.Machine.execAtticMbRead s
  | .atticMbWrite => Sys2Proof.Machine.execAtticMbWrite s
  | .atticMbRawRead => Sys2Proof.Machine.execAtticMbRawRead s
  | .atticMbRawWrite => Sys2Proof.Machine.execAtticMbRawWrite s
  | .logPageWrite => Sys2Proof.Machine.execLogPageWrite s
  | .powerOnHour => Sys2Proof.Machine.execPowerOnHour s
  | .atticScanPage weak single bad => Sys2Proof.Machine.execAtticScanPage weak single bad s
  | .wideCapture bank block item => Sys2Proof.Machine.execWideCapture bank block item s
  | .wideWrite m block item => Sys2Proof.Machine.execWideWrite m block item s
  | .smbBlockWrite sa count data pec => Sys2Proof.Machine.execSmbBlockWrite sa count data pec s
  | .smbBlockWriteMulti sa count data pec => Sys2Proof.Machine.execSmbBlockWriteMulti sa count data pec s
  | .smbBlockRead sa count data => Sys2Proof.Machine.execSmbBlockRead sa count data s
  | .smbBadCommand sa code => Sys2Proof.Machine.execSmbBadCommand sa code s
  | .extest pins shift => Sys2Proof.Machine.execExtest pins shift s
  | .samplePreload pins shift => Sys2Proof.Machine.execSamplePreload pins shift s
  | .idcode => Sys2Proof.Machine.execIdcode s
  | .regacc write addr value => Sys2Proof.Machine.execRegacc write addr value s
  | .bypass code shift => Sys2Proof.Machine.execBypass code shift s
  | .tapReset => Sys2Proof.Machine.execTapReset s
  | .testModeEnter m key => Sys2Proof.Machine.execTestModeEnter m key s
  | .fuseBlow key => Sys2Proof.Machine.execFuseBlow key s
  | .fuseBlowDone => Sys2Proof.Machine.execFuseBlowDone s
  | .feedTestFail n => Sys2Proof.Machine.execFeedTestFail n s
  | .thermalRestart plate => Sys2Proof.Machine.execThermalRestart plate s
  | .cdrLock p => Sys2Proof.Machine.execCdrLock p s
  | .d3hotEntry => Sys2Proof.Machine.execD3hotEntry s
  | .numVfsChange n => Sys2Proof.Machine.execNumVfsChange n s
  | .msixUnmask fn vec => Sys2Proof.Machine.execMsixUnmask fn vec s
  | .drainTimeout a => Sys2Proof.Machine.execDrainTimeout a s
  | .ownUnitReset => Sys2Proof.Machine.execOwnUnitReset s

end Sys2Proof.Machine
end

