-- ==== Sys2Proof/Safety.lean ====
section
/-! DEFINITION. What claims about the module speak of: commands that complete, runs over a queue, the canonical form of its
stored data, and what a command may change. -/

namespace Sys2Proof

open Sys2Proof.Machine

/-- A command completes in a state, with a given next state. -/
def Completes (c : Instr) (s t : State) : Prop := exec c s = .next t

/-- Every stored byte of the attic and of its staging buffer is listed in canonical form. -/
def MemoryWf (s : State) : Bool := Memory.wf s.at_.mem && Memory.wf s.at_.staging

/-- `n` commands from the front of the queue. -/
def runs (n : Nat) (s : State) : Host.Outcome State Fault Refusal := core.run n s

/-! What a command may change (frames). The state is its register fields and its other parts. -/

/-- The parts of the state beside the register fields and the queue. -/
inductive Part where
  | cp | ev | flt | un | tm | pr | pw | ck | dp | at_ | td | ql | tr | sy | hs | po | sv | pk | id_ | ep | out | freeCtr
  /-- bytes of the attic outside the lifetime counters -/
  | recs
  /-- bytes of the archive and its reserve: the pages below 1024 -/
  | archive
  /-- the staging buffer -/
  | staging
  /-- any byte of the attic -/
  | bytes
  deriving DecidableEq, Repr

/-- A part is the same in two states. -/
def Part.same (s t : State) : Part → Prop
  | .cp => t.cp = s.cp
  | .ev => t.ev = s.ev
  | .flt => t.flt = s.flt
  | .un => t.un = s.un
  | .tm => t.tm = s.tm
  | .pr => t.pr = s.pr
  | .pw => t.pw = s.pw
  | .ck => t.ck = s.ck
  | .dp => t.dp = s.dp
  | .at_ => t.at_ = s.at_
  | .td => t.td = s.td
  | .ql => t.ql = s.ql
  | .tr => t.tr = s.tr
  | .sy => t.sy = s.sy
  | .hs => t.hs = s.hs
  | .po => t.po = s.po
  | .sv => t.sv = s.sv
  | .pk => t.pk = s.pk
  | .id_ => t.id_ = s.id_
  | .ep => t.ep = s.ep
  | .out => t.out = s.out
  | .freeCtr => t.freeCtr = s.freeCtr
  | .recs => ∀ a, a < 262144 ∨ 263168 ≤ a → Memory.read t.at_.mem a = Memory.read s.at_.mem a
  | .archive => ∀ a, a < 262144 → Memory.read t.at_.mem a = Memory.read s.at_.mem a
  | .staging => t.at_.staging = s.at_.staging
  | .bytes => ∀ a, Memory.read t.at_.mem a = Memory.read s.at_.mem a

/-- From s to t no register field changes but those of `l`, at any index, and no part but those of `ps`. The attic's state
is `at_`, and its bytes are parts of their own: where `bytes` is not listed, every byte of the attic reads as before; where
`recs` is not, every byte but those of the lifetime counters (R357) does; where `archive` is not, every byte of the pages
below 1024 does; where `staging` is not, the staging buffer is as before. -/
def Changes (l : List Fld) (ps : List Part) (s t : State) : Prop :=
  (∀ (f : Fld) (i : Nat), (∀ g ∈ l, g.id ≠ f.id) → t.rd f i = s.rd f i) ∧ ∀ p : Part, p ∉ ps → p.same s t

/-- Register fields that raising a fault may write: its counters, the slate and latch counters, the reaction registers, the
claim that a reaction releases, and the porch trace (R330–R341). -/
def faultFields : List Fld :=
  [F.PORCH_STATUS_TRACE_COUNT, F.PORCH_STATUS_TRACE_NEXT, F.PORCH_TRACE_WORD, F.HOST_MSIX_SENT_COUNT,
   F.PEER_STATUS_CLAIM_OUT, F.PEER_STATUS_PAIR_STATE, F.FLT_SRC_STAT_COUNT, F.FLT_SLATE_LATER_COUNT,
   F.FLT_REACT_STATUS_LAST_UNIT, F.FLT_REACT_STATUS_REFUSED, F.FLT_REACT_STATUS_LAST_ACTION,
   F.FLT_REACT_STATUS_LAST_SOURCE, F.FLT_REACT_COUNT_COUNT, F.FLT_CONSEQ_COUNT_COUNT, F.FLT_LATCH_HIGH_HIGH_WATER,
   F.FLT_SEV_COUNT_COUNT]

/-- The fields of the VF pages that a reset of the page writes (R302–R304). -/
def pageFields : List Fld :=
  [F.TM_CTRL_SEQ, F.TM_TIME_TIME, F.TM_STATE_STEPPED, F.TM_STATE_OUT_OF_SPEC, F.TM_STATE_SECONDS_SET, F.TM_STATE_VALID,
   F.TM_STATE_TRACE, F.TM_STATE_CLOCK_CLASS, F.TM_STATE_GEN, F.TM_UTC_OFFSET, F.TM_UTC_LEAP59, F.TM_UTC_LEAP61,
   F.TM_UTC_VALID, F.TM_TE_TE_NS, F.TM_SUB_SOURCES, F.VF_EVT_ADDR_ADDR, F.VF_EVT_CFG_MOD_10US, F.VF_EVT_CFG_MOD_COUNT,
   F.VF_EVT_CFG_SIZE_LOG, F.VF_EVT_CFG_NOTIFY, F.VF_EVT_CFG_ENABLE, F.VF_EVT_STATUS_RESULT]

/-- The registers that show a faulted reel (R288). -/
def reelErrorFields : List Fld :=
  [F.HOST_ERR_STATUS_REASON, F.HOST_ERR_STATUS_REEL, F.HOST_ERR_ADDR_LO_ADDR, F.HOST_ERR_ADDR_HI_ADDR,
   F.HOST_ERR_COUNT_COUNT]

/-- Register fields that an operation on a unit may write, with the leaves, stages and claims that follow it (R30–R34, R79–R86). -/
def unitFields : List Fld :=
  [F.FEED_STATUS_OC, F.FEED_STATUS_STATE, F.POWER_STATUS_PWR_FAIL, F.POWER_STATUS_REDUNDANT, F.POWER_STATUS_TEST_ACTIVE,
   F.POWER_TEST_RESULT_MIN_VIN, F.POWER_TEST_RESULT_RESULT, F.POWER_TEST_RESULT_LAST_FEED, F.CLK_MON_STATUS_QUALIFIED,
   F.CLK_MUX_STATUS_GATED, F.CLK_MUX_STATUS_PENDING, F.CLK_MUX_STATUS_INPUT, F.CLK_BASE_STATUS_APLL0_LOCKED,
   F.CLK_BASE_STATUS_TK_ON_PATH, F.CLK_BASE_STATUS_MOVING, F.CLK_BASE_STATUS_MOVE_PENDING, F.CLK_BASE_STATUS_BASE,
   F.CLK_TCXO_STATUS_AMPLITUDE, F.CLK_TCXO_STATUS_QUALIFIED, F.CLK_TCXO_STATUS_QUALIFYING, F.CLK_TCXO_STATUS_RETIRED,
   F.CLK_TCXO_STATUS_ATTEMPTS, F.CLK_OCXO_STATUS_STATE, F.CLK_OCXO_STATUS_ATTEMPTS, F.CLK_OCXO_STATUS_FREQ_STABLE,
   F.CLK_OCXO_STATUS_WARM, F.CLK_OCXO_WARM_TIME_TIME, F.CLK_PILOT_FREQ_HZ, F.CLK_STAGE_STATUS_STAGE,
   F.CLK_STAGE_STATUS_LAST_DOWN_CAUSE, F.CLK_XING_STATUS_STATE, F.IN_FILTER_GLITCHES, F.IN_EDGES_COUNT,
   F.TDC_CH_STATUS_LINE, F.TDC_CH_STATUS_DROPPING, F.TDC_CH_STATUS_STALLED, F.TDC_CH_FIFO_LEVEL, F.TDC_CH_FIFO_HIGH_WATER,
   F.TDC_CH_CAL_VALID, F.TDC_CH_CAL_FULL, F.TDC_CH_CAL_FAILED, F.EST_STATUS_STATE, F.TAKE_STATUS_INCOMPLETE,
   F.QM_STATUS_STATE, F.QM_STATUS_FROZEN, F.QM_STATUS_CAUSE, F.QM_STATUS_CAUSES, F.QM_COUNTS_IN_WINDOW,
   F.QUAL_RETIRE_STATUS_COMMIT_PENDING, F.QUAL_RETIRE_STATUS_ENTRIES, F.DP_STATUS_LOCKSTEP_HELD, F.DP_STATUS_EVER_LOCKED,
   F.DP_STATUS_LOCK_OK, F.DP_STATUS_RANGE, F.DP_STATUS_SLOPE_LIMITED, F.DP_STATUS_SLEWING, F.DP_STATUS_HELD,
   F.DP_STATUS_STATE, F.DP_COUNTS_HOLDOVERS, F.HOLD_STATUS_OUT_OF_SPEC, F.HOLD_STATUS_IN_HOLDOVER, F.HOLD_ELAPSED_SECONDS,
   F.HOLD_REMAIN_SECONDS, F.OUT_SHUTTERS_COUNT, F.APLL_STATUS_LOCKED, F.APLL_COUNTS_UNLOCKS, F.SYNTH_DEG_STATUS_DEGRADED,
   F.SYNTH_DEG_STATUS_COUNT, F.TIME_STATUS_VALID, F.TIME_VOTE_STATUS_NO_MAJORITY, F.PORCH_STATUS_TRACE_COUNT,
   F.PORCH_STATUS_TRACE_NEXT, F.PORCH_TRACE_WORD, F.PORT_STATUS_LINK_UP, F.PORT_STATUS_CDR_LOCK, F.PORT_STATUS_BLOCK_LOCK,
   F.PORT_STATUS_FEC_LOCK, F.PORT_STATUS_AN_DONE, F.PORT_COUNTER_COUNT, F.BR_STATUS_STATE, F.PK_STATUS_ANN_GRANTED,
   F.PK_STATUS_DRESP_GRANTED, F.PK_STATUS_SYNC_GRANTED, F.PK_STATUS_STATE, F.PK_WINDOW_SPREAD_NS, F.PK_WINDOW_N_REV,
   F.PK_WINDOW_N_FWD, F.HOST_STATUS_ADMIN_VER, F.HOST_LINK_WIDTH, F.HOST_LINK_SPEED, F.HOST_CUE_STORE_HIGH_WATER,
   F.HOST_MSIX_SENT_COUNT, F.TM_CTRL_SEQ, F.TM_TIME_TIME, F.TM_STATE_STEPPED, F.TM_STATE_OUT_OF_SPEC,
   F.TM_STATE_SECONDS_SET, F.TM_STATE_VALID, F.TM_STATE_TRACE, F.TM_STATE_CLOCK_CLASS, F.TM_STATE_GEN, F.TM_UTC_OFFSET,
   F.TM_UTC_LEAP59, F.TM_UTC_LEAP61, F.TM_UTC_VALID, F.TM_TE_TE_NS, F.TM_SUB_SOURCES, F.VF_EVT_ADDR_ADDR,
   F.VF_EVT_CFG_MOD_10US, F.VF_EVT_CFG_MOD_COUNT, F.VF_EVT_CFG_SIZE_LOG, F.VF_EVT_CFG_NOTIFY, F.VF_EVT_CFG_ENABLE,
   F.VF_EVT_STATUS_RESULT, F.PEER_STATUS_CLAIM_OUT, F.PEER_STATUS_VERSION, F.PEER_STATUS_LINK_STATE,
   F.PEER_STATUS_PAIR_STATE, F.PEER_LANE_STATUS_UP, F.PEER_LANE_STATUS_SIGNAL, F.PEER_LANE_STATUS_ALIGNED,
   F.FLT_SRC_STAT_COUNT, F.FLT_SLATE_LATER_COUNT, F.FLT_REACT_STATUS_LAST_UNIT, F.FLT_REACT_STATUS_REFUSED,
   F.FLT_REACT_STATUS_LAST_ACTION, F.FLT_REACT_STATUS_LAST_SOURCE, F.FLT_REACT_COUNT_COUNT, F.FLT_CONSEQ_COUNT_COUNT,
   F.FLT_LATCH_HIGH_HIGH_WATER, F.FLT_SEV_COUNT_COUNT, F.GLOBAL_STAGE_CHANGES, F.GLOBAL_OWNER_OWNER0,
   F.GLOBAL_OWNER_OWNER1, F.GLOBAL_OWNER_OWNER2, F.GLOBAL_OWNER_OWNER3]

/-- Parts of the state that raising a fault may change. -/
def faultParts : List Part := [.ev, .flt, .pr, .hs, .out, .freeCtr]

/-- Parts of the state that an operation on a unit may change. -/
def unitParts : List Part :=
  [.ev, .flt, .un, .tm, .pr, .pw, .ck, .dp, .at_, .td, .ql, .tr, .sy, .hs, .po, .pk, .ep, .out, .freeCtr, .bytes]

/-- The commands that carry out an operation on a unit for the master of a bank, each with its OP code (R374). -/
def unitCommands (bank : Fin 4) (u : Nat) : List (Nat × Instr) :=
  [(opSTATUS, .unitStatus bank u), (opRESET, .unitReset bank u), (opRETIRE, .unitRetire bank u), (opISOLATE, .unitIsolate bank u),
   (opRELEASE, .unitRelease bank u), (opUNRETIRE, .unitUnretire bank u)]

/-- A unit command completes with a code and without effect: beside its result it may only tell VFs what they were due to be
told (R302). -/
def RefusedWith (code bank : Nat) (c : Instr) (s : State) : Prop :=
  ∃ t, exec c s = .next t ∧ t.rd F.GLOBAL_UNIT_RESULT_CODE bank = code ∧
    Changes [F.GLOBAL_UNIT_RESULT_CODE, F.GLOBAL_UNIT_RESULT_UNIT_STATUS, F.HOST_MSIX_SENT_COUNT] [.hs, .out] s t

end Sys2Proof
end

