-- ==== Sys2Proof/Certificates/Slice0/Obligations.lean ====
section
/-! DEFINITION. The statements for the provers, each a proposition about the model: how a step takes a command, where each
command completes and what it leaves, what it leaves unchanged, and rules of the whole module. -/

open Sys2Proof Sys2Proof.Machine

/-- A step runs the command at the front of the queue over the rest of the queue. -/
def Obligations.StepRunsFront : Prop :=
  ∀ (c : Instr) (l : List Instr) (s : State), step { s with pending := c :: l } = exec c { s with pending := l }

/-- With no command waiting the block idles (the model's choice: log 2). -/
def Obligations.StepIdles : Prop := ∀ s : State, s.pending = [] → step s = .next s

/-- Reset values that the register chapters give, some of each of twelve blocks (R63, R87, R111, R112, R130, R155, R182, R183,
R204, R223, R225, R249, R276, R277, R303, R327): each field at every index. No write waits, no record is held, nothing has left
the module. -/
def Obligations.ResetValues : Prop :=
  (∀ n : Fin 2, State.reset.rd F.FEED_CFG_ENABLE n = 1 ∧ State.reset.rd F.FEED_CFG_UV_WARN n = 90 ∧
    State.reset.rd F.CLK_MUX_STATUS_GATED n = 1) ∧
  State.reset.rd F.POWER_TEST_CFG_DURATION_MS = 100 ∧ State.reset.rd F.POWER_THERM_CFG_WARN_C = 85 ∧
  State.reset.rd F.POWER_VBAT_CFG_LOW_MV = 2200 ∧ State.reset.rd F.POWER_STATUS_RAILS_GOOD = 0 ∧
  (∀ n : Fin 16, State.reset.rd F.IN_CFG_TERM n = 1 ∧ State.reset.rd F.IN_EDGES_COUNT n = 0) ∧
  (∀ n : Fin 4, State.reset.rd F.TAKE_WINDOW_WINDOW_PS n = 1000) ∧
  (∀ m : Fin 44, State.reset.rd F.QM_CFG_VALID_S m = 3) ∧ State.reset.rd F.QUAL_RETRY_CFG_MAX_RETRIES = 3 ∧
  (∀ n : Fin 128, State.reset.rd F.TREE_NODE_LINK0_PRIO0 n = 8) ∧
  (∀ d : Fin 16, State.reset.rd F.DP_PROF_SEL_IN_TIME d = 3 ∧ State.reset.rd F.HOLD_BUDGET_WARN_MIN d = 60) ∧
  (∀ p : Fin 16, State.reset.rd F.PROF_ENTRY_ENTRY_S p = if p = 7 then 3600 else 600) ∧
  (∀ a : Fin 5, State.reset.rd F.APLL_CFG_ALIGN_S a = 1) ∧
  (∀ p : Fin 4, State.reset.rd F.PPS_CFG_QUALIFY p = 1) ∧ (∀ j : Fin 2, State.reset.rd F.TODO_CFG_DELAY_MS j = 100) ∧
  (∀ p : Fin 8, State.reset.rd F.PORT_EQ_CFG_TX_MAIN p = 48 ∧ State.reset.rd F.PORT_SYNCE_CFG_LN_DIV p = 16) ∧
  State.reset.rd F.SVC_ANNOUNCE_PRIORITY2 = 128 ∧ State.reset.rd F.SVC_GRANT_CFG_DUR_MIN_S = 60 ∧
  State.reset.rd F.NTP_STATUS_STRATUM = 16 ∧
  (∀ k : Fin 16, State.reset.rd F.PK_RATES_DURATION_S k = 300 ∧ State.reset.rd F.PK_ANNOUNCE_CLOCK_CLASS k = 248) ∧
  State.reset.rd F.HOST_CTRL_RELEASE_US = 10 ∧ State.reset.rd F.PEER_CFG_CONFIRM = 2 ∧
  State.reset.cp.queue = [] ∧ State.reset.ev.held = [] ∧ State.reset.out = [] ∧ State.reset.pending = []

/-- The state after reset has the canonical form that every step keeps. -/
def Obligations.ResetMeetsInvariant : Prop := Tab.sorted State.reset.regs = true ∧ MemoryWf State.reset = true

/-- Every step keeps the stored data in canonical form: register fields, attic and staging buffer, each a list of cells with
strictly rising keys; no cell of the attic (R345) or of the staging buffer (R362) is listed that reads as an unlisted one (what
an unlisted byte reads as is the model's choice: log 4). -/
def Obligations.InvariantKept : Prop :=
  ∀ s t : State, Tab.sorted s.regs = true → MemoryWf s = true → step s = .next t →
    Tab.sorted t.regs = true ∧ MemoryWf t = true

/-- A step takes at most the front command off the queue, sends what it sends after all that was sent before, and never stops:
every command of the block completes. -/
def Obligations.StepKeepsQueueAndTrace : Prop :=
  ∀ s : State, ∃ t, step s = .next t ∧ t.pending = s.pending.tail ∧ s.out <:+ t.out

/-- A run over a queue: after as many steps as commands wait, the queue is empty, and what had left the module before is
still the tail of what has left it. -/
def Obligations.RunsDrainTheQueue : Prop :=
  ∀ s : State, Tab.sorted s.regs = true → MemoryWf s = true → ∃ t, runs s.pending.length s = .next t ∧ t.pending = [] ∧
    s.out <:+ t.out ∧ Tab.sorted t.regs = true ∧ MemoryWf t = true

/-- R12, R14–R16, R20, R21, R28, R173–R175, R259: where each command of the register, tick and epoch family completes, and
what it leaves. Composed operations are named where the rule's effect is theirs. -/
def Obligations.BlockCommandsComplete : Prop :=
  (∀ (m : Fin 20) (a v : Nat) (s : State), ∃ t, exec (.registerWrite m a v) s = .next t ∧
    t.cp.queue = s.cp.queue ++ [{ master := m, addr := a, value := v }] ∧ t.regs = s.regs) ∧
  (∀ s : State, s.tm.running = true → s.cp.queue = [] → ∃ t, exec .commitTick s = .next t ∧
    t.now = nextBoundary unitsPerUs s.now ∧ t.regs = s.regs ∧ t.at_ = s.at_) ∧
  (∀ s : State, s.tm.running = false → s.cp.queue = [] → ∃ t, exec .provisionalTick s = .next t ∧
    t.regs = s.regs ∧ t.tm = s.tm ∧ t.cp.written = []) ∧
  (∀ s : State, s.tm.running = false → s.stage ≠ 0 → s.cp.queue = [] → s.ep.effects = [] →
    ∃ t, exec .provisionalEpoch s = .next t ∧ t.cp.epochs = s.cp.epochs + 1) ∧
  (∀ s : State, s.tm.running = true → s.tm.stepEpoch = false → s.tm.ordered = none → s.cp.queue = [] →
    s.ep.effects = [] → ∃ t, exec .decisionEpoch s = .next t ∧ t.cp.epochs = s.cp.epochs + 1) ∧
  (∀ (k : Fin 4) (s : State), ∃ t, exec (.epochMiss k) s = .next t ∧
    t.rd F.FLT_SRC_STAT_COUNT 2 = satTo 16 (s.rd F.FLT_SRC_STAT_COUNT 2 + 1) ∧
    t.ep.effects = if k = 1 then [] else s.ep.effects) ∧
  (∀ s : State, s.tm.running = true → ∃ t, exec .serviceEpoch s = .next t ∧
    t.tm.lastService = some (s.boundary unitsPerService s.tm.lastService) ∧
    t.now = s.boundary unitsPerService s.tm.lastService) ∧
  (∀ s : State, s.tm.running = true → ∃ t, exec .modelEpoch s = .next t ∧ t.ep.models = s.ep.models + 1 ∧
    t.tm.lastModel = some (s.boundary unitsPerSec s.tm.lastModel)) ∧
  (∀ s : State, s.tm.running = true → ∃ t, exec .hourlyPoint s = .next t ∧
    t.tm.lastHour = some (s.boundary (3600 * unitsPerSec) s.tm.lastHour)) ∧
  (∀ (slack : Nat) (steady : Bool) (s : State), s.stage ≠ 0 → slack < 128 → ∃ t, exec (.vfabUpdate slack steady) s = .next t ∧
    t.rd F.GLOBAL_FABRIC_SLACK_PCT = slack ∧
    t.rd F.GLOBAL_FABRIC_VFAB_MV = max 720 (min 880 (if slack < 25 then s.rd F.GLOBAL_FABRIC_VFAB_MV + 4
      else if 40 < slack ∧ steady = true then s.rd F.GLOBAL_FABRIC_VFAB_MV - 4 else s.rd F.GLOBAL_FABRIC_VFAB_MV))) ∧
  (∀ (n : Fin 128) (u d time gen : Nat) (sv : Fin 4) (s : State), s.inService uMERGER = true → s.ev.lastKey = none →
    ∃ t, exec (.mergerRecordIn n u sv d time gen) s = .next t ∧ t.ev.produced = s.ev.produced + 1 ∧
      ∃ r ∈ t.ev.held, r.source = n ∧ r.unit = u ∧ r.severity = sv ∧ r.detail = d ∧ r.time = time ∧ r.gen = gen ∧
        r.late = false ∧ r.order = s.ev.produced) ∧
  (∀ (s : State) (r : EvRec), firstRecord (s.ev.held.filter (s.releasable ·)) = some r →
    exec .mergerRelease s = .next (({ s with ev := { s.ev with held := s.ev.held.erase r } }).emitRecord r))

/-- R30–R34, R84, R86, R297, R374: where each command of the unit operations completes, and what it leaves. A refused
operation is the matter of other statements; a result that awaits the retire list's commit (R128) is not spoken of here. -/
def Obligations.UnitCommandsComplete : Prop :=
  (∀ (a : Fin 2) (s : State) (d : TxDesc) (op u : Nat), s.adminNext a = some d → d.opcode = 5 → d.adminReserved = false →
    op = bitsOf (d.param 0) 16 8 → u = bitsOf (d.param 0) 0 16 → op ≤ 5 →
    (s.unitOp op u 0 (some (4 + a))).2.2.2 = false →
    exec (.unitOp a) s = .next (((s.unitOp op u 0 (some (4 + a))).1.adminDone a (s.unitOp op u 0 (some (4 + a))).2.1
      [(s.unitOp op u 0 (some (4 + a))).2.2.1]).notifyReview)) ∧
  (∀ (bank : Fin 4) (u : Nat) (s : State), s.rd F.GLOBAL_UNIT_RESULT_BUSY bank ≠ 1 →
    s.opRefused opRESET u (bankMaster bank) = 0 → ownReset opRESET u (bankMaster bank) = false →
    ∃ t, exec (.unitReset bank u) s = .next t ∧ t.rd F.GLOBAL_UNIT_RESULT_CODE bank = 0 ∧
      t.rd F.GLOBAL_UNIT_RESULT_UNIT_STATUS bank = stRESETTING ∧ t.un = (s.unitReset u none).un) ∧
  (∀ (bank : Fin 4) (u : Nat) (s : State), s.rd F.GLOBAL_UNIT_RESULT_BUSY bank ≠ 1 →
    s.opRefused opRETIRE u (bankMaster bank) = 0 → s.listChange opRETIRE u = none →
    ∃ t, exec (.unitRetire bank u) s = .next t ∧ t.rd F.GLOBAL_UNIT_RESULT_CODE bank = 0 ∧
      t.rd F.GLOBAL_UNIT_RESULT_UNIT_STATUS bank = (s.unitMark u true).unitStatus u % 256 ∧ t.un = (s.unitMark u true).un) ∧
  (∀ (bank : Fin 4) (u : Nat) (s : State), s.rd F.GLOBAL_UNIT_RESULT_BUSY bank ≠ 1 →
    s.opRefused opISOLATE u (bankMaster bank) = 0 →
    ∃ t, exec (.unitIsolate bank u) s = .next t ∧ t.rd F.GLOBAL_UNIT_RESULT_CODE bank = 0 ∧
      t.rd F.GLOBAL_UNIT_RESULT_UNIT_STATUS bank = (s.unitMark u false).unitStatus u % 256 ∧ t.un = (s.unitMark u false).un) ∧
  (∀ (bank : Fin 4) (u : Nat) (s : State), s.rd F.GLOBAL_UNIT_RESULT_BUSY bank ≠ 1 →
    s.opRefused opRELEASE u (bankMaster bank) = 0 →
    ∃ t, exec (.unitRelease bank u) s = .next t ∧ t.rd F.GLOBAL_UNIT_RESULT_CODE bank = 0 ∧
      t.un.isolated = s.un.isolated.filter (· != u) ∧ t.un.retired = s.un.retired) ∧
  (∀ (bank : Fin 4) (u : Nat) (s : State), s.rd F.GLOBAL_UNIT_RESULT_BUSY bank ≠ 1 →
    s.opRefused opUNRETIRE u (bankMaster bank) = 0 → s.listChange opUNRETIRE u = none →
    ∃ t, exec (.unitUnretire bank u) s = .next t ∧ t.rd F.GLOBAL_UNIT_RESULT_CODE bank = 0 ∧
      t.un.retired = s.un.retired.filter (· != u) ∧ t.un.isolated = s.un.isolated) ∧
  (∀ (bank : Fin 4) (u : Nat) (s : State), s.rd F.GLOBAL_UNIT_RESULT_BUSY bank ≠ 1 → unitExists u = true →
    ∃ t, exec (.unitStatus bank u) s = .next t ∧ t.rd F.GLOBAL_UNIT_RESULT_CODE bank = 0 ∧
      t.rd F.GLOBAL_UNIT_RESULT_UNIT_STATUS bank = s.unitStatus u % 256 ∧ t.un = s.un) ∧
  (∀ (u : Nat) (s : State), s.un.resetting.contains u = true → u ≠ uOCXO → u ≠ uTCXO →
    ∃ t, exec (.unitBackInService u) s = .next t ∧ t.un.resetting = s.un.resetting.filter (· != u) ∧
      t.un.retired = s.un.retired ∧ t.un.isolated = s.un.isolated) ∧
  (∀ (s : State) (u m : Nat) (l : List (Nat × Nat)), s.un.deferred = (u, m) :: l →
    { s with un := { s.un with deferred := l } }.opRefused opRESET u m = 0 →
    exec .ownUnitReset s = .next (({ s with un := { s.un with deferred := l } }.unitReset u none).notifyReview)) ∧
  (∀ (x : Fin 14) (gen : Nat) (s : State), s.rd F.CLK_XING_STATUS_STATE x = 1 → gen < 256 →
    gen = (s.rd F.CLK_XING_STATUS_GENERATION x + 1) % 256 → ∃ t, exec (.announceToken x gen) s = .next t ∧
      t.rd F.CLK_XING_STATUS_STATE x = 0 ∧ t.rd F.CLK_XING_STATUS_GENERATION x = gen)

/-- R46–R49: where each command of the feeds and feed tests completes, and what it leaves in the feed's registers. -/
def Obligations.FeedCommandsComplete : Prop :=
  (∀ (n : Fin 2) (mv ma : Nat) (rev : Bool) (s : State), mv < 2 ^ 16 → ma < 2 ^ 16 → ∃ t, exec (.feedSample n mv ma rev) s = .next t ∧
    t.rd F.FEED_STATUS_UV n = b2n (mv ≤ if s.rd F.FEED_STATUS_IN_WINDOW n = 1 then 8200 else 8600) ∧
    t.rd F.FEED_STATUS_OV n = b2n (62000 ≤ mv) ∧ t.rd F.FEED_STATUS_REVERSED n = b2n rev ∧
    t.rd F.FEED_VIN_VIN_MV n = (if rev then 0 else mv) ∧ t.rd F.FEED_IIN_IIN_MA n = ma ∧
    t.rd F.FEED_STATUS_CARRYING n = b2n (100 < ma)) ∧
  (∀ (n : Fin 2) (s : State), s.feedState n = fsQUALIFYING → s.rd F.FEED_STATUS_IN_WINDOW n = 1 →
    ∃ t, exec (.feedQualified n) s = .next t ∧ t.feedState n = fsQUALIFIED) ∧
  (∀ (n : Fin 2) (s : State), s.feedState n = fsQUALIFIED → s.rd F.FEED_STATUS_DROPOUT n ≠ 1 →
    ∃ t, exec (.feedDropout n) s = .next t ∧ t.rd F.FEED_STATUS_DROPOUT n = 1 ∧ t.feedState n = fsQUALIFIED ∧
      t.rd F.FEED_DROPOUTS_COUNT n = satTo 32 (s.rd F.FEED_DROPOUTS_COUNT n + 1)) ∧
  (∀ (n : Fin 2) (s : State), s.feedState n = fsQUALIFIED → s.rd F.FEED_STATUS_DROPOUT n = 1 →
    ∃ t, exec (.feedUvFault n) s = .next t ∧ t.feedState n = fsFAULTED ∧ t.rd F.FEED_LAST_CAUSE_CAUSE n = 1 ∧
      t.rd F.FEED_FAULTS_COUNT n = satTo 32 (s.rd F.FEED_FAULTS_COUNT n + 1) ∧
      t.rd F.FLT_SRC_STAT_COUNT (12 + n) = satTo 16 (s.rd F.FLT_SRC_STAT_COUNT (12 + n) + 1)) ∧
  (∀ (n : Fin 2) (s : State), s.feedState n = fsQUALIFIED ∨ s.feedState n = fsTESTING →
    ∃ t, exec (.feedOv n) s = .next t ∧ t.feedState n = fsFAULTED ∧ t.rd F.FEED_LAST_CAUSE_CAUSE n = 2 ∧
      t.rd F.FEED_STATUS_OV n = 1 ∧ t.rd F.FLT_SRC_STAT_COUNT (12 + n) = satTo 16 (s.rd F.FLT_SRC_STAT_COUNT (12 + n) + 1)) ∧
  (∀ (n : Fin 2) (s : State), s.feedState n = fsQUALIFIED ∨ s.feedState n = fsTESTING →
    ∃ t, exec (.feedOc n) s = .next t ∧ t.feedState n = fsFAULTED ∧ t.rd F.FEED_LAST_CAUSE_CAUSE n = 4 ∧
      t.rd F.FEED_STATUS_OC n = 1 ∧ t.rd F.FLT_SRC_STAT_COUNT (12 + n) = satTo 16 (s.rd F.FLT_SRC_STAT_COUNT (12 + n) + 1)) ∧
  (∀ (n : Fin 2) (s : State), s.feedState n = fsFAULTED → (s.feed n).heldFaulted = false →
    ∃ t, exec (.feedRecover n) s = .next t ∧ t.feedState n = fsQUALIFYING ∧ t.rd F.FEED_STATUS_OC n = 0) ∧
  (∀ s : State, s.rd F.POWER_STATUS_TEST_ACTIVE ≠ 1 → s.rd F.POWER_STATUS_REDUNDANT = 1 →
    ∃ t, exec .feedTestA s = .next t ∧ t.feedState 0 = fsTESTING ∧ t.feedState 1 = s.feedState 1 ∧
      t.rd F.POWER_STATUS_TEST_ACTIVE = 1) ∧
  (∀ s : State, s.rd F.POWER_STATUS_TEST_ACTIVE ≠ 1 → s.rd F.POWER_STATUS_REDUNDANT = 1 →
    ∃ t, exec .feedTestB s = .next t ∧ t.feedState 1 = fsTESTING ∧ t.feedState 0 = s.feedState 0 ∧
      t.rd F.POWER_STATUS_TEST_ACTIVE = 1) ∧
  (∀ s : State, s.rd F.POWER_STATUS_TEST_ACTIVE ≠ 1 → s.rd F.POWER_STATUS_REDUNDANT = 1 →
    ∃ t, exec .feedTestPeriod s = .next t ∧ t.feedState 0 = fsTESTING ∧ t.pw.testNext = true) ∧
  (∀ (us v : Nat) (s : State), s.feedState 0 = fsTESTING → s.pw.testNext = false → us < 2 ^ 16 → v < 2 ^ 16 →
    ∃ t, exec (.feedTestEnd us v) s = .next t ∧ t.feedState 0 = fsQUALIFIED ∧ t.rd F.POWER_TEST_RESULT_RESULT = 1 ∧
      t.rd F.POWER_STATUS_TEST_ACTIVE = 0 ∧ t.rd F.POWER_HOLDUP_HOLDUP_US = us ∧ t.rd F.POWER_HOLDUP_BANK_V = v) ∧
  (∀ (n : Fin 2) (s : State), s.feedState n = fsTESTING → ∃ t, exec (.feedTestFail n) s = .next t ∧
    t.feedState n = fsFAULTED ∧ t.rd F.FEED_LAST_CAUSE_CAUSE n = 5 ∧ t.rd F.POWER_TEST_RESULT_RESULT = 2 ∧
    t.rd F.POWER_TEST_RESULT_LAST_FEED = n + 1 ∧ t.rd F.POWER_STATUS_TEST_ACTIVE = 0)

/-- R50–R53, R56, R65, R359, R360, R384: where each command of power-down, temperature, the porch, RESET_N and the start
completes, and what it leaves. -/
def Obligations.PowerCommandsComplete : Prop :=
  (∀ (pages us t0 cause : Nat) (s : State), s.at_.gasp = some (t0, cause) → ∃ t, exec (.lastGasp pages us) s = .next t ∧
    t.at_.gasp = none ∧ t.at_.mem = (((s.stopCommit pages).writeSlot rtSHUTDOWN 0
      ((s.stopCommit pages).shutdownPayload t0 cause us)).flushLife.logPageWrite).at_.mem) ∧
  (∀ s : State, s.pw.powerDown = true → ∃ t, exec .railOff s = .next t ∧ t.stage = 0 ∧
    t.rd F.POWER_STATUS_RAILS_GOOD = 0 ∧ t.feedState 0 = fsOFF ∧ t.feedState 1 = fsOFF ∧ t.rd F.PEER_STATUS_CLAIM_OUT = 0 ∧
    t.rd F.POWER_LOSS_COUNT_COUNT = satTo 32 (s.rd F.POWER_LOSS_COUNT_COUNT + 1) ∧ t.tm.running = false ∧ t.pw.railOff = true) ∧
  (∀ (n : Fin 2) (s : State), s.pw.railOff = true → s.pw.thermalTrip = false → s.rd F.FEED_CFG_ENABLE n = 1 →
    ∃ t, exec (.railOffRestart n) s = .next t ∧ t.feedState n = fsQUALIFIED) ∧
  (∀ (plate die ocxo : Int) (vbat mv ma : Nat) (s : State), vbat < 2 ^ 16 → mv < 2 ^ 16 → ma < 2 ^ 16 →
    ∃ t, exec (.thermalSample plate die ocxo vbat mv ma) s = .next t ∧
      t.rd F.POWER_TEMP_PLATE_TEMP = ofSigned 16 (clampSigned 16 plate) ∧
      t.rd F.POWER_TEMP_DIE_TEMP = ofSigned 16 (clampSigned 16 die) ∧
      t.rd F.POWER_TEMP_OCXO_TEMP = ofSigned 16 (clampSigned 16 ocxo) ∧ t.rd F.POWER_VBAT_MV = vbat ∧
      t.rd F.POWER_RAIL_V_MV = mv ∧ t.rd F.POWER_RAIL_I_MA = ma) ∧
  (∀ s : State, s.pw.tripPending = true → s.pw.powerDown = false → s.rd F.POWER_STATUS_RAILS_GOOD = 1 →
    ∃ t, exec .thermalTrip s = .next t ∧ t.pw.powerDown = true ∧ t.pw.thermalTrip = true ∧
      t.rd F.POWER_STATUS_PWR_FAIL = 1 ∧ t.at_.gasp = some (s.now, 2)) ∧
  (∀ (plate : Int) (s : State), plate ≤ 1280 → ∃ t, exec (.thermalRestart plate) s = .next t ∧
    t.pw.thermalTrip = false ∧ t.regs = s.regs) ∧
  (∀ (rail : Fin 8) (mv : Nat) (s : State), ∃ t, exec (.railFault rail mv) s = .next t ∧
    t.rd F.FLT_SRC_STAT_COUNT 16 = satTo 16 (s.rd F.FLT_SRC_STAT_COUNT 16 + 1)) ∧
  (∀ (mv : Nat) (s : State), mv < s.rd F.POWER_VBAT_CFG_LOW_MV → mv < 2 ^ 16 → ∃ t, exec (.vbatLow mv) s = .next t ∧
    t.rd F.POWER_STATUS_VBAT_LOW = 1 ∧ t.rd F.POWER_VBAT_MV = mv) ∧
  (∀ s : State, ∃ t, exec .porchPowerOn s = .next t ∧
    (∀ (f : Fld) (i : Nat), t.rd f i = if porchFields.any (fun g => g.id == f.id) then f.reset i else s.rd f i) ∧
    t.tm.porchSec = 0 ∧ t.tm.porchTicks = 0 ∧ t.tm.porchAnchored = false ∧ t.at_ = s.at_) ∧
  (∀ (ns : Nat) (s : State), s.rd F.POWER_STATUS_RAILS_GOOD = 1 → 1000 ≤ ns → ∃ t, exec (.resetNLow ns) s = .next t ∧
    t.pw.resetLow = true ∧ t.stage = 0 ∧ t.rd F.CLK_RESET_CAUSE_CAUSE = 2) ∧
  (∀ (x : Straps) (s : State), s.pw.resetLow = true → ∃ t, exec (.resetNRelease x) s = .next t ∧
    t.pw.resetLow = false ∧ t.rd F.GLOBAL_STRAPS_SLOT = b2n x.slot ∧
    t.rd F.GLOBAL_STRAPS_PMBUS_ADDR = 0x44 + 2 * b2n x.addr1 + b2n x.addr0 ∧
    t.rd F.GLOBAL_STRAPS_SMB_ADDR = 0x60 + 2 * b2n x.addr1 + b2n x.addr0 ∧
    t.rd F.PEER_STRAPS_SOLE = b2n (!x.claimP && !x.claimN)) ∧
  (∀ (x : Straps) (us v : Nat) (s : State), s.rd F.POWER_STATUS_RAILS_GOOD ≠ 1 → s.anyFeed = true → us < 2 ^ 16 → v < 2 ^ 16 →
    ∃ t, exec (.railsGood x us v) s = .next t ∧ t.rd F.POWER_STATUS_RAILS_GOOD = 1 ∧ t.rd F.POWER_STATUS_PWR_FAIL = 0 ∧
      t.rd F.POWER_HOLDUP_HOLDUP_US = us ∧ t.rd F.POWER_HOLDUP_BANK_V = v ∧ t.rd F.GLOBAL_STRAPS_SLOT = b2n x.slot ∧
      t.stage = 0) ∧
  (∀ s : State, s.stage = 0 → s.rd F.POWER_STATUS_RAILS_GOOD = 1 → s.pw.resetLow = false → s.pw.powerDown = false →
    ∃ t, exec .bootReadDone s = .next t ∧ t.stage = 1)

/-- R60–R62: each PMBus transaction completes, with the answer that Table 2.16 states for it and the CML bit it leaves. The
exponent of a LINEAR11 word, and an answer on a page that the command does not support, are free values (log 10, log 13). -/
def Obligations.PmbusCommandsComplete : Prop :=
  (∀ (v : Nat) (s : State), ∃ t, exec (.pmbusPage (some v)) s = .next t ∧ t.pw.pmPage = v % 256 ∧ t.pw.pmCml = false ∧ t.regs = s.regs) ∧
  (∀ s : State, ∃ t, exec (.pmbusPage none) s = .next t ∧ t.out = .smbus (some [s.pw.pmPage]) :: s.out) ∧
  (∀ s : State, ∃ t, exec .pmbusCapability s = .next t ∧ t.out = .smbus (some [0xB0]) :: s.out ∧ t.pw.pmCml = false) ∧
  (∀ s : State, ∃ t, exec .pmbusStatusWord s = .next t ∧
    t.out = .smbus (some [s.statusWord % 256, s.statusWord / 256]) :: s.out) ∧
  (∀ s : State, s.readPage < 2 → ∃ t, exec .pmbusStatusInput s = .next t ∧
    t.out = .smbus (some [s.statusInput s.readPage]) :: s.out) ∧
  (∀ s : State, s.readPage = 2 → ∃ t, exec .pmbusStatusTemperature s = .next t ∧
    t.out = .smbus (some [s.statusTemperature]) :: s.out) ∧
  (∀ s : State, s.readPage < 2 → ∃ t, exec .pmbusReadVin s = .next t ∧
    t.out = .smbus (some (linear11 (s.rd F.FEED_VIN_VIN_MV s.readPage))) :: s.out) ∧
  (∀ s : State, s.readPage < 3 → ∃ t, exec .pmbusReadIin s = .next t ∧
    t.out = .smbus (some (linear11 (if s.readPage = 2 then s.rd F.FEED_IIN_IIN_MA 0 + s.rd F.FEED_IIN_IIN_MA 1
      else s.rd F.FEED_IIN_IIN_MA s.readPage : Nat))) :: s.out) ∧
  (∀ s : State, s.readPage = 2 → ∃ t, exec .pmbusReadTemperature1 s = .next t ∧
    t.out = .smbus (some (linear11 (s.rdI F.POWER_TEMP_PLATE_TEMP * 1000 / 16))) :: s.out) ∧
  (∀ s : State, s.readPage = 2 → ∃ t, exec .pmbusReadTemperature2 s = .next t ∧
    t.out = .smbus (some (linear11 (s.rdI F.POWER_TEMP_DIE_TEMP * 1000 / 16))) :: s.out) ∧
  (∀ s : State, s.readPage = 2 → ∃ t, exec .pmbusReadTemperature3 s = .next t ∧
    t.out = .smbus (some (linear11 (s.rdI F.POWER_TEMP_OCXO_TEMP * 1000 / 16))) :: s.out) ∧
  (∀ s : State, s.readPage < 3 → ∃ t, exec .pmbusReadPin s = .next t ∧
    t.out = .smbus (some (linear11 (if s.readPage = 2 then s.rd F.POWER_PIN_TOTAL_PIN_MW
      else s.rd F.FEED_PIN_PIN_MW s.readPage : Nat))) :: s.out) ∧
  (∀ s : State, ∃ t, exec .pmbusRevision s = .next t ∧ t.out = .smbus (some [0x33]) :: s.out) ∧
  (∀ s : State, ∃ t, exec .pmbusMfrId s = .next t ∧
    t.out = .smbus (some [6, 0x47, 0x45, 0x4E, 0x56, 0x45, 0x4C]) :: s.out) ∧
  (∀ s : State, s.rd F.IDENT_PART_VARIANT = 1 → ∃ t, exec .pmbusMfrModel s = .next t ∧
    t.out = .smbus (some [9, 0x56, 0x54, 0x38, 0x34, 0x31, 0x36, 0x2D, 0x4F, 0x41]) :: s.out) ∧
  (∀ s : State, ∃ t, exec .pmbusUnsupported s = .next t ∧ t.out = .smbus none :: s.out ∧ t.pw.pmCml = true) ∧
  (∀ s : State, s.pw.alert = true → ∃ t, exec .alertResponse s = .next t ∧ t.pw.alert = false ∧
    t.out = .smbus (some [s.rd F.GLOBAL_STRAPS_PMBUS_ADDR * 2]) :: s.out)

/-- R65, R68–R71, R74, R77, R80–R82: where each command of the oscillators, clock monitors and clock muxes completes, and
what it leaves. -/
def Obligations.ClockCommandsComplete : Prop :=
  (∀ (o : Fin 3) (s : State), o.val < 2 → s.oscBit o 2 = true → ∃ t, exec (.oscAmplitudeTimeout o) s = .next t ∧
    t.rd (failField o) = 1 ∧ t.rd (attemptField o) = min (s.rd (attemptField o) + 1) 3) ∧
  (∀ (o : Fin 3) (count : Nat) (s : State), s.attempting o = true → s.ck.tripDuring.contains o.val = false →
    (s.countWindow o).1 ≤ count → count ≤ (s.countWindow o).2 → ∃ t, exec (.oscCountDone o count) s = .next t ∧
      t.rd F.CLK_MON_STATUS_QUALIFIED (oscMon o) = 1) ∧
  (∀ s : State, ∃ t, exec .ocxoTempSettled s = .next t ∧ t.rd F.CLK_OCXO_STATUS_TEMP_SETTLED = 1) ∧
  (∀ (tenths : Nat) (s : State), s.ocxoQual = true → s.rd F.CLK_OCXO_STATUS_TEMP_SETTLED = 1 → s.ocxoWarm = false →
    ∃ t, exec (.ocxoWarm tenths) s = .next t ∧ t.ocxoWarm = true ∧ t.rd F.CLK_OCXO_WARM_TIME_TIME = satTo 32 tenths) ∧
  (∀ s : State, s.ocxoWarm = false → ∃ t, exec .ocxoWarmTimeout s = .next t ∧
    t.rd F.FLT_SRC_STAT_COUNT 10 = satTo 16 (s.rd F.FLT_SRC_STAT_COUNT 10 + 1) ∧ t.ocxoWarm = false) ∧
  (∀ (n : Fin 8) (off : Int) (s : State), s.monJudged n = true → |off| ≤ s.monTol n →
    ∃ t, exec (.clockMonWindow n off) s = .next t ∧ t.rd F.CLK_MON_STATUS_ACTIVE n = 1 ∧
      t.rd F.CLK_MON_STATUS_TRIPPED n = 0 ∧ t.rd F.CLK_MON_STATUS_AGAINST n = s.monAgainst n) ∧
  (∀ (n : Fin 8) (s : State), ∃ t, exec (.clockMonMiss n) s = .next t ∧ t.rd F.CLK_MON_STATUS_TRIPPED n = 1 ∧
    t.rd F.CLK_MON_STATUS_ACTIVE n = 0 ∧ t.rd F.CLK_MON_TRIPS_COUNT n = satTo 32 (s.rd F.CLK_MON_TRIPS_COUNT n + 1)) ∧
  (∀ s : State, s.rd F.CLK_BASE_STATUS_MOVE_PENDING = 1 → s.rd F.CLK_BASE_STATUS_MOVING ≠ 1 →
    ∃ t, exec .baseMove s = .next t ∧ t.rd F.CLK_BASE_STATUS_MOVING = 1 ∧ t.rd F.CLK_BASE_STATUS_MOVE_PENDING = 0 ∧
      t.ck.moveTo = some 2 ∧ t.ck.baseTarget = 2 ∧ t.rd F.CLK_BASE_STATUS_APLL0_LOCKED = 0) ∧
  (∀ s : State, s.rd F.CLK_BASE_STATUS_MOVING = 1 → s.loopLocked 0 = true → ∃ t, exec .baseMoveEnd s = .next t ∧
    t.rd F.CLK_BASE_STATUS_MOVING = 0 ∧ t.ck.moveTo = none) ∧
  (∀ (m : Fin 2) (len : Nat) (s : State), s.rd F.CLK_MUX_STATUS_PENDING m ≠ 0 → s.rd F.CLK_MUX_STATUS_PENDING m < 4 →
    ∃ t, exec (.muxSwitch m len) s = .next t ∧ t.rd F.CLK_MUX_STATUS_INPUT m = s.rd F.CLK_MUX_STATUS_PENDING m ∧
      t.rd F.CLK_MUX_STATUS_PENDING m = 0 ∧ t.rd F.CLK_MUX_STATUS_GATED m = 0 ∧ t.rd F.CLK_MUX_STATUS_STALLED m = 0 ∧
      t.rd F.CLK_MUX_SWITCHES_COUNT m = satTo 32 (s.rd F.CLK_MUX_SWITCHES_COUNT m + 1)) ∧
  (∀ (m : Fin 2) (s : State), s.rd F.CLK_MUX_STATUS_PENDING m ≠ 0 → ∃ t, exec (.muxForced m) s = .next t ∧
    t.rd F.CLK_MUX_FORCED_COUNT m = satTo 32 (s.rd F.CLK_MUX_FORCED_COUNT m + 1) ∧
    t.rd F.CLK_MUX_STATUS_PENDING m = s.rd F.CLK_MUX_STATUS_PENDING m) ∧
  (∀ (m : Fin 2) (s : State), s.rd F.CLK_MUX_STATUS_PENDING m ≠ 0 → ∃ t, exec (.muxStall m) s = .next t ∧
    t.rd F.CLK_MUX_STATUS_STALLED m = 1 ∧ t.rd F.CLK_MUX_STATUS_GATED m = 1 ∧ t.rd F.CLK_MUX_STATUS_INPUT m = 0 ∧
    t.rd F.CLK_MUX_LAST_LEN m = 0xFFFF ∧ t.rd F.FLT_SRC_STAT_COUNT 11 = satTo 16 (s.rd F.FLT_SRC_STAT_COUNT 11 + 1)) ∧
  (∀ s : State, s.stage = 2 → s.ck.holdoffRuns = true → s.tm.started = true → ∃ t, exec .stage3HoldoffEnd s = .next t ∧
    t.ck.stageReq = some (3, 4))

/-- R92, R94, R97, R102, R103, R106–R108, Table 4.5: where each command of the TDC, its estimates and its takes completes,
and what it leaves. -/
def Obligations.TdcCommandsComplete : Prop :=
  (∀ (c : Fin 28) (coarse line cmp gl : Nat) (falling : Bool) (s : State), s.edgesSeen c = true → s.chanRunning c = true →
    (s.chan c).lastEdge = none → (s.chan c).fifo.length < 128 →
    ∃ t, exec (.edgeStamp c coarse line falling cmp gl) s = .next t ∧
      t.rd F.TDC_CH_FIFO_LEVEL c = (s.chan c).fifo.length + 1 ∧ (t.chan c).edges = ((s.chan c).edges + 1) % 2 ^ 48 ∧
      ∃ st, (t.chan c).fifo = (s.chan c).fifo ++ [st] ∧ st.idx = (s.chan c).edges ∧ st.falling = falling ∧
        st.dropBefore = (s.chan c).dropNext) ∧
  (∀ (c : Fin 28) (s : State) (st : Stamp) (rest : List Stamp), (s.chan c).fifo = st :: rest → s.refuses c = false →
    ∃ t, exec (.stampDistribute c) s = .next t ∧ t.rd F.TDC_CH_FIFO_LEVEL c = rest.length % 2 ^ 8 ∧
      t.rd F.TDC_CH_STAMPS_COUNT c = (s.rd F.TDC_CH_STAMPS_COUNT c + 1) % 2 ^ 32) ∧
  (∀ (c : Fin 28) (beyond maxTap taps bin dnl inl : Nat) (s : State), s.rd F.TDC_CAL_CFG_HOLD ≠ 1 →
    s.rd F.TDC_CH_CFG_ENABLE c = 1 → beyond ≤ 1000 → maxTap ≤ 6000 →
    ∃ t, exec (.calTableReady c beyond maxTap taps bin dnl inl) s = .next t ∧ t.rd F.TDC_CH_CAL_FAILED c = 0 ∧
      t.rd F.TDC_CH_STATUS_LINE c = 1 - s.rd F.TDC_CH_STATUS_LINE c ∧ t.rd F.TDC_CH_BIN_BIN c = bin % 2 ^ 16 ∧
      t.rd F.TDC_CH_BIN_TAPS c = taps % 2 ^ 10 ∧ t.rd F.TDC_CH_CAL_DNL_MAX c = dnl % 2 ^ 8 ∧
      t.rd F.TDC_CH_CAL_INL_MAX c = inl % 2 ^ 8) ∧
  (∀ (c : Fin 28) (s : State), s.rd F.TDC_CH_CFG_ENABLE c = 1 → s.td.gated = false →
    ∃ t, exec (.calValid c) s = .next t ∧ t.rd F.TDC_CH_CAL_VALID c = 1) ∧
  (∀ (c : Fin 28) (s : State), ∃ t, exec (.calRescaleDone c) s = .next t ∧ (t.chan c).rescaling = false ∧ t.regs = s.regs) ∧
  (∀ (c : Fin 32) (s : State) (g : Gate), c.val < 28 → (s.chan c).gate = some g → ∃ t, exec (.gateEnd c) s = .next t ∧
    (t.chan c).result = some ((s.advanceTo g.stop).gateResult c g)) ∧
  (∀ (e : Fin 4) (s : State) (g : Gate), (s.est e).gate = some g →
    ∃ t, exec (.gateEnd ⟨28 + e, by omega⟩) s = .next t ∧
      (t.est e).result = some ((s.advanceTo g.stop).gateResult (s.est e).channel g) ∧
      t.rd F.EST_STATUS_STATE e = if (s.est e).continuous then 2 else 0) ∧
  (∀ (c : Fin 32) (s : State) (r : GateResult), c.val < 28 → (s.chan c).result = some r →
    ∃ t, exec (.estimatePublish c) s = .next t ∧ (t.chan c).result = none ∧ (t.chan c).offsetOk = (r.code == 1) ∧
      (r.code = 1 → (t.chan c).offset = some r.offset)) ∧
  (∀ (e : Fin 4) (s : State) (r : GateResult), (s.est e).result = some r → r.code < 16 →
    ∃ t, exec (.estimatePublish ⟨28 + e, by omega⟩) s = .next t ∧ t.rd F.EST_STATUS_RESULT e = r.code ∧
      t.rd F.EST_COUNT_N e = satTo 32 r.n ∧ t.rd F.EST_SEQ_SEQ e = (s.rd F.EST_SEQ_SEQ e + 1) % 2 ^ 32) ∧
  (∀ (e : Fin 4) (s : State), s.rd F.EST_GATE_GATE_MS e ≠ 0 → ∃ t, exec (.estStart e) s = .next t ∧
    t.rd F.EST_STATUS_STATE e = 1 ∧ t.rd F.EST_SEQ_SEQ e = 0 ∧ (t.est e).gateMs = min (s.rd F.EST_GATE_GATE_MS e) 1000000 ∧
    (t.est e).channel = min 27 (s.rd F.EST_CFG_CHANNEL e)) ∧
  (∀ (e : Fin 4) (s : State), ∃ t, exec (.estStop e) s = .next t ∧ t.rd F.EST_STATUS_STATE e = 0 ∧ (t.est e).gate = none) ∧
  (∀ (k : Fin 4) (s : State), s.rd F.TAKE_STATUS_STATE k = 0 → s.rd F.TAKE_GATE_GATE_MS k ≠ 0 →
    s.rd F.TAKE_CFG_SOURCE k = 0 ∨ s.rd F.TAKE_CFG_SOURCE k = 3 → s.streamReel.isSome = true →
    (∀ c ∈ takeChannels (s.rdB F.TAKE_CFG_MODE k) (s.rd F.TAKE_CFG_START k) (s.rd F.TAKE_CFG_STOP k)
      (s.rd F.TAKE_MASK_CHANNELS k), s.rd F.TDC_CH_CFG_ENABLE c = 1 ∧ s.isRetired (uTDC c) = false ∧
        s.isIsolated (uTDC c) = false) →
    ∃ t, exec (.takeArm k) s = .next t ∧ t.rd F.TAKE_STATUS_STATE k = 2 ∧ (t.take k).start = some s.now ∧
      t.rd F.TAKE_COUNT_RECORDS k = 0) ∧
  (∀ (k : Fin 4) (s : State), s.rd F.TAKE_STATUS_STATE k = 1 ∨ s.rd F.TAKE_STATUS_STATE k = 2 →
    ∃ t, exec (.takeAbort k) s = .next t ∧ t.rd F.TAKE_STATUS_STATE k = 0 ∧ t.rd F.TAKE_STATUS_RESULT k = 8) ∧
  (∀ (s : State) (cycle : Nat), s.rd F.TAKE_STATUS_STATE 0 = 1 → (s.take 0).source = 1 → (s.take 0).activeLow = false →
    (s.take 1).source ≠ 1 → (s.take 2).source ≠ 1 → (s.take 3).source ≠ 1 →
    ∃ t, exec (.gatePinEdge 0 true cycle) s = .next t ∧ t.rd F.TAKE_STATUS_STATE 0 = 2 ∧
      (t.take 0).start = some (cycle - 209715) ∧ t.td.gate0 = true) ∧
  (∀ (k : Fin 4) (s : State) (e : Nat), (s.take k).stop = some e → s.rd F.TAKE_STATUS_STATE k = 2 →
    ∃ t, exec (.takeGateEnd k) s = .next t ∧ t.rd F.TAKE_STATUS_RESULT k = 1)

/-- R117, R118, R126, R129, R145, R164, R167, R170, R171, R177, R181: where each command of qualification, the tree, the DPLLs and
holdover completes, and what it leaves. -/
def Obligations.LoopCommandsComplete : Prop :=
  (∀ (d : Fin 16) (s : State), s.inService (uDP d) = true → s.rd F.DP_STATUS_LOCKSTEP_HELD d ≠ 1 → s.dpSt d ≠ 0 →
    ∃ t, exec (.loopUpdate d true) s = .next t ∧ t.rd F.DP_STATUS_LOCKSTEP_HELD d = 1 ∧
      t.rd F.DP_LOCKSTEP_MISMATCHES d = satTo F.DP_LOCKSTEP_MISMATCHES.width (s.rd F.DP_LOCKSTEP_MISMATCHES d + 1)) ∧
  (∀ (d : Fin 16) (r : Recipe) (s : State), s.dpFree d = true → (s.dpll d).recipe = some r → s.dpSt d = 2 ∨ s.dpSt d = 3 →
    ∃ t, exec (.loopUpdate d false) s = .next t ∧ (t.dpll d).wN = (s.dpll d).wN + 1 ∧ (t.dpll d).fresh = []) ∧
  (∀ (m : Fin 44) (c : Nat) (s : State), s.monChan m = some c → s.judges m = true → s.qmSt m ≠ 0 → s.qmSt m ≠ 6 →
    s.suspended = false → s.fastLeaf c = true → (s.mon m).active = true →
    ∃ t, exec (.missingEdge m) s = .next t ∧ t.rd F.QM_STATUS_FROZEN m = 1 ∧ (t.mon m).active = false ∧
      (t.mon m).strobe = 1 ∧ t.rd F.QUAL_FREEZES_COUNT 0 = satTo 32 (s.rd F.QUAL_FREEZES_COUNT 0 + 1)) ∧
  (∀ (m : Fin 44) (c : Nat) (s : State), s.monChan m = some c → s.judges m = true → s.qmSt m ≠ 0 → s.qmSt m ≠ 6 →
    s.suspended = false → s.fastLeaf c = false → (s.mon m).expect.isSome = true →
    ∃ t, exec (.arrivalWindowMiss m) s = .next t ∧ t.rd F.QM_STATUS_FROZEN m = 1 ∧ (t.mon m).active = false ∧
      (t.mon m).expect = none ∧ t.rd F.QUAL_FREEZES_COUNT 0 = satTo 32 (s.rd F.QUAL_FREEZES_COUNT 0 + 1)) ∧
  (∀ (m : Fin 44) (s : State), s.qmSt m = 2 → s.judges m = true → 2 ≤ (s.mon m).updates → s.causesOf m / 8 = 0 →
    ∃ t, exec (.qualValidationEnd m) s = .next t ∧ t.qmSt m = (if s.causesOf m = 0 then 3 else 4)) ∧
  (∀ (m : Fin 44) (s : State), s.qmSt m = 5 → s.judges m = true → s.causesOf m / 8 = 0 →
    ∃ t, exec (.qualHoldoffEnd m) s = .next t ∧ t.qmSt m = 2) ∧
  (∀ s : State, s.td.gated = false → s.rd F.CLK_BASE_STATUS_MOVING ≠ 1 → s.loopLocked 0 = true →
    ∃ t, exec .qualDetectResume s = .next t ∧ t.td.blind = false ∧ t.suspended = false) ∧
  (∀ (n : Fin 128) (e : Fin 4) (s : State), ((s.node n).entries.at e {}).wtr = true →
    ∃ t, exec (.waitToRestoreEnd n e) s = .next t ∧ ((t.node n).entries.at e {}).wtr = false ∧
      ((t.node n).entries.at e {}).ended = true) ∧
  (∀ (d : Fin 16) (r : Recipe) (s : State), (s.dpll d).recipe = some r → s.dpSt d = 4 → (s.dpll d).boWait = false →
    (s.dpll d).done = false → s.dpFree d = true → ∃ t, exec (.buildoutComplete d) s = .next t ∧
      t.rd F.DP_STATUS_PROFILE d = s.profileFor d r % 16) ∧
  (∀ (d : Fin 16) (s : State), s.dpSt d = 2 → s.rd F.DP_STATUS_LOCK_OK d = 1 → s.dpFree d = true →
    ∃ t, exec (.dpllLockTimer d) s = .next t ∧ t.dpSt d = 3 ∧ t.rd F.DP_STATUS_EVER_LOCKED d = 1) ∧
  (∀ (d : Fin 16) (s : State), s.rd F.DP_STATUS_HELD d = 1 → ∃ t, exec (.refAck d) s = .next t ∧
    t.rd F.DP_STATUS_HELD d = 0 ∧ (t.dpll d).held = []) ∧
  (∀ (d : Fin 16) (s : State), d.val = s.timeDpll → s.rd F.DP_STATUS_HELD d = 1 → (s.dpll d).heldRecipe = (s.dpll d).recipe →
    ∃ t, exec (.refAckStep d) s = .next t ∧ t.rd F.DP_STATUS_HELD d = 0 ∧ t.rd F.DP_STATUS_POLICY d = 4 ∧
      t.tm.reqDpll = some (s.tm.reqDpll.getD 0 + (s.dpll d).jump)) ∧
  (∀ (d : Fin 16) (s : State), (s.dpll d).episode = none → ∃ t, exec (.holdClear d) s = .next t ∧
    (t.dpll d).history = [] ∧ (t.dpll d).window = [] ∧ (t.dpll d).entry = none ∧
    t.rd F.HOLD_REMAIN_SECONDS d = 0xFFFFFFFF)

/-- R187, R190, R191, R195–R200: where each command of synthesis and the outputs completes, and what it leaves. -/
def Obligations.SynthCommandsComplete : Prop :=
  (∀ s : State, s.synthBusy = false → ∃ t, exec .synthCommitGo s = .next t ∧ t.sy.go = true ∧ t.regs = s.regs) ∧
  (∀ (r b : Nat) (s : State), s.sy.go = true → s.commitFault = some (r, b) → ∃ t, exec .synthCommitValidate s = .next t ∧
    t.sy.go = false ∧ t.rd F.SYNTH_COMMIT_STATUS_RESULT 0 = 2 ∧
    t.rd F.SYNTH_COMMIT_STATUS_REASON 0 = r % 2 ^ F.SYNTH_COMMIT_STATUS_REASON.width ∧
    t.rd F.SYNTH_COMMIT_STATUS_FIRST_BAD 0 = b % 2 ^ F.SYNTH_COMMIT_STATUS_FIRST_BAD.width ∧
    ∀ n : Nat, t.outSt n = s.outSt n) ∧
  (∀ s : State, s.sy.go = true → s.commitFault = none → ∃ t, exec .synthCommitValidate s = .next t ∧
    t.rd F.SYNTH_COMMIT_STATUS_RESULT 0 = 1 ∧
    t.rd F.SYNTH_COMMIT_STATUS_SEQ 0 = (s.rd F.SYNTH_COMMIT_STATUS_SEQ 0 + 1) % 2 ^ F.SYNTH_COMMIT_STATUS_SEQ.width) ∧
  (∀ (a : Fin 4) (s : State), s.synthBusy = false → s.loopLocked (a + 1) = true → ∃ t, exec (.synthRealign a) s = .next t ∧
    (t.loopSt (a + 1)).realignWanted = false ∧ (t.loopSt (a + 1)).origin.isSome = true) ∧
  (∀ s : State, s.base ≠ 0 → s.loopLocked 0 = false → ∃ t, exec (.apllLock 0) s = .next t ∧
    t.rd F.CLK_BASE_STATUS_APLL0_LOCKED 0 = 1 ∧ t.loopLocked 0 = true ∧ t.rd F.CLK_MUX_STATUS_PENDING 1 = 1) ∧
  (∀ (a : Fin 5) (s : State), a ≠ 0 → s.loopLocked 0 = true → s.inService (uAPLL a) = true →
    ∃ t, exec (.apllLock a) s = .next t ∧ t.loopLocked a = true) ∧
  (∀ (a : Fin 4) (s : State), s.loopLocked (a + 1) = true → s.loopLocked 0 = true → ∃ t, exec (.apllUnlock a) s = .next t ∧
    t.loopLocked (a + 1) = false ∧
    t.rd F.APLL_COUNTS_UNLOCKS (a + 1) = satTo F.APLL_COUNTS_UNLOCKS.width (s.rd F.APLL_COUNTS_UNLOCKS (a + 1) + 1) ∧
    t.rd F.FLT_SRC_STAT_COUNT 25 = satTo 16 (s.rd F.FLT_SRC_STAT_COUNT 25 + 1)) ∧
  (∀ (a : Fin 5) (s : State), s.loopLocked a = false → ∃ t, exec (.relockAttempt a true) s = .next t ∧
    t.rd F.APLL_COUNTS_RELOCK_FAILS a =
      satTo F.APLL_COUNTS_RELOCK_FAILS.width (s.rd F.APLL_COUNTS_RELOCK_FAILS a + 1)) ∧
  (∀ s : State, s.loopLocked 0 = true → s.rd F.CLK_BASE_STATUS_MOVING 0 ≠ 1 → ∃ t, exec .baseUnlock s = .next t ∧
    t.rd F.SYNTH_DEG_STATUS_DEGRADED 0 = 1 ∧ t.loopLocked 0 = false ∧ t.sy.degStart = some s.now) ∧
  (∀ s : State, s.rd F.SYNTH_DEG_STATUS_DEGRADED 0 = 1 → s.loopLocked 0 = true → s.rd F.CLK_BASE_STATUS_TK_ON_PATH 0 ≠ 1 →
    (∀ c : Fin 28, (s.chan c).rescaling = false) → ∃ t, exec .degradedIntervalEnd s = .next t ∧
    t.rd F.SYNTH_DEG_STATUS_DEGRADED 0 = 0 ∧ t.rd F.SYNTH_DEG_LAST_LEN_US 0 = satTo 32 s.degradedUs ∧
    t.sy.degEnd = some s.now) ∧
  (∀ (n : Fin 24) (s : State), (s.outSt n).shut = true → ∃ t, exec (.shutterForce n) s = .next t ∧
    (t.outSt n).static = true ∧ (t.outSt n).shut = true) ∧
  (∀ (n : Fin 24) (s : State), (s.outSt n).shut = true → s.sy.handover = false →
    ((s.outCauses n).all fun c => c == 3 || c == 4) = true → (∀ a : Nat, (s.loopSt a).realignWanted = false) →
    ∃ t, exec (.shutterOpen n) s = .next t ∧ (t.outSt n).shut = false ∧ (t.outSt n).onGrid = true ∧
      (t.outSt n).commit = false ∧ (t.outSt n).realign = false) ∧
  (∀ s : State, ∃ t, exec .phaseVerify s = .next t ∧ t.sy.verSum = 0 ∧ t.sy.verN = 0 ∧
    t.rd F.SYNTH_VERIFY_STATUS_VALID 0 = b2n (s.rdB F.SYNTH_VERIFY_CFG_ENABLE 0 &&
      decide (s.loopSource (s.rd F.SYNTH_VERIFY_CFG_LOOP 0) < 24) &&
      s.outRunning (s.loopSource (s.rd F.SYNTH_VERIFY_CFG_LOOP 0)) && s.sy.verN != 0))

/-- R205–R219: where each command of time completes, and what it leaves. -/
def Obligations.TimeCommandsComplete : Prop :=
  (∀ s : State, t96Legal s.tm.setTime = true → ∃ t, exec .timeSet s = .next t ∧
    t.tm.reqSet = some (ofT96 s.tm.setTime) ∧ t.regs = s.regs) ∧
  (∀ s : State, ∃ t, exec .timeStepRequest s = .next t ∧
    t.tm.reqStep = some (s.tm.reqStep.getD 0 + toSigned 96 s.tm.stepAmount)) ∧
  (∀ (o : StepOrder) (s : State), s.tm.ordered = some o → s.counterValid = true → ∃ t, exec .timeStep s = .next t ∧
    t.tm.stepEpoch = true ∧ t.tm.ordered = none) ∧
  (∀ (c : Fin 3) (s : State), s.counterValid = true → ∃ t, exec (.timeVoteOne c) s = .next t ∧
    t.rd F.TIME_VOTE_STATUS_LAST_COPY 0 = c ∧
    t.tm.copyA = (if c = 0 then s.tm.copyB else s.tm.copyA) ∧ t.tm.copyB = (if c = 1 then s.tm.copyA else s.tm.copyB) ∧
    t.tm.copyC = (if c = 2 then s.tm.copyA else s.tm.copyC) ∧
    t.rd F.FLT_SRC_STAT_COUNT 4 = satTo 16 (s.rd F.FLT_SRC_STAT_COUNT 4 + 1)) ∧
  (∀ s : State, s.counterValid = true → ∃ t, exec .timeVoteNone s = .next t ∧ t.rd F.TIME_STATUS_VALID 0 = 0 ∧
    t.rd F.TIME_VOTE_STATUS_NO_MAJORITY 0 = 1 ∧ t.counterValid = false ∧
    t.rd F.FLT_SRC_STAT_COUNT 5 = satTo 16 (s.rd F.FLT_SRC_STAT_COUNT 5 + 1)) ∧
  (∀ (sec ticks expected : Nat) (s : State), s.tm.running = false → s.tkRuns = true → s.inService uTCOUNT = true →
    ∃ t, exec (.counterStart sec ticks expected) s = .next t ∧ t.rd F.TIME_STATUS_VALID 0 = 1 ∧
      t.rd F.TIME_STATUS_SECONDS_SET 0 = 0 ∧ t.rd F.TIME_STATUS_FRACTION_SET 0 = 0 ∧ t.counterValid = true ∧
      t.rd F.TIME_STATUS_PORCH_START 0 = b2n s.tm.porchAnchored) ∧
  (∀ s : State, s.counterValid = true → ∃ t, exec .porchAnchor s = .next t ∧ t.rd F.PORCH_STATUS_TIME_VALID 0 = 1 ∧
    t.tm.porchAnchored = true ∧ t.tm.porchTicks = 0 ∧ t.tm.porchSec = t.now / unitsPerSec) ∧
  (∀ s : State, ∃ t, exec .leapSecond s = .next t ∧ t.rd F.TIME_UTC_LEAP61 0 = 0 ∧ t.rd F.TIME_UTC_LEAP59 0 = 0 ∧
    t.rd F.TIME_UTC_OFFSET 0 = ofSigned 16 (s.rdI F.TIME_UTC_OFFSET +
      ((s.rd F.TIME_UTC_LEAP61 0 : Int) - s.rd F.TIME_UTC_LEAP59 0)) % 65536) ∧
  (∀ (j : Fin 2) (bytes : List Nat) (start stop : Nat) (s : State), s.rd F.TODI_CFG_ENABLE j = 1 →
    s.inService (uTODI j) = true → s.rd F.TODI_CFG_FORMAT j = 1 →
    ∃ t, exec (.todMessageRx j bytes false start stop) s = .next t ∧ t.rd F.TODI_STATUS_LAST_RESULT j =
      ((s.advanceTo stop).todJudge j (readBinary bytes) start stop).1 % 2 ^ F.TODI_STATUS_LAST_RESULT.width) ∧
  (∀ (j : Fin 2) (s : State), s.rd F.TODO_CFG_ENABLE j = 1 → s.inService (uTODO j) = true → s.counterValid = true →
    s.rd F.TIME_STATUS_SECONDS_SET 0 = 1 → s.rd F.TODO_CFG_FORMAT j = 1 → s.rd F.TODO_CFG_DELAY_MS j ≤ 500 →
    96 ≤ s.rd F.TODO_CFG_BAUD_100 j → ∃ t, exec (.todoSend j) s = .next t ∧
    t.rd F.TODO_STATUS_SENT j = (s.rd F.TODO_STATUS_SENT j + 1) % 2 ^ F.TODO_STATUS_SENT.width ∧
    t.rd F.TODO_STATUS_WITHHELD j = 0 ∧ t.rd F.TODO_STATUS_OVERLONG j = 0 ∧ t.out.length = s.out.length + 1) ∧
  (∀ (p : Fin 4) (s : State), s.tm.running = true → ∃ t, exec (.ppsPulse (p.castSucc)) s = .next t ∧
    (t.tm.pps.at p {}).lastAt = some (s.pulseAt (s.tm.pps.at p {}).lastAt (s.pulseSettings p).2.1).1) ∧
  (∀ s : State, s.tm.running = true → ∃ t, exec (.ppsPulse 4) s = .next t ∧
    (t.tm.pps.at 4 {}).lastAt = some (s.pulseAt (s.tm.pps.at 4 {}).lastAt 0).1)

/-- R226–R233, R240–R248, R290: where each command of the ports and bridges completes, and what it leaves. -/
def Obligations.PortCommandsComplete : Prop :=
  (∀ (p : Fin 8) (s : State), s.portOn p = true → s.linkUp p = false → s.inService (uP p) = true →
    ∃ t, exec (.linkUp p) s = .next t ∧ t.linkUp p = true ∧ t.rd F.PORT_STATUS_CDR_LOCK p = 1 ∧
      t.rd F.PORT_STATUS_BLOCK_LOCK p = 1 ∧ t.rd F.PORT_STATUS_FEC_LOCK p = b2n (s.portFec p != 0)) ∧
  (∀ (p : Fin 8) (s : State), s.linkUp p = true → ∃ t, exec (.linkDown p true) s = .next t ∧ t.linkUp p = false ∧
    t.rd F.PORT_STATUS_CDR_LOCK p = 0 ∧ t.rd F.PORT_STATUS_BLOCK_LOCK p = 0 ∧
    t.rd F.FLT_SRC_STAT_COUNT 30 = satTo 16 (s.rd F.FLT_SRC_STAT_COUNT 30 + 1)) ∧
  (∀ (p : Fin 8) (s : State), s.portOn p = true → s.inService (uP p) = true →
    ∃ t, exec (.cdrLock p) s = .next t ∧ t.rd F.PORT_STATUS_CDR_LOCK p = 1) ∧
  (∀ (p : Fin 8) (s : State), s.portOn p = true → ∃ t, exec (.restartLink p) s = .next t ∧ t.linkUp p = false ∧
    t.rd F.PORT_STATUS_CDR_LOCK p = 0) ∧
  (∀ (p : Fin 8) (s : State), s.portOn p = true → ∃ t, exec (.restartEq p) s = .next t ∧
    t.rd F.PORT_COUNTER_COUNT (32 * p + 30) = (s.rd F.PORT_COUNTER_COUNT (32 * p + 30) + 1) % 2 ^ 32 ∧
    t.linkUp p = s.linkUp p) ∧
  (∀ (p : Fin 8) (s : State), s.txLoop p ≠ 0 → s.txRefBad p = false → s.loopRunning (s.txLoop p) = false →
    s.portOn p = true → s.rd F.PORT_STATUS_TX_REF_FALLBACK p ≠ 1 → ∃ t, exec (.laneRefFallback p) s = .next t ∧
    t.rd F.PORT_STATUS_TX_REF_FALLBACK p = 1 ∧
    t.rd F.FLT_SRC_STAT_COUNT 31 = satTo 16 (s.rd F.FLT_SRC_STAT_COUNT 31 + 1)) ∧
  (∀ (p : Fin 8) (s : State), s.rd F.PORT_STATUS_TX_REF_FALLBACK p = 1 → s.loopRunning (s.txLoop p) = true →
    ∃ t, exec (.laneRefReturn p) s = .next t ∧ t.rd F.PORT_STATUS_TX_REF_FALLBACK p = 0) ∧
  (∀ (p : Fin 8) (r : RxFrame) (m : Esmc) (s s' : State), s.takeRx (fun r => r.taker == 1 && r.port == p) = some (r, s') →
    esmcOf r.frame = some m → m.accepted = true → s.rd F.PORT_SYNCE_CFG_ESMC_RX p = 1 →
    ∃ t, exec (.esmcRx p) s = .next t ∧
      t.rd F.PORT_ESMC_STATUS_RX_SSM p = m.ssm % 2 ^ F.PORT_ESMC_STATUS_RX_SSM.width ∧
      t.rd F.PORT_ESMC_STATUS_RX_ESSM_VALID p = b2n m.ext.isSome ∧ t.sv.inbox = s'.sv.inbox) ∧
  (∀ (p : Fin 8) (s : State), (s.esmcLevel p).isSome = true → s.linkUp p = true → ∃ t, exec (.esmcTx p) s = .next t ∧
    ∃ f : Frame, t.out = .frame p none f :: s.out ∧ f.dst = 0x0180C2000002 ∧ (esmcOf f).isSome = true) ∧
  (∀ (p : Fin 8) (pcs : Int) (f : Frame) (s : State), s.linkUp p = true → s.bridged p = false → s.inService (uP p) = true →
    64 ≤ f.bytes → f.bytes ≤ 9216 → f.fcsOk = true → (esmcOf f).isSome = true → ∃ t, exec (.frameRx p pcs f) s = .next t ∧
    ∃ r : RxFrame, t.sv.inbox = s.sv.inbox ++ [r] ∧ r.taker = 1 ∧ r.port = p ∧ r.frame = f ∧ r.time = s.rxTime p pcs) ∧
  (∀ (p : Fin 8) (pcs : Int) (d : TxDesc) (s : State),
    firstBy TxDesc.before (s.hs.ready.filter fun d => d.port == p) = some d → s.bridged p = false → s.linkUp p = true →
    s.clearOfCue p (s.txTime p pcs).toNat d.onWire = true → d.oneStep = false → ∃ t, exec (.frameTx p pcs) s = .next t ∧
    Out.frame p (if d.stamp then some (s.txTime p pcs).toNat else none) d.onWire ∈ t.out) ∧
  (∀ (b : Fin 4) (odd : Bool) (pcs : Int) (f : Frame) (s : State), s.rd F.BR_STATUS_STATE b = 3 →
    s.inService (uBR b) = true → 64 ≤ f.bytes → f.bytes ≤ 9216 → ∃ t, exec (.bridgeForward b odd pcs f) s = .next t ∧
    ∃ f' l, t.out = .frame (2 * b + 1 - b2n odd) none f' :: l) ∧
  (∀ (p : Fin 8) (pcs : Int) (d : TxDesc) (s : State), s.nextCue p = some d → s.bridged p = false → s.linkUp p = true →
    d.launch = 0 → d.oneStep = false → ∃ t, exec (.cueLaunch p pcs false) s = .next t ∧
    Out.frame p (some (s.txTime p pcs).toNat) d.onWire ∈ t.out)

/-- R256–R272: where each command of the time service and the packet servos completes, and what it leaves. -/
def Obligations.ServiceCommandsComplete : Prop :=
  (∀ (p : Fin 8) (r : RxFrame) (s s' : State), s.takeRx (RxFrame.forServer p 0xC) = some (r, s') → ∃ t, exec (.ptpSignalingRx p) s = .next t ∧
    t.sv.signals = s.sv.signals ++ [r] ∧ t.sv.inbox = s'.sv.inbox) ∧
  (∀ (p : Fin 8) (w : TwoStep) (m : Ptp) (s : State), s.sv.waiting.find? (fun w => w.port == p.val) = some w →
    w.dst.body = .ptp m → s.partState uPTPSRV = svSERVING → s.linkUp p = true → ∃ t, exec (.followUpSend p) s = .next t ∧
    t.sv.waiting = s.sv.waiting.erase w ∧ ∃ f, t.out = .frame p none f :: s.out ∧ ∃ m', f.body = .ptp m' ∧
      m'.mtype = w.mtype ∧ m'.seq = w.seq ∧ m'.sec = w.time / unitsPerSec) ∧
  (∀ (p : Fin 8) (r : RxFrame) (m : Ptp) (s s' : State), s.takeRx (RxFrame.forServer p 1) = some (r, s') → r.frame.body = .ptp m → s'.turnedAway uPTPSRV r.gen = false →
    s'.svRd F.SVC_PORT_CFG_P2P p ≠ 1 → (s'.admits r m).2 = true → ∃ t, exec (.delayReqRx p) s = .next t ∧
    t.rd F.SVC_COUNTER_COUNT 1 = (s.rd F.SVC_COUNTER_COUNT 1 + 1) % 2 ^ 32 ∧
    ∃ f, t.out = .frame p none f :: s.out) ∧
  (∀ (p : Fin 8) (pcs : Int) (r : RxFrame) (m : Ptp) (s s' : State), s.takeRx (RxFrame.forServer p 2) = some (r, s') → r.frame.body = .ptp m → s'.turnedAway uPTPSRV r.gen = false →
    s'.svRd F.SVC_PORT_CFG_P2P p ≠ 0 → s'.svRd F.SVC_PORT_CFG_ONE_STEP p ≠ 1 → (s'.admits r m).2 = true →
    ∃ t, exec (.pdelayReqRx p pcs) s = .next t ∧
    t.rd F.SVC_COUNTER_COUNT 1 = (s.rd F.SVC_COUNTER_COUNT 1 + 1) % 2 ^ 32 ∧ ∃ i f, t.out = .frame p (some i) f :: s.out) ∧
  (∀ (p : Fin 8) (r : RxFrame) (m : Ptp) (s s' : State), s.takeRx (RxFrame.forServer p 0xD) = some (r, s') → r.frame.body = .ptp m → s'.partState uPTPSRV = svSERVING →
    m.peer / 2 ^ 16 = 2 ^ 64 - 1 → ∃ t, exec (.managementRx p) s = .next t ∧ ∃ f, t.out = .frame p none f :: s.out) ∧
  (∀ (p : Fin 8) (pcs : Int) (r : RxFrame) (n : Ntp) (s s' : State), s.takeRx (fun r => r.taker == 4 && r.port == p.val) = some (r, s') →
    r.frame.body = .ntp n → s'.svRd F.NTP_CFG_ENABLE ≠ 0 → s'.turnedAway uNTPSRV r.gen = false → s'.ntpUnsync = false →
    (s'.takeToken (Tab.find s'.sv.ntp (s'.ntpBucket r.frame)) r.time (s'.svRd F.NTP_LIMIT_RATE_PER_S)
      (max 1 (s'.svRd F.NTP_LIMIT_BURST)) unitsPerSec).2 = true →
    s'.portMode p = 1 → (s'.svcPort p).ntpSec = s'.now / unitsPerSec → (s'.svcPort p).ntpCount < 524288 →
    s'.sv.ntpCount < 4194304 → ∃ t, exec (.ntpRequestRx p pcs) s = .next t ∧
    t.rd F.SVC_COUNTER_COUNT 9 = (s.rd F.SVC_COUNTER_COUNT 9 + 1) % 2 ^ 32 ∧ ∃ i f, t.out = .frame p (some i) f :: s.out) ∧
  (∀ s : State, s.rd F.SVC_TBL_STATUS_BUSY 0 ≠ 1 → ∃ t, exec .tblRead s = .next t ∧
    t.rd F.SVC_TBL_STATUS_RESULT 0 = tbOK ∧ ∀ k : Fin 16, t.rd F.SVC_TBL_DATA_WORD k =
      s.client (s.rd F.SVC_TBL_CTRL_INDEX 0) / 2 ^ (32 * k.val) % 2 ^ 32) ∧
  (∀ s : State, s.rd F.SVC_TBL_STATUS_BUSY 0 ≠ 1 → clValid (s.client (s.rd F.SVC_TBL_CTRL_INDEX 0)) = false →
    clValid (storeEntry s.tblData (s.client (s.rd F.SVC_TBL_CTRL_INDEX 0))) = false →
    ∃ t, exec .tblWrite s = .next t ∧ t.rd F.SVC_TBL_STATUS_RESULT 0 = tbOK ∧
      t.client (s.rd F.SVC_TBL_CTRL_INDEX 0) = storeEntry s.tblData (s.client (s.rd F.SVC_TBL_CTRL_INDEX 0))) ∧
  (∀ s : State, s.rd F.SVC_TBL_STATUS_BUSY 0 ≠ 1 → ∃ t, exec .tblDelete s = .next t ∧
    t.rd F.SVC_TBL_STATUS_RESULT 0 = tbOK ∧ t.client (s.rd F.SVC_TBL_CTRL_INDEX 0) = 0) ∧
  (∀ (c : Nat × Nat) (s : State), s.rd F.SVC_TBL_STATUS_BUSY 0 ≠ 1 → s.findClient (clKey s.tblData) = some c →
    ∃ t, exec .tblFind s = .next t ∧ t.rd F.SVC_TBL_STATUS_RESULT 0 = tbOK ∧
      t.rd F.SVC_TBL_STATUS_FOUND 0 = c.1 % 2 ^ F.SVC_TBL_STATUS_FOUND.width) ∧
  (∀ s : State, ∃ t, exec .clientWindowAccess s = .next t ∧ t.rd F.SVC_TBL_STATUS_DIRECT 0 =
    satTo F.SVC_TBL_STATUS_DIRECT.width (s.rd F.SVC_TBL_STATUS_DIRECT 0 + 1)) ∧
  (∀ (k : Fin 16) (r : RxFrame) (m : Ptp) (s s' : State), s.takeRx (fun r => r.taker == 2 && r.servo == k.val) = some (r, s') →
    r.frame.body = .ptp m → (s'.servo k).master = none → s'.pkState k ≠ 0 → s'.pkBad k = false → s'.inService (uPK k) = true →
    s'.pkMaster k ≠ 0 → m.mtype = 0 → m.twoStep = true → ∃ t, exec (.servoFrameRx k) s = .next t ∧
    (t.servo k).master = some (r.frame.srcAddr, m.source) ∧ t.rd F.PK_STATUS_TWO_STEP k = 1 ∧
    (t.servo k).syncs = (s.servo k).syncs ++ [⟨m.seq, r.time, m.correction, !r.degraded⟩]) ∧
  (∀ (k : Fin 16) (msg : Nat) (s : State), s.pkUnicast k = true → msg = 0xB ∨ msg = 0 ∨ msg = 9 → s.pkSends k = true →
    s.pkMaster k ≠ 0 → ∃ t, exec (.servoRenew k msg) s = .next t ∧ ∃ f, t.out = .frame (s.pkPort k) none f :: s.out ∧
      ∃ m, f.body = .ptp m ∧ m.tlvs = [.request msg (s.pkLog k msg) (s.pkDuration k)]) ∧
  (∀ (k : Fin 16) (s : State), ∃ t, exec (.followUpTimeout k) s = .next t ∧
    (t.servo k).syncs = (s.servo k).syncs.drop 1 ∧ t.regs = s.regs) ∧
  (∀ (k : Fin 16) (why : Fin 3) (s : State), s.pkState k = 3 → ∃ t, exec (.servoLost k why none) s = .next t ∧
    t.pkState k = 1 ∧ t.rd F.PK_STATUS_LOSSES k = satTo F.PK_STATUS_LOSSES.width (s.rd F.PK_STATUS_LOSSES k + 1)) ∧
  (∀ (k : Fin 16) (s : State), ∃ t, exec (.announceTimeout k) s = .next t ∧ t.rd F.PK_STATUS_ANN_OK k = 0)

/-- R280, R281, R301–R304: where each command of PERST#, the host link, function resets and the VF pages completes, and what it
leaves. -/
def Obligations.HostCommandsComplete : Prop :=
  (∀ s : State, ∃ t, exec (.perstN true) s = .next t ∧ t.hs.perst = true ∧ t.hs.l0 = false ∧
    t.rd F.HOST_RESET_INFO_LAST 0 = 1 ∧ t.rd F.HOST_STATUS_NUM_VF 0 = 0 ∧ t.rd F.HOST_LINK_SPEED 0 = 0) ∧
  (∀ s : State, ∃ t, exec (.perstN false) s = .next t ∧ t.hs.perst = false ∧ t.regs = s.regs) ∧
  (∀ (speed width : Nat) (s : State), s.hs.perst = false → s.stage ≠ 0 → s.hs.l0 = false → s.inService uPCIE = true →
    ∃ t, exec (.linkL0 speed width) s = .next t ∧ t.hs.l0 = true ∧
      t.rd F.HOST_LINK_SPEED 0 = speed % 2 ^ F.HOST_LINK_SPEED.width ∧
      t.rd F.HOST_LINK_WIDTH 0 = width % 2 ^ F.HOST_LINK_WIDTH.width) ∧
  (∀ s : State, s.hs.l0 = true → ∃ t, exec .hostLinkDown s = .next t ∧ t.rd F.HOST_LINK_SPEED 0 = 0 ∧
    t.rd F.HOST_RESET_INFO_LAST 0 = 2 ∧ t.rd F.HOST_LINK_DOWNS 0 =
      satTo F.HOST_LINK_DOWNS.width (s.rd F.HOST_LINK_DOWNS 0 + 1) ∧
    t.rd F.FLT_SRC_STAT_COUNT 38 = satTo 16 (s.rd F.FLT_SRC_STAT_COUNT 38 + 1)) ∧
  (∀ s : State, ∃ t, exec (.pf0Flr false) s = .next t ∧ t.rd F.HOST_RESET_INFO_LAST 0 = 3 ∧
    t.rd F.HOST_STATUS_NUM_VF 0 = 0 ∧ t.rd F.HOST_STATUS_D_STATE 0 = 0) ∧
  (∀ (v : Fin 16) (s : State), s.vfOn v = true → ∃ t, exec (.vfFlr v) s = .next t ∧ t.reel? (200 + v) = none ∧
    t.rd F.HOST_VF_STATUS_FLRS v = satTo F.HOST_VF_STATUS_FLRS.width (s.rd F.HOST_VF_STATUS_FLRS v + 1)) ∧
  (∀ s : State, s.hs.l0 = true → ∃ t, exec .d3hotEntry s = .next t ∧ t.rd F.HOST_STATUS_D_STATE 0 = 3) ∧
  (∀ (n : Nat) (s : State), ∃ t, exec (.numVfsChange n) s = .next t ∧ t.rd F.HOST_STATUS_NUM_VF 0 = min n 15) ∧
  (∀ (v : Fin 16) (at_ : Nat) (s : State), v = 0 ∨ s.vfOn v = true → ∃ t, exec (.timeSnapshot v at_) s = .next t ∧
    t.rd F.TM_CTRL_SEQ v = (s.rd F.TM_CTRL_SEQ v + 1) % 2 ^ F.TM_CTRL_SEQ.width ∧
    t.rd F.TM_STATE_VALID v = b2n (s.rdB F.TIME_STATUS_VALID 0) ∧ t.rd F.TM_STATE_GEN v = s.gen % 65536) ∧
  (∀ (v : Fin 16) (value : Nat) (s : State), s.vfOn v = true → bitsOf value 31 1 = 0 →
    ∃ t, exec (.vfEvtReelEnable v value) s = .next t ∧ t.rd F.VF_EVT_CFG_ENABLE v = 0 ∧ t.reel? (200 + v) = none) ∧
  (∀ (v : Fin 16) (value : Nat) (s : State), s.vfOn v = true → bitsOf value 31 1 = 1 → s.reel? (200 + v) = none →
    4 ≤ bitsOf value 16 5 → bitsOf value 16 5 ≤ max 4 (min 16 (s.rd F.HOST_VF_CFG_EVT_MAX_LOG v)) →
    s.rd F.VF_EVT_ADDR_ADDR (2 * v) % 4096 = 0 → ∃ t, exec (.vfEvtReelEnable v value) s = .next t ∧
    t.rd F.VF_EVT_CFG_ENABLE v = 1 ∧ t.rd F.VF_EVT_STATUS_RESULT v = 1 ∧
    ∃ x, t.reel? (200 + v) = some x ∧ x.size = 2 ^ bitsOf value 16 5) ∧
  (∀ (v : Fin 16) (value : Nat) (s : State), s.vfOn v = true → (s.reel? (200 + v)).isSome = true →
    ∃ t, exec (.vfEvtCons v value) s = .next t ∧ t = s.consume (200 + v) value) ∧
  (∀ (v : Fin 16) (value : Nat) (s : State), s.vfOn v = true → (s.reel? (200 + v)).isSome = true →
    ∃ t, exec (.vfEvtConsArm v value) s = .next t ∧ t = (s.consume (200 + v) value).armReel (200 + v))

/-- R284–R288, R291, R300: where each command of the reels, their doorbells and the vectors completes, and what it leaves. -/
def Obligations.ReelCommandsComplete : Prop :=
  (∀ (r value : Nat) (x : Reel) (s : State), s.reel? r = some x → isEventReel r = false → x.reason = 0 →
    diff32 (value % 2 ^ 32) x.fetch ≤ diff32 (value % 2 ^ 32) x.cons → diff32 (value % 2 ^ 32) x.cons ≤ x.size →
    value % 2 ^ 32 ≠ x.prod → ∃ t, exec (.doorbellProd r value true) s = .next t ∧
    t.reel? r = some { x with prod := value % 2 ^ 32, ann := x.ann ++ [(value % 2 ^ 32, s.releaseTick)] }) ∧
  (∀ (r value : Nat) (x : Reel) (s : State), s.reel? r = some x → 64 ≤ r → r < 128 → x.reason = 0 →
    diff32 x.written (value % 2 ^ 32) ≤ x.size → diff32 x.prod x.fetch ≤ diff32 x.prod (value % 2 ^ 32) →
    diff32 x.prod (value % 2 ^ 32) ≤ x.size → ∃ t, exec (.doorbellCons r value true) s = .next t ∧
    t.reel? r = some { x with cons := value % 2 ^ 32 }) ∧
  (∀ (r value : Nat) (x : Reel) (s : State), s.reel? r = some x → 64 ≤ r → r < 128 → x.reason = 0 →
    x.written = value % 2 ^ 32 → diff32 x.prod x.fetch ≤ diff32 x.prod (value % 2 ^ 32) →
    diff32 x.prod (value % 2 ^ 32) ≤ x.size → ∃ t, exec (.doorbellConsArm r value true) s = .next t ∧
    t.reel? r = some { x with cons := value % 2 ^ 32, armed := true, pend := 0 }) ∧
  (∀ (r : Nat) (f : Fetched) (x : Reel) (a : Nat × Nat) (rest : List (Nat × Nat)) (s : State), s.reel? r = some x → 160 ≤ r →
    x.ann = a :: rest → s.rd F.HOST_STATUS_D_STATE 0 ≠ 3 → x.reason = 0 → 1 ≤ diff32 a.1 x.fetch →
    x.busy.contains (x.fetch % x.size) = false → ∃ t, exec (.descriptorRelease r [f]) s = .next t ∧
    ∃ y, t.reel? r = some y ∧ y.ann = rest ∧ y.rel = a.1 ∧ y.fetch = wrap32 (x.fetch + 1) ∧
      y.queue.length = x.queue.length + 1) ∧
  (∀ (r : Nat) (f : Fetched) (x : Reel) (s : State), s.reel? r = some x → 160 ≤ r → s.rd F.HOST_STATUS_D_STATE 0 ≠ 3 →
    x.reason = 0 → x.fetch ≠ x.rel → diff32 x.rel x.fetch < 2 ^ 31 →
    ∃ t, exec (.descriptorFetchDone r f) s = .next t ∧ t.rd F.HOST_FETCH_LATE_COUNT 0 =
      satTo F.HOST_FETCH_LATE_COUNT.width (s.rd F.HOST_FETCH_LATE_COUNT 0 + 1)) ∧
  (∀ (r b : Nat) (l : List Nat) (x : Reel) (s : State), s.reel? r = some x → x.held = b :: l → x.reason = 0 →
    s.rd F.HOST_STATUS_D_STATE 0 ≠ 3 → diff32 x.written x.cons < x.size → ∃ t, exec (.completionWrite r) s = .next t ∧
    Out.completion r (x.written % x.size) [b + b2n x.phase * 2 ^ 255] ∈ t.out) ∧
  (∀ (r addr : Nat) (x : Reel) (s : State), s.reel? r = some x → x.reason = 0 →
    ∃ t, exec (.dmaError r addr none) s = .next t ∧ t.rd F.HOST_ERR_STATUS_REASON 0 = rfDMA ∧
      t.rd F.HOST_ERR_STATUS_REEL 0 = r % 2 ^ F.HOST_ERR_STATUS_REEL.width ∧
      t.rd F.HOST_ERR_ADDR_LO_ADDR 0 = addr % 2 ^ 32 ∧
      t.rd F.HOST_ERR_COUNT_COUNT 0 = satTo F.HOST_ERR_COUNT_COUNT.width (s.rd F.HOST_ERR_COUNT_COUNT 0 + 1) ∧
      ∀ d ∈ t.hs.ready, d.reel ≠ r) ∧
  (∀ (r : Nat) (x : Reel) (b : RxBuf) (l : List RxBuf) (s : State), s.reel? r = some x → x.bufs = b :: l →
    b.first.isSome = true → x.records = true → b.recs ≠ [] → ∃ t, exec (.recordsFlush r) s = .next t ∧
    Out.dma b.addr (b.recs.flatMap State.finishRecords.beBytes16) ∈ t.out) ∧
  (∀ (r : Nat) (x : Reel) (s : State), s.reel? r = some x → x.armed = true → 0 < x.pend → x.reason = 0 →
    ∃ t, exec (.msixModeration r) s = .next t ∧ t.reel? r = some { x with armed := false, pend := 0 }) ∧
  (∀ (fn vec : Nat) (s : State), ∃ t, exec (.msixUnmask fn vec) s = .next t ∧
    t.hs.unmasked.contains (fn * 256 + vec) = true ∧
    (s.rd F.HOST_STATUS_D_STATE 0 ≠ 3 → t.hs.pba.contains (fn * 256 + vec) = false))

/-- R293–R300, R324: where each command of an admin reel completes, and what it leaves. -/
def Obligations.AdminCommandsComplete : Prop :=
  (∀ (a : Fin 2) (value : Nat) (x : Reel) (s : State), s.reel? (160 + a) = some x → x.reason ≠ 0 → bitsOf value 31 1 = 0 →
    ∃ t, exec (.adminEnable a value) s = .next t ∧ t.reel? (160 + a) = none ∧ t.rd F.ADMIN_CFG_ENABLE a = 0 ∧
      t.rd F.ADMIN_CFG_VECTOR a = bitsOf value 16 8) ∧
  (∀ (a : Fin 2) (value : Nat) (s : State), s.reel? (160 + a) = none → bitsOf value 31 1 = 1 → s.hostReady = true →
    s.inService uPCIE = true → 4 ≤ bitsOf value 0 4 → bitsOf value 0 4 ≤ 12 →
    s.ringAddr F.ADMIN_SQ_LO_ADDR F.ADMIN_SQ_HI_ADDR a % 4096 = 0 →
    s.ringAddr F.ADMIN_CQ_LO_ADDR F.ADMIN_CQ_HI_ADDR a % 4096 = 0 →
    ∃ t, exec (.adminEnable a value) s = .next t ∧ t.rd F.ADMIN_STATUS_RESULT a = 1 ∧ t.rd F.ADMIN_CFG_ENABLE a = 1 ∧
      ∃ x, t.reel? (160 + a) = some x ∧ x.size = 2 ^ bitsOf value 0 4 ∧ x.vector = min 127 (bitsOf value 16 8)) ∧
  (∀ (a : Fin 2) (d : TxDesc) (v : Nat) (s : State), s.adminNext a = some d → d.opcode = 0x01 → d.adminReserved = false →
    d.param 0 = 0 → (∀ r ∈ s.reelNumbers, 160 ≤ r) → highestOf (d.param 1) [1, 2] = some v →
    exec (.negotiate a) s = .next ((s.wr F.HOST_STATUS_ADMIN_VER 0 v).adminDone a adOK [v])) ∧
  (∀ (a : Fin 2) (d : TxDesc) (r : Nat) (s : State), s.adminNext a = some d → d.opcode = 0x02 → d.adminReserved = false →
    reelOf (d.param 0) = some r → bitsOf (d.param 6) 0 8 ≤ 127 →
    (r < 128 → (d.param 2 + d.param 3 * 2 ^ 32) % 4096 = 0 ∧ (s.hs.formats.find r).isSome = true) →
    (d.param 4 + d.param 5 * 2 ^ 32) % 4096 = 0 → sizeOk (d.param 1) = true → s.reel? r = none →
    ∃ x : Reel, x.size = d.param 1 ∧ x.vector = bitsOf (d.param 6) 0 8 ∧ x.modUs = min 1000 (bitsOf (d.param 6) 16 16) ∧
      x.modCount = max 1 (bitsOf (d.param 6) 8 8) ∧ x.prod = 0 ∧ x.cons = 0 ∧ x.reason = 0 ∧
      exec (.createReel a) s = .next ((s.createReel r x).adminDone a adOK [0x100 * r])) ∧
  (∀ (a : Fin 2) (d : TxDesc) (r : Nat) (x : Reel) (s : State), s.adminNext a = some d → d.opcode = 0x03 →
    d.adminReserved = false → reelOf (d.param 0) = some r → s.reel? r = some x →
    exec (.destroyReel a) s = .next ((((s.endDrains r).destroyReel r).adminDone a adOK [s.reelWork r]).drainStalled)) ∧
  (∀ (a : Fin 2) (d : TxDesc) (r : Nat) (x : Reel) (s : State), s.adminNext a = some d → d.opcode = 0x04 →
    d.adminReserved = false → reelOf (d.param 0) = some r → s.reel? r = some x → bitsOf (d.param 1) 0 8 ≤ 127 →
    exec (.setVector a) s = .next ((s.putReel r
      { x with vector := bitsOf (d.param 1) 0 8, modUs := min 1000 (bitsOf (d.param 1) 16 16)
               modCount := max 1 (bitsOf (d.param 1) 8 8) }).adminDone a adOK [])) ∧
  (∀ (a : Fin 2) (d : TxDesc) (x : RecRead) (s : State), s.adminNext a = some d → d.opcode = 0x06 →
    d.adminReserved = false → recExists (d.param 0) (d.param 1) = true →
    (s.readRecord (d.param 0) (d.param 1)).2 = some x → x.payload.length ≤ bitsOf d.bits 352 32 →
    exec (.atticRead a true) s = .next (((s.readRecord (d.param 0) (d.param 1)).1.emitOut
      (.dma (bitsOf d.bits 384 64) x.payload)).adminDone a adOK [x.payload.length, x.seq, b2n x.conflict])) ∧
  (∀ (a : Fin 2) (d : TxDesc) (r : RecType) (bs : List Nat) (s : State), s.adminNext a = some d → d.opcode = 0x07 →
    d.adminReserved = false → recType (d.param 0) = some r → d.param 1 < r.instances → s.mayWrite (d.param 0) = true →
    bitsOf d.bits 352 32 ≤ r.maxLen → s.commitBusy (d.param 0) (d.param 1) = false →
    exec (.atticWrite a (some bs)) s = .next ((s.adminWait a).portRequest
      { rtype := d.param 0, inst := d.param 1, replyKind := 1, replyTo := a, master := 0, repair := 0
        payload := (List.range (bitsOf d.bits 352 32)).map fun k => bs.getD k 0 % 256 })) ∧
  (∀ (a : Fin 2) (d : TxDesc) (s : State), s.adminNext a = some d → d.opcode = 0x08 → d.adminReserved = false →
    d.param 0 = 0x8416 → ∃ t, exec (.fullReset a) s = .next t ∧ t.hs.resetDue = some 4 ∧
    t.regs = (s.adminDone a adOK []).regs) ∧
  (∀ s : State, s.hs.resetDue = some 4 → ∃ t, exec .fullResetStart s = .next t ∧ t.rd F.CLK_RESET_CAUSE_CAUSE 0 = 4 ∧
    t.rd F.HOST_RESET_INFO_LAST 0 = 5 ∧ t.rd F.CLK_STAGE_STATUS_STAGE 0 = 0 ∧ t.rd F.HOST_STATUS_ADMIN_VER 0 = 1) ∧
  (∀ (a : Fin 2) (d : TxDesc) (s : State), s.adminNext a = some d → d.opcode = 0x09 → d.adminReserved = false →
    bitsOf d.bits 496 1 = 0 → s.isSole = false → s.pr.everNegotiated = true → s.pr.switch = none →
    s.pairState = psSTANDBY → s.linkState = lkUP → ∃ t, exec (.pairSwitch a) s = .next t ∧
    t.rd F.PEER_SWITCH_STATUS_IN_PROGRESS 0 = 1 ∧ ∃ w, t.pr.switch = some w ∧ w.reply = some (a.val, 0) ∧ w.force = false) ∧
  (∀ (a : Fin 2) (d : TxDesc) (r : Nat) (x : Reel) (s : State), s.adminNext a = some d → d.opcode = 0x0A →
    d.adminReserved = false → s.rd F.HOST_STATUS_ADMIN_VER 0 = 2 → reelOf (d.param 0) = some r → s.reel? r = some x →
    exec (.reelStatus a) s =
      .next (s.adminDone a adOK [s.reelState r, x.reason, x.fetch, x.written, x.prod, x.cons])) ∧
  (∀ (a : Fin 2) (d : TxDesc) (r : Nat) (x : Reel) (s : State), s.adminNext a = some d → d.opcode = 0x0B →
    d.adminReserved = false → s.rd F.HOST_STATUS_ADMIN_VER 0 = 2 → reelOf (d.param 0) = some r → r < 128 →
    s.reel? r = some x → x.reason = 0 → (∀ y, (s.cancelWork r).reel? r = some y → y.held = []) →
    ((s.cancelWork r).reel? r).isSome = true →
    exec (.drainReel a) s = .next (((s.cancelWork r).adminDone a adOK [(s.queuedWork r).length]).drainStalled)) ∧
  (∀ (a : Fin 2) (r n : Nat) (x : Reel) (s : State), (s.hs.drains.find? fun d => d.2.1 == a.val) = some (r, a.val, n) →
    s.reel? r = some x → ∃ t, exec (.drainTimeout a) s = .next t ∧
    t = State.adminDone { s with hs := { s.hs with drains := s.hs.drains.filter fun e => e.2.1 != a.val } } a adBUSY
      [n - min n x.held.length]) ∧
  (∀ (a : Fin 2) (d : TxDesc) (s : State), s.adminNext a = some d → s.opcodeKnown d.opcode = false →
    exec (.adminBadOpcode a) s = .next (s.adminDone a adBAD_OPCODE []))

/-- R307–R312, R320, R324, R325: where each command of the claim, the standby and a switch completes, and what it leaves. -/
def Obligations.ClaimAndSwitchCommandsComplete : Prop :=
  (∀ (code : Fin 4) (s : State), s.isSole = false → s.rd F.PEER_STATUS_CLAIM_IN 0 ≠ code →
    ∃ t, exec (.claimInChange code) s = .next t ∧ t.rd F.PEER_STATUS_CLAIM_IN 0 = code) ∧
  (∀ s : State, s.pairState = psCLAIMING → s.pr.slotDelay = true → s.claimRead = false →
    ∃ t, exec .claimSlotDelayEnd s = .next t ∧ t.claims = true ∧ t.pr.slotDelay = false ∧ t.pr.confirm = true) ∧
  (∀ s : State, s.pairState = psCLAIMING → s.pr.confirm = true → s.pr.conflictHold = false → s.claimRead = false →
    ∃ t, exec .claimConfirmEnd s = .next t ∧ t.pairState = psACTIVE ∧ t.claims = true ∧ t.pr.confirm = false) ∧
  (∀ s : State, s.pairState = psCLAIMING → s.pr.conflictHold = true → s.claimRead = true →
    ∃ t, exec .claimConflictHoldEnd s = .next t ∧ t.pairState = psBLOCKED ∧ t.claims = false ∧
      t.rd F.PEER_STATUS_BLOCK_CAUSE 0 = 2) ∧
  (∀ s : State, ∃ t, exec .reclaimHoldoffEnd s = .next t ∧ t.pr.reclaiming = false) ∧
  (∀ (r : Recipe) (s : State), s.isStandby = true → s.dpSt s.timeDpll = 3 → (s.dpll s.timeDpll).recipe = some r →
    r.root = s.peerRd F.PEER_CFG_STANDBY_ROOT → (s.dpll s.timeDpll).eBar = 0 →
    ∃ t, exec .standbyAligned s = .next t ∧ t.rd F.PEER_STATUS_ALIGNED 0 = 1) ∧
  (∀ s : State, s.isSole = false → s.pr.everNegotiated = true → s.pr.switch = none → s.pairState = psSTANDBY →
    s.linkState = lkUP → ∃ t, exec .peerSwitchGo s = .next t ∧ t.pr.switch.isSome = true ∧
    t.rd F.PEER_SWITCH_STATUS_IN_PROGRESS 0 = 1 ∧ t.pr.nextIdent = s.pr.nextIdent + 1) ∧
  (∀ s : State, s.isSole = false → s.pr.switch = none → s.pairState = psSTANDBY → s.linkState = lkUP →
    ∃ t, exec (.peerSwitchForce 0x8416) s = .next t ∧ (∃ w, t.pr.switch = some w ∧ w.force = true) ∧
    t.rd F.PEER_SWITCH_STATUS_IN_PROGRESS 0 = 1) ∧
  (∀ (fr : Hl) (ident : Nat) (s : State), (s.hallwayTake fr 3).2 = true → s.linked = true → s.pairState = psACTIVE →
    s.pr.switch = none → s.switchReady = true → ∃ t, exec (.switchOfferRx fr ident false) s = .next t ∧
    t.rd F.PEER_SWITCH_STATUS_IN_PROGRESS 0 = 1 ∧ ∃ w, t.pr.switch = some w ∧ w.ident = ident ∧ w.shut = true ∧
      w.handover.isSome = true) ∧
  (∀ (fr : Hl) (ident ts : Nat) (s : State), (s.hallwayTake fr 4).2 = true → s.linked = true → s.pairState ≠ psACTIVE →
    ∃ t, exec (.switchAcceptRx fr ident ts) s = .next t ∧ ∃ w, t.pr.switch = some w ∧ w.handover = some ts) ∧
  (∀ (fr : Hl) (w : SwitchReq) (s : State), (s.hallwayTake fr 5).2 = true → s.linked = true → s.pr.switch = some w →
    w.shut = false → w.reply = none → ∃ t, exec (.switchRefuseRx fr w.ident) s = .next t ∧ t.pr.switch = none ∧
    t.rd F.PEER_SWITCH_STATUS_RESULT 0 = acNOT_READY ∧ t.rd F.PEER_SWITCH_STATUS_IN_PROGRESS 0 = 0) ∧
  (∀ (w : SwitchReq) (s : State), s.pr.switch = some w → w.shut = true → w.handover.isSome = true → s.pairState = psACTIVE →
    ∃ t, exec .switchHandover s = .next t ∧ t.sy.handover = true) ∧
  (∀ (w : SwitchReq) (s : State), s.pr.switch = some w → w.handover.isSome = true → w.reply = none →
    ∃ t, exec .switchTimeout s = .next t ∧ t.pr.switch = none ∧ t.rd F.PEER_SWITCH_STATUS_RESULT 0 = acNOT_READY ∧
      t.rd F.PEER_SWITCH_STATUS_IN_PROGRESS 0 = 0)

/-- R313–R316, R319, R321, R322: where each command of the hallway link and its messages completes, and what it leaves. -/
def Obligations.HallwayCommandsComplete : Prop :=
  (∀ (l : Fin 2) (s : State), s.hallwayOn = true → s.laneUp 0 = false → s.laneUp 1 = false →
    ∃ t, exec (.hallwayLaneUp l) s = .next t ∧ t.laneUp l = true ∧ t.linkState = lkNEGOTIATING) ∧
  (∀ (l : Fin 2) (s : State), s.laneUp 0 = true → s.laneUp 1 = true → ∃ t, exec (.hallwayLaneDown l) s = .next t ∧
    t.laneUp l = false ∧ t.laneUp (1 - l) = true ∧ t.linkState = s.linkState ∧
    t.rd F.FLT_SRC_STAT_COUNT 42 = satTo 16 (s.rd F.FLT_SRC_STAT_COUNT 42 + 1)) ∧
  (∀ s : State, s.linkState = lkNEGOTIATING → s.hallwayOn = true → s.laneUp 0 = true ∨ s.laneUp 1 = true →
    ∃ t, exec .helloTx s = .next t ∧ ∃ l, t.out = .hallway 0 l :: s.out) ∧
  (∀ (fr : Hl) (h : Hello) (s : State), (s.hallwayTake fr 0).2 = true → s.linkState = lkNEGOTIATING → s.helloFails h = 0 →
    ∃ t, exec (.helloRx fr h) s = .next t ∧ t.linkState = lkUP ∧ t.rd F.PEER_STATUS_HB_CURRENT 0 = 1 ∧
      t.pr.everNegotiated = true ∧ t.pr.partnerId = some h.clockId) ∧
  (∀ s : State, s.linked = true → s.hallwayOn = true → s.laneUp 0 = true ∨ s.laneUp 1 = true →
    ∃ t, exec .heartbeatTx s = .next t ∧ t.pr.hbSeen = false ∧ ∃ l, t.out = .hallway 1 l :: s.out) ∧
  (∀ (fr : Hl) (h : Heartbeat) (s : State), (s.hallwayTake fr 1).2 = true → s.linkState = lkUP → s.pr.switch = none →
    ∃ t, exec (.heartbeatRx fr h) s = .next t ∧ t.rd F.PEER_STATUS_HB_CURRENT 0 = 1 ∧ t.pr.hbSeen = true ∧
      t.rd F.PEER_PARTNER_PAIR_STATE 0 = h.pairState % 2 ^ F.PEER_PARTNER_PAIR_STATE.width ∧
      t.rd F.PEER_PARTNER_STAGE 0 = h.stage % 2 ^ F.PEER_PARTNER_STAGE.width ∧ t.pr.partnerAligned = bitOf h.flags 1) ∧
  (∀ s : State, s.isSole = false → s.rd F.PEER_STATUS_HB_CURRENT 0 = 1 → ∃ t, exec .heartbeatLost s = .next t ∧
    t.rd F.PEER_STATUS_HB_CURRENT 0 = 0 ∧ t.linkState = lkLOST ∧
    t.rd F.PEER_COUNTS_HB_LOSSES 0 = satTo F.PEER_COUNTS_HB_LOSSES.width (s.rd F.PEER_COUNTS_HB_LOSSES 0 + 1) ∧
    t.rd F.FLT_SRC_STAT_COUNT 43 = satTo 16 (s.rd F.FLT_SRC_STAT_COUNT 43 + 1)) ∧
  (∀ (fr : Hl) (m : TimeMsg) (d τ : Int) (s : State), (s.hallwayTake fr 2).2 = true → s.linked = true → s.isStandby = true →
    s.partnerPulse m.seconds = some (d, τ) → s.pr.timeRun.run = 0 → 2 ≤ s.peerRd F.PEER_CFG_CONFIRM →
    ∃ t, exec (.timeMsgRx fr m) s = .next t ∧ t.pr.timeRun.run = 1 ∧ t.pr.timeRun.d = d ∧ t.pr.timeRun.lastPulse = some τ) ∧
  (∀ (fr : Hl) (i w : Nat) (s : State), (s.hallwayTake fr 6).2 = true → s.linked = true → 2 ≤ s.rd F.PEER_STATUS_VERSION 0 →
    s.pairState ≠ psACTIVE → i < 16384 → ∃ t, exec (.tableSyncRx fr (.entry i w)) s = .next t ∧
    t.client i = mirrorBits w + (s.client i - mirrorBits (s.client i))) ∧
  (∀ (fr : Hl) (d : Nat) (s : State), (s.hallwayTake fr 7).2 = true → s.linked = true → 3 ≤ s.rd F.PEER_STATUS_VERSION 0 →
    ∃ t, exec (.cfgDigestRx fr d) s = .next t ∧ t.rd F.PEER_PARTNER_DIGEST_DIGEST 0 = d % 2 ^ 32 ∧ t.pr.digestSeen = true)

/-- R330–R342: where each command of the fault collector completes, and what it leaves. -/
def Obligations.FaultCommandsComplete : Prop :=
  (∀ (source : Fin 53) (unit a b : Nat) (s : State), source ≠ 0 → ∃ t, exec (.faultCause source unit a b) s = .next t ∧
    t.rd F.FLT_SRC_STAT_COUNT source = satTo 16 (s.rd F.FLT_SRC_STAT_COUNT source + 1)) ∧
  (∀ (source : Fin 53) (unit : Nat) (s : State), source ≠ 0 → s.flt.broken.contains (source.val, unit) = false →
    ∃ t, exec (.faultWire source unit true) s = .next t ∧ t.flt.broken = (source.val, unit) :: s.flt.broken ∧
      t.rd F.FLT_SRC_STAT_COUNT source = satTo 16 (s.rd F.FLT_SRC_STAT_COUNT source + 1) ∧
      t.rd F.FLT_SRC_STAT_COUNT 0 = satTo 16 (s.rd F.FLT_SRC_STAT_COUNT 0 + 1)) ∧
  (∀ (source : Fin 53) (unit : Nat) (s : State), source ≠ 0 → s.flt.injectBroken = none →
    ∃ t, exec (.faultWire source unit false) s = .next t ∧ t.flt.broken.contains (source.val, unit) = false ∧
      t.regs = s.regs ∧ t.out = s.out) ∧
  (∀ (addr : Nat) (s : State), ∃ t, exec (.sramScrub addr true) s = .next t ∧
    t.rd F.FLT_SRC_STAT_COUNT 1 = satTo 16 (s.rd F.FLT_SRC_STAT_COUNT 1 + 1)) ∧
  (∀ (addr : Nat) (s : State), s.flt.onceThisEpoch.contains (48 * 65536 + uMODULE) = false →
    ∃ t, exec (.sramScrub addr false) s = .next t ∧
      t.rd F.FLT_SRC_STAT_COUNT 48 = satTo 16 (s.rd F.FLT_SRC_STAT_COUNT 48 + 1)) ∧
  (∀ (k : Fin 256) (l : Latch) (e : Nat) (s : State), Tab.find s.flt.latches k = some l → l.graceEnd = some e → s.now ≤ e →
    ∃ t, exec (.faultAck k) s = .next t ∧ Tab.find t.flt.latches k = some { l with graceEnd := none, acked := true } ∧
      t.regs = s.regs ∧ t.flt.reactions = s.flt.reactions) ∧
  (∀ (k : Fin 256) (l : Latch) (e : Nat) (s : State), Tab.find s.flt.latches k = some l → l.graceEnd = some e →
    ∃ t, exec (.graceExpiry k) s = .next t ∧
      t.rd F.FLT_ESCALATIONS_COUNT 0 = satTo F.FLT_ESCALATIONS_COUNT.width (s.rd F.FLT_ESCALATIONS_COUNT 0 + 1) ∧
      Tab.find t.flt.latches k = some { l with graceEnd := none, escalated := true } ∧
      ∃ r, t.flt.reactions = r :: s.flt.reactions ∧ r.source = l.source ∧ r.unit = l.unit ∧ r.entry = k ∧ r.cause = e) ∧
  (∀ (r : Reaction) (s : State), (s.oldestReaction fun r => !r.applied) = some r → r.action = 4 → r.shutter = false →
    ∃ t, exec .reactionOperation s = .next t ∧ t.hs.resetDue = some 3) ∧
  (∀ (r : Reaction) (s : State), (s.oldestReaction fun r => !r.applied) = some r → r.action = 0 → r.shutter = false →
    ∃ t, exec .reactionOperation s = .next t ∧ r ∉ t.flt.reactions ∧
      { r with applied := true, code := 0 } ∉ t.flt.reactions) ∧
  (∀ (r : Reaction) (s : State), (s.oldestReaction fun r => r.applied && r.action != 4 &&
      (unitLeaves r.names).all fun u => !s.isResetting u) = some r →
    ∃ t, exec .reactionComplete s = .next t ∧ t.flt.reactions = s.flt.reactions.filter (· != r) ∧ t.regs = s.regs) ∧
  (∀ s : State, ∃ t, exec .settleWindowEnd s = .next t ∧ t.regs = s.regs ∧
    ∀ w : Window, w ∈ t.flt.windows ↔ w ∈ s.flt.windows ∧ (w.stop = none ∨ ∃ e, w.stop = some e ∧ s.now < e)) ∧
  (∀ s : State, s.errFault = false → s.rd F.FLT_CFG_HEARTBEAT 0 = 1 →
    ∃ t, exec .errToggle s = .next t ∧ t.flt.errPhase = !s.flt.errPhase ∧ t.regs = s.regs) ∧
  (∀ s : State, s.testMode = true → isFaultSource (s.rd F.FLT_INJECT_SEL_SOURCE 0) = true →
    ∃ t, exec .faultInject s = .next t ∧
      t.rd F.FLT_INJECT_STATUS_COUNT 0 = satTo F.FLT_INJECT_STATUS_COUNT.width (s.rd F.FLT_INJECT_STATUS_COUNT 0 + 1) ∧
      t.rd F.FLT_SRC_STAT_COUNT (s.rd F.FLT_INJECT_SEL_SOURCE 0) =
        satTo 16 (s.rd F.FLT_SRC_STAT_COUNT (s.rd F.FLT_INJECT_SEL_SOURCE 0) + 1)) ∧
  (∀ s : State, s.testMode = true → isFaultSource (s.rd F.FLT_INJECT_SEL_SOURCE 0) = true → s.flt.injectBroken = none →
    ∃ t, exec (.faultInjectBreak true) s = .next t ∧ t.rd F.FLT_INJECT_CTRL_BREAK 0 = 1 ∧
      t.flt.injectBroken = some (s.rd F.FLT_INJECT_SEL_SOURCE 0, s.rd F.FLT_INJECT_SEL_UNIT 0))

/-- R351–R361: where each command of the attic completes, and what it leaves. -/
def Obligations.AtticCommandsComplete : Prop :=
  (∀ (us : Nat) (q : AtticReq) (l : List AtticReq) (r : RecType) (s : State), s.at_.port = q :: l →
    recType q.rtype = some r → q.repair = 0 → ∃ t, exec (.atticCommitDone none us) s = .next t ∧ t.at_.port = l ∧
    t.rd F.ATTIC_LAST_COMMIT_TYPE 0 = q.rtype % 2 ^ F.ATTIC_LAST_COMMIT_TYPE.width ∧ t.rd F.ATTIC_LAST_COMMIT_INSTANCE 0 = q.inst % 2 ^ F.ATTIC_LAST_COMMIT_INSTANCE.width ∧
    t.rd F.ATTIC_LAST_COMMIT_OUTCOME 0 = 1 ∧ t.rd F.ATTIC_LAST_COMMIT_LEN_US 0 = satTo 13 us ∧
    t.rd F.ATTIC_COMMIT_COUNT_DONE 0 = (s.rd F.ATTIC_COMMIT_COUNT_DONE 0 + 1) % 2 ^ F.ATTIC_COMMIT_COUNT_DONE.width) ∧
  (∀ (x : RecRead) (s : State), recExists (s.rd F.ATTIC_MB_CTRL_TYPE 0) (s.rd F.ATTIC_MB_CTRL_INSTANCE 0) = true →
    (s.readRecord (s.rd F.ATTIC_MB_CTRL_TYPE 0) (s.rd F.ATTIC_MB_CTRL_INSTANCE 0)).2 = some x →
    ∃ t, exec .atticMbRead s = .next t ∧ t.rd F.ATTIC_MB_STATUS_RESULT 0 = 1 ∧
      t.rd F.ATTIC_MB_LEN_LENGTH 0 = x.payload.length % 2 ^ F.ATTIC_MB_LEN_LENGTH.width ∧
      t.rd F.ATTIC_MB_SEQ_SEQ 0 = x.seq % 2 ^ 32 ∧ t.rd F.ATTIC_MB_STATUS_CONFLICT 0 = b2n x.conflict) ∧
  (∀ (r : RecType) (s : State), recType (s.rd F.ATTIC_MB_CTRL_TYPE 0) = some r →
    s.rd F.ATTIC_MB_CTRL_INSTANCE 0 < r.instances → s.mayWrite (s.rd F.ATTIC_MB_CTRL_TYPE 0) = true →
    s.rd F.ATTIC_MB_LEN_LENGTH 0 ≤ r.maxLen → s.at_.port = [] →
    ∃ t, exec .atticMbWrite s = .next t ∧ t.rd F.ATTIC_MB_STATUS_RESULT 0 = 0 ∧ t.at_.mem = s.at_.mem ∧
      ∃ q, t.at_.port = [q] ∧ q.rtype = s.rd F.ATTIC_MB_CTRL_TYPE 0 ∧ q.inst = s.rd F.ATTIC_MB_CTRL_INSTANCE 0 ∧
        q.payload = Memory.bytes s.at_.staging 0 (s.rd F.ATTIC_MB_LEN_LENGTH 0) ∧ q.repair = 0) ∧
  (∀ s : State, ∃ t, exec .atticMbRawRead s = .next t ∧ t.at_.mem = s.at_.mem ∧
    t.at_.staging = Memory.writeBytes s.at_.staging 0 (Memory.bytes s.at_.mem (256 * s.rd F.ATTIC_MB_ADDR_PAGE 0) 256) ∧
    (t.rd F.ATTIC_MB_STATUS_RESULT 0 = 1 ∨ t.rd F.ATTIC_MB_STATUS_RESULT 0 = 8)) ∧
  (∀ s : State, 1 ≤ s.rd F.ATTIC_MB_LEN_LENGTH 0 →
    s.rd F.ATTIC_MB_LEN_START 0 + s.rd F.ATTIC_MB_LEN_LENGTH 0 ≤ 256 →
    1160 ≤ s.rd F.ATTIC_MB_ADDR_PAGE 0 → s.rd F.ATTIC_MB_ADDR_PAGE 0 ≤ 1535 →
    ∃ t, exec .atticMbRawWrite s = .next t ∧ t.rd F.ATTIC_MB_STATUS_RESULT 0 = 1 ∧ t.at_.mem =
      Memory.writeBytes s.at_.mem (256 * s.rd F.ATTIC_MB_ADDR_PAGE 0 + s.rd F.ATTIC_MB_LEN_START 0)
        (Memory.bytes s.at_.staging 0 (s.rd F.ATTIC_MB_LEN_LENGTH 0))) ∧
  (∀ s : State, s.at_.logHeld ≠ [] → ∃ t, exec .logPageWrite s = .next t ∧ t.at_.logHeld = [] ∧
    t.rd F.ATTIC_LOG_STATUS_PENDING 0 = 0 ∧
    t.rd F.ATTIC_LOG_STATUS_NEXT_PAGE 0 = (s.rd F.ATTIC_LOG_STATUS_NEXT_PAGE 0 + 1) % 2560 ∧ t.at_.mem =
      Memory.writeBytes s.at_.mem (logAddr (s.rd F.ATTIC_LOG_STATUS_NEXT_PAGE 0)) (logPageBytes s.at_.lap s.at_.logHeld)) ∧
  (∀ s : State, s.rd F.POWER_STATUS_RAILS_GOOD 0 = 1 → ∃ t, exec .powerOnHour s = .next t ∧
    t.at_.hourStage3 = (s.stage == 3) ∧ t.at_.hourHot = decide (75 * 16 < s.rdI F.POWER_TEMP_PLATE_TEMP)) ∧
  (∀ (weak : Bool) (single : Nat) (bad : List Nat) (s : State), ∃ t, exec (.atticScanPage weak single bad) s = .next t ∧
    t.rd F.ATTIC_SCAN_STATUS_PAGE 0 = (s.rd F.ATTIC_SCAN_STATUS_PAGE 0 + 1) % 4096)

/-- R369–R373, R379–R381: where each command of the wide mailbox, the SMBus, the service port and the fuse completes, and
what it leaves. -/
def Obligations.AccessCommandsComplete : Prop :=
  (∀ (b : Fin 4) (block i : Nat) (w : WideItem) (s : State), (s.wideSel b 0 block i).wideItem b block i = some w →
    ∃ t, exec (.wideCapture b block i) s = .next t ∧ t.rd F.WIDE_STATUS_RESULT b = wrOK ∧
      t.rd F.WIDE_STATUS_VALID b = b2n w.value.isSome ∧ t.rd F.WIDE_STATUS_GEN b = s.gen % 2 ^ F.WIDE_STATUS_GEN.width ∧
      t.rd F.WIDE_STATUS_WIDTH b = w.width % 2 ^ F.WIDE_STATUS_WIDTH.width ∧
      ∀ v, w.value = some v → ∀ k : Fin 4, t.rd F.WIDE_DATA_DATA (4 * b + k) = bitsOf (w.word v) (32 * k) 32) ∧
  (∀ (m : Fin 20) (b block i : Nat) (w : WideItem) (s : State), bankOf m = some b →
    (s.wideSel b 1 block i).wideItem b block i = some w → w.rw = true → s.smbMasked m block = false →
    s.notOwned m block = false → w.fits (s.wideData b) = true → (block = 0x09 → i = 2 → t96Legal (s.wideData b) = true) →
    ∃ t, exec (.wideWrite m block i) s = .next t ∧ t.rd F.WIDE_STATUS_RESULT b = wrOK ∧
      t.rd F.GLOBAL_ACCESS_STATUS_RESULT b = ocOK ∧ t.tm = (s.wideApply block i (s.wideData b)).tm ∧
      t.flt = (s.wideApply block i (s.wideData b)).flt ∧ t.id_ = (s.wideApply block i (s.wideData b)).id_) ∧
  (∀ (sa : Nat) (data : List Nat) (pec : Option Nat) (s : State), s.smbHere sa = true → data.length = 8 →
    (∀ x, pec = some x → x = smbPec ([sa * 2, 0x10, 8] ++ data)) → s.at_.port = [] →
    ∃ t, exec (.smbBlockWrite sa 8 data pec) s = .next t ∧ t.out = .smbus (some []) :: s.out ∧ t.cp.queue =
      s.cp.queue ++ [{ master := 16, addr := beNat (data.take 4), value := beNat ((data.drop 4).take 4) }]) ∧
  (∀ (sa n : Nat) (data : List Nat) (pec : Option Nat) (s : State), s.smbHere sa = true → 1 ≤ n → n ≤ 8 →
    data.length = 4 + 4 * n → (∀ x, pec = some x → x = smbPec ([sa * 2, 0x11, 4 + 4 * n] ++ data)) → s.at_.port = [] →
    ∃ t, exec (.smbBlockWriteMulti sa (4 + 4 * n) data pec) s = .next t ∧ t.out = .smbus (some []) :: s.out ∧
      t.cp.queue.length = s.cp.queue.length + n ∧ ∀ k < n, t.cp.queue[s.cp.queue.length + k]? =
        some { master := 16, addr := beNat (data.take 4) + 4 * k, value := beNat ((data.drop (4 + 4 * k)).take 4) }) ∧
  (∀ (sa : Nat) (data : List Nat) (s : State), s.smbHere sa = true → data.length = 5 → 1 ≤ data.getD 4 0 →
    data.getD 4 0 ≤ 8 → (s.cp.queue.any fun w => w.master == 16) = false → ∃ t, exec (.smbBlockRead sa 5 data) s = .next t ∧
    t.out.head? = some (.smbus (some ((4 * data.getD 4 0) ::
      (s.readRun 16 (beNat (data.take 4)) (data.getD 4 0)).2.flatMap (beBytes 4))))) ∧
  (∀ (sa code : Nat) (s : State), s.smbHere sa = true → code ≠ 0x10 → code ≠ 0x11 → code ≠ 0x20 →
    ∃ t, exec (.smbBadCommand sa code) s = .next t ∧ t.out = .smbus none :: s.out ∧ t.rd F.GLOBAL_SMB_STATUS_NACKS 0 =
      satTo F.GLOBAL_SMB_STATUS_NACKS.width (s.rd F.GLOBAL_SMB_STATUS_NACKS 0 + 1)) ∧
  (∀ (pins shift : List Bool) (s : State), s.testMode = true → s.portOpen = true →
    ∃ t, exec (.extest pins shift) s = .next t ∧ t.rd F.IDENT_SP_STATUS_INSTRUCTION 0 = 0 ∧
      t.out = .tdo ((pins ++ shift).take shift.length) :: s.out ∧ t.id_.boundary = (pins ++ shift).drop shift.length) ∧
  (∀ (pins shift : List Bool) (s : State), s.portOpen = true → ∃ t, exec (.samplePreload pins shift) s = .next t ∧
    t.rd F.IDENT_SP_STATUS_INSTRUCTION 0 = 1 ∧ t.out = .tdo ((pins ++ shift).take shift.length) :: s.out ∧
    t.id_.boundary = (pins ++ shift).drop shift.length) ∧
  (∀ s : State, s.portOpen = true → ∃ t, exec .idcode s = .next t ∧ t.rd F.IDENT_SP_STATUS_INSTRUCTION 0 = 2 ∧
    t.out = .tdo ((List.range 32).map (bitOf (s.regRaw [F.IDENT_JTAG_ID_ONE, F.IDENT_JTAG_ID_MANUFACTURER,
      F.IDENT_JTAG_ID_PART, F.IDENT_JTAG_ID_VERSION] 0))) :: s.out) ∧
  (∀ (a v : Nat) (s : State), s.portOpen = true → s.rd F.IDENT_FUSE_FUSE_BUSY 0 = 0 →
    ∃ t, exec (.regacc true a v) s = .next t ∧ t.cp.queue = s.cp.queue ++ [{ master := 18, addr := a, value := v }] ∧
      t.out = .tdo ((List.range 32).map (bitOf s.id_.tapRead)) :: s.out ∧ t.rd F.IDENT_SP_STATUS_ACCESSES 0 =
        satTo F.IDENT_SP_STATUS_ACCESSES.width (s.rd F.IDENT_SP_STATUS_ACCESSES 0 + 1)) ∧
  (∀ (code : Nat) (shift : List Bool) (s : State), s.portOpen = true → ∃ t, exec (.bypass code shift) s = .next t ∧
    t.out = .tdo ((false :: shift).take shift.length) :: s.out ∧
    t.rd F.IDENT_SP_STATUS_INSTRUCTION 0 = code % 2 ^ F.IDENT_SP_STATUS_INSTRUCTION.width) ∧
  (∀ s : State, ∃ t, exec .tapReset s = .next t ∧ t.rd F.IDENT_SP_STATUS_INSTRUCTION 0 = 0xFF ∧ t.id_ = s.id_ ∧ t.out = s.out) ∧
  (∀ (m : Fin 20) (s : State), s.rd F.IDENT_FUSE_FUSE_BUSY 0 = 0 → s.fuseIntact = true → s.rd F.IDENT_FUSE_TEST_EN 0 = 1 →
    ∃ t, exec (.testModeEnter m 0x8416) s = .next t ∧ t.testMode = true) ∧
  (∀ s : State, s.rd F.IDENT_FUSE_FUSE_BUSY 0 = 0 → s.testMode = true → ∃ t, exec (.fuseBlow 0x8416) s = .next t ∧
    t.rd F.IDENT_FUSE_FUSE_BUSY 0 = 1 ∧ t.out = s.out) ∧
  (∀ s : State, s.rd F.IDENT_FUSE_FUSE_BUSY 0 = 1 → ∃ t, exec .fuseBlowDone s = .next t ∧
    t.rd F.IDENT_FUSE_FUSE_BUSY 0 = 0 ∧ t.rd F.IDENT_FUSE_FIELD_BLOWN 0 = 1 ∧ t.testMode = false ∧
    t.rd F.IDENT_SP_STATUS_INSTRUCTION 0 = 0xFF)

/-- R14–R34, R84: what each of these commands may change: the register fields and the parts of the state that the lists
    name, and
nothing else. Not among them: commitTick, provisionalTick, provisionalEpoch, decisionEpoch, which carry out register writes
(TicksEpochsAndReadsFrames says what they change where none wait). -/
def Obligations.BlockAndUnitFrames : Prop :=
  (∀ a0 a1 a2 s t, exec (.registerWrite a0 a1 a2) s = .next t → Changes [] [.cp] s t) ∧
  (∀ a0 s t, exec (.epochMiss a0) s = .next t → Changes faultFields (faultParts ++ [Part.ep]) s t) ∧
  (∀ s t, exec .serviceEpoch s = .next t → Changes (faultFields ++ [F.PORT_COUNTER_COUNT, F.SVC_COUNTER_COUNT,
    F.PEER_LANE_TX_COUNT, F.PEER_MSG_TX_COUNT]) (faultParts ++ [Part.tm, Part.sv, Part.pk]) s t) ∧
  (∀ s t, exec .modelEpoch s = .next t → Changes (faultFields ++ [F.TDC_CH_RATE_RATE, F.HOLD_STATUS_POINTS,
    F.HOLD_STATUS_HIST_POINTS, F.HOLD_STATUS_ENTRY_VALID, F.HOLD_STATUS_WARNED, F.HOLD_STATUS_OUT_OF_SPEC,
    F.HOLD_STATUS_C_FACTORY, F.HOLD_STATUS_MODEL, F.HOLD_ELAPSED_SECONDS, F.HOLD_TE_PRED_TE_NS, F.HOLD_REMAIN_SECONDS,
    F.PK_WINDOW_N_REV, F.PK_WINDOW_N_FWD, F.PEER_STATUS_CFG_MATCH, F.PEER_CFG_DIGEST_DIGEST, F.PEER_LANE_TX_COUNT,
    F.PEER_MSG_TX_COUNT]) (faultParts ++ [Part.tm, Part.dp, Part.td, Part.ql, Part.tr, Part.sy, Part.pk, Part.ep]) s t) ∧
  (∀ s t, exec .hourlyPoint s = .next t → Changes [F.HOLD_STATUS_POINTS, F.HOLD_STATUS_HIST_POINTS,
    F.HOLD_STATUS_ENTRY_VALID, F.HOLD_STATUS_C_FACTORY, F.HOLD_STATUS_MODEL] [.tm, .dp, .at_, .recs, .bytes] s t) ∧
  (∀ a0 a1 s t, exec (.vfabUpdate a0 a1) s = .next t → Changes (faultFields ++ [F.GLOBAL_FABRIC_SLACK_PCT,
    F.GLOBAL_FABRIC_VFAB_MV]) faultParts s t) ∧
  (∀ a0 a1 a2 a3 a4 a5 s t, exec (.mergerRecordIn a0 a1 a2 a3 a4 a5) s = .next t → Changes (faultFields ++
    [F.EVT_VF_CFG_DROPS, F.EVT_STATUS_LAST_SEQ, F.EVT_STATUS_LATE_SEEN, F.EVT_STATUS_WRAPPED, F.EVT_LEVEL_HELD,
    F.EVT_EMITTED_COUNT, F.EVT_DROPPED_COUNT, F.EVT_LATE_COUNT_COUNT, F.EVT_OLDEST_SEQ_SEQ, F.EVT_MERGE_MAX_DELAY_NS,
    F.ATTIC_LOG_STATUS_LAP, F.ATTIC_LOG_STATUS_PENDING, F.ATTIC_LOG_STATUS_NEXT_PAGE, F.ATTIC_LOG_DROPPED_COUNT])
    (faultParts ++ [Part.at_, Part.recs, Part.bytes]) s t) ∧
  (∀ s t, exec .mergerRelease s = .next t → Changes (faultFields ++ [F.EVT_VF_CFG_DROPS, F.EVT_STATUS_LAST_SEQ,
    F.EVT_STATUS_LATE_SEEN, F.EVT_STATUS_WRAPPED, F.EVT_LEVEL_HELD, F.EVT_EMITTED_COUNT, F.EVT_DROPPED_COUNT,
    F.EVT_LATE_COUNT_COUNT, F.EVT_OLDEST_SEQ_SEQ, F.ATTIC_LOG_STATUS_LAP, F.ATTIC_LOG_STATUS_PENDING,
    F.ATTIC_LOG_STATUS_NEXT_PAGE, F.ATTIC_LOG_DROPPED_COUNT]) (faultParts ++ [Part.at_, Part.recs, Part.bytes]) s t) ∧
  (∀ a0 s t, exec (.unitOp a0) s = .next t → Changes (unitFields ++ [F.ADMIN_STATUS_EXECUTED]) unitParts s t) ∧
  (∀ a0 a1 s t, exec (.unitReset a0 a1) s = .next t → Changes (unitFields ++ [F.GLOBAL_UNIT_RESULT_UNIT_STATUS,
    F.GLOBAL_UNIT_RESULT_CODE, F.GLOBAL_UNIT_RESULT_BUSY]) unitParts s t) ∧
  (∀ a0 a1 s t, exec (.unitRetire a0 a1) s = .next t → Changes (unitFields ++ [F.GLOBAL_UNIT_RESULT_UNIT_STATUS,
    F.GLOBAL_UNIT_RESULT_CODE, F.GLOBAL_UNIT_RESULT_BUSY]) unitParts s t) ∧
  (∀ a0 a1 s t, exec (.unitIsolate a0 a1) s = .next t → Changes (unitFields ++ [F.GLOBAL_UNIT_RESULT_UNIT_STATUS,
    F.GLOBAL_UNIT_RESULT_CODE, F.GLOBAL_UNIT_RESULT_BUSY]) unitParts s t) ∧
  (∀ a0 a1 s t, exec (.unitRelease a0 a1) s = .next t → Changes (unitFields ++ [F.GLOBAL_UNIT_RESULT_UNIT_STATUS,
    F.GLOBAL_UNIT_RESULT_CODE, F.GLOBAL_UNIT_RESULT_BUSY]) unitParts s t) ∧
  (∀ a0 a1 s t, exec (.unitUnretire a0 a1) s = .next t → Changes (unitFields ++ [F.GLOBAL_UNIT_RESULT_UNIT_STATUS,
    F.GLOBAL_UNIT_RESULT_CODE, F.GLOBAL_UNIT_RESULT_BUSY]) unitParts s t) ∧
  (∀ a0 a1 s t, exec (.unitStatus a0 a1) s = .next t → Changes [F.GLOBAL_UNIT_RESULT_CODE,
    F.GLOBAL_UNIT_RESULT_UNIT_STATUS] [] s t) ∧
  (∀ a0 s t, exec (.unitBackInService a0) s = .next t → Changes (faultFields ++ [F.DP_STATUS_LOCKSTEP_HELD,
    F.DP_STATUS_EVER_LOCKED, F.DP_STATUS_LOCK_OK, F.DP_STATUS_RANGE, F.DP_STATUS_SLOPE_LIMITED, F.DP_STATUS_SLEWING,
    F.DP_STATUS_HELD, F.DP_STATUS_STATE, F.DP_COUNTS_HOLDOVERS, F.HOLD_STATUS_OUT_OF_SPEC, F.HOLD_STATUS_IN_HOLDOVER,
    F.HOLD_ELAPSED_SECONDS, F.HOLD_REMAIN_SECONDS, F.OUT_SHUTTERS_COUNT, F.BR_STATUS_STATE]) (faultParts ++ [Part.un,
    Part.dp,
    Part.at_, Part.sy, Part.bytes]) s t) ∧
  (∀ s t, exec .ownUnitReset s = .next t → Changes (faultFields ++ pageFields ++ [F.FEED_STATUS_OC, F.FEED_STATUS_STATE,
    F.POWER_STATUS_REDUNDANT, F.CLK_MON_STATUS_QUALIFIED, F.CLK_MUX_STATUS_GATED, F.CLK_MUX_STATUS_PENDING,
    F.CLK_MUX_STATUS_INPUT, F.CLK_BASE_STATUS_APLL0_LOCKED, F.CLK_BASE_STATUS_TK_ON_PATH, F.CLK_BASE_STATUS_MOVING,
    F.CLK_BASE_STATUS_MOVE_PENDING, F.CLK_BASE_STATUS_BASE, F.CLK_TCXO_STATUS_AMPLITUDE, F.CLK_TCXO_STATUS_QUALIFIED,
    F.CLK_TCXO_STATUS_QUALIFYING, F.CLK_TCXO_STATUS_RETIRED, F.CLK_TCXO_STATUS_ATTEMPTS, F.CLK_OCXO_STATUS_STATE,
    F.CLK_OCXO_STATUS_ATTEMPTS, F.CLK_OCXO_STATUS_FREQ_STABLE, F.CLK_OCXO_STATUS_WARM, F.CLK_OCXO_WARM_TIME_TIME,
    F.CLK_PILOT_FREQ_HZ, F.CLK_STAGE_STATUS_STAGE, F.CLK_STAGE_STATUS_LAST_DOWN_CAUSE, F.CLK_XING_STATUS_STATE,
    F.IN_FILTER_GLITCHES, F.IN_EDGES_COUNT, F.TDC_CH_STATUS_LINE, F.TDC_CH_STATUS_DROPPING, F.TDC_CH_STATUS_STALLED,
    F.TDC_CH_FIFO_LEVEL, F.TDC_CH_FIFO_HIGH_WATER, F.TDC_CH_CAL_VALID, F.TDC_CH_CAL_FULL, F.TDC_CH_CAL_FAILED,
    F.EST_STATUS_STATE, F.TAKE_STATUS_INCOMPLETE, F.QM_STATUS_STATE, F.QM_STATUS_FROZEN, F.QM_STATUS_CAUSE,
    F.QM_STATUS_CAUSES, F.QM_COUNTS_IN_WINDOW, F.DP_STATUS_LOCKSTEP_HELD, F.OUT_SHUTTERS_COUNT, F.APLL_STATUS_LOCKED,
    F.APLL_COUNTS_UNLOCKS, F.SYNTH_DEG_STATUS_DEGRADED, F.SYNTH_DEG_STATUS_COUNT, F.TIME_STATUS_VALID,
    F.TIME_VOTE_STATUS_NO_MAJORITY, F.PORT_STATUS_LINK_UP, F.PORT_STATUS_CDR_LOCK, F.PORT_STATUS_BLOCK_LOCK,
    F.PORT_STATUS_FEC_LOCK, F.PORT_STATUS_AN_DONE, F.PORT_COUNTER_COUNT, F.BR_STATUS_STATE, F.PK_STATUS_ANN_GRANTED,
    F.PK_STATUS_DRESP_GRANTED, F.PK_STATUS_SYNC_GRANTED, F.PK_STATUS_STATE, F.PK_WINDOW_SPREAD_NS, F.PK_WINDOW_N_REV,
    F.PK_WINDOW_N_FWD, F.HOST_STATUS_ADMIN_VER, F.HOST_CUE_STORE_HIGH_WATER, F.PEER_STATUS_VERSION,
    F.PEER_STATUS_LINK_STATE, F.PEER_LANE_STATUS_UP, F.PEER_LANE_STATUS_SIGNAL, F.PEER_LANE_STATUS_ALIGNED,
    F.GLOBAL_STAGE_CHANGES, F.GLOBAL_OWNER_OWNER0, F.GLOBAL_OWNER_OWNER1, F.GLOBAL_OWNER_OWNER2, F.GLOBAL_OWNER_OWNER3])
    (faultParts ++ [Part.un, Part.tm, Part.pw, Part.ck, Part.dp, Part.at_, Part.td, Part.ql, Part.tr, Part.sy, Part.po,
    Part.pk, Part.ep]) s t) ∧
  (∀ a0 a1 s t, exec (.announceToken a0 a1) s = .next t → Changes [F.CLK_XING_STATUS_STATE, F.CLK_XING_STATUS_GENERATION]
    [.ev] s t)

/-- R46–R59: what each of these commands may change: the register fields and the parts of the state that the lists name, and
nothing else. Not among them: resetNLow and railsGood, which are full resets (FullResetLeaves), and bootReadDone, which
    carries
out the boot records' writes; of porchPowerOn, whose fields another statement gives, the parts beside the registers. -/
def Obligations.PowerFrames : Prop :=
  (∀ a0 a1 a2 a3 s t, exec (.feedSample a0 a1 a2 a3) s = .next t → Changes [F.FEED_STATUS_IN_WINDOW, F.FEED_STATUS_UV,
    F.FEED_STATUS_OV, F.FEED_STATUS_REVERSED, F.FEED_STATUS_DROPOUT, F.FEED_STATUS_CARRYING, F.FEED_STATUS_UV_WARN,
    F.FEED_STATUS_STATE, F.FEED_VIN_VIN_MV, F.FEED_IIN_IIN_MA, F.FEED_PIN_PIN_MW, F.POWER_STATUS_REDUNDANT,
    F.POWER_TEST_RESULT_MIN_VIN, F.POWER_PIN_TOTAL_PIN_MW] [.ev, .pw] s t) ∧
  (∀ a0 s t, exec (.feedQualified a0) s = .next t → Changes [F.FEED_STATUS_STATE, F.POWER_STATUS_REDUNDANT] [.ev] s t) ∧
  (∀ a0 s t, exec (.feedDropout a0) s = .next t → Changes [F.FEED_STATUS_IN_WINDOW, F.FEED_STATUS_UV,
    F.FEED_STATUS_DROPOUT, F.FEED_DROPOUTS_COUNT] [] s t) ∧
  (∀ a0 s t, exec (.feedUvFault a0) s = .next t → Changes (faultFields ++ [F.FEED_STATUS_DROPOUT, F.FEED_STATUS_STATE,
    F.FEED_FAULTS_COUNT, F.FEED_LAST_CAUSE_CAUSE, F.POWER_STATUS_PWR_FAIL, F.POWER_STATUS_REDUNDANT,
    F.POWER_STATUS_TEST_ACTIVE, F.POWER_TEST_RESULT_RESULT, F.POWER_TEST_RESULT_LAST_FEED]) (faultParts ++ [Part.pw,
    Part.at_,
    Part.bytes]) s t) ∧
  (∀ a0 s t, exec (.feedOv a0) s = .next t → Changes (faultFields ++ [F.FEED_STATUS_IN_WINDOW, F.FEED_STATUS_OV,
    F.FEED_STATUS_DROPOUT, F.FEED_STATUS_STATE, F.FEED_FAULTS_COUNT, F.FEED_LAST_CAUSE_CAUSE, F.POWER_STATUS_PWR_FAIL,
    F.POWER_STATUS_REDUNDANT, F.POWER_STATUS_TEST_ACTIVE, F.POWER_TEST_RESULT_RESULT, F.POWER_TEST_RESULT_LAST_FEED])
    (faultParts ++ [Part.pw, Part.at_, Part.bytes]) s t) ∧
  (∀ a0 s t, exec (.feedOc a0) s = .next t → Changes (faultFields ++ [F.FEED_STATUS_OC, F.FEED_STATUS_DROPOUT,
    F.FEED_STATUS_STATE, F.FEED_FAULTS_COUNT, F.FEED_LAST_CAUSE_CAUSE, F.POWER_STATUS_PWR_FAIL, F.POWER_STATUS_REDUNDANT,
    F.POWER_STATUS_TEST_ACTIVE, F.POWER_TEST_RESULT_RESULT, F.POWER_TEST_RESULT_LAST_FEED]) (faultParts ++ [Part.pw,
    Part.at_,
    Part.bytes]) s t) ∧
  (∀ a0 s t, exec (.feedRecover a0) s = .next t → Changes [F.FEED_STATUS_OC, F.FEED_STATUS_STATE, F.POWER_STATUS_REDUNDANT]
    [.ev] s t) ∧
  (∀ s t, exec .feedTestA s = .next t → Changes [F.FEED_STATUS_STATE, F.POWER_STATUS_REDUNDANT, F.POWER_STATUS_TEST_ACTIVE,
    F.POWER_TEST_RESULT_MIN_VIN, F.POWER_TEST_RESULT_RESULT, F.POWER_TEST_RESULT_LAST_FEED] [.ev] s t) ∧
  (∀ s t, exec .feedTestB s = .next t → Changes [F.FEED_STATUS_STATE, F.POWER_STATUS_REDUNDANT, F.POWER_STATUS_TEST_ACTIVE,
    F.POWER_TEST_RESULT_MIN_VIN, F.POWER_TEST_RESULT_RESULT, F.POWER_TEST_RESULT_LAST_FEED] [.ev] s t) ∧
  (∀ s t, exec .feedTestPeriod s = .next t → Changes [F.FEED_STATUS_STATE, F.POWER_STATUS_REDUNDANT,
    F.POWER_STATUS_TEST_ACTIVE, F.POWER_TEST_RESULT_MIN_VIN, F.POWER_TEST_RESULT_RESULT, F.POWER_TEST_RESULT_LAST_FEED]
    [.ev, .pw] s t) ∧
  (∀ a0 a1 s t, exec (.feedTestEnd a0 a1) s = .next t → Changes (faultFields ++ [F.FEED_STATUS_STATE,
    F.POWER_STATUS_REDUNDANT, F.POWER_STATUS_TEST_ACTIVE, F.POWER_STATUS_HOLDUP_LOW, F.POWER_TEST_RESULT_MIN_VIN,
    F.POWER_TEST_RESULT_RESULT, F.POWER_TEST_RESULT_LAST_FEED, F.POWER_HOLDUP_BANK_V, F.POWER_HOLDUP_HOLDUP_US])
    (faultParts ++ [Part.pw]) s t) ∧
  (∀ a0 s t, exec (.feedTestFail a0) s = .next t → Changes (faultFields ++ [F.FEED_STATUS_DROPOUT, F.FEED_STATUS_STATE,
    F.FEED_FAULTS_COUNT, F.FEED_LAST_CAUSE_CAUSE, F.POWER_STATUS_PWR_FAIL, F.POWER_STATUS_REDUNDANT,
    F.POWER_STATUS_TEST_ACTIVE, F.POWER_TEST_RESULT_RESULT, F.POWER_TEST_RESULT_LAST_FEED]) (faultParts ++ [Part.pw,
    Part.at_,
    Part.bytes]) s t) ∧
  (∀ a0 a1 s t, exec (.lastGasp a0 a1) s = .next t → Changes [F.ATTIC_LOG_STATUS_LAP, F.ATTIC_LOG_STATUS_PENDING,
    F.ATTIC_LOG_STATUS_NEXT_PAGE, F.ATTIC_LAST_COMMIT_OUTCOME] [.at_, .freeCtr, .recs, .bytes, .archive] s t) ∧
  (∀ s t, exec .railOff s = .next t → Changes [F.FEED_STATUS_STATE, F.POWER_STATUS_RAILS_GOOD, F.POWER_STATUS_REDUNDANT,
    F.POWER_LOSS_COUNT_COUNT, F.CLK_STAGE_STATUS_STAGE, F.CLK_STAGE_STATUS_LAST_DOWN_CAUSE, F.QM_STATUS_STATE,
    F.QM_STATUS_CAUSE, F.PORCH_STATUS_TRACE_COUNT, F.PORCH_STATUS_TRACE_NEXT, F.PORCH_TRACE_WORD, F.PEER_STATUS_CLAIM_OUT,
    F.PEER_STATUS_PAIR_STATE, F.GLOBAL_STAGE_CHANGES] [.ev, .un, .tm, .pr, .pw, .ck, .at_, .ql, .tr, .freeCtr] s t) ∧
  (∀ a0 s t, exec (.railOffRestart a0) s = .next t → Changes [F.FEED_STATUS_STATE, F.POWER_STATUS_REDUNDANT] [.ev] s t) ∧
  (∀ a0 a1 a2 a3 a4 a5 s t, exec (.thermalSample a0 a1 a2 a3 a4 a5) s = .next t → Changes (faultFields ++
    [F.POWER_STATUS_VBAT_PRESENT, F.POWER_STATUS_VBAT_LOW, F.POWER_STATUS_PLATE_HOT, F.POWER_RAIL_V_MV,
    F.POWER_RAIL_V_VALID, F.POWER_RAIL_I_MA, F.POWER_RAIL_I_VALID, F.POWER_TEMP_PLATE_TEMP, F.POWER_TEMP_DIE_TEMP,
    F.POWER_TEMP_OCXO_TEMP, F.POWER_VBAT_MV]) (faultParts ++ [Part.pw, Part.at_]) s t) ∧
  (∀ s t, exec .thermalTrip s = .next t → Changes (faultFields ++ [F.POWER_STATUS_PWR_FAIL]) (faultParts ++ [Part.pw,
    Part.at_,
    Part.bytes]) s t) ∧
  (∀ a0 s t, exec (.thermalRestart a0) s = .next t → Changes [] [.pw] s t) ∧
  (∀ a0 a1 s t, exec (.railFault a0 a1) s = .next t → Changes faultFields faultParts s t) ∧
  (∀ a0 s t, exec (.vbatLow a0) s = .next t → Changes [F.POWER_STATUS_VBAT_LOW, F.POWER_VBAT_MV,
    F.PORCH_STATUS_TRACE_COUNT, F.PORCH_STATUS_TRACE_NEXT, F.PORCH_TRACE_WORD] [.ev, .tm, .freeCtr] s t) ∧
  (∀ a0 s t, exec (.resetNRelease a0) s = .next t → Changes (faultFields ++ [F.PEER_STRAPS_SLOT, F.PEER_STRAPS_SOLE,
    F.PEER_STRAPS_CLAIM_IN_P, F.PEER_STRAPS_CLAIM_IN_N, F.FLT_INJECT_CTRL_BREAK, F.FLT_INJECT_STATUS_COUNT,
    F.FLT_WIRE_COUNT_COUNT, F.GLOBAL_STRAPS_SLOT, F.GLOBAL_STRAPS_ADDR0, F.GLOBAL_STRAPS_ADDR1, F.GLOBAL_STRAPS_TEST_EN,
    F.GLOBAL_STRAPS_PMBUS_ADDR, F.GLOBAL_STRAPS_SMB_ADDR, F.IDENT_FUSE_TEST_EN, F.IDENT_FUSE_TEST_MODE]) (faultParts ++
    [Part.pw]) s t) ∧
  (∀ s t, exec .porchPowerOn s = .next t → ∀ p : Part, p ≠ .tm → p.same s t)

/-- R60–R86: what each of these commands may change: the register fields and the parts of the state that the lists name, and
nothing else. -/
def Obligations.PmbusAndClockFrames : Prop :=
  (∀ a0 s t, exec (.pmbusPage a0) s = .next t → Changes [] [.pw, .out] s t) ∧
  (∀ s t, exec .pmbusCapability s = .next t → Changes [] [.pw, .out] s t) ∧
  (∀ s t, exec .pmbusStatusWord s = .next t → Changes [] [.pw, .out] s t) ∧
  (∀ s t, exec .pmbusStatusInput s = .next t → Changes [] [.pw, .out, .freeCtr] s t) ∧
  (∀ s t, exec .pmbusStatusTemperature s = .next t → Changes [] [.pw, .out, .freeCtr] s t) ∧
  (∀ s t, exec .pmbusReadVin s = .next t → Changes [] [.pw, .out, .freeCtr] s t) ∧
  (∀ s t, exec .pmbusReadIin s = .next t → Changes [] [.pw, .out, .freeCtr] s t) ∧
  (∀ s t, exec .pmbusReadTemperature1 s = .next t → Changes [] [.pw, .out, .freeCtr] s t) ∧
  (∀ s t, exec .pmbusReadTemperature2 s = .next t → Changes [] [.pw, .out, .freeCtr] s t) ∧
  (∀ s t, exec .pmbusReadTemperature3 s = .next t → Changes [] [.pw, .out, .freeCtr] s t) ∧
  (∀ s t, exec .pmbusReadPin s = .next t → Changes [] [.pw, .out, .freeCtr] s t) ∧
  (∀ s t, exec .pmbusRevision s = .next t → Changes [] [.pw, .out] s t) ∧
  (∀ s t, exec .pmbusMfrId s = .next t → Changes [] [.pw, .out] s t) ∧
  (∀ s t, exec .pmbusMfrModel s = .next t → Changes [] [.pw, .out, .freeCtr] s t) ∧
  (∀ s t, exec .pmbusUnsupported s = .next t → Changes [] [.pw, .out] s t) ∧
  (∀ s t, exec .alertResponse s = .next t → Changes [] [.pw, .out] s t) ∧
  (∀ a0 s t, exec (.oscAmplitudeTimeout a0) s = .next t → Changes (faultFields ++ [F.CLK_TCXO_STATUS_AMPLITUDE,
    F.CLK_TCXO_STATUS_QUALIFIED, F.CLK_TCXO_STATUS_QUALIFYING, F.CLK_TCXO_STATUS_RETIRED, F.CLK_TCXO_STATUS_LAST_FAIL,
    F.CLK_TCXO_STATUS_ATTEMPTS, F.CLK_OCXO_STATUS_STATE, F.CLK_OCXO_STATUS_LAST_FAIL, F.CLK_OCXO_STATUS_ATTEMPTS])
    (faultParts ++ [Part.un, Part.ck]) s t) ∧
  (∀ a0 a1 s t, exec (.oscCountDone a0 a1) s = .next t → Changes (faultFields ++ [F.CLK_MON_STATUS_QUALIFIED,
    F.CLK_MUX_STATUS_PENDING, F.CLK_TCXO_STATUS_AMPLITUDE, F.CLK_TCXO_STATUS_QUALIFIED, F.CLK_TCXO_STATUS_QUALIFYING,
    F.CLK_TCXO_STATUS_RETIRED, F.CLK_TCXO_STATUS_LAST_FAIL, F.CLK_TCXO_STATUS_ATTEMPTS, F.CLK_OCXO_STATUS_STATE,
    F.CLK_OCXO_STATUS_LAST_FAIL, F.CLK_OCXO_STATUS_ATTEMPTS]) (faultParts ++ [Part.un, Part.ck]) s t) ∧
  (∀ s t, exec .ocxoTempSettled s = .next t → Changes [F.CLK_OCXO_STATUS_TEMP_SETTLED] [] s t) ∧
  (∀ a0 s t, exec (.ocxoWarm a0) s = .next t → Changes (faultFields ++ [F.CLK_MUX_STATUS_PENDING,
    F.CLK_BASE_STATUS_MOVE_PENDING, F.CLK_OCXO_STATUS_FREQ_STABLE, F.CLK_OCXO_STATUS_WARM, F.CLK_OCXO_WARM_TIME_TIME])
    (faultParts ++ [Part.un, Part.ck, Part.at_, Part.bytes]) s t) ∧
  (∀ s t, exec .ocxoWarmTimeout s = .next t → Changes faultFields (faultParts ++ [Part.ck]) s t) ∧
  (∀ a0 a1 s t, exec (.clockMonWindow a0 a1) s = .next t → Changes (faultFields ++ [F.CLK_MON_STATUS_ACTIVE,
    F.CLK_MON_STATUS_QUALIFIED, F.CLK_MON_STATUS_TRIPPED, F.CLK_MON_STATUS_GATED, F.CLK_MON_STATUS_AGAINST,
    F.CLK_MON_OFFSET_OFFSET, F.CLK_MON_TRIPS_COUNT, F.CLK_MUX_STATUS_GATED, F.CLK_MUX_STATUS_PENDING,
    F.CLK_MUX_STATUS_INPUT, F.CLK_BASE_STATUS_APLL0_LOCKED, F.CLK_BASE_STATUS_TK_ON_PATH, F.CLK_BASE_STATUS_MOVING,
    F.CLK_BASE_STATUS_MOVE_PENDING, F.CLK_BASE_STATUS_BASE, F.CLK_TCXO_STATUS_AMPLITUDE, F.CLK_TCXO_STATUS_QUALIFIED,
    F.CLK_TCXO_STATUS_QUALIFYING, F.CLK_TCXO_STATUS_RETIRED, F.CLK_OCXO_STATUS_STATE, F.CLK_OCXO_STATUS_FREQ_STABLE,
    F.CLK_OCXO_STATUS_WARM, F.CLK_OCXO_WARM_TIME_TIME, F.CLK_PILOT_FREQ_HZ, F.CLK_STAGE_STATUS_STAGE,
    F.CLK_STAGE_STATUS_LAST_DOWN_CAUSE, F.CLK_XING_STATUS_STATE, F.QM_STATUS_STATE, F.QM_STATUS_CAUSE,
    F.OUT_SHUTTERS_COUNT, F.APLL_STATUS_LOCKED, F.APLL_COUNTS_UNLOCKS, F.SYNTH_DEG_STATUS_DEGRADED,
    F.SYNTH_DEG_STATUS_COUNT, F.TIME_STATUS_VALID, F.PORCH_STATUS_CRYSTAL_OK, F.GLOBAL_STAGE_CHANGES]) (faultParts ++
    [Part.un,
    Part.tm, Part.ck, Part.dp, Part.at_, Part.td, Part.ql, Part.tr, Part.sy]) s t) ∧
  (∀ a0 s t, exec (.clockMonMiss a0) s = .next t → Changes (faultFields ++ [F.CLK_MON_STATUS_ACTIVE,
    F.CLK_MON_STATUS_QUALIFIED, F.CLK_MON_STATUS_TRIPPED, F.CLK_MON_STATUS_GATED, F.CLK_MON_TRIPS_COUNT,
    F.CLK_MUX_STATUS_GATED, F.CLK_MUX_STATUS_PENDING, F.CLK_MUX_STATUS_INPUT, F.CLK_BASE_STATUS_APLL0_LOCKED,
    F.CLK_BASE_STATUS_TK_ON_PATH, F.CLK_BASE_STATUS_MOVING, F.CLK_BASE_STATUS_MOVE_PENDING, F.CLK_BASE_STATUS_BASE,
    F.CLK_TCXO_STATUS_AMPLITUDE, F.CLK_TCXO_STATUS_QUALIFIED, F.CLK_TCXO_STATUS_QUALIFYING, F.CLK_TCXO_STATUS_RETIRED,
    F.CLK_OCXO_STATUS_STATE, F.CLK_OCXO_STATUS_FREQ_STABLE, F.CLK_OCXO_STATUS_WARM, F.CLK_OCXO_WARM_TIME_TIME,
    F.CLK_PILOT_FREQ_HZ, F.CLK_STAGE_STATUS_STAGE, F.CLK_STAGE_STATUS_LAST_DOWN_CAUSE, F.CLK_XING_STATUS_STATE,
    F.QM_STATUS_STATE, F.QM_STATUS_CAUSE, F.OUT_SHUTTERS_COUNT, F.APLL_STATUS_LOCKED, F.APLL_COUNTS_UNLOCKS,
    F.SYNTH_DEG_STATUS_DEGRADED, F.SYNTH_DEG_STATUS_COUNT, F.TIME_STATUS_VALID, F.PORCH_STATUS_CRYSTAL_OK,
    F.GLOBAL_STAGE_CHANGES]) (faultParts ++ [Part.un, Part.tm, Part.ck, Part.dp, Part.at_, Part.td, Part.ql, Part.tr,
    Part.sy]) s t) ∧
  (∀ s t, exec .baseMove s = .next t → Changes [F.CLK_MUX_STATUS_GATED, F.CLK_MUX_STATUS_PENDING, F.CLK_MUX_STATUS_INPUT,
    F.CLK_BASE_STATUS_APLL0_LOCKED, F.CLK_BASE_STATUS_TK_ON_PATH, F.CLK_BASE_STATUS_MOVING, F.CLK_BASE_STATUS_MOVE_PENDING,
    F.CLK_XING_STATUS_STATE, F.OUT_SHUTTERS_COUNT, F.APLL_STATUS_LOCKED, F.TIME_STATUS_VALID] [.ev, .tm, .ck, .dp, .td,
    .sy] s t) ∧
  (∀ s t, exec .baseMoveEnd s = .next t → Changes [F.CLK_BASE_STATUS_MOVING, F.CLK_STAGE_STATUS_STAGE,
    F.CLK_STAGE_STATUS_LAST_DOWN_CAUSE, F.QM_STATUS_STATE, F.QM_STATUS_CAUSE, F.PEER_STATUS_CLAIM_OUT,
    F.PEER_STATUS_PAIR_STATE, F.GLOBAL_STAGE_CHANGES] [.ev, .un, .pr, .ck, .at_, .ql, .tr] s t) ∧
  (∀ a0 a1 s t, exec (.muxSwitch a0 a1) s = .next t → Changes [F.CLK_MUX_STATUS_STALLED, F.CLK_MUX_STATUS_GATED,
    F.CLK_MUX_STATUS_PENDING, F.CLK_MUX_STATUS_INPUT, F.CLK_MUX_SWITCHES_COUNT, F.CLK_MUX_LAST_LEN,
    F.CLK_BASE_STATUS_TK_ON_PATH, F.CLK_BASE_STATUS_BASE] [.ev, .tm, .ck] s t) ∧
  (∀ a0 s t, exec (.muxForced a0) s = .next t → Changes [F.CLK_MUX_FORCED_COUNT] [.ev] s t) ∧
  (∀ a0 s t, exec (.muxStall a0) s = .next t → Changes (faultFields ++ [F.CLK_MUX_STATUS_STALLED, F.CLK_MUX_STATUS_GATED,
    F.CLK_MUX_STATUS_PENDING, F.CLK_MUX_STATUS_INPUT, F.CLK_MUX_LAST_LEN, F.CLK_BASE_STATUS_TK_ON_PATH,
    F.CLK_BASE_STATUS_BASE, F.CLK_XING_STATUS_STATE, F.TIME_STATUS_VALID]) (faultParts ++ [Part.tm, Part.ck]) s t) ∧
  (∀ s t, exec .stage3HoldoffEnd s = .next t → Changes [F.CLK_STAGE_STATUS_STAGE, F.CLK_STAGE_STATUS_LAST_DOWN_CAUSE,
    F.QM_STATUS_STATE, F.QM_STATUS_CAUSE, F.PEER_STATUS_CLAIM_OUT, F.PEER_STATUS_PAIR_STATE, F.GLOBAL_STAGE_CHANGES] [.ev,
    .un, .pr, .ck, .at_, .ql, .tr] s t)

/-- R88–R112: what each of these commands may change: the register fields and the parts of the state that the lists name,
    and
nothing else. -/
def Obligations.TdcFrames : Prop :=
  (∀ a0 a1 a2 a3 a4 a5 s t, exec (.edgeStamp a0 a1 a2 a3 a4 a5) s = .next t → Changes (faultFields ++
    [F.IN_FILTER_GLITCHES, F.IN_EDGES_COUNT, F.TDC_CH_OVERRUN_COUNT, F.TDC_CH_SKIPS_COUNT, F.TDC_CH_FIFO_LEVEL,
    F.TDC_CH_FIFO_HIGH_WATER, F.TAKE_STATUS_INCOMPLETE, F.QM_STATUS_FROZEN, F.QM_COUNTS_PHASE_HITS, F.QUAL_FREEZES_COUNT,
    F.DP_STATUS_EVER_LOCKED, F.DP_STATUS_LOCK_OK, F.DP_STATUS_SLOPE_LIMITED, F.DP_STATUS_STATE, F.DP_COUNTS_HOLDOVERS,
    F.HOLD_STATUS_OUT_OF_SPEC, F.HOLD_STATUS_IN_HOLDOVER, F.HOLD_ELAPSED_SECONDS, F.HOLD_REMAIN_SECONDS]) (faultParts ++
    [Part.tm, Part.dp, Part.at_, Part.td, Part.ql, Part.sy, Part.bytes]) s t) ∧
  (∀ a0 s t, exec (.stampDistribute a0) s = .next t → Changes [F.TDC_CH_STAMPS_COUNT, F.TDC_CH_FIFO_LEVEL,
    F.TAKE_STATUS_INCOMPLETE, F.TAKE_STATUS_DEGRADED, F.TAKE_STATUS_ORDER_SEEN, F.TAKE_STATUS_SUB_BIN_SEEN,
    F.TAKE_STATUS_DISCARDS, F.TAKE_COUNT_RECORDS, F.HOST_MSIX_SENT_COUNT] [.dp, .td, .ql, .sy, .hs, .out] s t) ∧
  (∀ a0 a1 a2 a3 a4 a5 a6 s t, exec (.calTableReady a0 a1 a2 a3 a4 a5 a6) s = .next t → Changes (faultFields ++
    [F.TDC_CH_STATUS_LINE, F.TDC_CH_BIN_BIN, F.TDC_CH_BIN_TAPS, F.TDC_CH_CAL_FULL, F.TDC_CH_CAL_FAILED,
    F.TDC_CH_CAL_DNL_MAX, F.TDC_CH_CAL_INL_MAX]) (faultParts ++ [Part.td]) s t) ∧
  (∀ a0 s t, exec (.calValid a0) s = .next t → Changes [F.TDC_CH_CAL_VALID] [.td] s t) ∧
  (∀ a0 s t, exec (.calRescaleDone a0) s = .next t → Changes [] [.td] s t) ∧
  (∀ a0 s t, exec (.gateEnd a0) s = .next t → Changes [F.EST_STATUS_STATE] [.tm, .td] s t) ∧
  (∀ a0 s t, exec (.estimatePublish a0) s = .next t → Changes [F.EST_STATUS_INCOMPLETE, F.EST_STATUS_DEGRADED,
    F.EST_STATUS_CAPPED, F.EST_STATUS_RESULT, F.EST_COUNT_N, F.EST_OFFSET_OFFSET, F.EST_RESID_RESID, F.EST_SEQ_SEQ] [.ev,
    .td, .ql] s t) ∧
  (∀ a0 s t, exec (.estStart a0) s = .next t → Changes [F.EST_STATUS_RESULT, F.EST_STATUS_STATE, F.EST_SEQ_SEQ] [.td] s t) ∧
  (∀ a0 s t, exec (.estStop a0) s = .next t → Changes [F.EST_STATUS_STATE] [.td] s t) ∧
  (∀ a0 s t, exec (.takeArm a0) s = .next t → Changes [F.TAKE_STATUS_INCOMPLETE, F.TAKE_STATUS_DEGRADED,
    F.TAKE_STATUS_ORDER_SEEN, F.TAKE_STATUS_SUB_BIN_SEEN, F.TAKE_STATUS_RESULT, F.TAKE_STATUS_STATE,
    F.TAKE_STATUS_DISCARDS, F.TAKE_COUNT_RECORDS] [.td] s t) ∧
  (∀ a0 s t, exec (.takeAbort a0) s = .next t → Changes [F.TAKE_STATUS_INCOMPLETE, F.TAKE_STATUS_RESULT,
    F.TAKE_STATUS_STATE, F.TAKE_COUNT_RECORDS, F.HOST_MSIX_SENT_COUNT] [.ev, .td, .hs, .out] s t) ∧
  (∀ a0 a1 a2 s t, exec (.gatePinEdge a0 a1 a2) s = .next t → Changes [F.TAKE_STATUS_INCOMPLETE, F.TAKE_STATUS_DEGRADED,
    F.TAKE_STATUS_ORDER_SEEN, F.TAKE_STATUS_SUB_BIN_SEEN, F.TAKE_STATUS_RESULT, F.TAKE_STATUS_STATE,
    F.TAKE_STATUS_DISCARDS, F.TAKE_COUNT_RECORDS, F.HOST_MSIX_SENT_COUNT] [.ev, .tm, .td, .hs, .out] s t) ∧
  (∀ a0 s t, exec (.takeGateEnd a0) s = .next t → Changes [F.TAKE_STATUS_INCOMPLETE, F.TAKE_STATUS_DEGRADED,
    F.TAKE_STATUS_ORDER_SEEN, F.TAKE_STATUS_SUB_BIN_SEEN, F.TAKE_STATUS_RESULT, F.TAKE_STATUS_STATE,
    F.TAKE_STATUS_DISCARDS, F.TAKE_COUNT_RECORDS, F.HOST_MSIX_SENT_COUNT] [.ev, .tm, .td, .hs, .out] s t)

/-- R114–R183: what each of these commands may change: the register fields and the parts of the state that the lists name,
    and
nothing else. -/
def Obligations.LoopFrames : Prop :=
  (∀ a0 a1 s t, exec (.loopUpdate a0 a1) s = .next t → Changes (faultFields ++ [F.DP_STATUS_LOCKSTEP_HELD,
    F.DP_STATUS_EVER_LOCKED, F.DP_STATUS_LOCK_OK, F.DP_STATUS_SLOPE_LIMITED, F.DP_STATUS_SLEWING, F.DP_STATUS_STATE,
    F.DP_COUNTS_HOLDOVERS, F.DP_LOCKSTEP_MISMATCHES, F.HOLD_STATUS_OUT_OF_SPEC, F.HOLD_STATUS_IN_HOLDOVER,
    F.HOLD_ELAPSED_SECONDS, F.HOLD_REMAIN_SECONDS]) (faultParts ++ [Part.dp, Part.at_, Part.sy, Part.bytes]) s t) ∧
  (∀ a0 s t, exec (.missingEdge a0) s = .next t → Changes (faultFields ++ [F.QM_STATUS_FROZEN, F.QUAL_FREEZES_COUNT,
    F.DP_STATUS_EVER_LOCKED, F.DP_STATUS_LOCK_OK, F.DP_STATUS_SLOPE_LIMITED, F.DP_STATUS_STATE, F.DP_COUNTS_HOLDOVERS,
    F.HOLD_STATUS_OUT_OF_SPEC, F.HOLD_STATUS_IN_HOLDOVER, F.HOLD_ELAPSED_SECONDS, F.HOLD_REMAIN_SECONDS]) (faultParts ++
    [Part.dp, Part.at_, Part.ql, Part.sy, Part.bytes]) s t) ∧
  (∀ a0 s t, exec (.arrivalWindowMiss a0) s = .next t → Changes (faultFields ++ [F.QM_STATUS_FROZEN, F.QUAL_FREEZES_COUNT,
    F.DP_STATUS_EVER_LOCKED, F.DP_STATUS_LOCK_OK, F.DP_STATUS_SLOPE_LIMITED, F.DP_STATUS_STATE, F.DP_COUNTS_HOLDOVERS,
    F.HOLD_STATUS_OUT_OF_SPEC, F.HOLD_STATUS_IN_HOLDOVER, F.HOLD_ELAPSED_SECONDS, F.HOLD_REMAIN_SECONDS]) (faultParts ++
    [Part.dp, Part.at_, Part.ql, Part.sy, Part.bytes]) s t) ∧
  (∀ a0 s t, exec (.qualValidationEnd a0) s = .next t → Changes [F.QM_STATUS_STATE] [.ev, .ql, .ep] s t) ∧
  (∀ a0 s t, exec (.qualHoldoffEnd a0) s = .next t → Changes [F.QM_STATUS_STATE] [.ev, .ql, .ep] s t) ∧
  (∀ s t, exec .qualDetectResume s = .next t → Changes [] [.td, .ql] s t) ∧
  (∀ a0 a1 s t, exec (.waitToRestoreEnd a0 a1) s = .next t → Changes [] [.tr] s t) ∧
  (∀ a0 s t, exec (.buildoutComplete a0) s = .next t → Changes (faultFields ++ [F.DP_STATUS_EVER_LOCKED,
    F.DP_STATUS_LOCK_OK, F.DP_STATUS_SLOPE_LIMITED, F.DP_STATUS_SLEWING, F.DP_STATUS_HELD, F.DP_STATUS_POLICY,
    F.DP_STATUS_PROFILE, F.DP_STATUS_STATE, F.DP_COUNTS_HOLDOVERS, F.HOLD_STATUS_WARNED, F.HOLD_STATUS_OUT_OF_SPEC,
    F.HOLD_STATUS_IN_HOLDOVER, F.HOLD_ELAPSED_SECONDS, F.HOLD_TE_PRED_TE_NS, F.HOLD_REMAIN_SECONDS]) (faultParts ++
    [Part.tm,
    Part.dp, Part.at_, Part.sy, Part.bytes]) s t) ∧
  (∀ a0 s t, exec (.dpllLockTimer a0) s = .next t → Changes [F.DP_STATUS_EVER_LOCKED, F.DP_STATUS_LOCK_OK,
    F.DP_STATUS_SLOPE_LIMITED, F.DP_STATUS_STATE, F.HOST_MSIX_SENT_COUNT] [.ev, .dp, .hs, .out] s t) ∧
  (∀ a0 s t, exec (.refAck a0) s = .next t → Changes [F.DP_STATUS_SLEWING, F.DP_STATUS_HELD, F.DP_STATUS_POLICY] [.dp] s t)
    ∧
  (∀ a0 s t, exec (.refAckStep a0) s = .next t → Changes [F.DP_STATUS_SLEWING, F.DP_STATUS_HELD, F.DP_STATUS_POLICY] [.tm,
    .dp] s t) ∧
  (∀ a0 s t, exec (.holdClear a0) s = .next t → Changes [F.HOLD_STATUS_POINTS, F.HOLD_STATUS_HIST_POINTS,
    F.HOLD_STATUS_ENTRY_VALID, F.HOLD_STATUS_C_FACTORY, F.HOLD_STATUS_MODEL, F.HOLD_REMAIN_SECONDS] [.dp, .at_, .recs,
    .bytes] s t)

/-- R185–R204: what each of these commands may change: the register fields and the parts of the state that the lists name,
    and
nothing else. -/
def Obligations.SynthFrames : Prop :=
  (∀ s t, exec .synthCommitGo s = .next t → Changes [F.SYNTH_COMMIT_STATUS_FIRST_BAD, F.SYNTH_COMMIT_STATUS_REASON,
    F.SYNTH_COMMIT_STATUS_RESULT] [.ev, .sy] s t) ∧
  (∀ s t, exec .synthCommitValidate s = .next t → Changes [F.OUT_DIV_ACTIVE_DIV, F.OUT_DIV_ACTIVE_PRESCALE,
    F.OUT_SHUTTERS_COUNT, F.APLL_STATUS_LOCKED, F.SYNTH_COMMIT_STATUS_FIRST_BAD, F.SYNTH_COMMIT_STATUS_REASON,
    F.SYNTH_COMMIT_STATUS_RESULT, F.SYNTH_COMMIT_STATUS_SEQ] [.ev, .sy] s t) ∧
  (∀ a0 s t, exec (.synthRealign a0) s = .next t → Changes [F.OUT_SHUTTERS_COUNT] [.ev, .sy] s t) ∧
  (∀ a0 s t, exec (.apllLock a0) s = .next t → Changes [F.CLK_MON_STATUS_GATED, F.CLK_MUX_STATUS_PENDING,
    F.CLK_BASE_STATUS_APLL0_LOCKED, F.CLK_STAGE_STATUS_STAGE, F.CLK_STAGE_STATUS_LAST_DOWN_CAUSE, F.IN_FILTER_GLITCHES,
    F.IN_EDGES_COUNT, F.TDC_CH_STATUS_LINE, F.TDC_CH_STATUS_DROPPING, F.TDC_CH_STATUS_STALLED, F.TDC_CH_FIFO_LEVEL,
    F.TDC_CH_FIFO_HIGH_WATER, F.TDC_CH_CAL_VALID, F.TDC_CH_CAL_FULL, F.TDC_CH_CAL_FAILED, F.QM_STATUS_STATE,
    F.QM_STATUS_CAUSE, F.OUT_SHUTTERS_COUNT, F.APLL_STATUS_LOCKED, F.PEER_STATUS_CLAIM_OUT, F.PEER_STATUS_PAIR_STATE,
    F.GLOBAL_STAGE_CHANGES] [.ev, .un, .pr, .ck, .at_, .td, .ql, .tr, .sy] s t) ∧
  (∀ a0 s t, exec (.apllUnlock a0) s = .next t → Changes (faultFields ++ [F.OUT_SHUTTERS_COUNT, F.APLL_STATUS_LOCKED,
    F.APLL_COUNTS_UNLOCKS]) (faultParts ++ [Part.sy]) s t) ∧
  (∀ a0 a1 s t, exec (.relockAttempt a0 a1) s = .next t → Changes [F.APLL_COUNTS_RELOCK_FAILS] [] s t) ∧
  (∀ s t, exec .baseUnlock s = .next t → Changes (faultFields ++ [F.CLK_MUX_STATUS_GATED, F.CLK_MUX_STATUS_PENDING,
    F.CLK_MUX_STATUS_INPUT, F.CLK_BASE_STATUS_APLL0_LOCKED, F.CLK_BASE_STATUS_TK_ON_PATH, F.CLK_XING_STATUS_STATE,
    F.OUT_SHUTTERS_COUNT, F.APLL_STATUS_LOCKED, F.APLL_COUNTS_UNLOCKS, F.SYNTH_DEG_STATUS_DEGRADED,
    F.SYNTH_DEG_STATUS_COUNT, F.TIME_STATUS_VALID]) (faultParts ++ [Part.tm, Part.td, Part.sy]) s t) ∧
  (∀ s t, exec .degradedIntervalEnd s = .next t → Changes [F.SYNTH_DEG_STATUS_DEGRADED, F.SYNTH_DEG_LAST_LEN_US] [.ev, .sy]
    s t) ∧
  (∀ a0 s t, exec (.shutterForce a0) s = .next t → Changes [] [.sy] s t) ∧
  (∀ a0 s t, exec (.shutterOpen a0) s = .next t → Changes [F.OUT_SHUTTERS_COUNT] [.ev, .sy] s t) ∧
  (∀ s t, exec .phaseVerify s = .next t → Changes (faultFields ++ [F.SYNTH_VERIFY_STATUS_ERR, F.SYNTH_VERIFY_STATUS_OUTPUT,
    F.SYNTH_VERIFY_STATUS_OUT_OF_TOL, F.SYNTH_VERIFY_STATUS_VALID]) (faultParts ++ [Part.sy]) s t)

/-- R206–R219: what each of these commands may change: the register fields and the parts of the state that the lists name,
    and
nothing else. -/
def Obligations.TimeFrames : Prop :=
  (∀ s t, exec .timeSet s = .next t → Changes [F.TIME_STEP_STATUS_RESULT] [.tm] s t) ∧
  (∀ s t, exec .timeStepRequest s = .next t → Changes [] [.tm] s t) ∧
  (∀ s t, exec .timeStep s = .next t → Changes [F.TAKE_STATUS_INCOMPLETE, F.TAKE_STATUS_RESULT, F.TAKE_STATUS_STATE,
    F.TAKE_COUNT_RECORDS, F.DP_STATUS_SLEWING, F.TIME_STATUS_MISMATCH_PENDING, F.TIME_STATUS_AGREE,
    F.TIME_STATUS_FRACTION_SET, F.TIME_STATUS_SECONDS_SET, F.TIME_STEP_STATUS_COUNT, F.TIME_STEP_STATUS_CAUSES,
    F.TIME_STEP_STATUS_RESULT, F.TIME_STEP_STATUS_GEN, F.HOST_MSIX_SENT_COUNT] [.ev, .flt, .tm, .pr, .dp, .td, .ql, .sy,
    .hs, .sv, .pk, .out] s t) ∧
  (∀ a0 s t, exec (.timeVoteOne a0) s = .next t → Changes (faultFields ++ [F.TIME_VOTE_STATUS_LAST_COPY,
    F.TIME_VOTE_STATUS_REPAIRS]) (faultParts ++ [Part.tm]) s t) ∧
  (∀ s t, exec .timeVoteNone s = .next t → Changes (faultFields ++ [F.TIME_STATUS_VALID, F.TIME_VOTE_STATUS_NO_MAJORITY])
    (faultParts ++ [Part.tm]) s t) ∧
  (∀ a0 a1 a2 s t, exec (.counterStart a0 a1 a2) s = .next t → Changes [F.CLK_MUX_STATUS_GATED, F.CLK_STAGE_STATUS_STAGE,
    F.CLK_STAGE_STATUS_LAST_DOWN_CAUSE, F.TAKE_STATUS_INCOMPLETE, F.TAKE_STATUS_RESULT, F.TAKE_STATUS_STATE,
    F.TAKE_COUNT_RECORDS, F.QM_STATUS_STATE, F.QM_STATUS_CAUSE, F.TIME_STATUS_MISMATCH_PENDING, F.TIME_STATUS_AGREE,
    F.TIME_STATUS_PORCH_LOST, F.TIME_STATUS_PORCH_START, F.TIME_STATUS_FRACTION_SET, F.TIME_STATUS_SECONDS_SET,
    F.TIME_STATUS_VALID, F.TIME_STEP_STATUS_COUNT, F.TIME_STEP_STATUS_CAUSES, F.TIME_STEP_STATUS_RESULT,
    F.TIME_STEP_STATUS_GEN, F.TIME_VOTE_STATUS_NO_MAJORITY, F.PORCH_STATUS_TRACE_COUNT, F.PORCH_STATUS_TRACE_NEXT,
    F.PORCH_TRACE_WORD, F.HOST_MSIX_SENT_COUNT, F.PEER_STATUS_CLAIM_OUT, F.PEER_STATUS_PAIR_STATE, F.GLOBAL_STAGE_CHANGES]
    (faultParts ++ [Part.un, Part.tm, Part.ck, Part.dp, Part.at_, Part.td, Part.ql, Part.tr, Part.sy, Part.sv, Part.pk]) s
    t) ∧
  (∀ s t, exec .porchAnchor s = .next t → Changes [F.PORCH_STATUS_SET, F.PORCH_STATUS_TIME_VALID, F.PORCH_SECONDS_SECONDS]
    [.tm] s t) ∧
  (∀ s t, exec .leapSecond s = .next t → Changes [F.TIME_UTC_OFFSET, F.TIME_UTC_LEAP59, F.TIME_UTC_LEAP61] [] s t) ∧
  (∀ a0 a1 a2 a3 a4 s t, exec (.todMessageRx a0 a1 a2 a3 a4) s = .next t → Changes (faultFields ++
    [F.TIME_STATUS_MISMATCH_PENDING, F.TIME_STATUS_AGREE, F.TIME_STATUS_SECONDS_SET, F.TIME_UTC_OFFSET, F.TIME_UTC_LEAP59,
    F.TIME_UTC_LEAP61, F.TIME_UTC_VALID, F.TODI_STATUS_LAST_D, F.TODI_STATUS_RUN, F.TODI_STATUS_LAST_RESULT,
    F.TODI_STATUS_ACCEPTED]) (faultParts ++ [Part.tm]) s t) ∧
  (∀ a0 s t, exec (.todoSend a0) s = .next t → Changes [F.TODO_STATUS_WITHHELD, F.TODO_STATUS_OVERLONG, F.TODO_STATUS_SENT]
    [.tm, .out] s t) ∧
  (∀ a0 s t, exec (.ppsPulse a0) s = .next t → Changes [F.PPS_STATUS_SUPPRESSED, F.PEER_LANE_TX_COUNT, F.PEER_MSG_TX_COUNT]
    [.tm, .pr, .out] s t)

/-- R226–R251: what each of these commands may change: the register fields and the parts of the state that the lists name,
    and
nothing else. -/
def Obligations.PortFrames : Prop :=
  (∀ a0 s t, exec (.linkUp a0) s = .next t → Changes [F.PORT_STATUS_LINK_UP, F.PORT_STATUS_CDR_LOCK,
    F.PORT_STATUS_BLOCK_LOCK, F.PORT_STATUS_FEC_LOCK, F.PORT_STATUS_AN_DONE, F.BR_STATUS_STATE] [.ev, .po] s t) ∧
  (∀ a0 a1 s t, exec (.linkDown a0 a1) s = .next t → Changes (faultFields ++ [F.PORT_STATUS_LINK_UP,
    F.PORT_STATUS_CDR_LOCK, F.PORT_STATUS_BLOCK_LOCK, F.PORT_STATUS_FEC_LOCK, F.PORT_STATUS_AN_DONE, F.PORT_COUNTER_COUNT,
    F.BR_STATUS_STATE]) (faultParts ++ [Part.po]) s t) ∧
  (∀ a0 s t, exec (.cdrLock a0) s = .next t → Changes [F.PORT_STATUS_CDR_LOCK] [] s t) ∧
  (∀ a0 s t, exec (.restartLink a0) s = .next t → Changes (faultFields ++ [F.PORT_STATUS_LINK_UP, F.PORT_STATUS_CDR_LOCK,
    F.PORT_STATUS_BLOCK_LOCK, F.PORT_STATUS_FEC_LOCK, F.PORT_STATUS_AN_DONE, F.PORT_COUNTER_COUNT, F.BR_STATUS_STATE,
    F.HOST_CUE_STORE_HIGH_WATER]) (faultParts ++ [Part.po]) s t) ∧
  (∀ a0 s t, exec (.restartEq a0) s = .next t → Changes [F.PORT_COUNTER_COUNT] [] s t) ∧
  (∀ a0 s t, exec (.laneRefFallback a0) s = .next t → Changes (faultFields ++ [F.PORT_STATUS_TX_REF_FALLBACK,
    F.PORT_COUNTER_COUNT]) faultParts s t) ∧
  (∀ a0 s t, exec (.laneRefReturn a0) s = .next t → Changes [F.PORT_STATUS_TX_REF_FALLBACK] [] s t) ∧
  (∀ a0 s t, exec (.esmcRx a0) s = .next t → Changes [F.PORT_ESMC_STATUS_RX_ESSM_VALID, F.PORT_ESMC_STATUS_RX_ESSM,
    F.PORT_ESMC_STATUS_RX_SSM, F.PORT_COUNTER_COUNT] [.ql, .po, .sv] s t) ∧
  (∀ a0 s t, exec (.esmcTx a0) s = .next t → Changes [F.PORT_COUNTER_COUNT] [.out, .freeCtr] s t) ∧
  (∀ a0 a1 a2 s t, exec (.frameRx a0 a1 a2) s = .next t → Changes [F.PORT_COUNTER_COUNT, F.HOST_MSIX_SENT_COUNT] [.hs, .sv,
    .out] s t) ∧
  (∀ a0 a1 s t, exec (.frameTx a0 a1) s = .next t → Changes [F.PORT_COUNTER_COUNT, F.HOST_MSIX_SENT_COUNT] [.hs, .out,
    .freeCtr] s t) ∧
  (∀ a0 a1 a2 a3 s t, exec (.bridgeForward a0 a1 a2 a3) s = .next t → Changes (faultFields ++ [F.PORT_COUNTER_COUNT,
    F.BR_COUNTER_COUNT]) (faultParts ++ [Part.sv]) s t) ∧
  (∀ a0 a1 a2 s t, exec (.cueLaunch a0 a1 a2) s = .next t → Changes (faultFields ++ [F.PORT_COUNTER_COUNT,
    F.HOST_CUE_STORE_HIGH_WATER]) faultParts s t)

/-- R252–R273: what each of these commands may change: the register fields and the parts of the state that the lists name,
    and
nothing else. -/
def Obligations.ServiceFrames : Prop :=
  (∀ a0 s t, exec (.ptpSignalingRx a0) s = .next t → Changes [] [.sv] s t) ∧
  (∀ a0 s t, exec (.followUpSend a0) s = .next t → Changes [F.PORT_COUNTER_COUNT] [.sv, .out, .freeCtr] s t) ∧
  (∀ a0 s t, exec (.delayReqRx a0) s = .next t → Changes [F.PORT_COUNTER_COUNT, F.SVC_COUNTER_COUNT] [.pr, .sv, .out,
    .freeCtr] s t) ∧
  (∀ a0 a1 s t, exec (.pdelayReqRx a0 a1) s = .next t → Changes [F.PORT_COUNTER_COUNT, F.SVC_COUNTER_COUNT] [.pr, .sv,
    .out, .freeCtr] s t) ∧
  (∀ a0 s t, exec (.managementRx a0) s = .next t → Changes [F.PORT_COUNTER_COUNT, F.SVC_COUNTER_COUNT] [.sv, .out,
    .freeCtr] s t) ∧
  (∀ a0 a1 s t, exec (.ntpRequestRx a0 a1) s = .next t → Changes (faultFields ++ [F.PORT_COUNTER_COUNT,
    F.SVC_COUNTER_COUNT]) (faultParts ++ [Part.sv]) s t) ∧
  (∀ s t, exec .tblRead s = .next t → Changes [F.SVC_TBL_STATUS_RESULT, F.SVC_TBL_DATA_WORD] [] s t) ∧
  (∀ s t, exec .tblWrite s = .next t → Changes [F.SVC_TBL_STATUS_RESULT] [.pr, .sv] s t) ∧
  (∀ s t, exec .tblDelete s = .next t → Changes [F.SVC_TBL_STATUS_RESULT] [.ev, .pr, .sv] s t) ∧
  (∀ s t, exec .tblFind s = .next t → Changes [F.SVC_TBL_STATUS_FOUND, F.SVC_TBL_STATUS_RESULT] [] s t) ∧
  (∀ s t, exec .clientWindowAccess s = .next t → Changes [F.SVC_TBL_STATUS_DIRECT] [] s t) ∧
  (∀ a0 s t, exec (.servoFrameRx a0) s = .next t → Changes (faultFields ++ [F.QM_STATUS_FROZEN, F.QUAL_FREEZES_COUNT,
    F.DP_STATUS_EVER_LOCKED, F.DP_STATUS_LOCK_OK, F.DP_STATUS_SLOPE_LIMITED, F.DP_STATUS_STATE, F.DP_COUNTS_HOLDOVERS,
    F.HOLD_STATUS_OUT_OF_SPEC, F.HOLD_STATUS_IN_HOLDOVER, F.HOLD_ELAPSED_SECONDS, F.HOLD_REMAIN_SECONDS,
    F.PORT_COUNTER_COUNT, F.PK_STATUS_LOSSES, F.PK_STATUS_TWO_STEP, F.PK_STATUS_ANN_OK, F.PK_STATUS_ANN_GRANTED,
    F.PK_STATUS_DRESP_GRANTED, F.PK_STATUS_SYNC_GRANTED, F.PK_STATUS_STATE, F.PK_ANNOUNCE_STEPS_REMOVED,
    F.PK_ANNOUNCE_TIME_SOURCE, F.PK_ANNOUNCE_CLOCK_ACCURACY, F.PK_ANNOUNCE_CLOCK_CLASS, F.PK_WINDOW_SPREAD_NS,
    F.PK_WINDOW_N_REV, F.PK_WINDOW_N_FWD]) (faultParts ++ [Part.dp, Part.at_, Part.ql, Part.sy, Part.sv, Part.pk,
    Part.bytes]) s t) ∧
  (∀ a0 a1 s t, exec (.servoRenew a0 a1) s = .next t → Changes [F.PORT_COUNTER_COUNT] [.pk, .out, .freeCtr] s t) ∧
  (∀ a0 s t, exec (.followUpTimeout a0) s = .next t → Changes [] [.pk] s t) ∧
  (∀ a0 a1 a2 s t, exec (.servoLost a0 a1 a2) s = .next t → Changes (faultFields ++ [F.QM_STATUS_FROZEN,
    F.QUAL_FREEZES_COUNT, F.DP_STATUS_EVER_LOCKED, F.DP_STATUS_LOCK_OK, F.DP_STATUS_SLOPE_LIMITED, F.DP_STATUS_STATE,
    F.DP_COUNTS_HOLDOVERS, F.HOLD_STATUS_OUT_OF_SPEC, F.HOLD_STATUS_IN_HOLDOVER, F.HOLD_ELAPSED_SECONDS,
    F.HOLD_REMAIN_SECONDS, F.PK_STATUS_LOSSES, F.PK_STATUS_ANN_GRANTED, F.PK_STATUS_DRESP_GRANTED,
    F.PK_STATUS_SYNC_GRANTED, F.PK_STATUS_STATE, F.PK_WINDOW_SPREAD_NS, F.PK_WINDOW_N_REV, F.PK_WINDOW_N_FWD]) (faultParts
    ++ [Part.dp, Part.at_, Part.ql, Part.sy, Part.pk, Part.bytes]) s t) ∧
  (∀ a0 s t, exec (.announceTimeout a0) s = .next t → Changes [F.PK_STATUS_ANN_OK] [] s t)

/-- R280–R303: what each of these commands may change: the register fields and the parts of the state that the lists name,
    and
nothing else. -/
def Obligations.HostFrames : Prop :=
  (∀ a0 s t, exec (.perstN a0) s = .next t → Changes (pageFields ++ [F.HOST_STATUS_NUM_VF, F.HOST_STATUS_D_STATE,
    F.HOST_STATUS_ADMIN_VER, F.HOST_LINK_WIDTH, F.HOST_LINK_SPEED, F.HOST_RESET_INFO_COUNT, F.HOST_RESET_INFO_LAST,
    F.GLOBAL_OWNER_OWNER0, F.GLOBAL_OWNER_OWNER1, F.GLOBAL_OWNER_OWNER2, F.GLOBAL_OWNER_OWNER3]) [.ev, .un, .pr, .at_, .hs]
    s t) ∧
  (∀ a0 a1 s t, exec (.linkL0 a0 a1) s = .next t → Changes [F.HOST_LINK_RETRAINS, F.HOST_LINK_WIDTH, F.HOST_LINK_SPEED]
    [.hs] s t) ∧
  (∀ s t, exec .hostLinkDown s = .next t → Changes (faultFields ++ pageFields ++ [F.HOST_STATUS_NUM_VF,
    F.HOST_STATUS_D_STATE, F.HOST_STATUS_ADMIN_VER, F.HOST_LINK_DOWNS, F.HOST_LINK_WIDTH, F.HOST_LINK_SPEED,
    F.HOST_RESET_INFO_COUNT, F.HOST_RESET_INFO_LAST, F.GLOBAL_OWNER_OWNER0, F.GLOBAL_OWNER_OWNER1, F.GLOBAL_OWNER_OWNER2,
    F.GLOBAL_OWNER_OWNER3]) (faultParts ++ [Part.un, Part.at_]) s t) ∧
  (∀ a0 s t, exec (.pf0Flr a0) s = .next t → Changes (pageFields ++ [F.HOST_STATUS_NUM_VF, F.HOST_STATUS_D_STATE,
    F.HOST_STATUS_ADMIN_VER, F.HOST_RESET_INFO_COUNT, F.HOST_RESET_INFO_LAST, F.GLOBAL_OWNER_OWNER0, F.GLOBAL_OWNER_OWNER1,
    F.GLOBAL_OWNER_OWNER2, F.GLOBAL_OWNER_OWNER3]) [.ev, .un, .pr, .at_, .hs] s t) ∧
  (∀ a0 s t, exec (.vfFlr a0) s = .next t → Changes (pageFields ++ [F.HOST_VF_STATUS_FLRS]) [.ev, .hs] s t) ∧
  (∀ s t, exec .d3hotEntry s = .next t → Changes [F.HOST_STATUS_D_STATE] [] s t) ∧
  (∀ a0 s t, exec (.numVfsChange a0) s = .next t → Changes (pageFields ++ [F.HOST_STATUS_NUM_VF]) [.ev, .hs] s t) ∧
  (∀ a0 a1 a2 s t, exec (.doorbellProd a0 a1 a2) s = .next t → Changes (faultFields ++ reelErrorFields ++
    [F.HOST_DB_ERR_LAST_OFFSET, F.HOST_DB_ERR_COUNT]) faultParts s t) ∧
  (∀ a0 a1 a2 s t, exec (.doorbellCons a0 a1 a2) s = .next t → Changes (faultFields ++ reelErrorFields ++
    [F.PORT_COUNTER_COUNT, F.HOST_CUE_STORE_HIGH_WATER, F.HOST_DB_ERR_LAST_OFFSET, F.HOST_DB_ERR_COUNT]) faultParts s t) ∧
  (∀ a0 a1 a2 s t, exec (.doorbellConsArm a0 a1 a2) s = .next t → Changes (faultFields ++ reelErrorFields ++
    [F.PORT_COUNTER_COUNT, F.HOST_CUE_STORE_HIGH_WATER, F.HOST_DB_ERR_LAST_OFFSET, F.HOST_DB_ERR_COUNT]) faultParts s t) ∧
  (∀ a0 a1 s t, exec (.descriptorRelease a0 a1) s = .next t → Changes (faultFields ++ reelErrorFields ++
    [F.PORT_COUNTER_COUNT, F.HOST_CUE_STORE_HIGH_WATER]) faultParts s t) ∧
  (∀ a0 a1 s t, exec (.descriptorFetchDone a0 a1) s = .next t → Changes (faultFields ++ reelErrorFields ++
    [F.PORT_COUNTER_COUNT, F.HOST_CUE_STORE_HIGH_WATER, F.HOST_FETCH_LATE_COUNT]) faultParts s t) ∧
  (∀ a0 s t, exec (.completionWrite a0) s = .next t → Changes [F.HOST_MSIX_SENT_COUNT, F.ADMIN_STATUS_EXECUTED] [.ev, .hs,
    .out] s t) ∧
  (∀ a0 a1 a2 s t, exec (.dmaError a0 a1 a2) s = .next t → Changes (faultFields ++ reelErrorFields) faultParts s t) ∧
  (∀ a0 s t, exec (.recordsFlush a0) s = .next t → Changes [F.HOST_MSIX_SENT_COUNT] [.hs, .out] s t) ∧
  (∀ a0 s t, exec (.msixModeration a0) s = .next t → Changes [F.HOST_MSIX_SENT_COUNT] [.hs, .out] s t) ∧
  (∀ a0 a1 s t, exec (.msixUnmask a0 a1) s = .next t → Changes [F.HOST_MSIX_SENT_COUNT] [.hs, .out] s t) ∧
  (∀ a0 a1 s t, exec (.timeSnapshot a0 a1) s = .next t → Changes [F.TM_CTRL_SEQ, F.TM_TIME_TIME, F.TM_STATE_STEPPED,
    F.TM_STATE_OUT_OF_SPEC, F.TM_STATE_SECONDS_SET, F.TM_STATE_VALID, F.TM_STATE_TRACE, F.TM_STATE_CLOCK_CLASS,
    F.TM_STATE_GEN, F.TM_UTC_OFFSET, F.TM_UTC_LEAP59, F.TM_UTC_LEAP61, F.TM_UTC_VALID, F.TM_TE_TE_NS] [] s t) ∧
  (∀ a0 a1 s t, exec (.vfEvtReelEnable a0 a1) s = .next t → Changes [F.VF_EVT_CFG_MOD_10US, F.VF_EVT_CFG_MOD_COUNT,
    F.VF_EVT_CFG_SIZE_LOG, F.VF_EVT_CFG_NOTIFY, F.VF_EVT_CFG_ENABLE, F.VF_EVT_STATUS_RESULT] [.ev, .hs] s t) ∧
  (∀ a0 a1 s t, exec (.vfEvtCons a0 a1) s = .next t → Changes (faultFields ++ reelErrorFields ++ [F.PORT_COUNTER_COUNT,
    F.HOST_CUE_STORE_HIGH_WATER]) faultParts s t) ∧
  (∀ a0 a1 s t, exec (.vfEvtConsArm a0 a1) s = .next t → Changes (faultFields ++ reelErrorFields ++ [F.PORT_COUNTER_COUNT,
    F.HOST_CUE_STORE_HIGH_WATER]) faultParts s t)

/-- R293–R300: what each of these commands may change: the register fields and the parts of the state that the lists name,
    and
nothing else. Not among them: fullResetStart (FullResetLeaves). -/
def Obligations.AdminFrames : Prop :=
  (∀ a0 a1 s t, exec (.adminEnable a0 a1) s = .next t → Changes [F.ADMIN_CFG_SIZE_LOG, F.ADMIN_CFG_VECTOR,
    F.ADMIN_CFG_ENABLE, F.ADMIN_STATUS_RESULT] [.ev, .un, .pr, .at_, .hs] s t) ∧
  (∀ a0 s t, exec (.negotiate a0) s = .next t → Changes [F.HOST_STATUS_ADMIN_VER, F.HOST_MSIX_SENT_COUNT,
    F.ADMIN_STATUS_EXECUTED] [.ev, .hs, .out] s t) ∧
  (∀ a0 s t, exec (.createReel a0) s = .next t → Changes [F.HOST_MSIX_SENT_COUNT, F.ADMIN_STATUS_EXECUTED] [.ev, .hs, .out]
    s t) ∧
  (∀ a0 s t, exec (.destroyReel a0) s = .next t → Changes (faultFields ++ [F.PORT_COUNTER_COUNT,
    F.HOST_CUE_STORE_HIGH_WATER, F.ADMIN_STATUS_EXECUTED]) faultParts s t) ∧
  (∀ a0 s t, exec (.setVector a0) s = .next t → Changes [F.HOST_MSIX_SENT_COUNT, F.ADMIN_STATUS_EXECUTED] [.ev, .hs, .out]
    s t) ∧
  (∀ a0 a1 s t, exec (.atticRead a0 a1) s = .next t → Changes (faultFields ++ [F.ADMIN_STATUS_EXECUTED,
    F.ATTIC_ERR_COUNT_INVALID_COPIES]) (faultParts ++ [Part.un, Part.at_]) s t) ∧
  (∀ a0 a1 s t, exec (.atticWrite a0 a1) s = .next t → Changes (faultFields ++ reelErrorFields ++
    [F.ADMIN_STATUS_EXECUTED]) (faultParts ++ [Part.un, Part.at_]) s t) ∧
  (∀ a0 s t, exec (.fullReset a0) s = .next t → Changes [F.HOST_MSIX_SENT_COUNT, F.ADMIN_STATUS_EXECUTED] [.ev, .hs, .out]
    s t) ∧
  (∀ a0 s t, exec (.pairSwitch a0) s = .next t → Changes [F.HOST_MSIX_SENT_COUNT, F.ADMIN_STATUS_EXECUTED,
    F.PEER_STATUS_BLOCK_CAUSE, F.PEER_STATUS_ALIGNED, F.PEER_STATUS_CLAIM_OUT, F.PEER_STATUS_PAIR_STATE,
    F.PEER_SWITCH_STATUS_ORIGIN, F.PEER_SWITCH_STATUS_IN_PROGRESS, F.PEER_SWITCH_STATUS_RESULT, F.PEER_SWITCH_STATUS_COUNT,
    F.PEER_COUNTS_FAILOVERS, F.PEER_LAST_FAILOVER_LEN_US, F.PEER_LANE_TX_COUNT, F.PEER_MSG_TX_COUNT] [.ev, .pr, .sy, .hs,
    .out] s t) ∧
  (∀ a0 s t, exec (.reelStatus a0) s = .next t → Changes [F.HOST_MSIX_SENT_COUNT, F.ADMIN_STATUS_EXECUTED] [.ev, .hs, .out]
    s t) ∧
  (∀ a0 s t, exec (.drainReel a0) s = .next t → Changes (faultFields ++ [F.PORT_COUNTER_COUNT, F.HOST_CUE_STORE_HIGH_WATER,
    F.ADMIN_STATUS_EXECUTED]) faultParts s t) ∧
  (∀ a0 s t, exec (.drainTimeout a0) s = .next t → Changes [F.HOST_MSIX_SENT_COUNT, F.ADMIN_STATUS_EXECUTED] [.ev, .hs,
    .out] s t) ∧
  (∀ a0 s t, exec (.adminBadOpcode a0) s = .next t → Changes [F.HOST_MSIX_SENT_COUNT, F.ADMIN_STATUS_EXECUTED] [.ev, .hs,
    .out] s t)

/-- R307–R325: what each of these commands may change: the register fields and the parts of the state that the lists name,
    and
nothing else. -/
def Obligations.PeerFrames : Prop :=
  (∀ a0 s t, exec (.claimInChange a0) s = .next t → Changes (faultFields ++ [F.PEER_STATUS_BLOCK_CAUSE,
    F.PEER_STATUS_CLAIM_IN, F.PEER_CLAIM_EVENTS_BROKEN, F.PEER_CLAIM_EVENTS_CONFLICTS]) faultParts s t) ∧
  (∀ s t, exec .claimSlotDelayEnd s = .next t → Changes [F.PEER_STATUS_CLAIM_OUT] [.pr] s t) ∧
  (∀ s t, exec .claimConfirmEnd s = .next t → Changes [F.HOST_MSIX_SENT_COUNT, F.ADMIN_STATUS_EXECUTED,
    F.PEER_STATUS_BLOCK_CAUSE, F.PEER_STATUS_ALIGNED, F.PEER_STATUS_CLAIM_OUT, F.PEER_STATUS_PAIR_STATE,
    F.PEER_SWITCH_STATUS_IN_PROGRESS, F.PEER_SWITCH_STATUS_RESULT, F.PEER_SWITCH_STATUS_COUNT, F.PEER_COUNTS_FAILOVERS,
    F.PEER_LAST_FAILOVER_LEN_US] [.ev, .pr, .sy, .hs, .out] s t) ∧
  (∀ s t, exec .claimConflictHoldEnd s = .next t → Changes [F.HOST_MSIX_SENT_COUNT, F.ADMIN_STATUS_EXECUTED,
    F.PEER_STATUS_BLOCK_CAUSE, F.PEER_STATUS_ALIGNED, F.PEER_STATUS_CLAIM_OUT, F.PEER_STATUS_PAIR_STATE,
    F.PEER_SWITCH_STATUS_IN_PROGRESS, F.PEER_SWITCH_STATUS_RESULT, F.PEER_SWITCH_STATUS_COUNT, F.PEER_COUNTS_FAILOVERS,
    F.PEER_LAST_FAILOVER_LEN_US] [.ev, .pr, .sy, .hs, .out] s t) ∧
  (∀ s t, exec .reclaimHoldoffEnd s = .next t → Changes [F.PEER_STATUS_PAIR_STATE] [.ev, .pr] s t) ∧
  (∀ a0 s t, exec (.hallwayLaneUp a0) s = .next t → Changes [F.PEER_STATUS_LINK_STATE, F.PEER_LANE_STATUS_UP,
    F.PEER_LANE_STATUS_SIGNAL, F.PEER_LANE_STATUS_ALIGNED] [.ev, .pr] s t) ∧
  (∀ a0 s t, exec (.hallwayLaneDown a0) s = .next t → Changes (faultFields ++ [F.PEER_STATUS_VERSION,
    F.PEER_STATUS_LINK_STATE, F.PEER_LANE_STATUS_UP, F.PEER_LANE_STATUS_SIGNAL, F.PEER_LANE_STATUS_ALIGNED,
    F.PEER_LANE_RETRAINS_COUNT]) faultParts s t) ∧
  (∀ s t, exec .helloTx s = .next t → Changes [F.PEER_VERSION_OFFERED, F.PEER_LANE_TX_COUNT, F.PEER_MSG_TX_COUNT] [.pr,
    .out] s t) ∧
  (∀ a0 a1 s t, exec (.helloRx a0 a1) s = .next t → Changes (faultFields ++ [F.PEER_STATUS_HB_CURRENT,
    F.PEER_STATUS_CFG_MATCH, F.PEER_STATUS_VERSION, F.PEER_STATUS_LINK_STATE, F.PEER_HB_MISSED_COUNT,
    F.PEER_PARTNER_DIGEST_DIGEST, F.PEER_VERSION_NEGOTIATED, F.PEER_VERSION_PARTNER_VERSIONS, F.PEER_LANE_CRC_COUNT,
    F.PEER_LANE_TX_COUNT, F.PEER_LANE_RX_COUNT, F.PEER_MSG_TX_COUNT, F.PEER_MSG_RX_COUNT]) faultParts s t) ∧
  (∀ s t, exec .heartbeatTx s = .next t → Changes [F.PEER_HB_MISSED_COUNT, F.PEER_LANE_TX_COUNT, F.PEER_MSG_TX_COUNT] [.pr,
    .out] s t) ∧
  (∀ a0 a1 s t, exec (.heartbeatRx a0 a1) s = .next t → Changes [F.HOST_MSIX_SENT_COUNT, F.ADMIN_STATUS_EXECUTED,
    F.PEER_STATUS_HB_CURRENT, F.PEER_STATUS_LINK_STATE, F.PEER_PARTNER_ROOT_QL, F.PEER_PARTNER_LANE0_UP,
    F.PEER_PARTNER_LANE1_UP, F.PEER_PARTNER_CLAIM_EN, F.PEER_PARTNER_FAULT_LATCHED, F.PEER_PARTNER_SVC_STATE,
    F.PEER_PARTNER_DPLL_STATE, F.PEER_PARTNER_STAGE, F.PEER_PARTNER_PAIR_STATE, F.PEER_ALIGN_ERR,
    F.PEER_SWITCH_STATUS_IN_PROGRESS, F.PEER_SWITCH_STATUS_RESULT, F.PEER_SWITCH_STATUS_COUNT, F.PEER_HB_RX_COUNT,
    F.PEER_LANE_CRC_COUNT, F.PEER_LANE_RX_COUNT, F.PEER_MSG_RX_COUNT] [.ev, .pr, .sy, .hs, .out] s t) ∧
  (∀ s t, exec .heartbeatLost s = .next t → Changes (faultFields ++ [F.PEER_STATUS_HB_CURRENT, F.PEER_STATUS_LINK_STATE,
    F.PEER_COUNTS_HB_LOSSES, F.GLOBAL_OWNER_OWNER0, F.GLOBAL_OWNER_OWNER1, F.GLOBAL_OWNER_OWNER2, F.GLOBAL_OWNER_OWNER3])
    faultParts s t) ∧
  (∀ a0 a1 s t, exec (.timeMsgRx a0 a1) s = .next t → Changes (faultFields ++ [F.TIME_STATUS_MISMATCH_PENDING,
    F.TIME_STATUS_AGREE, F.TIME_STATUS_SECONDS_SET, F.PEER_LANE_CRC_COUNT, F.PEER_LANE_RX_COUNT, F.PEER_MSG_RX_COUNT])
    (faultParts ++ [Part.tm, Part.ep]) s t) ∧
  (∀ a0 a1 s t, exec (.tableSyncRx a0 a1) s = .next t → Changes [F.PEER_LANE_CRC_COUNT, F.PEER_LANE_TX_COUNT,
    F.PEER_LANE_RX_COUNT, F.PEER_MSG_TX_COUNT, F.PEER_MSG_RX_COUNT] [.pr, .sv, .out] s t) ∧
  (∀ a0 a1 s t, exec (.cfgDigestRx a0 a1) s = .next t → Changes [F.PEER_STATUS_CFG_MATCH, F.PEER_PARTNER_DIGEST_DIGEST,
    F.PEER_LANE_CRC_COUNT, F.PEER_LANE_RX_COUNT, F.PEER_MSG_RX_COUNT] [.ev, .pr] s t) ∧
  (∀ s t, exec .standbyAligned s = .next t → Changes [F.PEER_STATUS_ALIGNED] [] s t) ∧
  (∀ s t, exec .peerSwitchGo s = .next t → Changes [F.HOST_MSIX_SENT_COUNT, F.ADMIN_STATUS_EXECUTED,
    F.PEER_STATUS_BLOCK_CAUSE, F.PEER_STATUS_ALIGNED, F.PEER_STATUS_CLAIM_OUT, F.PEER_STATUS_PAIR_STATE,
    F.PEER_SWITCH_STATUS_ORIGIN, F.PEER_SWITCH_STATUS_IN_PROGRESS, F.PEER_SWITCH_STATUS_RESULT, F.PEER_SWITCH_STATUS_COUNT,
    F.PEER_COUNTS_FAILOVERS, F.PEER_LAST_FAILOVER_LEN_US, F.PEER_LANE_TX_COUNT, F.PEER_MSG_TX_COUNT] [.ev, .pr, .sy, .hs,
    .out] s t) ∧
  (∀ a0 s t, exec (.peerSwitchForce a0) s = .next t → Changes [F.HOST_MSIX_SENT_COUNT, F.ADMIN_STATUS_EXECUTED,
    F.PEER_STATUS_BLOCK_CAUSE, F.PEER_STATUS_ALIGNED, F.PEER_STATUS_CLAIM_OUT, F.PEER_STATUS_PAIR_STATE,
    F.PEER_SWITCH_STATUS_ORIGIN, F.PEER_SWITCH_STATUS_IN_PROGRESS, F.PEER_SWITCH_STATUS_RESULT, F.PEER_SWITCH_STATUS_COUNT,
    F.PEER_COUNTS_FAILOVERS, F.PEER_LAST_FAILOVER_LEN_US, F.PEER_LANE_TX_COUNT, F.PEER_MSG_TX_COUNT] [.ev, .pr, .sy, .hs,
    .out] s t) ∧
  (∀ a0 a1 a2 s t, exec (.switchOfferRx a0 a1 a2) s = .next t → Changes [F.HOST_MSIX_SENT_COUNT, F.ADMIN_STATUS_EXECUTED,
    F.PEER_STATUS_CLAIM_OUT, F.PEER_STATUS_PAIR_STATE, F.PEER_SWITCH_STATUS_ORIGIN, F.PEER_SWITCH_STATUS_IN_PROGRESS,
    F.PEER_SWITCH_STATUS_RESULT, F.PEER_LANE_CRC_COUNT, F.PEER_LANE_TX_COUNT, F.PEER_LANE_RX_COUNT, F.PEER_MSG_TX_COUNT,
    F.PEER_MSG_RX_COUNT] [.ev, .pr, .hs, .out] s t) ∧
  (∀ a0 a1 a2 s t, exec (.switchAcceptRx a0 a1 a2) s = .next t → Changes [F.PEER_SWITCH_STATUS_ORIGIN,
    F.PEER_SWITCH_STATUS_IN_PROGRESS, F.PEER_LANE_CRC_COUNT, F.PEER_LANE_RX_COUNT, F.PEER_MSG_RX_COUNT] [.pr, .hs] s t) ∧
  (∀ a0 a1 s t, exec (.switchRefuseRx a0 a1) s = .next t → Changes [F.HOST_MSIX_SENT_COUNT, F.ADMIN_STATUS_EXECUTED,
    F.PEER_SWITCH_STATUS_IN_PROGRESS, F.PEER_SWITCH_STATUS_RESULT, F.PEER_SWITCH_STATUS_COUNT, F.PEER_LANE_CRC_COUNT,
    F.PEER_LANE_RX_COUNT, F.PEER_MSG_RX_COUNT] [.ev, .pr, .sy, .hs, .out] s t) ∧
  (∀ s t, exec .switchHandover s = .next t → Changes [F.OUT_SHUTTERS_COUNT] [.ev, .sy] s t) ∧
  (∀ s t, exec .switchTimeout s = .next t → Changes [F.HOST_MSIX_SENT_COUNT, F.ADMIN_STATUS_EXECUTED,
    F.PEER_SWITCH_STATUS_IN_PROGRESS, F.PEER_SWITCH_STATUS_RESULT, F.PEER_SWITCH_STATUS_COUNT] [.ev, .pr, .sy, .hs, .out] s
    t)

/-- R330–R342: what each of these commands may change: the register fields and the parts of the state that the lists name, and
nothing else. -/
def Obligations.FaultFrames : Prop :=
  (∀ a0 a1 a2 a3 s t, exec (.faultCause a0 a1 a2 a3) s = .next t → Changes faultFields faultParts s t) ∧
  (∀ a0 a1 a2 s t, exec (.faultWire a0 a1 a2) s = .next t → Changes (faultFields ++ [F.FLT_WIRE_COUNT_COUNT]) faultParts s
    t) ∧
  (∀ a0 a1 s t, exec (.sramScrub a0 a1) s = .next t → Changes faultFields faultParts s t) ∧
  (∀ a0 s t, exec (.faultAck a0) s = .next t → Changes [] [.flt] s t) ∧
  (∀ a0 s t, exec (.graceExpiry a0) s = .next t → Changes [F.PEER_STATUS_CLAIM_OUT, F.PEER_STATUS_PAIR_STATE,
    F.FLT_REACT_STATUS_LAST_UNIT, F.FLT_REACT_STATUS_REFUSED, F.FLT_REACT_STATUS_LAST_ACTION,
    F.FLT_REACT_STATUS_LAST_SOURCE, F.FLT_REACT_COUNT_COUNT, F.FLT_ESCALATIONS_COUNT] [.ev, .flt, .pr] s t) ∧
  (∀ s t, exec .reactionOperation s = .next t → Changes unitFields unitParts s t) ∧
  (∀ s t, exec .reactionComplete s = .next t → Changes [] [.ev, .flt] s t) ∧
  (∀ s t, exec .settleWindowEnd s = .next t → Changes [] [.flt] s t) ∧
  (∀ s t, exec .errToggle s = .next t → Changes [] [.flt] s t) ∧
  (∀ s t, exec .faultInject s = .next t → Changes (faultFields ++ [F.FLT_INJECT_STATUS_COUNT]) faultParts s t) ∧
  (∀ a0 s t, exec (.faultInjectBreak a0) s = .next t → Changes (faultFields ++ [F.FLT_INJECT_CTRL_BREAK,
    F.FLT_INJECT_STATUS_COUNT, F.FLT_WIRE_COUNT_COUNT]) faultParts s t)

/-- R345–R381: what each of these commands may change: the register fields and the parts of the state that the lists name,
    and
nothing else. Not among them: smbBlockRead, regacc, which first carry out
the master's waiting writes (TicksEpochsAndReadsFrames). -/
def Obligations.AtticAndAccessFrames : Prop :=
  (∀ a0 a1 s t, exec (.atticCommitDone a0 a1) s = .next t → Changes (faultFields ++ [F.QUAL_RETIRE_STATUS_COMMIT_PENDING,
    F.QUAL_RETIRE_STATUS_LIST_SEQ, F.ADMIN_STATUS_EXECUTED, F.ATTIC_MB_STATUS_ONE_COPY, F.ATTIC_MB_STATUS_RESULT,
    F.ATTIC_MB_SEQ_SEQ, F.ATTIC_COMMIT_COUNT_DONE, F.ATTIC_COMMIT_COUNT_FAILED, F.ATTIC_LAST_COMMIT_LEN_US,
    F.ATTIC_LAST_COMMIT_OUTCOME, F.ATTIC_LAST_COMMIT_INSTANCE, F.ATTIC_LAST_COMMIT_TYPE, F.GLOBAL_UNIT_RESULT_UNIT_STATUS,
    F.GLOBAL_UNIT_RESULT_CODE, F.GLOBAL_UNIT_RESULT_BUSY]) (faultParts ++ [Part.un, Part.at_, Part.recs, Part.bytes,
    Part.archive]) s t) ∧
  (∀ s t, exec .atticMbRead s = .next t → Changes (faultFields ++ [F.ATTIC_MB_LEN_LENGTH, F.ATTIC_MB_STATUS_CONFLICT,
    F.ATTIC_MB_STATUS_ONE_COPY, F.ATTIC_MB_STATUS_RESULT, F.ATTIC_MB_SEQ_SEQ, F.ATTIC_ERR_COUNT_INVALID_COPIES])
    (faultParts ++ [Part.un, Part.at_, Part.staging]) s t) ∧
  (∀ s t, exec .atticMbWrite s = .next t → Changes [F.ATTIC_MB_STATUS_CONFLICT, F.ATTIC_MB_STATUS_ONE_COPY,
    F.ATTIC_MB_STATUS_RESULT] [.un, .at_] s t) ∧
  (∀ s t, exec .atticMbRawRead s = .next t → Changes [F.ATTIC_MB_STATUS_CONFLICT, F.ATTIC_MB_STATUS_ONE_COPY,
    F.ATTIC_MB_STATUS_RESULT] [.at_, .staging] s t) ∧
  (∀ s t, exec .atticMbRawWrite s = .next t → Changes [F.ATTIC_MB_STATUS_CONFLICT, F.ATTIC_MB_STATUS_ONE_COPY,
    F.ATTIC_MB_STATUS_RESULT] [.at_, .recs, .bytes, .archive] s t) ∧
  (∀ s t, exec .logPageWrite s = .next t → Changes [F.ATTIC_LOG_STATUS_LAP, F.ATTIC_LOG_STATUS_PENDING,
    F.ATTIC_LOG_STATUS_NEXT_PAGE] [.at_, .recs, .bytes] s t) ∧
  (∀ s t, exec .powerOnHour s = .next t → Changes faultFields (faultParts ++ [Part.at_, Part.bytes]) s t) ∧
  (∀ a0 a1 a2 s t, exec (.atticScanPage a0 a1 a2) s = .next t → Changes (faultFields ++ [F.ATTIC_SCAN_STATUS_REFRESHED,
    F.ATTIC_SCAN_STATUS_PAGE, F.ATTIC_ERR_COUNT_UNCORRECTABLE, F.ATTIC_ERR_COUNT_CORRECTED,
    F.ATTIC_ERR_COUNT_INVALID_COPIES]) (faultParts ++ [Part.un, Part.at_]) s t) ∧
  (∀ a0 a1 a2 s t, exec (.wideCapture a0 a1 a2) s = .next t → Changes (faultFields ++ [F.WIDE_SEL_ITEM, F.WIDE_SEL_BLOCK,
    F.WIDE_SEL_DIR, F.WIDE_STATUS_WIDTH, F.WIDE_STATUS_RESULT, F.WIDE_STATUS_VALID, F.WIDE_STATUS_GEN, F.WIDE_DATA_DATA])
    faultParts s t) ∧
  (∀ a0 a1 a2 s t, exec (.wideWrite a0 a1 a2) s = .next t → Changes (faultFields ++ [F.GLOBAL_ACCESS_STATUS_REFUSED,
    F.GLOBAL_ACCESS_STATUS_RESULT, F.GLOBAL_ACCESS_ADDR_ADDR, F.LOCKED_WRITES_COUNT, F.GLOBAL_NOT_OWNER_COUNT,
    F.GLOBAL_IGNORED_RETIRED, F.WIDE_SEL_ITEM, F.WIDE_SEL_BLOCK, F.WIDE_SEL_DIR, F.WIDE_STATUS_WIDTH, F.WIDE_STATUS_RESULT,
    F.WIDE_STATUS_VALID, F.WIDE_STATUS_GEN]) (faultParts ++ [Part.tm, Part.id_]) s t) ∧
  (∀ a0 a1 a2 a3 s t, exec (.smbBlockWrite a0 a1 a2 a3) s = .next t → Changes [F.ATTIC_MB_STATUS_CONFLICT,
    F.ATTIC_MB_STATUS_ONE_COPY, F.ATTIC_MB_STATUS_RESULT, F.GLOBAL_SMB_STATUS_NACKS, F.GLOBAL_SMB_STATUS_PEC_ERRORS] [.cp,
    .out] s t) ∧
  (∀ a0 a1 a2 a3 s t, exec (.smbBlockWriteMulti a0 a1 a2 a3) s = .next t → Changes [F.ATTIC_MB_STATUS_CONFLICT,
    F.ATTIC_MB_STATUS_ONE_COPY, F.ATTIC_MB_STATUS_RESULT, F.GLOBAL_SMB_STATUS_NACKS, F.GLOBAL_SMB_STATUS_PEC_ERRORS] [.cp,
    .out] s t) ∧
  (∀ a0 a1 s t, exec (.smbBadCommand a0 a1) s = .next t → Changes [F.GLOBAL_SMB_STATUS_NACKS] [.out] s t) ∧
  (∀ a0 a1 s t, exec (.extest a0 a1) s = .next t → Changes [F.IDENT_SP_STATUS_INSTRUCTION] [.id_, .out] s t) ∧
  (∀ a0 a1 s t, exec (.samplePreload a0 a1) s = .next t → Changes [F.IDENT_SP_STATUS_INSTRUCTION] [.id_, .out] s t) ∧
  (∀ s t, exec .idcode s = .next t → Changes [F.IDENT_SP_STATUS_INSTRUCTION] [.out] s t) ∧
  (∀ a0 a1 s t, exec (.bypass a0 a1) s = .next t → Changes [F.IDENT_SP_STATUS_INSTRUCTION] [.out] s t) ∧
  (∀ s t, exec .tapReset s = .next t → Changes [F.IDENT_SP_STATUS_INSTRUCTION] [] s t) ∧
  (∀ a0 a1 s t, exec (.testModeEnter a0 a1) s = .next t → Changes (faultFields ++ [F.GLOBAL_ACCESS_STATUS_REFUSED,
    F.GLOBAL_ACCESS_STATUS_RESULT, F.GLOBAL_ACCESS_ADDR_ADDR, F.LOCKED_WRITES_COUNT, F.GLOBAL_IGNORED_RETIRED,
    F.IDENT_FUSE_TEST_MODE]) faultParts s t) ∧
  (∀ a0 s t, exec (.fuseBlow a0) s = .next t → Changes [F.IDENT_FUSE_FUSE_BUSY] [] s t) ∧
  (∀ s t, exec .fuseBlowDone s = .next t → Changes (faultFields ++ [F.FLT_INJECT_CTRL_BREAK, F.FLT_INJECT_STATUS_COUNT,
    F.FLT_WIRE_COUNT_COUNT, F.IDENT_FUSE_FIELD_BLOWN, F.IDENT_FUSE_TEST_MODE, F.IDENT_FUSE_FUSE_BUSY,
    F.IDENT_SP_STATUS_INSTRUCTION]) faultParts s t)

/-- R345, R351, R356, R361: where the commands that store into the attic store. A raw write changes only its LENGTH bytes from
START on, wrapped within its page; a log page write only the bytes of the page it writes; the end of a commit that wrote both
copies only those copies and the lifetime counters. Every other byte of the attic reads as before. -/
def Obligations.AtticStores : Prop :=
  (∀ (a : Nat) (s t : State), exec .atticMbRawWrite s = .next t → s.rd F.ATTIC_MB_LEN_START 0 < 256 →
    (∀ k < s.rd F.ATTIC_MB_LEN_LENGTH 0, a ≠ 256 * s.rd F.ATTIC_MB_ADDR_PAGE 0 + (s.rd F.ATTIC_MB_LEN_START 0 + k) % 256) →
    Memory.read t.at_.mem a = Memory.read s.at_.mem a) ∧
  (∀ (a : Nat) (s t : State), exec .logPageWrite s = .next t →
    (a < logAddr (s.rd F.ATTIC_LOG_STATUS_NEXT_PAGE 0) ∨
      logAddr (s.rd F.ATTIC_LOG_STATUS_NEXT_PAGE 0) + (logPageBytes s.at_.lap s.at_.logHeld).length ≤ a) →
    Memory.read t.at_.mem a = Memory.read s.at_.mem a) ∧
  (∀ (recs : List Nat) (lap : Nat), recs.length ≤ 7 → (logPageBytes lap recs).length = 256) ∧
  (∀ (us a : Nat) (q : AtticReq) (l : List AtticReq) (r : RecType) (s t : State), s.at_.port = q :: l →
    recType q.rtype = some r → q.repair = 0 → exec (.atticCommitDone none us) s = .next t →
    (a < copyAddr r q.inst false ∨ copyAddr r q.inst false + 32 + q.payload.length ≤ a) →
    (a < copyAddr r q.inst true ∨ copyAddr r q.inst true + 32 + q.payload.length ≤ a) →
    (a < 262144 ∨ 263168 ≤ a) → Memory.read t.at_.mem a = Memory.read s.at_.mem a)

/-- R345, R351, R361: the archive's bytes (pages 0–1023 with its reserve) change only where a commit ends or is stopped by
the supply's failing, where a raw write stores, and in commands that carry out register writes (a write of ATTIC_MB_CTRL or a
boot record's writes among them). No other command stores into them, a full reset among these. -/
def Obligations.ArchiveChangesOnlyThroughCommits : Prop :=
  ∀ (c : Instr) (s t : State), exec c s = .next t →
    (match c with
      | .atticCommitDone _ _ | .atticMbRawWrite | .lastGasp _ _ | .commitTick | .provisionalTick | .provisionalEpoch | .decisionEpoch
      | .bootReadDone | .smbBlockRead _ _ _ | .regacc _ _ _ => False
      | _ => True) →
    ∀ a, a < 262144 → Memory.read t.at_.mem a = Memory.read s.at_.mem a

/-- R17: at a commit tick the waiting writes apply in ascending master number, one master's in the order it issued them, so
that of several writes of one field the highest master's value remains; and a register that two masters wrote in the tick is
recorded once by source 70, WRITE_COLLISION, with its address and the lowest and highest master, and counted. -/
def Obligations.WritesApplyInMasterOrder : Prop :=
  (∀ s : State, s.tm.running = true → (∀ w ∈ s.cp.queue, w.master < 20) → ∃ l : List PendWrite, l.Perm s.cp.queue ∧
    l.Pairwise (fun a b => a.master ≤ b.master) ∧
    (∀ m, l.filter (fun w => w.master == m) = s.cp.queue.filter (fun w => w.master == m)) ∧
    ∃ u : State, u = s.advanceTo (nextBoundary unitsPerUs s.now) ∧ exec .commitTick s =
      .next (l.foldl State.applyWrite { u with cp := { u.cp with queue := [], written := [] } }).collisions) ∧
  (∀ (s : State) (a m n : Nat), m < n → n < 20 → (s.cp.written = [(a, m), (a, n)] ∨ s.cp.written = [(a, n), (a, m)]) →
    s.isRetired uMERGER = false → s.isIsolated uMERGER = false →
    s.collisions.rd F.GLOBAL_COLLISIONS_COUNT 0 = satTo 32 (s.rd F.GLOBAL_COLLISIONS_COUNT 0 + 1) ∧
    ∃ r, s.collisions.ev.held = r :: s.ev.held ∧ r.source = 70 ∧ r.detail = detail3 a m n) ∧
  (∀ (s : State) (a m : Nat), m < 20 → (s.cp.written = [(a, m)] ∨ s.cp.written = [(a, m), (a, m)]) →
    s.collisions = { s with cp := { s.cp with written := [] } })

/-- R30: the units of Table 1.5 and no others exist, each with its parent; an operation naming another ID completes with
NO_UNIT (code 0x0A) and without effect, from a bank and through the operation that UNIT_OP and the reactions share. -/
def Obligations.UnknownUnitsRefused : Prop :=
  (∀ u < 65536, unitExists u = true ↔ u ≤ 0x0002 ∨ (0x0010 ≤ u ∧ u ≤ 0x001A) ∨ (0x0100 ≤ u ∧ u ≤ 0x011B) ∨ (0x0120 ≤ u ∧ u ≤ 0x0123) ∨
    (0x0200 ≤ u ∧ u ≤ 0x022B) ∨ (0x0300 ≤ u ∧ u ≤ 0x037F) ∨ (0x0400 ≤ u ∧ u ≤ 0x040F) ∨ (0x0500 ≤ u ∧ u ≤ 0x0504) ∨
    (0x0510 ≤ u ∧ u ≤ 0x0527) ∨ u = 0x0600 ∨ (0x0610 ≤ u ∧ u ≤ 0x0613) ∨ (0x0620 ≤ u ∧ u ≤ 0x0621) ∨
    (0x0628 ≤ u ∧ u ≤ 0x0629) ∨ u = 0x0630 ∨ (0x0700 ≤ u ∧ u ≤ 0x0707) ∨ (0x0710 ≤ u ∧ u ≤ 0x0713) ∨
    (0x0800 ≤ u ∧ u ≤ 0x0801) ∨ (0x0810 ≤ u ∧ u ≤ 0x081F) ∨ u = 0x0900 ∨ (0x0911 ≤ u ∧ u ≤ 0x091F) ∨ u = 0x0920 ∨
    (0x0A00 ≤ u ∧ u ≤ 0x0A01) ∨ (0x0B00 ≤ u ∧ u ≤ 0x0B3F) ∨ (0x0C00 ≤ u ∧ u ≤ 0x0C01) ∨ (0x0C10 ≤ u ∧ u ≤ 0x0C11)) ∧
  (unitParent 0x0001 = none ∧ unitParent 0x0000 = some 0x0001 ∧ unitParent 0x0002 = some 0x0001) ∧
  (∀ u, 0x0010 ≤ u → u ≤ 0x001A → unitParent u = some 0x0000) ∧
  (∀ u, 0x0100 ≤ u → unitExists u = true → isLeaf u = true ∧
    unitParent u = some (if u / 256 = 1 then 0x10 else if u / 256 = 2 then 0x11 else 0x0E + u / 256)) ∧
  (∀ (s : State) (op u m : Nat) (who : Option Nat), unitExists u = false → op ≤ 5 →
    s.unitOp op u m who = (s, 0x0A, s.unitStatus u, false)) ∧
  (∀ (s : State) (bank : Fin 4) (u : Nat), unitExists u = false → s.rd F.GLOBAL_UNIT_RESULT_BUSY bank ≠ 1 →
    ∀ p ∈ unitCommands bank u, RefusedWith 0x0A bank p.2 s)

/-- R33: an un-retire or release of a unit while one of its ancestors carries a retire or isolate mark completes with
HELD_BY_GROUP (code 0x0B) and without effect, whether or not the unit also carries a mark. With no mark on an
ancestor, the operation clears the unit's own mark (an un-retire where the unit has been reset since it was retired and no
entry of the retire list has to be committed first). -/
def Obligations.HeldByGroup : Prop :=
  (∀ (s : State) (op u m a : Nat) (who : Option Nat), unitExists u = true → a ∈ unitAncestors u →
    (a ∈ s.un.retired ∨ a ∈ s.un.isolated) → (op = opRELEASE ∨ op = opUNRETIRE) →
    s.unitOp op u m who = (s, 0x0B, s.unitStatus u, false)) ∧
  (∀ (s : State) (bank : Fin 4) (u a : Nat), unitExists u = true → a ∈ unitAncestors u →
    (a ∈ s.un.retired ∨ a ∈ s.un.isolated) → s.rd F.GLOBAL_UNIT_RESULT_BUSY bank ≠ 1 →
    RefusedWith 0x0B bank (.unitRelease bank u) s ∧ RefusedWith 0x0B bank (.unitUnretire bank u) s) ∧
  (∀ (s : State) (bank : Fin 4) (u : Nat), unitExists u = true → 2 < u →
    (∀ a ∈ unitAncestors u, a ∉ s.un.retired ∧ a ∉ s.un.isolated) → s.rd F.GLOBAL_UNIT_RESULT_BUSY bank ≠ 1 →
    (∃ t, exec (.unitRelease bank u) s = .next t ∧ t.rd F.GLOBAL_UNIT_RESULT_CODE bank = 0 ∧
      t.un.isolated = s.un.isolated.filter (· != u) ∧ t.un.retired = s.un.retired) ∧
    ((u ∈ s.un.retired → u ∈ s.un.resetSince) → s.listChange opUNRETIRE u = none →
      ∃ t, exec (.unitUnretire bank u) s = .next t ∧ t.rd F.GLOBAL_UNIT_RESULT_CODE bank = 0 ∧
        t.un.retired = s.un.retired.filter (· != u) ∧ t.un.isolated = s.un.isolated)) ∧
  (∀ u, unitExists u = true → 2 < u → ∀ a, a ∈ unitAncestors u ↔
    unitParent u = some a ∧ a ≠ uPAIR ∨ ∃ g, unitParent u = some g ∧ unitParent g = some a ∧ a ≠ uPAIR)

/-- R34: only the status read acts on PAIR and PARTNER; any other operation on them completes with NOT_LOCAL (code 0x0C) and
without effect. -/
def Obligations.PairAndPartnerNotLocal : Prop :=
  (∀ (s : State) (op u m : Nat) (who : Option Nat), (u = 0x0001 ∨ u = 0x0002) → 1 ≤ op → op ≤ 5 →
    s.unitOp op u m who = (s, 0x0C, s.unitStatus u, false)) ∧
  (∀ (s : State) (bank : Fin 4) (u : Nat), (u = 0x0001 ∨ u = 0x0002) → s.rd F.GLOBAL_UNIT_RESULT_BUSY bank ≠ 1 →
    ∀ p ∈ unitCommands bank u, 1 ≤ p.1 → RefusedWith 0x0C bank p.2 s) ∧
  (∀ (s : State) (bank : Fin 4) (u : Nat), (u = 0x0001 ∨ u = 0x0002) → s.rd F.GLOBAL_UNIT_RESULT_BUSY bank ≠ 1 →
    ∃ t, exec (.unitStatus bank u) s = .next t ∧ t.rd F.GLOBAL_UNIT_RESULT_CODE bank = 0 ∧
      t.rd F.GLOBAL_UNIT_RESULT_UNIT_STATUS bank = s.unitStatus u % 256 ∧ t.un = s.un)

/-- R79: a reset or retire of the oscillator that is the present base (OCXO 0x0C10 with BASE 2, TCXO 0x0C11 with BASE 1) is
carried out when the other oscillator can become the base at once, that is qualified and, for the OCXO, WARM; otherwise it is
refused with NO_REDUNDANCY (code 0x0D) and nothing changes. -/
def Obligations.BaseOscillatorKept : Prop :=
  (∀ (s : State) (bank : Fin 4), s.rd F.GLOBAL_UNIT_RESULT_BUSY bank ≠ 1 → s.base = 2 → s.tcxoQual = false →
    RefusedWith 0x0D bank (.unitReset bank 0x0C10) s ∧ RefusedWith 0x0D bank (.unitRetire bank 0x0C10) s) ∧
  (∀ (s : State) (bank : Fin 4), s.rd F.GLOBAL_UNIT_RESULT_BUSY bank ≠ 1 → s.base = 1 →
    (s.ocxoQual = false ∨ s.ocxoWarm = false) →
    RefusedWith 0x0D bank (.unitReset bank 0x0C11) s ∧ RefusedWith 0x0D bank (.unitRetire bank 0x0C11) s) ∧
  (∀ (s : State) (bank : Fin 4) (u : Nat), s.rd F.GLOBAL_UNIT_RESULT_BUSY bank ≠ 1 →
    (u = 0x0C10 ∧ s.tcxoQual = true ∨ u = 0x0C11 ∧ s.ocxoQual = true ∧ s.ocxoWarm = true) →
    (∃ t, exec (.unitReset bank u) s = .next t ∧ t.rd F.GLOBAL_UNIT_RESULT_CODE bank = 0 ∧ t.un = (s.unitReset u none).un) ∧
    (∃ t, exec (.unitRetire bank u) s = .next t ∧ t.rd F.GLOBAL_UNIT_RESULT_CODE bank = 0 ∧ t.un = (s.unitMark u true).un))

/-- R27, R28: the merger releases, of the records whose time has come, one that no other of them precedes in key order (step
generation, time, source, order of production), and emits it; with none it does nothing. Stated where the held records are
of one step generation, whose serial order is then no matter. -/
def Obligations.MergerReleasesInKeyOrder : Prop :=
  ∀ s t : State, exec .mergerRelease s = .next t → (∀ a ∈ s.ev.held, ∀ b ∈ s.ev.held, a.gen = b.gen) →
    ((∀ r ∈ s.ev.held, s.releasable r = false) ∧ t = s) ∨
    ∃ r ∈ s.ev.held, s.releasable r = true ∧
      (∀ x ∈ s.ev.held, s.releasable x = true → ¬(x.time < r.time) ∧ (x.time = r.time → ¬(x.source < r.source)) ∧
        (x.time = r.time → x.source = r.source → r.order ≤ x.order)) ∧
      t = ({ s with ev := { s.ev with held := s.ev.held.erase r } }).emitRecord r

/-- R345, R347, R350, R351: a commit that wrote both copies of an archive record reads back: the record in force is then the
payload that was committed, in format version 1, with SEQ one higher than the record in force before, or 1 with none, and it
is in no conflict. -/
def Obligations.CommittedRecordReadsBack : Prop :=
  ∀ (us : Nat) (q : AtticReq) (l : List AtticReq) (r : RecType) (s t : State), s.at_.port = q :: l →
    recType q.rtype = some r → r.archive = true → q.inst < r.instances → q.payload.length ≤ r.maxLen →
    (∀ b ∈ q.payload, b < 256) → q.repair = 0 → exec (.atticCommitDone none us) s = .next t →
    (t.chooseCopy r q.inst).conflict = false ∧ ∃ x, (t.chooseCopy r q.inst).rcd = some x ∧ x.payload = q.payload ∧
      x.version = 1 ∧ x.seq = (match (s.chooseCopy r q.inst).rcd with
        | some y => (y.seq + 1) % 2 ^ 32
        | none => 1)

/-- R350: which copy of an archive record is used. A valid copy beside an invalid one; of two valid ones the one of higher
SEQ, as serial numbers modulo 2³²; with equal SEQ copy A, in conflict when the contents differ; none of two invalid ones. A
copy whose MAGIC is not 0xA77C is invalid. -/
def Obligations.NewestCopyUsed : Prop :=
  (∀ a b : Nat, a < 2 ^ 32 → b < 2 ^ 32 → (seqNewer a b = true ↔ a ≠ b ∧ (b < a ∧ a - b < 2 ^ 31 ∨ a < b ∧ 2 ^ 31 < b - a))) ∧
  (∀ (s : State) (a n : Nat), beNat (Memory.bytes s.at_.mem a 2) ≠ 0xA77C → s.readCopy a n = none) ∧
  (∀ (s : State) (r : RecType) (i : Nat) (x : RecCopy), s.readCopy (copyAddr r i false) r.maxLen = some x →
    s.readCopy (copyAddr r i true) r.maxLen = none → (s.chooseCopy r i).rcd = some x ∧ (s.chooseCopy r i).conflict = false) ∧
  (∀ (s : State) (r : RecType) (i : Nat) (y : RecCopy), s.readCopy (copyAddr r i false) r.maxLen = none →
    s.readCopy (copyAddr r i true) r.maxLen = some y → (s.chooseCopy r i).rcd = some y ∧ (s.chooseCopy r i).conflict = false) ∧
  (∀ (s : State) (r : RecType) (i : Nat), s.readCopy (copyAddr r i false) r.maxLen = none →
    s.readCopy (copyAddr r i true) r.maxLen = none → (s.chooseCopy r i).rcd = none) ∧
  (∀ (s : State) (r : RecType) (i : Nat) (x y : RecCopy), s.readCopy (copyAddr r i false) r.maxLen = some x →
    s.readCopy (copyAddr r i true) r.maxLen = some y → x.seq < 2 ^ 32 → y.seq < 2 ^ 32 →
    (seqNewer x.seq y.seq = true → (s.chooseCopy r i).rcd = some x ∧ (s.chooseCopy r i).conflict = false) ∧
    (seqNewer y.seq x.seq = true → (s.chooseCopy r i).rcd = some y ∧ (s.chooseCopy r i).conflict = false) ∧
    (x.seq = y.seq → (s.chooseCopy r i).rcd = some x ∧ ((s.chooseCopy r i).conflict = true ↔ x.content ≠ y.content)))

/-- R333, R334, R339, R340: a fault is recorded at its source's severity. Outside every settle window whose mask names it, one
of severity NOTE takes no latch entry, and one of higher severity takes the lowest free entry, or counts in the entry of its
source and unit; with an entry at or above ERR_MIN_SEV the error pins then show a fault. A consequential fault takes no latch
entry and starts no reaction. -/
def Obligations.FaultsTakeLatchEntries : Prop :=
  (∀ (n : Fin 53) (u a b : Nat) (s : State), n ≠ 0 → s.windowFor n s.now = none → s.severityOf n = sevNOTE →
    ∃ t, exec (.faultCause n u a b) s = .next t ∧ t.flt = s.flt) ∧
  (∀ (n : Fin 53) (u a b : Nat) (w : Window) (s : State), n ≠ 0 → s.windowFor n s.now = some w →
    ∃ t, exec (.faultCause n u a b) s = .next t ∧ t.flt = s.flt ∧
      (s.isRetired uMERGER = false → s.isIsolated uMERGER = false →
        ∃ r, t.ev.held = r :: s.ev.held ∧ r.source = n ∧ r.unit = u ∧ r.conseq = true ∧ r.severity = sevNOTE)) ∧
  (∀ (n : Fin 53) (u a b k : Nat) (s : State), n ≠ 0 → s.windowFor n s.now = none → sevNOTE < s.severityOf n →
    s.latchOf n u = none → s.freeLatch = k → k < 255 → Tab.find s.flt.latches k = none →
    ∃ t l, exec (.faultCause n u a b) s = .next t ∧ Tab.find t.flt.latches k = some l ∧ l.source = n ∧ l.unit = u ∧
      l.severity = s.severityOf n ∧ l.count = 1 ∧ l.firstTime = s.now ∧
      (max 1 (t.rd F.FLT_CFG_ERR_MIN_SEV 0) ≤ s.severityOf n → t.errPins = (false, true))) ∧
  (∀ (n : Fin 53) (u a b k : Nat) (l : Latch) (s : State), n ≠ 0 → s.windowFor n s.now = none → sevNOTE < s.severityOf n →
    s.latchOf n u = some k → Tab.find s.flt.latches k = some l →
    ∃ t, exec (.faultCause n u a b) s = .next t ∧ Tab.find t.flt.latches k = some { l with count := satTo 32 (l.count + 1) })

/-- R373: an SMBus register write with a wrong byte count, and one whose PEC does not match, is answered with a NACK and does
nothing: no write reaches the commit point. The first counts in NACKS, the second in PEC_ERRORS. -/
def Obligations.SmbusErrorsDoNothing : Prop :=
  (∀ (sa count : Nat) (data : List Nat) (pec : Option Nat) (s : State), s.smbHere sa = true → count ≠ 8 →
    ∃ t, exec (.smbBlockWrite sa count data pec) s = .next t ∧ t.cp = s.cp ∧ t.at_ = s.at_ ∧ t.out = .smbus none :: s.out ∧
      t.rd F.GLOBAL_SMB_STATUS_NACKS 0 = satTo F.GLOBAL_SMB_STATUS_NACKS.width (s.rd F.GLOBAL_SMB_STATUS_NACKS 0 + 1)) ∧
  (∀ (sa x : Nat) (data : List Nat) (s : State), s.smbHere sa = true → data.length = 8 →
    x ≠ smbPec ([sa * 2, 0x10, 8] ++ data) → s.at_.port = [] →
    ∃ t, exec (.smbBlockWrite sa 8 data (some x)) s = .next t ∧ t.cp = s.cp ∧ t.at_ = s.at_ ∧ t.out = .smbus none :: s.out ∧
      t.rd F.GLOBAL_SMB_STATUS_PEC_ERRORS 0 =
        satTo F.GLOBAL_SMB_STATUS_PEC_ERRORS.width (s.rd F.GLOBAL_SMB_STATUS_PEC_ERRORS 0 + 1))

/-- R5: no count of time reads as a T96 value with NANOSECONDS above 999,999,999, and a write of such a value to the wide item
SET_TIME (block 0x09, item 2) is refused with BAD_TIME: the mailbox and the access status show it, the time stays. -/
def Obligations.IllegalTimesRefused : Prop :=
  (∀ n : Nat, t96Legal (t96 n) = true) ∧
  (∀ (m : Fin 20) (b : Nat) (s : State), bankOf m = some b → s.smbMasked m 0x09 = false → s.notOwned m 0x09 = false →
    s.wideData b < 2 ^ 96 → t96Legal (s.wideData b) = false →
    ∃ t, exec (.wideWrite m 0x09 2) s = .next t ∧ t.tm = s.tm ∧ t.rd F.WIDE_STATUS_RESULT b = wrBAD_TIME ∧
      t.rd F.GLOBAL_ACCESS_STATUS_RESULT b = ocBAD_TIME)

/-- R367: a locked write is ignored as a whole. At the commit tick at which it is the one write waiting, no register field
changes but LOCKED_WRITES, the master's access and commit-time registers and those that raising source 41 may write; no part
but the commit point, the time and those of a fault; LOCKED_WRITES advances by one. -/
def Obligations.LockedWritesIgnored : Prop :=
  ∀ (s : State) (w : PendWrite) (r : Reg) (i : Nat), s.tm.running = true → s.cp.queue = [w] → isVf w.master = false →
    w.master < 20 →
    inClientWindow w.addr = false → placeOf w.master w.addr = some (r, i) →
    (∃ u : State, u = s.advanceTo (nextBoundary unitsPerUs s.now) ∧
      { u with cp := { u.cp with queue := [], written := [] } }.lockedWrite w.master r i (w.value % 2 ^ 32) = true) →
    ∃ t, exec .commitTick s = .next t ∧ t.rd F.LOCKED_WRITES_COUNT 0 = satTo 32 (s.rd F.LOCKED_WRITES_COUNT 0 + 1) ∧
      Changes (faultFields ++ [F.LOCKED_WRITES_COUNT, F.GLOBAL_ACCESS_STATUS_RESULT, F.GLOBAL_ACCESS_STATUS_REFUSED,
        F.GLOBAL_ACCESS_ADDR_ADDR, F.GLOBAL_COMMIT_TIME_NS]) (faultParts ++ [Part.cp, Part.tm]) s t

/-- R83: what a full reset leaves, by RESET_N (cause 2) and where the host or a reaction asked for one. Every register field
at every index is at its reset value, but for those that a full reset keeps (porch domain, live power conditions, straps,
fuses, the log's place; log 14), which are as before, and for the fields listed first, which it writes. Nothing of the
commit point, the units, the loops, the TDC or the services is left; the archive's bytes are as before. -/
def Obligations.FullResetLeaves : Prop :=
  ∀ (c : Nat) (s t : State), c < 16 →
    (c = 2 ∧ s.rd F.POWER_STATUS_RAILS_GOOD = 1 ∧ (∃ ns, 1000 ≤ ns ∧ exec (.resetNLow ns) s = .next t) ∨
      s.hs.resetDue = some c ∧ exec .fullResetStart s = .next t) →
    t.rd F.CLK_RESET_CAUSE_CAUSE = c ∧
    (∀ (f : Fld) (i : Nat), (∀ g ∈ faultFields ++ [F.CLK_RESET_CAUSE_CAUSE, F.ATTIC_LOG_STATUS_LAP,
        F.ATTIC_LOG_STATUS_NEXT_PAGE, F.HOST_LINK_SPEED, F.HOST_LINK_WIDTH, F.HOST_STATUS_NUM_VF, F.HOST_STATUS_D_STATE,
        F.HOST_RESET_INFO_LAST, F.HOST_RESET_INFO_COUNT], g.id ≠ f.id) →
      t.rd f i = if keptFields.any (fun g => g.id == f.id) then s.rd f i else f.reset i) ∧
    (∀ p ∈ [Part.cp, .un, .ck, .dp, .td, .ql, .tr, .sy, .po, .sv, .pk, .id_, .ep], p.same State.reset t) ∧
    Part.archive.same s t

/-- R357: an update of a lifetime counter adds its amount and goes to the slot that is not in force; the slot in force before
stays as it was, so that an update broken off loses nothing else. -/
def Obligations.LifetimeCountersAdvance : Prop :=
  ∀ (s : State) (n amount k q v : Nat), n < 16 → s.lifeRead n = some (k, q, v) → v + amount < 2 ^ 64 →
    (s.lifeWrite n amount).lifeRead n = some (1 - k, (q + 1) % 2 ^ 32, v + amount) ∧
    (s.lifeWrite n amount).lifeSlot n k = s.lifeSlot n k ∧
    ∀ j, j < 16 → j ≠ n → (s.lifeWrite n amount).lifeRead j = s.lifeRead j

/-- R15–R20, R373, R379: what these commands may change where no register write waits: the ticks, an epoch at whose boundary
nothing decided before waits to take effect, and reads by masters 16 and 18 that have none of their own writes waiting
    (R19). What an
epoch decides waits in `ep` for the next one. -/
def Obligations.TicksEpochsAndReadsFrames : Prop :=
  (∀ s t, s.cp.queue = [] → exec .commitTick s = .next t → Changes [] [.cp, .tm] s t) ∧
  (∀ s t, s.cp.queue = [] → exec .provisionalTick s = .next t → Changes [] [.cp] s t) ∧
  (∀ s t, s.cp.queue = [] → s.ep.effects = [] → (s.tm.stepEpoch = false ∧ s.tm.ordered = none ∧ exec .decisionEpoch s =
    .next t) ∨ exec .provisionalEpoch s = .next t → Changes [F.CLK_MUX_STATUS_GATED, F.CLK_MUX_STATUS_PENDING,
    F.CLK_MUX_STATUS_INPUT, F.CLK_BASE_STATUS_APLL0_LOCKED, F.CLK_BASE_STATUS_TK_ON_PATH, F.CLK_BASE_STATUS_MOVING,
    F.CLK_BASE_STATUS_MOVE_PENDING, F.CLK_STAGE_STATUS_STAGE, F.CLK_STAGE_STATUS_LAST_DOWN_CAUSE, F.CLK_XING_STATUS_STATE,
    F.QM_STATUS_STATE, F.QM_STATUS_CAUSE, F.DP_STATUS_EVER_LOCKED, F.DP_STATUS_LOCK_OK, F.DP_STATUS_SLOPE_LIMITED,
    F.DP_STATUS_STATE, F.DP_COUNTS_SWITCHES, F.OUT_DIV_ACTIVE_DIV, F.OUT_DIV_ACTIVE_PRESCALE, F.OUT_SHUTTERS_COUNT,
    F.APLL_STATUS_LOCKED, F.SYNTH_COMMIT_STATUS_FIRST_BAD, F.SYNTH_COMMIT_STATUS_REASON, F.SYNTH_COMMIT_STATUS_RESULT,
    F.SYNTH_COMMIT_STATUS_SEQ, F.TIME_STATUS_DPLL, F.TIME_STATUS_VALID, F.PK_STATUS_ANN_GRANTED, F.PK_STATUS_DRESP_GRANTED,
    F.PK_STATUS_SYNC_GRANTED, F.PK_STATUS_STATE, F.PK_WINDOW_SPREAD_NS, F.PK_WINDOW_N_REV, F.PK_WINDOW_N_FWD,
    F.HOST_MSIX_SENT_COUNT, F.PEER_STATUS_CLAIM_OUT, F.PEER_STATUS_PAIR_STATE, F.GLOBAL_STAGE_CHANGES] (faultParts ++
    [Part.cp,
    Part.un, Part.tm, Part.ck, Part.dp, Part.at_, Part.td, Part.ql, Part.tr, Part.sy, Part.sv, Part.pk, Part.ep]) s t) ∧
  (∀ a0 a1 a2 s t, (s.cp.queue.any fun w => w.master == 16) = false → exec (.smbBlockRead a0 a1 a2) s = .next t → Changes
    [F.CLK_XING_STATUS_RETIRED_COUNT, F.SVC_TBL_STATUS_DIRECT, F.ATTIC_MB_ADDR_OFFSET, F.GLOBAL_ACCESS_STATUS_REFUSED,
    F.GLOBAL_ACCESS_STATUS_RESULT, F.GLOBAL_ACCESS_ADDR_ADDR, F.GLOBAL_IGNORED_IGNORED, F.GLOBAL_IGNORED_RETIRED,
    F.GLOBAL_SMB_STATUS_NACKS] [.out, .freeCtr] s t) ∧
  (∀ a0 a1 a2 s t, (s.cp.queue.any fun w => w.master == 18) = false → exec (.regacc a0 a1 a2) s = .next t → Changes
    [F.CLK_XING_STATUS_RETIRED_COUNT, F.SVC_TBL_STATUS_DIRECT, F.ATTIC_MB_ADDR_OFFSET, F.GLOBAL_ACCESS_STATUS_REFUSED,
    F.GLOBAL_ACCESS_STATUS_RESULT, F.GLOBAL_ACCESS_ADDR_ADDR, F.GLOBAL_IGNORED_IGNORED, F.GLOBAL_IGNORED_RETIRED,
    F.IDENT_SP_STATUS_INSTRUCTION, F.IDENT_SP_STATUS_ACCESSES] [.cp, .id_, .out, .freeCtr] s t)
end

