-- ==== Sys2Proof/Laws/Tab.lean ====
section
/-! SUPPORT. Laws of tables and byte memories: what a lookup reads after a write, and that every operation keeps the
canonical form. -/

set_option Elab.async false

namespace Sys2Proof.Machine

variable {α : Type}

@[simp] theorem Tab.find_nil (n : Nat) : Tab.find ([] : Tab α) n = none := rfl

theorem Tab.find_erase_self (t : Tab α) (n : Nat) : (t.erase n).find n = none := by
  induction t with
  | nil => rfl
  | cons p r ih =>
    obtain ⟨k, v⟩ := p
    by_cases h : n = k
    · simpa [Tab.erase, h] using (by simpa [h] using ih)
    · simp [Tab.erase, h, Tab.find, ih]

theorem Tab.find_erase_ne (t : Tab α) {n k : Nat} (h : k ≠ n) : (t.erase n).find k = t.find k := by
  induction t with
  | nil => rfl
  | cons p r ih =>
    obtain ⟨j, v⟩ := p
    by_cases hj : n = j
    · subst hj; simp [Tab.erase, Tab.find, h, ih]
    · by_cases hk : k = j <;> simp [Tab.erase, Tab.find, hj, hk, ih]

theorem Tab.find_ins_self (t : Tab α) (n : Nat) (x : α) (h : t.find n = none) : (t.ins n x).find n = some x := by
  induction t with
  | nil => simp [Tab.ins, Tab.find]
  | cons p r ih =>
    obtain ⟨k, v⟩ := p
    by_cases hk : n = k
    · simp [Tab.find, hk] at h
    · rw [Tab.find, if_neg hk] at h
      by_cases hl : n < k <;> simp [Tab.ins, Tab.find, hl, hk, ih h]

theorem Tab.find_ins_ne (t : Tab α) {n k : Nat} (x : α) (h : k ≠ n) : (t.ins n x).find k = t.find k := by
  induction t with
  | nil => simp [Tab.ins, Tab.find, h]
  | cons p r ih =>
    obtain ⟨j, v⟩ := p
    by_cases hl : n < j
    · simp [Tab.ins, Tab.find, hl, h]
    · by_cases hk : k = j <;> simp [Tab.ins, Tab.find, hl, hk, ih]

/-- Writing a key makes it read the value. -/
theorem Tab.find_put_self (t : Tab α) (n : Nat) (x : α) : (t.put n x).find n = some x :=
  Tab.find_ins_self _ _ _ (Tab.find_erase_self t n)

/-- Writing a key leaves the others. -/
theorem Tab.find_put_ne (t : Tab α) {n k : Nat} (x : α) (h : k ≠ n) : (t.put n x).find k = t.find k := by
  rw [Tab.put, Tab.find_ins_ne _ _ h, Tab.find_erase_ne _ h]

section
variable [DecidableEq α]

theorem Tab.find_set_ne (t : Tab α) {n k : Nat} (x d : α) (h : k ≠ n) : (t.set n x d).find k = t.find k := by
  unfold Tab.set
  split
  · exact Tab.find_erase_ne t h
  · exact Tab.find_put_ne t x h

@[simp] theorem Tab.at_set_self (t : Tab α) (n : Nat) (x d : α) : (t.set n x d).at n d = x := by
  unfold Tab.at Tab.set
  split
  · rename_i h; simp [Tab.find_erase_self, h]
  · simp [Tab.find_put_self]

theorem Tab.at_set_ne (t : Tab α) {n k : Nat} (x d e : α) (h : k ≠ n) : (t.set n x d).at k e = t.at k e := by
  rw [Tab.at, Tab.at, Tab.find_set_ne t x d h]

end

/-! The canonical form. -/

theorem Tab.mem_erase {t : Tab α} {n : Nat} {p : Nat × α} (h : p ∈ t.erase n) : p ∈ t := by
  induction t with
  | nil => exact h
  | cons q r ih =>
    obtain ⟨k, v⟩ := q
    by_cases hk : n = k
    · simp only [Tab.erase, if_pos hk] at h; exact List.mem_cons_of_mem _ (ih h)
    · simp only [Tab.erase, if_neg hk, List.mem_cons] at h
      rcases h with h | h
      · simp [h]
      · exact List.mem_cons_of_mem _ (ih h)

theorem Tab.mem_erase_ne {t : Tab α} {n : Nat} {p : Nat × α} (h : p ∈ t.erase n) : p.1 ≠ n := by
  induction t with
  | nil => cases h
  | cons q r ih =>
    obtain ⟨k, v⟩ := q
    by_cases hk : n = k
    · simp only [Tab.erase, if_pos hk] at h; exact ih h
    · simp only [Tab.erase, if_neg hk, List.mem_cons] at h
      rcases h with h | h
      · subst h; exact fun e => hk e.symm
      · exact ih h

theorem Tab.mem_ins {t : Tab α} {n : Nat} {x : α} {p : Nat × α} (h : p ∈ t.ins n x) : p = (n, x) ∨ p ∈ t := by
  induction t with
  | nil => simpa [Tab.ins] using h
  | cons q r ih =>
    obtain ⟨k, v⟩ := q
    by_cases hk : n < k
    · simpa [Tab.ins, hk] using h
    · simp only [Tab.ins, if_neg hk, List.mem_cons] at h
      rcases h with h | h
      · simp [h]
      · rcases ih h with h | h
        · exact .inl h
        · exact .inr (List.mem_cons_of_mem _ h)

theorem Tab.sorted_cons {k : Nat} {v : α} {r : Tab α} :
    Tab.sorted ((k, v) :: r) = true ↔ (∀ p ∈ r, k < p.1) ∧ Tab.sorted r = true := by
  simp [Tab.sorted]

theorem Tab.sorted_erase {t : Tab α} (n : Nat) (h : t.sorted = true) : (t.erase n).sorted = true := by
  induction t with
  | nil => rfl
  | cons q r ih =>
    obtain ⟨k, v⟩ := q
    obtain ⟨h1, h2⟩ := Tab.sorted_cons.1 h
    by_cases hk : n = k
    · simpa [Tab.erase, hk] using (by simpa [hk] using ih h2)
    · rw [Tab.erase, if_neg hk]
      exact Tab.sorted_cons.2 ⟨fun p hp => h1 p (Tab.mem_erase hp), ih h2⟩

theorem Tab.sorted_ins {t : Tab α} {n : Nat} (x : α) (h : t.sorted = true) (hn : ∀ p ∈ t, p.1 ≠ n) :
    (t.ins n x).sorted = true := by
  induction t with
  | nil => simp [Tab.ins, Tab.sorted]
  | cons q r ih =>
    obtain ⟨k, v⟩ := q
    obtain ⟨h1, h2⟩ := Tab.sorted_cons.1 h
    have hk : k ≠ n := hn (k, v) (by simp)
    by_cases hl : n < k
    · rw [Tab.ins, if_pos hl]
      refine Tab.sorted_cons.2 ⟨fun p hp => ?_, h⟩
      rcases List.mem_cons.1 hp with hp | hp
      · simpa [hp] using hl
      · exact lt_trans hl (h1 p hp)
    · rw [Tab.ins, if_neg hl]
      refine Tab.sorted_cons.2 ⟨fun p hp => ?_, ih h2 fun p hp => hn p (List.mem_cons_of_mem _ hp)⟩
      rcases Tab.mem_ins hp with hp | hp
      · subst hp; show k < n; omega
      · exact h1 p hp

theorem Tab.sorted_put {t : Tab α} (n : Nat) (x : α) (h : t.sorted = true) : (t.put n x).sorted = true :=
  Tab.sorted_ins x (Tab.sorted_erase n h) fun _ hp => Tab.mem_erase_ne hp

theorem Tab.sorted_set [DecidableEq α] {t : Tab α} (n : Nat) (x d : α) (h : t.sorted = true) :
    (t.set n x d).sorted = true := by
  unfold Tab.set
  split
  · exact Tab.sorted_erase n h
  · exact Tab.sorted_put n x h

theorem Tab.sorted_filter {t : Tab α} (f : Nat × α → Bool) (h : t.sorted = true) :
    Tab.sorted (t.filter f) = true := by
  induction t with
  | nil => rfl
  | cons q r ih =>
    obtain ⟨k, v⟩ := q
    obtain ⟨h1, h2⟩ := Tab.sorted_cons.1 h
    rw [List.filter_cons]
    split
    · exact Tab.sorted_cons.2 ⟨fun p hp => h1 p (List.mem_of_mem_filter hp), ih h2⟩
    · exact ih h2

/-! Byte memories. -/

/-- A byte written is read back. -/
@[simp] theorem Memory.read_write_self (m : Memory) (a : Nat) (b : BitVec 8) : (Memory.write m a b).read a = b :=
  Tab.at_set_self m a b Memory.blank

/-- Every other byte reads as before. -/
theorem Memory.read_write_ne (m : Memory) {a k : Nat} (b : BitVec 8) (h : k ≠ a) :
    (Memory.write m a b).read k = Memory.read m k := Tab.at_set_ne m b Memory.blank Memory.blank h

theorem Memory.wf_iff (m : Memory) : Memory.wf m = true ↔ Tab.sorted m = true ∧ ∀ p ∈ m, p.2 ≠ Memory.blank := by
  induction m with
  | nil => simp [Memory.wf, Tab.sorted]
  | cons q r ih =>
    obtain ⟨k, v⟩ := q
    simp only [Memory.wf, Tab.sorted, Bool.and_eq_true, decide_eq_true_eq, ih, List.mem_cons, forall_eq_or_imp]
    tauto

/-- A write keeps the canonical form. -/
theorem Memory.wf_write {m : Memory} (a : Nat) (b : BitVec 8) (h : Memory.wf m = true) :
    Memory.wf (Memory.write m a b) = true := by
  obtain ⟨h1, h2⟩ := (Memory.wf_iff m).1 h
  refine (Memory.wf_iff _).2 ⟨Tab.sorted_set a b _ h1, fun p hp => ?_⟩
  unfold Memory.write Tab.set at hp
  split at hp
  · exact h2 p (Tab.mem_erase hp)
  · rename_i hb
    rcases Tab.mem_ins hp with hp | hp
    · subst hp; exact hb
    · exact h2 p (Tab.mem_erase hp)

/-- A run of writes keeps the canonical form. -/
theorem Memory.wf_writeBytes {m : Memory} (a : Nat) (l : List Nat) (h : Memory.wf m = true) :
    Memory.wf (Memory.writeBytes m a l) = true := by
  induction l generalizing m a with
  | nil => exact h
  | cons b r ih => exact ih (a + 1) (Memory.wf_write a _ h)

/-- A run of writes leaves every byte outside it. -/
theorem Memory.read_writeBytes_out (m : Memory) (a : Nat) (l : List Nat) (k : Nat) (h : k < a ∨ a + l.length ≤ k) :
    (Memory.writeBytes m a l).read k = Memory.read m k := by
  induction l generalizing m a with
  | nil => rfl
  | cons b r ih =>
    simp only [List.length_cons] at h
    rw [Memory.writeBytes, ih _ (a + 1) (by omega), Memory.read_write_ne _ _ (by omega)]

/-- A run of writes is read back, byte by byte. -/
theorem Memory.read_writeBytes_in (m : Memory) (a : Nat) (l : List Nat) (j : Nat) (h : j < l.length) :
    (Memory.writeBytes m a l).read (a + j) = BitVec.ofNat 8 l[j] := by
  induction l generalizing m a j with
  | nil => simp at h
  | cons b r ih =>
    rw [Memory.writeBytes]
    cases j with
    | zero => rw [Memory.read_writeBytes_out _ _ _ _ (by omega)]; simp
    | succ i =>
      have := ih (Memory.write m a (BitVec.ofNat 8 b)) (a + 1) i (by simpa using h)
      simpa [Nat.add_assoc, Nat.add_comm 1 i] using this

end Sys2Proof.Machine
end

