-- ==== Sys2Proof/Laws/Bytes.lean ====
section
/-! SUPPORT. Runs of bytes: reading back what was written, numbers as bytes, the range of a CRC. -/

set_option Elab.async false

namespace Sys2Proof.Machine

/-- A run of bytes has the length asked for. -/
theorem Memory.bytes_length (m : Memory) (a n : Nat) : (Memory.bytes m a n).length = n := by simp [Memory.bytes]

/-- The number of a run with an accumulator in front. -/
theorem beNat_fold (l : List Nat) (a : Nat) : l.foldl (fun a b => a * 256 + b % 256) a = a * 256 ^ l.length + l.foldl (fun a b => a * 256 + b % 256) 0 := by
  induction l generalizing a with
  | nil => simp
  | cons x r ih =>
    simp only [List.foldl_cons, List.length_cons]
    rw [ih (a * 256 + x % 256), ih (0 * 256 + x % 256)]
    ring

/-- A number written as bytes reads back, modulo the bytes' range. -/
theorem beNat_beBytes (n v : Nat) : beNat (beBytes n v) = v % 256 ^ n := by
  induction n with
  | zero => simp [beBytes, beNat, Nat.mod_one]
  | succ n ih =>
    have e : beBytes (n + 1) v = (v / 256 ^ n % 256) :: beBytes n v := by
      unfold beBytes
      rw [List.range_succ_eq_map]
      simp only [List.map_cons, List.map_map]
      refine List.cons_eq_cons.2 ⟨by simp, ?_⟩
      apply List.map_congr_left
      intro k hk
      simp only [Function.comp, Nat.succ_eq_add_one]
      congr 3; omega
    have : beNat (beBytes (n+1) v) = (v / 256 ^ n % 256) * 256 ^ n + beNat (beBytes n v) := by
      rw [e]
      unfold beNat
      rw [List.foldl_cons, beNat_fold]
      have : (beBytes n v).length = n := by simp [beBytes]
      rw [this, Nat.zero_mul, Nat.zero_add, Nat.mod_mod]
    rw [this, ih, Nat.pow_succ, Nat.mod_mul]
    ring

/-- Length of a number as bytes. -/
theorem beBytes_length (n v : Nat) : (beBytes n v).length = n := by simp [beBytes]

/-- Each byte of a number is below 256. -/
theorem beBytes_lt (n v : Nat) : ∀ x ∈ beBytes n v, x < 256 := by
  intro x hx; simp only [beBytes, List.mem_map] at hx; obtain ⟨k, _, rfl⟩ := hx; exact Nat.mod_lt _ (by decide)

/-- Bytes read within a run just written. -/
theorem Memory.bytes_writeBytes_in (m : Memory) (a : Nat) (l : List Nat) (hl : ∀ x ∈ l, x < 256) (j n : Nat) (h : j + n ≤ l.length) :
    Memory.bytes (Memory.writeBytes m a l) (a + j) n = (l.drop j).take n := by
  unfold Memory.bytes
  apply List.ext_getElem
  · simp; omega
  · intro i h1 h2
    simp at h1
    simp only [List.getElem_map, List.getElem_range, List.getElem_take, List.getElem_drop]
    rw [show a + j + i = a + (j + i) by omega, Memory.read_writeBytes_in m a l (j + i) (by omega)]
    simp
    have := hl (l[j + i]'(by omega)) (List.getElem_mem _)
    omega

/-- Bytes read outside a run just written. -/
theorem Memory.bytes_writeBytes_out (m : Memory) (a : Nat) (l : List Nat) (b n : Nat) (h : b + n ≤ a ∨ a + l.length ≤ b) :
    Memory.bytes (Memory.writeBytes m a l) b n = Memory.bytes m b n := by
  unfold Memory.bytes
  apply List.map_congr_left
  intro k hk
  simp at hk
  rw [Memory.read_writeBytes_out m a l (b + k) (by omega)]

/-- A run of bytes as a number is within its range. -/
theorem beNat_lt (l : List Nat) : beNat l < 256 ^ l.length := by
  have : ∀ l : List Nat, l.foldl (fun a b => a * 256 + b % 256) 0 < 256 ^ l.length := by
    intro l
    induction l with
    | nil => simp
    | cons x r ih =>
      rw [List.foldl_cons, beNat_fold, List.length_cons, Nat.pow_succ]
      have : x % 256 ≤ 255 := by omega
      have := Nat.mul_le_mul_right (256 ^ r.length) this
      rw [Nat.zero_mul, Nat.zero_add]
      omega
  exact this l

/-- One bit step of the CRC stays within 32 bits. -/
theorem crcBit_lt (c : Nat) (h : c < 2 ^ 32) : crcBit c < 2 ^ 32 := by
  unfold crcBit
  split
  · exact Nat.xor_lt_two_pow (by omega) (by decide)
  · omega

/-- One byte step of the CRC stays within 32 bits. -/
theorem crcByte_lt (c b : Nat) (h : c < 2 ^ 32) : crcByte c b < 2 ^ 32 := by
  unfold crcByte
  have : ∀ (l : List Nat) (x : Nat), x < 2 ^ 32 → l.foldl (fun x _ => crcBit x) x < 2 ^ 32 := by
    intro l; induction l with
    | nil => exact fun x h => h
    | cons y r ih => exact fun x h => ih _ (crcBit_lt _ h)
  exact this _ _ (Nat.xor_lt_two_pow h (by omega))

/-- A CRC-32C is a 32-bit number. -/
theorem crc32c_lt (l : List Nat) : crc32c l < 256 ^ 4 := by
  unfold crc32c
  have : ∀ (l : List Nat) (x : Nat), x < 2 ^ 32 → l.foldl crcByte x < 2 ^ 32 := by
    intro l; induction l with
    | nil => exact fun x h => h
    | cons y r ih => exact fun x h => ih _ (crcByte_lt _ _ h)
  have h := Nat.xor_lt_two_pow (this l 0xFFFFFFFF (by decide)) (show 0xFFFFFFFF < 2 ^ 32 by decide)
  exact h

/-- A part of a run of bytes. -/
theorem Memory.bytes_sub (m : Memory) (a N j n : Nat) (h : j + n ≤ N) : Memory.bytes m (a + j) n = ((Memory.bytes m a N).drop j).take n := by
  unfold Memory.bytes
  apply List.ext_getElem
  · simp; omega
  · intro i h1 h2
    simp only [List.getElem_map, List.getElem_range, List.getElem_take, List.getElem_drop]
    rw [Nat.add_assoc]

/-- Runs of bytes of two memories that agree on them. -/
theorem Memory.bytes_congr (m m' : Memory) (a n : Nat) (h : ∀ k < n, Memory.read m' (a + k) = Memory.read m (a + k)) :
    Memory.bytes m' a n = Memory.bytes m a n := by
  unfold Memory.bytes
  apply List.map_congr_left
  intro k hk; rw [h k (List.mem_range.1 hk)]

end Sys2Proof.Machine
end

