-- ==== Sys2Proof/Laws/Keeps.lean ====
section
/-! SUPPORT. What an operation may change. `Keeps S M s t` says of a state t that followed s: a register field whose number
is no bit of S reads as before (unless M has P.regs: then any register may have changed), a part of the state that is no bit of M (the numbers `P.…`) is as before, the queue of
commands is the same, what had left the module is still the tail of what has left it, and the canonical forms of the
register table and of the attic's memories are kept. Every operation has one lemma `…_keeps`, in chained form. -/

set_option Elab.async false

namespace Sys2Proof.Machine

/-- The numbers of the parts of the state in a mask. -/
abbrev P.cp : Nat := 1
abbrev P.ev : Nat := 2
abbrev P.flt : Nat := 4
abbrev P.un : Nat := 8
abbrev P.tm : Nat := 16
abbrev P.pr : Nat := 32
abbrev P.pw : Nat := 64
abbrev P.ck : Nat := 128
abbrev P.dp : Nat := 256
abbrev P.at_ : Nat := 512
abbrev P.td : Nat := 1024
abbrev P.ql : Nat := 2048
abbrev P.tr : Nat := 4096
abbrev P.sy : Nat := 8192
abbrev P.hs : Nat := 16384
abbrev P.po : Nat := 32768
abbrev P.sv : Nat := 65536
abbrev P.pk : Nat := 131072
abbrev P.id_ : Nat := 262144
abbrev P.ep : Nat := 524288
abbrev P.out : Nat := 1048576
abbrev P.freeCtr : Nat := 2097152
abbrev P.regs : Nat := 4194304
/-- Bytes of the attic outside the lifetime counters; the staging buffer; any byte of the attic. -/
abbrev P.recs : Nat := 8388608
abbrev P.stg : Nat := 16777216
abbrev P.mem : Nat := 33554432
/-- Bytes of the archive and of its reserve: those below page 1024. -/
abbrev P.arch : Nat := 67108864

/-- Every bit of a is one of b. -/
abbrev Sub (a b : Nat) : Prop := a ||| b = b

theorem Sub.refl (a : Nat) : Sub a a := Nat.or_self a

theorem Sub.tr {a b c : Nat} (h : Sub b c) (g : Sub a b) : Sub a c := by
  unfold Sub at *; rw [← h, ← Nat.or_assoc, g]

theorem Sub.left (a b : Nat) : Sub a (a ||| b) := by unfold Sub; rw [← Nat.or_assoc, Nat.or_self]

/-- A bit of a mask is one of every greater mask. -/
theorem Sub.bit {a b i : Nat} (h : Sub a b) (g : a.testBit i = true) : b.testBit i = true := by
  rw [← h, Nat.testBit_or, g, Bool.true_or]

theorem Sub.out {a b i : Nat} (h : Sub a b) (g : b.testBit i = false) : a.testBit i = false := by
  cases e : a.testBit i with
  | false => rfl
  | true => rw [h.bit e] at g; cases g

structure Keeps (S M : Nat) (s t : State) : Prop where
  regs : M.testBit 22 = false → ∀ k, S.testBit (k / 65536) = false → Tab.find t.regs k = Tab.find s.regs k
  sorted : Tab.sorted s.regs = true → Tab.sorted t.regs = true
  mem : Memory.wf s.at_.mem = true → Memory.wf t.at_.mem = true
  staging : Memory.wf s.at_.staging = true → Memory.wf t.at_.staging = true
  outs : s.out <:+ t.out
  pending : t.pending = s.pending
  cp : M.testBit 0 = false → t.cp = s.cp
  ev : M.testBit 1 = false → t.ev = s.ev
  flt : M.testBit 2 = false → t.flt = s.flt
  un : M.testBit 3 = false → t.un = s.un
  tm : M.testBit 4 = false → t.tm = s.tm
  pr : M.testBit 5 = false → t.pr = s.pr
  pw : M.testBit 6 = false → t.pw = s.pw
  ck : M.testBit 7 = false → t.ck = s.ck
  dp : M.testBit 8 = false → t.dp = s.dp
  at_ : M.testBit 9 = false → t.at_ = s.at_
  td : M.testBit 10 = false → t.td = s.td
  ql : M.testBit 11 = false → t.ql = s.ql
  tr : M.testBit 12 = false → t.tr = s.tr
  sy : M.testBit 13 = false → t.sy = s.sy
  hs : M.testBit 14 = false → t.hs = s.hs
  po : M.testBit 15 = false → t.po = s.po
  sv : M.testBit 16 = false → t.sv = s.sv
  pk : M.testBit 17 = false → t.pk = s.pk
  id_ : M.testBit 18 = false → t.id_ = s.id_
  ep : M.testBit 19 = false → t.ep = s.ep
  out : M.testBit 20 = false → t.out = s.out
  freeCtr : M.testBit 21 = false → t.freeCtr = s.freeCtr
  recs : M.testBit 23 = false → ∀ a, a < 262144 ∨ 263168 ≤ a → Memory.read t.at_.mem a = Memory.read s.at_.mem a
  stg : M.testBit 24 = false → t.at_.staging = s.at_.staging
  bytes : M.testBit 25 = false → t.at_.mem = s.at_.mem
  arch : M.testBit 26 = false → ∀ a, a < 262144 → Memory.read t.at_.mem a = Memory.read s.at_.mem a

variable {S M : Nat} {s t u : State}

theorem Keeps.refl (S M : Nat) (s : State) : Keeps S M s s where
  regs _ _ _ := rfl
  sorted := id
  mem := id
  staging := id
  outs := List.suffix_refl _
  pending := rfl
  cp _ := rfl
  ev _ := rfl
  flt _ := rfl
  un _ := rfl
  tm _ := rfl
  pr _ := rfl
  pw _ := rfl
  ck _ := rfl
  dp _ := rfl
  at_ _ := rfl
  td _ := rfl
  ql _ := rfl
  tr _ := rfl
  sy _ := rfl
  hs _ := rfl
  po _ := rfl
  sv _ := rfl
  pk _ := rfl
  id_ _ := rfl
  ep _ := rfl
  out _ := rfl
  freeCtr _ := rfl
  recs _ _ _ := rfl
  stg _ := rfl
  bytes _ := rfl
  arch _ _ _ := rfl

theorem Keeps.trans (h : Keeps S M s t) (g : Keeps S M t u) : Keeps S M s u where
  regs x k hk := (g.regs x k hk).trans (h.regs x k hk)
  sorted := g.sorted ∘ h.sorted
  mem := g.mem ∘ h.mem
  staging := g.staging ∘ h.staging
  outs := h.outs.trans g.outs
  pending := g.pending.trans h.pending
  cp x := (g.cp x).trans (h.cp x)
  ev x := (g.ev x).trans (h.ev x)
  flt x := (g.flt x).trans (h.flt x)
  un x := (g.un x).trans (h.un x)
  tm x := (g.tm x).trans (h.tm x)
  pr x := (g.pr x).trans (h.pr x)
  pw x := (g.pw x).trans (h.pw x)
  ck x := (g.ck x).trans (h.ck x)
  dp x := (g.dp x).trans (h.dp x)
  at_ x := (g.at_ x).trans (h.at_ x)
  td x := (g.td x).trans (h.td x)
  ql x := (g.ql x).trans (h.ql x)
  tr x := (g.tr x).trans (h.tr x)
  sy x := (g.sy x).trans (h.sy x)
  hs x := (g.hs x).trans (h.hs x)
  po x := (g.po x).trans (h.po x)
  sv x := (g.sv x).trans (h.sv x)
  pk x := (g.pk x).trans (h.pk x)
  id_ x := (g.id_ x).trans (h.id_ x)
  ep x := (g.ep x).trans (h.ep x)
  out x := (g.out x).trans (h.out x)
  freeCtr x := (g.freeCtr x).trans (h.freeCtr x)
  recs x a ha := (g.recs x a ha).trans (h.recs x a ha)
  stg x := (g.stg x).trans (h.stg x)
  bytes x := (g.bytes x).trans (h.bytes x)
  arch x a ha := (g.arch x a ha).trans (h.arch x a ha)

/-- A register field outside the mask reads as before. -/
theorem Keeps.rd (h : Keeps S M s t) (f : Fld) (i : Nat) (hM : M.testBit 22 = false)
    (hf : S.testBit f.id = false) : t.rd f i = s.rd f i := by
  have hk : f.key i / 65536 = f.id := by unfold Fld.key; omega
  simp only [State.rd, Tab.at, h.regs hM (f.key i) (by rw [hk]; exact hf)]

/-- The masks may grow. -/
theorem Keeps.mono {S' M' : Nat} (h : Keeps S M s t) (hS : Sub S S') (hM : Sub M M') : Keeps S' M' s t where
  regs x k hk := h.regs (hM.out x) k (hS.out hk)
  sorted := h.sorted
  mem := h.mem
  staging := h.staging
  outs := h.outs
  pending := h.pending
  cp x := h.cp (hM.out x)
  ev x := h.ev (hM.out x)
  flt x := h.flt (hM.out x)
  un x := h.un (hM.out x)
  tm x := h.tm (hM.out x)
  pr x := h.pr (hM.out x)
  pw x := h.pw (hM.out x)
  ck x := h.ck (hM.out x)
  dp x := h.dp (hM.out x)
  at_ x := h.at_ (hM.out x)
  td x := h.td (hM.out x)
  ql x := h.ql (hM.out x)
  tr x := h.tr (hM.out x)
  sy x := h.sy (hM.out x)
  hs x := h.hs (hM.out x)
  po x := h.po (hM.out x)
  sv x := h.sv (hM.out x)
  pk x := h.pk (hM.out x)
  id_ x := h.id_ (hM.out x)
  ep x := h.ep (hM.out x)
  out x := h.out (hM.out x)
  freeCtr x := h.freeCtr (hM.out x)
  recs x := h.recs (hM.out x)
  stg x := h.stg (hM.out x)
  bytes x := h.bytes (hM.out x)
  arch x := h.arch (hM.out x)

/-! Control. -/

theorem Keeps.ite {c : Prop} [Decidable c] {a b : State} (h : Keeps S M s a) (g : Keeps S M s b) :
    Keeps S M s (if c then a else b) := by split <;> assumption

theorem Keeps.when {f : State → State} {c : Bool} (h : Keeps S M s t) (hf : ∀ u, Keeps S M s u → Keeps S M s (f u)) :
    Keeps S M s (t.when c f) := by
  unfold State.when; split
  · exact hf _ h
  · exact h

theorem Keeps.foldl {β : Type} {f : State → β → State} {l : List β} (h : Keeps S M s t)
    (hf : ∀ u x, Keeps S M s u → Keeps S M s (f u x)) : Keeps S M s (l.foldl f t) := by
  induction l generalizing t with
  | nil => exact h
  | cons x r ih => exact ih (hf _ _ h)

/-- A fold over a list whose entries have a property. -/
theorem Keeps.foldlMem {β : Type} {f : State → β → State} {l : List β} (h : Keeps S M s t)
    (hf : ∀ u, ∀ x ∈ l, Keeps S M s u → Keeps S M s (f u x)) : Keeps S M s (l.foldl f t) := by
  induction l generalizing t with
  | nil => exact h
  | cons x r ih => exact ih (hf _ _ (by simp) h) fun u y hy => hf u y (by simp [hy])

theorem Keeps.foldlFst {β γ : Type} {f : State × γ → β → State × γ} {l : List β} {p : State × γ} (h : Keeps S M s p.1)
    (hf : ∀ q x, Keeps S M s q.1 → Keeps S M s (f q x).1) : Keeps S M s (l.foldl f p).1 := by
  induction l generalizing p with
  | nil => exact h
  | cons x r ih => exact ih (hf _ _ h)

theorem Keeps.forAll {n : Nat} {f : Nat → State → State} (h : Keeps S M s t)
    (hf : ∀ i u, Keeps S M s u → Keeps S M s (f i u)) : Keeps S M s (State.forAll n f t) :=
  Keeps.foldl h fun u i => hf i u

/-! The register table. -/

/-- The register table replaced by one that keeps what the mask does not name. -/
theorem Keeps.ofRegs {r : Tab Nat} (h : Keeps S M s t)
    (hr : ∀ k, S.testBit (k / 65536) = false → Tab.find r k = Tab.find t.regs k)
    (hs : Tab.sorted t.regs = true → Tab.sorted r = true) : Keeps S M s { t with regs := r } :=
  { h with regs := fun x k hk => (hr k hk).trans (h.regs x k hk), sorted := hs ∘ h.sorted }

/-- The register table replaced by any other, where the mask of parts says so. -/
theorem Keeps.to_regs {r : Tab Nat} (h : Keeps S M s t) (hM : Sub P.regs M)
    (hs : Tab.sorted t.regs = true → Tab.sorted r = true) : Keeps S M s { t with regs := r } :=
  { h with regs := fun x => by rw [hM.bit (i := 22) (by decide)] at x; cases x
           sorted := hs ∘ h.sorted }

theorem State.wr_any {f : Fld} {i v : Nat} (h : Keeps S M s t) (hM : Sub P.regs M) : Keeps S M s (t.wr f i v) :=
  Keeps.to_regs h hM fun x => Tab.sorted_set _ _ _ x

theorem State.wr_keeps {f : Fld} {i v : Nat} (h : Keeps S M s t) (hf : S.testBit f.id = true) : Keeps S M s (t.wr f i v) := by
  refine Keeps.ofRegs h (fun k hk => Tab.find_set_ne _ _ _ fun e => ?_) fun x => Tab.sorted_set _ _ _ x
  have : k / 65536 = f.id := by rw [e]; unfold Fld.key; omega
  rw [this, hf] at hk
  cases hk

theorem State.wrB_keeps {f : Fld} {i : Nat} {b : Bool} (h : Keeps S M s t) (hf : S.testBit f.id = true) :
    Keeps S M s (t.wrB f i b) := State.wr_keeps h hf

theorem State.wrI_keeps {f : Fld} {i : Nat} {v : Int} (h : Keeps S M s t) (hf : S.testBit f.id = true) :
    Keeps S M s (t.wrI f i v) := State.wr_keeps h hf

theorem State.bumpBy_keeps {f : Fld} {i n : Nat} (h : Keeps S M s t) (hf : S.testBit f.id = true) :
    Keeps S M s (t.bumpBy f i n) := State.wr_keeps h hf

theorem State.bump_keeps {f : Fld} {i : Nat} (h : Keeps S M s t) (hf : S.testBit f.id = true) :
    Keeps S M s (t.bump f i) := State.wr_keeps h hf

theorem State.bumpWrap_keeps {f : Fld} {i : Nat} (h : Keeps S M s t) (hf : S.testBit f.id = true) :
    Keeps S M s (t.bumpWrap f i) := State.wr_keeps h hf

/-- Every field of a list of writes is a bit of the mask. -/
def InMask (W : Nat) : List (Fld × Nat × Nat) → Prop
  | [] => True
  | (f, _, _) :: r => W.testBit f.id = true ∧ InMask W r

theorem InMask.mem {W : Nat} {l : List (Fld × Nat × Nat)} (h : InMask W l) {x : Fld × Nat × Nat} (hx : x ∈ l) :
    W.testBit x.1.id = true := by
  induction l with
  | nil => cases hx
  | cons w r ih =>
    rcases List.mem_cons.1 hx with e | e
    · rw [e]; exact h.1
    · exact ih h.2 e

theorem State.wrAll_keeps {l : List (Fld × Nat × Nat)} {W : Nat} (h : Keeps S M s t) (hS : Sub W S) (hl : InMask W l) :
    Keeps S M s (t.wrAll l) := by
  unfold State.wrAll
  exact Keeps.foldlMem h fun u x hx hu => State.wr_keeps hu (hS.bit (hl.mem hx))

/-! The other parts. -/

theorem State.emitOut_keeps {o : Out} (h : Keeps S M s t) (hM : Sub P.out M) : Keeps S M s (t.emitOut o) :=
  { h with outs := h.outs.trans (List.suffix_cons o t.out)
           out := fun hk => by rw [hM.bit (i := 20) (by decide)] at hk; cases hk }

theorem State.drawn_keeps (h : Keeps S M s t) (hM : Sub P.freeCtr M) : Keeps S M s t.drawn :=
  { h with freeCtr := fun hk => by rw [hM.bit (i := 21) (by decide)] at hk; cases hk }

theorem Keeps.to_cp {x} (h : Keeps S M s t) (hM : Sub P.cp M) : Keeps S M s { t with cp := x } :=
  { h with cp := fun hk => by rw [hM.bit (i := 0) (by decide)] at hk; cases hk }

theorem Keeps.to_ev {x} (h : Keeps S M s t) (hM : Sub P.ev M) : Keeps S M s { t with ev := x } :=
  { h with ev := fun hk => by rw [hM.bit (i := 1) (by decide)] at hk; cases hk }

theorem Keeps.to_flt {x} (h : Keeps S M s t) (hM : Sub P.flt M) : Keeps S M s { t with flt := x } :=
  { h with flt := fun hk => by rw [hM.bit (i := 2) (by decide)] at hk; cases hk }

theorem Keeps.to_un {x} (h : Keeps S M s t) (hM : Sub P.un M) : Keeps S M s { t with un := x } :=
  { h with un := fun hk => by rw [hM.bit (i := 3) (by decide)] at hk; cases hk }

theorem Keeps.to_tm {x} (h : Keeps S M s t) (hM : Sub P.tm M) : Keeps S M s { t with tm := x } :=
  { h with tm := fun hk => by rw [hM.bit (i := 4) (by decide)] at hk; cases hk }

theorem Keeps.to_pr {x} (h : Keeps S M s t) (hM : Sub P.pr M) : Keeps S M s { t with pr := x } :=
  { h with pr := fun hk => by rw [hM.bit (i := 5) (by decide)] at hk; cases hk }

theorem Keeps.to_pw {x} (h : Keeps S M s t) (hM : Sub P.pw M) : Keeps S M s { t with pw := x } :=
  { h with pw := fun hk => by rw [hM.bit (i := 6) (by decide)] at hk; cases hk }

theorem Keeps.to_ck {x} (h : Keeps S M s t) (hM : Sub P.ck M) : Keeps S M s { t with ck := x } :=
  { h with ck := fun hk => by rw [hM.bit (i := 7) (by decide)] at hk; cases hk }

theorem Keeps.to_dp {x} (h : Keeps S M s t) (hM : Sub P.dp M) : Keeps S M s { t with dp := x } :=
  { h with dp := fun hk => by rw [hM.bit (i := 8) (by decide)] at hk; cases hk }

theorem Keeps.to_td {x} (h : Keeps S M s t) (hM : Sub P.td M) : Keeps S M s { t with td := x } :=
  { h with td := fun hk => by rw [hM.bit (i := 10) (by decide)] at hk; cases hk }

theorem Keeps.to_ql {x} (h : Keeps S M s t) (hM : Sub P.ql M) : Keeps S M s { t with ql := x } :=
  { h with ql := fun hk => by rw [hM.bit (i := 11) (by decide)] at hk; cases hk }

theorem Keeps.to_tr {x} (h : Keeps S M s t) (hM : Sub P.tr M) : Keeps S M s { t with tr := x } :=
  { h with tr := fun hk => by rw [hM.bit (i := 12) (by decide)] at hk; cases hk }

theorem Keeps.to_sy {x} (h : Keeps S M s t) (hM : Sub P.sy M) : Keeps S M s { t with sy := x } :=
  { h with sy := fun hk => by rw [hM.bit (i := 13) (by decide)] at hk; cases hk }

theorem Keeps.to_hs {x} (h : Keeps S M s t) (hM : Sub P.hs M) : Keeps S M s { t with hs := x } :=
  { h with hs := fun hk => by rw [hM.bit (i := 14) (by decide)] at hk; cases hk }

theorem Keeps.to_po {x} (h : Keeps S M s t) (hM : Sub P.po M) : Keeps S M s { t with po := x } :=
  { h with po := fun hk => by rw [hM.bit (i := 15) (by decide)] at hk; cases hk }

theorem Keeps.to_sv {x} (h : Keeps S M s t) (hM : Sub P.sv M) : Keeps S M s { t with sv := x } :=
  { h with sv := fun hk => by rw [hM.bit (i := 16) (by decide)] at hk; cases hk }

theorem Keeps.to_pk {x} (h : Keeps S M s t) (hM : Sub P.pk M) : Keeps S M s { t with pk := x } :=
  { h with pk := fun hk => by rw [hM.bit (i := 17) (by decide)] at hk; cases hk }

theorem Keeps.to_id_ {x} (h : Keeps S M s t) (hM : Sub P.id_ M) : Keeps S M s { t with id_ := x } :=
  { h with id_ := fun hk => by rw [hM.bit (i := 18) (by decide)] at hk; cases hk }

theorem Keeps.to_ep {x} (h : Keeps S M s t) (hM : Sub P.ep M) : Keeps S M s { t with ep := x } :=
  { h with ep := fun hk => by rw [hM.bit (i := 19) (by decide)] at hk; cases hk }

theorem Keeps.to_at_ {x : AtticSt} (h : Keeps S M s t) (hM : Sub P.at_ M) (hm : x.mem = t.at_.mem)
    (hs : x.staging = t.at_.staging) : Keeps S M s { t with at_ := x } :=
  { h with at_ := fun hk => by rw [hM.bit (i := 9) (by decide)] at hk; cases hk
           mem := fun w => by show Memory.wf x.mem = true; rw [hm]; exact h.mem w
           staging := fun w => by show Memory.wf x.staging = true; rw [hs]; exact h.staging w
           recs := fun w a ha => by show Memory.read x.mem a = _; rw [hm]; exact h.recs w a ha
           arch := fun w a ha => by show Memory.read x.mem a = _; rw [hm]; exact h.arch w a ha
           stg := fun w => by show x.staging = _; rw [hs]; exact h.stg w
           bytes := fun w => by show x.mem = _; rw [hm]; exact h.bytes w }

theorem Keeps.to_cp_flt {x} {y} (h : Keeps S M s t) (hM : Sub (P.cp ||| P.flt) M) :
    Keeps S M s { t with cp := x, flt := y } :=
  { h with
    cp := fun hk => by rw [hM.bit (i := 0) (by decide)] at hk; cases hk
    flt := fun hk => by rw [hM.bit (i := 2) (by decide)] at hk; cases hk }

theorem Keeps.to_ev_flt {x} {y} (h : Keeps S M s t) (hM : Sub (P.ev ||| P.flt) M) :
    Keeps S M s { t with ev := x, flt := y } :=
  { h with
    ev := fun hk => by rw [hM.bit (i := 1) (by decide)] at hk; cases hk
    flt := fun hk => by rw [hM.bit (i := 2) (by decide)] at hk; cases hk }

theorem Keeps.to_ev_hs {x} {y} (h : Keeps S M s t) (hM : Sub (P.ev ||| P.hs) M) :
    Keeps S M s { t with ev := x, hs := y } :=
  { h with
    ev := fun hk => by rw [hM.bit (i := 1) (by decide)] at hk; cases hk
    hs := fun hk => by rw [hM.bit (i := 14) (by decide)] at hk; cases hk }

theorem Keeps.to_flt_hs {x} {y} (h : Keeps S M s t) (hM : Sub (P.flt ||| P.hs) M) :
    Keeps S M s { t with flt := x, hs := y } :=
  { h with
    flt := fun hk => by rw [hM.bit (i := 2) (by decide)] at hk; cases hk
    hs := fun hk => by rw [hM.bit (i := 14) (by decide)] at hk; cases hk }

theorem Keeps.to_pr_sy {x} {y} (h : Keeps S M s t) (hM : Sub (P.pr ||| P.sy) M) :
    Keeps S M s { t with pr := x, sy := y } :=
  { h with
    pr := fun hk => by rw [hM.bit (i := 5) (by decide)] at hk; cases hk
    sy := fun hk => by rw [hM.bit (i := 13) (by decide)] at hk; cases hk }

theorem Keeps.to_pw_at {x} {y : AtticSt} (h : Keeps S M s t) (hM : Sub (P.pw ||| P.at_) M) (hm : y.mem = t.at_.mem)
    (hs : y.staging = t.at_.staging) :
    Keeps S M s { t with pw := x, at_ := y } :=
  { h with
    pw := fun hk => by rw [hM.bit (i := 6) (by decide)] at hk; cases hk
    at_ := fun hk => by rw [hM.bit (i := 9) (by decide)] at hk; cases hk
    mem := fun w => by show Memory.wf y.mem = true; rw [hm]; exact h.mem w
    staging := fun w => by show Memory.wf y.staging = true; rw [hs]; exact h.staging w
    recs := fun w a ha => by show Memory.read y.mem a = _; rw [hm]; exact h.recs w a ha
    arch := fun w a ha => by show Memory.read y.mem a = _; rw [hm]; exact h.arch w a ha
    stg := fun w => by show y.staging = _; rw [hs]; exact h.stg w
    bytes := fun w => by show y.mem = _; rw [hm]; exact h.bytes w }

theorem Keeps.to_tm_ep {x} {y} (h : Keeps S M s t) (hM : Sub (P.tm ||| P.ep) M) :
    Keeps S M s { t with tm := x, ep := y } :=
  { h with
    tm := fun hk => by rw [hM.bit (i := 4) (by decide)] at hk; cases hk
    ep := fun hk => by rw [hM.bit (i := 19) (by decide)] at hk; cases hk }

theorem Keeps.to_tm_pr_dp_td_ql_sy_sv_pk {x} {y} {z} {x1} {x2} {x3} {x4} {x5} (h : Keeps S M s t) (hM : Sub (P.tm ||| P.pr ||| P.dp ||| P.td ||| P.ql ||| P.sy ||| P.sv ||| P.pk) M) :
    Keeps S M s { t with tm := x, pr := y, dp := z, td := x1, ql := x2, sy := x3, sv := x4, pk := x5 } :=
  { h with
    tm := fun hk => by rw [hM.bit (i := 4) (by decide)] at hk; cases hk
    pr := fun hk => by rw [hM.bit (i := 5) (by decide)] at hk; cases hk
    dp := fun hk => by rw [hM.bit (i := 8) (by decide)] at hk; cases hk
    td := fun hk => by rw [hM.bit (i := 10) (by decide)] at hk; cases hk
    ql := fun hk => by rw [hM.bit (i := 11) (by decide)] at hk; cases hk
    sy := fun hk => by rw [hM.bit (i := 13) (by decide)] at hk; cases hk
    sv := fun hk => by rw [hM.bit (i := 16) (by decide)] at hk; cases hk
    pk := fun hk => by rw [hM.bit (i := 17) (by decide)] at hk; cases hk }

theorem Keeps.to_tm_pw {x} {y} (h : Keeps S M s t) (hM : Sub (P.tm ||| P.pw) M) :
    Keeps S M s { t with tm := x, pw := y } :=
  { h with
    tm := fun hk => by rw [hM.bit (i := 4) (by decide)] at hk; cases hk
    pw := fun hk => by rw [hM.bit (i := 6) (by decide)] at hk; cases hk }

theorem Keeps.to_un_at {x} {y : AtticSt} (h : Keeps S M s t) (hM : Sub (P.un ||| P.at_) M) (hm : y.mem = t.at_.mem)
    (hs : y.staging = t.at_.staging) :
    Keeps S M s { t with un := x, at_ := y } :=
  { h with
    un := fun hk => by rw [hM.bit (i := 3) (by decide)] at hk; cases hk
    at_ := fun hk => by rw [hM.bit (i := 9) (by decide)] at hk; cases hk
    mem := fun w => by show Memory.wf y.mem = true; rw [hm]; exact h.mem w
    staging := fun w => by show Memory.wf y.staging = true; rw [hs]; exact h.staging w
    recs := fun w a ha => by show Memory.read y.mem a = _; rw [hm]; exact h.recs w a ha
    arch := fun w a ha => by show Memory.read y.mem a = _; rw [hm]; exact h.arch w a ha
    stg := fun w => by show y.staging = _; rw [hs]; exact h.stg w
    bytes := fun w => by show y.mem = _; rw [hm]; exact h.bytes w }

theorem Keeps.to_un_pr_at_hs {x} {y} {z : AtticSt} {x1} (h : Keeps S M s t) (hM : Sub (P.un ||| P.pr ||| P.at_ ||| P.hs) M) (hm : z.mem = t.at_.mem)
    (hs : z.staging = t.at_.staging) :
    Keeps S M s { t with un := x, pr := y, at_ := z, hs := x1 } :=
  { h with
    un := fun hk => by rw [hM.bit (i := 3) (by decide)] at hk; cases hk
    pr := fun hk => by rw [hM.bit (i := 5) (by decide)] at hk; cases hk
    at_ := fun hk => by rw [hM.bit (i := 9) (by decide)] at hk; cases hk
    hs := fun hk => by rw [hM.bit (i := 14) (by decide)] at hk; cases hk
    mem := fun w => by show Memory.wf z.mem = true; rw [hm]; exact h.mem w
    staging := fun w => by show Memory.wf z.staging = true; rw [hs]; exact h.staging w
    recs := fun w a ha => by show Memory.read z.mem a = _; rw [hm]; exact h.recs w a ha
    arch := fun w a ha => by show Memory.read z.mem a = _; rw [hm]; exact h.arch w a ha
    stg := fun w => by show z.staging = _; rw [hs]; exact h.stg w
    bytes := fun w => by show z.mem = _; rw [hm]; exact h.bytes w }

end Sys2Proof.Machine
end

