-- ==== Sys2Proof/Laws/KeepsOps.lean ====
section
/-! SUPPORT. What each operation of Machine/Ops.lean may change (`Keeps`): the bits of the first mask are numbers of register
fields, those of the second the numbers `P.…` of the parts of the state. -/

set_option Elab.async false

namespace Sys2Proof.Machine

variable {S M : Nat} {s t u v : State}

theorem State.openBytes_keeps {x1} (h : Keeps S M s t) (hS : Sub 0x1e0000000000000000000000000000000000000000000000000000000000000000000000000000000000000000000000000000000000000000000000000000000000000000000000000000000000000000000000000000000000000000000000000000000000000000000000000000000000000000 S) :
    Keeps S M s (State.openBytes t x1) := by
  unfold State.openBytes
  refine Keeps.forAll h fun i u hu => Keeps.foldlMem hu fun v x hx hv => Keeps.ite (State.wr_keeps hv (hS.bit ?_)) hv
  simp only [List.mem_cons, List.not_mem_nil, or_false] at hx
  rcases hx with rfl | rfl | rfl | rfl <;> rfl

theorem State.advanceTo_keeps {x1} (h : Keeps S M s t) (hM : Sub 0x10 M) :
    Keeps S M s (State.advanceTo t x1) := by
  unfold State.advanceTo
  refine Keeps.ite ?_ ?_
  · extract_lets e1 v2
    refine Keeps.ite ?_ ?_
    · exact Keeps.to_tm h (hM.tr rfl)
    · exact Keeps.to_tm h (hM.tr rfl)
  · exact h

theorem State.setDpll_keeps {x1 x2} (h : Keeps S M s t) (hM : Sub 0x100 M) :
    Keeps S M s (State.setDpll t x1 x2) := by
  unfold State.setDpll
  exact Keeps.to_dp h (hM.tr rfl)

theorem State.modDpll_keeps {x1 x2} (h : Keeps S M s t) (hM : Sub 0x100 M) :
    Keeps S M s (State.modDpll t x1 x2) := by
  unfold State.modDpll
  exact State.setDpll_keeps h (hM.tr rfl)

theorem State.setWord_keeps {x1 x2} (h : Keeps S M s t) (hM : Sub 0x100 M) :
    Keeps S M s (State.setWord t x1 x2) := by
  unfold State.setWord
  exact State.modDpll_keeps h (hM.tr rfl)

end Sys2Proof.Machine
end

