-- ==== Sys2Proof/Laws/KeepsUnits.lean ====
section
/-! SUPPORT. What each operation of Machine/Units.lean may change (`Keeps`): the bits of the first mask are numbers of register
fields, those of the second the numbers `P.…` of the parts of the state. -/

set_option Elab.async false

namespace Sys2Proof.Machine

variable {S M : Nat} {s t u v : State}

theorem State.markIsolated_keeps {x1} (h : Keeps S M s t) (hM : Sub 0x8 M) :
    Keeps S M s (State.markIsolated t x1) := by
  unfold State.markIsolated
  exact Keeps.to_un h (hM.tr rfl)

theorem State.markRetired_keeps {x1} (h : Keeps S M s t) (hM : Sub 0x8 M) :
    Keeps S M s (State.markRetired t x1) := by
  unfold State.markRetired
  exact Keeps.to_un h (hM.tr rfl)

theorem State.holdReset_keeps {x1} (h : Keeps S M s t) (hM : Sub 0x8 M) :
    Keeps S M s (State.holdReset t x1) := by
  unfold State.holdReset
  exact Keeps.to_un h (hM.tr rfl)

theorem State.clearIsolated_keeps {x1} (h : Keeps S M s t) (hM : Sub 0x8 M) :
    Keeps S M s (State.clearIsolated t x1) := by
  unfold State.clearIsolated
  exact Keeps.to_un h (hM.tr rfl)

theorem State.clearRetired_keeps {x1} (h : Keeps S M s t) (hM : Sub 0x8 M) :
    Keeps S M s (State.clearRetired t x1) := by
  unfold State.clearRetired
  exact Keeps.to_un h (hM.tr rfl)

theorem State.noteReset_keeps {x1} (h : Keeps S M s t) (hM : Sub 0x8 M) :
    Keeps S M s (State.noteReset t x1) := by
  unfold State.noteReset
  exact Keeps.to_un h (hM.tr rfl)

theorem State.backInService_keeps {x1} (h : Keeps S M s t) (hM : Sub 0x8 M) :
    Keeps S M s (State.backInService t x1) := by
  unfold State.backInService
  exact Keeps.to_un h (hM.tr rfl)

end Sys2Proof.Machine
end

