-- ==== Sys2Proof/Laws/KeepsEvents.lean ====
section
/-! SUPPORT. What each operation of Machine/Events.lean may change (`Keeps`): the bits of the first mask are numbers of register
fields, those of the second the numbers `P.…` of the parts of the state. -/

set_option Elab.async false

namespace Sys2Proof.Machine

variable {S M : Nat} {s t u v : State}

theorem State.countRelease_keeps {x1} (h : Keeps S M s t) (hS : Sub 0x518000000000000000000000000000000000000000000000000000000000000000000000000000000000000000000000000000000000000000000000 S) :
    Keeps S M s (State.countRelease t x1) := by
  unfold State.countRelease
  extract_lets s1 s2
  have hs1 : Keeps S M s s1 := State.wr_keeps h (hS.bit rfl)
  clear_value s1
  have hs2 : Keeps S M s s2 := State.bumpWrap_keeps hs1 (hS.bit rfl)
  clear_value s2
  refine Keeps.ite ?_ ?_
  · refine State.bump_keeps ?_ (hS.bit rfl)
    exact State.wr_keeps hs2 (hS.bit rfl)
  · exact hs2

theorem State.bufferPush_keeps {x1} (h : Keeps S M s t) (hS : Sub 0x860000000000000000000000000000000000000000000000000000000000000000000000000000000000000000000000000000000000000000000000 S) (hM : Sub 0x2 M) :
    Keeps S M s (State.bufferPush t x1) := by
  unfold State.bufferPush
  extract_lets b1 buf2 s3 buf4 v5 s6 s7
  have hs3 : Keeps S M s s3 := by
    unfold s3
    refine Keeps.ite ?_ ?_
    · exact State.wr_keeps h (hS.bit rfl)
    · exact h
  clear_value s3
  have hs6 : Keeps S M s s6 := Keeps.to_ev hs3 (hM.tr rfl)
  clear_value s6
  have hs7 : Keeps S M s s7 := State.wr_keeps hs6 (hS.bit rfl)
  clear_value s7
  split
  · rename_i a8 a9 a10
    exact State.wr_keeps hs7 (hS.bit rfl)
  · rename_i a11 a12
    exact hs7

theorem State.releaseRecord_keeps {x1} (h : Keeps S M s t) (hS : Sub 0xd78000000000000000000000000000000000000000000000000000000000000000000000000000000000000000000000000000000000000000000000 S) (hM : Sub 0x6 M) :
    Keeps S M s (State.releaseRecord t x1) := by
  unfold State.releaseRecord
  extract_lets s1 s2 greatest3 latches4 v5 v6
  have hs1 : Keeps S M s s1 := State.countRelease_keeps h (hS.tr rfl)
  clear_value s1
  have hs2 : Keeps S M s s2 := by
    unfold s2
    refine Keeps.ite ?_ ?_
    · exact State.bufferPush_keeps hs1 (hS.tr rfl) (hM.tr rfl)
    · exact hs1
  clear_value s2
  exact Keeps.to_ev_flt hs2 (hM.tr rfl)

theorem State.hold_keeps {x1} (h : Keeps S M s t) (hM : Sub 0x2 M) :
    Keeps S M s (State.hold t x1) := by
  unfold State.hold
  refine Keeps.ite ?_ ?_
  · exact h
  · exact Keeps.to_ev h (hM.tr rfl)

theorem State.emitAtGen_keeps {x1 x2 x3 x4 x5 x6 x7} (h : Keeps S M s t) (hM : Sub 0x2 M) :
    Keeps S M s (State.emitAtGen t x1 x2 x3 x4 x5 x6 x7) := by
  unfold State.emitAtGen
  exact State.hold_keeps h (hM.tr rfl)

theorem State.infoAt_keeps {x1 x2 x3 x4} (h : Keeps S M s t) (hM : Sub 0x2 M) :
    Keeps S M s (State.infoAt t x1 x2 x3 x4) := by
  unfold State.infoAt
  exact State.emitAtGen_keeps h (hM.tr rfl)

theorem State.info_keeps {x1 x2 x3 x4 x5} (h : Keeps S M s t) (hM : Sub 0x2 M) :
    Keeps S M s (State.info t x1 x2 x3 x4 x5) := by
  unfold State.info
  exact State.infoAt_keeps h (hM.tr rfl)

theorem State.porchTrace_keeps {x1 x2} (h : Keeps S M s t) (hS : Sub 0x80000000600000000000000000000000000000000000000000000000000000000000000000000000000000000000000000000000000000000000 S) (hM : Sub 0x200000 M) :
    Keeps S M s (State.porchTrace t x1 x2) := by
  unfold State.porchTrace
  extract_lets k1 s2 s3
  have hs2 : Keeps S M s s2 := by
    unfold s2
    refine State.drawn_keeps ?_ (hM.tr rfl)
    exact State.wr_keeps h (hS.bit rfl)
  clear_value s2
  have hs3 : Keeps S M s s3 := by
    unfold s3
    refine State.drawn_keeps ?_ (hM.tr rfl)
    exact State.wr_keeps hs2 (hS.bit rfl)
  clear_value s3
  refine State.bump_keeps ?_ (hS.bit rfl)
  exact State.wr_keeps hs3 (hS.bit rfl)

end Sys2Proof.Machine
end

