-- ==== Sys2Proof/Laws/KeepsDeadbolt.lean ====
section
/-! SUPPORT. What each operation of Machine/Deadbolt.lean may change (`Keeps`): the bits of the first mask are numbers of register
fields, those of the second the numbers `P.…` of the parts of the state. -/

set_option Elab.async false

namespace Sys2Proof.Machine

variable {S M : Nat} {s t u v : State}

theorem State.setPairState_keeps {x1} (h : Keeps S M s t) (hS : Sub 0x400000000000000000000000000000000000000000000000000000000000000000000000000000000000000000000000000000000000000000000000000000000000000000000000000000000000000000000000000000000000000 S) (hM : Sub 0x2 M) :
    Keeps S M s (State.setPairState t x1) := by
  unfold State.setPairState
  refine Keeps.ite ?_ ?_
  · exact h
  · extract_lets s1
    have hs1 : Keeps S M s s1 := State.wr_keeps h (hS.bit rfl)
    clear_value s1
    exact State.info_keeps hs1 (hM.tr rfl)

theorem State.pairReview_keeps (h : Keeps S M s t) (hS : Sub 0x400000000000000000000000000000000000000000000000000000000000000000000000000000000000000000000000000000000000000000000000000000000000000000000000000000000000000000000000000000000000000 S) (hM : Sub 0x22 M) :
    Keeps S M s (State.pairReview t) := by
  unfold State.pairReview
  extract_lets p1 v2
  refine Keeps.ite ?_ ?_
  · refine Keeps.ite ?_ ?_
    · exact State.setPairState_keeps h (hS.tr rfl) (hM.tr rfl)
    · refine Keeps.ite ?_ ?_
      · exact State.setPairState_keeps h (hS.tr rfl) (hM.tr rfl)
      · refine State.setPairState_keeps ?_ (hS.tr rfl) (hM.tr rfl)
        exact Keeps.to_pr h (hM.tr rfl)
  · refine Keeps.ite ?_ ?_
    · refine Keeps.ite ?_ ?_
      · refine State.setPairState_keeps ?_ (hS.tr rfl) (hM.tr rfl)
        exact Keeps.to_pr h (hM.tr rfl)
      · refine Keeps.ite ?_ ?_
        · refine State.setPairState_keeps ?_ (hS.tr rfl) (hM.tr rfl)
          exact Keeps.to_pr h (hM.tr rfl)
        · exact h
    · exact h

theorem State.releaseClaim_keeps (h : Keeps S M s t) (hS : Sub 0x440000000000000000000000000000000000000000000000000000000000000000000000000000000000000000000000000000000000000000000000000000000000000000000000000000000000000000000000000000000000000 S) (hM : Sub 0x22 M) :
    Keeps S M s (State.releaseClaim t) := by
  unfold State.releaseClaim
  refine Keeps.ite ?_ ?_
  · extract_lets s1 v2 would3 next4 s5
    have hs1 : Keeps S M s s1 := State.wr_keeps h (hS.bit rfl)
    clear_value s1
    have hwould3 : Keeps S M s would3 := Keeps.to_pr hs1 (hM.tr rfl)
    clear_value would3
    have hs5 : Keeps S M s s5 := Keeps.to_pr hs1 (hM.tr rfl)
    clear_value s5
    refine State.pairReview_keeps ?_ (hS.tr rfl) (hM.tr rfl)
    exact State.setPairState_keeps hs5 (hS.tr rfl) (hM.tr rfl)
  · exact h

end Sys2Proof.Machine
end

