-- ==== Sys2Proof/Laws/KeepsMsix.lean ====
section
/-! SUPPORT. What each operation of Machine/Msix.lean may change (`Keeps`): the bits of the first mask are numbers of register
fields, those of the second the numbers `P.…` of the parts of the state. -/

set_option Elab.async false

namespace Sys2Proof.Machine

variable {S M : Nat} {s t u v : State}

theorem State.sendMsix_keeps {x1 x2} (h : Keeps S M s t) (hS : Sub 0x20000000000000000000000000000000000000000000000000000000000000000000000000000000000000000000000000000000000000000000000000000000000000000000000000000000000000000000000 S) (hM : Sub 0x104000 M) :
    Keeps S M s (State.sendMsix t x1 x2) := by
  unfold State.sendMsix
  extract_lets key1 v2
  refine Keeps.ite ?_ ?_
  · exact Keeps.to_hs h (hM.tr rfl)
  · refine State.bump_keeps ?_ (hS.bit rfl)
    exact State.emitOut_keeps h (hM.tr rfl)

theorem State.unmask_keeps {x1 x2} (h : Keeps S M s t) (hS : Sub 0x20000000000000000000000000000000000000000000000000000000000000000000000000000000000000000000000000000000000000000000000000000000000000000000000000000000000000000000000 S) (hM : Sub 0x104000 M) :
    Keeps S M s (State.unmask t x1 x2) := by
  unfold State.unmask
  extract_lets key1 v2 s3 v4
  have hs3 : Keeps S M s s3 := Keeps.to_hs h (hM.tr rfl)
  clear_value s3
  refine Keeps.ite ?_ ?_
  · refine State.sendMsix_keeps ?_ (hS.tr rfl) (hM.tr rfl)
    exact Keeps.to_hs hs3 (hM.tr rfl)
  · exact hs3

end Sys2Proof.Machine
end

