-- ==== Sys2Proof/Laws/KeepsFaults.lean ====
section
/-! SUPPORT. What each operation of Machine/Faults.lean may change (`Keeps`): the bits of the first mask are numbers of register
fields, those of the second the numbers `P.…` of the parts of the state. -/

set_option Elab.async false

namespace Sys2Proof.Machine

variable {S M : Nat} {s t u v : State}

theorem State.putLatch_keeps {x1 x2} (h : Keeps S M s t) (hM : Sub 0x4 M) :
    Keeps S M s (State.putLatch t x1 x2) := by
  unfold State.putLatch
  exact Keeps.to_flt h (hM.tr rfl)

theorem State.noteLatchUse_keeps (h : Keeps S M s t) (hS : Sub 0x100000000000000000000000000000000000000000000000000000000000000000000000000000000000000000000000000000000000000000000000000000000000000000000000000000000000000000000000000000000000000000000000000000000000000 S) :
    Keeps S M s (State.noteLatchUse t) := by
  unfold State.noteLatchUse
  exact State.wr_keeps h (hS.bit rfl)

theorem State.slateTake_keeps {x1 x2 x3 x4} (h : Keeps S M s t) (hS : Sub 0x100000000000000000000000000000000000000000000000000000000000000000000000000000000000000000000000000000000000000000000000000000000000000000000000000000000000000000000000000000000000000000000000000000000000 S) (hM : Sub 0x4 M) :
    Keeps S M s (State.slateTake t x1 x2 x3 x4) := by
  unfold State.slateTake
  extract_lets n1 v2 s3 v4
  have hs3 : Keeps S M s s3 := State.bump_keeps h (hS.bit rfl)
  clear_value s3
  split
  · rename_i a5 a6
    exact Keeps.to_flt h (hM.tr rfl)
  · rename_i a7 a8 a9
    refine Keeps.ite ?_ ?_
    · exact Keeps.to_flt hs3 (hM.tr rfl)
    · exact hs3

theorem State.latchFault_keeps {x1 x2 x3} (h : Keeps S M s t) (hS : Sub 0x100100000000000000000000000000000000000020000000000000000000000000000000000000000000000000080000000600000000000000000000000000000000000000000000000000000000000000000000000000000000000000000000000000000000000 S) (hM : Sub 0x304004 M) :
    Keeps S M s (State.latchFault t x1 x2 x3).1 := by
  unfold State.latchFault
  split
  · rename_i a1 a2 a3
    split
    · rename_i a4 a5 a6
      dsimp only
      exact State.putLatch_keeps h (hM.tr rfl)
    · rename_i a7 a8
      dsimp only
      exact h
  · rename_i a9 a10
    extract_lets k11 grace12 l13 s14 s15 s16
    have hs14 : Keeps S M s s14 := by
      unfold s14
      refine State.noteLatchUse_keeps ?_ (hS.tr rfl)
      exact State.putLatch_keeps h (hM.tr rfl)
    clear_value s14
    have hs15 : Keeps S M s s15 := State.slateTake_keeps hs14 (hS.tr rfl) (hM.tr rfl)
    clear_value s15
    have hs16 : Keeps S M s s16 := by
      unfold s16
      refine Keeps.when hs15 fun u17 h18 => ?_
      exact State.porchTrace_keeps h18 (hS.tr rfl) (hM.tr rfl)
    clear_value s16
    split
    · rename_i a19 a20 a21
      dsimp only
      exact State.putLatch_keeps h (hM.tr rfl)
    · rename_i a22 a23
      dsimp only
      exact State.sendMsix_keeps hs16 (hS.tr rfl) (hM.tr rfl)

theorem State.startReaction_keeps {x1 x2 x3 x4} (h : Keeps S M s t) (hS : Sub 0x3d000000000000000000000440000000000000000000000000000000000000000000000000000000000000000000000000000000000000000000000000000000000000000000000000000000000000000000000000000000000000000000000000000000000000 S) (hM : Sub 0x26 M) :
    Keeps S M s (State.startReaction t x1 x2 x3 x4) := by
  unfold State.startReaction
  extract_lets s1 act2 act3 r4 w5 open_6 key7 least8 kept9 v10 s11 s12
  have hs1 : Keeps S M s s1 := State.releaseClaim_keeps h (hS.tr rfl) (hM.tr rfl)
  clear_value s1
  have hs11 : Keeps S M s s11 := Keeps.to_flt hs1 (hM.tr rfl)
  clear_value s11
  have hs12 : Keeps S M s s12 := State.wrAll_keeps hs11 hS ⟨rfl, rfl, rfl, rfl, trivial⟩
  clear_value s12
  exact State.bump_keeps hs12 (hS.bit rfl)

theorem State.raiseAt_keeps {x1 x2} (h : Keeps S M s t) (hS : Sub 0x8017d100000100000000000000440000000000000020000000000000000000000000000000000000000000000000080000000600000000000000000000000000000000000000000000000000000000000000000000000000000000000000000000000000000000000 S) (hM : Sub 0x304026 M) :
    Keeps S M s (State.raiseAt t x1 x2) := by
  unfold State.raiseAt
  extract_lets s1 s2 sev3 s4 p5 s6
  have hs1 : Keeps S M s s1 := State.bump_keeps h (hS.bit rfl)
  clear_value s1
  have hs2 : Keeps S M s s2 := by
    unfold s2
    refine State.bump_keeps ?_ (hS.bit rfl)
    exact State.bump_keeps hs1 (hS.bit rfl)
  clear_value s2
  have hs4 : Keeps S M s s4 := State.bump_keeps hs1 (hS.bit rfl)
  clear_value s4
  have hp5 : Keeps S M s p5.1 := by
    unfold p5
    exact State.latchFault_keeps hs4 (hS.tr rfl) (hM.tr rfl)
  clear_value p5
  have hs6 : Keeps S M s s6 := State.emitAtGen_keeps hp5 (hM.tr rfl)
  clear_value s6
  split
  · rename_i a7 a8 a9
    exact State.emitAtGen_keeps hs2 (hM.tr rfl)
  · rename_i a10 a11
    refine Keeps.ite ?_ ?_
    · exact State.emitAtGen_keeps hs4 (hM.tr rfl)
    · refine Keeps.ite ?_ ?_
      · exact State.startReaction_keeps hs6 (hS.tr rfl) (hM.tr rfl)
      · exact hs6

theorem State.raise_keeps {x1} (h : Keeps S M s t) (hS : Sub 0x8017d100000100000000000000440000000000000020000000000000000000000000000000000000000000000000080000000600000000000000000000000000000000000000000000000000000000000000000000000000000000000000000000000000000000000 S) (hM : Sub 0x304026 M) :
    Keeps S M s (State.raise t x1) := by
  unfold State.raise
  exact State.raiseAt_keeps h (hS.tr rfl) (hM.tr rfl)

theorem State.clearLatch_keeps {x1} (h : Keeps S M s t) (hM : Sub 0x6 M) :
    Keeps S M s (State.clearLatch t x1) := by
  unfold State.clearLatch
  split
  · rename_i a1 a2
    exact h
  · rename_i a3 a4 a5
    extract_lets slate6 v7 s8
    have hs8 : Keeps S M s s8 := Keeps.to_flt h (hM.tr rfl)
    clear_value s8
    exact State.info_keeps hs8 (hM.tr rfl)

theorem State.clearLatchesUnder_keeps {x1 x2} (h : Keeps S M s t) (hM : Sub 0x6 M) :
    Keeps S M s (State.clearLatchesUnder t x1 x2) := by
  unfold State.clearLatchesUnder
  extract_lets ks1
  refine Keeps.foldl h fun u3 x2 h4 => ?_
  exact State.clearLatch_keeps h4 (hM.tr rfl)

theorem State.fault_keeps {x1 x2 x3 x4} (h : Keeps S M s t) (hS : Sub 0x8017d100000100000000000000440000000000000020000000000000000000000000000000000000000000000000080000000600000000000000000000000000000000000000000000000000000000000000000000000000000000000000000000000000000000000 S) (hM : Sub 0x304026 M) :
    Keeps S M s (State.fault t x1 x2 x3 x4) := by
  unfold State.fault
  exact State.raise_keeps h (hS.tr rfl) (hM.tr rfl)

theorem State.faultOnce_keeps {x1 x2 x3 x4} (h : Keeps S M s t) (hS : Sub 0x8017d100000100000000000000440000000000000020000000000000000000000000000000000000000000000000080000000600000000000000000000000000000000000000000000000000000000000000000000000000000000000000000000000000000000000 S) (hM : Sub 0x304026 M) :
    Keeps S M s (State.faultOnce t x1 x2 x3 x4) := by
  unfold State.faultOnce
  extract_lets tag1 v2
  refine Keeps.ite ?_ ?_
  · exact h
  · refine State.fault_keeps ?_ (hS.tr rfl) (hM.tr rfl)
    exact Keeps.to_flt h (hM.tr rfl)

theorem State.shiftFaultTimers_keeps {x1} (h : Keeps S M s t) (hM : Sub 0x4 M) :
    Keeps S M s (State.shiftFaultTimers t x1) := by
  unfold State.shiftFaultTimers
  extract_lets mv1 v2
  exact Keeps.to_flt h (hM.tr rfl)

end Sys2Proof.Machine
end

