-- ==== Sys2Proof/Laws/KeepsAtticMem.lean ====
section
/-! SUPPORT. What each operation of Machine/AtticMem.lean may change (`Keeps`): the bits of the first mask are numbers of register
fields, those of the second the numbers `P.…` of the parts of the state. -/

set_option Elab.async false

namespace Sys2Proof.Machine

variable {S M : Nat} {s t u v : State}

theorem State.atticWrite_keeps {x1 x2} (h : Keeps S M s t) (hM : Sub 0x6800200 M) :
    Keeps S M s (State.atticWrite t x1 x2) := by
  unfold State.atticWrite
  exact { h with
    at_ := fun hk => by rw [hM.bit (i := 9) (by decide)] at hk; cases hk
    mem := fun w => Memory.wf_writeBytes _ _ (h.mem w)
    recs := fun hk => by rw [hM.bit (i := 23) (by decide)] at hk; cases hk
    bytes := fun hk => by rw [hM.bit (i := 25) (by decide)] at hk; cases hk
    arch := fun hk => by rw [hM.bit (i := 26) (by decide)] at hk; cases hk }

/-- Bytes written in the dailies. -/
theorem State.atticWrite_dailies {x1 x2} (h : Keeps S M s t) (hM : Sub (P.at_ ||| P.recs ||| P.mem) M) (h1 : 262144 ≤ x1) :
    Keeps S M s (State.atticWrite t x1 x2) := by
  unfold State.atticWrite
  exact { h with
    at_ := fun hk => by rw [hM.bit (i := 9) (by decide)] at hk; cases hk
    mem := fun w => Memory.wf_writeBytes _ _ (h.mem w)
    recs := fun hk => by rw [hM.bit (i := 23) (by decide)] at hk; cases hk
    bytes := fun hk => by rw [hM.bit (i := 25) (by decide)] at hk; cases hk
    arch := fun hk a ha => (Memory.read_writeBytes_out _ _ _ _ (by omega)).trans (h.arch hk a ha) }

/-- Bytes written within the lifetime counters. -/
theorem State.atticWrite_life {x1 x2} (h : Keeps S M s t) (hM : Sub (P.at_ ||| P.mem) M) (h1 : 262144 ≤ x1)
    (h2 : x1 + x2.length ≤ 263168) : Keeps S M s (State.atticWrite t x1 x2) := by
  unfold State.atticWrite
  exact { h with
    at_ := fun hk => by rw [hM.bit (i := 9) (by decide)] at hk; cases hk
    mem := fun w => Memory.wf_writeBytes _ _ (h.mem w)
    recs := fun hk a ha => (Memory.read_writeBytes_out _ _ _ _ (by omega)).trans (h.recs hk a ha)
    bytes := fun hk => by rw [hM.bit (i := 25) (by decide)] at hk; cases hk
    arch := fun hk a ha => (Memory.read_writeBytes_out _ _ _ _ (by omega)).trans (h.arch hk a ha) }

theorem State.lifeWrite_keeps {x1 x2} (h : Keeps S M s t) (hM : Sub 0x2000200 M) :
    Keeps S M s (State.lifeWrite t x1 x2) := by
  unfold State.lifeWrite
  extract_lets p1 cells2
  have hl : cells2.length = 16 := by simp [cells2, lifeCells, beBytes]
  refine State.atticWrite_life h (hM.tr rfl) (by unfold lifeAddr; omega) ?_
  have : (cells2 ++ beBytes 4 (crc32c cells2) ++ List.replicate 12 0).length = 32 := by
    rw [List.length_append, List.length_append, hl]; simp [beBytes]
  rw [this]; unfold lifeAddr; omega

theorem State.writeSlot_keeps {x1 x2 x3} (h : Keeps S M s t) (ht : x1 = rtHOLD_SUMMARY ∨ x1 = rtSHUTDOWN) (hM : Sub 0x2800200 M) :
    Keeps S M s (State.writeSlot t x1 x2 x3) := by
  unfold State.writeSlot
  split
  · rename_i a1 a2
    exact h
  · rename_i a3 r hr
    extract_lets p6
    have hp : 1024 ≤ r.page := by
      rcases ht with rfl | rfl <;> (cases hr; decide)
    refine State.atticWrite_dailies h (hM.tr rfl) ?_
    generalize r.pages * x2 = k
    omega

theorem State.flushLife_keeps (h : Keeps S M s t) (hM : Sub 0x2000200 M) :
    Keeps S M s (State.flushLife t) := by
  unfold State.flushLife
  refine Keeps.foldl ?_ fun u2 x1 h3 => ?_
  · exact Keeps.to_at_ h (hM.tr rfl) rfl rfl
  · exact State.lifeWrite_keeps h3 (hM.tr rfl)

theorem State.lifeBump_keeps {x1 x2} (h : Keeps S M s t) (hS : Sub 0x8017d100000100000000000000440000000000000020000000000000000000000000000000000000000000000000080000000600000000000000000000000000000000000000000000000000000000000000000000000000000000000000000000000000000000000 S) (hM : Sub 0x2304226 M) :
    Keeps S M s (State.lifeBump t x1 x2) := by
  unfold State.lifeBump
  refine Keeps.ite ?_ ?_
  · exact h
  · extract_lets s1 v2 s3
    have hs1 : Keeps S M s s1 := by
      unfold s1
      refine Keeps.when h fun u4 h5 => ?_
      exact State.fault_keeps h5 (hS.tr rfl) (hM.tr rfl)
    clear_value s1
    have hs3 : Keeps S M s s3 := Keeps.to_at_ hs1 (hM.tr rfl) rfl rfl
    clear_value s3
    refine Keeps.ite ?_ ?_
    · exact State.flushLife_keeps hs3 (hM.tr rfl)
    · exact hs3

end Sys2Proof.Machine
end

