-- ==== Sys2Proof/Laws/KeepsAtticPort.lean ====
section
/-! SUPPORT. What each operation of Machine/AtticPort.lean may change (`Keeps`): the bits of the first mask are numbers of register
fields, those of the second the numbers `P.…` of the parts of the state. -/

set_option Elab.async false

namespace Sys2Proof.Machine

variable {S M : Nat} {s t u v : State}

theorem State.portStarts_keeps (h : Keeps S M s t) (hM : Sub 0x208 M) :
    Keeps S M s (State.portStarts t) := by
  unfold State.portStarts
  split
  · rename_i a1 a2
    exact h
  · rename_i a3 a4 a5 a6
    extract_lets list7 v8 v9
    exact Keeps.to_un_at h (hM.tr rfl) rfl rfl

theorem State.portRequest_keeps {x1} (h : Keeps S M s t) (hM : Sub 0x208 M) :
    Keeps S M s (State.portRequest t x1) := by
  unfold State.portRequest
  extract_lets free1 v2 s3
  have hs3 : Keeps S M s s3 := Keeps.to_at_ h (hM.tr rfl) rfl rfl
  clear_value s3
  refine Keeps.when hs3 fun u4 h5 => ?_
  exact State.portStarts_keeps h5 (hM.tr rfl)

theorem State.queueRetireList_keeps (h : Keeps S M s t) (hS : Sub 0x400000000000000000000000000000000000000000000000000000000 S) (hM : Sub 0x208 M) :
    Keeps S M s (State.queueRetireList t) := by
  unfold State.queueRetireList
  extract_lets s1 pay2 isList3 later4 v5
  have hs1 : Keeps S M s s1 := State.wr_keeps h (hS.bit rfl)
  clear_value s1
  refine Keeps.ite ?_ ?_
  · exact Keeps.to_at_ hs1 (hM.tr rfl) rfl rfl
  · exact State.portRequest_keeps hs1 (hM.tr rfl)

theorem State.listRetire_keeps {x1 x2} (h : Keeps S M s t) (hS : Sub 0xc00000000000000000000000000000000000000000000000000000000 S) (hM : Sub 0xa08 M) :
    Keeps S M s (State.listRetire t x1 x2) := by
  unfold State.listRetire
  extract_lets l1 l2 v3
  refine State.queueRetireList_keeps ?_ (hS.tr rfl) (hM.tr rfl)
  refine State.wr_keeps ?_ (hS.bit rfl)
  exact Keeps.to_ql h (hM.tr rfl)

end Sys2Proof.Machine
end

