-- ==== Sys2Proof/Laws/KeepsAtticLog.lean ====
section
/-! SUPPORT. What each operation of Machine/AtticLog.lean may change (`Keeps`): the bits of the first mask are numbers of register
fields, those of the second the numbers `P.…` of the parts of the state. -/

set_option Elab.async false

namespace Sys2Proof.Machine

variable {S M : Nat} {s t u v : State}

theorem State.logPageWrite_keeps (h : Keeps S M s t) (hS : Sub 0xe0000000000000000000000000000000000000000000000000000000000000000000000000000000000000000000000000000000000000000000000000000000000000000000000000000000000000000000000000000000000000000000000000000000000000000000000 S) (hM : Sub 0x2800200 M) :
    Keeps S M s (State.logPageWrite t) := by
  unfold State.logPageWrite
  refine Keeps.ite ?_ ?_
  · exact h
  · extract_lets k1 s2 lap3 v4 s5
    have hs2 : Keeps S M s s2 := State.atticWrite_dailies h (hM.tr rfl) (by unfold logAddr; omega)
    clear_value s2
    have hs5 : Keeps S M s s5 := Keeps.to_at_ hs2 (hM.tr rfl) rfl rfl
    clear_value s5
    exact State.wrAll_keeps hs5 hS ⟨rfl, rfl, rfl, trivial⟩

theorem State.logRecord_keeps {x1} (h : Keeps S M s t) (hS : Sub 0x1e0000000000000000000000000000000000000000000000000000000000000000000000000000000000000000000000000000000000000000000000000000000000000000000000000000000000000000000000000000000000000000000000000000000000000000000000 S) (hM : Sub 0x2800200 M) :
    Keeps S M s (State.logRecord t x1) := by
  unfold State.logRecord
  refine Keeps.ite ?_ ?_
  · exact h
  · extract_lets sec1 n2 first3 held4 v5 s6 s7
    have hs6 : Keeps S M s s6 := Keeps.to_at_ h (hM.tr rfl) rfl rfl
    clear_value s6
    have hs7 : Keeps S M s s7 := State.wr_keeps hs6 (hS.bit rfl)
    clear_value s7
    refine Keeps.ite ?_ ?_
    · exact State.bump_keeps h (hS.bit rfl)
    · refine Keeps.ite ?_ ?_
      · exact State.logPageWrite_keeps hs7 (hS.tr rfl) (hM.tr rfl)
      · exact hs7

end Sys2Proof.Machine
end

