-- ==== Sys2Proof/Laws/KeepsFullReset.lean ====
section
/-! SUPPORT. What each operation of Machine/FullReset.lean may change (`Keeps`): the bits of the first mask are numbers of register
fields, those of the second the numbers `P.…` of the parts of the state. -/

set_option Elab.async false

namespace Sys2Proof.Machine

variable {S M : Nat} {s t u v : State}

theorem State.fullReset_keeps {x1} (h : Keeps S M s t) (hS : Sub 0x8017d100000100000000000000440000000000000020000030c00000000000000000000000000000000000000000080000000600000000000000000000000000000000000000000000000000000000000000000000000000000000000040000000000000000000000 S) (hM : Sub 0x37fffff M) :
    Keeps S M s (State.fullReset t x1) := by
  unfold State.fullReset
  extract_lets r link v1 v2 v3 v4 s1 s2 s3 s4
  have h1 : Keeps S M s s1 := by
    have b : ∀ i, i ≤ 22 → M.testBit i = true := fun i hi => hM.bit (i := i) (by interval_cases i <;> rfl)
    exact {
      regs := fun x => by rw [b 22 (by decide)] at x; cases x
      sorted := fun x => Tab.sorted_filter _ (h.sorted x)
      mem := h.mem
      staging := fun _ => rfl
      outs := h.outs
      pending := h.pending
      cp := fun x => by rw [b 0 (by decide)] at x; cases x
      ev := fun x => by rw [b 1 (by decide)] at x; cases x
      flt := fun x => by rw [b 2 (by decide)] at x; cases x
      un := fun x => by rw [b 3 (by decide)] at x; cases x
      tm := fun x => by rw [b 4 (by decide)] at x; cases x
      pr := fun x => by rw [b 5 (by decide)] at x; cases x
      pw := fun x => by rw [b 6 (by decide)] at x; cases x
      ck := fun x => by rw [b 7 (by decide)] at x; cases x
      dp := fun x => by rw [b 8 (by decide)] at x; cases x
      at_ := fun x => by rw [b 9 (by decide)] at x; cases x
      td := fun x => by rw [b 10 (by decide)] at x; cases x
      ql := fun x => by rw [b 11 (by decide)] at x; cases x
      tr := fun x => by rw [b 12 (by decide)] at x; cases x
      sy := fun x => by rw [b 13 (by decide)] at x; cases x
      hs := fun x => by rw [b 14 (by decide)] at x; cases x
      po := fun x => by rw [b 15 (by decide)] at x; cases x
      sv := fun x => by rw [b 16 (by decide)] at x; cases x
      pk := fun x => by rw [b 17 (by decide)] at x; cases x
      id_ := fun x => by rw [b 18 (by decide)] at x; cases x
      ep := fun x => by rw [b 19 (by decide)] at x; cases x
      out := h.out
      freeCtr := h.freeCtr
      recs := h.recs
      stg := fun x => by rw [hM.bit (i := 24) (by decide)] at x; cases x
      bytes := h.bytes
      arch := h.arch }
  have h2 : Keeps S M s s2 := State.wr_any h1 (hM.tr rfl)
  have h3 : Keeps S M s s3 := Keeps.ite (Keeps.foldl h2 fun u x hu => State.wr_any hu (hM.tr rfl)) h2
  have h4 : Keeps S M s s4 := State.wr_any h3 (hM.tr rfl)
  exact State.lifeBump_keeps (State.porchTrace_keeps h4 (hS.tr rfl) (hM.tr rfl)) (hS.tr rfl) (hM.tr rfl)

end Sys2Proof.Machine
end

