-- ==== Sys2Proof/Laws/KeepsStages.lean ====
section
/-! SUPPORT. What each operation of Machine/Stages.lean may change (`Keeps`): the bits of the first mask are numbers of register
fields, those of the second the numbers `P.…` of the parts of the state. -/

set_option Elab.async false

namespace Sys2Proof.Machine

variable {S M : Nat} {s t u v : State}

theorem State.clearTree_keeps (h : Keeps S M s t) (hM : Sub 0x1000 M) :
    Keeps S M s (State.clearTree t) := by
  unfold State.clearTree
  exact Keeps.to_tr h (hM.tr rfl)

theorem State.applyRetireList_keeps (h : Keeps S M s t) (hS : Sub 0x1080000000000000000000000000000000000000000000000000 S) (hM : Sub 0x808 M) :
    Keeps S M s (State.applyRetireList t) := by
  unfold State.applyRetireList
  refine Keeps.foldl h fun u2 x1 h3 => ?_
  extract_lets q4 v5 t6
  have ht6 : Keeps S M s t6 := Keeps.to_ql h3 (hM.tr rfl)
  clear_value t6
  refine State.wrAll_keeps ?_ hS ⟨rfl, rfl, trivial⟩
  exact State.markRetired_keeps ht6 (hM.tr rfl)

theorem State.setStage_keeps {x1 x2} (h : Keeps S M s t) (hS : Sub 0x10000000000000000000000000000000000000440000000000000000000000000000000000000000000000000000000000000000000000000000000000000000000000000000000000000000000000000000000001080000000000000000000000000018000000000000000000000 S) (hM : Sub 0x1aaa M) :
    Keeps S M s (State.setStage t x1 x2) := by
  unfold State.setStage
  extract_lets old1 s2 s3 s4 s5 s6 s7 v8 s9 s10 v11 s12 s13
  have hs2 : Keeps S M s s2 := by
    unfold s2
    refine State.bump_keeps ?_ (hS.bit rfl)
    exact State.wr_keeps h (hS.bit rfl)
  clear_value s2
  have hs3 : Keeps S M s s3 := State.info_keeps hs2 (hM.tr rfl)
  clear_value s3
  have hs4 : Keeps S M s s4 := by
    unfold s4
    refine Keeps.when hs3 fun u14 h15 => ?_
    exact State.clearTree_keeps h15 (hM.tr rfl)
  clear_value s4
  have hs5 : Keeps S M s s5 := by
    unfold s5
    refine Keeps.when hs4 fun u16 h17 => ?_
    exact State.applyRetireList_keeps h17 (hS.tr rfl) (hM.tr rfl)
  clear_value s5
  have hs6 : Keeps S M s s6 := by
    unfold s6
    refine Keeps.when hs5 fun u18 h19 => ?_
    exact State.wr_keeps h19 (hS.bit rfl)
  clear_value s6
  have hs7 : Keeps S M s s7 := by
    unfold s7
    refine Keeps.when hs6 fun u20 h21 => ?_
    exact State.releaseClaim_keeps h21 (hS.tr rfl) (hM.tr rfl)
  clear_value s7
  have hs9 : Keeps S M s s9 := Keeps.to_ck hs7 (hM.tr rfl)
  clear_value s9
  have hs10 : Keeps S M s s10 := by
    unfold s10
    refine Keeps.when hs9 fun u22 h23 => ?_
    exact State.wr_keeps h23 (hS.bit rfl)
  clear_value s10
  have hs12 : Keeps S M s s12 := Keeps.to_at_ hs10 (hM.tr rfl) rfl rfl
  clear_value s12
  have hs13 : Keeps S M s s13 := by
    unfold s13
    refine Keeps.when hs12 fun u24 h25 => ?_
    exact State.wr_keeps h25 (hS.bit rfl)
  clear_value s13
  refine Keeps.ite ?_ ?_
  · exact h
  · exact State.pairReview_keeps hs13 (hS.tr rfl) (hM.tr rfl)

theorem State.requestStage_keeps {x1 x2} (h : Keeps S M s t) (hS : Sub 0x10000000000000000000000000000000000000440000000000000000000000000000000000000000000000000000000000000000000000000000000000000000000000000000000000000000000000000000000001080000000000000000000000000018000000000000000000000 S) (hM : Sub 0x1aaa M) :
    Keeps S M s (State.requestStage t x1 x2) := by
  unfold State.requestStage
  refine Keeps.ite ?_ ?_
  · exact Keeps.to_ck h (hM.tr rfl)
  · exact State.setStage_keeps h (hS.tr rfl) (hM.tr rfl)

theorem State.takeStage_keeps (h : Keeps S M s t) (hS : Sub 0x10000000000000000000000000000000000000440000000000000000000000000000000000000000000000000000000000000000000000000000000000000000000000000000000000000000000000000000000001080000000000000000000000000018000000000000000000000 S) (hM : Sub 0x1aaa M) :
    Keeps S M s (State.takeStage t) := by
  unfold State.takeStage
  split
  · rename_i a1 a2 a3 a4
    exact State.setStage_keeps h (hS.tr rfl) (hM.tr rfl)
  · rename_i a5 a6
    exact h

end Sys2Proof.Machine
end

