-- ==== Sys2Proof/Laws/KeepsPower.lean ====
section
/-! SUPPORT. What each operation of Machine/Power.lean may change (`Keeps`): the bits of the first mask are numbers of register
fields, those of the second the numbers `P.…` of the parts of the state. -/

set_option Elab.async false

namespace Sys2Proof.Machine

variable {S M : Nat} {s t u v : State}

theorem State.powerDown_keeps {x1} (h : Keeps S M s t) (hS : Sub 0x440000000000000000000000000000000000000000000000000000000000000000080000000600000000000000000000000000000000000000000000000000000000000000000000000000000000000000000000000000000100000 S) (hM : Sub 0x200262 M) :
    Keeps S M s (State.powerDown t x1) := by
  unfold State.powerDown
  refine Keeps.ite ?_ ?_
  · exact h
  · extract_lets v1 s2 s3 s4 s5 s6 v7
    have hs2 : Keeps S M s s2 := Keeps.to_pw h (hM.tr rfl)
    clear_value s2
    have hs3 : Keeps S M s s3 := State.wr_keeps hs2 (hS.bit rfl)
    clear_value s3
    have hs4 : Keeps S M s s4 := State.info_keeps hs3 (hM.tr rfl)
    clear_value s4
    have hs5 : Keeps S M s s5 := State.releaseClaim_keeps hs4 (hS.tr rfl) (hM.tr rfl)
    clear_value s5
    have hs6 : Keeps S M s s6 := State.porchTrace_keeps hs5 (hS.tr rfl) (hM.tr rfl)
    clear_value s6
    exact Keeps.to_at_ hs6 (hM.tr rfl) rfl rfl

theorem State.checkFeeds_keeps (h : Keeps S M s t) (hS : Sub 0x440000000000000000000000000000000000000000000000000000000000000000080000000600000000000000000000000000000000000000000000000000000000000000000000000000000000000000000000000000000100000 S) (hM : Sub 0x200262 M) :
    Keeps S M s (State.checkFeeds t) := by
  unfold State.checkFeeds
  refine Keeps.ite ?_ ?_
  · exact h
  · exact State.powerDown_keeps h (hS.tr rfl) (hM.tr rfl)

theorem State.alertResponse_keeps (h : Keeps S M s t) (hM : Sub 0x100040 M) :
    Keeps S M s (State.alertResponse t) := by
  unfold State.alertResponse
  refine Keeps.ite ?_ ?_
  · refine State.emitOut_keeps ?_ (hM.tr rfl)
    exact Keeps.to_pw h (hM.tr rfl)
  · exact State.emitOut_keeps h (hM.tr rfl)

theorem State.checkAlert_keeps (h : Keeps S M s t) (hM : Sub 0x40 M) :
    Keeps S M s (State.checkAlert t) := by
  unfold State.checkAlert
  extract_lets w1 rose2 v3
  exact Keeps.to_pw h (hM.tr rfl)

theorem State.porchPowerOn_keeps (h : Keeps S M s t) (hM : Sub 0x400010 M) :
    Keeps S M s (State.porchPowerOn t) := by
  unfold State.porchPowerOn
  exact Keeps.to_tm (Keeps.to_regs h (hM.tr rfl) (Tab.sorted_filter _)) (hM.tr rfl)

theorem State.testResult_keeps {x1 x2} (h : Keeps S M s t) (hS : Sub 0xc0400000 S) (hM : Sub 0x2 M) :
    Keeps S M s (State.testResult t x1 x2) := by
  unfold State.testResult
  extract_lets s1
  have hs1 : Keeps S M s s1 := State.wrAll_keeps h hS ⟨rfl, rfl, rfl, trivial⟩
  clear_value s1
  exact State.info_keeps hs1 (hM.tr rfl)

theorem State.noteRedundant_keeps (h : Keeps S M s t) (hS : Sub 0x200000 S) :
    Keeps S M s (State.noteRedundant t) := by
  unfold State.noteRedundant
  exact State.wrB_keeps h (hS.bit rfl)

theorem State.feedGoes_keeps {x1 x2} (h : Keeps S M s t) (hS : Sub 0x200400 S) (hM : Sub 0x2 M) :
    Keeps S M s (State.feedGoes t x1 x2) := by
  unfold State.feedGoes
  refine Keeps.ite ?_ ?_
  · exact h
  · refine State.info_keeps ?_ (hM.tr rfl)
    refine State.noteRedundant_keeps ?_ (hS.tr rfl)
    exact State.wr_keeps h (hS.bit rfl)

theorem State.startTest_keeps {x1} (h : Keeps S M s t) (hS : Sub 0xe0600400 S) (hM : Sub 0x2 M) :
    Keeps S M s (State.startTest t x1).1 := by
  unfold State.startTest
  split
  · rename_i a1
    dsimp only
    exact h
  · rename_i a2
    split
    · rename_i a3
      extract_lets s4
      have hs4 : Keeps S M s s4 := State.feedGoes_keeps h (hS.tr rfl) (hM.tr rfl)
      clear_value s4
      dsimp only
      exact State.wrAll_keeps hs4 hS ⟨rfl, rfl, trivial⟩
    · rename_i a5
      dsimp only
      exact State.wrAll_keeps h hS ⟨rfl, rfl, trivial⟩

theorem State.endTest_keeps {x1 x2 x3} (h : Keeps S M s t) (hS : Sub 0xe0600400 S) (hM : Sub 0x42 M) :
    Keeps S M s (State.endTest t x1 x2 x3) := by
  unfold State.endTest
  extract_lets s1 v2
  have hs1 : Keeps S M s s1 := by
    unfold s1
    refine State.testResult_keeps ?_ (hS.tr rfl) (hM.tr rfl)
    exact State.feedGoes_keeps h (hS.tr rfl) (hM.tr rfl)
  clear_value s1
  refine Keeps.ite ?_ ?_
  · refine State.startTest_keeps ?_ (hS.tr rfl) (hM.tr rfl)
    exact Keeps.to_pw hs1 (hM.tr rfl)
  · exact hs1

theorem State.abortTest_keeps (h : Keeps S M s t) (hS : Sub 0xe0600400 S) (hM : Sub 0x42 M) :
    Keeps S M s (State.abortTest t) := by
  unfold State.abortTest
  extract_lets v1 s2
  have hs2 : Keeps S M s s2 := Keeps.to_pw h (hM.tr rfl)
  clear_value s2
  refine Keeps.ite ?_ ?_
  · exact State.endTest_keeps hs2 (hS.tr rfl) (hM.tr rfl)
  · refine Keeps.ite ?_ ?_
    · exact State.endTest_keeps hs2 (hS.tr rfl) (hM.tr rfl)
    · exact hs2

theorem State.feedSample_keeps {x1 x2 x3 x4} (h : Keeps S M s t) (hS : Sub 0x420203fbc S) (hM : Sub 0x42 M) :
    Keeps S M s (State.feedSample t x1 x2 x3 x4) := by
  unfold State.feedSample
  extract_lets wasIn1 uv2 ov3 inWin4 warn5 s6 s7 st8 s9
  have hs6 : Keeps S M s s6 := State.wrAll_keeps h hS ⟨rfl, rfl, rfl, rfl, rfl, rfl, rfl, rfl, rfl, trivial⟩
  clear_value s6
  have hs7 : Keeps S M s s7 := State.wr_keeps hs6 (hS.bit rfl)
  clear_value s7
  have hs9 : Keeps S M s s9 := by
    unfold s9
    refine Keeps.ite ?_ ?_
    · exact State.feedGoes_keeps hs7 (hS.tr rfl) (hM.tr rfl)
    · refine Keeps.ite ?_ ?_
      · exact State.feedGoes_keeps hs7 (hS.tr rfl) (hM.tr rfl)
      · refine Keeps.ite ?_ ?_
        · exact State.wr_keeps hs7 (hS.bit rfl)
        · refine Keeps.ite ?_ ?_
          · exact State.wr_keeps hs7 (hS.bit rfl)
          · exact hs7
  clear_value s9
  exact State.checkAlert_keeps hs9 (hM.tr rfl)

theorem State.railOff_keeps (h : Keeps S M s t) (hS : Sub 0x10000000000000000000000000000000000000440000000000000000000000000000000000000000000000000000000000000000080000000600000000000000000000000000000000000000000000000000000001080000000000000000000000000018000000000800000220400 S) (hM : Sub 0x201afa M) :
    Keeps S M s (State.railOff t) := by
  unfold State.railOff
  refine Keeps.ite ?_ ?_
  · extract_lets s1 s2 s3 s4 s5 v6 v7
    have hs1 : Keeps S M s s1 := State.porchTrace_keeps h (hS.tr rfl) (hM.tr rfl)
    clear_value s1
    have hs2 : Keeps S M s s2 := by
      unfold s2
      split
      · rename_i a8 a9 a10
        exact State.porchTrace_keeps hs1 (hS.tr rfl) (hM.tr rfl)
      · rename_i a11 a12
        exact hs1
    clear_value s2
    have hs3 : Keeps S M s s3 := State.bump_keeps hs2 (hS.bit rfl)
    clear_value s3
    have hs4 : Keeps S M s s4 := by
      unfold s4
      refine State.setStage_keeps ?_ (hS.tr rfl) (hM.tr rfl)
      exact State.releaseClaim_keeps hs3 (hS.tr rfl) (hM.tr rfl)
    clear_value s4
    have hs5 : Keeps S M s s5 := State.wrAll_keeps hs4 hS ⟨rfl, rfl, rfl, rfl, rfl, trivial⟩
    clear_value s5
    exact Keeps.to_tm_pw hs5 (hM.tr rfl)
  · exact h

theorem State.feedQualified_keeps {x1} (h : Keeps S M s t) (hS : Sub 0x200400 S) (hM : Sub 0x2 M) :
    Keeps S M s (State.feedQualified t x1) := by
  unfold State.feedQualified
  refine Keeps.ite ?_ ?_
  · exact State.feedGoes_keeps h (hS.tr rfl) (hM.tr rfl)
  · exact h

theorem State.railFault_keeps {x1 x2} (h : Keeps S M s t) (hS : Sub 0x8017d100000100000000000000440000000000000020000000000000000000000000000000000000000000000000080000000600000000000000000000000000000000000000000000000000000000000000000000000000000000000000000000000000000000000 S) (hM : Sub 0x304026 M) :
    Keeps S M s (State.railFault t x1 x2) := by
  unfold State.railFault
  exact State.fault_keeps h (hS.tr rfl) (hM.tr rfl)

theorem State.setFeed_keeps {x1 x2} (h : Keeps S M s t) (hM : Sub 0x40 M) :
    Keeps S M s (State.setFeed t x1 x2) := by
  unfold State.setFeed
  exact Keeps.to_pw h (hM.tr rfl)

theorem State.feedDropout_keeps {x1} (h : Keeps S M s t) (hS : Sub 0x408c S) :
    Keeps S M s (State.feedDropout t x1) := by
  unfold State.feedDropout
  refine Keeps.ite ?_ ?_
  · refine State.wrAll_keeps ?_ hS ⟨rfl, rfl, trivial⟩
    refine State.bump_keeps ?_ (hS.bit rfl)
    exact State.wr_keeps h (hS.bit rfl)
  · exact h

theorem State.pmAnswer_keeps {x1} (h : Keeps S M s t) (hM : Sub 0x100040 M) :
    Keeps S M s (State.pmAnswer t x1) := by
  unfold State.pmAnswer
  refine State.emitOut_keeps ?_ (hM.tr rfl)
  refine State.checkAlert_keeps ?_ (hM.tr rfl)
  exact Keeps.to_pw h (hM.tr rfl)

theorem State.pmStatusWord_keeps (h : Keeps S M s t) (hM : Sub 0x100040 M) :
    Keeps S M s (State.pmStatusWord t) := by
  unfold State.pmStatusWord
  exact State.pmAnswer_keeps h (hM.tr rfl)

theorem State.pmPageCmd_keeps {x1} (h : Keeps S M s t) (hM : Sub 0x100040 M) :
    Keeps S M s (State.pmPageCmd t x1) := by
  unfold State.pmPageCmd
  split
  · rename_i a1 a2
    refine State.checkAlert_keeps ?_ (hM.tr rfl)
    exact Keeps.to_pw h (hM.tr rfl)
  · rename_i a3
    exact State.pmAnswer_keeps h (hM.tr rfl)

theorem State.feedRecover_keeps {x1} (h : Keeps S M s t) (hS : Sub 0x200440 S) (hM : Sub 0x2 M) :
    Keeps S M s (State.feedRecover t x1) := by
  unfold State.feedRecover
  refine Keeps.ite ?_ ?_
  · refine State.feedGoes_keeps ?_ (hS.tr rfl) (hM.tr rfl)
    exact State.wr_keeps h (hS.bit rfl)
  · exact h

theorem State.thermalSample_keeps {x1 x2 x3 x4 x5 x6} (h : Keeps S M s t) (hS : Sub 0x8017d10000010000000000000044000000000000002000000000000000000000000000000000000000000000000008000000060000000000000000000000000000000000000000000000000000000000000000000000000000000000000000000000027f0010c0000 S) (hM : Sub 0x304266 M) :
    Keeps S M s (State.thermalSample t x1 x2 x3 x4 x5 x6) := by
  unfold State.thermalSample
  extract_lets s1 s2 s3 warn4 hyst5 was6 s7 v8 v9 s10
  have hs1 : Keeps S M s s1 := by
    unfold s1
    refine State.wrI_keeps ?_ (hS.bit rfl)
    refine State.wrI_keeps ?_ (hS.bit rfl)
    exact State.wrI_keeps h (hS.bit rfl)
  clear_value s1
  have hs2 : Keeps S M s s2 := State.wrAll_keeps hs1 hS ⟨rfl, rfl, rfl, rfl, rfl, rfl, trivial⟩
  clear_value s2
  have hs3 : Keeps S M s s3 := by
    unfold s3
    refine Keeps.when hs2 fun u11 h12 => ?_
    exact State.wr_keeps h12 (hS.bit rfl)
  clear_value s3
  have hs7 : Keeps S M s s7 := by
    unfold s7
    refine Keeps.ite ?_ ?_
    · refine State.fault_keeps ?_ (hS.tr rfl) (hM.tr rfl)
      exact State.wr_keeps hs3 (hS.bit rfl)
    · refine Keeps.ite ?_ ?_
      · exact State.wr_keeps hs3 (hS.bit rfl)
      · exact hs3
  clear_value s7
  have hs10 : Keeps S M s s10 := Keeps.to_pw_at hs7 (hM.tr rfl) rfl rfl
  clear_value s10
  exact State.checkAlert_keeps hs10 (hM.tr rfl)

theorem State.thermalTripped_keeps (h : Keeps S M s t) (hS : Sub 0x8017d100000100000000000000440000000000000020000000000000000000000000000000000000000000000000080000000600000000000000000000000000000000000000000000000000000000000000000000000000000000000000000000000000000100000 S) (hM : Sub 0x2304266 M) :
    Keeps S M s (State.thermalTripped t) := by
  unfold State.thermalTripped
  refine Keeps.ite ?_ ?_
  · refine State.powerDown_keeps ?_ (hS.tr rfl) (hM.tr rfl)
    refine State.lifeBump_keeps ?_ (hS.tr rfl) (hM.tr rfl)
    exact State.porchTrace_keeps h (hS.tr rfl) (hM.tr rfl)
  · exact h

theorem State.feedFaults_keeps {x1 x2} (h : Keeps S M s t) (hS : Sub 0x8017d1000001000000000000004400000000000000200000000000000000000000000000000000000000000000000800000006000000000000000000000000000000000000000000000000000000000000000000000000000000000000000000000000000c0718480 S) (hM : Sub 0x2304266 M) :
    Keeps S M s (State.feedFaults t x1 x2) := by
  unfold State.feedFaults
  extract_lets testing1 f2 hist3 s4 s5 s6 s7 s8 s9 s10
  have hs4 : Keeps S M s s4 := State.setFeed_keeps h (hM.tr rfl)
  clear_value s4
  have hs5 : Keeps S M s s5 := State.wr_keeps hs4 (hS.bit rfl)
  clear_value s5
  have hs6 : Keeps S M s s6 := by
    unfold s6
    refine State.wr_keeps ?_ (hS.bit rfl)
    exact State.bump_keeps hs5 (hS.bit rfl)
  clear_value s6
  have hs7 : Keeps S M s s7 := State.feedGoes_keeps hs6 (hS.tr rfl) (hM.tr rfl)
  clear_value s7
  have hs8 : Keeps S M s s8 := by
    unfold s8
    refine Keeps.when hs7 fun u11 h12 => ?_
    exact State.testResult_keeps h12 (hS.tr rfl) (hM.tr rfl)
  clear_value s8
  have hs9 : Keeps S M s s9 := State.fault_keeps hs8 (hS.tr rfl) (hM.tr rfl)
  clear_value s9
  have hs10 : Keeps S M s s10 := State.lifeBump_keeps hs9 (hS.tr rfl) (hM.tr rfl)
  clear_value s10
  refine State.checkAlert_keeps ?_ (hM.tr rfl)
  exact State.checkFeeds_keeps hs10 (hS.tr rfl) (hM.tr rfl)

theorem State.feedUvFault_keeps {x1} (h : Keeps S M s t) (hS : Sub 0x8017d1000001000000000000004400000000000000200000000000000000000000000000000000000000000000000800000006000000000000000000000000000000000000000000000000000000000000000000000000000000000000000000000000000c0718480 S) (hM : Sub 0x2304266 M) :
    Keeps S M s (State.feedUvFault t x1) := by
  unfold State.feedUvFault
  refine Keeps.ite ?_ ?_
  · exact State.feedFaults_keeps h (hS.tr rfl) (hM.tr rfl)
  · exact h

theorem State.pmRead_keeps {x1 x2} (h : Keeps S M s t) (hM : Sub 0x300040 M) :
    Keeps S M s (State.pmRead t x1 x2) := by
  unfold State.pmRead
  refine Keeps.ite ?_ ?_
  · exact State.pmAnswer_keeps h (hM.tr rfl)
  · refine State.drawn_keeps ?_ (hM.tr rfl)
    exact State.pmAnswer_keeps h (hM.tr rfl)

theorem State.thermalRestart_keeps {x1} (h : Keeps S M s t) (hM : Sub 0x40 M) :
    Keeps S M s (State.thermalRestart t x1) := by
  unfold State.thermalRestart
  refine Keeps.ite ?_ ?_
  · exact Keeps.to_pw h (hM.tr rfl)
  · exact h

theorem State.pmUnsupported_keeps (h : Keeps S M s t) (hM : Sub 0x100040 M) :
    Keeps S M s (State.pmUnsupported t) := by
  unfold State.pmUnsupported
  refine State.emitOut_keeps ?_ (hM.tr rfl)
  refine State.checkAlert_keeps ?_ (hM.tr rfl)
  exact Keeps.to_pw h (hM.tr rfl)

theorem State.feedOv_keeps {x1} (h : Keeps S M s t) (hS : Sub 0x8017d1000001000000000000004400000000000000200000000000000000000000000000000000000000000000000800000006000000000000000000000000000000000000000000000000000000000000000000000000000000000000000000000000000c0718494 S) (hM : Sub 0x2304266 M) :
    Keeps S M s (State.feedOv t x1) := by
  unfold State.feedOv
  extract_lets s1
  have hs1 : Keeps S M s s1 := State.wrAll_keeps h hS ⟨rfl, rfl, trivial⟩
  clear_value s1
  refine Keeps.ite ?_ ?_
  · exact State.feedFaults_keeps hs1 (hS.tr rfl) (hM.tr rfl)
  · exact State.checkAlert_keeps hs1 (hM.tr rfl)

theorem State.vbatLow_keeps {x1} (h : Keeps S M s t) (hS : Sub 0x80000000600000000000000000000000000000000000000000000000000000000000000000000000000000000000000000000000200000080000 S) (hM : Sub 0x200012 M) :
    Keeps S M s (State.vbatLow t x1) := by
  unfold State.vbatLow
  refine Keeps.ite ?_ ?_
  · extract_lets s1 s2 v3
    have hs1 : Keeps S M s s1 := State.wr_keeps h (hS.bit rfl)
    clear_value s1
    have hs2 : Keeps S M s s2 := by
      unfold s2
      refine State.porchTrace_keeps ?_ (hS.tr rfl) (hM.tr rfl)
      refine State.info_keeps ?_ (hM.tr rfl)
      exact State.wr_keeps hs1 (hS.bit rfl)
    clear_value s2
    refine Keeps.ite ?_ ?_
    · exact Keeps.to_tm hs2 (hM.tr rfl)
    · exact hs2
  · exact h

theorem State.startTestsAB_keeps (h : Keeps S M s t) (hS : Sub 0xe0600400 S) (hM : Sub 0x42 M) :
    Keeps S M s (State.startTestsAB t).1 := by
  unfold State.startTestsAB
  extract_lets p1 v2 v3 q4
  have hp1 : Keeps S M s p1.1 := by
    unfold p1
    exact State.startTest_keeps h (hS.tr rfl) (hM.tr rfl)
  clear_value p1
  have hv2 : Keeps S M s v2 := by
    unfold v2
    exact hp1
  clear_value v2
  have hq4 : Keeps S M s q4.1 := by
    unfold q4
    exact State.startTest_keeps hp1 (hS.tr rfl) (hM.tr rfl)
  clear_value q4
  split
  · rename_i a5
    dsimp only
    exact Keeps.to_pw hv2 (hM.tr rfl)
  · rename_i a6
    split
    · rename_i a7
      dsimp only
      exact hq4
    · rename_i a8
      exact hp1

theorem State.feedTestFail_keeps {x1} (h : Keeps S M s t) (hS : Sub 0x8017d1000001000000000000004400000000000000200000000000000000000000000000000000000000000000000800000006000000000000000000000000000000000000000000000000000000000000000000000000000000000000000000000000000c0718480 S) (hM : Sub 0x2304266 M) :
    Keeps S M s (State.feedTestFail t x1) := by
  unfold State.feedTestFail
  refine Keeps.ite ?_ ?_
  · exact State.feedFaults_keeps h (hS.tr rfl) (hM.tr rfl)
  · exact h

theorem State.railOffRestart_keeps {x1} (h : Keeps S M s t) (hS : Sub 0x200400 S) (hM : Sub 0x2 M) :
    Keeps S M s (State.railOffRestart t x1) := by
  unfold State.railOffRestart
  refine Keeps.ite ?_ ?_
  · refine State.feedGoes_keeps ?_ (hS.tr rfl) (hM.tr rfl)
    exact State.feedGoes_keeps h (hS.tr rfl) (hM.tr rfl)
  · exact h

theorem State.measureBank_keeps {x1 x2} (h : Keeps S M s t) (hS : Sub 0x8017d100000100000000000000440000000000000020000000000000000000000000000000000000000000000000080000000600000000000000000000000000000000000000000000000000000000000000000000000000000000000000000000000000300800000 S) (hM : Sub 0x304026 M) :
    Keeps S M s (State.measureBank t x1 x2) := by
  unfold State.measureBank
  extract_lets s1 s2
  have hs1 : Keeps S M s s1 := State.wrAll_keeps h hS ⟨rfl, rfl, trivial⟩
  clear_value s1
  have hs2 : Keeps S M s s2 := State.wrB_keeps hs1 (hS.bit rfl)
  clear_value s2
  refine Keeps.when hs2 fun u3 h4 => ?_
  exact State.fault_keeps h4 (hS.tr rfl) (hM.tr rfl)

theorem State.feedTestEnd_keeps {x1 x2} (h : Keeps S M s t) (hS : Sub 0x8017d1000001000000000000004400000000000000200000000000000000000000000000000000000000000000000800000006000000000000000000000000000000000000000000000000000000000000000000000000000000000000000000000000003e0e00400 S) (hM : Sub 0x304066 M) :
    Keeps S M s (State.feedTestEnd t x1 x2) := by
  unfold State.feedTestEnd
  extract_lets s1
  have hs1 : Keeps S M s s1 := by
    unfold s1
    refine Keeps.ite ?_ ?_
    · exact State.endTest_keeps h (hS.tr rfl) (hM.tr rfl)
    · refine Keeps.ite ?_ ?_
      · exact State.endTest_keeps h (hS.tr rfl) (hM.tr rfl)
      · exact h
  clear_value s1
  exact State.measureBank_keeps hs1 (hS.tr rfl) (hM.tr rfl)

theorem State.pmModel_keeps (h : Keeps S M s t) (hM : Sub 0x300040 M) :
    Keeps S M s (State.pmModel t) := by
  unfold State.pmModel
  split
  · rename_i a1 a2
    exact State.pmAnswer_keeps h (hM.tr rfl)
  · rename_i a3 a4
    exact State.pmAnswer_keeps h (hM.tr rfl)
  · rename_i a5 a6 a7
    refine State.drawn_keeps ?_ (hM.tr rfl)
    exact State.pmAnswer_keeps h (hM.tr rfl)

theorem State.feedOc_keeps {x1} (h : Keeps S M s t) (hS : Sub 0x8017d1000001000000000000004400000000000000200000000000000000000000000000000000000000000000000800000006000000000000000000000000000000000000000000000000000000000000000000000000000000000000000000000000000c07184c0 S) (hM : Sub 0x2304266 M) :
    Keeps S M s (State.feedOc t x1) := by
  unfold State.feedOc
  extract_lets s1
  have hs1 : Keeps S M s s1 := State.wr_keeps h (hS.bit rfl)
  clear_value s1
  refine Keeps.ite ?_ ?_
  · exact State.feedFaults_keeps hs1 (hS.tr rfl) (hM.tr rfl)
  · exact State.checkAlert_keeps hs1 (hM.tr rfl)

end Sys2Proof.Machine
end

