-- ==== Sys2Proof/Laws/KeepsPairs.lean ====
section
/-! SUPPORT. What each operation of Machine/Pairs.lean may change (`Keeps`): the bits of the first mask are numbers of register
fields, those of the second the numbers `P.…` of the parts of the state. -/

set_option Elab.async false

namespace Sys2Proof.Machine

variable {S M : Nat} {s t u v : State}

theorem State.checkPair_keeps {x1} (h : Keeps S M s t) (hM : Sub 0x80001 M) :
    Keeps S M s (State.checkPair t x1) := by
  unfold State.checkPair
  extract_lets now1 was2 v3 later4 v5
  have hlater4 : ∀ y6, Keeps S M s (later4 y6) := by
    intro y6
    unfold later4
    beta_reduce
    exact Keeps.to_ep h (hM.tr rfl)
  clear_value later4
  refine Keeps.ite ?_ ?_
  · refine Keeps.ite ?_ ?_
    · exact hlater4 _
    · exact Keeps.to_cp h (hM.tr rfl)
  · refine Keeps.ite ?_ ?_
    · exact h
    · exact hlater4 _

theorem State.checkPairs_keeps (h : Keeps S M s t) (hM : Sub 0x80001 M) :
    Keeps S M s (State.checkPairs t) := by
  unfold State.checkPairs
  refine Keeps.forAll h fun i1 u2 h3 => ?_
  exact State.checkPair_keeps h3 (hM.tr rfl)

theorem State.pairLeaves_keeps {x1} (h : Keeps S M s t) (hM : Sub 0x1 M) :
    Keeps S M s (State.pairLeaves t x1) := by
  unfold State.pairLeaves
  exact Keeps.to_cp h (hM.tr rfl)

theorem State.pairEnters_keeps {x1} (h : Keeps S M s t) (hS : Sub 0x40000000000000008017d100000100000000000000440000000000000020000000000000000000000000000000000000000000000000080000000600000000000000000000000000000000000000000000000000000000000000000000000000000000000000000000000000000000000 S) (hM : Sub 0x304027 M) :
    Keeps S M s (State.pairEnters t x1) := by
  unfold State.pairEnters
  extract_lets v1 s2
  have hs2 : Keeps S M s s2 := Keeps.to_cp h (hM.tr rfl)
  clear_value s2
  refine State.fault_keeps ?_ (hS.tr rfl) (hM.tr rfl)
  exact State.bump_keeps hs2 (hS.bit rfl)

end Sys2Proof.Machine
end

