-- ==== Sys2Proof/Laws/KeepsReels.lean ====
section
/-! SUPPORT. What each operation of Machine/Reels.lean may change (`Keeps`): the bits of the first mask are numbers of register
fields, those of the second the numbers `P.…` of the parts of the state. -/

set_option Elab.async false

namespace Sys2Proof.Machine

variable {S M : Nat} {s t u v : State}

theorem State.putReel_keeps {x1 x2} (h : Keeps S M s t) (hM : Sub 0x4000 M) :
    Keeps S M s (State.putReel t x1 x2) := by
  unfold State.putReel
  exact Keeps.to_hs h (hM.tr rfl)

theorem State.faultReel_keeps {x1 x2 x3} (h : Keeps S M s t) (hS : Sub 0x8017d1000001000000000000004400000000000000200f8000000000000000000000000000000000000000000000080000000600000000000000000000000000000000000000000000000000000000000000000000000000000000000000000000000000000000000 S) (hM : Sub 0x304026 M) :
    Keeps S M s (State.faultReel t x1 x2 x3) := by
  unfold State.faultReel
  split
  · rename_i a1 a2
    exact h
  · rename_i a3 a4 a5
    refine Keeps.ite ?_ ?_
    · exact h
    · extract_lets s6 s7 s8
      have hs6 : Keeps S M s s6 := State.putReel_keeps h (hM.tr rfl)
      clear_value s6
      have hs7 : Keeps S M s s7 := State.wrAll_keeps hs6 hS ⟨rfl, rfl, rfl, rfl, trivial⟩
      clear_value s7
      have hs8 : Keeps S M s s8 := by
        unfold s8
        refine State.fault_keeps ?_ (hS.tr rfl) (hM.tr rfl)
        exact State.bump_keeps hs7 (hS.bit rfl)
      clear_value s8
      refine Keeps.when hs8 fun u9 h10 => ?_
      exact State.sendMsix_keeps h10 (hS.tr rfl) (hM.tr rfl)

theorem State.modReel_keeps {x1 x2} (h : Keeps S M s t) (hM : Sub 0x4000 M) :
    Keeps S M s (State.modReel t x1 x2) := by
  unfold State.modReel
  split
  · rename_i a1 a2 a3
    exact State.putReel_keeps h (hM.tr rfl)
  · rename_i a4 a5
    exact h

theorem State.signalReel_keeps {x1} (h : Keeps S M s t) (hS : Sub 0x20000000000000000000000000000000000000000000000000000000000000000000000000000000000000000000000000000000000000000000000000000000000000000000000000000000000000000000000 S) (hM : Sub 0x104000 M) :
    Keeps S M s (State.signalReel t x1) := by
  unfold State.signalReel
  split
  · rename_i a1 a2 a3
    refine State.sendMsix_keeps ?_ (hS.tr rfl) (hM.tr rfl)
    exact State.putReel_keeps h (hM.tr rfl)
  · rename_i a4 a5
    exact h

theorem State.noteEntry_keeps {x1} (h : Keeps S M s t) (hS : Sub 0x20000000000000000000000000000000000000000000000000000000000000000000000000000000000000000000000000000000000000000000000000000000000000000000000000000000000000000000000 S) (hM : Sub 0x104000 M) :
    Keeps S M s (State.noteEntry t x1) := by
  unfold State.noteEntry
  split
  · rename_i a1 a2 a3
    extract_lets x4 s5
    have hs5 : Keeps S M s s5 := State.putReel_keeps h (hM.tr rfl)
    clear_value s5
    refine Keeps.ite ?_ ?_
    · exact State.signalReel_keeps hs5 (hS.tr rfl) (hM.tr rfl)
    · exact hs5
  · rename_i a6 a7
    exact h

theorem State.writeEntry_keeps {x1 x2} (h : Keeps S M s t) (hS : Sub 0x20000000000000000000000000000000000000000000000000000000000000000000000000000000000000000000000000000000000000000000000000000000000000000000000000000000000000000000000 S) (hM : Sub 0x104000 M) :
    Keeps S M s (State.writeEntry t x1 x2) := by
  unfold State.writeEntry
  split
  · rename_i a1 a2
    exact h
  · rename_i a3 a4 a5
    refine Keeps.ite ?_ ?_
    · exact h
    · refine Keeps.ite ?_ ?_
      · exact State.putReel_keeps h (hM.tr rfl)
      · extract_lets s6
        have hs6 : Keeps S M s s6 := State.emitOut_keeps h (hM.tr rfl)
        clear_value s6
        refine State.noteEntry_keeps ?_ (hS.tr rfl) (hM.tr rfl)
        exact State.putReel_keeps hs6 (hM.tr rfl)

theorem State.complete_keeps {x1 x2} (h : Keeps S M s t) (hS : Sub 0x20000000000000000000000000000000000000000000000000000000000000000000000000000000000000000000000000000000000000000000000000000000000000000000000000000000000000000000000 S) (hM : Sub 0x104000 M) :
    Keeps S M s (State.complete t x1 x2) := by
  unfold State.complete
  refine State.modReel_keeps ?_ (hM.tr rfl)
  exact State.writeEntry_keeps h (hS.tr rfl) (hM.tr rfl)

theorem State.skipBuffers_keeps {x1 x2} (h : Keeps S M s t) (hS : Sub 0x20000000000000000000000000000000000000000000000000000000000000000000000000000000000000000000000000000000000000000000000000000000000000000000000000000000000000000000000 S) (hM : Sub 0x104000 M) :
    Keeps S M s (State.skipBuffers x1 t x2) := by
  induction x1 generalizing t with
  | zero => exact h
  | succ n ih =>
    unfold State.skipBuffers
    split
    · exact h
    · split
      · exact h
      · refine Keeps.ite (ih ?_) (Keeps.ite (ih ?_) h) <;>
          exact State.complete_keeps (State.putReel_keeps h (hM.tr rfl)) (hS.tr rfl) (hM.tr rfl)

theorem State.finishRecords_keeps {x1} (h : Keeps S M s t) (hS : Sub 0x20000000000000000000000000000000000000000000000000000000000000000000000000000000000000000000000000000000000000000000000000000000000000000000000000000000000000000000000 S) (hM : Sub 0x104000 M) :
    Keeps S M s (State.finishRecords t x1) := by
  unfold State.finishRecords
  split
  · rename_i a1 a2
    exact h
  · rename_i a3 a4 a5
    split
    · rename_i a6 a7
      exact h
    · rename_i a8 a9 a10 a11
      refine Keeps.ite ?_ ?_
      · exact h
      · extract_lets s12 s13 s14
        have hs12 : Keeps S M s s12 := State.emitOut_keeps h (hM.tr rfl)
        clear_value s12
        have hs13 : Keeps S M s s13 := State.putReel_keeps hs12 (hM.tr rfl)
        clear_value s13
        have hs14 : Keeps S M s s14 := State.complete_keeps hs13 (hS.tr rfl) (hM.tr rfl)
        clear_value s14
        exact State.skipBuffers_keeps hs14 (hS.tr rfl) (hM.tr rfl)

theorem State.recordsFlush_keeps {x1} (h : Keeps S M s t) (hS : Sub 0x20000000000000000000000000000000000000000000000000000000000000000000000000000000000000000000000000000000000000000000000000000000000000000000000000000000000000000000000 S) (hM : Sub 0x104000 M) :
    Keeps S M s (State.recordsFlush t x1) := by
  unfold State.recordsFlush
  split
  · rename_i a1 a2 a3
    split
    · rename_i a4 a5 a6 a7
      split
      · rename_i a8 a9 a10
        refine Keeps.ite ?_ ?_
        · exact State.finishRecords_keeps h (hS.tr rfl) (hM.tr rfl)
        · exact h
      · rename_i a11 a12
        exact h
    · rename_i a13 a14
      exact h
  · rename_i a15 a16
    exact h

theorem State.writeHeld_keeps {x1} (h : Keeps S M s t) (hS : Sub 0x20000000000000000000000000000000000000000000000000000000000000000000000000000000000000000000000000000000000000000000000000000000000000000000000000000000000000000000000 S) (hM : Sub 0x104000 M) :
    Keeps S M s (State.writeHeld t x1) := by
  unfold State.writeHeld
  split
  · rename_i a1 a2
    exact h
  · rename_i a3 a4 a5
    split
    · rename_i a6 a7
      exact h
    · rename_i a8 a9 a10 a11
      refine Keeps.ite ?_ ?_
      · exact h
      · extract_lets s12
        have hs12 : Keeps S M s s12 := State.emitOut_keeps h (hM.tr rfl)
        clear_value s12
        refine State.noteEntry_keeps ?_ (hS.tr rfl) (hM.tr rfl)
        exact State.putReel_keeps hs12 (hM.tr rfl)

theorem State.pushRecord_keeps {x1 x2} (h : Keeps S M s t) (hS : Sub 0x20000000000000000000000000000000000000000000000000000000000000000000000000000000000000000000000000000000000000000000000000000000000000000000000000000000000000000000000 S) (hM : Sub 0x104000 M) :
    Keeps S M s (State.pushRecord t x1 x2) := by
  unfold State.pushRecord
  split
  · rename_i a1 a2
    exact h
  · rename_i a3 a4 a5
    extract_lets s6
    have hs6 : Keeps S M s s6 := State.skipBuffers_keeps h (hS.tr rfl) (hM.tr rfl)
    clear_value s6
    split
    · rename_i a7 a8
      exact hs6
    · rename_i a9 a10 a11
      split
      · rename_i a12 a13
        exact hs6
      · rename_i a14 a15 a16 a17
        extract_lets b18 s19
        have hs19 : Keeps S M s s19 := State.putReel_keeps hs6 (hM.tr rfl)
        clear_value s19
        refine Keeps.ite ?_ ?_
        · exact State.finishRecords_keeps hs19 (hS.tr rfl) (hM.tr rfl)
        · exact hs19

end Sys2Proof.Machine
end

