-- ==== Sys2Proof/Laws/KeepsSynth.lean ====
section
/-! SUPPORT. What each operation of Machine/Synth.lean may change (`Keeps`): the bits of the first mask are numbers of register
fields, those of the second the numbers `P.…` of the parts of the state. -/

set_option Elab.async false

namespace Sys2Proof.Machine

variable {S M : Nat} {s t u v : State}

theorem State.setLoop_keeps {x1 x2} (h : Keeps S M s t) (hM : Sub 0x2000 M) :
    Keeps S M s (State.setLoop t x1 x2) := by
  unfold State.setLoop
  exact Keeps.to_sy h (hM.tr rfl)

theorem State.setOut_keeps {x1 x2} (h : Keeps S M s t) (hM : Sub 0x2000 M) :
    Keeps S M s (State.setOut t x1 x2) := by
  unfold State.setOut
  exact Keeps.to_sy h (hM.tr rfl)

theorem State.closeGate_keeps {x1} (h : Keeps S M s t) (hS : Sub 0x8000000000000000000000000000000000000000000000000000000000000000000000000000000000000000000 S) (hM : Sub 0x2002 M) :
    Keeps S M s (State.closeGate t x1) := by
  unfold State.closeGate
  extract_lets o1
  refine Keeps.ite ?_ ?_
  · refine State.info_keeps ?_ (hM.tr rfl)
    refine State.bump_keeps ?_ (hS.bit rfl)
    exact State.setOut_keeps h (hM.tr rfl)
  · refine Keeps.ite ?_ ?_
    · exact State.setOut_keeps h (hM.tr rfl)
    · exact h

theorem State.syncShutters_keeps (h : Keeps S M s t) (hS : Sub 0x8000000000000000000000000000000000000000000000000000000000000000000000000000000000000000000 S) (hM : Sub 0x2002 M) :
    Keeps S M s (State.syncShutters t) := by
  unfold State.syncShutters
  refine Keeps.ite ?_ ?_
  · exact h
  · refine Keeps.forAll h fun i1 u2 h3 => ?_
    exact State.closeGate_keeps h3 (hS.tr rfl) (hM.tr rfl)

theorem State.commitResult_keeps {x1 x2 x3} (h : Keeps S M s t) (hS : Sub 0x6800000000000000000000000000000000000000000000000000000000000000000000000000000000000000000000000 S) (hM : Sub 0x2 M) :
    Keeps S M s (State.commitResult t x1 x2 x3) := by
  unfold State.commitResult
  refine State.info_keeps ?_ (hM.tr rfl)
  exact State.wrAll_keeps h hS ⟨rfl, rfl, rfl, trivial⟩

theorem State.commitCopy_keeps (h : Keeps S M s t) (hS : Sub 0xe808008006000000000000000000000000000000000000000000000000000000000000000000000000000000000000000 S) (hM : Sub 0x2002 M) :
    Keeps S M s (State.commitCopy t) := by
  unfold State.commitCopy
  extract_lets changed1 s02 s3 s4 s5
  have hs02 : Keeps S M s s02 := by
    unfold s02
    exact h
  clear_value s02
  have hs3 : Keeps S M s s3 := by
    unfold s3
    refine Keeps.foldl h fun u7 x6 h8 => ?_
    refine State.wr_keeps ?_ (hS.bit rfl)
    exact State.setLoop_keeps h8 (hM.tr rfl)
  clear_value s3
  have hs4 : Keeps S M s s4 := by
    unfold s4
    refine Keeps.forAll hs3 fun i9 u10 h11 => ?_
    extract_lets o12 new13 touched14 t15
    have ht15 : Keeps S M s t15 := State.wrAll_keeps h11 hS ⟨rfl, rfl, trivial⟩
    clear_value t15
    exact State.setOut_keeps ht15 (hM.tr rfl)
  clear_value s4
  have hs5 : Keeps S M s s5 := State.bumpWrap_keeps hs4 (hS.bit rfl)
  clear_value s5
  refine State.syncShutters_keeps ?_ (hS.tr rfl) (hM.tr rfl)
  exact State.commitResult_keeps hs5 (hS.tr rfl) (hM.tr rfl)

theorem State.takeOrigin_keeps {x1} (h : Keeps S M s t) (hM : Sub 0x2000 M) :
    Keeps S M s (State.takeOrigin t x1) := by
  unfold State.takeOrigin
  exact State.setLoop_keeps h (hM.tr rfl)

theorem State.doRealign_keeps {x1} (h : Keeps S M s t) (hS : Sub 0x8000000000000000000000000000000000000000000000000000000000000000000000000000000000000000000 S) (hM : Sub 0x2002 M) :
    Keeps S M s (State.doRealign t x1) := by
  unfold State.doRealign
  extract_lets v1 s2 s3 s4
  have hs2 : Keeps S M s s2 := State.setLoop_keeps h (hM.tr rfl)
  clear_value s2
  have hs3 : Keeps S M s s3 := State.takeOrigin_keeps hs2 (hM.tr rfl)
  clear_value s3
  have hs4 : Keeps S M s s4 := by
    unfold s4
    refine Keeps.forAll hs3 fun i5 u6 h7 => ?_
    extract_lets o8
    refine Keeps.ite ?_ ?_
    · exact State.setOut_keeps h7 (hM.tr rfl)
    · exact h7
  clear_value s4
  exact State.syncShutters_keeps hs4 (hS.tr rfl) (hM.tr rfl)

theorem State.runRealigns_keeps (h : Keeps S M s t) (hS : Sub 0x8000000000000000000000000000000000000000000000000000000000000000000000000000000000000000000 S) (hM : Sub 0x2002 M) :
    Keeps S M s (State.runRealigns t) := by
  unfold State.runRealigns
  refine Keeps.foldl h fun u2 x1 h3 => ?_
  refine Keeps.ite ?_ ?_
  · exact State.doRealign_keeps h3 (hS.tr rfl) (hM.tr rfl)
  · exact h3

theorem State.shutterOpen_keeps {x1} (h : Keeps S M s t) (hS : Sub 0x8000000000000000000000000000000000000000000000000000000000000000000000000000000000000000000 S) (hM : Sub 0x2002 M) :
    Keeps S M s (State.shutterOpen t x1) := by
  unfold State.shutterOpen
  extract_lets o1
  refine Keeps.ite ?_ ?_
  · refine State.runRealigns_keeps ?_ (hS.tr rfl) (hM.tr rfl)
    refine State.info_keeps ?_ (hM.tr rfl)
    exact State.setOut_keeps h (hM.tr rfl)
  · exact h

theorem State.commitGo_keeps (h : Keeps S M s t) (hS : Sub 0x6800000000000000000000000000000000000000000000000000000000000000000000000000000000000000000000000 S) (hM : Sub 0x2002 M) :
    Keeps S M s (State.commitGo t) := by
  unfold State.commitGo
  refine Keeps.ite ?_ ?_
  · exact State.commitResult_keeps h (hS.tr rfl) (hM.tr rfl)
  · exact Keeps.to_sy h (hM.tr rfl)

theorem State.verifyStamp_keeps {x1 x2} (h : Keeps S M s t) (hM : Sub 0x2000 M) :
    Keeps S M s (State.verifyStamp t x1 x2) := by
  unfold State.verifyStamp
  refine Keeps.ite ?_ ?_
  · extract_lets n1 v2
    refine Keeps.ite ?_ ?_
    · exact Keeps.to_sy h (hM.tr rfl)
    · exact h
  · exact h

theorem State.keepRealign_keeps {x1} (h : Keeps S M s t) (hM : Sub 0x2000 M) :
    Keeps S M s (State.keepRealign t x1) := by
  unfold State.keepRealign
  extract_lets some_1 v2
  exact State.setLoop_keeps h (hM.tr rfl)

theorem State.dropLoops_keeps {x1} (h : Keeps S M s t) (hS : Sub 0x8000000000000000000000000000000000000000000000000000000000000000000000000000000000000000000000 S) (hM : Sub 0x2000 M) :
    Keeps S M s (State.dropLoops t x1) := by
  unfold State.dropLoops
  refine Keeps.foldl h fun u2 x1 h3 => ?_
  refine State.wr_keeps ?_ (hS.bit rfl)
  refine State.setLoop_keeps ?_ (hM.tr rfl)
  exact State.keepRealign_keeps h3 (hM.tr rfl)

theorem State.shutterForce_keeps {x1} (h : Keeps S M s t) (hM : Sub 0x2000 M) :
    Keeps S M s (State.shutterForce t x1) := by
  unfold State.shutterForce
  extract_lets o1
  refine Keeps.ite ?_ ?_
  · exact State.setOut_keeps h (hM.tr rfl)
  · exact h

theorem State.phaseVerify_keeps (h : Keeps S M s t) (hS : Sub 0x8017d10000010000000000000044000000000000002000000000000000000000000000000000000000000000000008000000060000001e000000000000000000000000000000000000000000000000000000000000000000000000000000000000000000000000000 S) (hM : Sub 0x306026 M) :
    Keeps S M s (State.phaseVerify t) := by
  unfold State.phaseVerify
  extract_lets n1 valid2 err3 tol4 out5 was6 v7 s8 s9 s10
  have hs8 : Keeps S M s s8 := Keeps.to_sy h (hM.tr rfl)
  clear_value s8
  have hs9 : Keeps S M s s9 := State.wrAll_keeps hs8 hS ⟨rfl, rfl, rfl, trivial⟩
  clear_value s9
  have hs10 : Keeps S M s s10 := State.wrI_keeps hs9 (hS.bit rfl)
  clear_value s10
  refine Keeps.when hs10 fun u11 h12 => ?_
  exact State.fault_keeps h12 (hS.tr rfl) (hM.tr rfl)

theorem State.commitValidate_keeps (h : Keeps S M s t) (hS : Sub 0xe808008006000000000000000000000000000000000000000000000000000000000000000000000000000000000000000 S) (hM : Sub 0x2002 M) :
    Keeps S M s (State.commitValidate t) := by
  unfold State.commitValidate
  refine Keeps.ite ?_ ?_
  · extract_lets v1 s2
    have hs2 : Keeps S M s s2 := Keeps.to_sy h (hM.tr rfl)
    clear_value s2
    split
    · rename_i a3 a4 a5 a6
      exact State.commitResult_keeps hs2 (hS.tr rfl) (hM.tr rfl)
    · rename_i a7 a8
      exact State.commitCopy_keeps hs2 (hS.tr rfl) (hM.tr rfl)
  · exact h

theorem State.outLoopLocks_keeps {x1} (h : Keeps S M s t) (hS : Sub 0x8008000000000000000000000000000000000000000000000000000000000000000000000000000000000000000000 S) (hM : Sub 0x2002 M) :
    Keeps S M s (State.outLoopLocks t x1) := by
  unfold State.outLoopLocks
  refine Keeps.ite ?_ ?_
  · extract_lets s1 v2 s3
    have hs1 : Keeps S M s s1 := State.wr_keeps h (hS.bit rfl)
    clear_value s1
    have hs3 : Keeps S M s s3 := State.setLoop_keeps hs1 (hM.tr rfl)
    clear_value s3
    refine State.runRealigns_keeps ?_ (hS.tr rfl) (hM.tr rfl)
    exact State.takeOrigin_keeps hs3 (hM.tr rfl)
  · exact h

theorem State.apllUnlock_keeps {x1} (h : Keeps S M s t) (hS : Sub 0x8017d100000100000000000000440000000000000020000000000000000000000000000000000000000000000000080000000600000000000088008000000000000000000000000000000000000000000000000000000000000000000000000000000000000000000 S) (hM : Sub 0x306026 M) :
    Keeps S M s (State.apllUnlock t x1) := by
  unfold State.apllUnlock
  refine Keeps.ite ?_ ?_
  · extract_lets s1 v2 s3
    have hs1 : Keeps S M s s1 := by
      unfold s1
      refine State.wr_keeps ?_ (hS.bit rfl)
      exact State.keepRealign_keeps h (hM.tr rfl)
    clear_value s1
    have hs3 : Keeps S M s s3 := State.setLoop_keeps hs1 (hM.tr rfl)
    clear_value s3
    refine Keeps.ite ?_ ?_
    · refine State.syncShutters_keeps ?_ (hS.tr rfl) (hM.tr rfl)
      refine State.fault_keeps ?_ (hS.tr rfl) (hM.tr rfl)
      exact State.bump_keeps hs3 (hS.bit rfl)
    · exact State.syncShutters_keeps hs3 (hS.tr rfl) (hM.tr rfl)
  · exact h

theorem State.relockAttempt_keeps {x1 x2} (h : Keeps S M s t) (hS : Sub 0x40000000000000000000000000000000000000000000000000000000000000000000000000000000000000000000000 S) :
    Keeps S M s (State.relockAttempt t x1 x2) := by
  unfold State.relockAttempt
  refine Keeps.ite ?_ ?_
  · exact State.bump_keeps h (hS.bit rfl)
  · exact h

theorem State.realign_keeps {x1} (h : Keeps S M s t) (hS : Sub 0x8000000000000000000000000000000000000000000000000000000000000000000000000000000000000000000 S) (hM : Sub 0x2002 M) :
    Keeps S M s (State.realign t x1) := by
  unfold State.realign
  refine Keeps.ite ?_ ?_
  · exact State.setLoop_keeps h (hM.tr rfl)
  · exact State.doRealign_keeps h (hS.tr rfl) (hM.tr rfl)

theorem State.deliver_keeps {x1} (h : Keeps S M s t) (hM : Sub 0x2000 M) :
    Keeps S M s (State.deliver t x1) := by
  unfold State.deliver
  refine Keeps.foldl h fun u2 x1 h3 => ?_
  extract_lets l4
  refine Keeps.ite ?_ ?_
  · exact State.setLoop_keeps h3 (hM.tr rfl)
  · exact h3

end Sys2Proof.Machine
end

