-- ==== Sys2Proof/Laws/KeepsTdc.lean ====
section
/-! SUPPORT. What each operation of Machine/Tdc.lean may change (`Keeps`): the bits of the first mask are numbers of register
fields, those of the second the numbers `P.…` of the parts of the state. -/

set_option Elab.async false

namespace Sys2Proof.Machine

variable {S M : Nat} {s t u v : State}

theorem State.setChan_keeps {x1 x2} (h : Keeps S M s t) (hM : Sub 0x400 M) :
    Keeps S M s (State.setChan t x1 x2) := by
  unfold State.setChan
  exact Keeps.to_td h (hM.tr rfl)

theorem State.startChannel_keeps {x1} (h : Keeps S M s t) (hS : Sub 0x39868000420000000000000000000000000 S) (hM : Sub 0x400 M) :
    Keeps S M s (State.startChannel t x1) := by
  unfold State.startChannel
  extract_lets v1 s2 s3
  have hs2 : Keeps S M s s2 := State.setChan_keeps h (hM.tr rfl)
  clear_value s2
  have hs3 : Keeps S M s s3 := State.wrAll_keeps hs2 hS ⟨rfl, rfl, rfl, rfl, rfl, rfl, rfl, rfl, trivial⟩
  clear_value s3
  refine Keeps.ite ?_ ?_
  · exact State.wrAll_keeps hs3 hS ⟨rfl, rfl, trivial⟩
  · exact hs3

theorem State.ungateTdc_keeps (h : Keeps S M s t) (hS : Sub 0x39868000420000000000000000000000000 S) (hM : Sub 0x400 M) :
    Keeps S M s (State.ungateTdc t) := by
  unfold State.ungateTdc
  refine Keeps.ite ?_ ?_
  · exact h
  · extract_lets v1 s2
    have hs2 : Keeps S M s s2 := Keeps.to_td h (hM.tr rfl)
    clear_value s2
    refine Keeps.forAll hs2 fun i3 u4 h5 => ?_
    refine Keeps.ite ?_ ?_
    · extract_lets x6 gone7
      refine Keeps.ite ?_ ?_
      · exact State.setChan_keeps h5 (hM.tr rfl)
      · exact State.startChannel_keeps h5 (hS.tr rfl) (hM.tr rfl)
    · exact h5

theorem State.calRescaleDone_keeps {x1} (h : Keeps S M s t) (hM : Sub 0x400 M) :
    Keeps S M s (State.calRescaleDone t x1) := by
  unfold State.calRescaleDone
  exact State.setChan_keeps h (hM.tr rfl)

theorem State.setTake_keeps {x1 x2} (h : Keeps S M s t) (hM : Sub 0x400 M) :
    Keeps S M s (State.setTake t x1 x2) := by
  unfold State.setTake
  exact Keeps.to_td h (hM.tr rfl)

theorem State.takeRecord_keeps {x1 x2 x3} (h : Keeps S M s t) (hS : Sub 0x20000000000000000000000000000000000000000000000000000000000000000000000000000000000000000000000000000000000000000000000000102000000000000000000000000000000000000000000 S) (hM : Sub 0x104000 M) :
    Keeps S M s (State.takeRecord t x1 x2 x3) := by
  unfold State.takeRecord
  refine Keeps.ite ?_ ?_
  · exact State.wr_keeps h (hS.bit rfl)
  · refine State.bumpWrap_keeps ?_ (hS.bit rfl)
    exact State.pushRecord_keeps h (hS.tr rfl) (hM.tr rfl)

theorem State.takeInterval_keeps {x1 x2 x3 x4 x5} (h : Keeps S M s t) (hS : Sub 0x2000000000000000000000000000000000000000000000000000000000000000000000000000000000000000000000000000000000000000000000000011a000000000000000000000000000000000000000000 S) (hM : Sub 0x104400 M) :
    Keeps S M s (State.takeInterval t x1 x2 x3 x4 x5) := by
  unfold State.takeInterval
  extract_lets x1 bin2 sub3 ord4 deg5 bits6 s7 s8 s9
  have hs7 : Keeps S M s s7 := State.setTake_keeps h (hM.tr rfl)
  clear_value s7
  have hs8 : Keeps S M s s8 := State.takeRecord_keeps hs7 (hS.tr rfl) (hM.tr rfl)
  clear_value s8
  have hs9 : Keeps S M s s9 := by
    unfold s9
    refine Keeps.when hs8 fun u10 h11 => ?_
    exact State.wr_keeps h11 (hS.bit rfl)
  clear_value s9
  refine Keeps.when hs9 fun u12 h13 => ?_
  exact State.wr_keeps h13 (hS.bit rfl)

theorem State.takeDiscard_keeps {x1} (h : Keeps S M s t) (hS : Sub 0x80000000000000000000000000000000000000000000 S) :
    Keeps S M s (State.takeDiscard t x1) := by
  unfold State.takeDiscard
  exact State.bump_keeps h (hS.bit rfl)

theorem State.pairStep_keeps {x1 x2 x3} (h : Keeps S M s t) (hS : Sub 0x2000000000000000000000000000000000000000000000000000000000000000000000000000000000000000000000000000000000000000000000000019a000000000000000000000000000000000000000000 S) (hM : Sub 0x104400 M) :
    Keeps S M s (State.pairStep t x1 x2 x3) := by
  unfold State.pairStep
  extract_lets x1 s2 v3 x4 s5 v6
  have hs2 : Keeps S M s s2 := by
    unfold s2
    split
    · rename_i a7 a8 a9
      exact State.takeInterval_keeps h (hS.tr rfl) (hM.tr rfl)
    · rename_i a10 a11
      exact h
  clear_value s2
  have hs5 : Keeps S M s s5 := by
    unfold s5
    refine Keeps.ite ?_ ?_
    · exact State.takeDiscard_keeps h (hS.tr rfl)
    · exact h
  clear_value s5
  refine Keeps.ite ?_ ?_
  · exact State.setTake_keeps hs2 (hM.tr rfl)
  · refine Keeps.ite ?_ ?_
    · split
      · rename_i a12 a13
        exact State.setTake_keeps h (hM.tr rfl)
      · rename_i a14 a15 a16
        refine Keeps.ite ?_ ?_
        · extract_lets s17 v18
          have hs17 : Keeps S M s s17 := by
            unfold s17
            refine State.takeInterval_keeps ?_ (hS.tr rfl) (hM.tr rfl)
            exact State.setTake_keeps h (hM.tr rfl)
          clear_value s17
          exact State.setTake_keeps hs17 (hM.tr rfl)
        · refine State.takeDiscard_keeps ?_ (hS.tr rfl)
          exact State.setTake_keeps h (hM.tr rfl)
    · split
      · rename_i a19 a20 a21
        extract_lets s22 v23
        have hs22 : Keeps S M s s22 := State.takeInterval_keeps h (hS.tr rfl) (hM.tr rfl)
        clear_value s22
        exact State.setTake_keeps hs22 (hM.tr rfl)
      · rename_i a24 a25
        exact State.setTake_keeps hs5 (hM.tr rfl)

theorem State.takeDrain_keeps {x1 x2} (h : Keeps S M s t) (hS : Sub 0x2000000000000000000000000000000000000000000000000000000000000000000000000000000000000000000000000000000000000000000000000019a000000000000000000000000000000000000000000 S) (hM : Sub 0x104400 M) :
    Keeps S M s (State.takeDrain t x1 x2) := by
  unfold State.takeDrain
  extract_lets x1 ready2 go3 s4
  have hs4 : Keeps S M s s4 := State.setTake_keeps h (hM.tr rfl)
  clear_value s4
  refine Keeps.foldl hs4 fun u6 x5 h7 => ?_
  exact State.pairStep_keeps h7 (hS.tr rfl) (hM.tr rfl)

theorem State.takeSummary_keeps {x1 x2} (h : Keeps S M s t) (hS : Sub 0x20000000000000000000000000000000000000000000000000000000000000000000000000000000000000000000000000000000000000000000000000122000000000000000000000000000000000000000000 S) (hM : Sub 0x104400 M) :
    Keeps S M s (State.takeSummary t x1 x2) := by
  unfold State.takeSummary
  extract_lets x1 start2 stop3 bits4 s5
  have hs5 : Keeps S M s s5 := by
    unfold s5
    refine State.wr_keeps ?_ (hS.bit rfl)
    exact State.takeRecord_keeps h (hS.tr rfl) (hM.tr rfl)
  clear_value s5
  exact State.setTake_keeps hs5 (hM.tr rfl)

theorem State.setEst_keeps {x1 x2} (h : Keeps S M s t) (hM : Sub 0x400 M) :
    Keeps S M s (State.setEst t x1 x2) := by
  unfold State.setEst
  exact Keeps.to_td h (hM.tr rfl)

theorem State.stepGates_keeps (h : Keeps S M s t) (hS : Sub 0x20000000000000000000000000000000000000000000000000000000000000000000000000000000000000000000000000000000000000000000000000162000000000000000000000000000000000000000000 S) (hM : Sub 0x104402 M) :
    Keeps S M s (State.stepGates t) := by
  unfold State.stepGates
  extract_lets s1 mark2 s3
  have hs1 : Keeps S M s s1 := by
    unfold s1
    refine Keeps.forAll h fun i4 u5 h6 => ?_
    refine Keeps.ite ?_ ?_
    · refine State.info_keeps ?_ (hM.tr rfl)
      refine State.wr_keeps ?_ (hS.bit rfl)
      exact State.takeSummary_keeps h6 (hS.tr rfl) (hM.tr rfl)
    · exact h6
  clear_value s1
  have hs3 : Keeps S M s s3 := by
    unfold s3
    refine Keeps.forAll hs1 fun i7 u8 h9 => ?_
    split
    · rename_i a10 a11 a12
      exact State.setChan_keeps h9 (hM.tr rfl)
    · rename_i a13 a14
      exact h9
  clear_value s3
  refine Keeps.forAll hs3 fun i15 u16 h17 => ?_
  extract_lets x18
  split
  · rename_i a19 a20 a21
    refine Keeps.ite ?_ ?_
    · exact State.setEst_keeps h17 (hM.tr rfl)
    · exact State.setEst_keeps h17 (hM.tr rfl)
  · rename_i a22 a23
    exact h17

theorem State.estStart_keeps {x1} (h : Keeps S M s t) (hS : Sub 0x1180000000000000000000000000000000000000 S) (hM : Sub 0x400 M) :
    Keeps S M s (State.estStart t x1) := by
  unfold State.estStart
  extract_lets ms1 v2 x3 s4
  have hs4 : Keeps S M s s4 := State.setEst_keeps h (hM.tr rfl)
  clear_value s4
  refine Keeps.ite ?_ ?_
  · exact State.wr_keeps h (hS.bit rfl)
  · exact State.wrAll_keeps hs4 hS ⟨rfl, rfl, trivial⟩

theorem State.takeStart_keeps {x1 x2} (h : Keeps S M s t) (hS : Sub 0x1de000000000000000000000000000000000000000000 S) (hM : Sub 0x400 M) :
    Keeps S M s (State.takeStart t x1 x2) := by
  unfold State.takeStart
  extract_lets x1 s2
  have hs2 : Keeps S M s s2 := State.setTake_keeps h (hM.tr rfl)
  clear_value s2
  exact State.wrAll_keeps hs2 hS ⟨rfl, rfl, rfl, rfl, rfl, rfl, rfl, trivial⟩

theorem State.takeArm_keeps {x1} (h : Keeps S M s t) (hS : Sub 0x1fe000000000000000000000000000000000000000000 S) (hM : Sub 0x400 M) :
    Keeps S M s (State.takeArm t x1) := by
  unfold State.takeArm
  refine Keeps.ite ?_ ?_
  · exact h
  · extract_lets ms1 src2 x3 bad4 s5
    have hs5 : Keeps S M s s5 := State.setTake_keeps h (hM.tr rfl)
    clear_value s5
    refine Keeps.ite ?_ ?_
    · exact State.wr_keeps h (hS.bit rfl)
    · refine Keeps.ite ?_ ?_
      · exact State.wr_keeps h (hS.bit rfl)
      · refine Keeps.ite ?_ ?_
        · exact State.wr_keeps h (hS.bit rfl)
        · refine Keeps.ite ?_ ?_
          · exact State.takeStart_keeps hs5 (hS.tr rfl) (hM.tr rfl)
          · exact State.wr_keeps hs5 (hS.bit rfl)

theorem State.takeStamp_keeps {x1 x2 x3} (h : Keeps S M s t) (hS : Sub 0x2000000000000000000000000000000000000000000000000000000000000000000000000000000000000000000000000000000000000000000000000019e000000000000000000000000000000000000000000 S) (hM : Sub 0x104400 M) :
    Keeps S M s (State.takeStamp t x1 x2 x3) := by
  unfold State.takeStamp
  extract_lets x1 inGate2 mine3 s4 isStop5
  have hs4 : Keeps S M s s4 := by
    unfold s4
    refine Keeps.when h fun u6 h7 => ?_
    exact State.wr_keeps h7 (hS.bit rfl)
  clear_value s4
  refine Keeps.ite ?_ ?_
  · exact h
  · refine Keeps.ite ?_ ?_
    · exact h
    · refine Keeps.ite ?_ ?_
      · exact State.takeRecord_keeps hs4 (hS.tr rfl) (hM.tr rfl)
      · refine Keeps.ite ?_ ?_
        · exact State.pairStep_keeps hs4 (hS.tr rfl) (hM.tr rfl)
        · refine State.takeDrain_keeps ?_ (hS.tr rfl) (hM.tr rfl)
          exact State.setTake_keeps hs4 (hM.tr rfl)

theorem State.restartGates_keeps {x1} (h : Keeps S M s t) (hM : Sub 0x400 M) :
    Keeps S M s (State.restartGates t x1) := by
  unfold State.restartGates
  extract_lets x1 s2
  have hs2 : Keeps S M s s2 := by
    unfold s2
    split
    · rename_i a3 a4 a5
      exact State.setChan_keeps h (hM.tr rfl)
    · rename_i a6 a7
      exact h
  clear_value s2
  refine Keeps.forAll hs2 fun i8 u9 h10 => ?_
  extract_lets x11
  refine Keeps.ite ?_ ?_
  · exact State.setEst_keeps h10 (hM.tr rfl)
  · exact h10

theorem State.gateEnd_keeps {x1} (h : Keeps S M s t) (hS : Sub 0x100000000000000000000000000000000000000 S) (hM : Sub 0x410 M) :
    Keeps S M s (State.gateEnd t x1) := by
  unfold State.gateEnd
  refine Keeps.ite ?_ ?_
  · extract_lets x1
    split
    · rename_i a2 a3
      exact h
    · rename_i a4 a5 a6
      extract_lets s7
      have hs7 : Keeps S M s s7 := State.advanceTo_keeps h (hM.tr rfl)
      clear_value s7
      exact State.setChan_keeps hs7 (hM.tr rfl)
  · extract_lets e8 x9
    split
    · rename_i a10 a11
      exact h
    · rename_i a12 a13 a14
      extract_lets s15 r16
      have hs15 : Keeps S M s s15 := State.advanceTo_keeps h (hM.tr rfl)
      clear_value s15
      refine Keeps.ite ?_ ?_
      · refine State.wr_keeps ?_ (hS.bit rfl)
        exact State.setEst_keeps hs15 (hM.tr rfl)
      · refine State.wr_keeps ?_ (hS.bit rfl)
        exact State.setEst_keeps hs15 (hM.tr rfl)

theorem State.takeEnd_keeps {x1} (h : Keeps S M s t) (hS : Sub 0x200000000000000000000000000000000000000000000000000000000000000000000000000000000000000000000000000000000000000000000000001fe000000000000000000000000000000000000000000 S) (hM : Sub 0x104402 M) :
    Keeps S M s (State.takeEnd t x1) := by
  unfold State.takeEnd
  refine Keeps.ite ?_ ?_
  · exact h
  · extract_lets s1 x2 s3 s4 s5
    have hs1 : Keeps S M s s1 := State.takeDrain_keeps h (hS.tr rfl) (hM.tr rfl)
    clear_value s1
    have hs3 : Keeps S M s s3 := State.setTake_keeps hs1 (hM.tr rfl)
    clear_value s3
    have hs4 : Keeps S M s s4 := by
      unfold s4
      refine Keeps.ite ?_ ?_
      · refine Keeps.ite ?_ ?_
        · exact State.takeDiscard_keeps hs3 (hS.tr rfl)
        · exact hs3
      · exact hs1
    clear_value s4
    have hs5 : Keeps S M s s5 := by
      unfold s5
      refine State.info_keeps ?_ (hM.tr rfl)
      exact State.takeSummary_keeps hs4 (hS.tr rfl) (hM.tr rfl)
    clear_value s5
    refine Keeps.ite ?_ ?_
    · exact State.takeStart_keeps hs5 (hS.tr rfl) (hM.tr rfl)
    · refine Keeps.ite ?_ ?_
      · exact State.wr_keeps hs5 (hS.bit rfl)
      · exact State.wr_keeps hs5 (hS.bit rfl)

theorem State.gatePinEdge_keeps {x1 x2 x3} (h : Keeps S M s t) (hS : Sub 0x200000000000000000000000000000000000000000000000000000000000000000000000000000000000000000000000000000000000000000000000001fe000000000000000000000000000000000000000000 S) (hM : Sub 0x104412 M) :
    Keeps S M s (State.gatePinEdge t x1 x2 x3) := by
  unfold State.gatePinEdge
  extract_lets s1 v2 s3
  have hs1 : Keeps S M s s1 := State.advanceTo_keeps h (hM.tr rfl)
  clear_value s1
  have hs3 : Keeps S M s s3 := by
    unfold s3
    refine Keeps.ite ?_ ?_
    · exact Keeps.to_td hs1 (hM.tr rfl)
    · exact Keeps.to_td hs1 (hM.tr rfl)
  clear_value s3
  refine Keeps.forAll hs3 fun i4 u5 h6 => ?_
  extract_lets x7
  refine Keeps.ite ?_ ?_
  · exact h6
  · refine Keeps.ite ?_ ?_
    · exact State.takeStart_keeps h6 (hS.tr rfl) (hM.tr rfl)
    · refine Keeps.ite ?_ ?_
      · exact State.takeEnd_keeps h6 (hS.tr rfl) (hM.tr rfl)
      · exact h6

theorem State.calValid_keeps {x1} (h : Keeps S M s t) (hS : Sub 0x8000000000000000000000000000000000 S) (hM : Sub 0x400 M) :
    Keeps S M s (State.calValid t x1) := by
  unfold State.calValid
  refine Keeps.ite ?_ ?_
  · extract_lets s1 v2
    have hs1 : Keeps S M s s1 := State.wr_keeps h (hS.bit rfl)
    clear_value s1
    refine Keeps.ite ?_ ?_
    · exact State.setChan_keeps hs1 (hM.tr rfl)
    · exact hs1
  · exact h

theorem State.takeGateEnd_keeps {x1} (h : Keeps S M s t) (hS : Sub 0x200000000000000000000000000000000000000000000000000000000000000000000000000000000000000000000000000000000000000000000000001fe000000000000000000000000000000000000000000 S) (hM : Sub 0x104412 M) :
    Keeps S M s (State.takeGateEnd t x1) := by
  unfold State.takeGateEnd
  split
  · rename_i a1 a2 a3
    refine Keeps.ite ?_ ?_
    · refine State.takeEnd_keeps ?_ (hS.tr rfl) (hM.tr rfl)
      exact State.advanceTo_keeps h (hM.tr rfl)
    · exact h
  · rename_i a4 a5
    exact h

theorem State.publishEst_keeps {x1} (h : Keeps S M s t) (hS : Sub 0x1ef0000000000000000000000000000000000000 S) (hM : Sub 0x402 M) :
    Keeps S M s (State.publishEst t x1) := by
  unfold State.publishEst
  extract_lets x1
  split
  · rename_i a2 a3
    exact h
  · rename_i a4 a5 a6
    extract_lets ok7 s8 s9 s10 s11
    have hs8 : Keeps S M s s8 := State.setEst_keeps h (hM.tr rfl)
    clear_value s8
    have hs9 : Keeps S M s s9 := State.wrAll_keeps hs8 hS ⟨rfl, rfl, rfl, rfl, rfl, trivial⟩
    clear_value s9
    have hs10 : Keeps S M s s10 := by
      unfold s10
      refine Keeps.when hs9 fun u12 h13 => ?_
      refine State.wr_keeps ?_ (hS.bit rfl)
      exact State.wrI_keeps h13 (hS.bit rfl)
    clear_value s10
    have hs11 : Keeps S M s s11 := State.bumpWrap_keeps hs10 (hS.bit rfl)
    clear_value s11
    refine Keeps.when hs11 fun u14 h15 => ?_
    exact State.info_keeps h15 (hM.tr rfl)

theorem State.mapGates_keeps {x1 x2} (h : Keeps S M s t) (hM : Sub 0x400 M) :
    Keeps S M s (State.mapGates t x1 x2) := by
  unfold State.mapGates
  extract_lets v1 s2
  have hs2 : Keeps S M s s2 := State.setChan_keeps h (hM.tr rfl)
  clear_value s2
  refine Keeps.forAll hs2 fun i3 u4 h5 => ?_
  refine Keeps.ite ?_ ?_
  · exact State.setEst_keeps h5 (hM.tr rfl)
  · exact h5

theorem State.calTableReady_keeps {x1 x2 x3 x4 x5 x6 x7} (h : Keeps S M s t) (hS : Sub 0x8017d1000001000000000000004400000000000000200000000000000000000000000000000000000000000000000800000006000000000000000000000000000000000000000000000000000000000000000000000000f6008000000000000000000000000000000 S) (hM : Sub 0x304426 M) :
    Keeps S M s (State.calTableReady t x1 x2 x3 x4 x5 x6 x7) := by
  unfold State.calTableReady
  refine Keeps.ite ?_ ?_
  · exact h
  · extract_lets idle1 reject2 s3 x4 full5 s6
    have hs3 : Keeps S M s s3 := State.wrAll_keeps h hS ⟨rfl, rfl, trivial⟩
    clear_value s3
    have hs6 : Keeps S M s s6 := State.setChan_keeps hs3 (hM.tr rfl)
    clear_value s6
    refine Keeps.ite ?_ ?_
    · refine State.fault_keeps ?_ (hS.tr rfl) (hM.tr rfl)
      exact State.wr_keeps hs3 (hS.bit rfl)
    · exact State.wrAll_keeps hs6 hS ⟨rfl, rfl, rfl, rfl, rfl, trivial⟩

theorem State.gateTdc_keeps (h : Keeps S M s t) (hM : Sub 0x400 M) :
    Keeps S M s (State.gateTdc t) := by
  unfold State.gateTdc
  refine Keeps.ite ?_ ?_
  · exact h
  · extract_lets v1 s2
    have hs2 : Keeps S M s s2 := Keeps.to_td h (hM.tr rfl)
    clear_value s2
    refine Keeps.forAll hs2 fun i3 u4 h5 => ?_
    exact State.setChan_keeps h5 (hM.tr rfl)

theorem State.estStop_keeps {x1} (h : Keeps S M s t) (hS : Sub 0x100000000000000000000000000000000000000 S) (hM : Sub 0x400 M) :
    Keeps S M s (State.estStop t x1) := by
  unfold State.estStop
  refine State.wr_keeps ?_ (hS.bit rfl)
  exact State.setEst_keeps h (hM.tr rfl)

theorem State.takeAbort_keeps {x1} (h : Keeps S M s t) (hS : Sub 0x20000000000000000000000000000000000000000000000000000000000000000000000000000000000000000000000000000000000000000000000000162000000000000000000000000000000000000000000 S) (hM : Sub 0x104402 M) :
    Keeps S M s (State.takeAbort t x1) := by
  unfold State.takeAbort
  extract_lets st1
  refine Keeps.ite ?_ ?_
  · refine State.wr_keeps ?_ (hS.bit rfl)
    exact State.takeSummary_keeps h (hS.tr rfl) (hM.tr rfl)
  · refine Keeps.ite ?_ ?_
    · refine State.info_keeps ?_ (hM.tr rfl)
      refine State.wr_keeps ?_ (hS.bit rfl)
      exact State.takeSummary_keeps h (hS.tr rfl) (hM.tr rfl)
    · exact h

end Sys2Proof.Machine
end

