-- ==== Sys2Proof/Laws/KeepsClocks.lean ====
section
/-! SUPPORT. What each operation of Machine/Clocks.lean may change (`Keeps`): the bits of the first mask are numbers of register
fields, those of the second the numbers `P.…` of the parts of the state. -/

set_option Elab.async false

namespace Sys2Proof.Machine

variable {S M : Nat} {s t u v : State}

theorem State.requestBase_keeps {x1} (h : Keeps S M s t) (hS : Sub 0x800000000000000 S) (hM : Sub 0x80 M) :
    Keeps S M s (State.requestBase t x1) := by
  unfold State.requestBase
  extract_lets s1 v2
  have hs1 : Keeps S M s s1 := State.wr_keeps h (hS.bit rfl)
  clear_value s1
  exact Keeps.to_ck hs1 (hM.tr rfl)

theorem State.directStage_keeps (h : Keeps S M s t) (hS : Sub 0x10000000000000000000000000000000000000440000000000000000000000000000000000000000000000000000000000000000000000000000000000000000000000000000000000000000000000000000000001080000000000000000000000000018000000000000000000000 S) (hM : Sub 0x1aaa M) :
    Keeps S M s (State.directStage t) := by
  unfold State.directStage
  refine Keeps.ite ?_ ?_
  · exact State.requestStage_keeps h (hS.tr rfl) (hM.tr rfl)
  · exact h

theorem State.stage3HoldoffEnd_keeps (h : Keeps S M s t) (hS : Sub 0x10000000000000000000000000000000000000440000000000000000000000000000000000000000000000000000000000000000000000000000000000000000000000000000000000000000000000000000000001080000000000000000000000000018000000000000000000000 S) (hM : Sub 0x1aaa M) :
    Keeps S M s (State.stage3HoldoffEnd t) := by
  unfold State.stage3HoldoffEnd
  refine Keeps.ite ?_ ?_
  · exact State.requestStage_keeps h (hS.tr rfl) (hM.tr rfl)
  · exact h

theorem State.disconnect_keeps {x1} (h : Keeps S M s t) (hS : Sub 0x80000000000000000000000 S) (hM : Sub 0x2 M) :
    Keeps S M s (State.disconnect t x1) := by
  unfold State.disconnect
  refine Keeps.ite ?_ ?_
  · exact h
  · refine State.info_keeps ?_ (hM.tr rfl)
    exact State.wr_keeps h (hS.bit rfl)

theorem State.gateTk_keeps (h : Keeps S M s t) (hS : Sub 0x40000000000000000000000000000000000000000000000000000000000000000000000000000000080000081c00000000000000 S) (hM : Sub 0x12 M) :
    Keeps S M s (State.gateTk t) := by
  unfold State.gateTk
  extract_lets s1 v2
  have hs1 : Keeps S M s s1 := State.wrAll_keeps h hS ⟨rfl, rfl, rfl, rfl, rfl, trivial⟩
  clear_value s1
  refine State.disconnect_keeps ?_ (hS.tr rfl) (hM.tr rfl)
  exact Keeps.to_tm hs1 (hM.tr rfl)

theorem State.toPath_keeps {x1} (h : Keeps S M s t) (hS : Sub 0x40000000000000000000000000000000000000000000000000000000000000000000000000000000080000081c00000000000000 S) (hM : Sub 0x12 M) :
    Keeps S M s (State.toPath t x1) := by
  unfold State.toPath
  refine Keeps.ite ?_ ?_
  · extract_lets s1 v2
    have hs1 : Keeps S M s s1 := State.wrAll_keeps h hS ⟨rfl, rfl, trivial⟩
    clear_value s1
    exact Keeps.to_tm hs1 (hM.tr rfl)
  · exact State.gateTk_keeps h (hS.tr rfl) (hM.tr rfl)

theorem State.reReferAll_keeps {x1 x2} (h : Keeps S M s t) (hM : Sub 0x100 M) :
    Keeps S M s (State.reReferAll t x1 x2) := by
  unfold State.reReferAll
  refine Keeps.forAll h fun i1 u2 h3 => ?_
  extract_lets t4
  have ht4 : Keeps S M s t4 := State.setWord_keeps h3 (hM.tr rfl)
  clear_value t4
  exact State.modDpll_keeps ht4 (hM.tr rfl)

theorem State.apll0Off_keeps {x1} (h : Keeps S M s t) (hS : Sub 0x8008000000000000000000000000000000000000000000000000000000000000000000080000040000000000000000 S) (hM : Sub 0x2402 M) :
    Keeps S M s (State.apll0Off t x1) := by
  unfold State.apll0Off
  extract_lets s1
  have hs1 : Keeps S M s s1 := State.wrAll_keeps h hS ⟨rfl, rfl, trivial⟩
  clear_value s1
  refine State.syncShutters_keeps ?_ (hS.tr rfl) (hM.tr rfl)
  refine State.disconnect_keeps ?_ (hS.tr rfl) (hM.tr rfl)
  refine State.gateTdc_keeps ?_ (hM.tr rfl)
  exact State.dropLoops_keeps hs1 (hS.tr rfl) (hM.tr rfl)

theorem State.startMove_keeps {x1} (h : Keeps S M s t) (hS : Sub 0x400000000080080000000000000000000000000000000000000000000000000000000000000000000800003c1c00000000000000 S) (hM : Sub 0x2592 M) :
    Keeps S M s (State.startMove t x1) := by
  unfold State.startMove
  extract_lets c1 s2 v3 s4 s5 s6
  have hs2 : Keeps S M s s2 := State.wrAll_keeps h hS ⟨rfl, rfl, trivial⟩
  clear_value s2
  have hs4 : Keeps S M s s4 := Keeps.to_ck hs2 (hM.tr rfl)
  clear_value s4
  have hs5 : Keeps S M s s5 := State.info_keeps hs4 (hM.tr rfl)
  clear_value s5
  have hs6 : Keeps S M s s6 := by
    unfold s6
    refine State.toPath_keeps ?_ (hS.tr rfl) (hM.tr rfl)
    exact State.reReferAll_keeps hs5 (hM.tr rfl)
  clear_value s6
  refine State.requestBase_keeps ?_ (hS.tr rfl) (hM.tr rfl)
  exact State.apll0Off_keeps hs6 (hS.tr rfl) (hM.tr rfl)

theorem State.setOscBit_keeps {x1 x2 x3} (h : Keeps S M s t) (hS : Sub 0x27800000000000000000 S) :
    Keeps S M s (State.setOscBit t x1 x2 x3) := by
  unfold State.setOscBit
  refine Keeps.ite (State.wr_keeps h (hS.bit rfl)) (State.wrB_keeps h (hS.bit ?_))
  match x2 with
  | 0 | 1 | 2 => rfl
  | n + 3 => simp only [List.getD_cons_succ, List.getD_nil]; rfl

theorem State.baseUnlock_keeps (h : Keeps S M s t) (hS : Sub 0x8017d1000001000000000000004400000000000000200000000000000000000000000000000000000000000000000800000006000400001800880080000000000000000000000000000000000000000000000000000000000000000000800000c1c00000000000000 S) (hM : Sub 0x306436 M) :
    Keeps S M s (State.baseUnlock t) := by
  unfold State.baseUnlock
  refine Keeps.ite ?_ ?_
  · exact h
  · refine Keeps.ite ?_ ?_
    · exact State.wrAll_keeps h hS ⟨rfl, rfl, trivial⟩
    · extract_lets s1 s2 v3 s4
      have hs1 : Keeps S M s s1 := State.fault_keeps h (hS.tr rfl) (hM.tr rfl)
      clear_value s1
      have hs2 : Keeps S M s s2 := by
        unfold s2
        refine State.bump_keeps ?_ (hS.bit rfl)
        refine State.bump_keeps ?_ (hS.bit rfl)
        exact State.wr_keeps hs1 (hS.bit rfl)
      clear_value s2
      have hs4 : Keeps S M s s4 := Keeps.to_sy hs2 (hM.tr rfl)
      clear_value s4
      refine State.toPath_keeps ?_ (hS.tr rfl) (hM.tr rfl)
      refine State.apll0Off_keeps ?_ (hS.tr rfl) (hM.tr rfl)
      exact State.info_keeps hs4 (hM.tr rfl)

theorem State.baseMoveEnd_keeps (h : Keeps S M s t) (hS : Sub 0x10000000000000000000000000000000000000440000000000000000000000000000000000000000000000000000000000000000000000000000000000000000000000000000000000000000000000000000000001080000000000000000000000000018000100000000000000000 S) (hM : Sub 0x1aaa M) :
    Keeps S M s (State.baseMoveEnd t) := by
  unfold State.baseMoveEnd
  refine Keeps.ite ?_ ?_
  · extract_lets target1 s2 v3 s4 s5
    have hs2 : Keeps S M s s2 := State.wr_keeps h (hS.bit rfl)
    clear_value s2
    have hs4 : Keeps S M s s4 := Keeps.to_ck hs2 (hM.tr rfl)
    clear_value s4
    have hs5 : Keeps S M s s5 := State.info_keeps hs4 (hM.tr rfl)
    clear_value s5
    refine Keeps.ite ?_ ?_
    · exact State.requestStage_keeps hs5 (hS.tr rfl) (hM.tr rfl)
    · exact hs5
  · exact h

theorem State.notWarm_keeps (h : Keeps S M s t) (hS : Sub 0x1600200000000000000000 S) :
    Keeps S M s (State.notWarm t) := by
  unfold State.notWarm
  exact State.wrAll_keeps h hS ⟨rfl, rfl, rfl, rfl, trivial⟩

theorem State.pathLost_keeps (h : Keeps S M s t) (hS : Sub 0x40000000000000000000000000000000000000000000000000000000000000000000000000000000080000081c08000000000000 S) (hM : Sub 0x12 M) :
    Keeps S M s (State.pathLost t) := by
  unfold State.pathLost
  extract_lets s1
  have hs1 : Keeps S M s s1 := State.wr_keeps h (hS.bit rfl)
  clear_value s1
  refine Keeps.when hs1 fun u2 h3 => ?_
  exact State.gateTk_keeps h3 (hS.tr rfl) (hM.tr rfl)

theorem State.startAttempt_keeps {x1} (h : Keeps S M s t) (hS : Sub 0x27800000000000000000 S) (hM : Sub 0x80 M) :
    Keeps S M s (State.startAttempt t x1) := by
  unfold State.startAttempt
  extract_lets s1 v2
  have hs1 : Keeps S M s s1 := State.setOscBit_keeps h (hS.tr rfl)
  clear_value s1
  exact Keeps.to_ck hs1 (hM.tr rfl)

theorem State.disqualify_keeps {x1} (h : Keeps S M s t) (hS : Sub 0x40000000000000000000000000000000000000000000000000000000000000000000000000000000083627a81c08000000000000 S) (hM : Sub 0x92 M) :
    Keeps S M s (State.disqualify t x1) := by
  unfold State.disqualify
  extract_lets s1 s2
  have hs1 : Keeps S M s s1 := by
    unfold s1
    refine State.wr_keeps ?_ (hS.bit rfl)
    exact State.setOscBit_keeps h (hS.tr rfl)
  clear_value s1
  have hs2 : Keeps S M s s2 := by
    unfold s2
    refine State.pathLost_keeps ?_ (hS.tr rfl) (hM.tr rfl)
    exact State.wr_keeps hs1 (hS.bit rfl)
  clear_value s2
  refine Keeps.ite ?_ ?_
  · exact State.notWarm_keeps hs1 (hS.tr rfl)
  · refine Keeps.ite ?_ ?_
    · exact State.startAttempt_keeps hs2 (hS.tr rfl) (hM.tr rfl)
    · exact hs2

theorem State.gateBase_keeps (h : Keeps S M s t) (hS : Sub 0x8017d1000001000000000000004400000000000000200000000000000000000000000000000000000000000000000800000006000400001800880080000000000000000000000000000000000000000000000000000000000000000000800005c1c00000000000000 S) (hM : Sub 0x3064b6 M) :
    Keeps S M s (State.gateBase t) := by
  unfold State.gateBase
  extract_lets s1 s2 v3
  have hs1 : Keeps S M s s1 := State.baseUnlock_keeps h (hS.tr rfl) (hM.tr rfl)
  clear_value s1
  have hs2 : Keeps S M s s2 := State.wrAll_keeps hs1 hS ⟨rfl, rfl, rfl, rfl, rfl, trivial⟩
  clear_value s2
  exact Keeps.to_ck hs2 (hM.tr rfl)

theorem State.ocxoLost_keeps (h : Keeps S M s t) (hS : Sub 0x1000000000008017d1000001000000000000004400000000000000200000000000000000000000000000000000000000000000000800000006000400001800880080000000000000000000000000000000000000010800000000000000000000000000980007c1c00000000000000 S) (hM : Sub 0x307fbe M) :
    Keeps S M s (State.ocxoLost t) := by
  unfold State.ocxoLost
  extract_lets s1
  have hs1 : Keeps S M s s1 := by
    unfold s1
    refine Keeps.when h fun u2 h3 => ?_
    exact State.requestStage_keeps h3 (hS.tr rfl) (hM.tr rfl)
  clear_value s1
  refine Keeps.ite ?_ ?_
  · exact State.startMove_keeps hs1 (hS.tr rfl) (hM.tr rfl)
  · exact State.gateBase_keeps hs1 (hS.tr rfl) (hM.tr rfl)

theorem State.tcxoLost_keeps (h : Keeps S M s t) (hS : Sub 0x8017d1000001000000000000004400000000000000200000000000000000000000000000000000000000000000000800000006000400001800880080000000000000000000000000000000000000000000000000000000000000000000800007c1c00000000000000 S) (hM : Sub 0x3065b6 M) :
    Keeps S M s (State.tcxoLost t) := by
  unfold State.tcxoLost
  refine Keeps.ite ?_ ?_
  · exact State.startMove_keeps h (hS.tr rfl) (hM.tr rfl)
  · exact State.gateBase_keeps h (hS.tr rfl) (hM.tr rfl)

theorem State.monFallback_keeps {x1} (h : Keeps S M s t) (hS : Sub 0x1000000000008017d100000100000000000000440000000000000020000000000000000000000000000000000000000000000000080000000e0004000018008800800000000000000000000000000000000000000108000000000000000000000000009b627fc1c28000000000000 S) (hM : Sub 0x307fbe M) :
    Keeps S M s (State.monFallback t x1) := by
  unfold State.monFallback
  refine Keeps.ite ?_ ?_
  · extract_lets was1 s2 v3 s4 s5
    have hs2 : Keeps S M s s2 := State.disqualify_keeps h (hS.tr rfl) (hM.tr rfl)
    clear_value s2
    have hs4 : Keeps S M s s4 := by
      unfold s4
      refine Keeps.ite ?_ ?_
      · exact hs2
      · refine Keeps.ite ?_ ?_
        · exact Keeps.to_ck hs2 (hM.tr rfl)
        · exact State.startAttempt_keeps hs2 (hS.tr rfl) (hM.tr rfl)
    clear_value s4
    have hs5 : Keeps S M s s5 := by
      unfold s5
      refine Keeps.when hs4 fun u6 h7 => ?_
      exact State.startAttempt_keeps h7 (hS.tr rfl) (hM.tr rfl)
    clear_value s5
    refine Keeps.ite ?_ ?_
    · exact State.ocxoLost_keeps hs5 (hS.tr rfl) (hM.tr rfl)
    · exact hs4
  · refine Keeps.ite ?_ ?_
    · extract_lets was8 s9 v10 s11 s12
      have hs9 : Keeps S M s s9 := State.disqualify_keeps h (hS.tr rfl) (hM.tr rfl)
      clear_value s9
      have hs11 : Keeps S M s s11 := by
        unfold s11
        refine Keeps.ite ?_ ?_
        · exact hs9
        · refine Keeps.ite ?_ ?_
          · exact Keeps.to_ck hs9 (hM.tr rfl)
          · exact State.startAttempt_keeps hs9 (hS.tr rfl) (hM.tr rfl)
      clear_value s11
      have hs12 : Keeps S M s s12 := by
        unfold s12
        refine Keeps.when hs11 fun u13 h14 => ?_
        exact State.startAttempt_keeps h14 (hS.tr rfl) (hM.tr rfl)
      clear_value s12
      refine Keeps.ite ?_ ?_
      · exact State.tcxoLost_keeps hs12 (hS.tr rfl) (hM.tr rfl)
      · exact hs11
    · refine Keeps.ite ?_ ?_
      · exact State.wr_keeps h (hS.bit rfl)
      · refine Keeps.ite ?_ ?_
        · refine State.wr_keeps ?_ (hS.bit rfl)
          refine State.disconnect_keeps ?_ (hS.tr rfl) (hM.tr rfl)
          exact State.gateTdc_keeps h (hM.tr rfl)
        · refine Keeps.ite ?_ ?_
          · refine Keeps.ite ?_ ?_
            · exact h
            · exact State.toPath_keeps h (hS.tr rfl) (hM.tr rfl)
          · refine Keeps.ite ?_ ?_
            · extract_lets s15 v16
              have hs15 : Keeps S M s s15 := State.pathLost_keeps h (hS.tr rfl) (hM.tr rfl)
              clear_value s15
              refine Keeps.ite ?_ ?_
              · exact Keeps.to_ck hs15 (hM.tr rfl)
              · exact hs15
            · refine Keeps.ite ?_ ?_
              · refine State.disconnect_keeps ?_ (hS.tr rfl) (hM.tr rfl)
                exact State.wr_keeps h (hS.bit rfl)
              · exact h

theorem State.retireOsc_keeps {x1} (h : Keeps S M s t) (hS : Sub 0x8017d100000100000000000000440000000000000020000000000000000000000000000000000000000000000000080000000600000000000000000000000000000000000000000000000000000000000000000000000000000000000000027800000000000000000 S) (hM : Sub 0x30402e M) :
    Keeps S M s (State.retireOsc t x1) := by
  unfold State.retireOsc
  extract_lets s1
  have hs1 : Keeps S M s s1 := by
    unfold s1
    refine State.markRetired_keeps ?_ (hM.tr rfl)
    refine State.setOscBit_keeps ?_ (hS.tr rfl)
    exact State.setOscBit_keeps h (hS.tr rfl)
  clear_value s1
  exact State.fault_keeps hs1 (hS.tr rfl) (hM.tr rfl)

theorem State.attemptFails_keeps {x1 x2} (h : Keeps S M s t) (hS : Sub 0x8017d1000001000000000000004400000000000000200000000000000000000000000000000000000000000000000800000006000000000000000000000000000000000000000000000000000000000000000000000000000000000000000ff800000000000000000 S) (hM : Sub 0x3040ae M) :
    Keeps S M s (State.attemptFails t x1 x2) := by
  unfold State.attemptFails
  refine Keeps.ite ?_ ?_
  · exact Keeps.to_ck h (hM.tr rfl)
  · extract_lets s1 n2 s3
    have hs1 : Keeps S M s s1 := State.wr_keeps h (hS.bit (by unfold Sys2Proof.Machine.failField; split <;> rfl))
    clear_value s1
    have hs3 : Keeps S M s s3 := State.wr_keeps hs1 (hS.bit (by unfold Sys2Proof.Machine.attemptField; split <;> rfl))
    clear_value s3
    refine Keeps.ite ?_ ?_
    · exact State.retireOsc_keeps hs3 (hS.tr rfl) (hM.tr rfl)
    · exact State.startAttempt_keeps hs3 (hS.tr rfl) (hM.tr rfl)

theorem State.oscAmplitudeTimeout_keeps {x1} (h : Keeps S M s t) (hS : Sub 0x8017d1000001000000000000004400000000000000200000000000000000000000000000000000000000000000000800000006000000000000000000000000000000000000000000000000000000000000000000000000000000000000000ff800000000000000000 S) (hM : Sub 0x3040ae M) :
    Keeps S M s (State.oscAmplitudeTimeout t x1) := by
  unfold State.oscAmplitudeTimeout
  refine Keeps.ite ?_ ?_
  · refine State.attemptFails_keeps ?_ (hS.tr rfl) (hM.tr rfl)
    exact State.setOscBit_keeps h (hS.tr rfl)
  · exact h

theorem State.ocxoTempSettled_keeps (h : Keeps S M s t) (hS : Sub 0x100000000000000000000 S) :
    Keeps S M s (State.ocxoTempSettled t) := by
  unfold State.ocxoTempSettled
  exact State.wr_keeps h (hS.bit rfl)

theorem State.ocxoWarmTimeout_keeps (h : Keeps S M s t) (hS : Sub 0x8017d100000100000000000000440000000000000020000000000000000000000000000000000000000000000000080000000600000000000000000000000000000000000000000000000000000000000000000000000000000000000000000000000000000000000 S) (hM : Sub 0x3040a6 M) :
    Keeps S M s (State.ocxoWarmTimeout t) := by
  unfold State.ocxoWarmTimeout
  refine Keeps.ite ?_ ?_
  · exact h
  · refine State.fault_keeps ?_ (hS.tr rfl) (hM.tr rfl)
    exact Keeps.to_ck h (hM.tr rfl)

theorem State.takeUsable_keeps (h : Keeps S M s t) (hS : Sub 0x800000000000000 S) (hM : Sub 0x80 M) :
    Keeps S M s (State.takeUsable t) := by
  unfold State.takeUsable
  refine Keeps.ite ?_ ?_
  · exact h
  · refine Keeps.ite ?_ ?_
    · exact State.requestBase_keeps h (hS.tr rfl) (hM.tr rfl)
    · refine Keeps.ite ?_ ?_
      · exact State.requestBase_keeps h (hS.tr rfl) (hM.tr rfl)
      · exact h

theorem State.attemptPasses_keeps {x1} (h : Keeps S M s t) (hS : Sub 0xb7800808000000000000 S) (hM : Sub 0x8a M) :
    Keeps S M s (State.attemptPasses t x1) := by
  unfold State.attemptPasses
  extract_lets s1 s2 s3
  have hs1 : Keeps S M s s1 := State.wr_keeps h (hS.bit rfl)
  clear_value s1
  have hs2 : Keeps S M s s2 := by
    unfold s2
    refine Keeps.ite ?_ ?_
    · exact hs1
    · refine State.wr_keeps ?_ (hS.bit (by unfold Sys2Proof.Machine.attemptField; split <;> rfl))
      refine State.setOscBit_keeps ?_ (hS.tr rfl)
      exact State.setOscBit_keeps hs1 (hS.tr rfl)
  clear_value s2
  have hs3 : Keeps S M s s3 := by
    unfold s3
    refine Keeps.when hs2 fun u4 h5 => ?_
    exact State.backInService_keeps h5 (hM.tr rfl)
  clear_value s3
  refine State.takeUsable_keeps ?_ (hS.tr rfl) (hM.tr rfl)
  exact State.info_keeps hs3 (hM.tr rfl)

theorem State.oscCountDone_keeps {x1 x2} (h : Keeps S M s t) (hS : Sub 0x8017d1000001000000000000004400000000000000200000000000000000000000000000000000000000000000000800000006000000000000000000000000000000000000000000000000000000000000000000000000000000000000000ff800808000000000000 S) (hM : Sub 0x3040ae M) :
    Keeps S M s (State.oscCountDone t x1 x2) := by
  unfold State.oscCountDone
  refine Keeps.ite ?_ ?_
  · exact h
  · extract_lets s1 w2
    have hs1 : Keeps S M s s1 := by
      unfold s1
      refine Keeps.ite ?_ ?_
      · exact h
      · exact State.setOscBit_keeps h (hS.tr rfl)
    clear_value s1
    refine Keeps.ite ?_ ?_
    · exact State.attemptFails_keeps hs1 (hS.tr rfl) (hM.tr rfl)
    · refine Keeps.ite ?_ ?_
      · exact State.attemptFails_keeps hs1 (hS.tr rfl) (hM.tr rfl)
      · refine Keeps.ite ?_ ?_
        · exact State.attemptFails_keeps hs1 (hS.tr rfl) (hM.tr rfl)
        · exact State.attemptPasses_keeps hs1 (hS.tr rfl) (hM.tr rfl)

theorem State.monTrip_keeps {x1 x2} (h : Keeps S M s t) (hS : Sub 0x1000000000008017d100000100000000000000440000000000000020000000000000000000000000000000000000000000000000080000000e0004000018008800800000000000000000000000000000000000000108000000000000000000000000009b627fc1d38000000000000 S) (hM : Sub 0x307fbe M) :
    Keeps S M s (State.monTrip t x1 x2) := by
  unfold State.monTrip
  extract_lets s1 s2
  have hs1 : Keeps S M s s1 := State.wr_keeps h (hS.bit rfl)
  clear_value s1
  have hs2 : Keeps S M s s2 := by
    unfold s2
    refine State.fault_keeps ?_ (hS.tr rfl) (hM.tr rfl)
    exact State.bump_keeps hs1 (hS.bit rfl)
  clear_value s2
  exact State.monFallback_keeps hs2 (hS.tr rfl) (hM.tr rfl)

theorem State.muxSwitch_keeps {x1 x2} (h : Keeps S M s t) (hS : Sub 0x48be00000000000000 S) (hM : Sub 0x92 M) :
    Keeps S M s (State.muxSwitch t x1 x2) := by
  unfold State.muxSwitch
  extract_lets p1 s2 s3 s4 v5 s6 v7
  have hs2 : Keeps S M s s2 := State.wrAll_keeps h hS ⟨rfl, rfl, rfl, rfl, rfl, trivial⟩
  clear_value s2
  have hs3 : Keeps S M s s3 := by
    unfold s3
    refine State.info_keeps ?_ (hM.tr rfl)
    exact State.bump_keeps hs2 (hS.bit rfl)
  clear_value s3
  have hs4 : Keeps S M s s4 := State.wr_keeps hs3 (hS.bit rfl)
  clear_value s4
  have hs6 : Keeps S M s s6 := State.wr_keeps hs3 (hS.bit rfl)
  clear_value s6
  refine Keeps.ite ?_ ?_
  · exact h
  · refine Keeps.ite ?_ ?_
    · exact Keeps.to_ck hs4 (hM.tr rfl)
    · refine Keeps.ite ?_ ?_
      · exact Keeps.to_tm hs6 (hM.tr rfl)
      · exact hs3

theorem State.announceToken_keeps {x1 x2} (h : Keeps S M s t) (hS : Sub 0x180000000000000000000000 S) (hM : Sub 0x2 M) :
    Keeps S M s (State.announceToken t x1 x2) := by
  unfold State.announceToken
  refine Keeps.ite ?_ ?_
  · refine State.info_keeps ?_ (hM.tr rfl)
    exact State.wrAll_keeps h hS ⟨rfl, rfl, trivial⟩
  · exact h

theorem State.muxStall_keeps {x1} (h : Keeps S M s t) (hS : Sub 0x8017d100000100000000000000440000000000000020000000000000000000000000000000000000000000000000080000000600040000000000000000000000000000000000000000000000000000000000000000000000000000000080000489e00000000000000 S) (hM : Sub 0x3040b6 M) :
    Keeps S M s (State.muxStall t x1) := by
  unfold State.muxStall
  refine Keeps.ite ?_ ?_
  · exact h
  · extract_lets s1 s2 tried3 v4 v5 s6
    have hs1 : Keeps S M s s1 := State.wrAll_keeps h hS ⟨rfl, rfl, rfl, rfl, rfl, trivial⟩
    clear_value s1
    have hs2 : Keeps S M s s2 := State.fault_keeps hs1 (hS.tr rfl) (hM.tr rfl)
    clear_value s2
    have hv4 : Keeps S M s v4 := State.wr_keeps hs2 (hS.bit rfl)
    clear_value v4
    have hs6 : Keeps S M s s6 := Keeps.to_ck hv4 (hM.tr rfl)
    clear_value s6
    refine Keeps.ite ?_ ?_
    · refine Keeps.ite ?_ ?_
      · exact State.requestBase_keeps hs6 (hS.tr rfl) (hM.tr rfl)
      · refine Keeps.ite ?_ ?_
        · exact State.requestBase_keeps hs6 (hS.tr rfl) (hM.tr rfl)
        · exact hs6
    · exact State.gateTk_keeps hs2 (hS.tr rfl) (hM.tr rfl)

theorem State.clockMonWindow_keeps {x1 x2} (h : Keeps S M s t) (hS : Sub 0x1000000000008017d100000100000000000000440000000000000020000000000000000000000000000000000000000000000000080000000e0004000018008800800000000000000000000000000000000000000108000000000000000000000000009b627fc1dfc000000000000 S) (hM : Sub 0x307fbe M) :
    Keeps S M s (State.clockMonWindow t x1 x2) := by
  unfold State.clockMonWindow
  extract_lets s1 s2 s3 s4 s5 v6
  have hs1 : Keeps S M s s1 := State.wrAll_keeps h hS ⟨rfl, rfl, trivial⟩
  clear_value s1
  have hs2 : Keeps S M s s2 := State.wrI_keeps hs1 (hS.bit rfl)
  clear_value s2
  have hs3 : Keeps S M s s3 := by
    unfold s3
    refine Keeps.when hs2 fun u7 h8 => ?_
    exact State.wr_keeps h8 (hS.bit rfl)
  clear_value s3
  have hs4 : Keeps S M s s4 := State.wrAll_keeps hs3 hS ⟨rfl, rfl, trivial⟩
  clear_value s4
  have hs5 : Keeps S M s s5 := by
    unfold s5
    refine Keeps.when hs4 fun u9 h10 => ?_
    exact State.wr_keeps h10 (hS.bit rfl)
  clear_value s5
  refine Keeps.ite ?_ ?_
  · exact hs1
  · refine Keeps.ite ?_ ?_
    · exact State.monTrip_keeps hs3 (hS.tr rfl) (hM.tr rfl)
    · refine Keeps.ite ?_ ?_
      · exact Keeps.to_ck hs5 (hM.tr rfl)
      · refine Keeps.ite ?_ ?_
        · exact Keeps.to_ck hs5 (hM.tr rfl)
        · exact hs5

theorem State.baseMove_keeps (h : Keeps S M s t) (hS : Sub 0x400000000080080000000000000000000000000000000000000000000000000000000000000000000800003c1c00000000000000 S) (hM : Sub 0x2592 M) :
    Keeps S M s (State.baseMove t) := by
  unfold State.baseMove
  refine Keeps.ite ?_ ?_
  · exact State.startMove_keeps h (hS.tr rfl) (hM.tr rfl)
  · exact h

theorem State.muxForced_keeps {x1} (h : Keeps S M s t) (hS : Sub 0x4000000000000000 S) (hM : Sub 0x2 M) :
    Keeps S M s (State.muxForced t x1) := by
  unfold State.muxForced
  refine Keeps.ite ?_ ?_
  · exact h
  · refine State.info_keeps ?_ (hM.tr rfl)
    exact State.bump_keeps h (hS.bit rfl)

theorem State.ocxoBecomesWarm_keeps {x1} (h : Keeps S M s t) (hS : Sub 0x8017d100000100000000000000440000000000000020000000000000000000000000000000000000000000000000080000000600000000000000000000000000000000000000000000000000000000000000000000000000000000000001600200800000000000000 S) (hM : Sub 0x23042ae M) :
    Keeps S M s (State.ocxoBecomesWarm t x1) := by
  unfold State.ocxoBecomesWarm
  refine Keeps.ite ?_ ?_
  · extract_lets s1 s2 s3
    have hs1 : Keeps S M s s1 := by
      unfold s1
      refine State.lifeBump_keeps ?_ (hS.tr rfl) (hM.tr rfl)
      exact State.wrAll_keeps h hS ⟨rfl, rfl, trivial⟩
    clear_value s1
    have hs2 : Keeps S M s s2 := by
      unfold s2
      refine Keeps.when hs1 fun u4 h5 => ?_
      exact State.wr_keeps h5 (hS.bit rfl)
    clear_value s2
    have hs3 : Keeps S M s s3 := State.backInService_keeps hs2 (hM.tr rfl)
    clear_value s3
    refine Keeps.ite ?_ ?_
    · exact State.wr_keeps hs3 (hS.bit rfl)
    · exact State.takeUsable_keeps hs3 (hS.tr rfl) (hM.tr rfl)
  · exact h

theorem State.clockMonMiss_keeps {x1} (h : Keeps S M s t) (hS : Sub 0x1000000000008017d100000100000000000000440000000000000020000000000000000000000000000000000000000000000000080000000e0004000018008800800000000000000000000000000000000000000108000000000000000000000000009b627fc1d3c000000000000 S) (hM : Sub 0x307fbe M) :
    Keeps S M s (State.clockMonMiss t x1) := by
  unfold State.clockMonMiss
  refine State.monTrip_keeps ?_ (hS.tr rfl) (hM.tr rfl)
  exact State.wr_keeps h (hS.bit rfl)

theorem State.degradedEnd_keeps (h : Keeps S M s t) (hS : Sub 0x280000000000000000000000000000000000000000000000000000000000000000000000000000000000000000000000000 S) (hM : Sub 0x2002 M) :
    Keeps S M s (State.degradedEnd t) := by
  unfold State.degradedEnd
  refine Keeps.ite ?_ ?_
  · extract_lets s1 v2
    have hs1 : Keeps S M s s1 := State.wrAll_keeps h hS ⟨rfl, rfl, trivial⟩
    clear_value s1
    refine State.info_keeps ?_ (hM.tr rfl)
    exact Keeps.to_sy hs1 (hM.tr rfl)
  · exact h

theorem State.apllLock_keeps {x1} (h : Keeps S M s t) (hS : Sub 0x10000000000000000000000000000000000000440000000000000000000000000000000000000000000000000000000000000000000000000000000000000008008000000000000000000000000000000000000001080000000000000039868000420018000040820000000000000 S) (hM : Sub 0x3eaa M) :
    Keeps S M s (State.apllLock t x1) := by
  unfold State.apllLock
  refine Keeps.ite ?_ ?_
  · exact State.outLoopLocks_keeps h (hS.tr rfl) (hM.tr rfl)
  · refine Keeps.ite ?_ ?_
    · exact h
    · extract_lets s1 v2 s3
      have hs1 : Keeps S M s s1 := State.wrAll_keeps h hS ⟨rfl, rfl, rfl, rfl, trivial⟩
      clear_value s1
      have hs3 : Keeps S M s s3 := Keeps.to_ck hs1 (hM.tr rfl)
      clear_value s3
      refine State.directStage_keeps ?_ (hS.tr rfl) (hM.tr rfl)
      exact State.ungateTdc_keeps hs3 (hS.tr rfl) (hM.tr rfl)

end Sys2Proof.Machine
end

