-- ==== Sys2Proof/Laws/KeepsHold.lean ====
section
/-! SUPPORT. What each operation of Machine/Hold.lean may change (`Keeps`): the bits of the first mask are numbers of register
fields, those of the second the numbers `P.…` of the parts of the state. -/

set_option Elab.async false

namespace Sys2Proof.Machine

variable {S M : Nat} {s t u v : State}

theorem State.noteModel_keeps {x1} (h : Keeps S M s t) (hS : Sub 0x18e0000000000000000000000000000000000000000000000000000000000000000000000000000000000 S) :
    Keeps S M s (State.noteModel t x1) := by
  unfold State.noteModel
  extract_lets m1
  exact State.wrAll_keeps h hS ⟨rfl, rfl, rfl, rfl, rfl, trivial⟩

theorem State.eraseSummary_keeps {x1} (h : Keeps S M s t) (hM : Sub 0x2800200 M) :
    Keeps S M s (State.eraseSummary t x1) := by
  unfold State.eraseSummary
  split
  · rename_i a1 a2
    exact h
  · rename_i a3 r hr
    refine Keeps.forAll h fun i6 u7 h8 => ?_
    have hp : 1024 ≤ r.page := by cases hr; decide
    refine State.atticWrite_dailies h8 (hM.tr rfl) ?_
    generalize r.pages * x1 = k
    omega

theorem State.holdClear_keeps {x1} (h : Keeps S M s t) (hS : Sub 0x98e0000000000000000000000000000000000000000000000000000000000000000000000000000000000 S) (hM : Sub 0x2800300 M) :
    Keeps S M s (State.holdClear t x1).1 := by
  unfold State.holdClear
  split
  · rename_i a1
    dsimp only
    exact h
  · rename_i a2
    extract_lets s3
    have hs3 : Keeps S M s s3 := State.modDpll_keeps h (hM.tr rfl)
    clear_value s3
    dsimp only
    refine State.wr_keeps ?_ (hS.bit rfl)
    refine State.noteModel_keeps ?_ (hS.tr rfl)
    exact State.eraseSummary_keeps hs3 (hM.tr rfl)

theorem State.learnSecond_keeps {x1} (h : Keeps S M s t) (hM : Sub 0x100 M) :
    Keeps S M s (State.learnSecond t x1) := by
  unfold State.learnSecond
  extract_lets p1 mean2 x3 s4 s5
  have hs4 : Keeps S M s s4 := State.modDpll_keeps h (hM.tr rfl)
  clear_value s4
  have hs5 : Keeps S M s s5 := State.modDpll_keeps hs4 (hM.tr rfl)
  clear_value s5
  split
  · rename_i a6 a7 a8
    exact State.modDpll_keeps hs5 (hM.tr rfl)
  · rename_i a9 a10
    exact hs5

theorem State.publishCrossing_keeps {x1 x2 x3} (h : Keeps S M s t) (hS : Sub 0x8000000000000000000000000000000000000000000000000000000000000000000000000000000000000 S) (hM : Sub 0x100 M) :
    Keeps S M s (State.publishCrossing t x1 x2 x3).1 := by
  unfold State.publishCrossing
  split
  · rename_i a1 a2
    dsimp only
    refine State.wr_keeps ?_ (hS.bit rfl)
    exact State.modDpll_keeps h (hM.tr rfl)
  · rename_i a3 a4 a5 a6
    extract_lets x7 left8 secs9 s10
    have hs10 : Keeps S M s s10 := State.modDpll_keeps h (hM.tr rfl)
    clear_value s10
    dsimp only
    exact State.wr_keeps hs10 (hS.bit rfl)

theorem State.outOfSpec_keeps {x1 x2} (h : Keeps S M s t) (hS : Sub 0x8017d100000100000000000000440000000000000020000000000000000000000000000000000000000000000000080000000600000000000000000000000200000000000000000000000000000000000000000000000000000000000000000000000000000000000 S) (hM : Sub 0x304026 M) :
    Keeps S M s (State.outOfSpec t x1 x2) := by
  unfold State.outOfSpec
  refine Keeps.ite ?_ ?_
  · exact h
  · refine State.fault_keeps ?_ (hS.tr rfl) (hM.tr rfl)
    exact State.wr_keeps h (hS.bit rfl)

theorem State.budgetEpoch_keeps {x1} (h : Keeps S M s t) (hS : Sub 0x8017d10000010000000000000044000000000000002000000000000000000000000000000000000000000000000008000000060000000000000000000000e300000000000000000000000000000000000000000000000000000000000000000000000000000000000 S) (hM : Sub 0x304126 M) :
    Keeps S M s (State.budgetEpoch t x1) := by
  unfold State.budgetEpoch
  split
  · rename_i a1 a2 a3
    extract_lets s4
    have hs4 : Keeps S M s s4 := State.wr_keeps h (hS.bit rfl)
    clear_value s4
    split
    · rename_i a5 a6
      exact State.wr_keeps hs4 (hS.bit rfl)
    · rename_i a7 a8 a9
      extract_lets e10 s11 b12 te13 teNs14 s15 p16 s17 warn18 soon19 s20
      have hs11 : Keeps S M s s11 := State.modDpll_keeps hs4 (hM.tr rfl)
      clear_value s11
      have hs15 : Keeps S M s s15 := State.wr_keeps hs11 (hS.bit rfl)
      clear_value s15
      have hp16 : Keeps S M s p16.1 := by
        unfold p16
        exact State.publishCrossing_keeps hs15 (hS.tr rfl) (hM.tr rfl)
      clear_value p16
      have hs17 : Keeps S M s s17 := by
        unfold s17
        exact hp16
      clear_value s17
      have hs20 : Keeps S M s s20 := by
        unfold s20
        refine Keeps.ite ?_ ?_
        · refine State.infoAt_keeps ?_ (hM.tr rfl)
          exact State.wr_keeps hs17 (hS.bit rfl)
        · exact hs17
      clear_value s20
      refine Keeps.ite ?_ ?_
      · exact State.outOfSpec_keeps hs20 (hS.tr rfl) (hM.tr rfl)
      · exact hs20
  · rename_i a21 a22
    split
    · rename_i a23 a24
      exact State.wr_keeps h (hS.bit rfl)
    · rename_i a25 a26 a27
      extract_lets e28
      exact State.publishCrossing_keeps h (hS.tr rfl) (hM.tr rfl)

theorem State.holdEpoch_keeps {x1} (h : Keeps S M s t) (hS : Sub 0x8017d10000010000000000000044000000000000002000000000000000000000000000000000000000000000000008000000060000000000000000000000fbe0000000000000000000000000000000000000000000000000000000000000000000000000000000000 S) (hM : Sub 0x306126 M) :
    Keeps S M s (State.holdEpoch t x1) := by
  unfold State.holdEpoch
  extract_lets s1 s2 s3
  have hs1 : Keeps S M s s1 := by
    unfold s1
    refine State.noteModel_keeps ?_ (hS.tr rfl)
    exact State.learnSecond_keeps h (hM.tr rfl)
  clear_value s1
  have hs2 : Keeps S M s s2 := State.modDpll_keeps hs1 (hM.tr rfl)
  clear_value s2
  have hs3 : Keeps S M s s3 := by
    unfold s3
    split
    · rename_i a4 a5 a6
      refine Keeps.ite ?_ ?_
      · split
        · rename_i a7 a8 a9
          refine State.deliver_keeps ?_ (hM.tr rfl)
          exact State.setWord_keeps hs2 (hM.tr rfl)
        · rename_i a10 a11
          exact hs2
      · exact hs2
    · rename_i a12 a13
      exact hs2
  clear_value s3
  exact State.budgetEpoch_keeps hs3 (hS.tr rfl) (hM.tr rfl)

theorem State.restoreSummary_keeps {x1} (h : Keeps S M s t) (hS : Sub 0x18e0000000000000000000000000000000000000000000000000000000000000000000000000000000000 S) (hM : Sub 0x100 M) :
    Keeps S M s (State.restoreSummary t x1) := by
  unfold State.restoreSummary
  split
  · rename_i a1 a2
    exact h
  · rename_i a3 a4 a5
    extract_lets f6
    refine State.noteModel_keeps ?_ (hS.tr rfl)
    exact State.modDpll_keeps h (hM.tr rfl)

theorem State.holdoverSeconds_keeps {x1} (h : Keeps S M s t) (hS : Sub 0x8017d100000100000000000000440000000000000020000000000000000000000000000000000000000000000000080000000600000000000000000000000000000000000000000000000000000000000000000000000000000000000000000000000000000000000 S) (hM : Sub 0x2304226 M) :
    Keeps S M s (State.holdoverSeconds t x1) := by
  unfold State.holdoverSeconds
  extract_lets n1 s2 v3
  have hs2 : Keeps S M s s2 := State.lifeBump_keeps h (hS.tr rfl) (hM.tr rfl)
  clear_value s2
  exact Keeps.to_at_ hs2 (hM.tr rfl) rfl rfl

theorem State.spoilLearning_keeps {x1} (h : Keeps S M s t) (hM : Sub 0x100 M) :
    Keeps S M s (State.spoilLearning t x1) := by
  unfold State.spoilLearning
  refine Keeps.ite ?_ ?_
  · exact h
  · exact State.modDpll_keeps h (hM.tr rfl)

theorem State.commitSummary_keeps {x1} (h : Keeps S M s t) (hM : Sub 0x2800200 M) :
    Keeps S M s (State.commitSummary t x1) := by
  unfold State.commitSummary
  refine Keeps.when h fun u1 h2 => ?_
  exact State.writeSlot_keeps h2 (.inl rfl) (hM.tr rfl)

theorem State.endEpisode_keeps {x1} (h : Keeps S M s t) (hS : Sub 0x8017d100000100000000000000440000000000000020000000000000000000000000000000000000000000000000080000000600000000000000000000006700000000000000000000000000000000000000000000000000000000000000000000000000000000000 S) (hM : Sub 0x2304326 M) :
    Keeps S M s (State.endEpisode t x1) := by
  unfold State.endEpisode
  split
  · rename_i a1 a2
    exact h
  · rename_i a3 a4 a5
    extract_lets s6
    have hs6 : Keeps S M s s6 := by
      unfold s6
      refine Keeps.when h fun u7 h8 => ?_
      exact State.holdoverSeconds_keeps h8 (hS.tr rfl) (hM.tr rfl)
    clear_value s6
    refine State.wrAll_keeps ?_ hS ⟨rfl, rfl, rfl, rfl, rfl, trivial⟩
    exact State.modDpll_keeps hs6 (hM.tr rfl)

theorem State.startEpisode_keeps {x1} (h : Keeps S M s t) (hS : Sub 0x8017d10000010000000000000044000000000000002000000000000000000000000000000000000000000000000008000000060000000000000000000000a600000100000000000000000000000000000000000000000000000000000000000000000000000000000 S) (hM : Sub 0x2304326 M) :
    Keeps S M s (State.startEpisode t x1) := by
  unfold State.startEpisode
  refine Keeps.ite h ?_
  extract_lets p v1 v2 s1 s2 s3
  have h1 : Keeps S M s s1 := by
    unfold s1
    refine Keeps.ite ?_ h
    have g := State.lifeBump_keeps (x1 := 6) (x2 := 1) h (hS.tr rfl) (hM.tr rfl)
    exact Keeps.to_at_ g (hM.tr rfl) rfl rfl
  have h2 : Keeps S M s s2 := State.modDpll_keeps h1 (hM.tr rfl)
  have h3 : Keeps S M s s3 := State.bump_keeps (State.wrAll_keeps h2 hS ⟨rfl, rfl, trivial⟩) (hS.bit rfl)
  refine Keeps.ite ?_ (Keeps.ite (State.wr_keeps h3 (hS.bit rfl)) h3)
  exact State.outOfSpec_keeps (State.wr_keeps (State.modDpll_keeps h3 (hM.tr rfl)) (hS.bit rfl)) (hS.tr rfl) (hM.tr rfl)

theorem State.hourPoint_keeps {x1} (h : Keeps S M s t) (hS : Sub 0x18e0000000000000000000000000000000000000000000000000000000000000000000000000000000000 S) (hM : Sub 0x100 M) :
    Keeps S M s (State.hourPoint t x1) := by
  unfold State.hourPoint
  extract_lets pt1 s2 s3
  have hs2 : Keeps S M s s2 := State.modDpll_keeps h (hM.tr rfl)
  clear_value s2
  have hs3 : Keeps S M s s3 := by
    unfold s3
    split
    · rename_i a4 a5 a6 a7
      exact State.modDpll_keeps hs2 (hM.tr rfl)
    · rename_i a8 a9
      exact hs2
  clear_value s3
  exact State.noteModel_keeps hs3 (hS.tr rfl)

end Sys2Proof.Machine
end

