-- ==== Sys2Proof/Laws/KeepsDpll.lean ====
section
/-! SUPPORT. What each operation of Machine/Dpll.lean may change (`Keeps`): the bits of the first mask are numbers of register
fields, those of the second the numbers `P.…` of the parts of the state. -/

set_option Elab.async false

namespace Sys2Proof.Machine

variable {S M : Nat} {s t u v : State}

theorem State.setDp_keeps {x1 x2 x3} (h : Keeps S M s t) (hS : Sub 0x826000000000000000000000000000000000000000000000000000000000000000000000000 S) (hM : Sub 0x102 M) :
    Keeps S M s (State.setDp t x1 x2 x3) := by
  unfold State.setDp
  extract_lets old1 s2 s3 s4 s5 s6
  have hs2 : Keeps S M s s2 := State.wr_keeps h (hS.bit rfl)
  clear_value s2
  have hs3 : Keeps S M s s3 := State.modDpll_keeps hs2 (hM.tr rfl)
  clear_value s3
  have hs4 : Keeps S M s s4 := by
    unfold s4
    refine Keeps.when hs3 fun u7 h8 => ?_
    exact State.wr_keeps h8 (hS.bit rfl)
  clear_value s4
  have hs5 : Keeps S M s s5 := by
    unfold s5
    refine Keeps.when hs4 fun u9 h10 => ?_
    exact State.wr_keeps h10 (hS.bit rfl)
  clear_value s5
  have hs6 : Keeps S M s s6 := by
    unfold s6
    refine Keeps.when hs5 fun u11 h12 => ?_
    exact State.wr_keeps h12 (hS.bit rfl)
  clear_value s6
  refine Keeps.ite ?_ ?_
  · exact h
  · refine State.infoAt_keeps ?_ (hM.tr rfl)
    exact State.spoilLearning_keeps hs6 (hM.tr rfl)

theorem State.putWord_keeps {x1 x2} (h : Keeps S M s t) (hM : Sub 0x2100 M) :
    Keeps S M s (State.putWord t x1 x2) := by
  unfold State.putWord
  refine State.deliver_keeps ?_ (hM.tr rfl)
  exact State.setWord_keeps h (hM.tr rfl)

theorem State.freezeDp_keeps {x1} (h : Keeps S M s t) (hS : Sub 0x8017d10000010000000000000044000000000000002000000000000000000000000000000000000000000000000008000000060000000000000000000000a600000100826000000000000000000000000000000000000000000000000000000000000000000000000 S) (hM : Sub 0x2306326 M) :
    Keeps S M s (State.freezeDp t x1) := by
  unfold State.freezeDp
  extract_lets st1 s2
  have hs2 : Keeps S M s s2 := by
    unfold s2
    refine State.modDpll_keeps ?_ (hM.tr rfl)
    exact State.startEpisode_keeps h (hS.tr rfl) (hM.tr rfl)
  clear_value s2
  refine Keeps.ite ?_ ?_
  · refine State.setDp_keeps ?_ (hS.tr rfl) (hM.tr rfl)
    exact State.putWord_keeps hs2 (hM.tr rfl)
  · exact h

theorem State.setMon_keeps {x1 x2} (h : Keeps S M s t) (hM : Sub 0x800 M) :
    Keeps S M s (State.setMon t x1 x2) := by
  unfold State.setMon
  exact Keeps.to_ql h (hM.tr rfl)

theorem State.clearHeld_keeps {x1} (h : Keeps S M s t) (hS : Sub 0x80000000000000000000000000000000000000000000000000000000000000000000000000 S) (hM : Sub 0x100 M) :
    Keeps S M s (State.clearHeld t x1) := by
  unfold State.clearHeld
  refine State.wr_keeps ?_ (hS.bit rfl)
  exact State.modDpll_keeps h (hM.tr rfl)

theorem State.goFree_keeps {x1 x2 x3} (h : Keeps S M s t) (hS : Sub 0x8e6000000000000000000000000000000000000000000000000000000000000000000000000 S) (hM : Sub 0x2102 M) :
    Keeps S M s (State.goFree t x1 x2 x3) := by
  unfold State.goFree
  extract_lets s1 s2
  have hs1 : Keeps S M s s1 := by
    unfold s1
    refine State.wr_keeps ?_ (hS.bit rfl)
    exact State.clearHeld_keeps h (hS.tr rfl) (hM.tr rfl)
  clear_value s1
  have hs2 : Keeps S M s s2 := State.modDpll_keeps hs1 (hM.tr rfl)
  clear_value s2
  refine State.setDp_keeps ?_ (hS.tr rfl) (hM.tr rfl)
  exact State.putWord_keeps hs2 (hM.tr rfl)

theorem State.toHold_keeps {x1 x2} (h : Keeps S M s t) (hS : Sub 0x8017d10000010000000000000044000000000000002000000000000000000000000000000000000000000000000008000000060000000000000000000000a6000001008e6000000000000000000000000000000000000000000000000000000000000000000000000 S) (hM : Sub 0x2306326 M) :
    Keeps S M s (State.toHold t x1 x2) := by
  unfold State.toHold
  extract_lets s1 s2
  have hs1 : Keeps S M s s1 := by
    unfold s1
    refine State.modDpll_keeps ?_ (hM.tr rfl)
    exact State.startEpisode_keeps h (hS.tr rfl) (hM.tr rfl)
  clear_value s1
  have hs2 : Keeps S M s s2 := by
    unfold s2
    split
    · rename_i a3 a4 a5
      split
      · rename_i a6 a7 a8
        exact State.putWord_keeps hs1 (hM.tr rfl)
      · rename_i a9 a10
        exact hs1
    · rename_i a11 a12
      exact hs1
  clear_value s2
  refine Keeps.ite ?_ ?_
  · refine State.setDp_keeps ?_ (hS.tr rfl) (hM.tr rfl)
    exact State.wr_keeps hs2 (hS.bit rfl)
  · exact State.goFree_keeps hs1 (hS.tr rfl) (hM.tr rfl)

theorem State.reentry_keeps {x1 x2} (h : Keeps S M s t) (hM : Sub 0x2 M) :
    Keeps S M s (State.reentry t x1 x2) := by
  unfold State.reentry
  exact State.infoAt_keeps h (hM.tr rfl)

theorem State.alignTime_keeps {x1 x2} (h : Keeps S M s t) (hS : Sub 0x200000000000000000000000000000000000000000000000000000000000000000000000000 S) (hM : Sub 0x112 M) :
    Keeps S M s (State.alignTime t x1 x2) := by
  unfold State.alignTime
  extract_lets s1 v2 s3
  have hs1 : Keeps S M s s1 := State.modDpll_keeps h (hM.tr rfl)
  clear_value s1
  have hs3 : Keeps S M s s3 := Keeps.to_tm hs1 (hM.tr rfl)
  clear_value s3
  refine State.reentry_keeps ?_ (hM.tr rfl)
  exact State.wr_keeps hs3 (hS.bit rfl)

theorem State.startSlew_keeps {x1} (h : Keeps S M s t) (hS : Sub 0x240000000000000000000000000000000000000000000000000000000000000000000000000 S) (hM : Sub 0x100 M) :
    Keeps S M s (State.startSlew t x1) := by
  unfold State.startSlew
  extract_lets s1
  have hs1 : Keeps S M s s1 := State.wr_keeps h (hS.bit rfl)
  clear_value s1
  refine Keeps.ite ?_ ?_
  · exact hs1
  · refine State.spoilLearning_keeps ?_ (hM.tr rfl)
    exact State.wr_keeps hs1 (hS.bit rfl)

theorem State.applyPolicy_keeps {x1 x2} (h : Keeps S M s t) (hS : Sub 0x8017d1000001000000000000004400000000000000200000000000000000000000000000000000000000000000000800000006000000000000000000000000000000002c0000000000000000000000000000000000000000000000000000000000000000000000000 S) (hM : Sub 0x304126 M) :
    Keeps S M s (State.applyPolicy t x1 x2) := by
  unfold State.applyPolicy
  extract_lets p1 h2 pol3 s4 s5 s6
  have hs4 : Keeps S M s s4 := State.wr_keeps h (hS.bit rfl)
  clear_value s4
  have hs5 : Keeps S M s s5 := by
    unfold s5
    refine State.wr_keeps ?_ (hS.bit rfl)
    exact State.modDpll_keeps hs4 (hM.tr rfl)
  clear_value s5
  have hs6 : Keeps S M s s6 := by
    unfold s6
    refine Keeps.ite ?_ ?_
    · exact State.startSlew_keeps hs4 (hS.tr rfl) (hM.tr rfl)
    · refine Keeps.ite ?_ ?_
      · exact State.fault_keeps hs5 (hS.tr rfl) (hM.tr rfl)
      · exact hs4
  clear_value s6
  exact State.reentry_keeps hs6 (hM.tr rfl)

theorem State.buildoutComplete_keeps {x1} (h : Keeps S M s t) (hS : Sub 0x8017d10000010000000000000044000000000000002000000000000000000000000000000000000000000000000008000000060000000000000000000000e700000100ee6000000000000000000000000000000000000000000000000000000000000000000000000 S) (hM : Sub 0x2306336 M) :
    Keeps S M s (State.buildoutComplete t x1) := by
  unfold State.buildoutComplete
  extract_lets p1 b2
  split
  · rename_i a3 a4
    exact h
  · rename_i a5 a6 a7
    refine Keeps.ite ?_ ?_
    · exact h
    · extract_lets j8 s9 s10 s11 time12 waits13 aligns14 s15 stepped16 s17
      have hs9 : Keeps S M s s9 := by
        unfold s9
        refine State.endEpisode_keeps ?_ (hS.tr rfl) (hM.tr rfl)
        exact State.setDpll_keeps h (hM.tr rfl)
      clear_value s9
      have hs10 : Keeps S M s s10 := State.wr_keeps hs9 (hS.bit rfl)
      clear_value s10
      have hs11 : Keeps S M s s11 := State.wr_keeps hs10 (hS.bit rfl)
      clear_value s11
      have hs15 : Keeps S M s s15 := by
        unfold s15
        refine Keeps.ite ?_ ?_
        · exact State.alignTime_keeps hs11 (hS.tr rfl) (hM.tr rfl)
        · refine Keeps.ite ?_ ?_
          · refine State.reentry_keeps ?_ (hM.tr rfl)
            refine State.wr_keeps ?_ (hS.bit rfl)
            exact State.modDpll_keeps hs11 (hM.tr rfl)
          · exact hs11
      clear_value s15
      have hs17 : Keeps S M s s17 := by
        unfold s17
        refine Keeps.ite ?_ ?_
        · exact hs15
        · exact State.applyPolicy_keeps hs15 (hS.tr rfl) (hM.tr rfl)
      clear_value s17
      refine Keeps.ite ?_ ?_
      · exact State.toHold_keeps hs11 (hS.tr rfl) (hM.tr rfl)
      · refine Keeps.ite ?_ ?_
        · exact State.modDpll_keeps hs15 (hM.tr rfl)
        · refine Keeps.ite ?_ ?_
          · exact State.setDp_keeps hs17 (hS.tr rfl) (hM.tr rfl)
          · exact State.setDp_keeps hs17 (hS.tr rfl) (hM.tr rfl)

theorem State.formB_keeps {x1 x2} (h : Keeps S M s t) (hM : Sub 0x100 M) :
    Keeps S M s (State.formB t x1 x2) := by
  unfold State.formB
  split
  · rename_i a1 a2 a3
    exact State.modDpll_keeps h (hM.tr rfl)
  · rename_i a4 a5
    exact State.modDpll_keeps h (hM.tr rfl)

theorem State.startBuild_keeps {x1 x2 x3 x4} (h : Keeps S M s t) (hS : Sub 0x200826000000000000000000000000000000000000000000000000000000000000000000000000 S) (hM : Sub 0x2102 M) :
    Keeps S M s (State.startBuild t x1 x2 x3 x4) := by
  unfold State.startBuild
  extract_lets old1 s2 s3 s4 s5
  have hs2 : Keeps S M s s2 := State.modDpll_keeps h (hM.tr rfl)
  clear_value s2
  have hs3 : Keeps S M s s3 := by
    unfold s3
    refine State.bump_keeps ?_ (hS.bit rfl)
    exact State.formB_keeps hs2 (hM.tr rfl)
  clear_value s3
  have hs4 : Keeps S M s s4 := State.putWord_keeps hs3 (hM.tr rfl)
  clear_value s4
  have hs5 : Keeps S M s s5 := State.infoAt_keeps hs4 (hM.tr rfl)
  clear_value s5
  exact State.setDp_keeps hs5 (hS.tr rfl) (hM.tr rfl)

theorem State.releaseHeld_keeps {x1 x2} (h : Keeps S M s t) (hS : Sub 0x2c0000000000000000000000000000000000000000000000000000000000000000000000000 S) (hM : Sub 0x100 M) :
    Keeps S M s (State.releaseHeld t x1 x2) := by
  unfold State.releaseHeld
  extract_lets p1 same2 s3
  have hs3 : Keeps S M s s3 := State.clearHeld_keeps h (hS.tr rfl) (hM.tr rfl)
  clear_value s3
  refine Keeps.ite ?_ ?_
  · exact h
  · refine Keeps.ite ?_ ?_
    · exact State.startSlew_keeps hs3 (hS.tr rfl) (hM.tr rfl)
    · exact hs3

theorem State.dpAfterReset_keeps {x1} (h : Keeps S M s t) (hS : Sub 0x8017d10000010000000000000044000000000000002000000000000000000000000000000000000000000000000008000000060000000000000000000000a6000001008f7000000000000000000000000000000000000000000000000000000000000000000000000 S) (hM : Sub 0x2306326 M) :
    Keeps S M s (State.dpAfterReset t x1) := by
  unfold State.dpAfterReset
  extract_lets s1 s2
  have hs1 : Keeps S M s s1 := by
    unfold s1
    refine State.wrAll_keeps ?_ hS ⟨rfl, rfl, rfl, rfl, rfl, rfl, trivial⟩
    exact State.clearHeld_keeps h (hS.tr rfl) (hM.tr rfl)
  clear_value s1
  have hs2 : Keeps S M s s2 := State.modDpll_keeps hs1 (hM.tr rfl)
  clear_value s2
  refine Keeps.ite ?_ ?_
  · exact hs2
  · refine Keeps.ite ?_ ?_
    · exact State.toHold_keeps hs2 (hS.tr rfl) (hM.tr rfl)
    · exact State.goFree_keeps hs2 (hS.tr rfl) (hM.tr rfl)

theorem State.lockstep_keeps {x1} (h : Keeps S M s t) (hS : Sub 0x8017d10000010000000000000044000000000000002000000000000000000000000000000000000000000000000008000000060000000000000000000000a600000500827000000000000000000000000000000000000000000000000000000000000000000000000 S) (hM : Sub 0x2304326 M) :
    Keeps S M s (State.lockstep t x1) := by
  unfold State.lockstep
  extract_lets st1 s2 s3 s4 s5
  have hs2 : Keeps S M s s2 := by
    unfold s2
    refine State.wr_keeps ?_ (hS.bit rfl)
    exact State.bump_keeps h (hS.bit rfl)
  clear_value s2
  have hs3 : Keeps S M s s3 := by
    unfold s3
    refine Keeps.when hs2 fun u6 h7 => ?_
    exact State.startEpisode_keeps h7 (hS.tr rfl) (hM.tr rfl)
  clear_value s3
  have hs4 : Keeps S M s s4 := State.modDpll_keeps hs3 (hM.tr rfl)
  clear_value s4
  have hs5 : Keeps S M s s5 := by
    unfold s5
    refine Keeps.ite ?_ ?_
    · exact hs4
    · exact State.setDp_keeps hs4 (hS.tr rfl) (hM.tr rfl)
  clear_value s5
  refine Keeps.ite ?_ ?_
  · exact h
  · exact State.fault_keeps hs5 (hS.tr rfl) (hM.tr rfl)

theorem State.refAck_keeps {x1} (h : Keeps S M s t) (hS : Sub 0x2c0000000000000000000000000000000000000000000000000000000000000000000000000 S) (hM : Sub 0x100 M) :
    Keeps S M s (State.refAck t x1) := by
  unfold State.refAck
  exact State.releaseHeld_keeps h (hS.tr rfl) (hM.tr rfl)

theorem State.modMon_keeps {x1 x2} (h : Keeps S M s t) (hM : Sub 0x800 M) :
    Keeps S M s (State.modMon t x1 x2) := by
  unfold State.modMon
  exact State.setMon_keeps h (hM.tr rfl)

theorem State.takeCounter_keeps {x1} (h : Keeps S M s t) (hS : Sub 0x400000000000000000000000200826000000000000000000000000000000000000000000000000000000000000000000000000 S) (hM : Sub 0x2102 M) :
    Keeps S M s (State.takeCounter t x1) := by
  unfold State.takeCounter
  extract_lets old1 load2 s3 s4
  have hs3 : Keeps S M s s3 := by
    unfold s3
    refine State.modDpll_keeps ?_ (hM.tr rfl)
    exact State.modDpll_keeps h (hM.tr rfl)
  clear_value s3
  have hs4 : Keeps S M s s4 := by
    unfold s4
    refine State.info_keeps ?_ (hM.tr rfl)
    exact State.wr_keeps hs3 (hS.bit rfl)
  clear_value s4
  refine Keeps.ite ?_ ?_
  · exact h
  · split
    · rename_i a5 a6
      exact hs4
    · rename_i a7 a8 a9
      refine Keeps.ite ?_ ?_
      · exact State.startBuild_keeps hs4 (hS.tr rfl) (hM.tr rfl)
      · refine Keeps.ite ?_ ?_
        · exact State.formB_keeps hs4 (hM.tr rfl)
        · exact hs4

theorem State.latchCfg_keeps {x1} (h : Keeps S M s t) (hM : Sub 0x100 M) :
    Keeps S M s (State.latchCfg t x1) := by
  unfold State.latchCfg
  extract_lets c1
  exact State.modDpll_keeps h (hM.tr rfl)

theorem State.lockTimer_keeps {x1} (h : Keeps S M s t) (hS : Sub 0x826000000000000000000000000000000000000000000000000000000000000000000000000 S) (hM : Sub 0x102 M) :
    Keeps S M s (State.lockTimer t x1) := by
  unfold State.lockTimer
  refine Keeps.ite ?_ ?_
  · exact State.setDp_keeps h (hS.tr rfl) (hM.tr rfl)
  · exact h

theorem State.filterStep_keeps {x1 x2} (h : Keeps S M s t) (hS : Sub 0x20000000000000000000000000000000000000000000000000000000000000000000000000 S) (hM : Sub 0x2100 M) :
    Keeps S M s (State.filterStep t x1 x2) := by
  unfold State.filterStep
  extract_lets p1 g2 es3 step4 want5 y6 limited7 away8 step9 i10 s11
  have hs11 : Keeps S M s s11 := State.setDpll_keeps h (hM.tr rfl)
  clear_value s11
  refine State.wrB_keeps ?_ (hS.bit rfl)
  exact State.putWord_keeps hs11 (hM.tr rfl)

theorem State.countUpdate_keeps {x1 x2} (h : Keeps S M s t) (hM : Sub 0x100 M) :
    Keeps S M s (State.countUpdate t x1 x2) := by
  unfold State.countUpdate
  exact State.modDpll_keeps h (hM.tr rfl)

theorem State.slewStep_keeps {x1} (h : Keeps S M s t) (hS : Sub 0x40000000000000000000000000000000000000000000000000000000000000000000000000 S) (hM : Sub 0x102 M) :
    Keeps S M s (State.slewStep t x1) := by
  unfold State.slewStep
  extract_lets p1 most2 b3 s4
  have hs4 : Keeps S M s s4 := State.setDpll_keeps h (hM.tr rfl)
  clear_value s4
  refine Keeps.ite ?_ ?_
  · exact h
  · refine Keeps.ite ?_ ?_
    · refine State.reentry_keeps ?_ (hM.tr rfl)
      exact State.wr_keeps hs4 (hS.bit rfl)
    · exact hs4

theorem State.loopUpdate_keeps {x1 x2} (h : Keeps S M s t) (hS : Sub 0x8017d10000010000000000000044000000000000002000000000000000000000000000000000000000000000000008000000060000000000000000000000a600000500867000000000000000000000000000000000000000000000000000000000000000000000000 S) (hM : Sub 0x2306326 M) :
    Keeps S M s (State.loopUpdate t x1 x2) := by
  unfold State.loopUpdate
  refine Keeps.ite ?_ ?_
  · exact State.lockstep_keeps h (hS.tr rfl) (hM.tr rfl)
  · refine Keeps.ite ?_ ?_
    · exact h
    · extract_lets p1 st2
      split
      · rename_i a3 a4
        exact h
      · rename_i a5 a6 a7
        extract_lets sample8 s9 s10
        have hs9 : Keeps S M s s9 := by
          unfold s9
          clear_value sample8
          split
          · rename_i a11 a12
            exact State.modDpll_keeps h (hM.tr rfl)
          · rename_i a13
            exact h
        clear_value s9
        have hs10 : Keeps S M s s10 := by
          unfold s10
          clear_value sample8
          split
          · rename_i a14 a15
            exact State.filterStep_keeps h (hS.tr rfl) (hM.tr rfl)
          · rename_i a16
            exact h
        clear_value s10
        refine Keeps.ite ?_ ?_
        · exact State.modDpll_keeps hs9 (hM.tr rfl)
        · refine Keeps.ite ?_ ?_
          · refine State.countUpdate_keeps ?_ (hM.tr rfl)
            exact State.slewStep_keeps hs10 (hS.tr rfl) (hM.tr rfl)
          · exact h

theorem State.delivers_keeps {x1} (h : Keeps S M s t) (hM : Sub 0x100 M) :
    Keeps S M s (State.delivers t x1) := by
  unfold State.delivers
  refine Keeps.forAll h fun i1 u2 h3 => ?_
  extract_lets p4
  split
  · rename_i a5 a6 a7
    refine Keeps.ite ?_ ?_
    · exact State.setDpll_keeps h3 (hM.tr rfl)
    · exact h3
  · rename_i a8 a9
    exact h3

theorem State.enableDp_keeps {x1} (h : Keeps S M s t) (hS : Sub 0x8e6000000000000000000000000000000000000000000000000000000000000000000000000 S) (hM : Sub 0x2102 M) :
    Keeps S M s (State.enableDp t x1) := by
  unfold State.enableDp
  extract_lets s1
  have hs1 : Keeps S M s s1 := by
    unfold s1
    refine Keeps.when h fun u2 h3 => ?_
    exact State.modDpll_keeps h3 (hM.tr rfl)
  clear_value s1
  exact State.goFree_keeps hs1 (hS.tr rfl) (hM.tr rfl)

theorem State.refAckStep_keeps {x1} (h : Keeps S M s t) (hS : Sub 0x2c0000000000000000000000000000000000000000000000000000000000000000000000000 S) (hM : Sub 0x110 M) :
    Keeps S M s (State.refAckStep t x1) := by
  unfold State.refAckStep
  refine Keeps.ite ?_ ?_
  · exact State.refAck_keeps h (hS.tr rfl) (hM.tr rfl)
  · refine Keeps.ite ?_ ?_
    · exact h
    · extract_lets p1 same2 s3 v4
      have hs3 : Keeps S M s s3 := State.clearHeld_keeps h (hS.tr rfl) (hM.tr rfl)
      clear_value s3
      refine Keeps.ite ?_ ?_
      · refine State.wr_keeps ?_ (hS.bit rfl)
        exact Keeps.to_tm hs3 (hM.tr rfl)
      · exact hs3

end Sys2Proof.Machine
end

