-- ==== Sys2Proof/Laws/KeepsQual.lean ====
section
/-! SUPPORT. What each operation of Machine/Qual.lean may change (`Keeps`): the bits of the first mask are numbers of register
fields, those of the second the numbers `P.…` of the parts of the state. -/

set_option Elab.async false

namespace Sys2Proof.Machine

variable {S M : Nat} {s t u v : State}

theorem State.later_keeps {x1} (h : Keeps S M s t) (hM : Sub 0x80000 M) :
    Keeps S M s (State.later t x1) := by
  unfold State.later
  exact Keeps.to_ep h (hM.tr rfl)

theorem State.qmGoes_keeps {x1 x2 x3} (h : Keeps S M s t) (hS : Sub 0x80000000000000000000000000000000000000000000000000 S) (hM : Sub 0x80802 M) :
    Keeps S M s (State.qmGoes t x1 x2 x3) := by
  unfold State.qmGoes
  extract_lets old1 s2 s3 s4 items5
  have hs2 : Keeps S M s s2 := State.wr_keeps h (hS.bit rfl)
  clear_value s2
  have hs3 : Keeps S M s s3 := State.modMon_keeps hs2 (hM.tr rfl)
  clear_value s3
  have hs4 : Keeps S M s s4 := by
    unfold s4
    refine Keeps.when hs3 fun u6 h7 => ?_
    exact State.modMon_keeps h7 (hM.tr rfl)
  clear_value s4
  refine Keeps.ite ?_ ?_
  · exact h
  · refine Keeps.ite ?_ ?_
    · exact State.later_keeps hs4 (hM.tr rfl)
    · exact State.infoAt_keeps hs4 (hM.tr rfl)

theorem State.qmReset_keeps {x1} (h : Keeps S M s t) (hS : Sub 0xb280000000000000000000000000000000000000000000000000 S) (hM : Sub 0x80802 M) :
    Keeps S M s (State.qmReset t x1) := by
  unfold State.qmReset
  refine Keeps.ite ?_ ?_
  · exact State.modMon_keeps h (hM.tr rfl)
  · extract_lets s1 q2 s3
    have hs1 : Keeps S M s s1 := State.wrAll_keeps h hS ⟨rfl, rfl, rfl, rfl, trivial⟩
    clear_value s1
    have hs3 : Keeps S M s s3 := State.setMon_keeps hs1 (hM.tr rfl)
    clear_value s3
    exact State.qmGoes_keeps hs3 (hS.tr rfl) (hM.tr rfl)

theorem State.setOut2_keeps {x1 x2 x3} (h : Keeps S M s t) (hS : Sub 0x2000000000000000000000000000000000000000000000000000000 S) (hM : Sub 0x80800 M) :
    Keeps S M s (State.setOut2 t x1 x2 x3) := by
  unfold State.setOut2
  extract_lets q1 was2 q3 s4
  have hs4 : Keeps S M s s4 := State.setMon_keeps h (hM.tr rfl)
  clear_value s4
  refine Keeps.ite ?_ ?_
  · refine State.wr_keeps ?_ (hS.bit rfl)
    exact State.later_keeps hs4 (hM.tr rfl)
  · exact hs4

theorem State.captureQl_keeps {x1} (h : Keeps S M s t) (hS : Sub 0x4100000000000000000000000000000000000000000000000000 S) (hM : Sub 0x80800 M) :
    Keeps S M s (State.captureQl t x1) := by
  unfold State.captureQl
  extract_lets fixed1 q2 q3 v4 was5 s6 s7
  have hs6 : Keeps S M s s6 := State.modMon_keeps h (hM.tr rfl)
  clear_value s6
  have hs7 : Keeps S M s s7 := State.wrAll_keeps hs6 hS ⟨rfl, rfl, trivial⟩
  clear_value s7
  refine Keeps.ite ?_ ?_
  · exact State.later_keeps hs7 (hM.tr rfl)
  · exact hs7

theorem State.votes_keeps (h : Keeps S M s t) (hS : Sub 0x3e00400000000000000000000000000000000000000000000000000 S) (hM : Sub 0x80800 M) :
    Keeps S M s (State.votes t) := by
  unfold State.votes
  extract_lets fv1 pv2 s03 yOf4 rOf5 vf6 vp7 mine8 s9 s10
  have hs03 : Keeps S M s s03 := by
    unfold s03
    exact h
  clear_value s03
  have hs9 : Keeps S M s s9 := by
    unfold s9
    refine Keeps.foldl h fun u12 x11 h13 => ?_
    extract_lets t14
    have ht14 : Keeps S M s t14 := by
      unfold t14
      split
      · rename_i a15 a16 a17
        exact State.setOut2_keeps h13 (hS.tr rfl) (hM.tr rfl)
      · rename_i a18 a19
        exact h13
    clear_value t14
    refine Keeps.ite ?_ ?_
    · split
      · rename_i a20 a21 a22
        exact State.setOut2_keeps ht14 (hS.tr rfl) (hM.tr rfl)
      · rename_i a23 a24
        exact ht14
    · exact ht14
  clear_value s9
  have hs10 : Keeps S M s s10 := State.wrAll_keeps hs9 hS ⟨rfl, rfl, rfl, rfl, trivial⟩
  clear_value s10
  refine Keeps.forAll hs10 fun i25 u26 h27 => ?_
  exact State.wrB_keeps h27 (hS.bit rfl)

theorem State.qmRetire_keeps {x1} (h : Keeps S M s t) (hS : Sub 0xc00000080000000000000000000000000000000000000000000000000 S) (hM : Sub 0x80a0a M) :
    Keeps S M s (State.qmRetire t x1) := by
  unfold State.qmRetire
  extract_lets cause1 s2 s3 s4
  have hs2 : Keeps S M s s2 := State.modMon_keeps h (hM.tr rfl)
  clear_value s2
  have hs3 : Keeps S M s s3 := by
    unfold s3
    refine State.later_keeps ?_ (hM.tr rfl)
    exact State.qmGoes_keeps hs2 (hS.tr rfl) (hM.tr rfl)
  clear_value s3
  have hs4 : Keeps S M s s4 := State.markRetired_keeps hs3 (hM.tr rfl)
  clear_value s4
  refine Keeps.when hs4 fun u5 h6 => ?_
  exact State.listRetire_keeps h6 (hS.tr rfl) (hM.tr rfl)

theorem State.qmEpoch_keeps {x1} (h : Keeps S M s t) (hS : Sub 0xc00020080000000000000000000000000000000000000000000000000 S) (hM : Sub 0x80a0a M) :
    Keeps S M s (State.qmEpoch t x1) := by
  unfold State.qmEpoch
  extract_lets st1 en2 c3 has4 counting5 bad6 suspect7 s8
  have hs8 : Keeps S M s s8 := State.modMon_keeps h (hM.tr rfl)
  clear_value s8
  refine Keeps.ite ?_ ?_
  · exact h
  · refine Keeps.ite ?_ ?_
    · refine Keeps.ite ?_ ?_
      · exact h
      · exact State.qmGoes_keeps h (hS.tr rfl) (hM.tr rfl)
    · refine Keeps.ite ?_ ?_
      · refine Keeps.ite ?_ ?_
        · exact h
        · exact State.qmGoes_keeps h (hS.tr rfl) (hM.tr rfl)
      · refine Keeps.ite ?_ ?_
        · refine Keeps.ite ?_ ?_
          · exact h
          · exact State.qmGoes_keeps h (hS.tr rfl) (hM.tr rfl)
        · refine Keeps.ite ?_ ?_
          · refine Keeps.ite ?_ ?_
            · exact State.qmGoes_keeps h (hS.tr rfl) (hM.tr rfl)
            · exact h
          · refine Keeps.ite ?_ ?_
            · refine Keeps.ite ?_ ?_
              · exact h
              · refine Keeps.ite ?_ ?_
                · refine Keeps.ite ?_ ?_
                  · exact State.qmRetire_keeps h (hS.tr rfl) (hM.tr rfl)
                  · refine State.qmGoes_keeps ?_ (hS.tr rfl) (hM.tr rfl)
                    exact State.bump_keeps hs8 (hS.bit rfl)
                · refine Keeps.ite ?_ ?_
                  · exact State.qmGoes_keeps h (hS.tr rfl) (hM.tr rfl)
                  · refine Keeps.ite ?_ ?_
                    · exact State.qmGoes_keeps h (hS.tr rfl) (hM.tr rfl)
                    · refine Keeps.ite ?_ ?_
                      · exact State.qmGoes_keeps h (hS.tr rfl) (hM.tr rfl)
                      · exact h
            · exact h

theorem State.qualEpoch_keeps (h : Keeps S M s t) (hS : Sub 0xc03e2ff80000000000000000000000000000000000000000000000000 S) (hM : Sub 0x80a0a M) :
    Keeps S M s (State.qualEpoch t) := by
  unfold State.qualEpoch
  extract_lets s1 s2 s3
  have hs1 : Keeps S M s s1 := by
    unfold s1
    refine Keeps.ite ?_ ?_
    · refine Keeps.forAll h fun i4 u5 h6 => ?_
      refine Keeps.ite ?_ ?_
      · exact State.captureQl_keeps h6 (hS.tr rfl) (hM.tr rfl)
      · exact h6
    · exact h
  clear_value s1
  have hs2 : Keeps S M s s2 := State.votes_keeps hs1 (hS.tr rfl) (hM.tr rfl)
  clear_value s2
  have hs3 : Keeps S M s s3 := by
    unfold s3
    refine Keeps.forAll hs2 fun i7 u8 h9 => ?_
    refine Keeps.ite ?_ ?_
    · extract_lets c10 t11
      have ht11 : Keeps S M s t11 := State.wr_keeps h9 (hS.bit rfl)
      clear_value t11
      refine Keeps.when ht11 fun u12 h13 => ?_
      exact State.wr_keeps h13 (hS.bit rfl)
    · exact h9
  clear_value s3
  refine Keeps.forAll hs3 fun i14 u15 h16 => ?_
  extract_lets t17 t18 t19
  have ht17 : Keeps S M s t17 := State.qmEpoch_keeps h16 (hS.tr rfl) (hM.tr rfl)
  clear_value t17
  have ht18 : Keeps S M s t18 := by
    unfold t18
    refine State.wrB_keeps ?_ (hS.bit rfl)
    exact State.wr_keeps ht17 (hS.bit rfl)
  clear_value t18
  have ht19 : Keeps S M s t19 := State.wr_keeps ht18 (hS.bit rfl)
  clear_value t19
  refine Keeps.ite ?_ ?_
  · exact State.modMon_keeps ht19 (hM.tr rfl)
  · exact ht19

theorem State.strobe_keeps {x1 x2} (h : Keeps S M s t) (hS : Sub 0x8017d10000010000000000000044000000000000002000000000000000000000000000000000000000000000000008000000060000000000000000000000a600000100826000000000000002000000200000000000000000000000000000000000000000000000000 S) (hM : Sub 0x2306b26 M) :
    Keeps S M s (State.strobe t x1 x2) := by
  unfold State.strobe
  extract_lets s1 s2
  have hs1 : Keeps S M s s1 := State.modMon_keeps h (hM.tr rfl)
  clear_value s1
  have hs2 : Keeps S M s s2 := by
    unfold s2
    refine State.info_keeps ?_ (hM.tr rfl)
    refine State.bump_keeps ?_ (hS.bit rfl)
    exact State.wr_keeps hs1 (hS.bit rfl)
  clear_value s2
  refine Keeps.foldl hs2 fun u4 x3 h5 => ?_
  exact State.freezeDp_keeps h5 (hS.tr rfl) (hM.tr rfl)

theorem State.phaseHit_keeps {x1} (h : Keeps S M s t) (hS : Sub 0x8017d10000010000000000000044000000000000002000000000000000000000000000000000000000000000000008000000060000000000000000000000a600000100826000000000000002000010200000000000000000000000000000000000000000000000000 S) (hM : Sub 0x2306b26 M) :
    Keeps S M s (State.phaseHit t x1) := by
  unfold State.phaseHit
  refine State.strobe_keeps ?_ (hS.tr rfl) (hM.tr rfl)
  refine State.bump_keeps ?_ (hS.bit rfl)
  exact State.modMon_keeps h (hM.tr rfl)

theorem State.acceptResidual_keeps {x1 x2 x3} (h : Keeps S M s t) (hM : Sub 0x800 M) :
    Keeps S M s (State.acceptResidual t x1 x2 x3) := by
  unfold State.acceptResidual
  extract_lets res1
  exact State.modMon_keeps h (hM.tr rfl)

theorem State.judgeHit_keeps {x1 x2 x3} (h : Keeps S M s t) (hS : Sub 0x8017d10000010000000000000044000000000000002000000000000000000000000000000000000000000000000008000000060000000000000000000000a600000100826000000000000002000010200000000000000000000000000000000000000000000000000 S) (hM : Sub 0x2306b26 M) :
    Keeps S M s (State.judgeHit t x1 x2 x3) := by
  unfold State.judgeHit
  extract_lets h1 far2
  refine Keeps.ite ?_ ?_
  · exact State.phaseHit_keeps h (hS.tr rfl) (hM.tr rfl)
  · exact State.acceptResidual_keeps h (hM.tr rfl)

theorem State.updateY_keeps {x1 x2 x3 x4} (h : Keeps S M s t) (hM : Sub 0x800 M) :
    Keeps S M s (State.updateY t x1 x2 x3 x4) := by
  unfold State.updateY
  extract_lets y1
  exact State.modMon_keeps h (hM.tr rfl)

theorem State.monResult_keeps {x1 x2} (h : Keeps S M s t) (hM : Sub 0x800 M) :
    Keeps S M s (State.monResult t x1 x2) := by
  unfold State.monResult
  refine Keeps.foldl h fun u2 x1 h3 => ?_
  refine Keeps.ite ?_ ?_
  · exact h3
  · refine Keeps.ite ?_ ?_
    · exact State.updateY_keeps h3 (hM.tr rfl)
    · refine Keeps.ite ?_ ?_
      · exact State.modMon_keeps h3 (hM.tr rfl)
      · exact h3

theorem State.qmUnitRetire_keeps {x1} (h : Keeps S M s t) (hS : Sub 0x1080000000000000000000000000000000000000000000000000 S) (hM : Sub 0x80802 M) :
    Keeps S M s (State.qmUnitRetire t x1) := by
  unfold State.qmUnitRetire
  refine Keeps.ite ?_ ?_
  · exact h
  · extract_lets s1
    have hs1 : Keeps S M s s1 := by
      unfold s1
      refine State.modMon_keeps ?_ (hM.tr rfl)
      exact State.wr_keeps h (hS.bit rfl)
    clear_value s1
    exact State.qmGoes_keeps hs1 (hS.tr rfl) (hM.tr rfl)

theorem State.detectResume_keeps (h : Keeps S M s t) (hM : Sub 0xc00 M) :
    Keeps S M s (State.detectResume t) := by
  unfold State.detectResume
  refine Keeps.ite ?_ ?_
  · exact h
  · extract_lets v1 s2
    have hs2 : Keeps S M s s2 := Keeps.to_td h (hM.tr rfl)
    clear_value s2
    refine Keeps.forAll hs2 fun i3 u4 h5 => ?_
    refine Keeps.ite ?_ ?_
    · exact h5
    · exact State.modMon_keeps h5 (hM.tr rfl)

theorem State.missingEdge_keeps {x1} (h : Keeps S M s t) (hS : Sub 0x8017d10000010000000000000044000000000000002000000000000000000000000000000000000000000000000008000000060000000000000000000000a600000100826000000000000002000000200000000000000000000000000000000000000000000000000 S) (hM : Sub 0x2306b26 M) :
    Keeps S M s (State.missingEdge t x1) := by
  unfold State.missingEdge
  split
  · rename_i a1 a2 a3
    refine Keeps.ite ?_ ?_
    · refine State.strobe_keeps ?_ (hS.tr rfl) (hM.tr rfl)
      exact State.modMon_keeps h (hM.tr rfl)
    · exact h
  · rename_i a4 a5
    exact h

theorem State.holdoffEnd_keeps {x1} (h : Keeps S M s t) (hS : Sub 0x80000000000000000000000000000000000000000000000000 S) (hM : Sub 0x80802 M) :
    Keeps S M s (State.holdoffEnd t x1) := by
  unfold State.holdoffEnd
  refine Keeps.ite ?_ ?_
  · exact State.qmGoes_keeps h (hS.tr rfl) (hM.tr rfl)
  · exact h

theorem State.qmUnretire_keeps {x1} (h : Keeps S M s t) (hS : Sub 0x1080000000000000000000000000000000000000000000000000 S) (hM : Sub 0x80802 M) :
    Keeps S M s (State.qmUnretire t x1) := by
  unfold State.qmUnretire
  refine Keeps.ite ?_ ?_
  · refine State.qmGoes_keeps ?_ (hS.tr rfl) (hM.tr rfl)
    exact State.wr_keeps h (hS.bit rfl)
  · exact h

theorem State.windowMiss_keeps {x1} (h : Keeps S M s t) (hS : Sub 0x8017d10000010000000000000044000000000000002000000000000000000000000000000000000000000000000008000000060000000000000000000000a600000100826000000000000002000000200000000000000000000000000000000000000000000000000 S) (hM : Sub 0x2306b26 M) :
    Keeps S M s (State.windowMiss t x1) := by
  unfold State.windowMiss
  split
  · rename_i a1 a2 a3
    refine Keeps.ite ?_ ?_
    · refine State.strobe_keeps ?_ (hS.tr rfl) (hM.tr rfl)
      exact State.modMon_keeps h (hM.tr rfl)
    · exact h
  · rename_i a4 a5
    exact h

theorem State.qualStamp_keeps {x1 x2 x3} (h : Keeps S M s t) (hS : Sub 0x8017d10000010000000000000044000000000000002000000000000000000000000000000000000000000000000008000000060000000000000000000000a600000100826000000000000002000010200000000000000000000000000000000000000000000000000 S) (hM : Sub 0x2306b26 M) :
    Keeps S M s (State.qualStamp t x1 x2 x3) := by
  unfold State.qualStamp
  refine Keeps.ite ?_ ?_
  · exact h
  · extract_lets s1 w2
    have hs1 : Keeps S M s s1 := State.modMon_keeps h (hM.tr rfl)
    clear_value s1
    refine Keeps.ite ?_ ?_
    · exact hs1
    · refine Keeps.ite ?_ ?_
      · exact State.judgeHit_keeps hs1 (hS.tr rfl) (hM.tr rfl)
      · split
        · rename_i a3 a4
          refine State.judgeHit_keeps ?_ (hS.tr rfl) (hM.tr rfl)
          exact State.modMon_keeps hs1 (hM.tr rfl)
        · rename_i a5 a6 a7
          refine Keeps.ite ?_ ?_
          · refine State.judgeHit_keeps ?_ (hS.tr rfl) (hM.tr rfl)
            exact State.modMon_keeps hs1 (hM.tr rfl)
          · exact State.phaseHit_keeps hs1 (hS.tr rfl) (hM.tr rfl)

theorem State.validationEnd_keeps {x1} (h : Keeps S M s t) (hS : Sub 0x80000000000000000000000000000000000000000000000000 S) (hM : Sub 0x80802 M) :
    Keeps S M s (State.validationEnd t x1) := by
  unfold State.validationEnd
  extract_lets c1
  refine Keeps.ite ?_ ?_
  · exact State.qmGoes_keeps h (hS.tr rfl) (hM.tr rfl)
  · exact h

end Sys2Proof.Machine
end

