-- ==== Sys2Proof/Laws/KeepsStamps.lean ====
section
/-! SUPPORT. What each operation of Machine/Stamps.lean may change (`Keeps`): the bits of the first mask are numbers of register
fields, those of the second the numbers `P.…` of the parts of the state. -/

set_option Elab.async false

namespace Sys2Proof.Machine

variable {S M : Nat} {s t u v : State}

theorem State.leafStamp_keeps {x1 x2} (h : Keeps S M s t) (hM : Sub 0x900 M) :
    Keeps S M s (State.leafStamp t x1 x2) := by
  unfold State.leafStamp
  refine Keeps.ite ?_ ?_
  · exact h
  · refine Keeps.foldl h fun u2 x1 h3 => ?_
    split
    · rename_i a4 a5 a6
      extract_lets back7 at_8
      refine State.delivers_keeps ?_ (hM.tr rfl)
      exact State.modMon_keeps h3 (hM.tr rfl)
    · rename_i a9 a10
      exact h3

theorem State.notePulse_keeps {x1 x2} (h : Keeps S M s t) (hM : Sub 0x400 M) :
    Keeps S M s (State.notePulse t x1 x2) := by
  unfold State.notePulse
  refine Keeps.ite ?_ ?_
  · extract_lets x1
    exact State.setChan_keeps h (hM.tr rfl)
  · exact h

theorem State.estimatePublish_keeps {x1} (h : Keeps S M s t) (hS : Sub 0x1ef0000000000000000000000000000000000000 S) (hM : Sub 0xc02 M) :
    Keeps S M s (State.estimatePublish t x1) := by
  unfold State.estimatePublish
  refine Keeps.ite ?_ ?_
  · extract_lets x1
    split
    · rename_i a2 a3
      exact h
    · rename_i a4 a5 a6
      extract_lets ok7 s8
      have hs8 : Keeps S M s s8 := State.setChan_keeps h (hM.tr rfl)
      clear_value s8
      exact State.monResult_keeps hs8 (hM.tr rfl)
  · exact State.publishEst_keeps h (hS.tr rfl) (hM.tr rfl)

theorem State.dropStamp_keeps {x1 x2} (h : Keeps S M s t) (hS : Sub 0x8017d100000100000000000000440000000000000020000000000000000000000000000000000000000000000000080000000600000000000000000000000000000000000000000000000000000000000000002000000000200000000000000000000000000000000 S) (hM : Sub 0x304c26 M) :
    Keeps S M s (State.dropStamp t x1 x2) := by
  unfold State.dropStamp
  extract_lets v1 s2 s3 s4 s5
  have hs2 : Keeps S M s s2 := State.setChan_keeps h (hM.tr rfl)
  clear_value s2
  have hs3 : Keeps S M s s3 := by
    unfold s3
    refine State.mapGates_keeps ?_ (hM.tr rfl)
    exact State.bump_keeps hs2 (hS.bit rfl)
  clear_value s3
  have hs4 : Keeps S M s s4 := by
    unfold s4
    refine Keeps.forAll hs3 fun i6 u7 h8 => ?_
    extract_lets x9 within10 mine11
    refine Keeps.ite ?_ ?_
    · exact State.wr_keeps h8 (hS.bit rfl)
    · exact h8
  clear_value s4
  have hs5 : Keeps S M s s5 := by
    unfold s5
    refine Keeps.foldl hs4 fun u13 x12 h14 => ?_
    exact State.modMon_keeps h14 (hM.tr rfl)
  clear_value s5
  exact State.faultOnce_keeps hs5 (hS.tr rfl) (hM.tr rfl)

theorem State.stampDistribute_keeps {x1} (h : Keeps S M s t) (hS : Sub 0x2000000000000000000000000000000000000000000000000000000000000000000000000000000000000000000000000000000000000000000000000019e000000000900000000000000000000000000000000 S) (hM : Sub 0x106d00 M) :
    Keeps S M s (State.stampDistribute t x1) := by
  unfold State.stampDistribute
  split
  · rename_i a1 a2
    exact h
  · rename_i a3 a4 a5 a6
    refine Keeps.ite ?_ ?_
    · exact h
    · extract_lets v7 s8 s9 s10 s11 s012 s13
      have hs8 : Keeps S M s s8 := State.setChan_keeps h (hM.tr rfl)
      clear_value s8
      have hs9 : Keeps S M s s9 := by
        unfold s9
        refine State.bumpWrap_keeps ?_ (hS.bit rfl)
        exact State.wr_keeps hs8 (hS.bit rfl)
      clear_value s9
      have hs10 : Keeps S M s s10 := by
        unfold s10
        refine Keeps.when hs9 fun u14 h15 => ?_
        exact State.pushRecord_keeps h15 (hS.tr rfl) (hM.tr rfl)
      clear_value s10
      have hs11 : Keeps S M s s11 := by
        unfold s11
        refine Keeps.forAll hs10 fun i16 u17 h18 => ?_
        exact State.takeStamp_keeps h18 (hS.tr rfl) (hM.tr rfl)
      clear_value s11
      have hs012 : Keeps S M s s012 := by
        unfold s012
        exact hs11
      clear_value s012
      have hs13 : Keeps S M s s13 := State.mapGates_keeps hs11 (hM.tr rfl)
      clear_value s13
      refine State.leafStamp_keeps ?_ (hM.tr rfl)
      exact State.verifyStamp_keeps hs13 (hM.tr rfl)

theorem State.pushStamp_keeps {x1 x2} (h : Keeps S M s t) (hS : Sub 0x8017d10000010000000000000044000000000000002000000000000000000000000000000000000000000000000008000000060000000000000000000000a600000100826000000000000002000010200000000000000001800000000000000000000000000000000 S) (hM : Sub 0x2306f26 M) :
    Keeps S M s (State.pushStamp t x1 x2) := by
  unfold State.pushStamp
  extract_lets x1 s2 n3 s4
  have hs2 : Keeps S M s s2 := by
    unfold s2
    refine State.notePulse_keeps ?_ (hM.tr rfl)
    exact State.setChan_keeps h (hM.tr rfl)
  clear_value s2
  have hs4 : Keeps S M s s4 := State.wrAll_keeps hs2 hS ⟨rfl, rfl, trivial⟩
  clear_value s4
  refine Keeps.foldl hs4 fun u6 x5 h7 => ?_
  exact State.qualStamp_keeps h7 (hS.tr rfl) (hM.tr rfl)

theorem State.edgeStamp_keeps {x1 x2 x3 x4 x5 x6} (h : Keeps S M s t) (hS : Sub 0x8017d10000010000000000000044000000000000002000000000000000000000000000000000000000000000000008000000060000000000000000000000a600000100826000000000000002000010200000002000000001e00000420000000000000000000000000 S) (hM : Sub 0x2306f36 M) :
    Keeps S M s (State.edgeStamp t x1 x2 x3 x4 x5 x6) := by
  unfold State.edgeStamp
  refine Keeps.ite ?_ ?_
  · exact h
  · extract_lets s1 s2 t3 x4 idx5 close6 s7
    have hs1 : Keeps S M s s1 := State.advanceTo_keeps h (hM.tr rfl)
    clear_value s1
    have hs2 : Keeps S M s s2 := by
      unfold s2
      refine Keeps.when hs1 fun u8 h9 => ?_
      refine State.bumpBy_keeps ?_ (hS.bit rfl)
      exact State.wr_keeps h9 (hS.bit rfl)
    clear_value s2
    have hs7 : Keeps S M s s7 := State.setChan_keeps hs2 (hM.tr rfl)
    clear_value s7
    refine Keeps.ite ?_ ?_
    · exact hs7
    · refine Keeps.ite ?_ ?_
      · exact State.bump_keeps hs7 (hS.bit rfl)
      · refine Keeps.ite ?_ ?_
        · exact State.dropStamp_keeps hs7 (hS.tr rfl) (hM.tr rfl)
        · exact State.pushStamp_keeps hs7 (hS.tr rfl) (hM.tr rfl)

end Sys2Proof.Machine
end

