-- ==== Sys2Proof/Laws/KeepsTree.lean ====
section
/-! SUPPORT. What each operation of Machine/Tree.lean may change (`Keeps`): the bits of the first mask are numbers of register
fields, those of the second the numbers `P.…` of the parts of the state. -/

set_option Elab.async false

namespace Sys2Proof.Machine

variable {S M : Nat} {s t u v : State}

theorem State.setNode_keeps {x1 x2} (h : Keeps S M s t) (hM : Sub 0x1000 M) :
    Keeps S M s (State.setNode t x1 x2) := by
  unfold State.setNode
  exact Keeps.to_tr h (hM.tr rfl)

theorem State.clearNode_keeps {x1} (h : Keeps S M s t) (hM : Sub 0x1000 M) :
    Keeps S M s (State.clearNode t x1) := by
  unfold State.clearNode
  exact State.setNode_keeps h (hM.tr rfl)

theorem State.adaptNode_keeps {x1} (h : Keeps S M s t) (hM : Sub 0x1000 M) :
    Keeps S M s (State.adaptNode t x1) := by
  unfold State.adaptNode
  extract_lets x1 x2 s3 elig4 ph5 val6 tau7 mem8 wan9 fac10
  have hs3 : Keeps S M s s3 := State.setNode_keeps h (hM.tr rfl)
  clear_value s3
  refine Keeps.ite ?_ ?_
  · exact State.setNode_keeps h (hM.tr rfl)
  · exact State.setNode_keeps hs3 (hM.tr rfl)

theorem State.wtrEnd_keeps {x1 x2} (h : Keeps S M s t) (hM : Sub 0x1000 M) :
    Keeps S M s (State.wtrEnd t x1 x2) := by
  unfold State.wtrEnd
  extract_lets x1 y2
  refine Keeps.ite ?_ ?_
  · exact State.setNode_keeps h (hM.tr rfl)
  · exact h

theorem State.showNode_keeps {x1 x2} (h : Keeps S M s t) (hS : Sub 0xff600000000000000000000000000000000000000000000000000000000000000000 S) :
    Keeps S M s (State.showNode t x1 x2) := by
  unfold State.showNode
  exact State.wrAll_keeps h hS ⟨rfl, rfl, rfl, rfl, rfl, rfl, rfl, rfl, rfl, rfl, trivial⟩

theorem State.present_keeps {x1 x2 x3 x4 x5 x6} (h : Keeps S M s t) (hS : Sub 0xff600000000000000000000000000000000000000000000000000000000000000000 S) (hM : Sub 0x1000 M) :
    Keeps S M s (State.present t x1 x2 x3 x4 x5 x6) := by
  unfold State.present
  extract_lets v1 s2 base3
  have hs2 : Keeps S M s s2 := State.setNode_keeps h (hM.tr rfl)
  clear_value s2
  exact State.showNode_keeps hs2 (hS.tr rfl)

theorem State.wtrEpoch_keeps {x1} (h : Keeps S M s t) (hM : Sub 0x1000 M) :
    Keeps S M s (State.wtrEpoch t x1) := by
  unfold State.wtrEpoch
  extract_lets ks1 x2
  exact State.setNode_keeps h (hM.tr rfl)

theorem State.wtrTaken_keeps {x1 x2} (h : Keeps S M s t) (hM : Sub 0x1000 M) :
    Keeps S M s (State.wtrTaken t x1 x2) := by
  unfold State.wtrTaken
  extract_lets x1
  exact State.setNode_keeps h (hM.tr rfl)

theorem State.evalMix_keeps {x1 x2} (h : Keeps S M s t) (hS : Sub 0xff600000000000000000000000000000000000000000000000000000000000000000 S) (hM : Sub 0x81000 M) :
    Keeps S M s (State.evalMix t x1 x2) := by
  unfold State.evalMix
  extract_lets s1 x2 cls3 idle4 elig5 firm6 mem7 ids8 old9 joined10 left11 mw12 kept13 moved14 changed15 s16 v17 s18 s19 kid20 p21
  have hs1 : Keeps S M s s1 := State.wtrEpoch_keeps h (hM.tr rfl)
  clear_value s1
  have hs16 : Keeps S M s s16 := by
    unfold s16
    refine Keeps.ite ?_ ?_
    · exact State.later_keeps hs1 (hM.tr rfl)
    · exact hs1
  clear_value s16
  have hs18 : Keeps S M s s18 := State.setNode_keeps hs16 (hM.tr rfl)
  clear_value s18
  have hs19 : Keeps S M s s19 := State.wtrTaken_keeps hs18 (hM.tr rfl)
  clear_value s19
  exact State.present_keeps hs19 (hS.tr rfl) (hM.tr rfl)

theorem State.invalidNode_keeps {x1 x2} (h : Keeps S M s t) (hS : Sub 0xff600000000000000000000000000000000000000000000000000000000000000000 S) (hM : Sub 0x81000 M) :
    Keeps S M s (State.invalidNode t x1 x2) := by
  unfold State.invalidNode
  extract_lets was1 v2 s3 s4
  have hs3 : Keeps S M s s3 := State.setNode_keeps h (hM.tr rfl)
  clear_value s3
  have hs4 : Keeps S M s s4 := State.showNode_keeps hs3 (hS.tr rfl)
  clear_value s4
  refine Keeps.when hs4 fun u5 h6 => ?_
  exact State.later_keeps h6 (hM.tr rfl)

theorem State.evalCut_keeps {x1 x2} (h : Keeps S M s t) (hS : Sub 0xff600000000000000000000000000000000000000000000000000000000000000000 S) (hM : Sub 0x81000 M) :
    Keeps S M s (State.evalCut t x1 x2) := by
  unfold State.evalCut
  extract_lets s1 x2 idle3 cand4 c5 new6 code7 s8 v9 s10 s11 p12
  have hs1 : Keeps S M s s1 := State.wtrEpoch_keeps h (hM.tr rfl)
  clear_value s1
  have hs8 : Keeps S M s s8 := by
    unfold s8
    refine Keeps.ite ?_ ?_
    · exact hs1
    · exact State.later_keeps hs1 (hM.tr rfl)
  clear_value s8
  have hs10 : Keeps S M s s10 := State.setNode_keeps hs8 (hM.tr rfl)
  clear_value s10
  have hs11 : Keeps S M s s11 := State.wtrTaken_keeps hs10 (hM.tr rfl)
  clear_value s11
  exact State.present_keeps hs11 (hS.tr rfl) (hM.tr rfl)

theorem State.evalNode_keeps {x1 x2} (h : Keeps S M s t) (hS : Sub 0xff600000000000000000000000000000000000000000000000000000000000000000 S) (hM : Sub 0x81000 M) :
    Keeps S M s (State.evalNode t x1 x2) := by
  unfold State.evalNode
  refine Keeps.ite ?_ ?_
  · refine State.showNode_keeps ?_ (hS.tr rfl)
    exact State.setNode_keeps h (hM.tr rfl)
  · refine Keeps.ite ?_ ?_
    · exact State.evalMix_keeps h (hS.tr rfl) (hM.tr rfl)
    · exact State.evalCut_keeps h (hS.tr rfl) (hM.tr rfl)

theorem State.adaptMixes_keeps (h : Keeps S M s t) (hM : Sub 0x1000 M) :
    Keeps S M s (State.adaptMixes t) := by
  unfold State.adaptMixes
  refine Keeps.ite ?_ ?_
  · exact h
  · refine Keeps.foldl h fun u2 x1 h3 => ?_
    refine Keeps.ite ?_ ?_
    · exact State.adaptNode_keeps h3 (hM.tr rfl)
    · exact h3

theorem State.treeEpoch_keeps (h : Keeps S M s t) (hS : Sub 0xff600000000000000000000000000000000000000000000000000000000000000000 S) (hM : Sub 0x81000 M) :
    Keeps S M s (State.treeEpoch t) := by
  unfold State.treeEpoch
  refine Keeps.ite ?_ ?_
  · exact h
  · extract_lets str1 s2 bad3 s4 ok5 s6
    have hs2 : Keeps S M s s2 := by
      unfold s2
      refine Keeps.forAll h fun i7 u8 h9 => ?_
      refine Keeps.ite ?_ ?_
      · exact h9
      · refine Keeps.ite ?_ ?_
        · exact h9
        · refine State.showNode_keeps ?_ (hS.tr rfl)
          exact State.setNode_keeps h9 (hM.tr rfl)
    clear_value s2
    have hs4 : Keeps S M s s4 := by
      unfold s4
      refine Keeps.foldl hs2 fun u11 x10 h12 => ?_
      exact State.invalidNode_keeps h12 (hS.tr rfl) (hM.tr rfl)
    clear_value s4
    have hs6 : Keeps S M s s6 := by
      unfold s6
      refine Keeps.foldl hs4 fun u14 x13 h15 => ?_
      exact State.setNode_keeps h15 (hM.tr rfl)
    clear_value s6
    refine Keeps.foldl hs6 fun u17 x16 h18 => ?_
    refine Keeps.foldl h18 fun u20 x19 h21 => ?_
    exact State.evalNode_keeps h21 (hS.tr rfl) (hM.tr rfl)

end Sys2Proof.Machine
end

