-- ==== Sys2Proof/Laws/KeepsDpllEpoch.lean ====
section
/-! SUPPORT. What each operation of Machine/DpllEpoch.lean may change (`Keeps`): the bits of the first mask are numbers of register
fields, those of the second the numbers `P.…` of the parts of the state. -/

set_option Elab.async false

namespace Sys2Proof.Machine

variable {S M : Nat} {s t u v : State}

theorem State.dpDecides_keeps {x1 x2} (h : Keeps S M s t) (hM : Sub 0x80000 M) :
    Keeps S M s (State.dpDecides t x1 x2) := by
  unfold State.dpDecides
  exact State.later_keeps h (hM.tr rfl)

theorem State.standbyEpoch_keeps (h : Keeps S M s t) (hS : Sub 0x20000000000000000000000000000000000000000000000000000000000000000000000000000000000000000000000000000000000000000000000000000000000000000000000000000000000000000000000000000000000000 S) (hM : Sub 0x80000 M) :
    Keeps S M s (State.standbyEpoch t) := by
  unfold State.standbyEpoch
  extract_lets d1 far2
  refine Keeps.ite ?_ ?_
  · refine Keeps.ite ?_ ?_
    · exact State.wr_keeps h (hS.bit rfl)
    · refine Keeps.ite ?_ ?_
      · refine State.later_keeps ?_ (hM.tr rfl)
        exact State.wr_keeps h (hS.bit rfl)
      · exact h
  · exact h

theorem State.dpSwitch_keeps {x1 x2 x3} (h : Keeps S M s t) (hM : Sub 0x280000 M) :
    Keeps S M s (State.dpSwitch t x1 x2 x3) := by
  unfold State.dpSwitch
  refine State.drawn_keeps ?_ (hM.tr rfl)
  exact State.dpDecides_keeps h (hM.tr rfl)

theorem State.dpPending_keeps {x1 x2 x3} (h : Keeps S M s t) (hM : Sub 0x80100 M) :
    Keeps S M s (State.dpPending t x1 x2 x3) := by
  unfold State.dpPending
  split
  · rename_i a1
    exact State.modDpll_keeps h (hM.tr rfl)
  · rename_i a2 a3
    refine Keeps.ite ?_ ?_
    · exact State.modDpll_keeps h (hM.tr rfl)
    · refine State.dpDecides_keeps ?_ (hM.tr rfl)
      exact State.modDpll_keeps h (hM.tr rfl)

theorem State.dpEpoch_keeps {x1} (h : Keeps S M s t) (hM : Sub 0x280100 M) :
    Keeps S M s (State.dpEpoch t x1) := by
  unfold State.dpEpoch
  extract_lets st1 want2 hold3 p4
  refine Keeps.ite ?_ ?_
  · refine Keeps.ite ?_ ?_
    · exact h
    · exact State.dpDecides_keeps h (hM.tr rfl)
  · refine Keeps.ite ?_ ?_
    · exact h
    · refine Keeps.ite ?_ ?_
      · exact State.dpDecides_keeps h (hM.tr rfl)
      · refine Keeps.ite ?_ ?_
        · refine Keeps.ite ?_ ?_
          · exact h
          · exact State.dpDecides_keeps h (hM.tr rfl)
        · refine Keeps.ite ?_ ?_
          · refine Keeps.ite ?_ ?_
            · exact h
            · exact State.dpDecides_keeps h (hM.tr rfl)
          · refine Keeps.ite ?_ ?_
            · clear_value want2
              split
              · rename_i a5 a6
                refine Keeps.ite ?_ ?_
                · refine Keeps.ite ?_ ?_
                  · exact State.dpDecides_keeps h (hM.tr rfl)
                  · exact h
                · exact State.dpSwitch_keeps h (hM.tr rfl)
              · rename_i a7
                refine Keeps.ite ?_ ?_
                · exact State.dpDecides_keeps h (hM.tr rfl)
                · exact h
            · refine Keeps.ite ?_ ?_
              · refine Keeps.ite ?_ ?_
                · exact State.dpDecides_keeps h (hM.tr rfl)
                · clear_value want2
                  split
                  · rename_i a8
                    exact State.dpDecides_keeps h (hM.tr rfl)
                  · rename_i a9 a10
                    split
                    · rename_i a11 a12
                      exact State.dpSwitch_keeps h (hM.tr rfl)
                    · rename_i a13 a14 a15
                      refine Keeps.ite ?_ ?_
                      · exact State.dpSwitch_keeps h (hM.tr rfl)
                      · extract_lets s16
                        have hs16 : Keeps S M s s16 := State.dpDecides_keeps h (hM.tr rfl)
                        clear_value s16
                        refine Keeps.ite ?_ ?_
                        · exact State.dpDecides_keeps hs16 (hM.tr rfl)
                        · exact hs16
              · refine Keeps.ite ?_ ?_
                · refine Keeps.ite ?_ ?_
                  · clear_value want2
                    split
                    · rename_i a17 a18
                      exact State.dpSwitch_keeps h (hM.tr rfl)
                    · rename_i a19
                      exact State.dpDecides_keeps h (hM.tr rfl)
                  · split
                    · rename_i a20 a21 a22
                      exact State.dpPending_keeps h (hM.tr rfl)
                    · rename_i a23 a24
                      exact h
                · refine Keeps.ite ?_ ?_
                  · clear_value want2
                    split
                    · rename_i a25 a26
                      refine Keeps.ite ?_ ?_
                      · exact State.dpDecides_keeps h (hM.tr rfl)
                      · exact State.dpSwitch_keeps h (hM.tr rfl)
                    · rename_i a27
                      exact State.dpDecides_keeps h (hM.tr rfl)
                  · clear_value want2
                    split
                    · rename_i a28 a29
                      refine Keeps.ite ?_ ?_
                      · exact h
                      · exact State.dpSwitch_keeps h (hM.tr rfl)
                    · rename_i a30
                      exact h

theorem State.adaptRecipe_keeps {x1 x2} (h : Keeps S M s t) (hM : Sub 0x100 M) :
    Keeps S M s (State.adaptRecipe t x1 x2) := by
  unfold State.adaptRecipe
  exact State.modDpll_keeps h (hM.tr rfl)

theorem State.rangeEpoch_keeps {x1 x2} (h : Keeps S M s t) (hS : Sub 0x10000000000000000000000000000000000000000000000000000000000000000000000000 S) (hM : Sub 0x80100 M) :
    Keeps S M s (State.rangeEpoch t x1 x2) := by
  unfold State.rangeEpoch
  extract_lets p1
  split
  · rename_i a2
    refine State.wr_keeps ?_ (hS.bit rfl)
    exact State.setDpll_keeps h (hM.tr rfl)
  · rename_i a3 a4
    extract_lets out5 s6
    have hs6 : Keeps S M s s6 := by
      unfold s6
      refine State.wrB_keeps ?_ (hS.bit rfl)
      exact State.setDpll_keeps h (hM.tr rfl)
    clear_value s6
    refine Keeps.when hs6 fun u7 h8 => ?_
    exact State.later_keeps h8 (hM.tr rfl)

theorem State.lockEpoch_keeps {x1} (h : Keeps S M s t) (hS : Sub 0x4000000000000000000000000000000000000000000000000000000000000000000000000 S) (hM : Sub 0x100 M) :
    Keeps S M s (State.lockEpoch t x1) := by
  unfold State.lockEpoch
  extract_lets st1 p2 k3 ph4 fr5 ok6 far7
  refine Keeps.ite ?_ ?_
  · refine State.wrB_keeps ?_ (hS.bit rfl)
    exact State.setDpll_keeps h (hM.tr rfl)
  · exact h

theorem State.alignEpoch_keeps {x1} (h : Keeps S M s t) (hM : Sub 0x80000 M) :
    Keeps S M s (State.alignEpoch t x1) := by
  unfold State.alignEpoch
  extract_lets p1
  refine Keeps.ite ?_ ?_
  · split
    · rename_i a2 a3 a4
      exact State.dpDecides_keeps h (hM.tr rfl)
    · rename_i a5 a6
      exact h
  · exact h

theorem State.meanErrors_keeps {x1} (h : Keeps S M s t) (hM : Sub 0x100 M) :
    Keeps S M s (State.meanErrors t x1) := by
  unfold State.meanErrors
  exact State.modDpll_keeps h (hM.tr rfl)

theorem State.heldEpoch_keeps {x1} (h : Keeps S M s t) (hM : Sub 0x80000 M) :
    Keeps S M s (State.heldEpoch t x1) := by
  unfold State.heldEpoch
  extract_lets p1
  refine Keeps.ite ?_ ?_
  · exact h
  · refine Keeps.ite ?_ ?_
    · exact State.dpDecides_keeps h (hM.tr rfl)
    · refine Keeps.ite ?_ ?_
      · exact State.dpDecides_keeps h (hM.tr rfl)
      · exact h

theorem State.dpllEpochs_keeps (h : Keeps S M s t) (hS : Sub 0x20000000000000000000000000000000000000000000000000000000000000000000000000000000000000000000000000000000000014000000800000000000000000000000000000000000000000000000000000000000000000 S) (hM : Sub 0x280100 M) :
    Keeps S M s (State.dpllEpochs t) := by
  unfold State.dpllEpochs
  extract_lets s1 s2 held3
  have hs1 : Keeps S M s s1 := by
    unfold s1
    refine Keeps.forAll h fun i4 u5 h6 => ?_
    refine Keeps.ite ?_ ?_
    · extract_lets t7 t8
      have ht7 : Keeps S M s t7 := State.meanErrors_keeps h6 (hM.tr rfl)
      clear_value t7
      have ht8 : Keeps S M s t8 := by
        unfold t8
        refine Keeps.ite ?_ ?_
        · exact ht7
        · exact State.rangeEpoch_keeps ht7 (hS.tr rfl) (hM.tr rfl)
      clear_value t8
      refine State.dpEpoch_keeps ?_ (hM.tr rfl)
      refine State.alignEpoch_keeps ?_ (hM.tr rfl)
      refine State.heldEpoch_keeps ?_ (hM.tr rfl)
      exact State.lockEpoch_keeps ht8 (hS.tr rfl) (hM.tr rfl)
    · exact h6
  clear_value s1
  have hs2 : Keeps S M s s2 := State.standbyEpoch_keeps hs1 (hS.tr rfl) (hM.tr rfl)
  clear_value s2
  refine Keeps.foldl hs2 fun u10 x9 h11 => ?_
  exact State.wrB_keeps h11 (hS.bit rfl)

theorem State.dpApply_keeps {x1 x2 x3} (h : Keeps S M s t) (hS : Sub 0x8017d10000010000000000000044000000000000002000000000000000000000000000000000000000000000000008000000060000000000000000000000a600000300ae6000000000000000000000000000000000000000000000000000000000000000000000000 S) (hM : Sub 0x2306336 M) :
    Keeps S M s (State.dpApply t x1 x2 x3) := by
  unfold State.dpApply
  refine Keeps.ite ?_ ?_
  · exact h
  · split
    · rename_i a1
      refine Keeps.ite ?_ ?_
      · exact State.goFree_keeps h (hS.tr rfl) (hM.tr rfl)
      · exact h
    · rename_i a2 a3
      refine Keeps.ite ?_ ?_
      · exact h
      · split
        · rename_i a4
          exact h
        · rename_i a5 a6
          exact State.goFree_keeps h (hS.tr rfl) (hM.tr rfl)
        · rename_i a7
          exact State.enableDp_keeps h (hS.tr rfl) (hM.tr rfl)
        · rename_i a8 a9
          exact State.toHold_keeps h (hS.tr rfl) (hM.tr rfl)
        · rename_i a10 a11 a12 a13
          exact State.startBuild_keeps h (hS.tr rfl) (hM.tr rfl)
        · rename_i a14 a15
          exact State.adaptRecipe_keeps h (hM.tr rfl)
        · rename_i a16
          exact State.setDp_keeps h (hS.tr rfl) (hM.tr rfl)
        · rename_i a17 a18
          exact State.releaseHeld_keeps h (hS.tr rfl) (hM.tr rfl)
        · rename_i a19 a20
          refine Keeps.ite ?_ ?_
          · exact h
          · exact State.alignTime_keeps h (hS.tr rfl) (hM.tr rfl)

end Sys2Proof.Machine
end

