-- ==== Sys2Proof/Laws/KeepsPorts.lean ====
section
/-! SUPPORT. What each operation of Machine/Ports.lean may change (`Keeps`): the bits of the first mask are numbers of register
fields, those of the second the numbers `P.…` of the parts of the state. -/

set_option Elab.async false

namespace Sys2Proof.Machine

variable {S M : Nat} {s t u v : State}

/-- Taking a frame out of the inbox changes the time service's part only. -/
theorem State.takeRx_keeps {x1 : RxFrame → Bool} {a : RxFrame} (h : Keeps S M s t) (hM : Sub P.sv M)
    (e : t.takeRx x1 = some (a, u)) : Keeps S M s u := by
  unfold State.takeRx at e
  cases f : takeFrom x1 t.sv.inbox with
  | none => rw [f] at e; cases e
  | some x =>
    rw [f] at e
    injection e with e
    injection e with _ e
    exact e ▸ Keeps.to_sv h hM

theorem State.bridgeReview_keeps {x1} (h : Keeps S M s t) (hS : Sub 0x2000000000000000000000000000000000000000000000000000000000000000000000000000000000000000000000000000000000000000000000000000000000000000 S) (hM : Sub 0x2 M) :
    Keeps S M s (State.bridgeReview t x1) := by
  unfold State.bridgeReview
  refine Keeps.ite ?_ ?_
  · exact h
  · refine State.info_keeps ?_ (hM.tr rfl)
    exact State.wr_keeps h (hS.bit rfl)

theorem State.setPort_keeps {x1 x2} (h : Keeps S M s t) (hM : Sub 0x8000 M) :
    Keeps S M s (State.setPort t x1 x2) := by
  unfold State.setPort
  exact Keeps.to_po h (hM.tr rfl)

theorem State.linkUpNow_keeps {x1} (h : Keeps S M s t) (hS : Sub 0x2000000000003e00000000000000000000000000000000000000000000000000000000000000000000000000000000000000000000000000000000000000000000000000 S) (hM : Sub 0x8002 M) :
    Keeps S M s (State.linkUpNow t x1) := by
  unfold State.linkUpNow
  refine Keeps.ite ?_ ?_
  · exact h
  · extract_lets s1 v2
    have hs1 : Keeps S M s s1 := State.wrAll_keeps h hS ⟨rfl, rfl, rfl, rfl, rfl, trivial⟩
    clear_value s1
    refine State.bridgeReview_keeps ?_ (hS.tr rfl) (hM.tr rfl)
    refine State.info_keeps ?_ (hM.tr rfl)
    exact State.setPort_keeps hs1 (hM.tr rfl)

theorem State.bcount_keeps {x1 x2} (h : Keeps S M s t) (hS : Sub 0x20000000000000000000000000000000000000000000000000000000000000000000000000000000000000000000000000000000000000000000000000000000000000000 S) :
    Keeps S M s (State.bcount t x1 x2) := by
  unfold State.bcount
  exact State.bumpWrap_keeps h (hS.bit rfl)

theorem State.bridgeCorrect_keeps {x1 x2 x3} (h : Keeps S M s t) (hS : Sub 0x8017d100000100000000000000440000000000000020000000000000000000000000000020000000000000000000080000000600000000000000000000000000000000000000000000000000000000000000000000000000000000000000000000000000000000000 S) (hM : Sub 0x304026 M) :
    Keeps S M s (State.bridgeCorrect t x1 x2 x3).1 := by
  unfold State.bridgeCorrect
  split
  · rename_i a1 a2
    dsimp only
    exact h
  · rename_i a3 a4 a5
    split
    · rename_i a6
      dsimp only
      exact h
    · rename_i a7
      extract_lets r8
      split
      · rename_i a9 a10
        dsimp only
        refine State.faultOnce_keeps ?_ (hS.tr rfl) (hM.tr rfl)
        exact State.bcount_keeps h (hS.tr rfl)
      · rename_i a11 a12 a13
        dsimp only
        refine Keeps.when ?_ fun u14 h15 => ?_
        · refine State.bcount_keeps ?_ (hS.tr rfl)
          exact State.drawn_keeps h (hM.tr rfl)
        · exact State.bcount_keeps h15 (hS.tr rfl)

theorem State.pcount_keeps {x1 x2} (h : Keeps S M s t) (hS : Sub 0x80000000000000000000000000000000000000000000000000000000000000000000000000000000000000000000000000000000000000000000000000000000000000 S) :
    Keeps S M s (State.pcount t x1 x2) := by
  unfold State.pcount
  exact State.bumpWrap_keeps h (hS.bit rfl)

theorem State.esmcTake_keeps {x1 x2} (h : Keeps S M s t) (hS : Sub 0x80e00000000000000000000000000000000000000000000000000000000000000000000000000000000000000000000000000000000000000000000000000000000000 S) (hM : Sub 0x8800 M) :
    Keeps S M s (State.esmcTake t x1 x2) := by
  unfold State.esmcTake
  refine Keeps.ite ?_ ?_
  · exact h
  · refine Keeps.ite ?_ ?_
    · exact State.pcount_keeps h (hS.tr rfl)
    · extract_lets e1 s2 s3 s4 v5 s6
      have hs2 : Keeps S M s s2 := State.pcount_keeps h (hS.tr rfl)
      clear_value s2
      have hs3 : Keeps S M s s3 := State.wrAll_keeps hs2 hS ⟨rfl, rfl, trivial⟩
      clear_value s3
      have hs4 : Keeps S M s s4 := by
        unfold s4
        clear_value e1
        split
        · rename_i a7 a8
          exact State.wr_keeps hs3 (hS.bit rfl)
        · rename_i a9
          exact hs3
      clear_value s4
      have hs6 : Keeps S M s s6 := State.setPort_keeps hs4 (hM.tr rfl)
      clear_value s6
      exact State.modMon_keeps hs6 (hM.tr rfl)

theorem State.esmcRx_keeps {x1} (h : Keeps S M s t) (hS : Sub 0x80e00000000000000000000000000000000000000000000000000000000000000000000000000000000000000000000000000000000000000000000000000000000000 S) (hM : Sub 0x18800 M) :
    Keeps S M s (State.esmcRx t x1) := by
  unfold State.esmcRx
  split
  · rename_i a1 a2
    exact h
  · rename_i a3 a4 a5 a6
    split
    · rename_i a7 a8 a9
      refine State.esmcTake_keeps ?_ (hS.tr rfl) (hM.tr rfl)
      have k10 := State.takeRx_keeps h (hM.tr rfl) a6
      exact k10
    · rename_i a11 a12
      have k13 := State.takeRx_keeps h (hM.tr rfl) a6
      exact k13

theorem State.noteStamp_keeps {x1} (h : Keeps S M s t) (hS : Sub 0x80000000000000000000000000000000000000000000000000000000000000000000000000000000000000000000000000000000000000000000000000000000000000 S) :
    Keeps S M s (State.noteStamp t x1) := by
  unfold State.noteStamp
  refine Keeps.when h fun u1 h2 => ?_
  exact State.pcount_keeps h2 (hS.tr rfl)

theorem State.txDone_keeps {x1 x2} (h : Keeps S M s t) (hS : Sub 0x20000000000000000000000000000000000000000000000000000000000000000000000000000000000000000000000000000000000000000000000000000000000000000000000000000000000000000000000 S) (hM : Sub 0x104000 M) :
    Keeps S M s (State.txDone t x1 x2) := by
  unfold State.txDone
  exact State.complete_keeps h (hS.tr rfl) (hM.tr rfl)

theorem State.takeUp_keeps {x1 : TxDesc} (h : Keeps S M s t) (hS : Sub 0x8017d100000100000000000000440000000000000022000000000000000000000000000000080000000000000000080000000600000000000000000000000000000000000000000000000000000000000000000000000000000000000000000000000000000000000 S) (hM : Sub 0x304026 M) (e : t.takeUp x1 = some u) : Keeps S M s u := by
  unfold State.takeUp at e
  extract_lets late at e
  split at e
  · injection e with e
    exact e ▸ State.txDone_keeps h (hS.tr rfl) (hM.tr rfl)
  · split at e
    · injection e with e
      exact e ▸ Keeps.to_hs h (hM.tr rfl)
    · split at e
      · injection e with e
        exact e ▸ State.txDone_keeps (State.pcount_keeps h (hS.tr rfl)) (hS.tr rfl) (hM.tr rfl)
      · split at e
        · injection e with e
          exact e ▸ State.txDone_keeps (State.faultOnce_keeps (State.pcount_keeps h (hS.tr rfl)) (hS.tr rfl) (hM.tr rfl))
            (hS.tr rfl) (hM.tr rfl)
        · split at e
          · cases e
          · injection e with e
            exact e ▸ State.wr_keeps (Keeps.to_hs h (hM.tr rfl)) (hS.bit rfl)

theorem State.deliver_keeps_ {x1 x2 x3 x4 x5 x6} (h : Keeps S M s t) (hS : Sub 0x20000000000000000000000000000000080000000000000000000000000000000000000000000000000000000000000000000000000000000000000000000000000000000000000000000000000000000000000 S) (hM : Sub 0x104000 M) :
    Keeps S M s (State.deliver_ t x1 x2 x3 x4 x5 x6) := by
  unfold State.deliver_
  split
  · rename_i a1
    exact State.pcount_keeps h (hS.tr rfl)
  · rename_i a2 a3
    extract_lets s4 len5
    have hs4 : Keeps S M s s4 := State.skipBuffers_keeps h (hS.tr rfl) (hM.tr rfl)
    clear_value s4
    split
    · rename_i a6 a7
      exact State.pcount_keeps hs4 (hS.tr rfl)
    · rename_i a8 a9 a10
      split
      · rename_i a11 a12
        exact State.pcount_keeps hs4 (hS.tr rfl)
      · rename_i a13 a14 a15 a16
        extract_lets s17 c18
        have hs17 : Keeps S M s s17 := State.putReel_keeps hs4 (hM.tr rfl)
        clear_value s17
        refine State.complete_keeps ?_ (hS.tr rfl) (hM.tr rfl)
        refine Keeps.when hs17 fun u19 h20 => ?_
        exact State.emitOut_keeps h20 (hM.tr rfl)

theorem State.laneReturn_keeps {x1} (h : Keeps S M s t) (hS : Sub 0x10000000000000000000000000000000000000000000000000000000000000000000000000000000000000000000000000000000000000000000000000000 S) :
    Keeps S M s (State.laneReturn t x1) := by
  unfold State.laneReturn
  refine Keeps.ite ?_ ?_
  · exact State.wr_keeps h (hS.bit rfl)
  · exact h

theorem State.cdrLock_keeps {x1} (h : Keeps S M s t) (hS : Sub 0x400000000000000000000000000000000000000000000000000000000000000000000000000000000000000000000000000000000000000000000000000 S) :
    Keeps S M s (State.cdrLock t x1) := by
  unfold State.cdrLock
  refine Keeps.ite ?_ ?_
  · exact State.wr_keeps h (hS.bit rfl)
  · exact h

theorem State.esmcEpoch_keeps (h : Keeps S M s t) (hS : Sub 0x3100000000000000000000000000000000000000000000000000000000000000000000000000000000000000000000000000000000000000000000000000000000000 S) (hM : Sub 0x80000 M) :
    Keeps S M s (State.esmcEpoch t) := by
  unfold State.esmcEpoch
  refine Keeps.forAll h fun i1 u2 h3 => ?_
  split
  · rename_i a4 a5
    exact h3
  · rename_i a6 a7 a8 a9
    extract_lets old10 t11
    have ht11 : Keeps S M s t11 := State.wrAll_keeps h3 hS ⟨rfl, rfl, rfl, trivial⟩
    clear_value t11
    refine Keeps.ite ?_ ?_
    · exact ht11
    · exact State.later_keeps ht11 (hM.tr rfl)

theorem State.sendFrame_keeps {x1 x2 x3 x4 x5 x6} (h : Keeps S M s t) (hS : Sub 0x80000000000000000000000000000000000000000000000000000000000000000000000000000000000000000000000000000000000000000000000000000000000000 S) (hM : Sub 0x300000 M) :
    Keeps S M s (State.sendFrame t x1 x2 x3 x4 x5 x6).1 := by
  unfold State.sendFrame
  extract_lets go1
  have hgo1 : ∀ y2 y3 y4, Keeps S M s y2 → Keeps S M s (go1 y2 y3 y4).1 := by
    intro y2 y3 y4 h5
    unfold go1
    beta_reduce
    extract_lets ev6 s7
    have hs7 : Keeps S M s s7 := by
      unfold s7
      refine Keeps.when ?_ fun u8 h9 => ?_
      · refine Keeps.when ?_ fun u10 h11 => ?_
        · exact State.pcount_keeps h5 (hS.tr rfl)
        · exact State.pcount_keeps h11 (hS.tr rfl)
      · exact State.noteStamp_keeps h9 (hS.tr rfl)
    clear_value s7
    dsimp only
    exact State.emitOut_keeps hs7 (hM.tr rfl)
  clear_value go1
  split
  · rename_i a12
    refine hgo1 _ _ _ ?_
    exact h
  · rename_i a13
    split
    · rename_i a14 a15
      refine hgo1 _ _ _ ?_
      exact State.pcount_keeps h (hS.tr rfl)
    · rename_i a16 a17 a18
      split
      · rename_i a19 a20
        refine hgo1 _ _ _ ?_
        exact State.pcount_keeps h (hS.tr rfl)
      · rename_i a21 a22 a23 a24
        split
        · rename_i a25 a26
          dsimp only
          exact State.pcount_keeps h (hS.tr rfl)
        · rename_i a27 a28 a29
          refine hgo1 _ _ _ ?_
          refine Keeps.when ?_ fun u30 h31 => ?_
          · refine State.pcount_keeps ?_ (hS.tr rfl)
            exact State.drawn_keeps h (hM.tr rfl)
          · exact State.pcount_keeps h31 (hS.tr rfl)

theorem State.drainTx_keeps {x1 x2} (h : Keeps S M s t) (hS : Sub 0x8017d100000100000000000000440000000000000022000000000000000000000000000000080000000000000000080000000600000000000000000000000000000000000000000000000000000000000000000000000000000000000000000000000000000000000 S) (hM : Sub 0x304026 M) :
    Keeps S M s (State.drainTx x1 t x2) := by
  induction x1 generalizing t with
  | zero => exact h
  | succ n ih =>
    unfold State.drainTx
    split
    · exact h
    · split
      · exact State.putReel_keeps h (hM.tr rfl)
      · split
        · exact State.putReel_keeps h (hM.tr rfl)
        · rename_i e
          exact ih (State.modReel_keeps (State.takeUp_keeps h (hS.tr rfl) (hM.tr rfl) e) (hM.tr rfl))

theorem State.linkDownNow_keeps {x1 x2} (h : Keeps S M s t) (hS : Sub 0x8017d100000100000000000000440000000000000020000000000000000000000000000002080000000003e00000080000000600000000000000000000000000000000000000000000000000000000000000000000000000000000000000000000000000000000000 S) (hM : Sub 0x30c026 M) :
    Keeps S M s (State.linkDownNow t x1 x2) := by
  unfold State.linkDownNow
  refine Keeps.ite ?_ ?_
  · exact h
  · extract_lets s1 s2 v3 s4
    have hs1 : Keeps S M s s1 := State.wrAll_keeps h hS ⟨rfl, rfl, rfl, rfl, trivial⟩
    clear_value s1
    have hs2 : Keeps S M s s2 := by
      unfold s2
      refine Keeps.when hs1 fun u5 h6 => ?_
      exact State.wr_keeps h6 (hS.bit rfl)
    clear_value s2
    have hs4 : Keeps S M s s4 := by
      unfold s4
      refine State.fault_keeps ?_ (hS.tr rfl) (hM.tr rfl)
      refine State.pcount_keeps ?_ (hS.tr rfl)
      exact State.setPort_keeps hs2 (hM.tr rfl)
    clear_value s4
    refine State.bridgeReview_keeps ?_ (hS.tr rfl) (hM.tr rfl)
    exact State.info_keeps hs4 (hM.tr rfl)

theorem State.drainStalled_keeps (h : Keeps S M s t) (hS : Sub 0x8017d100000100000000000000440000000000000022000000000000000000000000000000080000000000000000080000000600000000000000000000000000000000000000000000000000000000000000000000000000000000000000000000000000000000000 S) (hM : Sub 0x304026 M) :
    Keeps S M s (State.drainStalled t) := by
  unfold State.drainStalled
  refine Keeps.forAll h fun i1 u2 h3 => ?_
  split
  · rename_i a4 a5 a6
    refine Keeps.ite ?_ ?_
    · exact h3
    · exact State.drainTx_keeps h3 (hS.tr rfl) (hM.tr rfl)
  · rename_i a7 a8
    exact h3

theorem State.retireFrames_keeps {x1} (h : Keeps S M s t) (hS : Sub 0x8017d100000100000000000000440000000000000022000000000000000000000000000000080000000000000000080000000600000000000000000000000000000000000000000000000000000000000000000000000000000000000000000000000000000000000 S) (hM : Sub 0x304026 M) :
    Keeps S M s (State.retireFrames t x1) := by
  unfold State.retireFrames
  extract_lets mine1 v2 s3
  have hs3 : Keeps S M s s3 := Keeps.to_hs h (hM.tr rfl)
  clear_value s3
  refine State.drainStalled_keeps ?_ (hS.tr rfl) (hM.tr rfl)
  refine Keeps.foldl hs3 fun u5 x4 h6 => ?_
  exact State.txDone_keeps h6 (hS.tr rfl) (hM.tr rfl)

theorem State.portReset_keeps {x1} (h : Keeps S M s t) (hS : Sub 0x8017d100000100000000000000440000000000000022000000000000000000000000000002080000000003e00000080000000600000000000000000000000000000000000000000000000000000000000000000000000000000000000000000000000000000000000 S) (hM : Sub 0x30c026 M) :
    Keeps S M s (State.portReset t x1) := by
  unfold State.portReset
  refine State.retireFrames_keeps ?_ (hS.tr rfl) (hM.tr rfl)
  refine State.wr_keeps ?_ (hS.bit rfl)
  exact State.linkDownNow_keeps h (hS.tr rfl) (hM.tr rfl)

theorem State.restartLink_keeps {x1} (h : Keeps S M s t) (hS : Sub 0x8017d100000100000000000000440000000000000022000000000000000000000000000002080000000003e00000080000000600000000000000000000000000000000000000000000000000000000000000000000000000000000000000000000000000000000000 S) (hM : Sub 0x30c026 M) :
    Keeps S M s (State.restartLink t x1) := by
  unfold State.restartLink
  refine Keeps.ite ?_ ?_
  · exact State.portReset_keeps h (hS.tr rfl) (hM.tr rfl)
  · exact h

theorem State.esmcSend_keeps {x1 x2} (h : Keeps S M s t) (hS : Sub 0x80000000000000000000000000000000000000000000000000000000000000000000000000000000000000000000000000000000000000000000000000000000000000 S) (hM : Sub 0x300000 M) :
    Keeps S M s (State.esmcSend t x1 x2) := by
  unfold State.esmcSend
  refine Keeps.ite ?_ ?_
  · exact h
  · extract_lets code1 m2 s3
    have hs3 : Keeps S M s s3 := by
      unfold s3
      refine Keeps.when ?_ fun u4 h5 => ?_
      · refine State.pcount_keeps ?_ (hS.tr rfl)
        refine State.drawn_keeps ?_ (hM.tr rfl)
        exact State.drawn_keeps h (hM.tr rfl)
      · exact State.pcount_keeps h5 (hS.tr rfl)
    clear_value s3
    refine State.emitOut_keeps ?_ (hM.tr rfl)
    exact State.pcount_keeps hs3 (hS.tr rfl)

theorem State.esmcTx_keeps {x1} (h : Keeps S M s t) (hS : Sub 0x80000000000000000000000000000000000000000000000000000000000000000000000000000000000000000000000000000000000000000000000000000000000000 S) (hM : Sub 0x300000 M) :
    Keeps S M s (State.esmcTx t x1) := by
  unfold State.esmcTx
  split
  · rename_i a1 a2
    exact h
  · rename_i a3 a4 a5
    exact State.esmcSend_keeps h (hS.tr rfl) (hM.tr rfl)

theorem State.frameTx_keeps {x1 x2} (h : Keeps S M s t) (hS : Sub 0x20000000000000000000000000000000080000000000000000000000000000000000000000000000000000000000000000000000000000000000000000000000000000000000000000000000000000000000000 S) (hM : Sub 0x304000 M) :
    Keeps S M s (State.frameTx t x1 x2) := by
  unfold State.frameTx
  split
  · rename_i a1 a2
    exact h
  · rename_i a3 a4 a5
    extract_lets t6 drop7 r8
    have hdrop7 : ∀ y9, Keeps S M s y9 → Keeps S M s (drop7 y9) := by
      intro y9 h10
      unfold drop7
      beta_reduce
      exact Keeps.to_hs h10 (hM.tr rfl)
    clear_value drop7
    have hr8 : Keeps S M s r8.1 := by
      unfold r8
      refine State.sendFrame_keeps ?_ (hS.tr rfl) (hM.tr rfl)
      refine hdrop7 _ ?_
      exact h
    clear_value r8
    refine Keeps.ite ?_ ?_
    · refine State.txDone_keeps ?_ (hS.tr rfl) (hM.tr rfl)
      refine hdrop7 _ ?_
      exact h
    · refine Keeps.ite ?_ ?_
      · refine State.txDone_keeps ?_ (hS.tr rfl) (hM.tr rfl)
        refine hdrop7 _ ?_
        exact h
      · refine Keeps.ite ?_ ?_
        · exact h
        · exact State.txDone_keeps hr8 (hS.tr rfl) (hM.tr rfl)

theorem State.countRx_keeps {x1 x2} (h : Keeps S M s t) (hS : Sub 0x80000000000000000000000000000000000000000000000000000000000000000000000000000000000000000000000000000000000000000000000000000000000000 S) :
    Keeps S M s (State.countRx t x1 x2) := by
  unfold State.countRx
  extract_lets s1
  have hs1 : Keeps S M s s1 := State.pcount_keeps h (hS.tr rfl)
  clear_value s1
  split
  · rename_i a2 a3 a4
    exact State.pcount_keeps hs1 (hS.tr rfl)
  · rename_i a5 a6
    refine Keeps.when hs1 fun u7 h8 => ?_
    exact State.pcount_keeps h8 (hS.tr rfl)

theorem State.rxLength_keeps {x1 x2} (h : Keeps S M s t) (hS : Sub 0x80000000000000000000000000000000000000000000000000000000000000000000000000000000000000000000000000000000000000000000000000000000000000 S) :
    Keeps S M s (State.rxLength t x1 x2).1 := by
  unfold State.rxLength
  split
  · rename_i a1
    dsimp only
    exact State.pcount_keeps h (hS.tr rfl)
  · rename_i a2
    split
    · rename_i a3
      dsimp only
      exact State.pcount_keeps h (hS.tr rfl)
    · rename_i a4
      dsimp only
      exact h

theorem State.cueLaunch_keeps {x1 x2 x3} (h : Keeps S M s t) (hS : Sub 0x8017d100000100000000000000440000000000000022000000000000000000000000000000080000000000000000080000000600000000000000000000000000000000000000000000000000000000000000000000000000000000000000000000000000000000000 S) (hM : Sub 0x304026 M) :
    Keeps S M s (State.cueLaunch t x1 x2 x3) := by
  unfold State.cueLaunch
  split
  · rename_i a1 a2
    exact h
  · rename_i a3 a4 a5
    extract_lets t6 v7 s8 deg9 late10 coarse11 dropLate12 s13 r14 c15 c16 u17 s18
    have hs8 : Keeps S M s s8 := Keeps.to_hs h (hM.tr rfl)
    clear_value s8
    have hs13 : Keeps S M s s13 := by
      unfold s13
      refine Keeps.when hs8 fun u19 h20 => ?_
      exact State.faultOnce_keeps h20 (hS.tr rfl) (hM.tr rfl)
    clear_value s13
    have hr14 : Keeps S M s r14.1 := by
      unfold r14
      exact State.sendFrame_keeps hs13 (hS.tr rfl) (hM.tr rfl)
    clear_value r14
    have hu17 : Keeps S M s u17 := by
      unfold u17
      refine Keeps.ite ?_ ?_
      · exact hr14
      · refine Keeps.when ?_ fun u21 h22 => ?_
        · refine Keeps.when ?_ fun u23 h24 => ?_
          · exact State.pcount_keeps hr14 (hS.tr rfl)
          · exact State.pcount_keeps h24 (hS.tr rfl)
        · exact State.pcount_keeps h22 (hS.tr rfl)
    clear_value u17
    have hs18 : Keeps S M s s18 := by
      unfold s18
      refine Keeps.ite ?_ ?_
      · exact State.txDone_keeps hs8 (hS.tr rfl) (hM.tr rfl)
      · refine Keeps.ite ?_ ?_
        · refine State.txDone_keeps ?_ (hS.tr rfl) (hM.tr rfl)
          exact State.pcount_keeps hs8 (hS.tr rfl)
        · refine Keeps.ite ?_ ?_
          · refine State.txDone_keeps ?_ (hS.tr rfl) (hM.tr rfl)
            exact State.pcount_keeps hs13 (hS.tr rfl)
          · exact State.txDone_keeps hu17 (hS.tr rfl) (hM.tr rfl)
    clear_value s18
    exact State.drainStalled_keeps hs18 (hS.tr rfl) (hM.tr rfl)

theorem State.toHost_keeps {x1 x2 x3 x4} (h : Keeps S M s t) (hS : Sub 0x20000000000000000000000000000000080000000000000000000000000000000000000000000000000000000000000000000000000000000000000000000000000000000000000000000000000000000000000 S) (hM : Sub 0x104000 M) :
    Keeps S M s (State.toHost t x1 x2 x3 x4) := by
  unfold State.toHost
  exact State.deliver_keeps_ h (hS.tr rfl) (hM.tr rfl)

theorem State.frameRx_keeps {x1 x2 x3} (h : Keeps S M s t) (hS : Sub 0x20000000000000000000000000000000080000000000000000000000000000000000000000000000000000000000000000000000000000000000000000000000000000000000000000000000000000000000000 S) (hM : Sub 0x114000 M) :
    Keeps S M s (State.frameRx t x1 x2 x3) := by
  unfold State.frameRx
  refine Keeps.ite ?_ ?_
  · exact h
  · extract_lets l1 t2 s3 v4
    have hl1 : Keeps S M s l1.1 := by
      unfold l1
      exact State.rxLength_keeps h (hS.tr rfl)
    clear_value l1
    have hs3 : Keeps S M s s3 := by
      unfold s3
      refine State.noteStamp_keeps ?_ (hS.tr rfl)
      exact State.countRx_keeps h (hS.tr rfl)
    clear_value s3
    refine Keeps.ite ?_ ?_
    · exact hl1
    · refine Keeps.ite ?_ ?_
      · exact State.pcount_keeps h (hS.tr rfl)
      · split
        · rename_i a5 a6 a7 a8
          exact Keeps.to_sv hs3 (hM.tr rfl)
        · rename_i a9 a10
          exact State.toHost_keeps hs3 (hS.tr rfl) (hM.tr rfl)

theorem State.laneFallback_keeps {x1} (h : Keeps S M s t) (hS : Sub 0x8017d100000100000000000000440000000000000020000000000000000000000000000000080000000010000000080000000600000000000000000000000000000000000000000000000000000000000000000000000000000000000000000000000000000000000 S) (hM : Sub 0x304026 M) :
    Keeps S M s (State.laneFallback t x1) := by
  unfold State.laneFallback
  refine Keeps.ite ?_ ?_
  · refine State.fault_keeps ?_ (hS.tr rfl) (hM.tr rfl)
    refine State.pcount_keeps ?_ (hS.tr rfl)
    exact State.wr_keeps h (hS.bit rfl)
  · exact h

theorem State.setServo_keeps {x1 x2} (h : Keeps S M s t) (hM : Sub 0x20000 M) :
    Keeps S M s (State.setServo t x1 x2) := by
  unfold State.setServo
  exact Keeps.to_pk h (hM.tr rfl)

theorem State.esmcChanged_keeps {x1} (h : Keeps S M s t) (hS : Sub 0x80000000000000000000000000000000000000000000000000000000000000000000000000000000000000000000000000000000000000000000000000000000000000 S) (hM : Sub 0x300002 M) :
    Keeps S M s (State.esmcChanged t x1) := by
  unfold State.esmcChanged
  refine State.esmcSend_keeps ?_ (hS.tr rfl) (hM.tr rfl)
  exact State.info_keeps h (hM.tr rfl)

theorem State.bridgeForward_keeps {x1 x2 x3 x4} (h : Keeps S M s t) (hS : Sub 0x8017d100000100000000000000440000000000000020000000000000000000000000000020080000000000000000080000000600000000000000000000000000000000000000000000000000000000000000000000000000000000000000000000000000000000000 S) (hM : Sub 0x314026 M) :
    Keeps S M s (State.bridgeForward t x1 x2 x3 x4) := by
  unfold State.bridgeForward
  extract_lets p1 q2 l3 t4 s5 v6 s7 s8 r9 ev10
  have hl3 : Keeps S M s l3.1 := by
    unfold l3
    exact State.rxLength_keeps h (hS.tr rfl)
  clear_value l3
  have hs5 : Keeps S M s s5 := by
    unfold s5
    refine State.noteStamp_keeps ?_ (hS.tr rfl)
    refine Keeps.when ?_ fun u11 h12 => ?_
    · exact State.countRx_keeps h (hS.tr rfl)
    · exact State.pcount_keeps h12 (hS.tr rfl)
  clear_value s5
  have hs7 : Keeps S M s s7 := by
    unfold s7
    split
    · rename_i a13 a14 a15
      exact Keeps.to_sv hs5 (hM.tr rfl)
    · rename_i a16 a17
      exact hs5
  clear_value s7
  have hs8 : Keeps S M s s8 := by
    unfold s8
    refine Keeps.when hs7 fun u18 h19 => ?_
    exact State.deliver_keeps_ h19 (hS.tr rfl) (hM.tr rfl)
  clear_value s8
  have hr9 : Keeps S M s r9.1 := by
    unfold r9
    exact State.bridgeCorrect_keeps hs8 (hS.tr rfl) (hM.tr rfl)
  clear_value r9
  refine Keeps.ite ?_ ?_
  · exact h
  · refine Keeps.ite ?_ ?_
    · exact State.bcount_keeps h (hS.tr rfl)
    · refine Keeps.ite ?_ ?_
      · exact hl3
      · refine State.emitOut_keeps ?_ (hM.tr rfl)
        refine Keeps.when ?_ fun u20 h21 => ?_
        · refine State.pcount_keeps ?_ (hS.tr rfl)
          exact State.bcount_keeps hr9 (hS.tr rfl)
        · exact State.pcount_keeps h21 (hS.tr rfl)

theorem State.restartEq_keeps {x1} (h : Keeps S M s t) (hS : Sub 0x80000000000000000000000000000000000000000000000000000000000000000000000000000000000000000000000000000000000000000000000000000000000000 S) :
    Keeps S M s (State.restartEq t x1) := by
  unfold State.restartEq
  refine Keeps.ite ?_ ?_
  · exact State.pcount_keeps h (hS.tr rfl)
  · exact h

end Sys2Proof.Machine
end

