-- ==== Sys2Proof/Laws/KeepsService.lean ====
section
/-! SUPPORT. What each operation of Machine/Service.lean may change (`Keeps`): the bits of the first mask are numbers of register
fields, those of the second the numbers `P.…` of the parts of the state. -/

set_option Elab.async false

namespace Sys2Proof.Machine

variable {S M : Nat} {s t u v : State}

theorem State.scount_keeps {x1} (h : Keeps S M s t) (hS : Sub 0x1000000000000000000000000000000000000000000000000000000000000000000000000000000000000000000000000000000000000000000000000000000000000000000000000000 S) :
    Keeps S M s (State.scount t x1) := by
  unfold State.scount
  exact State.bumpWrap_keeps h (hS.bit rfl)

theorem State.svcEpoch_keeps (h : Keeps S M s t) (hS : Sub 0xf800000000000000000000000000000000000000000000000000000000000000000000000000000000000000000000000000000000000000000000000000000000000000000 S) (hM : Sub 0x90000 M) :
    Keeps S M s (State.svcEpoch t) := by
  unfold State.svcEpoch
  extract_lets st1 row2 cls3 changed4 newClass5 s6 s7
  have hs6 : Keeps S M s s6 := State.wrAll_keeps h hS ⟨rfl, rfl, rfl, rfl, rfl, trivial⟩
  clear_value s6
  have hs7 : Keeps S M s s7 := by
    unfold s7
    refine Keeps.when hs6 fun u8 h9 => ?_
    exact Keeps.to_sv h9 (hM.tr rfl)
  clear_value s7
  refine Keeps.when hs7 fun u10 h11 => ?_
  exact State.later_keeps h11 (hM.tr rfl)

theorem State.awaitGeneral_keeps {x1} (h : Keeps S M s t) (hM : Sub 0x10000 M) :
    Keeps S M s (State.awaitGeneral t x1) := by
  unfold State.awaitGeneral
  exact Keeps.to_sv h (hM.tr rfl)

theorem State.syncSend_keeps {x1 x2 x3 x4 x5} (h : Keeps S M s t) (hS : Sub 0x1000000000000080000000000000000000000000000000000000000000000000000000000000000000000000000000000000000000000000000000000000000000000000000000000000 S) (hM : Sub 0x310000 M) :
    Keeps S M s (State.syncSend t x1 x2 x3 x4 x5) := by
  unfold State.syncSend
  extract_lets one1 t2 v3 m4 r5
  have hr5 : Keeps S M s r5.1 := by
    unfold r5
    refine State.sendFrame_keeps ?_ (hS.tr rfl) (hM.tr rfl)
    refine State.scount_keeps ?_ (hS.tr rfl)
    exact State.drawn_keeps h (hM.tr rfl)
  clear_value r5
  refine Keeps.ite ?_ ?_
  · exact hr5
  · exact State.awaitGeneral_keeps hr5 (hM.tr rfl)

theorem State.setSvcPort_keeps {x1 x2} (h : Keeps S M s t) (hM : Sub 0x10000 M) :
    Keeps S M s (State.setSvcPort t x1 x2) := by
  unfold State.setSvcPort
  exact Keeps.to_sv h (hM.tr rfl)

theorem State.announceSend_keeps {x1 x2 x3 x4} (h : Keeps S M s t) (hS : Sub 0x1000000000000080000000000000000000000000000000000000000000000000000000000000000000000000000000000000000000000000000000000000000000000000000000000000 S) (hM : Sub 0x300000 M) :
    Keeps S M s (State.announceSend t x1 x2 x3 x4) := by
  unfold State.announceSend
  extract_lets v1 m2
  refine State.sendFrame_keeps ?_ (hS.tr rfl) (hM.tr rfl)
  refine State.scount_keeps ?_ (hS.tr rfl)
  exact State.drawn_keeps h (hM.tr rfl)

theorem State.multicastEpoch_keeps {x1 x2 x3} (h : Keeps S M s t) (hS : Sub 0x1000000000000080000000000000000000000000000000000000000000000000000000000000000000000000000000000000000000000000000000000000000000000000000000000000 S) (hM : Sub 0x310000 M) :
    Keeps S M s (State.multicastEpoch t x1 x2 x3) := by
  unfold State.multicastEpoch
  extract_lets ls1 la2 s3
  have hs3 : Keeps S M s s3 := by
    unfold s3
    refine Keeps.when h fun u4 h5 => ?_
    extract_lets x6
    refine State.syncSend_keeps ?_ (hS.tr rfl) (hM.tr rfl)
    exact State.setSvcPort_keeps h5 (hM.tr rfl)
  clear_value s3
  refine Keeps.when hs3 fun u7 h8 => ?_
  extract_lets x9
  refine State.announceSend_keeps ?_ (hS.tr rfl) (hM.tr rfl)
  exact State.setSvcPort_keeps h8 (hM.tr rfl)

theorem State.ntpLimited_keeps {x1 x2 x3 x4 x5} (h : Keeps S M s t) (hS : Sub 0x8017d100000100000000000000440000000000000020000000000000000001000000000000080000000000000000080000000600000000000000000000000000000000000000000000000000000000000000000000000000000000000000000000000000000000000 S) (hM : Sub 0x314026 M) :
    Keeps S M s (State.ntpLimited t x1 x2 x3 x4 x5) := by
  unfold State.ntpLimited
  extract_lets s1 sec2 v3 s4 v5 n'6
  have hs1 : Keeps S M s s1 := by
    unfold s1
    refine State.faultOnce_keeps ?_ (hS.tr rfl) (hM.tr rfl)
    exact State.scount_keeps h (hS.tr rfl)
  clear_value s1
  have hs4 : Keeps S M s s4 := Keeps.to_sv hs1 (hM.tr rfl)
  clear_value s4
  refine Keeps.ite ?_ ?_
  · refine State.sendFrame_keeps ?_ (hS.tr rfl) (hM.tr rfl)
    exact State.drawn_keeps hs4 (hM.tr rfl)
  · exact hs1

theorem State.tblResult_keeps {x1} (h : Keeps S M s t) (hS : Sub 0x100000000000000000000000000000000000000000000000000000000000000000000000000000000000000000000000000000000000000000000000000000000000000000000000 S) :
    Keeps S M s (State.tblResult t x1) := by
  unfold State.tblResult
  exact State.wr_keeps h (hS.bit rfl)

theorem State.tblRun_keeps {x1} (h : Keeps S M s t) (hS : Sub 0x100000000000000000000000000000000000000000000000000000000000000000000000000000000000000000000000000000000000000000000000000000000000000000000000 S) (f1 : ∀ y0, Keeps S M s y0 → Keeps S M s (x1 y0)) :
    Keeps S M s (State.tblRun t x1) := by
  unfold State.tblRun
  refine Keeps.ite ?_ ?_
  · exact State.tblResult_keeps h (hS.tr rfl)
  · refine f1 _ ?_
    exact h

theorem State.tblFind_keeps (h : Keeps S M s t) (hS : Sub 0x140000000000000000000000000000000000000000000000000000000000000000000000000000000000000000000000000000000000000000000000000000000000000000000000 S) :
    Keeps S M s (State.tblFind t) := by
  unfold State.tblFind
  refine State.tblRun_keeps h (hS.tr rfl) (fun y1 h2 => ?_)
  split
  · rename_i a3 a4 a5
    refine State.tblResult_keeps ?_ (hS.tr rfl)
    exact State.wr_keeps h2 (hS.bit rfl)
  · rename_i a6 a7
    exact State.tblResult_keeps h2 (hS.tr rfl)

theorem State.reserveTakes_keeps {x1} (h : Keeps S M s t) (hM : Sub 0x10000 M) :
    Keeps S M s (State.reserveTakes t x1).1 := by
  unfold State.reserveTakes
  extract_lets x1 sec2 n3
  split
  · rename_i a4
    dsimp only
    exact State.setSvcPort_keeps h (hM.tr rfl)
  · rename_i a5
    dsimp only
    exact h

theorem State.setClient_keeps {x1 x2 x3} (h : Keeps S M s t) (hM : Sub 0x10020 M) :
    Keeps S M s (State.setClient t x1 x2 x3) := by
  unfold State.setClient
  extract_lets v1 s2 v3
  have hs2 : Keeps S M s s2 := Keeps.to_sv h (hM.tr rfl)
  clear_value s2
  refine Keeps.ite ?_ ?_
  · exact Keeps.to_pr hs2 (hM.tr rfl)
  · exact hs2

theorem Nego.cancel_keeps {n : Nego} {x1 x2} (h : Keeps S M s n.s) (hS : Sub 0x1000000000000000000000000000000000000000000000000000000000000000000000000000000000000000000000000000000000000000000000000000000000000000000000000000 S) (hM : Sub 0x10020 M) : Keeps S M s (Nego.cancel n x1 x2).s := by
  unfold Nego.cancel
  exact Keeps.when (State.scount_keeps h (hS.tr rfl)) fun u hu => State.setClient_keeps hu (hM.tr rfl)

theorem State.ntpBudget_keeps {x1} (h : Keeps S M s t) (hM : Sub 0x10000 M) :
    Keeps S M s (State.ntpBudget t x1).1 := by
  unfold State.ntpBudget
  extract_lets sec1 x2 a3 b4 s5 v6
  have hs5 : Keeps S M s s5 := State.setSvcPort_keeps h (hM.tr rfl)
  clear_value s5
  split
  · rename_i a7
    split
    · rename_i a8
      dsimp only
      exact Keeps.to_sv hs5 (hM.tr rfl)
    · rename_i a9
      dsimp only
      exact h
  · rename_i a10
    split
    · rename_i a11
      dsimp only
      exact Keeps.to_sv hs5 (hM.tr rfl)
    · rename_i a12
      dsimp only
      exact h

theorem State.ntpRx_keeps {x1 x2} (h : Keeps S M s t) (hS : Sub 0x8017d100000100000000000000440000000000000020000000000000000001000000000000080000000000000000080000000600000000000000000000000000000000000000000000000000000000000000000000000000000000000000000000000000000000000 S) (hM : Sub 0x314026 M) :
    Keeps S M s (State.ntpRx t x1 x2) := by
  unfold State.ntpRx
  split
  · rename_i a1 a2
    exact h
  · rename_i a3 a4 a5 a6
    split
    · rename_i a7 a8 a9
      refine Keeps.ite ?_ ?_
      · have k10 := State.takeRx_keeps h (hM.tr rfl) a6
        exact k10
      · refine Keeps.ite ?_ ?_
        · refine State.scount_keeps ?_ (hS.tr rfl)
          have k11 := State.takeRx_keeps h (hM.tr rfl) a6
          exact k11
        · refine Keeps.ite ?_ ?_
          · refine State.scount_keeps ?_ (hS.tr rfl)
            have k12 := State.takeRx_keeps h (hM.tr rfl) a6
            exact k12
          · extract_lets t13 k14 b15 v16 v17 s18 g19
            have hv16 : Keeps S M s v16 := by
              unfold v16
              refine State.drawn_keeps ?_ (hM.tr rfl)
              have k20 := State.takeRx_keeps h (hM.tr rfl) a6
              exact k20
            clear_value v16
            have hs18 : Keeps S M s s18 := Keeps.to_sv hv16 (hM.tr rfl)
            clear_value s18
            have hg19 : Keeps S M s g19.1 := by
              unfold g19
              exact State.ntpBudget_keeps hs18 (hM.tr rfl)
            clear_value g19
            refine Keeps.ite ?_ ?_
            · exact State.ntpLimited_keeps hs18 (hS.tr rfl) (hM.tr rfl)
            · refine Keeps.ite ?_ ?_
              · exact State.scount_keeps hg19 (hS.tr rfl)
              · refine State.sendFrame_keeps ?_ (hS.tr rfl) (hM.tr rfl)
                refine State.scount_keeps ?_ (hS.tr rfl)
                exact State.drawn_keeps hg19 (hM.tr rfl)
    · rename_i a21 a22
      have k23 := State.takeRx_keeps h (hM.tr rfl) a6
      exact k23

theorem Nego.deny_keeps {n : Nego} {x1 x2} (h : Keeps S M s n.s) (hS : Sub 0x1000000000000000000000000000000000000000000000000000000000000000000000000000000000000000000000000000000000000000000000000000000000000000000000000000 S)  : Keeps S M s (Nego.deny n x1 x2).s := by
  unfold Nego.deny
  exact State.scount_keeps h (hS.tr rfl)

theorem Nego.request_keeps {n : Nego} {x1 x2 x3 x4 x5} (h : Keeps S M s n.s) (hS : Sub 0x8017d100000100000000000000440000000000000020000000000000000001000000000000000000000000000000080000000600000000000000000000000000000000000000000000000000000000000000000000000000000000000000000000000000000000000 S) (hM : Sub 0x314026 M) :
    Keeps S M s (Nego.request n x1 x2 x3 x4 x5).s := by
  unfold Nego.request
  split
  · exact Nego.deny_keeps h (hS.tr rfl)
  · split
    · exact Nego.deny_keeps h (hS.tr rfl)
    · extract_lets u rate d renewal w full fresh w1 w2
      split
      · refine Nego.deny_keeps ?_ (hS.tr rfl)
        exact State.faultOnce_keeps h (hS.tr rfl) (hM.tr rfl)
      · dsimp only
        exact State.setClient_keeps (State.scount_keeps h (hS.tr rfl)) (hM.tr rfl)

theorem foldlNego_keeps {β : Type} {f : Nego → β → Nego} {l : List β} {n : Nego} (h : Keeps S M s n.s)
    (hf : ∀ q x, Keeps S M s q.s → Keeps S M s (f q x).s) : Keeps S M s (l.foldl f n).s := by
  induction l generalizing n with
  | nil => exact h
  | cons x r ih => exact ih (hf _ _ h)

theorem State.signal_keeps {x1 x2} (h : Keeps S M s t) (hS : Sub 0x8017d100000100000000000000440000000000000020000000000000000001000000000000080000000000000000080000000600000000000000000000000000000000000000000000000000000000000000000000000000000000000000000000000000000000000 S) (hM : Sub 0x314026 M) :
    Keeps S M s (State.signal t x1 x2) := by
  unfold State.signal
  extract_lets p known room n i s1 s2 x len m'
  clear_value known room
  have hn : Keeps S M s n.s := by
    unfold n
    split
    · refine foldlNego_keeps h fun q y hq => ?_
      split
      · exact Nego.request_keeps hq (hS.tr rfl) (hM.tr rfl)
      · exact Nego.cancel_keeps hq (hS.tr rfl) (hM.tr rfl)
      · exact hq
    · refine foldlNego_keeps h fun q y hq => ?_
      split
      · exact Nego.deny_keeps (State.faultOnce_keeps hq (hS.tr rfl) (hM.tr rfl)) (hS.tr rfl)
      · exact State.scount_keeps hq (hS.tr rfl)
      · exact hq
  have h1 : Keeps S M s s1 := Keeps.ite (State.setClient_keeps hn (hM.tr rfl)) hn
  have h2 : Keeps S M s s2 := Keeps.when h1 fun u hu => State.info_keeps hu (hM.tr rfl)
  refine Keeps.ite h2 ?_
  exact State.sendFrame_keeps (State.setSvcPort_keeps h2 (hM.tr rfl)) (hS.tr rfl) (hM.tr rfl)

theorem State.handleSignals_keeps (h : Keeps S M s t) (hS : Sub 0x8017d100000100000000000000440000000000000020000000000000000001000000000000080000000000000000080000000600000000000000000000000000000000000000000000000000000000000000000000000000000000000000000000000000000000000 S) (hM : Sub 0x314026 M) :
    Keeps S M s (State.handleSignals t) := by
  unfold State.handleSignals
  extract_lets due1 v2 s3 st4
  have hs3 : Keeps S M s s3 := Keeps.to_sv h (hM.tr rfl)
  clear_value s3
  refine Keeps.foldl hs3 fun u6 x5 h7 => ?_
  split
  · rename_i a8 a9 a10
    refine Keeps.ite ?_ ?_
    · exact State.signal_keeps h7 (hS.tr rfl) (hM.tr rfl)
    · exact State.scount_keeps h7 (hS.tr rfl)
  · rename_i a11 a12
    exact h7

theorem State.admits_keeps {x1 x2} (h : Keeps S M s t) (hM : Sub 0x210020 M) :
    Keeps S M s (State.admits t x1 x2).1 := by
  unfold State.admits
  split
  · rename_i a1 a2 a3
    extract_lets gain4 b5 v6 v7 s8 w9 w'10
    have hv6 : Keeps S M s v6 := State.drawn_keeps h (hM.tr rfl)
    clear_value v6
    have hs8 : Keeps S M s s8 := Keeps.to_sv hv6 (hM.tr rfl)
    clear_value s8
    dsimp only
    refine Keeps.ite ?_ ?_
    · exact State.setClient_keeps hs8 (hM.tr rfl)
    · exact hs8
  · rename_i a11 a12
    split
    · rename_i a13
      exact State.reserveTakes_keeps h (hM.tr rfl)
    · rename_i a14
      dsimp only
      exact h

theorem State.pdelayReqRx_keeps {x1 x2} (h : Keeps S M s t) (hS : Sub 0x1000000000000080000000000000000000000000000000000000000000000000000000000000000000000000000000000000000000000000000000000000000000000000000000000000 S) (hM : Sub 0x310020 M) :
    Keeps S M s (State.pdelayReqRx t x1 x2) := by
  unfold State.pdelayReqRx
  split
  · rename_i a1 a2
    exact h
  · rename_i a3 a4 a5 a6
    split
    · rename_i a7 a8 a9
      refine Keeps.ite ?_ ?_
      · refine State.scount_keeps ?_ (hS.tr rfl)
        have k10 := State.takeRx_keeps h (hM.tr rfl) a6
        exact k10
      · refine Keeps.ite ?_ ?_
        · refine State.scount_keeps ?_ (hS.tr rfl)
          have k11 := State.takeRx_keeps h (hM.tr rfl) a6
          exact k11
        · extract_lets a12 one13 t14 t415 v16 m'17 m'18 q19 v20
          have ha12 : Keeps S M s a12.1 := by
            unfold a12
            refine State.admits_keeps ?_ (hM.tr rfl)
            have k21 := State.takeRx_keeps h (hM.tr rfl) a6
            exact k21
          clear_value a12
          have hq19 : Keeps S M s q19.1 := by
            unfold q19
            refine State.sendFrame_keeps ?_ (hS.tr rfl) (hM.tr rfl)
            exact State.scount_keeps ha12 (hS.tr rfl)
          clear_value q19
          refine Keeps.ite ?_ ?_
          · exact State.scount_keeps ha12 (hS.tr rfl)
          · refine Keeps.ite ?_ ?_
            · exact hq19
            · exact State.awaitGeneral_keeps hq19 (hM.tr rfl)
    · rename_i a22 a23
      have k24 := State.takeRx_keeps h (hM.tr rfl) a6
      exact k24

theorem State.clientEpoch_keeps {x1 x2 x3} (h : Keeps S M s t) (hS : Sub 0x1000000000000080000000000000000000000000000000000000000000000000000000000000000000000000000000000000000000000000000000000000000000000000000000000000 S) (hM : Sub 0x310020 M) :
    Keeps S M s (State.clientEpoch t x1 x2 x3) := by
  unfold State.clientEpoch
  extract_lets w1 p2 ls3 la4 q5 s6 w7 q8
  have hs6 : Keeps S M s s6 := by
    unfold s6
    refine Keeps.when h fun u9 h10 => ?_
    refine State.syncSend_keeps ?_ (hS.tr rfl) (hM.tr rfl)
    exact State.setClient_keeps h10 (hM.tr rfl)
  clear_value s6
  refine Keeps.when hs6 fun u11 h12 => ?_
  refine State.announceSend_keeps ?_ (hS.tr rfl) (hM.tr rfl)
  exact State.setClient_keeps h12 (hM.tr rfl)

theorem State.serverSends_keeps (h : Keeps S M s t) (hS : Sub 0x1000000000000080000000000000000000000000000000000000000000000000000000000000000000000000000000000000000000000000000000000000000000000000000000000000 S) (hM : Sub 0x310020 M) :
    Keeps S M s (State.serverSends t) := by
  unfold State.serverSends
  extract_lets st1 e2
  refine Keeps.ite ?_ ?_
  · exact h
  · refine Keeps.forAll h fun i3 u4 h5 => ?_
    refine Keeps.ite ?_ ?_
    · exact h5
    · extract_lets t6
      have ht6 : Keeps S M s t6 := by
        unfold t6
        refine Keeps.when h5 fun u7 h8 => ?_
        exact State.multicastEpoch_keeps h8 (hS.tr rfl) (hM.tr rfl)
      clear_value t6
      refine Keeps.ite ?_ ?_
      · refine Keeps.foldl ht6 fun u10 x9 h11 => ?_
        exact State.clientEpoch_keeps h11 (hS.tr rfl) (hM.tr rfl)
      · exact ht6

theorem State.managementRx_keeps {x1} (h : Keeps S M s t) (hS : Sub 0x1000000000000080000000000000000000000000000000000000000000000000000000000000000000000000000000000000000000000000000000000000000000000000000000000000 S) (hM : Sub 0x310000 M) :
    Keeps S M s (State.managementRx t x1) := by
  unfold State.managementRx
  split
  · rename_i a1 a2
    exact h
  · rename_i a3 a4 a5 a6
    split
    · rename_i a7 a8 a9
      extract_lets st10 target11 id12 ok13 t14 v15 m'16
      refine Keeps.ite ?_ ?_
      · refine State.scount_keeps ?_ (hS.tr rfl)
        have k17 := State.takeRx_keeps h (hM.tr rfl) a6
        exact k17
      · refine Keeps.ite ?_ ?_
        · have k18 := State.takeRx_keeps h (hM.tr rfl) a6
          exact k18
        · refine State.sendFrame_keeps ?_ (hS.tr rfl) (hM.tr rfl)
          refine State.scount_keeps ?_ (hS.tr rfl)
          refine State.drawn_keeps ?_ (hM.tr rfl)
          have k19 := State.takeRx_keeps h (hM.tr rfl) a6
          exact k19
    · rename_i a20 a21
      have k22 := State.takeRx_keeps h (hM.tr rfl) a6
      exact k22

theorem State.clientWindow_keeps (h : Keeps S M s t) (hS : Sub 0x80000000000000000000000000000000000000000000000000000000000000000000000000000000000000000000000000000000000000000000000000000000000000000000000 S) :
    Keeps S M s (State.clientWindow t) := by
  unfold State.clientWindow
  exact State.bump_keeps h (hS.bit rfl)

theorem State.freeEntries_keeps (h : Keeps S M s t) (hM : Sub 0x10022 M) :
    Keeps S M s (State.freeEntries t) := by
  unfold State.freeEntries
  refine Keeps.foldl h fun u2 x1 h3 => ?_
  refine State.info_keeps ?_ (hM.tr rfl)
  exact State.setClient_keeps h3 (hM.tr rfl)

theorem State.signalingRx_keeps {x1} (h : Keeps S M s t) (hM : Sub 0x10000 M) :
    Keeps S M s (State.signalingRx t x1) := by
  unfold State.signalingRx
  split
  · rename_i a1 a2
    exact h
  · rename_i a3 a4 a5 a6
    refine Keeps.to_sv ?_ (hM.tr rfl)
    have k7 := State.takeRx_keeps h (hM.tr rfl) a6
    exact k7

theorem State.delayReqRx_keeps {x1} (h : Keeps S M s t) (hS : Sub 0x1000000000000080000000000000000000000000000000000000000000000000000000000000000000000000000000000000000000000000000000000000000000000000000000000000 S) (hM : Sub 0x310020 M) :
    Keeps S M s (State.delayReqRx t x1) := by
  unfold State.delayReqRx
  split
  · rename_i a1 a2
    exact h
  · rename_i a3 a4 a5 a6
    split
    · rename_i a7 a8 a9
      refine Keeps.ite ?_ ?_
      · refine State.scount_keeps ?_ (hS.tr rfl)
        have k10 := State.takeRx_keeps h (hM.tr rfl) a6
        exact k10
      · refine Keeps.ite ?_ ?_
        · refine State.scount_keeps ?_ (hS.tr rfl)
          have k11 := State.takeRx_keeps h (hM.tr rfl) a6
          exact k11
        · extract_lets a12
          have ha12 : Keeps S M s a12.1 := by
            unfold a12
            refine State.admits_keeps ?_ (hM.tr rfl)
            have k13 := State.takeRx_keeps h (hM.tr rfl) a6
            exact k13
          clear_value a12
          refine Keeps.ite ?_ ?_
          · exact State.scount_keeps ha12 (hS.tr rfl)
          · refine State.sendFrame_keeps ?_ (hS.tr rfl) (hM.tr rfl)
            exact State.scount_keeps ha12 (hS.tr rfl)
    · rename_i a14 a15
      have k16 := State.takeRx_keeps h (hM.tr rfl) a6
      exact k16

theorem State.expireGrants_keeps (h : Keeps S M s t) (hM : Sub 0x10020 M) :
    Keeps S M s (State.expireGrants t) := by
  unfold State.expireGrants
  extract_lets sec1 gone2 v3 s4
  have hs4 : Keeps S M s s4 := Keeps.to_sv h (hM.tr rfl)
  clear_value s4
  refine Keeps.foldl hs4 fun u6 x5 h7 => ?_
  refine Keeps.ite ?_ ?_
  · exact h7
  · exact State.setClient_keeps h7 (hM.tr rfl)

theorem State.serverEpoch_keeps (h : Keeps S M s t) (hS : Sub 0x8017d100000100000000000000440000000000000020000000000000000001000000000000080000000000000000080000000600000000000000000000000000000000000000000000000000000000000000000000000000000000000000000000000000000000000 S) (hM : Sub 0x314026 M) :
    Keeps S M s (State.serverEpoch t) := by
  unfold State.serverEpoch
  extract_lets v1 s2
  have hs2 : Keeps S M s s2 := Keeps.to_sv h (hM.tr rfl)
  clear_value s2
  refine State.serverSends_keeps ?_ (hS.tr rfl) (hM.tr rfl)
  refine State.freeEntries_keeps ?_ (hM.tr rfl)
  refine State.handleSignals_keeps ?_ (hS.tr rfl) (hM.tr rfl)
  exact State.expireGrants_keeps hs2 (hM.tr rfl)

theorem State.tblDelete_keeps (h : Keeps S M s t) (hS : Sub 0x100000000000000000000000000000000000000000000000000000000000000000000000000000000000000000000000000000000000000000000000000000000000000000000000 S) (hM : Sub 0x10022 M) :
    Keeps S M s (State.tblDelete t) := by
  unfold State.tblDelete
  refine State.tblRun_keeps h (hS.tr rfl) (fun y1 h2 => ?_)
  extract_lets i3 used4
  refine State.tblResult_keeps ?_ (hS.tr rfl)
  refine Keeps.when ?_ fun u5 h6 => ?_
  · exact State.setClient_keeps h2 (hM.tr rfl)
  · exact State.info_keeps h6 (hM.tr rfl)

theorem State.followUpSend_keeps {x1} (h : Keeps S M s t) (hS : Sub 0x80000000000000000000000000000000000000000000000000000000000000000000000000000000000000000000000000000000000000000000000000000000000000 S) (hM : Sub 0x310000 M) :
    Keeps S M s (State.followUpSend t x1) := by
  unfold State.followUpSend
  split
  · rename_i a1 a2
    exact h
  · rename_i a3 a4 a5
    extract_lets v6 s7 v8
    have hs7 : Keeps S M s s7 := Keeps.to_sv h (hM.tr rfl)
    clear_value s7
    split
    · rename_i a9 a10 a11
      refine Keeps.ite ?_ ?_
      · exact hs7
      · extract_lets m'12
        exact State.sendFrame_keeps hs7 (hS.tr rfl) (hM.tr rfl)
    · rename_i a13 a14
      exact hs7

theorem State.tblRead_keeps (h : Keeps S M s t) (hS : Sub 0x500000000000000000000000000000000000000000000000000000000000000000000000000000000000000000000000000000000000000000000000000000000000000000000000 S) :
    Keeps S M s (State.tblRead t) := by
  unfold State.tblRead
  refine State.tblRun_keeps h (hS.tr rfl) (fun y1 h2 => ?_)
  extract_lets w3
  refine State.tblResult_keeps ?_ (hS.tr rfl)
  refine Keeps.forAll h2 fun i4 u5 h6 => ?_
  exact State.wr_keeps h6 (hS.bit rfl)

theorem State.tblWrite_keeps (h : Keeps S M s t) (hS : Sub 0x100000000000000000000000000000000000000000000000000000000000000000000000000000000000000000000000000000000000000000000000000000000000000000000000 S) (hM : Sub 0x10020 M) :
    Keeps S M s (State.tblWrite t) := by
  unfold State.tblWrite
  refine State.tblRun_keeps h (hS.tr rfl) (fun y1 h2 => ?_)
  extract_lets i3 old4 w5 t6
  have ht6 : Keeps S M s t6 := State.setClient_keeps h2 (hM.tr rfl)
  clear_value t6
  refine Keeps.ite ?_ ?_
  · exact State.tblResult_keeps h2 (hS.tr rfl)
  · refine Keeps.ite ?_ ?_
    · exact State.tblResult_keeps h2 (hS.tr rfl)
    · refine Keeps.ite ?_ ?_
      · exact State.tblResult_keeps h2 (hS.tr rfl)
      · exact State.tblResult_keeps ht6 (hS.tr rfl)

end Sys2Proof.Machine
end

