-- ==== Sys2Proof/Laws/KeepsTimeCtr.lean ====
section
/-! SUPPORT. What each operation of Machine/TimeCtr.lean may change (`Keeps`): the bits of the first mask are numbers of register
fields, those of the second the numbers `P.…` of the parts of the state. -/

set_option Elab.async false

namespace Sys2Proof.Machine

variable {S M : Nat} {s t u v : State}

theorem State.shiftTimes_keeps {x1} (h : Keeps S M s t) (hM : Sub 0x32d34 M) :
    Keeps S M s (State.shiftTimes t x1) := by
  unfold State.shiftTimes
  extract_lets mv1 s2 v3 v4 v5 v6 v7 v8
  have hs2 : Keeps S M s s2 := State.shiftFaultTimers_keeps h (hM.tr rfl)
  clear_value s2
  exact Keeps.to_tm_pr_dp_td_ql_sy_sv_pk hs2 (hM.tr rfl)

theorem State.notePps_keeps {x1 x2} (h : Keeps S M s t) (hM : Sub 0x10 M) :
    Keeps S M s (State.notePps t x1 x2) := by
  unfold State.notePps
  extract_lets x1 sets2 v3
  exact Keeps.to_tm h (hM.tr rfl)

theorem State.loadDplls_keeps (h : Keeps S M s t) (hM : Sub 0x100 M) :
    Keeps S M s (State.loadDplls t) := by
  unfold State.loadDplls
  refine Keeps.forAll h fun i1 u2 h3 => ?_
  exact State.modDpll_keeps h3 (hM.tr rfl)

theorem State.pulse_keeps {x1 x2 x3 x4 x5} (h : Keeps S M s t) (hS : Sub 0x800000000000000000000000000000000000000000000000000000000000000000000000000000000000000000000000000000000000000 S) (hM : Sub 0x100010 M) :
    Keeps S M s (State.pulse t x1 x2 x3 x4 x5) := by
  unfold State.pulse
  extract_lets s1 x2 close3 v4 put5
  have hs1 : Keeps S M s s1 := State.advanceTo_keeps h (hM.tr rfl)
  clear_value s1
  have hput5 : ∀ y6, Keeps S M s (put5 y6) := by
    intro y6
    unfold put5
    beta_reduce
    exact Keeps.to_tm hs1 (hM.tr rfl)
  clear_value put5
  refine Keeps.ite ?_ ?_
  · exact hput5 _
  · refine Keeps.ite ?_ ?_
    · refine Keeps.when ?_ fun u7 h8 => ?_
      · exact hput5 _
      · exact State.bump_keeps h8 (hS.bit rfl)
    · refine State.emitOut_keeps ?_ (hM.tr rfl)
      exact hput5 _

theorem State.ppsPulse_keeps {x1} (h : Keeps S M s t) (hS : Sub 0x800000000000000000000000000000000000000000000000000000000000000000000000000000000000000000000000000000000000000 S) (hM : Sub 0x100010 M) :
    Keeps S M s (State.ppsPulse t x1) := by
  unfold State.ppsPulse
  refine Keeps.ite ?_ ?_
  · exact h
  · refine Keeps.ite ?_ ?_
    · extract_lets at_1
      exact State.pulse_keeps h (hS.tr rfl) (hM.tr rfl)
    · extract_lets set2 at_3
      exact State.pulse_keeps h (hS.tr rfl) (hM.tr rfl)

theorem State.porchAnchor_keeps (h : Keeps S M s t) (hS : Sub 0x7000000000000000000000000000000000000000000000000000000000000000000000000000000000000000000000000000000000000 S) (hM : Sub 0x10 M) :
    Keeps S M s (State.porchAnchor t) := by
  unfold State.porchAnchor
  refine Keeps.ite ?_ ?_
  · exact h
  · extract_lets s1 sec2 v3 s4
    have hs1 : Keeps S M s s1 := State.advanceTo_keeps h (hM.tr rfl)
    clear_value s1
    have hs4 : Keeps S M s s4 := Keeps.to_tm hs1 (hM.tr rfl)
    clear_value s4
    exact State.wrAll_keeps hs4 hS ⟨rfl, rfl, rfl, trivial⟩

theorem State.timeVoteNone_keeps (h : Keeps S M s t) (hS : Sub 0x8017d100000100000000000000440000000000000020000000000000000000000000000000000000000000000000080000000604040000000000000000000000000000000000000000000000000000000000000000000000000000000000000000000000000000000 S) (hM : Sub 0x304036 M) :
    Keeps S M s (State.timeVoteNone t) := by
  unfold State.timeVoteNone
  refine Keeps.ite ?_ ?_
  · exact h
  · extract_lets v1 s2
    have hs2 : Keeps S M s s2 := Keeps.to_tm h (hM.tr rfl)
    clear_value s2
    refine State.fault_keeps ?_ (hS.tr rfl) (hM.tr rfl)
    exact State.wrAll_keeps hs2 hS ⟨rfl, rfl, trivial⟩

theorem State.dpllStepped_keeps {x1} (h : Keeps S M s t) (hS : Sub 0x10000000000000000000000000000040000000000000000000000000000000000000000000000000000000000000000000000000 S) (hM : Sub 0x100 M) :
    Keeps S M s (State.dpllStepped t x1) := by
  unfold State.dpllStepped
  extract_lets d1 p2 r3
  refine State.wr_keeps ?_ (hS.bit rfl)
  refine State.wr_keeps ?_ (hS.bit rfl)
  exact State.setDpll_keeps h (hM.tr rfl)

theorem State.jumpTo_keeps {x1} (h : Keeps S M s t) (hM : Sub 0x10 M) :
    Keeps S M s (State.jumpTo t x1) := by
  unfold State.jumpTo
  extract_lets keep1 v2
  exact Keeps.to_tm h (hM.tr rfl)

theorem State.stepRecord_keeps {x1 x2 x3} (h : Keeps S M s t) (hS : Sub 0x1e01800000000000000000000000000000000000000000000000000000000000000000000000000000000000000000000000000000 S) (hM : Sub 0x12 M) :
    Keeps S M s (State.stepRecord t x1 x2 x3) := by
  unfold State.stepRecord
  extract_lets s1 s2 s3 v4 s5
  have hs1 : Keeps S M s s1 := by
    unfold s1
    refine Keeps.when h fun u6 h7 => ?_
    exact State.wr_keeps h7 (hS.bit rfl)
  clear_value s1
  have hs2 : Keeps S M s s2 := State.wrAll_keeps hs1 hS ⟨rfl, rfl, rfl, rfl, trivial⟩
  clear_value s2
  have hs3 : Keeps S M s s3 := State.bump_keeps hs2 (hS.bit rfl)
  clear_value s3
  have hs5 : Keeps S M s s5 := Keeps.to_tm hs3 (hM.tr rfl)
  clear_value s5
  exact State.hold_keeps hs5 (hM.tr rfl)

theorem State.applyStep_keeps (h : Keeps S M s t) (hS : Sub 0x20000000000000000000000000000000000000000000000000000000000001e31800000000000000000000000000040000000000000000000000000000162000000000000000000000000000000000000000000 S) (hM : Sub 0x136d36 M) :
    Keeps S M s (State.applyStep t) := by
  unfold State.applyStep
  split
  · rename_i a1 a2
    exact h
  · rename_i a3 a4 a5
    extract_lets v6 s7 host8 s9 s10 s11 s12
    have hs7 : Keeps S M s s7 := Keeps.to_tm h (hM.tr rfl)
    clear_value s7
    have hs9 : Keeps S M s s9 := by
      unfold s9
      refine Keeps.when hs7 fun u13 h14 => ?_
      exact State.wr_keeps h14 (hS.bit rfl)
    clear_value s9
    have hs10 : Keeps S M s s10 := by
      unfold s10
      refine Keeps.when hs9 fun u15 h16 => ?_
      exact State.dpllStepped_keeps h16 (hS.tr rfl) (hM.tr rfl)
    clear_value s10
    have hs11 : Keeps S M s s11 := by
      unfold s11
      refine State.stepGates_keeps ?_ (hS.tr rfl) (hM.tr rfl)
      refine State.jumpTo_keeps ?_ (hM.tr rfl)
      exact State.shiftTimes_keeps hs10 (hM.tr rfl)
    clear_value s11
    have hs12 : Keeps S M s s12 := State.stepRecord_keeps hs11 (hS.tr rfl) (hM.tr rfl)
    clear_value s12
    refine Keeps.ite ?_ ?_
    · exact State.wr_keeps hs7 (hS.bit rfl)
    · refine Keeps.ite ?_ ?_
      · exact State.wr_keeps hs10 (hS.bit rfl)
      · refine Keeps.when hs12 fun u17 h18 => ?_
        exact State.info_keeps h18 (hM.tr rfl)

theorem State.timeStep_keeps (h : Keeps S M s t) (hS : Sub 0x20000000000000000000000000000000000000000000000000000000000001e31800000000000000000000000000040000000000000000000000000000162000000000000000000000000000000000000000000 S) (hM : Sub 0x136d36 M) :
    Keeps S M s (State.timeStep t) := by
  unfold State.timeStep
  split
  · rename_i a1 a2 a3
    refine Keeps.ite ?_ ?_
    · extract_lets s4 v5
      have hs4 : Keeps S M s s4 := by
        unfold s4
        refine State.applyStep_keeps ?_ (hS.tr rfl) (hM.tr rfl)
        exact State.advanceTo_keeps h (hM.tr rfl)
      clear_value s4
      exact Keeps.to_tm hs4 (hM.tr rfl)
    · exact h
  · rename_i a6 a7
    exact h

theorem State.counterStart_keeps {x1 x2 x3} (h : Keeps S M s t) (hS : Sub 0x10000000000000000000000000000000000000440000000000000020000000000000000000000000000000000000000000000000080000000605e77800000000000000000000000000000000000000000000000001080000162000000000000000000018000000400000000000000 S) (hM : Sub 0x337fbe M) :
    Keeps S M s (State.counterStart t x1 x2 x3) := by
  unfold State.counterStart
  refine Keeps.ite ?_ ?_
  · exact h
  · extract_lets good1 value2 first3 amount4 v5 s6 s7 s8 v9 s10 s11 s12 s13
    have hs6 : Keeps S M s s6 := Keeps.to_tm h (hM.tr rfl)
    clear_value s6
    have hs7 : Keeps S M s s7 := by
      unfold s7
      refine Keeps.ite ?_ ?_
      · exact hs6
      · exact State.shiftTimes_keeps hs6 (hM.tr rfl)
    clear_value s7
    have hs8 : Keeps S M s s8 := by
      unfold s8
      refine State.stepGates_keeps ?_ (hS.tr rfl) (hM.tr rfl)
      refine State.loadDplls_keeps ?_ (hM.tr rfl)
      exact State.jumpTo_keeps hs7 (hM.tr rfl)
    clear_value s8
    have hs10 : Keeps S M s s10 := Keeps.to_tm hs8 (hM.tr rfl)
    clear_value s10
    have hs11 : Keeps S M s s11 := State.wrAll_keeps hs10 hS ⟨rfl, rfl, rfl, rfl, rfl, rfl, rfl, trivial⟩
    clear_value s11
    have hs12 : Keeps S M s s12 := State.porchTrace_keeps hs11 (hS.tr rfl) (hM.tr rfl)
    clear_value s12
    have hs13 : Keeps S M s s13 := by
      unfold s13
      refine Keeps.ite ?_ ?_
      · exact State.stepRecord_keeps hs12 (hS.tr rfl) (hM.tr rfl)
      · exact State.wr_keeps hs12 (hS.bit rfl)
    clear_value s13
    exact State.directStage_keeps hs13 (hS.tr rfl) (hM.tr rfl)

theorem State.secondsDecision_keeps {x1 x2 x3} (h : Keeps S M s t) (hS : Sub 0x8017d100000100000000000000440000000000000020000000000000000000000000000000000000000000000000080000000600021800000000000000000000000000000000000000000000000000000000000000000000000000000000000000000000000000000 S) (hM : Sub 0x304036 M) :
    Keeps S M s (State.secondsDecision t x1 x2 x3) := by
  unfold State.secondsDecision
  refine Keeps.ite ?_ ?_
  · refine State.info_keeps ?_ (hM.tr rfl)
    exact State.wrAll_keeps h hS ⟨rfl, rfl, rfl, trivial⟩
  · refine Keeps.ite ?_ ?_
    · extract_lets s1 v2
      have hs1 : Keeps S M s s1 := State.wrAll_keeps h hS ⟨rfl, rfl, trivial⟩
      clear_value s1
      exact Keeps.to_tm hs1 (hM.tr rfl)
    · refine State.info_keeps ?_ (hM.tr rfl)
      refine State.fault_keeps ?_ (hS.tr rfl) (hM.tr rfl)
      exact State.wrAll_keeps h hS ⟨rfl, rfl, trivial⟩

theorem State.orderStep_keeps {x1} (h : Keeps S M s t) (hM : Sub 0x10 M) :
    Keeps S M s (State.orderStep t x1) := by
  unfold State.orderStep
  extract_lets t1 part2 amount3 o4
  refine Keeps.ite ?_ ?_
  · exact h
  · exact Keeps.to_tm h (hM.tr rfl)

theorem State.leapSecond_keeps (h : Keeps S M s t) (hS : Sub 0xd0000000000000000000000000000000000000000000000000000000000000000000000000000000000000000000000000000000000 S) :
    Keeps S M s (State.leapSecond t) := by
  unfold State.leapSecond
  extract_lets d1
  exact State.wrAll_keeps h hS ⟨rfl, rfl, rfl, trivial⟩

theorem State.timeSet_keeps (h : Keeps S M s t) (hS : Sub 0x800000000000000000000000000000000000000000000000000000000000000000000000000000000000000000000000000000000 S) (hM : Sub 0x10 M) :
    Keeps S M s (State.timeSet t) := by
  unfold State.timeSet
  refine Keeps.ite ?_ ?_
  · exact Keeps.to_tm h (hM.tr rfl)
  · exact State.wr_keeps h (hS.bit rfl)

theorem State.timeVoteOne_keeps {x1} (h : Keeps S M s t) (hS : Sub 0x8017d10000010000000000000044000000000000002000000000000000000000000000000000000000000000000008000000060a000000000000000000000000000000000000000000000000000000000000000000000000000000000000000000000000000000000 S) (hM : Sub 0x304036 M) :
    Keeps S M s (State.timeVoteOne t x1) := by
  unfold State.timeVoteOne
  refine Keeps.ite ?_ ?_
  · exact h
  · extract_lets v1 v2 s3
    have hs3 : Keeps S M s s3 := by
      unfold s3
      refine Keeps.ite ?_ ?_
      · exact Keeps.to_tm h (hM.tr rfl)
      · refine Keeps.ite ?_ ?_
        · exact Keeps.to_tm h (hM.tr rfl)
        · exact Keeps.to_tm h (hM.tr rfl)
    clear_value s3
    refine State.fault_keeps ?_ (hS.tr rfl) (hM.tr rfl)
    refine State.wr_keeps ?_ (hS.bit rfl)
    exact State.bump_keeps hs3 (hS.bit rfl)

theorem State.timeStepRequest_keeps (h : Keeps S M s t) (hM : Sub 0x10 M) :
    Keeps S M s (State.timeStepRequest t) := by
  unfold State.timeStepRequest
  exact Keeps.to_tm h (hM.tr rfl)

end Sys2Proof.Machine
end

