-- ==== Sys2Proof/Laws/KeepsTod.lean ====
section
/-! SUPPORT. What each operation of Machine/Tod.lean may change (`Keeps`): the bits of the first mask are numbers of register
fields, those of the second the numbers `P.…` of the parts of the state. -/

set_option Elab.async false

namespace Sys2Proof.Machine

variable {S M : Nat} {s t u v : State}

theorem State.setTod_keeps {x1 x2} (h : Keeps S M s t) (hM : Sub 0x10 M) :
    Keeps S M s (State.setTod t x1 x2) := by
  unfold State.setTod
  exact Keeps.to_tm h (hM.tr rfl)

theorem State.utcFrom_keeps {x1 x2} (h : Keeps S M s t) (hS : Sub 0x1d0000000000000000000000000000000000000000000000000000000000000000000000000000000000000000000000000000000000 S) :
    Keeps S M s (State.utcFrom t x1 x2) := by
  unfold State.utcFrom
  refine Keeps.ite ?_ ?_
  · exact State.wrAll_keeps h hS ⟨rfl, rfl, rfl, rfl, trivial⟩
  · exact h

theorem State.todMessage_keeps {x1 x2 x3 x4 x5} (h : Keeps S M s t) (hS : Sub 0x8017d1000001000000000000004400000000000000200000000000000000000000000000000000000000000000000803600007d0021800000000000000000000000000000000000000000000000000000000000000000000000000000000000000000000000000000 S) (hM : Sub 0x304036 M) :
    Keeps S M s (State.todMessage t x1 x2 x3 x4 x5) := by
  unfold State.todMessage
  refine Keeps.ite ?_ ?_
  · exact h
  · extract_lets s1 binary2 r3 v4 x5 v6 run7 s8 s9 v10 s11 s12
    have hs1 : Keeps S M s s1 := State.advanceTo_keeps h (hM.tr rfl)
    clear_value s1
    have hs8 : Keeps S M s s8 := by
      unfold s8
      refine State.wrAll_keeps ?_ hS ⟨rfl, rfl, trivial⟩
      exact State.setTod_keeps hs1 (hM.tr rfl)
    clear_value s8
    have hs9 : Keeps S M s s9 := by
      unfold s9
      refine State.wr_keeps ?_ (hS.bit rfl)
      exact State.bumpWrap_keeps hs8 (hS.bit rfl)
    clear_value s9
    have hs11 : Keeps S M s s11 := Keeps.to_tm hs9 (hM.tr rfl)
    clear_value s11
    have hs12 : Keeps S M s s12 := by
      unfold s12
      refine Keeps.when hs11 fun u13 h14 => ?_
      exact State.utcFrom_keeps h14 (hS.tr rfl)
    clear_value s12
    refine Keeps.ite ?_ ?_
    · exact hs8
    · refine Keeps.ite ?_ ?_
      · exact State.secondsDecision_keeps hs12 (hS.tr rfl) (hM.tr rfl)
      · exact hs12

end Sys2Proof.Machine
end

