-- ==== Sys2Proof/Laws/KeepsServo.lean ====
section
/-! SUPPORT. What each operation of Machine/Servo.lean may change (`Keeps`): the bits of the first mask are numbers of register
fields, those of the second the numbers `P.…` of the parts of the state. -/

set_option Elab.async false

namespace Sys2Proof.Machine

variable {S M : Nat} {s t u v : State}

theorem State.announceTimeout_keeps {x1} (h : Keeps S M s t) (hS : Sub 0x200000000000000000000000000000000000000000000000000000000000000000000000000000000000000000000000000000000000000000000000000000000000000000000000000000000000 S) :
    Keeps S M s (State.announceTimeout t x1) := by
  unfold State.announceTimeout
  exact State.wr_keeps h (hS.bit rfl)

theorem State.modServo_keeps {x1 x2} (h : Keeps S M s t) (hM : Sub 0x20000 M) :
    Keeps S M s (State.modServo t x1 x2) := by
  unfold State.modServo
  exact State.setServo_keeps h (hM.tr rfl)

theorem State.pkClear_keeps {x1} (h : Keeps S M s t) (hS : Sub 0x380000000000000000000000000000000000000000000000000000000000000000000000000000000000000000000000000000000000000000000000000000000000000000000000000000000000000 S) (hM : Sub 0x20000 M) :
    Keeps S M s (State.pkClear t x1) := by
  unfold State.pkClear
  extract_lets s1
  have hs1 : Keeps S M s s1 := State.modServo_keeps h (hM.tr rfl)
  clear_value s1
  exact State.wrAll_keeps hs1 hS ⟨rfl, rfl, rfl, trivial⟩

theorem State.pkSample_keeps {x1 x2 x3 x4} (h : Keeps S M s t) (hM : Sub 0x20000 M) :
    Keeps S M s (State.pkSample t x1 x2 x3 x4) := by
  unfold State.pkSample
  exact State.modServo_keeps h (hM.tr rfl)

theorem State.pkSyncRx_keeps {x1 x2 x3} (h : Keeps S M s t) (hS : Sub 0x100000000000000000000000000000000000000000000000000000000000000000000000000000000000000000000000000000000000000000000000000000000000000000000000000000000000 S) (hM : Sub 0x20000 M) :
    Keeps S M s (State.pkSyncRx t x1 x2 x3) := by
  unfold State.pkSyncRx
  extract_lets s1
  have hs1 : Keeps S M s s1 := State.wrB_keeps h (hS.bit rfl)
  clear_value s1
  refine Keeps.ite ?_ ?_
  · exact State.modServo_keeps hs1 (hM.tr rfl)
  · refine Keeps.ite ?_ ?_
    · exact hs1
    · exact State.pkSample_keeps hs1 (hM.tr rfl)

theorem State.pkFollowRx_keeps {x1 x2} (h : Keeps S M s t) (hM : Sub 0x20000 M) :
    Keeps S M s (State.pkFollowRx t x1 x2) := by
  unfold State.pkFollowRx
  split
  · rename_i a1 a2
    exact h
  · rename_i a3 a4 a5
    extract_lets s6
    have hs6 : Keeps S M s s6 := State.modServo_keeps h (hM.tr rfl)
    clear_value s6
    refine Keeps.ite ?_ ?_
    · exact State.pkSample_keeps hs6 (hM.tr rfl)
    · exact hs6

theorem State.pkGrant_keeps {x1 x2 x3} (h : Keeps S M s t) (hS : Sub 0x1c00000000000000000000000000000000000000000000000000000000000000000000000000000000000000000000000000000000000000000000000000000000000000000000000000000000000 S) (hM : Sub 0x20000 M) :
    Keeps S M s (State.pkGrant t x1 x2 x3) := by
  unfold State.pkGrant
  extract_lets s1
  have hs1 : Keeps S M s s1 := State.modServo_keeps h (hM.tr rfl)
  clear_value s1
  exact State.wrB_keeps hs1 (hS.bit (by split <;> first | rfl | (split <;> rfl)))

theorem State.pkGoes_keeps {x1 x2} (h : Keeps S M s t) (hS : Sub 0x2000000000000000000000000000000000000000000000000000000000000000000000000000000000000000000000000000000000000000000000000000000000000000000000000000000000000 S) (hM : Sub 0x2 M) :
    Keeps S M s (State.pkGoes t x1 x2) := by
  unfold State.pkGoes
  refine Keeps.ite ?_ ?_
  · exact h
  · refine State.info_keeps ?_ (hM.tr rfl)
    exact State.wr_keeps h (hS.bit rfl)

theorem State.servoLost_keeps {x1 x2 x3} (h : Keeps S M s t) (hS : Sub 0x8017d100000100000000000000440000000000000020000000383c2000000000000000000000000000000000000008000000060000000000000000000000a600000100826000000000000002000000200000000000000000000000000000000000000000000000000 S) (hM : Sub 0x2326b26 M) :
    Keeps S M s (State.servoLost t x1 x2 x3) := by
  unfold State.servoLost
  extract_lets st1 s2 s3 s4
  have hs2 : Keeps S M s s2 := by
    unfold s2
    split
    · rename_i a5 a6
      refine Keeps.ite ?_ ?_
      · exact State.pkGrant_keeps h (hS.tr rfl) (hM.tr rfl)
      · exact h
    · rename_i a7
      exact h
  clear_value s2
  have hs3 : Keeps S M s s3 := by
    unfold s3
    refine State.pkGoes_keeps ?_ (hS.tr rfl) (hM.tr rfl)
    exact State.pkClear_keeps hs2 (hS.tr rfl) (hM.tr rfl)
  clear_value s3
  have hs4 : Keeps S M s s4 := by
    unfold s4
    refine Keeps.when hs3 fun u8 h9 => ?_
    refine Keeps.when ?_ fun u10 h11 => ?_
    · refine State.fault_keeps ?_ (hS.tr rfl) (hM.tr rfl)
      exact State.bump_keeps h9 (hS.bit rfl)
    · exact State.strobe_keeps h11 (hS.tr rfl) (hM.tr rfl)
  clear_value s4
  refine Keeps.ite ?_ ?_
  · exact hs2
  · exact State.pkGoes_keeps hs4 (hS.tr rfl) (hM.tr rfl)

theorem State.pkSignal_keeps {x1 x2 x3} (h : Keeps S M s t) (hS : Sub 0x80000000000000000000000000000000000000000000000000000000000000000000000000000000000000000000000000000000000000000000000000000000000000 S) (hM : Sub 0x320000 M) :
    Keeps S M s (State.pkSignal t x1 x2 x3) := by
  unfold State.pkSignal
  refine Keeps.ite ?_ ?_
  · exact h
  · extract_lets x1 v2 m3 f4
    refine State.sendFrame_keeps ?_ (hS.tr rfl) (hM.tr rfl)
    refine State.setServo_keeps ?_ (hM.tr rfl)
    exact State.drawn_keeps h (hM.tr rfl)

theorem State.pkTlv_keeps {x1 x2} (h : Keeps S M s t) (hS : Sub 0x8017d100000100000000000000440000000000000020000000383c2000000000000000000008000000000000000008000000060000000000000000000000a600000100826000000000000002000000200000000000000000000000000000000000000000000000000 S) (hM : Sub 0x2326b26 M) :
    Keeps S M s (State.pkTlv t x1 x2) := by
  unfold State.pkTlv
  split
  · rename_i a1 a2 a3 a4 a5
    refine Keeps.ite ?_ ?_
    · exact h
    · exact State.pkGrant_keeps h (hS.tr rfl) (hM.tr rfl)
  · rename_i a6 a7
    refine Keeps.ite ?_ ?_
    · refine State.pkSignal_keeps ?_ (hS.tr rfl) (hM.tr rfl)
      exact State.servoLost_keeps h (hS.tr rfl) (hM.tr rfl)
    · exact h
  · rename_i a8 a9 a10
    exact h

theorem State.pkEstimate_keeps {x1} (h : Keeps S M s t) (hS : Sub 0xc0000000000000000000000000000000000000000000000000000000000000000000000000000000000000000000000000000000000000000000000000000000000000000000000000000000000000 S) (hM : Sub 0x20000 M) :
    Keeps S M s (State.pkEstimate t x1) := by
  unfold State.pkEstimate
  extract_lets x slope pct f r
  clear_value f r
  split
  · extract_lets den asym theta sf sr s1
    exact State.wr_keeps (State.wrI_keeps (State.setServo_keeps h (hM.tr rfl)) (hS.bit rfl)) (hS.bit rfl)
  · exact State.setServo_keeps h (hM.tr rfl)

theorem State.servoEpoch_keeps {x1} (h : Keeps S M s t) (hS : Sub 0xc00c0020000000000000000000000000000000000000000000000000000000000000000000000000000000000000000000000000000000000000000000000000000000000000000000000000000000 S) (hM : Sub 0xa0900 M) :
    Keeps S M s (State.servoEpoch t x1) := by
  unfold State.servoEpoch
  extract_lets st1 want2 s3 s4 s5
  have hs3 : Keeps S M s s3 := by
    unfold s3
    refine Keeps.when h fun u6 h7 => ?_
    exact State.later_keeps h7 (hM.tr rfl)
  clear_value s3
  have hs4 : Keeps S M s s4 := State.wrAll_keeps hs3 hS ⟨rfl, rfl, trivial⟩
  clear_value s4
  have hs5 : Keeps S M s s5 := State.pkEstimate_keeps hs4 (hS.tr rfl) (hM.tr rfl)
  clear_value s5
  refine Keeps.ite ?_ ?_
  · exact hs4
  · refine Keeps.ite ?_ ?_
    · exact hs5
    · split
      · rename_i a8 a9
        exact hs5
      · rename_i a10 a11 a12
        refine State.delivers_keeps ?_ (hM.tr rfl)
        exact State.modMon_keeps hs5 (hM.tr rfl)

theorem State.servoSeconds_keeps {x1} (h : Keeps S M s t) (hS : Sub 0x21800000000000000000000000000000000000000000000000000000000000000000000000000000000000000000000000000000 S) (hM : Sub 0x80010 M) :
    Keeps S M s (State.servoSeconds t x1) := by
  unfold State.servoSeconds
  extract_lets run1 v2 s3 s4 v5
  have hs3 : Keeps S M s s3 := Keeps.to_tm h (hM.tr rfl)
  clear_value s3
  have hs4 : Keeps S M s s4 := State.wrAll_keeps hs3 hS ⟨rfl, rfl, trivial⟩
  clear_value s4
  refine Keeps.ite ?_ ?_
  · exact hs3
  · refine Keeps.ite ?_ ?_
    · refine State.later_keeps ?_ (hM.tr rfl)
      exact State.wrAll_keeps hs3 hS ⟨rfl, rfl, rfl, trivial⟩
    · refine Keeps.ite ?_ ?_
      · exact Keeps.to_tm hs4 (hM.tr rfl)
      · refine State.later_keeps ?_ (hM.tr rfl)
        refine State.later_keeps ?_ (hM.tr rfl)
        exact State.wrAll_keeps hs3 hS ⟨rfl, rfl, trivial⟩

theorem State.followUpTimeout_keeps {x1} (h : Keeps S M s t) (hM : Sub 0x20000 M) :
    Keeps S M s (State.followUpTimeout t x1) := by
  unfold State.followUpTimeout
  exact State.modServo_keeps h (hM.tr rfl)

theorem State.pkUngrant_keeps {x1} (h : Keeps S M s t) (hS : Sub 0x1c00000000000000000000000000000000000000000000000000000000000000000000000000000000000000000000000000000000000000000000000000000000000000000000000000000000000 S) (hM : Sub 0x20000 M) :
    Keeps S M s (State.pkUngrant t x1) := by
  unfold State.pkUngrant
  refine State.wrAll_keeps ?_ hS ⟨rfl, rfl, rfl, trivial⟩
  exact State.modServo_keeps h (hM.tr rfl)

theorem State.pkRequest_keeps {x1 x2} (h : Keeps S M s t) (hS : Sub 0x80000000000000000000000000000000000000000000000000000000000000000000000000000000000000000000000000000000000000000000000000000000000000 S) (hM : Sub 0x320000 M) :
    Keeps S M s (State.pkRequest t x1 x2) := by
  unfold State.pkRequest
  refine Keeps.ite ?_ ?_
  · exact State.pkSignal_keeps h (hS.tr rfl) (hM.tr rfl)
  · exact h

theorem State.pkApply_keeps {x1 x2 x3} (h : Keeps S M s t) (hS : Sub 0x383e00000000000000000000080000000000000000000000000000000000000000000000000000000000000000000000000000000000000000000000000000000000000000000000000000000000000 S) (hM : Sub 0x320002 M) :
    Keeps S M s (State.pkApply t x1 x2 x3) := by
  unfold State.pkApply
  refine Keeps.ite ?_ ?_
  · exact h
  · refine Keeps.ite ?_ ?_
    · extract_lets x1 held2
      refine State.pkGoes_keeps ?_ (hS.tr rfl) (hM.tr rfl)
      refine State.wr_keeps ?_ (hS.bit rfl)
      refine State.pkUngrant_keeps ?_ (hS.tr rfl) (hM.tr rfl)
      refine State.pkClear_keeps ?_ (hS.tr rfl) (hM.tr rfl)
      exact State.pkSignal_keeps h (hS.tr rfl) (hM.tr rfl)
    · refine Keeps.ite ?_ ?_
      · extract_lets s3
        have hs3 : Keeps S M s s3 := by
          unfold s3
          refine State.pkGoes_keeps ?_ (hS.tr rfl) (hM.tr rfl)
          refine State.pkUngrant_keeps ?_ (hS.tr rfl) (hM.tr rfl)
          exact State.pkClear_keeps h (hS.tr rfl) (hM.tr rfl)
        clear_value s3
        refine Keeps.ite ?_ ?_
        · exact State.pkRequest_keeps hs3 (hS.tr rfl) (hM.tr rfl)
        · exact hs3
      · exact State.pkGoes_keeps h (hS.tr rfl) (hM.tr rfl)

theorem State.servoModel_keeps {x1 x2} (h : Keeps S M s t) (hS : Sub 0x300000000000000000000000000000000000000000000000000000000000000000000000000000000000000000000000000000000000000000000000000000000000000000000000000000000000000 S) (hM : Sub 0x20800 M) :
    Keeps S M s (State.servoModel t x1 x2) := by
  unfold State.servoModel
  refine Keeps.ite ?_ ?_
  · exact h
  · extract_lets x1 w2 f3 r4 span5 hist6 fit7 s8 s9
    have hs8 : Keeps S M s s8 := State.setServo_keeps h (hM.tr rfl)
    clear_value s8
    have hs9 : Keeps S M s s9 := State.wrAll_keeps hs8 hS ⟨rfl, rfl, trivial⟩
    clear_value s9
    clear_value fit7
    split
    · rename_i a10 a11
      refine Keeps.ite ?_ ?_
      · exact State.updateY_keeps hs9 (hM.tr rfl)
      · exact hs9
    · rename_i a12
      exact hs9

theorem State.servoModels_keeps (h : Keeps S M s t) (hS : Sub 0x300000000000000000000000000000000000000000000000000000000000000000000000000000000000000000000000000000000000000000000000000000000000000000000000000000000000000 S) (hM : Sub 0xa0800 M) :
    Keeps S M s (State.servoModels t) := by
  unfold State.servoModels
  extract_lets rate1 s2 v3
  have hs2 : Keeps S M s s2 := by
    unfold s2
    refine Keeps.forAll h fun i4 u5 h6 => ?_
    exact State.servoModel_keeps h6 (hS.tr rfl) (hM.tr rfl)
  clear_value s2
  exact Keeps.to_ep hs2 (hM.tr rfl)

theorem State.servoSecondsEpoch_keeps (h : Keeps S M s t) (hS : Sub 0x21800000000000000000000000000000000000000000000000000000000000000000000000000000000000000000000000000000 S) (hM : Sub 0x80010 M) :
    Keeps S M s (State.servoSecondsEpoch t) := by
  unfold State.servoSecondsEpoch
  refine Keeps.ite ?_ ?_
  · exact h
  · split
    · rename_i a1 a2
      exact Keeps.to_tm h (hM.tr rfl)
    · rename_i a3 a4 a5
      split
      · rename_i a6 a7 a8 a9 a10
        exact State.servoSeconds_keeps h (hS.tr rfl) (hM.tr rfl)
      · rename_i a11 a12 a13
        exact Keeps.to_tm h (hM.tr rfl)

theorem State.delayReqSend_keeps {x1} (h : Keeps S M s t) (hS : Sub 0x80000000000000000000000000000000000000000000000000000000000000000000000000000000000000000000000000000000000000000000000000000000000000 S) (hM : Sub 0x320000 M) :
    Keeps S M s (State.delayReqSend t x1) := by
  unfold State.delayReqSend
  extract_lets x1 log2 due3 t4 m5 f6 s7
  have hs7 : Keeps S M s s7 := by
    unfold s7
    refine State.setServo_keeps ?_ (hM.tr rfl)
    refine State.drawn_keeps ?_ (hM.tr rfl)
    exact State.drawn_keeps h (hM.tr rfl)
  clear_value s7
  refine Keeps.ite ?_ ?_
  · exact h
  · exact State.sendFrame_keeps hs7 (hS.tr rfl) (hM.tr rfl)

theorem State.servoService_keeps (h : Keeps S M s t) (hS : Sub 0x80000000000000000000000000000000000000000000000000000000000000000000000000000000000000000000000000000000000000000000000000000000000000 S) (hM : Sub 0x320000 M) :
    Keeps S M s (State.servoService t) := by
  unfold State.servoService
  refine Keeps.forAll h fun i1 u2 h3 => ?_
  exact State.delayReqSend_keeps h3 (hS.tr rfl) (hM.tr rfl)

theorem State.servoRenew_keeps {x1 x2} (h : Keeps S M s t) (hS : Sub 0x80000000000000000000000000000000000000000000000000000000000000000000000000000000000000000000000000000000000000000000000000000000000000 S) (hM : Sub 0x320000 M) :
    Keeps S M s (State.servoRenew t x1 x2) := by
  unfold State.servoRenew
  exact State.pkRequest_keeps h (hS.tr rfl) (hM.tr rfl)

theorem State.pkAnnRx_keeps {x1 x2} (h : Keeps S M s t) (hS : Sub 0x3c200000000000000000000000000000000000000000000000000000000000000000000000000000000000000000000000000000000000000000000000000000000000000000000000000000000000 S) (hM : Sub 0x20000 M) :
    Keeps S M s (State.pkAnnRx t x1 x2) := by
  unfold State.pkAnnRx
  split
  · rename_i a1 a2
    exact h
  · rename_i a3 a4 a5
    refine State.wrAll_keeps ?_ hS ⟨rfl, rfl, rfl, rfl, rfl, trivial⟩
    exact State.modServo_keeps h (hM.tr rfl)

theorem State.pkReset_keeps {x1} (h : Keeps S M s t) (hS : Sub 0x383c00000000000000000000000000000000000000000000000000000000000000000000000000000000000000000000000000000000000000000000000000000000000000000000000000000000000 S) (hM : Sub 0x20002 M) :
    Keeps S M s (State.pkReset t x1) := by
  unfold State.pkReset
  extract_lets s1 s2
  have hs1 : Keeps S M s s1 := by
    unfold s1
    refine State.pkUngrant_keeps ?_ (hS.tr rfl) (hM.tr rfl)
    exact State.pkClear_keeps h (hS.tr rfl) (hM.tr rfl)
  clear_value s1
  have hs2 : Keeps S M s s2 := State.modServo_keeps hs1 (hM.tr rfl)
  clear_value s2
  refine Keeps.ite ?_ ?_
  · exact hs2
  · exact State.pkGoes_keeps hs2 (hS.tr rfl) (hM.tr rfl)

theorem State.latchServos_keeps (h : Keeps S M s t) (hS : Sub 0x383c00000000000000000000000000000000000000000000000000000000000000000000000000000000000000000000000000000000000000000000000000000000000000000000000000000000000 S) (hM : Sub 0x20002 M) :
    Keeps S M s (State.latchServos t) := by
  unfold State.latchServos
  extract_lets all1 g2
  refine Keeps.forAll h fun i3 u4 h5 => ?_
  extract_lets old6 same7 t8
  have ht8 : Keeps S M s t8 := State.modServo_keeps h5 (hM.tr rfl)
  clear_value t8
  refine Keeps.ite ?_ ?_
  · exact ht8
  · exact State.pkReset_keeps ht8 (hS.tr rfl) (hM.tr rfl)

theorem State.pkRespRx_keeps {x1 x2} (h : Keeps S M s t) (hM : Sub 0x20000 M) :
    Keeps S M s (State.pkRespRx t x1 x2) := by
  unfold State.pkRespRx
  refine Keeps.ite ?_ ?_
  · exact h
  · split
    · rename_i a1 a2
      exact h
    · rename_i a3 a4 a5
      extract_lets s6
      have hs6 : Keeps S M s s6 := State.modServo_keeps h (hM.tr rfl)
      clear_value s6
      refine Keeps.ite ?_ ?_
      · exact State.pkSample_keeps hs6 (hM.tr rfl)
      · exact hs6

theorem State.servoFrameRx_keeps {x1} (h : Keeps S M s t) (hS : Sub 0x8017d1000001000000000000004400000000000000200000003bff2000000000000000000008000000000000000008000000060000000000000000000000a600000100826000000000000002000000200000000000000000000000000000000000000000000000000 S) (hM : Sub 0x2336b26 M) :
    Keeps S M s (State.servoFrameRx t x1) := by
  unfold State.servoFrameRx
  split
  · rename_i a1 a2
    exact h
  · rename_i a3 a4 a5 a6
    split
    · rename_i a7 a8 a9
      extract_lets x10 known11 s12
      have hs12 : Keeps S M s s12 := by
        unfold s12
        refine Keeps.ite ?_ ?_
        · refine State.setServo_keeps ?_ (hM.tr rfl)
          have k13 := State.takeRx_keeps h (hM.tr rfl) a6
          exact k13
        · have k14 := State.takeRx_keeps h (hM.tr rfl) a6
          exact k14
      clear_value s12
      refine Keeps.ite ?_ ?_
      · have k15 := State.takeRx_keeps h (hM.tr rfl) a6
        exact k15
      · split
        · rename_i a16 a17
          exact State.pkSyncRx_keeps hs12 (hS.tr rfl) (hM.tr rfl)
        · rename_i a18 a19
          exact State.pkFollowRx_keeps hs12 (hM.tr rfl)
        · rename_i a20 a21
          exact State.pkRespRx_keeps hs12 (hM.tr rfl)
        · rename_i a22 a23
          exact State.pkAnnRx_keeps hs12 (hS.tr rfl) (hM.tr rfl)
        · rename_i a24 a25
          refine Keeps.foldl hs12 fun u27 x26 h28 => ?_
          exact State.pkTlv_keeps h28 (hS.tr rfl) (hM.tr rfl)
        · rename_i a29 a30 a31 a32 a33 a34
          exact hs12
    · rename_i a35 a36
      have k37 := State.takeRx_keeps h (hM.tr rfl) a6
      exact k37

theorem State.servoEpochs_keeps (h : Keeps S M s t) (hS : Sub 0xc00c0020000000000000000000000000000000000000000000000021800000000000000000000000000000000000000000000000000000000000000000000000000000000000000000000000000000 S) (hM : Sub 0xa0910 M) :
    Keeps S M s (State.servoEpochs t) := by
  unfold State.servoEpochs
  refine State.servoSecondsEpoch_keeps ?_ (hS.tr rfl) (hM.tr rfl)
  refine Keeps.forAll h fun i1 u2 h3 => ?_
  exact State.servoEpoch_keeps h3 (hS.tr rfl) (hM.tr rfl)

end Sys2Proof.Machine
end

