-- ==== Sys2Proof/Laws/KeepsTodOut.lean ====
section
/-! SUPPORT. What each operation of Machine/TodOut.lean may change (`Keeps`): the bits of the first mask are numbers of register
fields, those of the second the numbers `P.…` of the parts of the state. -/

set_option Elab.async false

namespace Sys2Proof.Machine

variable {S M : Nat} {s t u v : State}

theorem State.todoSend_keeps {x1} (h : Keeps S M s t) (hS : Sub 0x70000000000000000000000000000000000000000000000000000000000000000000000000000000000000000000000000000000000000000000 S) (hM : Sub 0x100010 M) :
    Keeps S M s (State.todoSend t x1) := by
  unfold State.todoSend
  refine Keeps.ite ?_ ?_
  · exact h
  · extract_lets x1 delay2 k3 k4 s5 put6 binary7 hold8 utc9 bytes10 baud11 tooLong12 s13
    have hs5 : Keeps S M s s5 := State.advanceTo_keeps h (hM.tr rfl)
    clear_value s5
    have hput6 : ∀ y14 y15, Keeps S M s y14 → Keeps S M s (put6 y14 y15) := by
      intro y14 y15 h16
      unfold put6
      beta_reduce
      exact Keeps.to_tm h16 (hM.tr rfl)
    clear_value put6
    have hs13 : Keeps S M s s13 := State.wrAll_keeps hs5 hS ⟨rfl, rfl, trivial⟩
    clear_value s13
    refine Keeps.ite ?_ ?_
    · refine hput6 _ _ ?_
      exact hs13
    · refine State.emitOut_keeps ?_ (hM.tr rfl)
      refine hput6 _ _ ?_
      exact State.bumpWrap_keeps hs13 (hS.bit rfl)

end Sys2Proof.Machine
end

