-- ==== Sys2Proof/Laws/KeepsHost.lean ====
section
/-! SUPPORT. What each operation of Machine/Host.lean may change (`Keeps`): the bits of the first mask are numbers of register
fields, those of the second the numbers `P.…` of the parts of the state. -/

set_option Elab.async false

namespace Sys2Proof.Machine

variable {S M : Nat} {s t u v : State}

theorem State.loseOldest_keeps (h : Keeps S M s t) (hS : Sub 0x8017d100000100000000000000440000000000000020000000000000000000000000000000000000000000000201080000000600000000000000000000000000000000000000000000000000000000000000000000000000000000000000000000000000000000000 S) (hM : Sub 0x304026 M) :
    Keeps S M s (State.loseOldest t) := by
  unfold State.loseOldest
  refine Keeps.ite ?_ ?_
  · exact h
  · split
    · rename_i a1 a2
      exact h
    · rename_i a3 a4 a5
      refine Keeps.foldl h fun u7 x6 h8 => ?_
      extract_lets v9 t10 t11 t12
      have ht10 : Keeps S M s t10 := Keeps.to_ev h8 (hM.tr rfl)
      clear_value t10
      have ht11 : Keeps S M s t11 := State.bump_keeps ht10 (hS.bit rfl)
      clear_value t11
      have ht12 : Keeps S M s t12 := by
        unfold t12
        refine Keeps.when ht11 fun u13 h14 => ?_
        exact State.bump_keeps h14 (hS.bit rfl)
      clear_value t12
      exact State.faultOnce_keeps ht12 (hS.tr rfl) (hM.tr rfl)

theorem State.msixReset_keeps {x1} (h : Keeps S M s t) (hM : Sub 0x4000 M) :
    Keeps S M s (State.msixReset t x1) := by
  unfold State.msixReset
  exact Keeps.to_hs h (hM.tr rfl)

theorem State.pageReset_keeps {x1} (h : Keeps S M s t) (hS : Sub 0x5fffff0000000000000000000000000000000000000000000000000000000000000000000000000000000000000000000000000000000000000000000000000000000000000000000000000000000000000000000000000000 S) :
    Keeps S M s (State.pageReset t x1) := by
  unfold State.pageReset
  extract_lets one cell s1 s2 s3
  have h1 : Keeps S M s s1 := by
    refine Keeps.foldlMem h fun u f hf hu => State.wr_keeps hu (hS.bit ?_)
    simp only [one, List.mem_cons, List.not_mem_nil, or_false] at hf
    rcases hf with rfl | rfl | rfl | rfl | rfl | rfl | rfl | rfl | rfl | rfl | rfl | rfl | rfl | rfl | rfl | rfl | rfl | rfl |
      rfl <;> rfl
  have h2 : Keeps S M s s2 := Keeps.forAll h1 fun i u hu => State.wr_keeps hu (hS.bit rfl)
  have h3 : Keeps S M s s3 := Keeps.forAll h2 fun i u hu => State.wr_keeps hu (hS.bit rfl)
  exact Keeps.forAll h3 fun i u hu => State.wr_keeps hu (hS.bit rfl)

theorem State.destroyReel_keeps {x1} (h : Keeps S M s t) (hM : Sub 0x4002 M) :
    Keeps S M s (State.destroyReel t x1) := by
  unfold State.destroyReel
  split
  · rename_i a1 a2
    exact h
  · rename_i a3 a4 a5
    extract_lets v6 v7 s8
    have hs8 : Keeps S M s s8 := Keeps.to_ev_hs h (hM.tr rfl)
    clear_value s8
    exact State.info_keeps hs8 (hM.tr rfl)

theorem State.vfReset_keeps {x1} (h : Keeps S M s t) (hS : Sub 0x5fffff0000000000000000000000000000000000000000000000000000000000000000000000000000000000000000000000000000000000000000000000000000000000000000000000000000000000000000000000000000 S) (hM : Sub 0x4002 M) :
    Keeps S M s (State.vfReset t x1) := by
  unfold State.vfReset
  refine State.msixReset_keeps ?_ (hM.tr rfl)
  refine State.pageReset_keeps ?_ (hS.tr rfl)
  exact State.destroyReel_keeps h (hM.tr rfl)

theorem State.numVfs_keeps {x1} (h : Keeps S M s t) (hS : Sub 0x5fffff0000000000000400000000000000000000000000000000000000000000000000000000000000000000000000000000000000000000000000000000000000000000000000000000000000000000000000000000000000 S) (hM : Sub 0x4002 M) :
    Keeps S M s (State.numVfs t x1) := by
  unfold State.numVfs
  extract_lets n1 s2
  have hs2 : Keeps S M s s2 := by
    unfold s2
    refine Keeps.forAll h fun i3 u4 h5 => ?_
    refine Keeps.ite ?_ ?_
    · exact State.vfReset_keeps h5 (hS.tr rfl) (hM.tr rfl)
    · exact h5
  clear_value s2
  exact State.wr_keeps hs2 (hS.bit rfl)

theorem State.linkL0_keeps {x1 x2} (h : Keeps S M s t) (hS : Sub 0x38000000000000000000000000000000000000000000000000000000000000000000000000000000000000000000000000000000000000000000000000000000000000000000000000000000000000000 S) (hM : Sub 0x4000 M) :
    Keeps S M s (State.linkL0 t x1 x2) := by
  unfold State.linkL0
  refine Keeps.ite ?_ ?_
  · exact h
  · extract_lets s1 s2 v3
    have hs1 : Keeps S M s s1 := State.wrAll_keeps h hS ⟨rfl, rfl, trivial⟩
    clear_value s1
    have hs2 : Keeps S M s s2 := by
      unfold s2
      refine Keeps.when hs1 fun u4 h5 => ?_
      exact State.bump_keeps h5 (hS.bit rfl)
    clear_value s2
    exact Keeps.to_hs hs2 (hM.tr rfl)

theorem State.moderate_keeps {x1} (h : Keeps S M s t) (hS : Sub 0x20000000000000000000000000000000000000000000000000000000000000000000000000000000000000000000000000000000000000000000000000000000000000000000000000000000000000000000000 S) (hM : Sub 0x104000 M) :
    Keeps S M s (State.moderate t x1) := by
  unfold State.moderate
  split
  · rename_i a1 a2 a3
    refine Keeps.ite ?_ ?_
    · exact State.signalReel_keeps h (hS.tr rfl) (hM.tr rfl)
    · exact h
  · rename_i a4 a5
    exact h

theorem State.offer_keeps {x1 x2} (h : Keeps S M s t) (hS : Sub 0x20000000000000000000000000000000000000000000000000000000000000000000000000000000000000000000000000000000000000000000000000000000000000000000000000000000000000000000000 S) (hM : Sub 0x104002 M) :
    Keeps S M s (State.offer t x1 x2) := by
  induction x2 generalizing t with
  | nil => exact h
  | cons b l ih =>
    unfold State.offer
    refine Keeps.ite (ih h) (Keeps.ite (ih ?_) h)
    exact Keeps.to_ev (State.writeEntry_keeps h (hS.tr rfl) (hM.tr rfl)) (hM.tr rfl)

theorem State.deliverReel_keeps {x1} (h : Keeps S M s t) (hS : Sub 0x20000000000000000000000000000000000000000000000000000000000000000000000000000000000000000000000000000000000000000000000000000000000000000000000000000000000000000000000 S) (hM : Sub 0x104002 M) :
    Keeps S M s (State.deliverReel t x1) := by
  unfold State.deliverReel
  split
  · rename_i a1 a2 a3
    exact State.offer_keeps h (hS.tr rfl) (hM.tr rfl)
  · rename_i a4 a5
    exact h

theorem State.deliverEvents_keeps (h : Keeps S M s t) (hS : Sub 0x20000000000000000000000000000000000000000000000000000000000000000000000000000000000000000000000000000000000000000000000000000000000000000000000000000000000000000000000 S) (hM : Sub 0x104002 M) :
    Keeps S M s (State.deliverEvents t) := by
  unfold State.deliverEvents
  refine Keeps.foldl h fun u2 x1 h3 => ?_
  exact State.deliverReel_keeps h3 (hS.tr rfl) (hM.tr rfl)

theorem State.emitRecord_keeps {x1} (h : Keeps S M s t) (hS : Sub 0x1e000008017d100000100000000000000440000000000000020000000000000000000000000000000000000000000000f79080000000600000000000000000000000000000000000000000000000000000000000000000000000000000000000000000000000000000000000 S) (hM : Sub 0x2b04226 M) :
    Keeps S M s (State.emitRecord t x1) := by
  unfold State.emitRecord
  extract_lets s1 s2 s3
  have hs1 : Keeps S M s s1 := by
    unfold s1
    refine Keeps.when h fun u4 h5 => ?_
    exact State.loseOldest_keeps h5 (hS.tr rfl) (hM.tr rfl)
  clear_value s1
  have hs2 : Keeps S M s s2 := by
    unfold s2
    refine State.logRecord_keeps ?_ (hS.tr rfl) (hM.tr rfl)
    exact State.releaseRecord_keeps hs1 (hS.tr rfl) (hM.tr rfl)
  clear_value s2
  have hs3 : Keeps S M s s3 := by
    unfold s3
    refine Keeps.when hs2 fun u6 h7 => ?_
    exact State.fault_keeps h7 (hS.tr rfl) (hM.tr rfl)
  clear_value s3
  exact State.deliverEvents_keeps hs3 (hS.tr rfl) (hM.tr rfl)

theorem State.mergerRelease_keeps (h : Keeps S M s t) (hS : Sub 0x1e000008017d100000100000000000000440000000000000020000000000000000000000000000000000000000000000f79080000000600000000000000000000000000000000000000000000000000000000000000000000000000000000000000000000000000000000000 S) (hM : Sub 0x2b04226 M) :
    Keeps S M s (State.mergerRelease t) := by
  unfold State.mergerRelease
  split
  · rename_i a1 a2
    exact h
  · rename_i a3 a4 a5
    refine State.emitRecord_keeps ?_ (hS.tr rfl) (hM.tr rfl)
    exact Keeps.to_ev h (hM.tr rfl)

theorem State.postBuffer_keeps {x1 x2 x3} (h : Keeps S M s t) (hS : Sub 0x20000000000000000000000000000000000000000000000000000000000000000000000000000000000000000000000000000000000000000000000000000000000000000000000000000000000000000000000 S) (hM : Sub 0x104000 M) :
    Keeps S M s (State.postBuffer t x1 x2 x3) := by
  unfold State.postBuffer
  split
  · rename_i a1 a2
    exact h
  · rename_i a3 a4 a5
    extract_lets cookie6 b7
    refine Keeps.ite ?_ ?_
    · exact State.complete_keeps h (hS.tr rfl) (hM.tr rfl)
    · refine State.skipBuffers_keeps ?_ (hS.tr rfl) (hM.tr rfl)
      exact State.putReel_keeps h (hM.tr rfl)

theorem State.takeFetched_keeps {x1 x2 x3} (h : Keeps S M s t) (hS : Sub 0x8017d1000001000000000000004400000000000000220f8000000000000000000000000000080000000000000000080000000600000000000000000000000000000000000000000000000000000000000000000000000000000000000000000000000000000000000 S) (hM : Sub 0x304026 M) :
    Keeps S M s (State.takeFetched t x1 x2 x3) := by
  unfold State.takeFetched
  split
  · rename_i a1 a2
    exact h
  · rename_i a3 a4 a5
    extract_lets slot6 x7 bits8 d9 x10
    refine Keeps.ite ?_ ?_
    · exact h
    · refine Keeps.ite ?_ ?_
      · exact State.faultReel_keeps h (hS.tr rfl) (hM.tr rfl)
      · refine Keeps.ite ?_ ?_
        · refine State.postBuffer_keeps ?_ (hS.tr rfl) (hM.tr rfl)
          exact State.putReel_keeps h (hM.tr rfl)
        · refine Keeps.ite ?_ ?_
          · refine State.drainTx_keeps ?_ (hS.tr rfl) (hM.tr rfl)
            exact State.putReel_keeps h (hM.tr rfl)
          · exact State.putReel_keeps h (hM.tr rfl)

theorem State.consume_keeps {x1 x2} (h : Keeps S M s t) (hS : Sub 0x8017d1000001000000000000004400000000000000220f8000000000000000000000000000080000000000000000080000000600000000000000000000000000000000000000000000000000000000000000000000000000000000000000000000000000000000000 S) (hM : Sub 0x304026 M) :
    Keeps S M s (State.consume t x1 x2) := by
  unfold State.consume
  split
  · rename_i a1 a2
    exact h
  · rename_i a3 a4 a5
    refine Keeps.ite ?_ ?_
    · exact h
    · extract_lets v6 s7 s8
      have hs7 : Keeps S M s s7 := State.putReel_keeps h (hM.tr rfl)
      clear_value s7
      have hs8 : Keeps S M s s8 := by
        unfold s8
        refine Keeps.ite ?_ ?_
        · exact State.deliverReel_keeps hs7 (hS.tr rfl) (hM.tr rfl)
        · exact hs7
      clear_value s8
      refine Keeps.ite ?_ ?_
      · exact State.faultReel_keeps h (hS.tr rfl) (hM.tr rfl)
      · refine Keeps.ite ?_ ?_
        · exact State.drainTx_keeps hs8 (hS.tr rfl) (hM.tr rfl)
        · exact hs8

theorem State.armReel_keeps {x1} (h : Keeps S M s t) (hS : Sub 0x20000000000000000000000000000000000000000000000000000000000000000000000000000000000000000000000000000000000000000000000000000000000000000000000000000000000000000000000 S) (hM : Sub 0x104000 M) :
    Keeps S M s (State.armReel t x1) := by
  unfold State.armReel
  split
  · rename_i a1 a2 a3
    refine Keeps.ite ?_ ?_
    · exact h
    · extract_lets s4
      have hs4 : Keeps S M s s4 := State.putReel_keeps h (hM.tr rfl)
      clear_value s4
      refine Keeps.ite ?_ ?_
      · exact State.signalReel_keeps hs4 (hS.tr rfl) (hM.tr rfl)
      · exact hs4
  · rename_i a5 a6
    exact h

theorem State.vfEvtCons_keeps {x1 x2 x3} (h : Keeps S M s t) (hS : Sub 0x8017d1000001000000000000004400000000000000220f8000000000000000000000000000080000000000000000080000000600000000000000000000000000000000000000000000000000000000000000000000000000000000000000000000000000000000000 S) (hM : Sub 0x304026 M) :
    Keeps S M s (State.vfEvtCons t x1 x2 x3) := by
  unfold State.vfEvtCons
  refine Keeps.ite ?_ ?_
  · exact h
  · refine Keeps.when ?_ fun u1 h2 => ?_
    · exact State.consume_keeps h (hS.tr rfl) (hM.tr rfl)
    · exact State.armReel_keeps h2 (hS.tr rfl) (hM.tr rfl)

theorem State.d3hot_keeps (h : Keeps S M s t) (hS : Sub 0x800000000000000000000000000000000000000000000000000000000000000000000000000000000000000000000000000000000000000000000000000000000000000000000000000000000000000 S) :
    Keeps S M s (State.d3hot t) := by
  unfold State.d3hot
  refine Keeps.ite ?_ ?_
  · exact State.wr_keeps h (hS.bit rfl)
  · exact h

theorem State.forgetReplies_keeps {x1} (h : Keeps S M s t) (hM : Sub 0x4228 M) :
    Keeps S M s (State.forgetReplies t x1) := by
  unfold State.forgetReplies
  exact Keeps.to_un_pr_at_hs h (hM.tr rfl) rfl rfl

theorem State.pcieReset_keeps (h : Keeps S M s t) (hS : Sub 0x1e0000000000000000000000000000000000000000000000000000000000000000000000001000000000000000000000000000000000000000000000000000000000000000000000000000000000000000000000000000000000000000000000000000000000000000000000000000000000000000 S) (hM : Sub 0x422a M) :
    Keeps S M s (State.pcieReset t) := by
  unfold State.pcieReset
  extract_lets s1 s2 v3 s4
  have hs1 : Keeps S M s s1 := by
    unfold s1
    refine Keeps.foldl h fun u6 x5 h7 => ?_
    exact State.destroyReel_keeps h7 (hM.tr rfl)
  clear_value s1
  have hs2 : Keeps S M s s2 := by
    unfold s2
    refine State.forgetReplies_keeps ?_ (hM.tr rfl)
    exact State.forgetReplies_keeps hs1 (hM.tr rfl)
  clear_value s2
  have hs4 : Keeps S M s s4 := Keeps.to_hs hs2 (hM.tr rfl)
  clear_value s4
  refine State.openBytes_keeps ?_ (hS.tr rfl)
  refine State.wr_keeps ?_ (hS.bit rfl)
  exact State.msixReset_keeps hs4 (hM.tr rfl)

theorem State.hostReset_keeps {x1} (h : Keeps S M s t) (hS : Sub 0x1e0000000000000000000000000000000000000000000000000000005fffff00000c0000001c00000000000000000000000000000000000000000000000000000000000000000000000000000000000000000000000000000000000000000000000000000000000000000000000000000000000000 S) (hM : Sub 0x422a M) :
    Keeps S M s (State.hostReset t x1) := by
  unfold State.hostReset
  extract_lets s1
  have hs1 : Keeps S M s s1 := by
    unfold s1
    refine Keeps.forAll ?_ fun i2 u3 h4 => ?_
    · exact State.pcieReset_keeps h (hS.tr rfl) (hM.tr rfl)
    · refine Keeps.ite ?_ ?_
      · exact h4
      · exact State.vfReset_keeps h4 (hS.tr rfl) (hM.tr rfl)
  clear_value s1
  refine State.bump_keeps ?_ (hS.bit rfl)
  exact State.wrAll_keeps hs1 hS ⟨rfl, rfl, rfl, trivial⟩

theorem State.pf0Flr_keeps {x1} (h : Keeps S M s t) (hS : Sub 0x1e0000000000000000000000000000000000000000000000000000005fffff00000c0000001c00000000000000000000000000000000000000000000000000000000000000000000000000000000000000000000000000000000000000000000000000000000000000000000000000000000000000 S) (hM : Sub 0x422a M) :
    Keeps S M s (State.pf0Flr t x1) := by
  unfold State.pf0Flr
  refine Keeps.ite ?_ ?_
  · refine Keeps.ite ?_ ?_
    · exact State.hostReset_keeps h (hS.tr rfl) (hM.tr rfl)
    · exact h
  · exact State.hostReset_keeps h (hS.tr rfl) (hM.tr rfl)

theorem State.adminDone_keeps {x1 x2 x3} (h : Keeps S M s t) (hS : Sub 0x8020000000000000000000000000000000000000000000000000000000000000000000000000000000000000000000000000000000000000000000000000000000000000000000000000000000000000000000000 S) (hM : Sub 0x104002 M) :
    Keeps S M s (State.adminDone t x1 x2 x3) := by
  unfold State.adminDone
  split
  · rename_i a1 a2
    exact h
  · rename_i a3 a4 a5
    extract_lets r6 s7 s8 v9 s10 v11 v12
    have hs7 : Keeps S M s s7 := State.modReel_keeps h (hM.tr rfl)
    clear_value s7
    have hs8 : Keeps S M s s8 := by
      unfold s8
      refine State.bumpWrap_keeps ?_ (hS.bit rfl)
      exact State.writeEntry_keeps hs7 (hS.tr rfl) (hM.tr rfl)
    clear_value s8
    have hs10 : Keeps S M s s10 := Keeps.to_hs hs8 (hM.tr rfl)
    clear_value s10
    have hv11 : Keeps S M s v11 := State.destroyReel_keeps hs10 (hM.tr rfl)
    clear_value v11
    refine Keeps.ite ?_ ?_
    · exact Keeps.to_hs hv11 (hM.tr rfl)
    · exact hs10

theorem State.adminWait_keeps {x1} (h : Keeps S M s t) (hM : Sub 0x4000 M) :
    Keeps S M s (State.adminWait t x1) := by
  unfold State.adminWait
  exact Keeps.to_hs h (hM.tr rfl)

theorem State.vfFlr_keeps {x1} (h : Keeps S M s t) (hS : Sub 0x5fffff0800000000000000000000000000000000000000000000000000000000000000000000000000000000000000000000000000000000000000000000000000000000000000000000000000000000000000000000000000 S) (hM : Sub 0x4002 M) :
    Keeps S M s (State.vfFlr t x1) := by
  unfold State.vfFlr
  refine Keeps.ite ?_ ?_
  · refine State.bump_keeps ?_ (hS.bit rfl)
    exact State.vfReset_keeps h (hS.tr rfl) (hM.tr rfl)
  · exact h

theorem State.dbIgnored_keeps {x1} (h : Keeps S M s t) (hS : Sub 0x18000000000000000000000000000000000000000000000000000000000000000000000000000000000000000000000000000000000000000000000000000000000000000000000000000000000000000000000 S) :
    Keeps S M s (State.dbIgnored t x1) := by
  unfold State.dbIgnored
  refine State.wr_keeps ?_ (hS.bit rfl)
  exact State.bump_keeps h (hS.bit rfl)

theorem State.createReel_keeps {x1 x2} (h : Keeps S M s t) (hM : Sub 0x4002 M) :
    Keeps S M s (State.createReel t x1 x2) := by
  unfold State.createReel
  extract_lets s1 v2 s3
  have hs1 : Keeps S M s s1 := State.putReel_keeps h (hM.tr rfl)
  clear_value s1
  have hs3 : Keeps S M s s3 := by
    unfold s3
    refine Keeps.ite ?_ ?_
    · exact Keeps.to_ev hs1 (hM.tr rfl)
    · exact hs1
  clear_value s3
  exact State.info_keeps hs3 (hM.tr rfl)

theorem State.vfEvtCfg_keeps {x1 x2} (h : Keeps S M s t) (hS : Sub 0x5f00000000000000000000000000000000000000000000000000000000000000000000000000000000000000000000000000000000000000000000000000000000000000000000000000000000000000000000000000000000 S) (hM : Sub 0x4002 M) :
    Keeps S M s (State.vfEvtCfg t x1 x2) := by
  unfold State.vfEvtCfg
  refine Keeps.ite ?_ ?_
  · exact h
  · extract_lets s1 log2 most3
    have hs1 : Keeps S M s s1 := State.wrAll_keeps h hS ⟨rfl, rfl, rfl, rfl, rfl, trivial⟩
    clear_value s1
    refine Keeps.ite ?_ ?_
    · exact State.destroyReel_keeps hs1 (hM.tr rfl)
    · refine Keeps.ite ?_ ?_
      · exact State.modReel_keeps hs1 (hM.tr rfl)
      · refine Keeps.ite ?_ ?_
        · exact State.wr_keeps hs1 (hS.bit rfl)
        · refine Keeps.ite ?_ ?_
          · exact State.wr_keeps hs1 (hS.bit rfl)
          · refine State.createReel_keeps ?_ (hM.tr rfl)
            exact State.wr_keeps hs1 (hS.bit rfl)

theorem State.dmaError_keeps {x1 x2 x3} (h : Keeps S M s t) (hS : Sub 0x8017d1000001000000000000004400000000000000200f8000000000000000000000000000000000000000000000080000000600000000000000000000000000000000000000000000000000000000000000000000000000000000000000000000000000000000000 S) (hM : Sub 0x304026 M) :
    Keeps S M s (State.dmaError t x1 x2 x3) := by
  unfold State.dmaError
  split
  · rename_i a1 a2
    exact h
  · rename_i a3 a4 a5
    refine Keeps.ite ?_ ?_
    · exact h
    · extract_lets s6 s7 v8
      have hs6 : Keeps S M s s6 := by
        unfold s6
        split
        · rename_i a9 a10
          refine Keeps.ite ?_ ?_
          · exact State.writeEntry_keeps h (hS.tr rfl) (hM.tr rfl)
          · exact h
        · rename_i a11
          exact h
      clear_value s6
      have hs7 : Keeps S M s s7 := State.faultReel_keeps hs6 (hS.tr rfl) (hM.tr rfl)
      clear_value s7
      exact Keeps.to_hs hs7 (hM.tr rfl)

theorem State.linkGone_keeps (h : Keeps S M s t) (hS : Sub 0x30000000000000000000000000000000000000000000000000000000000000000000000000000000000000000000000000000000000000000000000000000000000000000000000000000000000000000 S) (hM : Sub 0x4000 M) :
    Keeps S M s (State.linkGone t) := by
  unfold State.linkGone
  extract_lets v1 v2
  have hv1 : Keeps S M s v1 := State.wrAll_keeps h hS ⟨rfl, rfl, trivial⟩
  clear_value v1
  exact Keeps.to_hs hv1 (hM.tr rfl)

theorem State.perstN_keeps {x1} (h : Keeps S M s t) (hS : Sub 0x1e0000000000000000000000000000000000000000000000000000005fffff00000c0000031c00000000000000000000000000000000000000000000000000000000000000000000000000000000000000000000000000000000000000000000000000000000000000000000000000000000000000 S) (hM : Sub 0x422a M) :
    Keeps S M s (State.perstN t x1) := by
  unfold State.perstN
  refine Keeps.ite ?_ ?_
  · extract_lets s1 v2
    have hs1 : Keeps S M s s1 := by
      unfold s1
      refine State.linkGone_keeps ?_ (hS.tr rfl) (hM.tr rfl)
      exact State.hostReset_keeps h (hS.tr rfl) (hM.tr rfl)
    clear_value s1
    exact Keeps.to_hs hs1 (hM.tr rfl)
  · exact Keeps.to_hs h (hM.tr rfl)

theorem State.mergerRecordIn_keeps {x1 x2 x3 x4 x5 x6} (h : Keeps S M s t) (hS : Sub 0x1e000008017d100000100000000000000440000000000000020000000000000000000000000000000000000000000004f79080000000600000000000000000000000000000000000000000000000000000000000000000000000000000000000000000000000000000000000 S) (hM : Sub 0x2b04226 M) :
    Keeps S M s (State.mergerRecordIn t x1 x2 x3 x4 x5 x6) := by
  unfold State.mergerRecordIn
  refine Keeps.ite ?_ ?_
  · exact h
  · extract_lets r1 s2 v3
    have hs2 : Keeps S M s s2 := State.wr_keeps h (hS.bit rfl)
    clear_value s2
    refine Keeps.ite ?_ ?_
    · refine State.emitRecord_keeps ?_ (hS.tr rfl) (hM.tr rfl)
      exact Keeps.to_ev hs2 (hM.tr rfl)
    · exact State.hold_keeps hs2 (hM.tr rfl)

theorem State.doorbellConsArm_keeps {x1 x2 x3} (h : Keeps S M s t) (hS : Sub 0x8017d10000010000000000000044000000000000003a0f8000000000000000000000000000080000000000000000080000000600000000000000000000000000000000000000000000000000000000000000000000000000000000000000000000000000000000000 S) (hM : Sub 0x304026 M) :
    Keeps S M s (State.doorbellConsArm t x1 x2 x3) := by
  unfold State.doorbellConsArm
  refine Keeps.ite ?_ ?_
  · exact State.dbIgnored_keeps h (hS.tr rfl)
  · refine State.armReel_keeps ?_ (hS.tr rfl) (hM.tr rfl)
    exact State.consume_keeps h (hS.tr rfl) (hM.tr rfl)

theorem State.timeSnapshot_keeps {x1 x2} (h : Keeps S M s t) (hS : Sub 0x3fff0000000000000000000000000000000000000000000000000000000000000000000000000000000000000000000000000000000000000000000000000000000000000000000000000000000000000000000000000000 S) :
    Keeps S M s (State.timeSnapshot t x1 x2) := by
  unfold State.timeSnapshot
  refine Keeps.ite ?_ ?_
  · exact h
  · extract_lets d1 valid2 t3 s4 s5
    have hs4 : Keeps S M s s4 := State.bumpWrap_keeps h (hS.bit rfl)
    clear_value s4
    have hs5 : Keeps S M s s5 := by
      unfold s5
      refine Keeps.forAll hs4 fun i6 u7 h8 => ?_
      exact State.wr_keeps h8 (hS.bit rfl)
    clear_value s5
    exact State.wrAll_keeps hs5 hS ⟨rfl, rfl, rfl, rfl, rfl, rfl, rfl, rfl, rfl, rfl, rfl, rfl, trivial⟩

theorem State.notifyReview_keeps (h : Keeps S M s t) (hS : Sub 0x20000000000000000000000000000000000000000000000000000000000000000000000000000000000000000000000000000000000000000000000000000000000000000000000000000000000000000000000 S) (hM : Sub 0x104000 M) :
    Keeps S M s (State.notifyReview t) := by
  unfold State.notifyReview
  extract_lets cur1 v2
  refine Keeps.ite ?_ ?_
  · exact h
  · refine Keeps.forAll ?_ fun i3 u4 h5 => ?_
    · exact Keeps.to_hs h (hM.tr rfl)
    · refine Keeps.when h5 fun u6 h7 => ?_
      exact State.sendMsix_keeps h7 (hS.tr rfl) (hM.tr rfl)

theorem State.descriptorRelease_keeps {x1 x2} (h : Keeps S M s t) (hS : Sub 0x8017d1000001000000000000004400000000000000220f8000000000000000000000000000080000000000000000080000000600000000000000000000000000000000000000000000000000000000000000000000000000000000000000000000000000000000000 S) (hM : Sub 0x304026 M) :
    Keeps S M s (State.descriptorRelease t x1 x2) := by
  unfold State.descriptorRelease
  split
  · rename_i a1 a2
    exact h
  · rename_i a3 a4 a5
    split
    · rename_i a6 a7
      exact h
    · rename_i a8 a9 a10 a11
      refine Keeps.ite ?_ ?_
      · exact h
      · extract_lets s12
        have hs12 : Keeps S M s s12 := State.putReel_keeps h (hM.tr rfl)
        clear_value s12
        refine Keeps.foldl hs12 fun u14 x13 h15 => ?_
        exact State.takeFetched_keeps h15 (hS.tr rfl) (hM.tr rfl)

theorem State.hostLinkDown_keeps (h : Keeps S M s t) (hS : Sub 0x1e000000000000000000000008017d100000100000000000000440005fffff00000e0000035c00000000000000000000000000000000000000000080000000600000000000000000000000000000000000000000000000000000000000000000000000000000000000000000000000000000000000 S) (hM : Sub 0x30422e M) :
    Keeps S M s (State.hostLinkDown t) := by
  unfold State.hostLinkDown
  refine Keeps.ite ?_ ?_
  · exact h
  · refine State.fault_keeps ?_ (hS.tr rfl) (hM.tr rfl)
    refine State.bump_keeps ?_ (hS.bit rfl)
    refine State.linkGone_keeps ?_ (hS.tr rfl) (hM.tr rfl)
    exact State.hostReset_keeps h (hS.tr rfl) (hM.tr rfl)

theorem State.descriptorFetched_keeps {x1 x2} (h : Keeps S M s t) (hS : Sub 0x8017d1000001000000000000004400000000000000260f8000000000000000000000000000080000000000000000080000000600000000000000000000000000000000000000000000000000000000000000000000000000000000000000000000000000000000000 S) (hM : Sub 0x304026 M) :
    Keeps S M s (State.descriptorFetched t x1 x2) := by
  unfold State.descriptorFetched
  split
  · rename_i a1 a2
    exact h
  · rename_i a3 a4 a5
    refine Keeps.ite ?_ ?_
    · exact h
    · refine State.takeFetched_keeps ?_ (hS.tr rfl) (hM.tr rfl)
      refine State.faultOnce_keeps ?_ (hS.tr rfl) (hM.tr rfl)
      exact State.bump_keeps h (hS.bit rfl)

theorem State.doorbellProd_keeps {x1 x2 x3} (h : Keeps S M s t) (hS : Sub 0x8017d1000001000000000000004400000000000000380f8000000000000000000000000000000000000000000000080000000600000000000000000000000000000000000000000000000000000000000000000000000000000000000000000000000000000000000 S) (hM : Sub 0x304026 M) :
    Keeps S M s (State.doorbellProd t x1 x2 x3) := by
  unfold State.doorbellProd
  split
  · rename_i a1 a2
    exact State.dbIgnored_keeps h (hS.tr rfl)
  · rename_i a3 a4 a5
    refine Keeps.ite ?_ ?_
    · exact State.dbIgnored_keeps h (hS.tr rfl)
    · refine Keeps.ite ?_ ?_
      · exact h
      · extract_lets v6
        refine Keeps.ite ?_ ?_
        · exact State.faultReel_keeps h (hS.tr rfl) (hM.tr rfl)
        · refine Keeps.ite ?_ ?_
          · exact h
          · exact State.putReel_keeps h (hM.tr rfl)

theorem State.doorbellCons_keeps {x1 x2 x3} (h : Keeps S M s t) (hS : Sub 0x8017d10000010000000000000044000000000000003a0f8000000000000000000000000000080000000000000000080000000600000000000000000000000000000000000000000000000000000000000000000000000000000000000000000000000000000000000 S) (hM : Sub 0x304026 M) :
    Keeps S M s (State.doorbellCons t x1 x2 x3) := by
  unfold State.doorbellCons
  refine Keeps.ite ?_ ?_
  · exact State.dbIgnored_keeps h (hS.tr rfl)
  · exact State.consume_keeps h (hS.tr rfl) (hM.tr rfl)

end Sys2Proof.Machine
end

