-- ==== Sys2Proof/Laws/KeepsAttic.lean ====
section
/-! SUPPORT. What each operation of Machine/Attic.lean may change (`Keeps`): the bits of the first mask are numbers of register
fields, those of the second the numbers `P.…` of the parts of the state. -/

set_option Elab.async false

namespace Sys2Proof.Machine

variable {S M : Nat} {s t u v : State}

theorem State.writePages_keeps {x1 x2 x3 x4} (h : Keeps S M s t) (hM : Sub 0x6a00200 M) :
    Keeps S M s (State.writePages t x1 x2 x3 x4) := by
  unfold State.writePages
  extract_lets s1 junk2
  have hs1 : Keeps S M s s1 := State.atticWrite_keeps h (hM.tr rfl)
  clear_value s1
  refine Keeps.ite ?_ ?_
  · refine State.drawn_keeps ?_ (hM.tr rfl)
    exact State.atticWrite_keeps hs1 (hM.tr rfl)
  · exact hs1

theorem State.atticFault_keeps {x1 x2 x3} (h : Keeps S M s t) (hS : Sub 0x8017d100000100000000000000440000000000000020000000000000000000000000000000000000000000000000080000000600000000000000000000000000000000000000000000000000000000000000000000000000000000000000000000000000000000000 S) (hM : Sub 0x304026 M) :
    Keeps S M s (State.atticFault t x1 x2 x3) := by
  unfold State.atticFault
  exact State.fault_keeps h (hS.tr rfl) (hM.tr rfl)

theorem State.repairDone_keeps {x1 x2 x3} (h : Keeps S M s t) (hS : Sub 0x8017d100000100000000000000440000000000000020000000000000000000000000000000000000000000000000080000000600000000000000000000000000000000000000000000000000000000000000000000000000000000000000000000000000000000000 S) (hM : Sub 0x6b0422e M) :
    Keeps S M s (State.repairDone t x1 x2 x3) := by
  unfold State.repairDone
  extract_lets copyB1 bs2 a3 s4 v5 s6 s7 s8
  have hs4 : Keeps S M s s4 := by
    unfold s4
    split
    · rename_i a9
      exact State.atticWrite_keeps h (hM.tr rfl)
    · rename_i a10 a11
      exact State.writePages_keeps h (hM.tr rfl)
  clear_value s4
  have hs6 : Keeps S M s s6 := Keeps.to_at_ hs4 (hM.tr rfl) rfl rfl
  clear_value s6
  have hs7 : Keeps S M s s7 := by
    unfold s7
    refine State.lifeBump_keeps ?_ (hS.tr rfl) (hM.tr rfl)
    exact State.atticFault_keeps hs6 (hS.tr rfl) (hM.tr rfl)
  clear_value s7
  have hs8 : Keeps S M s s8 := by
    unfold s8
    refine Keeps.when hs7 fun u12 h13 => ?_
    exact State.atticFault_keeps h13 (hS.tr rfl) (hM.tr rfl)
  clear_value s8
  refine Keeps.ite ?_ ?_
  · exact State.flushLife_keeps hs8 (hM.tr rfl)
  · exact State.portStarts_keeps hs8 (hM.tr rfl)

theorem State.stage__keeps {x1} (h : Keeps S M s t) (hM : Sub 0x1000200 M) :
    Keeps S M s (State.stage_ t x1) := by
  unfold State.stage_
  exact { h with
    at_ := fun hk => by rw [hM.bit (i := 9) (by decide)] at hk; cases hk
    staging := fun w => Memory.wf_writeBytes _ _ (h.staging w)
    stg := fun hk => by rw [hM.bit (i := 24) (by decide)] at hk; cases hk }

theorem State.mbResult_keeps {x1} (h : Keeps S M s t) (hS : Sub 0x3800000000000000000000000000000000000000000000000000000000000000000000000000000000000000000000000000000000000000000000000000000000000000000000000000000000000000000000000000000000000000000000000000000000000000000000 S) :
    Keeps S M s (State.mbResult t x1) := by
  unfold State.mbResult
  exact State.wrAll_keeps h hS ⟨rfl, rfl, rfl, trivial⟩

theorem State.mbRawRead_keeps (h : Keeps S M s t) (hS : Sub 0x3800000000000000000000000000000000000000000000000000000000000000000000000000000000000000000000000000000000000000000000000000000000000000000000000000000000000000000000000000000000000000000000000000000000000000000000 S) (hM : Sub 0x1000200 M) :
    Keeps S M s (State.mbRawRead t) := by
  unfold State.mbRawRead
  extract_lets p1 s2
  have hs2 : Keeps S M s s2 := State.stage__keeps h (hM.tr rfl)
  clear_value s2
  exact State.mbResult_keeps hs2 (hS.tr rfl)

theorem State.rawWrite_keeps {x1 x2 x3} (h : Keeps S M s t) (hM : Sub 0x6800200 M) :
    Keeps S M s (State.rawWrite t x1 x2 x3) := by
  unfold State.rawWrite
  extract_lets n1
  refine Keeps.when ?_ fun u2 h3 => ?_
  · exact State.atticWrite_keeps h (hM.tr rfl)
  · exact State.atticWrite_keeps h3 (hM.tr rfl)

theorem State.retireListDone_keeps {x1} (h : Keeps S M s t) (hS : Sub 0x1c000000000000000000000000000000000000000000000000000000000000008020000000000000000000000000000000000000000000000000000000000000000000000000000000000000000000000000000000000000400000000000000000000000000000000000000000000000000000000 S) (hM : Sub 0x10400a M) :
    Keeps S M s (State.retireListDone t x1) := by
  unfold State.retireListDone
  extract_lets due1 v2 s3 s4 more5
  have hs3 : Keeps S M s s3 := Keeps.to_un h (hM.tr rfl)
  clear_value s3
  have hs4 : Keeps S M s s4 := by
    unfold s4
    refine Keeps.foldl hs3 fun u7 x6 h8 => ?_
    extract_lets st9
    refine Keeps.ite ?_ ?_
    · exact State.adminDone_keeps h8 (hS.tr rfl) (hM.tr rfl)
    · exact State.wrAll_keeps h8 hS ⟨rfl, rfl, rfl, trivial⟩
  clear_value s4
  exact State.wrB_keeps hs4 (hS.bit rfl)

theorem State.commitReply_keeps {x1 x2 x3} (h : Keeps S M s t) (hS : Sub 0x1c000000000000000007000000000000000000000000000000000000000000008020000000000000000000000000000000000000000000000000000000000000000000000000000000000000000000000000000000000001400000000000000000000000000000000000000000000000000000000 S) (hM : Sub 0x10400a M) :
    Keeps S M s (State.commitReply t x1 x2 x3) := by
  unfold State.commitReply
  extract_lets seq1 flags2
  refine Keeps.ite ?_ ?_
  · refine State.retireListDone_keeps ?_ (hS.tr rfl) (hM.tr rfl)
    exact State.wr_keeps h (hS.bit rfl)
  · refine Keeps.ite ?_ ?_
    · exact State.adminDone_keeps h (hS.tr rfl) (hM.tr rfl)
    · refine Keeps.ite ?_ ?_
      · exact State.wrAll_keeps h hS ⟨rfl, rfl, rfl, trivial⟩
      · exact h

theorem State.portNext_keeps (h : Keeps S M s t) (hM : Sub 0x2000208 M) :
    Keeps S M s (State.portNext t) := by
  unfold State.portNext
  extract_lets v1 s2
  have hs2 : Keeps S M s s2 := Keeps.to_at_ h (hM.tr rfl) rfl rfl
  clear_value s2
  refine Keeps.ite ?_ ?_
  · exact State.flushLife_keeps hs2 (hM.tr rfl)
  · exact State.portStarts_keeps hs2 (hM.tr rfl)

theorem State.commitRegs_keeps {x1 x2 x3 x4} (h : Keeps S M s t) (hS : Sub 0xfc00000008017d100000100000000000000440000000000000020000000000000000000000000000000000000000000000000080000000600000000000000000000000000000000000000000000000000000000000000000000000000000000000000000000000000000000000 S) (hM : Sub 0x304026 M) :
    Keeps S M s (State.commitRegs t x1 x2 x3 x4) := by
  unfold State.commitRegs
  extract_lets s1 s2
  have hs1 : Keeps S M s s1 := State.wrAll_keeps h hS ⟨rfl, rfl, rfl, rfl, trivial⟩
  clear_value s1
  have hs2 : Keeps S M s s2 := by
    unfold s2
    refine Keeps.when hs1 fun u3 h4 => ?_
    exact State.bumpWrap_keeps h4 (hS.bit rfl)
  clear_value s2
  refine Keeps.when hs2 fun u5 h6 => ?_
  refine State.atticFault_keeps ?_ (hS.tr rfl) (hM.tr rfl)
  exact State.bump_keeps h6 (hS.bit rfl)

theorem State.commitDone_keeps {x1 x2} (h : Keeps S M s t) (hS : Sub 0x1c0000000000000fc00700008017d100000100000000000000440000000000008020000000000000000000000000000000000000000000000000080000000600000000000000000000000000000000000000000000000001400000000000000000000000000000000000000000000000000000000 S) (hM : Sub 0x6b0422e M) :
    Keeps S M s (State.commitDone t x1 x2) := by
  unfold State.commitDone
  split
  · rename_i a1 a2
    exact h
  · rename_i a3 a4 a5 a6
    split
    · rename_i a7 a8
      exact State.portNext_keeps h (hM.tr rfl)
    · rename_i a9 a10 a11
      refine Keeps.ite ?_ ?_
      · exact State.repairDone_keeps h (hS.tr rfl) (hM.tr rfl)
      · extract_lets b12 a13 last14 p15 s16 v17 s18 s19 s20
        have hp15 : Keeps S M s p15.1 := by
          unfold p15
          split
          · rename_i a21
            dsimp only
            refine State.atticWrite_keeps ?_ (hM.tr rfl)
            exact State.atticWrite_keeps h (hM.tr rfl)
          · rename_i a22 a23
            dsimp only
            refine State.writePages_keeps ?_ (hM.tr rfl)
            exact State.atticWrite_keeps h (hM.tr rfl)
          · rename_i a24 a25
            dsimp only
            exact State.writePages_keeps h (hM.tr rfl)
        clear_value p15
        have hs16 : Keeps S M s s16 := by
          unfold s16
          exact hp15
        clear_value s16
        have hs18 : Keeps S M s s18 := Keeps.to_at_ hs16 (hM.tr rfl) rfl rfl
        clear_value s18
        have hs19 : Keeps S M s s19 := State.commitRegs_keeps hs18 (hS.tr rfl) (hM.tr rfl)
        clear_value s19
        have hs20 : Keeps S M s s20 := State.commitReply_keeps hs19 (hS.tr rfl) (hM.tr rfl)
        clear_value s20
        refine State.portNext_keeps ?_ (hM.tr rfl)
        refine Keeps.when hs20 fun u26 h27 => ?_
        exact State.lifeBump_keeps h27 (hS.tr rfl) (hM.tr rfl)

theorem State.refreshed_keeps {x1} (h : Keeps S M s t) (hS : Sub 0x200000000000000000000000000000000000000000000000000000000000000000000000000000000000000000000000000000000000000000000000000000000000000000000000000000000000000000000000000000000000000000000000000000000000000000000000 S) (hM : Sub 0x2 M) :
    Keeps S M s (State.refreshed t x1) := by
  unfold State.refreshed
  refine State.info_keeps ?_ (hM.tr rfl)
  exact State.bump_keeps h (hS.bit rfl)

theorem State.stagingNext_keeps (h : Keeps S M s t) (hS : Sub 0x40000000000000000000000000000000000000000000000000000000000000000000000000000000000000000000000000000000000000000000000000000000000000000000000000000000000000000000000000000000000000000000000000000000000000000000 S) :
    Keeps S M s (State.stagingNext t) := by
  unfold State.stagingNext
  exact State.wr_keeps h (hS.bit rfl)

theorem State.queueRepair_keeps {x1 x2 x3 x4} (h : Keeps S M s t) (hM : Sub 0x208 M) :
    Keeps S M s (State.queueRepair t x1 x2 x3 x4) := by
  unfold State.queueRepair
  refine Keeps.ite ?_ ?_
  · exact h
  · exact State.portRequest_keeps h (hM.tr rfl)

theorem State.noteChosen_keeps {x1 x2 x3 x4} (h : Keeps S M s t) (hS : Sub 0x200000008017d100000100000000000000440000000000000020000000000000000000000000000000000000000000000000080000000600000000000000000000000000000000000000000000000000000000000000000000000000000000000000000000000000000000000 S) (hM : Sub 0x30422e M) :
    Keeps S M s (State.noteChosen t x1 x2 x3 x4) := by
  unfold State.noteChosen
  extract_lets s1 v2 s3
  have hs1 : Keeps S M s s1 := by
    unfold s1
    refine Keeps.when h fun u4 h5 => ?_
    refine State.atticFault_keeps ?_ (hS.tr rfl) (hM.tr rfl)
    exact State.bumpBy_keeps h5 (hS.bit rfl)
  clear_value s1
  have hs3 : Keeps S M s s3 := by
    unfold s3
    refine Keeps.ite ?_ ?_
    · refine State.info_keeps ?_ (hM.tr rfl)
      exact Keeps.to_at_ hs1 (hM.tr rfl) rfl rfl
    · exact hs1
  clear_value s3
  split
  · rename_i a6 a7 a8
    refine Keeps.ite ?_ ?_
    · exact hs3
    · refine State.queueRepair_keeps ?_ (hM.tr rfl)
      exact State.bump_keeps hs3 (hS.bit rfl)
  · rename_i a9 a10
    exact hs3

theorem State.noteLife_keeps (h : Keeps S M s t) (hS : Sub 0x8017d100000100000000000000440000000000000020000000000000000000000000000000000000000000000000080000000600000000000000000000000000000000000000000000000000000000000000000000000000000000000000000000000000000000000 S) (hM : Sub 0x304026 M) :
    Keeps S M s (State.noteLife t) := by
  unfold State.noteLife
  refine Keeps.forAll h fun i1 u2 h3 => ?_
  refine Keeps.when h3 fun u4 h5 => ?_
  exact State.atticFault_keeps h5 (hS.tr rfl) (hM.tr rfl)

theorem State.readRecord_keeps {x1 x2} (h : Keeps S M s t) (hS : Sub 0x200000008017d100000100000000000000440000000000000020000000000000000000000000000000000000000000000000080000000600000000000000000000000000000000000000000000000000000000000000000000000000000000000000000000000000000000000 S) (hM : Sub 0x30422e M) :
    Keeps S M s (State.readRecord t x1 x2).1 := by
  unfold State.readRecord
  split
  · rename_i a1 a2
    dsimp only
    exact h
  · rename_i a3 a4 a5
    split
    · rename_i a6
      extract_lets c7
      dsimp only
      exact State.noteChosen_keeps h (hS.tr rfl) (hM.tr rfl)
    · rename_i a8
      split
      · rename_i a9
        dsimp only
        refine State.drawn_keeps ?_ (hM.tr rfl)
        exact State.noteLife_keeps h (hS.tr rfl) (hM.tr rfl)
      · rename_i a10
        split
        · rename_i a11
          dsimp only
          exact h
        · rename_i a12
          dsimp only
          exact h

theorem State.mbRead_keeps (h : Keeps S M s t) (hS : Sub 0x200790008017d100000100000000000000440000000000000020000000000000000000000000000000000000000000000000080000000600000000000000000000000000000000000000000000000000000000000000000000000000000000000000000000000000000000000 S) (hM : Sub 0x130422e M) :
    Keeps S M s (State.mbRead t) := by
  unfold State.mbRead
  extract_lets t1 inst2 p3
  have hp3 : Keeps S M s p3.1 := by
    unfold p3
    exact State.readRecord_keeps h (hS.tr rfl) (hM.tr rfl)
  clear_value p3
  refine Keeps.ite ?_ ?_
  · exact State.mbResult_keeps h (hS.tr rfl)
  · split
    · rename_i a4 a5
      exact State.mbResult_keeps hp3 (hS.tr rfl)
    · rename_i a6 a7 a8
      refine State.wrAll_keeps ?_ hS ⟨rfl, rfl, rfl, trivial⟩
      refine State.mbResult_keeps ?_ (hS.tr rfl)
      exact State.stage__keeps hp3 (hM.tr rfl)

theorem State.useRecord_keeps {x1 x2} (h : Keeps S M s t) (hS : Sub 0x200000008017d100000100000000000000440000000000000020000000000000000000000000000000000000000000000000080000000600000000000000000000000000000000000000000000000000000000000000000000000000000000000000000000000000000000000 S) (hM : Sub 0x30422e M) :
    Keeps S M s (State.useRecord t x1 x2).1 := by
  unfold State.useRecord
  split
  · rename_i a1 a2
    dsimp only
    exact h
  · rename_i a3 a4 a5
    extract_lets c6 alien7 s8 s9
    have hs8 : Keeps S M s s8 := State.noteChosen_keeps h (hS.tr rfl) (hM.tr rfl)
    clear_value s8
    have hs9 : Keeps S M s s9 := by
      unfold s9
      refine Keeps.when hs8 fun u10 h11 => ?_
      exact State.atticFault_keeps h11 (hS.tr rfl) (hM.tr rfl)
    clear_value s9
    dsimp only
    exact hs9

theorem State.stopCommit_keeps {x1} (h : Keeps S M s t) (hS : Sub 0x20000000000000000000000000000000000000000000000000000000000000000000000000000000000000000000000000000000000000000000000000000000000000000000000000000000000000000000000000000000000000000000000000000000000000000000000000 S) (hM : Sub 0x6a00200 M) :
    Keeps S M s (State.stopCommit t x1) := by
  unfold State.stopCommit
  split
  · rename_i a1 a2
    exact h
  · rename_i a3 a4 a5 a6
    extract_lets n7 s8 v9
    have hs8 : Keeps S M s s8 := by
      unfold s8
      split
      · rename_i a10 a11
        exact h
      · rename_i a12 a13 a14
        extract_lets bytes15 b16 a17 s18 s19
        have hs18 : Keeps S M s s18 := State.writePages_keeps h (hM.tr rfl)
        clear_value s18
        have hs19 : Keeps S M s s19 := by
          unfold s19
          refine Keeps.when hs18 fun u20 h21 => ?_
          exact State.writePages_keeps h21 (hM.tr rfl)
        clear_value s19
        refine Keeps.ite ?_ ?_
        · exact State.writePages_keeps h (hM.tr rfl)
        · exact State.wr_keeps hs19 (hS.bit rfl)
    clear_value s8
    exact Keeps.to_at_ hs8 (hM.tr rfl) rfl rfl

theorem State.stagingPut_keeps {x1} (h : Keeps S M s t) (hS : Sub 0x40000000000000000000000000000000000000000000000000000000000000000000000000000000000000000000000000000000000000000000000000000000000000000000000000000000000000000000000000000000000000000000000000000000000000000000 S) (hM : Sub 0x1000200 M) :
    Keeps S M s (State.stagingPut t x1) := by
  unfold State.stagingPut
  refine State.stagingNext_keeps ?_ (hS.tr rfl)
  exact { h with
    at_ := fun hk => by rw [hM.bit (i := 9) (by decide)] at hk; cases hk
    staging := fun w => Memory.wf_writeBytes _ _ (h.staging w)
    stg := fun hk => by rw [hM.bit (i := 24) (by decide)] at hk; cases hk }

theorem State.loadLastGasp_keeps (h : Keeps S M s t) (hS : Sub 0xf00000000000000000000000000000000000000000000000000000000000000000000000000000000000000000000000000000000000000000000000000000000000000000000000000000000000000000000000000000000000000000000000000000000000000000000000000 S) :
    Keeps S M s (State.loadLastGasp t) := by
  unfold State.loadLastGasp
  split
  · rename_i a1 a2
    exact h
  · rename_i a3 a4 a5
    extract_lets p6
    exact State.wrAll_keeps h hS ⟨rfl, rfl, rfl, rfl, trivial⟩

theorem State.lastGasp_keeps {x1 x2} (h : Keeps S M s t) (hS : Sub 0x200e0000000000000000000000000000000000000000000000000000000000000000000000000000000000000000000000000000000000000000000000000000000000000000000000000000000000000000000000000000000000000000000000000000000000000000000000 S) (hM : Sub 0x6a00200 M) :
    Keeps S M s (State.lastGasp t x1 x2) := by
  unfold State.lastGasp
  split
  · rename_i a1 a2
    exact h
  · rename_i a3 a4 a5 a6
    extract_lets s7 s8 s9 v10
    have hs7 : Keeps S M s s7 := State.stopCommit_keeps h (hS.tr rfl) (hM.tr rfl)
    clear_value s7
    have hs8 : Keeps S M s s8 := State.writeSlot_keeps hs7 (.inr rfl) (hM.tr rfl)
    clear_value s8
    have hs9 : Keeps S M s s9 := by
      unfold s9
      refine State.logPageWrite_keeps ?_ (hS.tr rfl) (hM.tr rfl)
      exact State.flushLife_keeps hs8 (hM.tr rfl)
    clear_value s9
    exact Keeps.to_at_ hs9 (hM.tr rfl) rfl rfl

theorem State.powerOnHour_keeps (h : Keeps S M s t) (hS : Sub 0x8017d100000100000000000000440000000000000020000000000000000000000000000000000000000000000000080000000600000000000000000000000000000000000000000000000000000000000000000000000000000000000000000000000000000000000 S) (hM : Sub 0x2304226 M) :
    Keeps S M s (State.powerOnHour t) := by
  unfold State.powerOnHour
  refine Keeps.ite ?_ ?_
  · exact h
  · extract_lets s1 s2 s3 s4 v5
    have hs1 : Keeps S M s s1 := State.lifeBump_keeps h (hS.tr rfl) (hM.tr rfl)
    clear_value s1
    have hs2 : Keeps S M s s2 := by
      unfold s2
      refine Keeps.when hs1 fun u6 h7 => ?_
      exact State.lifeBump_keeps h7 (hS.tr rfl) (hM.tr rfl)
    clear_value s2
    have hs3 : Keeps S M s s3 := by
      unfold s3
      split
      · rename_i a8 a9 a10
        extract_lets n11 s12 v13
        have hs12 : Keeps S M s s12 := State.lifeBump_keeps hs2 (hS.tr rfl) (hM.tr rfl)
        clear_value s12
        exact Keeps.to_at_ hs12 (hM.tr rfl) rfl rfl
      · rename_i a14 a15
        exact hs2
    clear_value s3
    have hs4 : Keeps S M s s4 := by
      unfold s4
      refine Keeps.when hs3 fun u16 h17 => ?_
      exact State.lifeBump_keeps h17 (hS.tr rfl) (hM.tr rfl)
    clear_value s4
    exact Keeps.to_at_ hs4 (hM.tr rfl) rfl rfl

theorem State.mbWrite_keeps (h : Keeps S M s t) (hS : Sub 0x3800000000000000000000000000000000000000000000000000000000000000000000000000000000000000000000000000000000000000000000000000000000000000000000000000000000000000000000000000000000000000000000000000000000000000000000 S) (hM : Sub 0x208 M) :
    Keeps S M s (State.mbWrite t) := by
  unfold State.mbWrite
  extract_lets t1 inst2 len3
  split
  · rename_i a4 a5
    exact State.mbResult_keeps h (hS.tr rfl)
  · rename_i a6 a7 a8
    refine Keeps.ite ?_ ?_
    · exact State.mbResult_keeps h (hS.tr rfl)
    · refine Keeps.ite ?_ ?_
      · exact State.mbResult_keeps h (hS.tr rfl)
      · refine Keeps.ite ?_ ?_
        · exact State.mbResult_keeps h (hS.tr rfl)
        · refine Keeps.ite ?_ ?_
          · exact State.mbResult_keeps h (hS.tr rfl)
          · refine State.portRequest_keeps ?_ (hM.tr rfl)
            exact State.mbResult_keeps h (hS.tr rfl)

theorem State.scanPage_keeps {x1 x2 x3} (h : Keeps S M s t) (hS : Sub 0x3e0000008017d100000100000000000000440000000000000020000000000000000000000000000000000000000000000000080000000600000000000000000000000000000000000000000000000000000000000000000000000000000000000000000000000000000000000 S) (hM : Sub 0x30422e M) :
    Keeps S M s (State.scanPage t x1 x2 x3) := by
  unfold State.scanPage
  extract_lets p1 s2 gs3 v4 s5 s6 s7
  have hs2 : Keeps S M s s2 := State.wr_keeps h (hS.bit rfl)
  clear_value s2
  have hs5 : Keeps S M s s5 := Keeps.to_at_ hs2 (hM.tr rfl) rfl rfl
  clear_value s5
  have hs6 : Keeps S M s s6 := State.bumpBy_keeps hs5 (hS.bit rfl)
  clear_value s6
  have hs7 : Keeps S M s s7 := by
    unfold s7
    refine Keeps.when hs6 fun u8 h9 => ?_
    exact State.refreshed_keeps h9 (hS.tr rfl) (hM.tr rfl)
  clear_value s7
  refine Keeps.ite ?_ ?_
  · split
    · rename_i a10 a11
      exact hs2
    · rename_i a12 a13 a14 a15 a16 a17
      split
      · rename_i a18 a19
        exact hs2
      · rename_i a20 a21 a22
        extract_lets valid23 s24
        have hs24 : Keeps S M s s24 := by
          unfold s24
          refine Keeps.when hs2 fun u25 h26 => ?_
          exact State.refreshed_keeps h26 (hS.tr rfl) (hM.tr rfl)
        clear_value s24
        refine Keeps.ite ?_ ?_
        · exact State.noteChosen_keeps hs24 (hS.tr rfl) (hM.tr rfl)
        · exact hs24
  · refine Keeps.foldl hs7 fun u28 x27 h29 => ?_
    refine State.atticFault_keeps ?_ (hS.tr rfl) (hM.tr rfl)
    exact State.bump_keeps h29 (hS.bit rfl)

theorem State.mbRawWrite_keeps (h : Keeps S M s t) (hS : Sub 0x3800000000000000000000000000000000000000000000000000000000000000000000000000000000000000000000000000000000000000000000000000000000000000000000000000000000000000000000000000000000000000000000000000000000000000000000 S) (hM : Sub 0x6800200 M) :
    Keeps S M s (State.mbRawWrite t) := by
  unfold State.mbRawWrite
  extract_lets p1 len2
  refine Keeps.ite ?_ ?_
  · exact State.mbResult_keeps h (hS.tr rfl)
  · refine Keeps.ite ?_ ?_
    · refine State.mbResult_keeps ?_ (hS.tr rfl)
      exact State.rawWrite_keeps h (hM.tr rfl)
    · exact State.mbResult_keeps h (hS.tr rfl)

end Sys2Proof.Machine
end

