-- ==== Sys2Proof/Laws/KeepsAccess.lean ====
section
/-! SUPPORT. What each operation of Machine/Access.lean may change (`Keeps`): the bits of the first mask are numbers of register
fields, those of the second the numbers `P.…` of the parts of the state. -/

set_option Elab.async false

namespace Sys2Proof.Machine

variable {S M : Nat} {s t u v : State}

theorem State.accessFault_keeps {x1 x2 x3 x4} (h : Keeps S M s t) (hS : Sub 0x8017d100000100000000000000440000000000000020000000000000000000000000000000000000000000000000080000000600000000000000000000000000000000000000000000000000000000000000000000000000000000000000000000000000000000000 S) (hM : Sub 0x304026 M) :
    Keeps S M s (State.accessFault t x1 x2 x3 x4) := by
  unfold State.accessFault
  exact State.raise_keeps h (hS.tr rfl) (hM.tr rfl)

theorem State.noteLocked_keeps {x1 x2 x3} (h : Keeps S M s t) (hS : Sub 0x10000000000000008017d100000100000000000000440000000000000020000000000000000000000000000000000000000000000000080000000600000000000000000000000000000000000000000000000000000000000000000000000000000000000000000000000000000000000 S) (hM : Sub 0x304026 M) :
    Keeps S M s (State.noteLocked t x1 x2 x3) := by
  unfold State.noteLocked
  refine State.accessFault_keeps ?_ (hS.tr rfl) (hM.tr rfl)
  exact State.bump_keeps h (hS.bit rfl)

theorem State.outcome_keeps {x1 x2 x3} (h : Keeps S M s t) (hS : Sub 0x40e0000000000000000000000000000000000000000000000000000000000000000000000000000000000000000000000000000000000000000000000000000000000000000000000000000000000000000000000000000000000000000000000000000000000000000000000000000000 S) :
    Keeps S M s (State.outcome t x1 x2 x3) := by
  unfold State.outcome
  extract_lets s1
  have hs1 : Keeps S M s s1 := by
    unfold s1
    refine Keeps.when h fun u2 h3 => ?_
    exact State.bump_keeps h3 (hS.bit rfl)
  clear_value s1
  split
  · rename_i a4 a5
    exact hs1
  · rename_i a6 a7 a8
    extract_lets s9
    have hs9 : Keeps S M s s9 := State.wrAll_keeps hs1 hS ⟨rfl, rfl, trivial⟩
    clear_value s9
    refine Keeps.when hs9 fun u10 h11 => ?_
    exact State.bump_keeps h11 (hS.bit rfl)

theorem State.noteNotOwner_keeps {x1 x2 x3} (h : Keeps S M s t) (hS : Sub 0x20000000000000008017d100000100000000000000440000000000000020000000000000000000000000000000000000000000000000080000000600000000000000000000000000000000000000000000000000000000000000000000000000000000000000000000000000000000000 S) (hM : Sub 0x304026 M) :
    Keeps S M s (State.noteNotOwner t x1 x2 x3) := by
  unfold State.noteNotOwner
  refine State.accessFault_keeps ?_ (hS.tr rfl) (hM.tr rfl)
  exact State.bump_keeps h (hS.bit rfl)

end Sys2Proof.Machine
end

