-- ==== Sys2Proof/Laws/KeepsPeer.lean ====
section
/-! SUPPORT. What each operation of Machine/Peer.lean may change (`Keeps`): the bits of the first mask are numbers of register
fields, those of the second the numbers `P.…` of the parts of the state. -/

set_option Elab.async false

namespace Sys2Proof.Machine

variable {S M : Nat} {s t u v : State}

theorem State.setLink_keeps {x1} (h : Keeps S M s t) (hS : Sub 0x200000000000000000000000000000000000000000000000000000000000000000000000000000000000000000000000000000000000000000000000000000000000000000000000000000000000000000000000000000000000000 S) (hM : Sub 0x2 M) :
    Keeps S M s (State.setLink t x1) := by
  unfold State.setLink
  refine Keeps.ite ?_ ?_
  · exact h
  · refine State.info_keeps ?_ (hM.tr rfl)
    exact State.wr_keeps h (hS.bit rfl)

theorem State.linkDown_keeps {x1} (h : Keeps S M s t) (hS : Sub 0x300000000000000000000000000000000000000000000000000000000000000000000000000000000000000000000000000000000000000000000000000000000000000000000000000000000000000000000000000000000000000 S) (hM : Sub 0x2 M) :
    Keeps S M s (State.linkDown t x1) := by
  unfold State.linkDown
  refine State.setLink_keeps ?_ (hS.tr rfl) (hM.tr rfl)
  exact State.wr_keeps h (hS.bit rfl)

theorem State.laneGoesDown_keeps {x1} (h : Keeps S M s t) (hS : Sub 0x8017d100000100238000000000740000000000000020000000000000000000000000000000000000000000000000080000000600000000000000000000000000000000000000000000000000000000000000000000000000000000000000000000000000000000000 S) (hM : Sub 0x304026 M) :
    Keeps S M s (State.laneGoesDown t x1) := by
  unfold State.laneGoesDown
  refine Keeps.ite ?_ ?_
  · exact h
  · extract_lets s1 s2
    have hs1 : Keeps S M s s1 := State.wrAll_keeps h hS ⟨rfl, rfl, rfl, trivial⟩
    clear_value s1
    have hs2 : Keeps S M s s2 := State.bump_keeps hs1 (hS.bit rfl)
    clear_value s2
    refine Keeps.ite ?_ ?_
    · exact State.fault_keeps hs2 (hS.tr rfl) (hM.tr rfl)
    · exact State.linkDown_keeps hs2 (hS.tr rfl) (hM.tr rfl)

theorem State.partnerUtc_keeps {x1} (h : Keeps S M s t) (hM : Sub 0x80000 M) :
    Keeps S M s (State.partnerUtc t x1) := by
  unfold State.partnerUtc
  extract_lets l1
  refine Keeps.foldl h fun u3 x2 h4 => ?_
  exact State.later_keeps h4 (hM.tr rfl)

theorem State.hallwaySend_keeps {x1 x2} (h : Keeps S M s t) (hS : Sub 0x480000000000000000000000000000000000000000000000000000000000000000000000000000000000000000000000000000000000000000000000000000000000000000000000000000000000000000000000000000000000000000000000000 S) (hM : Sub 0x100020 M) :
    Keeps S M s (State.hallwaySend t x1 x2) := by
  unfold State.hallwaySend
  refine Keeps.ite ?_ ?_
  · exact h
  · extract_lets both1 s2 s3 q4 v5 s6
    have hs2 : Keeps S M s s2 := by
      unfold s2
      refine Keeps.when h fun u7 h8 => ?_
      exact State.bumpWrap_keeps h8 (hS.bit rfl)
    clear_value s2
    have hs3 : Keeps S M s s3 := by
      unfold s3
      refine Keeps.when hs2 fun u9 h10 => ?_
      exact State.bumpWrap_keeps h10 (hS.bit rfl)
    clear_value s3
    have hs6 : Keeps S M s s6 := Keeps.to_pr hs3 (hM.tr rfl)
    clear_value s6
    refine State.emitOut_keeps ?_ (hM.tr rfl)
    exact State.bumpWrap_keeps hs6 (hS.bit rfl)

theorem State.mirrorSend_keeps (h : Keeps S M s t) (hS : Sub 0x480000000000000000000000000000000000000000000000000000000000000000000000000000000000000000000000000000000000000000000000000000000000000000000000000000000000000000000000000000000000000000000000000 S) (hM : Sub 0x100020 M) :
    Keeps S M s (State.mirrorSend t) := by
  unfold State.mirrorSend
  refine Keeps.ite ?_ ?_
  · exact h
  · extract_lets l1 v2 s3
    have hs3 : Keeps S M s s3 := Keeps.to_pr h (hM.tr rfl)
    clear_value s3
    refine Keeps.foldl hs3 fun u5 x4 h6 => ?_
    exact State.hallwaySend_keeps h6 (hS.tr rfl) (hM.tr rfl)

theorem State.beginSwitch_keeps {x1} (h : Keeps S M s t) (hS : Sub 0x30000000000000000000000000000000000000000000000000000000000000000000000000000000000000000000000000000000000000000000000000000000000000000000000000000000000000000000000000000000000000000000 S) (hM : Sub 0x4020 M) :
    Keeps S M s (State.beginSwitch t x1) := by
  unfold State.beginSwitch
  extract_lets v1 s2 s3
  have hs2 : Keeps S M s s2 := Keeps.to_pr h (hM.tr rfl)
  clear_value s2
  have hs3 : Keeps S M s s3 := State.wrAll_keeps hs2 hS ⟨rfl, rfl, trivial⟩
  clear_value s3
  split
  · rename_i a4 a5 a6 a7
    exact State.adminWait_keeps hs3 (hM.tr rfl)
  · rename_i a8 a9
    exact hs3

theorem State.hallwayTake_keeps {x1 x2} (h : Keeps S M s t) (hS : Sub 0x940000000000000000000000000000000000000000000000000000000000000000000000000000000000000000000000000000000000000000000000000000000000000000000000000000000000000000000000000000000000000000000000000 S) (hM : Sub 0x20 M) :
    Keeps S M s (State.hallwayTake t x1 x2).1 := by
  unfold State.hallwayTake
  extract_lets l1 s2 v3
  have hs2 : Keeps S M s s2 := State.bumpWrap_keeps h (hS.bit rfl)
  clear_value s2
  split
  · rename_i a4
    dsimp only
    exact h
  · rename_i a5
    split
    · rename_i a6
      dsimp only
      exact State.bump_keeps h (hS.bit rfl)
    · rename_i a7
      split
      · rename_i a8
        dsimp only
        exact hs2
      · rename_i a9
        dsimp only
        refine State.bumpWrap_keeps ?_ (hS.bit rfl)
        exact Keeps.to_pr hs2 (hM.tr rfl)

theorem State.endSwitch_keeps {x1} (h : Keeps S M s t) (hS : Sub 0xe0000000000000000008020000000000000000000000000000000000000000000000000000000000000000000000000000000000000000000000000000000000000000000000000000000000000000000000000000000000000000000000 S) (hM : Sub 0x106022 M) :
    Keeps S M s (State.endSwitch t x1) := by
  unfold State.endSwitch
  split
  · rename_i a1 a2
    exact h
  · rename_i a3 a4 a5
    extract_lets v6 v7 s8 s9 s10
    have hs8 : Keeps S M s s8 := Keeps.to_pr_sy h (hM.tr rfl)
    clear_value s8
    have hs9 : Keeps S M s s9 := State.wrAll_keeps hs8 hS ⟨rfl, rfl, trivial⟩
    clear_value s9
    have hs10 : Keeps S M s s10 := by
      unfold s10
      refine State.info_keeps ?_ (hM.tr rfl)
      refine Keeps.when hs9 fun u11 h12 => ?_
      exact State.bump_keeps h12 (hS.bit rfl)
    clear_value s10
    split
    · rename_i a13 a14 a15 a16
      exact State.adminDone_keeps hs10 (hS.tr rfl) (hM.tr rfl)
    · rename_i a17 a18
      exact hs10

theorem State.refuseRx_keeps {x1 x2} (h : Keeps S M s t) (hS : Sub 0x9400000e0000000000000000008020000000000000000000000000000000000000000000000000000000000000000000000000000000000000000000000000000000000000000000000000000000000000000000000000000000000000000000000 S) (hM : Sub 0x106022 M) :
    Keeps S M s (State.refuseRx t x1 x2) := by
  unfold State.refuseRx
  extract_lets r1
  have hr1 : Keeps S M s r1.1 := by
    unfold r1
    exact State.hallwayTake_keeps h (hS.tr rfl) (hM.tr rfl)
  clear_value r1
  refine Keeps.ite ?_ ?_
  · exact hr1
  · split
    · rename_i a2 a3 a4
      refine Keeps.ite ?_ ?_
      · exact State.endSwitch_keeps hr1 (hS.tr rfl) (hM.tr rfl)
      · exact hr1
    · rename_i a5 a6
      exact hr1

theorem State.compareDigests_keeps (h : Keeps S M s t) (hS : Sub 0x10000000000000000000000000000000000000000000000000000000000000000000000000000000000000000000000000000000000000000000000000000000000000000000000000000000000000000000000000000000000000 S) (hM : Sub 0x2 M) :
    Keeps S M s (State.compareDigests t) := by
  unfold State.compareDigests
  extract_lets same1
  refine Keeps.ite ?_ ?_
  · exact h
  · refine State.info_keeps ?_ (hM.tr rfl)
    exact State.wr_keeps h (hS.bit rfl)

theorem State.ownDigest_keeps {x1} (h : Keeps S M s t) (hS : Sub 0x480020000000010000000000000000000000000000000000000000000000000000000000000000000000000000000000000000000000000000000000000000000000000000000000000000000000000000000000000000000000000000000000000 S) (hM : Sub 0x100022 M) :
    Keeps S M s (State.ownDigest t x1) := by
  unfold State.ownDigest
  extract_lets s1
  have hs1 : Keeps S M s s1 := State.wr_keeps h (hS.bit rfl)
  clear_value s1
  refine Keeps.ite ?_ ?_
  · refine State.hallwaySend_keeps ?_ (hS.tr rfl) (hM.tr rfl)
    refine Keeps.when hs1 fun u2 h3 => ?_
    exact State.compareDigests_keeps h3 (hS.tr rfl) (hM.tr rfl)
  · exact hs1

theorem State.refuseSwitch_keeps {x1 x2 x3} (h : Keeps S M s t) (hS : Sub 0x50000000000000000008020000000000000000000000000000000000000000000000000000000000000000000000000000000000000000000000000000000000000000000000000000000000000000000000000000000000000000000000 S) (hM : Sub 0x104002 M) :
    Keeps S M s (State.refuseSwitch t x1 x2 x3) := by
  unfold State.refuseSwitch
  extract_lets s1
  have hs1 : Keeps S M s s1 := by
    unfold s1
    refine State.info_keeps ?_ (hM.tr rfl)
    exact State.wrAll_keeps h hS ⟨rfl, rfl, trivial⟩
  clear_value s1
  split
  · rename_i a2 a3
    exact State.adminDone_keeps hs1 (hS.tr rfl) (hM.tr rfl)
  · rename_i a4
    exact hs1

theorem State.acceptSwitch_keeps {x1 x2 x3 x4} (h : Keeps S M s t) (hS : Sub 0x480000030000000000000000000000000000000000000000000000000000000000000000000000000000000000000000000000000000000000000000000000000000000000000000000000000000000000000000000000000000000000000000000 S) (hM : Sub 0x104020 M) :
    Keeps S M s (State.acceptSwitch t x1 x2 x3 x4) := by
  unfold State.acceptSwitch
  extract_lets t1
  refine State.hallwaySend_keeps ?_ (hS.tr rfl) (hM.tr rfl)
  exact State.beginSwitch_keeps h (hS.tr rfl) (hM.tr rfl)

theorem State.mirrorAll_keeps (h : Keeps S M s t) (hM : Sub 0x20 M) :
    Keeps S M s (State.mirrorAll t) := by
  unfold State.mirrorAll
  refine Keeps.ite ?_ ?_
  · exact Keeps.to_pr h (hM.tr rfl)
  · exact h

theorem State.enterActive_keeps (h : Keeps S M s t) (hS : Sub 0x18e0000462000000000008020000000000000000000000000000000000000000000000000000000000000000000000000000000000000000000000000000000000000000000000000000000000000000000000000000000000000000000000 S) (hM : Sub 0x106022 M) :
    Keeps S M s (State.enterActive t) := by
  unfold State.enterActive
  extract_lets since1 failover2 v3 s4 s5 s6 s7
  have hs4 : Keeps S M s s4 := Keeps.to_pr h (hM.tr rfl)
  clear_value s4
  have hs5 : Keeps S M s s5 := State.wrAll_keeps hs4 hS ⟨rfl, rfl, rfl, trivial⟩
  clear_value s5
  have hs6 : Keeps S M s s6 := by
    unfold s6
    refine Keeps.when hs5 fun u8 h9 => ?_
    refine State.wr_keeps ?_ (hS.bit rfl)
    exact State.bump_keeps h9 (hS.bit rfl)
  clear_value s6
  have hs7 : Keeps S M s s7 := by
    unfold s7
    refine State.mirrorAll_keeps ?_ (hM.tr rfl)
    exact State.setPairState_keeps hs6 (hS.tr rfl) (hM.tr rfl)
  clear_value s7
  split
  · rename_i a10 a11 a12
    refine Keeps.ite ?_ ?_
    · exact State.endSwitch_keeps hs7 (hS.tr rfl) (hM.tr rfl)
    · exact hs7
  · rename_i a13 a14
    exact hs7

theorem State.forceClaim_keeps {x1 x2} (h : Keeps S M s t) (hS : Sub 0x18f0000462000000000008020000000000000000000000000000000000000000000000000000000000000000000000000000000000000000000000000000000000000000000000000000000000000000000000000000000000000000000000 S) (hM : Sub 0x106022 M) :
    Keeps S M s (State.forceClaim t x1 x2) := by
  unfold State.forceClaim
  refine Keeps.ite ?_ ?_
  · exact State.refuseSwitch_keeps h (hS.tr rfl) (hM.tr rfl)
  · extract_lets s1 v2
    have hs1 : Keeps S M s s1 := State.beginSwitch_keeps h (hS.tr rfl) (hM.tr rfl)
    clear_value s1
    refine State.enterActive_keeps ?_ (hS.tr rfl) (hM.tr rfl)
    exact Keeps.to_pr hs1 (hM.tr rfl)

theorem State.switchRequest_keeps {x1 x2 x3} (h : Keeps S M s t) (hS : Sub 0x4800018f0000462000000000008020000000000000000000000000000000000000000000000000000000000000000000000000000000000000000000000000000000000000000000000000000000000000000000000000000000000000000000000 S) (hM : Sub 0x106022 M) :
    Keeps S M s (State.switchRequest t x1 x2 x3) := by
  unfold State.switchRequest
  extract_lets up1 ident2 offer3 v4
  have hoffer3 : ∀ y5, Keeps S M s y5 → Keeps S M s (offer3 y5) := by
    intro y5 h6
    unfold offer3
    beta_reduce
    extract_lets v7 s8
    have hs8 : Keeps S M s s8 := Keeps.to_pr h6 (hM.tr rfl)
    clear_value s8
    refine State.hallwaySend_keeps ?_ (hS.tr rfl) (hM.tr rfl)
    exact State.beginSwitch_keeps hs8 (hS.tr rfl) (hM.tr rfl)
  clear_value offer3
  refine Keeps.ite ?_ ?_
  · exact State.refuseSwitch_keeps h (hS.tr rfl) (hM.tr rfl)
  · refine Keeps.ite ?_ ?_
    · exact State.refuseSwitch_keeps h (hS.tr rfl) (hM.tr rfl)
    · refine Keeps.ite ?_ ?_
      · refine Keeps.ite ?_ ?_
        · refine State.acceptSwitch_keeps ?_ (hS.tr rfl) (hM.tr rfl)
          exact Keeps.to_pr h (hM.tr rfl)
        · exact State.refuseSwitch_keeps h (hS.tr rfl) (hM.tr rfl)
      · refine Keeps.ite ?_ ?_
        · exact State.forceClaim_keeps h (hS.tr rfl) (hM.tr rfl)
        · refine Keeps.ite ?_ ?_
          · refine hoffer3 _ ?_
            exact h
          · exact State.refuseSwitch_keeps h (hS.tr rfl) (hM.tr rfl)

theorem State.switchForce_keeps {x1} (h : Keeps S M s t) (hS : Sub 0x4800018f0000462000000000008020000000000000000000000000000000000000000000000000000000000000000000000000000000000000000000000000000000000000000000000000000000000000000000000000000000000000000000000 S) (hM : Sub 0x106022 M) :
    Keeps S M s (State.switchForce t x1) := by
  unfold State.switchForce
  refine Keeps.ite ?_ ?_
  · exact State.switchRequest_keeps h (hS.tr rfl) (hM.tr rfl)
  · exact h

theorem State.block_keeps {x1} (h : Keeps S M s t) (hS : Sub 0x442000000000000000000000000000000000000000000000000000000000000000000000000000000000000000000000000000000000000000000000000000000000000000000000000000000000000000000000000000000000000 S) (hM : Sub 0x22 M) :
    Keeps S M s (State.block t x1) := by
  unfold State.block
  extract_lets v1 s2
  have hs2 : Keeps S M s s2 := Keeps.to_pr h (hM.tr rfl)
  clear_value s2
  refine State.setPairState_keeps ?_ (hS.tr rfl) (hM.tr rfl)
  exact State.wrAll_keeps hs2 hS ⟨rfl, rfl, trivial⟩

theorem State.brokenRead_keeps {x1} (h : Keeps S M s t) (hS : Sub 0x8017d100000100000002000000442000000000000020000000000000000000000000000000000000000000000000080000000600000000000000000000000000000000000000000000000000000000000000000000000000000000000000000000000000000000000 S) (hM : Sub 0x304026 M) :
    Keeps S M s (State.brokenRead t x1) := by
  unfold State.brokenRead
  extract_lets s1 p2
  have hs1 : Keeps S M s s1 := by
    unfold s1
    refine State.fault_keeps ?_ (hS.tr rfl) (hM.tr rfl)
    exact State.bump_keeps h (hS.bit rfl)
  clear_value s1
  refine Keeps.ite ?_ ?_
  · exact State.block_keeps hs1 (hS.tr rfl) (hM.tr rfl)
  · exact hs1

theorem State.conflict_keeps (h : Keeps S M s t) (hS : Sub 0x8017d100000100000004000000440000000000000020000000000000000000000000000000000000000000000000080000000600000000000000000000000000000000000000000000000000000000000000000000000000000000000000000000000000000000000 S) (hM : Sub 0x304026 M) :
    Keeps S M s (State.conflict t) := by
  unfold State.conflict
  refine State.fault_keeps ?_ (hS.tr rfl) (hM.tr rfl)
  exact State.bump_keeps h (hS.bit rfl)

theorem State.confirmConflict_keeps (h : Keeps S M s t) (hS : Sub 0x8017d100000100000004000000442000000000000020000000000000000000000000000000000000000000000000080000000600000000000000000000000000000000000000000000000000000000000000000000000000000000000000000000000000000000000 S) (hM : Sub 0x304026 M) :
    Keeps S M s (State.confirmConflict t) := by
  unfold State.confirmConflict
  extract_lets again1 s2 v3 s4 v5 s6
  have hs2 : Keeps S M s s2 := State.conflict_keeps h (hS.tr rfl) (hM.tr rfl)
  clear_value s2
  have hs4 : Keeps S M s s4 := Keeps.to_pr hs2 (hM.tr rfl)
  clear_value s4
  have hs6 : Keeps S M s s6 := Keeps.to_pr hs4 (hM.tr rfl)
  clear_value s6
  refine Keeps.ite ?_ ?_
  · exact Keeps.to_pr hs4 (hM.tr rfl)
  · refine Keeps.ite ?_ ?_
    · exact State.block_keeps hs4 (hS.tr rfl) (hM.tr rfl)
    · refine State.pairReview_keeps ?_ (hS.tr rfl) (hM.tr rfl)
      refine State.setPairState_keeps ?_ (hS.tr rfl) (hM.tr rfl)
      exact State.wr_keeps hs6 (hS.bit rfl)

theorem State.claimInChange_keeps {x1} (h : Keeps S M s t) (hS : Sub 0x8017d1000001000000060000004c2000000000000020000000000000000000000000000000000000000000000000080000000600000000000000000000000000000000000000000000000000000000000000000000000000000000000000000000000000000000000 S) (hM : Sub 0x304026 M) :
    Keeps S M s (State.claimInChange t x1) := by
  unfold State.claimInChange
  refine Keeps.ite ?_ ?_
  · exact h
  · extract_lets s1 v2 s3
    have hs1 : Keeps S M s s1 := State.wr_keeps h (hS.bit rfl)
    clear_value s1
    have hs3 : Keeps S M s s3 := Keeps.to_pr hs1 (hM.tr rfl)
    clear_value s3
    refine Keeps.ite ?_ ?_
    · exact State.brokenRead_keeps hs3 (hS.tr rfl) (hM.tr rfl)
    · refine Keeps.ite ?_ ?_
      · exact State.pairReview_keeps hs3 (hS.tr rfl) (hM.tr rfl)
      · refine Keeps.ite ?_ ?_
        · refine Keeps.ite ?_ ?_
          · refine State.releaseClaim_keeps ?_ (hS.tr rfl) (hM.tr rfl)
            exact State.fault_keeps hs3 (hS.tr rfl) (hM.tr rfl)
          · exact hs3
        · refine Keeps.ite ?_ ?_
          · exact State.confirmConflict_keeps hs3 (hS.tr rfl) (hM.tr rfl)
          · exact State.pairReview_keeps hs3 (hS.tr rfl) (hM.tr rfl)

theorem State.timeTx_keeps {x1} (h : Keeps S M s t) (hS : Sub 0x480000000000000000000000000000000000000000000000000000000000000000000000000000000000000000000000000000000000000000000000000000000000000000000000000000000000000000000000000000000000000000000000000 S) (hM : Sub 0x100020 M) :
    Keeps S M s (State.timeTx t x1) := by
  unfold State.timeTx
  refine Keeps.ite ?_ ?_
  · exact State.hallwaySend_keeps h (hS.tr rfl) (hM.tr rfl)
  · exact h

theorem State.ppsPulseTime_keeps {x1} (h : Keeps S M s t) (hS : Sub 0x480000000000000000000000000000000000000000000000000000000000000000000000000000000000800000000000000000000000000000000000000000000000000000000000000000000000000000000000000000000000000000000000000 S) (hM : Sub 0x100030 M) :
    Keeps S M s (State.ppsPulseTime t x1) := by
  unfold State.ppsPulseTime
  extract_lets t1
  have ht1 : Keeps S M s t1 := State.ppsPulse_keeps h (hS.tr rfl) (hM.tr rfl)
  clear_value t1
  refine Keeps.ite ?_ ?_
  · exact State.timeTx_keeps ht1 (hS.tr rfl) (hM.tr rfl)
  · exact ht1

theorem State.switchTimeout_keeps (h : Keeps S M s t) (hS : Sub 0xe0000000000000000008020000000000000000000000000000000000000000000000000000000000000000000000000000000000000000000000000000000000000000000000000000000000000000000000000000000000000000000000 S) (hM : Sub 0x106022 M) :
    Keeps S M s (State.switchTimeout t) := by
  unfold State.switchTimeout
  split
  · rename_i a1 a2 a3
    refine Keeps.ite ?_ ?_
    · exact State.endSwitch_keeps h (hS.tr rfl) (hM.tr rfl)
    · exact h
  · rename_i a4 a5
    exact h

theorem State.heartbeatLost_keeps (h : Keeps S M s t) (hS : Sub 0x1e000000000000000000000008017d100000100000000400000648000000000000020000000000000000000000000000000000000000000000000080000000600000000000000000000000000000000000000000000000000000000000000000000000000000000000000000000000000000000000 S) (hM : Sub 0x304026 M) :
    Keeps S M s (State.heartbeatLost t) := by
  unfold State.heartbeatLost
  refine Keeps.ite ?_ ?_
  · exact h
  · extract_lets s1 v2 s3
    have hs1 : Keeps S M s s1 := by
      unfold s1
      refine State.bump_keeps ?_ (hS.bit rfl)
      exact State.wr_keeps h (hS.bit rfl)
    clear_value s1
    have hs3 : Keeps S M s s3 := Keeps.to_pr hs1 (hM.tr rfl)
    clear_value s3
    refine State.setLink_keeps ?_ (hS.tr rfl) (hM.tr rfl)
    refine State.fault_keeps ?_ (hS.tr rfl) (hM.tr rfl)
    exact State.openBytes_keeps hs3 (hS.tr rfl)

theorem State.heartbeatRx_keeps {x1 x2} (h : Keeps S M s t) (hS : Sub 0x9400001e1ff8208000000000008020000000000000000000000000000000000000000000000000000000000000000000000000000000000000000000000000000000000000000000000000000000000000000000000000000000000000000000000 S) (hM : Sub 0x106022 M) :
    Keeps S M s (State.heartbeatRx t x1 x2) := by
  unfold State.heartbeatRx
  extract_lets r1 v2 v3 s4 s5 v6 s7 s8
  have hr1 : Keeps S M s r1.1 := by
    unfold r1
    exact State.hallwayTake_keeps h (hS.tr rfl) (hM.tr rfl)
  clear_value r1
  have hv2 : Keeps S M s v2 := by
    unfold v2
    exact hr1
  clear_value v2
  have hs4 : Keeps S M s s4 := Keeps.to_pr hv2 (hM.tr rfl)
  clear_value s4
  have hs5 : Keeps S M s s5 := by
    unfold s5
    refine State.wrAll_keeps ?_ hS ⟨rfl, rfl, rfl, rfl, rfl, rfl, rfl, rfl, rfl, rfl, rfl, trivial⟩
    exact State.bumpWrap_keeps hs4 (hS.bit rfl)
  clear_value s5
  have hs7 : Keeps S M s s7 := Keeps.to_pr hs5 (hM.tr rfl)
  clear_value s7
  have hs8 : Keeps S M s s8 := by
    unfold s8
    refine Keeps.when hs7 fun u9 h10 => ?_
    exact State.setLink_keeps h10 (hS.tr rfl) (hM.tr rfl)
  clear_value s8
  refine Keeps.ite ?_ ?_
  · exact hr1
  · split
    · rename_i a11 a12 a13
      refine Keeps.ite ?_ ?_
      · exact State.endSwitch_keeps hs8 (hS.tr rfl) (hM.tr rfl)
      · exact hs8
    · rename_i a14 a15
      exact hs8

theorem State.timeMsgRx_keeps {x1 x2} (h : Keeps S M s t) (hS : Sub 0x8017d100000100940000000000440000000000000020000000000000000000000000000000000000000000000000080000000600021800000000000000000000000000000000000000000000000000000000000000000000000000000000000000000000000000000 S) (hM : Sub 0x384036 M) :
    Keeps S M s (State.timeMsgRx t x1 x2) := by
  unfold State.timeMsgRx
  extract_lets r s1
  have hr : Keeps S M s r.1 := State.hallwayTake_keeps h (hS.tr rfl) (hM.tr rfl)
  refine Keeps.ite hr ?_
  have h1 : Keeps S M s s1 := State.partnerUtc_keeps hr (hM.tr rfl)
  split
  · exact Keeps.to_pr h1 (hM.tr rfl)
  · extract_lets v1 run s2
    have h2 : Keeps S M s s2 := Keeps.to_pr h1 (hM.tr rfl)
    exact Keeps.ite (State.secondsDecision_keeps h2 (hS.tr rfl) (hM.tr rfl)) h2

theorem State.laneComesUp_keeps {x1} (h : Keeps S M s t) (hS : Sub 0x38000000000200000000000000000000000000000000000000000000000000000000000000000000000000000000000000000000000000000000000000000000000000000000000000000000000000000000000000000000000000000000000000 S) (hM : Sub 0x22 M) :
    Keeps S M s (State.laneComesUp t x1) := by
  unfold State.laneComesUp
  refine Keeps.ite ?_ ?_
  · exact h
  · extract_lets first1 s2 v3
    have hs2 : Keeps S M s s2 := State.wrAll_keeps h hS ⟨rfl, rfl, rfl, trivial⟩
    clear_value s2
    refine Keeps.ite ?_ ?_
    · refine State.setLink_keeps ?_ (hS.tr rfl) (hM.tr rfl)
      exact Keeps.to_pr hs2 (hM.tr rfl)
    · exact hs2

theorem State.heartbeatTx_keeps (h : Keeps S M s t) (hS : Sub 0x480000200000000000000000000000000000000000000000000000000000000000000000000000000000000000000000000000000000000000000000000000000000000000000000000000000000000000000000000000000000000000000000000 S) (hM : Sub 0x100020 M) :
    Keeps S M s (State.heartbeatTx t) := by
  unfold State.heartbeatTx
  refine Keeps.ite ?_ ?_
  · exact h
  · extract_lets s1 v2 s3 flags4
    have hs1 : Keeps S M s s1 := by
      unfold s1
      refine Keeps.when h fun u5 h6 => ?_
      exact State.bump_keeps h6 (hS.bit rfl)
    clear_value s1
    have hs3 : Keeps S M s s3 := Keeps.to_pr hs1 (hM.tr rfl)
    clear_value s3
    exact State.hallwaySend_keeps hs3 (hS.tr rfl) (hM.tr rfl)

theorem State.offerRx_keeps {x1 x2 x3} (h : Keeps S M s t) (hS : Sub 0xdc0000070000440000000000008020000000000000000000000000000000000000000000000000000000000000000000000000000000000000000000000000000000000000000000000000000000000000000000000000000000000000000000000 S) (hM : Sub 0x104022 M) :
    Keeps S M s (State.offerRx t x1 x2 x3) := by
  unfold State.offerRx
  extract_lets r1 s2
  have hr1 : Keeps S M s r1.1 := by
    unfold r1
    exact State.hallwayTake_keeps h (hS.tr rfl) (hM.tr rfl)
  clear_value r1
  have hs2 : Keeps S M s s2 := by
    unfold s2
    exact hr1
  clear_value s2
  refine Keeps.ite ?_ ?_
  · exact hr1
  · refine Keeps.ite ?_ ?_
    · exact State.hallwaySend_keeps hs2 (hS.tr rfl) (hM.tr rfl)
    · refine Keeps.ite ?_ ?_
      · exact State.hallwaySend_keeps hs2 (hS.tr rfl) (hM.tr rfl)
      · refine Keeps.ite ?_ ?_
        · refine State.releaseClaim_keeps ?_ (hS.tr rfl) (hM.tr rfl)
          exact State.beginSwitch_keeps hs2 (hS.tr rfl) (hM.tr rfl)
        · refine Keeps.ite ?_ ?_
          · exact State.acceptSwitch_keeps hs2 (hS.tr rfl) (hM.tr rfl)
          · refine State.hallwaySend_keeps ?_ (hS.tr rfl) (hM.tr rfl)
            exact State.refuseSwitch_keeps hs2 (hS.tr rfl) (hM.tr rfl)

theorem State.hallwayReset_keeps (h : Keeps S M s t) (hS : Sub 0x1e0000000000000000000000000000000000000038000000000300000000000000000000000000000000000000000000000000000000000000000000000000000000000000000000000000000000000000000000000000000000000000000000000000000000000000000000000000000000000000 S) (hM : Sub 0x2 M) :
    Keeps S M s (State.hallwayReset t) := by
  unfold State.hallwayReset
  extract_lets s1
  have hs1 : Keeps S M s s1 := by
    unfold s1
    refine Keeps.forAll h fun i2 u3 h4 => ?_
    exact State.wrAll_keeps h4 hS ⟨rfl, rfl, rfl, trivial⟩
  clear_value s1
  refine State.openBytes_keeps ?_ (hS.tr rfl)
  exact State.linkDown_keeps hs1 (hS.tr rfl) (hM.tr rfl)

theorem State.handoverRelease_keeps (h : Keeps S M s t) (hS : Sub 0x440000000000000000000000000000000000000000000000000000000000000000000000000000000000000000000000000000000000000000000000000000000000000000000000000000000000000000000000000000000000000 S) (hM : Sub 0x2022 M) :
    Keeps S M s (State.handoverRelease t) := by
  unfold State.handoverRelease
  refine Keeps.ite ?_ ?_
  · extract_lets s1 v2
    have hs1 : Keeps S M s s1 := State.releaseClaim_keeps h (hS.tr rfl) (hM.tr rfl)
    clear_value s1
    exact Keeps.to_sy hs1 (hM.tr rfl)
  · exact h

theorem State.acceptRx_keeps {x1 x2 x3} (h : Keeps S M s t) (hS : Sub 0x940000030000000000000000000000000000000000000000000000000000000000000000000000000000000000000000000000000000000000000000000000000000000000000000000000000000000000000000000000000000000000000000000 S) (hM : Sub 0x4020 M) :
    Keeps S M s (State.acceptRx t x1 x2 x3) := by
  unfold State.acceptRx
  extract_lets r1 v2 v3 s4 v5
  have hr1 : Keeps S M s r1.1 := by
    unfold r1
    exact State.hallwayTake_keeps h (hS.tr rfl) (hM.tr rfl)
  clear_value r1
  have hv2 : Keeps S M s v2 := by
    unfold v2
    exact hr1
  clear_value v2
  have hs4 : Keeps S M s s4 := Keeps.to_pr hv2 (hM.tr rfl)
  clear_value s4
  refine Keeps.ite ?_ ?_
  · exact hr1
  · split
    · rename_i a6 a7 a8
      exact Keeps.to_pr hs4 (hM.tr rfl)
    · rename_i a9 a10
      exact State.beginSwitch_keeps hs4 (hS.tr rfl) (hM.tr rfl)

theorem State.digestRx_keeps {x1 x2} (h : Keeps S M s t) (hS : Sub 0x940040000000010000000000000000000000000000000000000000000000000000000000000000000000000000000000000000000000000000000000000000000000000000000000000000000000000000000000000000000000000000000000000 S) (hM : Sub 0x22 M) :
    Keeps S M s (State.digestRx t x1 x2) := by
  unfold State.digestRx
  extract_lets r1 s2 v3
  have hr1 : Keeps S M s r1.1 := by
    unfold r1
    exact State.hallwayTake_keeps h (hS.tr rfl) (hM.tr rfl)
  clear_value r1
  have hs2 : Keeps S M s s2 := State.wr_keeps hr1 (hS.bit rfl)
  clear_value s2
  refine Keeps.ite ?_ ?_
  · exact hr1
  · refine State.compareDigests_keeps ?_ (hS.tr rfl) (hM.tr rfl)
    exact Keeps.to_pr hs2 (hM.tr rfl)

theorem State.switchHandover_keeps (h : Keeps S M s t) (hS : Sub 0x8000000000000000000000000000000000000000000000000000000000000000000000000000000000000000000 S) (hM : Sub 0x2002 M) :
    Keeps S M s (State.switchHandover t) := by
  unfold State.switchHandover
  split
  · rename_i a1 a2 a3
    refine Keeps.ite ?_ ?_
    · refine State.syncShutters_keeps ?_ (hS.tr rfl) (hM.tr rfl)
      exact Keeps.to_sy h (hM.tr rfl)
    · exact h
  · rename_i a4 a5
    exact h

theorem State.confirmEnd_keeps (h : Keeps S M s t) (hS : Sub 0x18e0000462000000000008020000000000000000000000000000000000000000000000000000000000000000000000000000000000000000000000000000000000000000000000000000000000000000000000000000000000000000000000 S) (hM : Sub 0x106022 M) :
    Keeps S M s (State.confirmEnd t) := by
  unfold State.confirmEnd
  refine Keeps.ite ?_ ?_
  · exact State.enterActive_keeps h (hS.tr rfl) (hM.tr rfl)
  · exact h

theorem State.reclaimEnd_keeps (h : Keeps S M s t) (hS : Sub 0x400000000000000000000000000000000000000000000000000000000000000000000000000000000000000000000000000000000000000000000000000000000000000000000000000000000000000000000000000000000000000 S) (hM : Sub 0x22 M) :
    Keeps S M s (State.reclaimEnd t) := by
  unfold State.reclaimEnd
  refine State.pairReview_keeps ?_ (hS.tr rfl) (hM.tr rfl)
  exact Keeps.to_pr h (hM.tr rfl)

theorem State.standbyAligned_keeps (h : Keeps S M s t) (hS : Sub 0x20000000000000000000000000000000000000000000000000000000000000000000000000000000000000000000000000000000000000000000000000000000000000000000000000000000000000000000000000000000000000 S) :
    Keeps S M s (State.standbyAligned t) := by
  unfold State.standbyAligned
  extract_lets d1 tol2 onRoot3
  refine Keeps.ite ?_ ?_
  · exact State.wr_keeps h (hS.bit rfl)
  · exact h

theorem State.conflictHoldEnd_keeps (h : Keeps S M s t) (hS : Sub 0x18e0000462000000000008020000000000000000000000000000000000000000000000000000000000000000000000000000000000000000000000000000000000000000000000000000000000000000000000000000000000000000000000 S) (hM : Sub 0x106022 M) :
    Keeps S M s (State.conflictHoldEnd t) := by
  unfold State.conflictHoldEnd
  refine Keeps.ite ?_ ?_
  · refine Keeps.ite ?_ ?_
    · exact State.block_keeps h (hS.tr rfl) (hM.tr rfl)
    · exact State.enterActive_keeps h (hS.tr rfl) (hM.tr rfl)
  · exact h

theorem State.helloRx_keeps {x1 x2} (h : Keeps S M s t) (hS : Sub 0x8017d100000100dc2840200000758000000000000020000000000000000000000000000000000000000000000000080000000600000000000000000000000000000000000000000000000000000000000000000000000000000000000000000000000000000000000 S) (hM : Sub 0x304026 M) :
    Keeps S M s (State.helloRx t x1 x2) := by
  unfold State.helloRx
  extract_lets r1 s2 v3 s4 s5 v6 v7 s8 s9 s10 s11
  have hr1 : Keeps S M s r1.1 := by
    unfold r1
    exact State.hallwayTake_keeps h (hS.tr rfl) (hM.tr rfl)
  clear_value r1
  have hs2 : Keeps S M s s2 := State.wr_keeps hr1 (hS.bit rfl)
  clear_value s2
  have hs4 : Keeps S M s s4 := Keeps.to_pr hs2 (hM.tr rfl)
  clear_value s4
  have hs5 : Keeps S M s s5 := State.hallwaySend_keeps hs4 (hS.tr rfl) (hM.tr rfl)
  clear_value s5
  have hs8 : Keeps S M s s8 := Keeps.to_pr hs5 (hM.tr rfl)
  clear_value s8
  have hs9 : Keeps S M s s9 := State.wrAll_keeps hs8 hS ⟨rfl, rfl, rfl, rfl, trivial⟩
  clear_value s9
  have hs10 : Keeps S M s s10 := by
    unfold s10
    refine Keeps.when hs9 fun u12 h13 => ?_
    exact State.wr_keeps h13 (hS.bit rfl)
  clear_value s10
  have hs11 : Keeps S M s s11 := by
    unfold s11
    refine Keeps.when hs10 fun u14 h15 => ?_
    refine State.info_keeps ?_ (hM.tr rfl)
    exact State.wr_keeps h15 (hS.bit rfl)
  clear_value s11
  refine Keeps.ite ?_ ?_
  · exact hr1
  · refine Keeps.ite ?_ ?_
    · exact hs4
    · refine Keeps.ite ?_ ?_
      · refine State.setLink_keeps ?_ (hS.tr rfl) (hM.tr rfl)
        exact State.fault_keeps hs4 (hS.tr rfl) (hM.tr rfl)
      · refine State.mirrorAll_keeps ?_ (hM.tr rfl)
        exact State.setLink_keeps hs11 (hS.tr rfl) (hM.tr rfl)

theorem State.tableSyncRx_keeps {x1 x2} (h : Keeps S M s t) (hS : Sub 0xdc0000000000000000000000000000000000000000000000000000000000000000000000000000000000000000000000000000000000000000000000000000000000000000000000000000000000000000000000000000000000000000000000000 S) (hM : Sub 0x110020 M) :
    Keeps S M s (State.tableSyncRx t x1 x2) := by
  unfold State.tableSyncRx
  extract_lets r1 s2 v3
  have hr1 : Keeps S M s r1.1 := by
    unfold r1
    exact State.hallwayTake_keeps h (hS.tr rfl) (hM.tr rfl)
  clear_value r1
  have hs2 : Keeps S M s s2 := by
    unfold s2
    exact hr1
  clear_value s2
  refine Keeps.ite ?_ ?_
  · exact hr1
  · split
    · rename_i a4 a5 a6
      refine Keeps.ite ?_ ?_
      · exact hs2
      · refine State.hallwaySend_keeps ?_ (hS.tr rfl) (hM.tr rfl)
        exact State.setClient_keeps hs2 (hM.tr rfl)
    · rename_i a7 a8
      refine Keeps.ite ?_ ?_
      · exact hs2
      · refine State.hallwaySend_keeps ?_ (hS.tr rfl) (hM.tr rfl)
        exact State.setClient_keeps hs2 (hM.tr rfl)
    · rename_i a9 a10
      extract_lets left11
      exact Keeps.to_pr hs2 (hM.tr rfl)

theorem State.slotDelayEnd_keeps (h : Keeps S M s t) (hS : Sub 0x40000000000000000000000000000000000000000000000000000000000000000000000000000000000000000000000000000000000000000000000000000000000000000000000000000000000000000000000000000000000000 S) (hM : Sub 0x20 M) :
    Keeps S M s (State.slotDelayEnd t) := by
  unfold State.slotDelayEnd
  refine Keeps.ite ?_ ?_
  · extract_lets v1 v2
    have hv1 : Keeps S M s v1 := State.wr_keeps h (hS.bit rfl)
    clear_value v1
    exact Keeps.to_pr hv1 (hM.tr rfl)
  · exact h

theorem State.helloTx_keeps (h : Keeps S M s t) (hS : Sub 0x481000000000000000000000000000000000000000000000000000000000000000000000000000000000000000000000000000000000000000000000000000000000000000000000000000000000000000000000000000000000000000000000000 S) (hM : Sub 0x100020 M) :
    Keeps S M s (State.helloTx t) := by
  unfold State.helloTx
  refine Keeps.ite ?_ ?_
  · exact h
  · refine State.hallwaySend_keeps ?_ (hS.tr rfl) (hM.tr rfl)
    exact State.wr_keeps h (hS.bit rfl)

end Sys2Proof.Machine
end

