-- ==== Sys2Proof/Laws/KeepsUnitOps.lean ====
section
/-! SUPPORT. What each operation of Machine/UnitOps.lean may change (`Keeps`): the bits of the first mask are numbers of register
fields, those of the second the numbers `P.…` of the parts of the state. -/

set_option Elab.async false

namespace Sys2Proof.Machine

variable {S M : Nat} {s t u v : State}

theorem State.leaveBase_keeps {x1} (h : Keeps S M s t) (hS : Sub 0x1000000000008017d1000001000000000000004400000000000000200000000000000000000000000000000000000000000000000800000006000400001800880080000000000000000000000000000000000000010800000000000000000000000000980007c1c00000000000000 S) (hM : Sub 0x307fbe M) :
    Keeps S M s (State.leaveBase t x1) := by
  unfold State.leaveBase
  refine Keeps.ite ?_ ?_
  · refine Keeps.ite ?_ ?_
    · exact State.ocxoLost_keeps h (hS.tr rfl) (hM.tr rfl)
    · exact h
  · refine Keeps.ite ?_ ?_
    · exact State.tcxoLost_keeps h (hS.tr rfl) (hM.tr rfl)
    · exact h

theorem State.stopCounter_keeps (h : Keeps S M s t) (hS : Sub 0x4040000000000000000000000000000000000000000000000000000000000000000000000000000000000000000000000000000000 S) (hM : Sub 0x10 M) :
    Keeps S M s (State.stopCounter t) := by
  unfold State.stopCounter
  extract_lets s1 v2
  have hs1 : Keeps S M s s1 := State.wrAll_keeps h hS ⟨rfl, rfl, trivial⟩
  clear_value s1
  exact Keeps.to_tm hs1 (hM.tr rfl)

theorem State.takesIncomplete_keeps {x1} (h : Keeps S M s t) (hS : Sub 0x2000000000000000000000000000000000000000000 S) :
    Keeps S M s (State.takesIncomplete t x1) := by
  unfold State.takesIncomplete
  refine Keeps.forAll h fun i1 u2 h3 => ?_
  extract_lets x4 mine5
  refine Keeps.ite ?_ ?_
  · exact State.wr_keeps h3 (hS.bit rfl)
  · exact h3

theorem State.dropDeferred_keeps {x1 x2 x3 x4 x5} (h : Keeps S M s t) (hM : Sub 0x80000 M) :
    Keeps S M s (State.dropDeferred t x1 x2 x3 x4 x5) := by
  unfold State.dropDeferred
  extract_lets stays1 v2
  exact Keeps.to_ep h (hM.tr rfl)

theorem State.dropLoop_keeps {x1} (h : Keeps S M s t) (hS : Sub 0x8000000000000000000000000000000000000000000000000000000000000000000000000000000000000000000000 S) (hM : Sub 0x2000 M) :
    Keeps S M s (State.dropLoop t x1) := by
  unfold State.dropLoop
  extract_lets s1 v2
  have hs1 : Keeps S M s s1 := by
    unfold s1
    refine State.wr_keeps ?_ (hS.bit rfl)
    exact State.keepRealign_keeps h (hM.tr rfl)
  clear_value s1
  exact State.setLoop_keeps hs1 (hM.tr rfl)

theorem State.oscReset_keeps {x1} (h : Keeps S M s t) (hS : Sub 0x1000000000008017d10000010000000000000044000000000000002000000000000000000000000000000000000000000000000008000000060004000018008800800000000000000000000000000000000000000108000000000000000000000000009b6b7fc1c08000000000000 S) (hM : Sub 0x307fbe M) :
    Keeps S M s (State.oscReset t x1) := by
  unfold State.oscReset
  extract_lets s1
  have hs1 : Keeps S M s s1 := by
    unfold s1
    refine State.wr_keeps ?_ (hS.bit (by unfold Sys2Proof.Machine.attemptField; split <;> rfl))
    refine State.disqualify_keeps ?_ (hS.tr rfl) (hM.tr rfl)
    exact State.leaveBase_keeps h (hS.tr rfl) (hM.tr rfl)
  clear_value s1
  refine Keeps.ite ?_ ?_
  · exact State.backInService_keeps hs1 (hM.tr rfl)
  · exact State.startAttempt_keeps hs1 (hS.tr rfl) (hM.tr rfl)

theorem State.leafReset_keeps {x1} (h : Keeps S M s t) (hS : Sub 0x1e000000000001000000000008017d100000100038000000000740005fffff0000022000001383c00000000000000000002080000000003e0000008000000060404000018008800800000000000000000100000000000000000000b28000000200010003986800042009b6b7fc1c08000000200440 S) (hM : Sub 0x3afffe M) :
    Keeps S M s (State.leafReset t x1) := by
  unfold State.leafReset
  extract_lets i1 s2 v3 v4 v5 n6 v7 s8
  have hs2 : Keeps S M s s2 := State.holdReset_keeps h (hM.tr rfl)
  clear_value s2
  have hs8 : Keeps S M s s8 := State.setFeed_keeps hs2 (hM.tr rfl)
  clear_value s8
  refine Keeps.ite ?_ ?_
  · refine State.startChannel_keeps ?_ (hS.tr rfl) (hM.tr rfl)
    refine State.restartGates_keeps ?_ (hM.tr rfl)
    exact State.takesIncomplete_keeps hs2 (hS.tr rfl)
  · refine Keeps.ite ?_ ?_
    · exact State.estStop_keeps hs2 (hS.tr rfl) (hM.tr rfl)
    · refine Keeps.ite ?_ ?_
      · refine State.qmReset_keeps ?_ (hS.tr rfl) (hM.tr rfl)
        exact State.dropDeferred_keeps hs2 (hM.tr rfl)
      · refine Keeps.ite ?_ ?_
        · refine State.clearNode_keeps ?_ (hM.tr rfl)
          exact State.dropDeferred_keeps hs2 (hM.tr rfl)
        · refine Keeps.ite ?_ ?_
          · refine State.wr_keeps ?_ (hS.bit rfl)
            exact State.dropDeferred_keeps hs2 (hM.tr rfl)
          · refine Keeps.ite ?_ ?_
            · exact State.baseUnlock_keeps hs2 (hS.tr rfl) (hM.tr rfl)
            · refine Keeps.ite ?_ ?_
              · exact State.dropLoop_keeps hs2 (hS.tr rfl) (hM.tr rfl)
              · refine Keeps.ite ?_ ?_
                · exact State.stopCounter_keeps hs2 (hS.tr rfl) (hM.tr rfl)
                · refine Keeps.ite ?_ ?_
                  · exact Keeps.to_tm hs2 (hM.tr rfl)
                  · refine Keeps.ite ?_ ?_
                    · exact Keeps.to_tm hs2 (hM.tr rfl)
                    · refine Keeps.ite ?_ ?_
                      · exact Keeps.to_tm hs2 (hM.tr rfl)
                      · refine Keeps.ite ?_ ?_
                        · exact Keeps.to_ev hs2 (hM.tr rfl)
                        · refine Keeps.ite ?_ ?_
                          · refine State.portReset_keeps ?_ (hS.tr rfl) (hM.tr rfl)
                            exact State.disconnect_keeps hs2 (hS.tr rfl) (hM.tr rfl)
                          · refine Keeps.ite ?_ ?_
                            · exact State.pkReset_keeps hs2 (hS.tr rfl) (hM.tr rfl)
                            · refine Keeps.ite ?_ ?_
                              · refine State.pcieReset_keeps ?_ (hS.tr rfl) (hM.tr rfl)
                                exact State.disconnect_keeps hs2 (hS.tr rfl) (hM.tr rfl)
                              · refine Keeps.ite ?_ ?_
                                · exact State.vfReset_keeps hs2 (hS.tr rfl) (hM.tr rfl)
                                · refine Keeps.ite ?_ ?_
                                  · exact State.openBytes_keeps hs2 (hS.tr rfl)
                                  · refine Keeps.ite ?_ ?_
                                    · refine State.hallwayReset_keeps ?_ (hS.tr rfl) (hM.tr rfl)
                                      exact State.disconnect_keeps hs2 (hS.tr rfl) (hM.tr rfl)
                                    · refine Keeps.ite ?_ ?_
                                      · exact Keeps.to_pr hs2 (hM.tr rfl)
                                      · refine Keeps.ite ?_ ?_
                                        · refine Keeps.ite ?_ ?_
                                          · refine State.feedGoes_keeps ?_ (hS.tr rfl) (hM.tr rfl)
                                            exact State.wr_keeps hs8 (hS.bit rfl)
                                          · exact hs8
                                        · refine Keeps.ite ?_ ?_
                                          · exact State.oscReset_keeps hs2 (hS.tr rfl) (hM.tr rfl)
                                          · refine Keeps.ite ?_ ?_
                                            · exact State.oscReset_keeps hs2 (hS.tr rfl) (hM.tr rfl)
                                            · exact hs2

theorem State.afterUnits_keeps (h : Keeps S M s t) (hS : Sub 0x400000000000000000000000000000000000000000000002000000000000000000000000000000000000000000008000000000000000000000000000000000000000000000000000000000000000000000000000000000000000000 S) (hM : Sub 0x2022 M) :
    Keeps S M s (State.afterUnits t) := by
  unfold State.afterUnits
  refine State.pairReview_keeps ?_ (hS.tr rfl) (hM.tr rfl)
  refine Keeps.forAll ?_ fun i1 u2 h3 => ?_
  · exact State.syncShutters_keeps h (hS.tr rfl) (hM.tr rfl)
  · exact State.bridgeReview_keeps h3 (hS.tr rfl) (hM.tr rfl)

theorem State.unitReset_keeps {x1 x2} (h : Keeps S M s t) (hS : Sub 0x1e000000000001000000000008017d100000100038000000000740005fffff0000022000001383c00000000000000000002080000000003e0000008000000060404000018008800800000000000000000100000000000000000000b28000000200010003986800042009b6b7fc1c08000000200440 S) (hM : Sub 0x3afffe M) :
    Keeps S M s (State.unitReset t x1 x2) := by
  unfold State.unitReset
  extract_lets s1 v2 s3 s4
  have hs1 : Keeps S M s s1 := State.noteReset_keeps h (hM.tr rfl)
  clear_value s1
  have hs3 : Keeps S M s s3 := by
    unfold s3
    refine Keeps.ite ?_ ?_
    · exact Keeps.to_un hs1 (hM.tr rfl)
    · exact hs1
  clear_value s3
  have hs4 : Keeps S M s s4 := by
    unfold s4
    refine Keeps.foldl hs3 fun u6 x5 h7 => ?_
    exact State.leafReset_keeps h7 (hS.tr rfl) (hM.tr rfl)
  clear_value s4
  refine State.afterUnits_keeps ?_ (hS.tr rfl) (hM.tr rfl)
  exact State.clearLatchesUnder_keeps hs4 (hM.tr rfl)

theorem State.leafOut_keeps {x1 x2} (h : Keeps S M s t) (hS : Sub 0x1e000000000001000000000008017d100000100038000000000740005fffff0000022000031000000000000000000000002080000000003e0000008000000060404000018008800800000000000000000000000000000000000000108000000000000000000000000009b627fc1c080000e0700400 S) (hM : Sub 0x38fffe M) :
    Keeps S M s (State.leafOut t x1 x2) := by
  unfold State.leafOut
  extract_lets i1 n2 s3
  have hs3 : Keeps S M s s3 := by
    unfold s3
    refine Keeps.when h fun u4 h5 => ?_
    exact State.abortTest_keeps h5 (hS.tr rfl) (hM.tr rfl)
  clear_value s3
  refine Keeps.ite ?_ ?_
  · refine Keeps.ite ?_ ?_
    · exact State.qmUnitRetire_keeps h (hS.tr rfl) (hM.tr rfl)
    · exact h
  · refine Keeps.ite ?_ ?_
    · exact State.stopCounter_keeps h (hS.tr rfl) (hM.tr rfl)
    · refine Keeps.ite ?_ ?_
      · refine State.portReset_keeps ?_ (hS.tr rfl) (hM.tr rfl)
        refine Keeps.ite ?_ ?_
        · exact h
        · exact State.disconnect_keeps h (hS.tr rfl) (hM.tr rfl)
      · refine Keeps.ite ?_ ?_
        · refine State.linkGone_keeps ?_ (hS.tr rfl) (hM.tr rfl)
          refine State.pcieReset_keeps ?_ (hS.tr rfl) (hM.tr rfl)
          refine Keeps.ite ?_ ?_
          · exact h
          · exact State.disconnect_keeps h (hS.tr rfl) (hM.tr rfl)
        · refine Keeps.ite ?_ ?_
          · exact State.vfReset_keeps h (hS.tr rfl) (hM.tr rfl)
          · refine Keeps.ite ?_ ?_
            · refine State.hallwayReset_keeps ?_ (hS.tr rfl) (hM.tr rfl)
              refine Keeps.ite ?_ ?_
              · exact h
              · exact State.disconnect_keeps h (hS.tr rfl) (hM.tr rfl)
            · refine Keeps.ite ?_ ?_
              · refine Keeps.ite ?_ ?_
                · exact hs3
                · refine State.checkFeeds_keeps ?_ (hS.tr rfl) (hM.tr rfl)
                  exact State.feedGoes_keeps hs3 (hS.tr rfl) (hM.tr rfl)
              · refine Keeps.ite ?_ ?_
                · refine Keeps.when ?_ fun u6 h7 => ?_
                  · refine State.disqualify_keeps ?_ (hS.tr rfl) (hM.tr rfl)
                    exact State.leaveBase_keeps h (hS.tr rfl) (hM.tr rfl)
                  · exact State.setOscBit_keeps h7 (hS.tr rfl)
                · refine Keeps.ite ?_ ?_
                  · refine Keeps.when ?_ fun u8 h9 => ?_
                    · refine State.disqualify_keeps ?_ (hS.tr rfl) (hM.tr rfl)
                      exact State.leaveBase_keeps h (hS.tr rfl) (hM.tr rfl)
                    · exact State.setOscBit_keeps h9 (hS.tr rfl)
                  · exact h

theorem State.unitMark_keeps {x1 x2} (h : Keeps S M s t) (hS : Sub 0x1e000000000001000000000008017d100000100038000000000740005fffff0000022000031000000000000000000000002080000000003e0000008000000060404000018008800800000000000000000000000000000000000000108000000000000000000000000009b627fc1c080000e0700400 S) (hM : Sub 0x38fffe M) :
    Keeps S M s (State.unitMark t x1 x2) := by
  unfold State.unitMark
  extract_lets ls1 s2
  have hs2 : Keeps S M s s2 := by
    unfold s2
    refine Keeps.ite ?_ ?_
    · exact State.markRetired_keeps h (hM.tr rfl)
    · exact State.markIsolated_keeps h (hM.tr rfl)
  clear_value s2
  refine State.afterUnits_keeps ?_ (hS.tr rfl) (hM.tr rfl)
  refine Keeps.foldl hs2 fun u4 x3 h5 => ?_
  exact State.leafOut_keeps h5 (hS.tr rfl) (hM.tr rfl)

theorem State.leafBack_keeps {x1} (h : Keeps S M s t) (hS : Sub 0x8017d10000010000000000000044000000000000002000000000000000000000000000000000000000000000000008000000060000000000000000000000a6000001008f70000000000000000000010800000000000000000000000000000b7800000000000200400 S) (hM : Sub 0x2386ba6 M) :
    Keeps S M s (State.leafBack t x1) := by
  unfold State.leafBack
  extract_lets i1
  refine Keeps.ite ?_ ?_
  · exact State.qmUnretire_keeps h (hS.tr rfl) (hM.tr rfl)
  · refine Keeps.ite ?_ ?_
    · exact State.dpAfterReset_keeps h (hS.tr rfl) (hM.tr rfl)
    · refine Keeps.ite ?_ ?_
      · refine Keeps.when h fun u2 h3 => ?_
        exact State.feedGoes_keeps h3 (hS.tr rfl) (hM.tr rfl)
      · refine Keeps.ite ?_ ?_
        · refine State.startAttempt_keeps ?_ (hS.tr rfl) (hM.tr rfl)
          refine State.wr_keeps ?_ (hS.bit (by unfold Sys2Proof.Machine.attemptField; split <;> rfl))
          exact State.setOscBit_keeps h (hS.tr rfl)
        · refine Keeps.ite ?_ ?_
          · refine State.startAttempt_keeps ?_ (hS.tr rfl) (hM.tr rfl)
            refine State.wr_keeps ?_ (hS.bit (by unfold Sys2Proof.Machine.attemptField; split <;> rfl))
            exact State.setOscBit_keeps h (hS.tr rfl)
          · exact h

theorem State.unitUnmark_keeps {x1 x2} (h : Keeps S M s t) (hS : Sub 0x8017d10000010000000000000044000000000000002000000000000000000000000000000200000000000000000008000000060000000000000000800000a6000001008f70000000000000000000010800000000000000000000000000000b7800000000000200400 S) (hM : Sub 0x2386bae M) :
    Keeps S M s (State.unitUnmark t x1 x2) := by
  unfold State.unitUnmark
  extract_lets had1 s2
  have hs2 : Keeps S M s s2 := by
    unfold s2
    refine Keeps.ite ?_ ?_
    · exact State.clearRetired_keeps h (hM.tr rfl)
    · exact State.clearIsolated_keeps h (hM.tr rfl)
  clear_value s2
  refine Keeps.ite ?_ ?_
  · refine State.afterUnits_keeps ?_ (hS.tr rfl) (hM.tr rfl)
    refine Keeps.foldl hs2 fun u4 x3 h5 => ?_
    exact State.leafBack_keeps h5 (hS.tr rfl) (hM.tr rfl)
  · exact hs2

theorem State.unitDo_keeps {x1 x2 x3} (h : Keeps S M s t) (hS : Sub 0x1e000000000001000000000008017d100000100038000000000740005fffff0000022000031383c00000000000000000002080000000003e0000008000000060404000018008800800000a6000001008f7000000000000000c0000b28000000200010003986800042009b6b7fc1c080000e0700440 S) (hM : Sub 0x23afffe M) :
    Keeps S M s (State.unitDo t x1 x2 x3) := by
  unfold State.unitDo
  extract_lets change1 s2 v3 s4
  have hs2 : Keeps S M s s2 := by
    unfold s2
    refine Keeps.ite ?_ ?_
    · exact State.unitReset_keeps h (hS.tr rfl) (hM.tr rfl)
    · refine Keeps.ite ?_ ?_
      · exact State.unitMark_keeps h (hS.tr rfl) (hM.tr rfl)
      · refine Keeps.ite ?_ ?_
        · exact State.unitMark_keeps h (hS.tr rfl) (hM.tr rfl)
        · refine Keeps.ite ?_ ?_
          · exact State.unitUnmark_keeps h (hS.tr rfl) (hM.tr rfl)
          · refine Keeps.ite ?_ ?_
            · exact State.unitUnmark_keeps h (hS.tr rfl) (hM.tr rfl)
            · exact h
  clear_value s2
  have hs4 : Keeps S M s s4 := by
    unfold s4
    split
    · rename_i a5 a6
      exact Keeps.to_un hs2 (hM.tr rfl)
    · rename_i a7
      exact hs2
  clear_value s4
  clear_value change1
  split
  · rename_i a8
    exact hs2
  · rename_i a9 a10
    exact State.listRetire_keeps hs4 (hS.tr rfl) (hM.tr rfl)

theorem State.unitOp_keeps {x1 x2 x3 x4} (h : Keeps S M s t) (hS : Sub 0x1e000000000001000000000008017d100000100038000000000740005fffff0000022000031383c00000000000000000002080000000003e0000008000000060404000018008800800000a6000001008f7000000000000000c0000b28000000200010003986800042009b6b7fc1c080000e0700440 S) (hM : Sub 0x23afffe M) :
    Keeps S M s (State.unitOp t x1 x2 x3 x4).1 := by
  unfold State.unitOp
  extract_lets code1 v2 waits3 t4
  have ht4 : Keeps S M s t4 := State.unitDo_keeps h (hS.tr rfl) (hM.tr rfl)
  clear_value t4
  split
  · rename_i a5
    dsimp only
    exact h
  · rename_i a6
    split
    · rename_i a7
      dsimp only
      exact Keeps.to_un h (hM.tr rfl)
    · rename_i a8
      dsimp only
      exact ht4

theorem State.ownUnitReset_keeps (h : Keeps S M s t) (hS : Sub 0x1e000000000001000000000008017d100000100038000000000740005fffff0000022000001383c00000000000000000002080000000003e0000008000000060404000018008800800000000000000000100000000000000000000b28000000200010003986800042009b6b7fc1c08000000200440 S) (hM : Sub 0x3afffe M) :
    Keeps S M s (State.ownUnitReset t) := by
  unfold State.ownUnitReset
  split
  · exact h
  · extract_lets v1 s1
    have h1 : Keeps S M s s1 := Keeps.to_un h (hM.tr rfl)
    exact Keeps.ite (State.unitReset_keeps h1 (hS.tr rfl) (hM.tr rfl)) h1

theorem State.unitCtrl_keeps {x1 x2 x3} (h : Keeps S M s t) (hS : Sub 0x1fc00000000001000000000008017d100000100038000000000740005fffff0000022000031383c00000000000000000002080000000003e0000008000000060404000018008800800000a6000001008f7000000000000000c0000b28000000200010003986800042009b6b7fc1c080000e0700440 S) (hM : Sub 0x23afffe M) :
    Keeps S M s (State.unitCtrl t x1 x2 x3) := by
  unfold State.unitCtrl
  refine Keeps.ite ?_ ?_
  · exact State.wr_keeps h (hS.bit rfl)
  · extract_lets p1 t2
    have hp1 : Keeps S M s p1.1 := by
      unfold p1
      exact State.unitOp_keeps h (hS.tr rfl) (hM.tr rfl)
    clear_value p1
    have ht2 : Keeps S M s t2 := by
      unfold t2
      exact hp1
    clear_value t2
    refine Keeps.ite ?_ ?_
    · exact State.wrAll_keeps ht2 hS ⟨rfl, trivial⟩
    · exact State.wrAll_keeps ht2 hS ⟨rfl, rfl, trivial⟩

theorem State.unitBack_keeps {x1} (h : Keeps S M s t) (hS : Sub 0x8017d10000010000000000000044000000000000002000000000000000000000000000000200000000000000000008000000060000000000000000800000a6000001008f7000000000000000000000000000000000000000000000000000000000000000000000000 S) (hM : Sub 0x230632e M) :
    Keeps S M s (State.unitBack t x1) := by
  unfold State.unitBack
  refine Keeps.ite ?_ ?_
  · exact h
  · extract_lets s1 gs2 v3 s4 s5
    have hs1 : Keeps S M s s1 := State.backInService_keeps h (hM.tr rfl)
    clear_value s1
    have hs4 : Keeps S M s s4 := Keeps.to_un hs1 (hM.tr rfl)
    clear_value s4
    have hs5 : Keeps S M s s5 := by
      unfold s5
      refine Keeps.ite ?_ ?_
      · exact State.dpAfterReset_keeps hs4 (hS.tr rfl) (hM.tr rfl)
      · exact hs4
    clear_value s5
    exact State.afterUnits_keeps hs5 (hS.tr rfl) (hM.tr rfl)

end Sys2Proof.Machine
end

