-- ==== Sys2Proof/Laws/KeepsFaultOps.lean ====
section
/-! SUPPORT. What each operation of Machine/FaultOps.lean may change (`Keeps`): the bits of the first mask are numbers of register
fields, those of the second the numbers `P.…` of the parts of the state. -/

set_option Elab.async false

namespace Sys2Proof.Machine

variable {S M : Nat} {s t u v : State}

theorem State.injected_keeps {x1} (h : Keeps S M s t) (hS : Sub 0x2000000000000000000000000000000000000000000000000000000000000000000000000000000000000000000000000000000000000000000000000000000000000000000000000000000000000000000000000000000000000000000000000000000000000000 S) (hM : Sub 0x2 M) :
    Keeps S M s (State.injected t x1) := by
  unfold State.injected
  refine State.info_keeps ?_ (hM.tr rfl)
  exact State.bump_keeps h (hS.bit rfl)

theorem State.reactionRecord_keeps {x1 x2} (h : Keeps S M s t) (hM : Sub 0x2 M) :
    Keeps S M s (State.reactionRecord t x1 x2) := by
  unfold State.reactionRecord
  exact State.infoAt_keeps h (hM.tr rfl)

theorem State.finishReaction_keeps {x1} (h : Keeps S M s t) (hM : Sub 0x6 M) :
    Keeps S M s (State.finishReaction t x1) := by
  unfold State.finishReaction
  extract_lets s1 close2 v3
  have hs1 : Keeps S M s s1 := State.reactionRecord_keeps h (hM.tr rfl)
  clear_value s1
  exact Keeps.to_flt hs1 (hM.tr rfl)

theorem State.sramScrub_keeps {x1 x2} (h : Keeps S M s t) (hS : Sub 0x8017d100000100000000000000440000000000000020000000000000000000000000000000000000000000000000080000000600000000000000000000000000000000000000000000000000000000000000000000000000000000000000000000000000000000000 S) (hM : Sub 0x304026 M) :
    Keeps S M s (State.sramScrub t x1 x2) := by
  unfold State.sramScrub
  refine Keeps.ite ?_ ?_
  · exact State.fault_keeps h (hS.tr rfl) (hM.tr rfl)
  · exact State.faultOnce_keeps h (hS.tr rfl) (hM.tr rfl)

theorem State.reactionComplete_keeps (h : Keeps S M s t) (hM : Sub 0x6 M) :
    Keeps S M s (State.reactionComplete t) := by
  unfold State.reactionComplete
  split
  · rename_i a1 a2
    exact h
  · rename_i a3 a4 a5
    exact State.finishReaction_keeps h (hM.tr rfl)

theorem State.mendPair_keeps {x1 x2} (h : Keeps S M s t) (hM : Sub 0x4 M) :
    Keeps S M s (State.mendPair t x1 x2) := by
  unfold State.mendPair
  exact Keeps.to_flt h (hM.tr rfl)

theorem State.breakPair_keeps {x1 x2 x3} (h : Keeps S M s t) (hS : Sub 0xc017d100000100000000000000440000000000000020000000000000000000000000000000000000000000000000080000000600000000000000000000000000000000000000000000000000000000000000000000000000000000000000000000000000000000000 S) (hM : Sub 0x304026 M) :
    Keeps S M s (State.breakPair t x1 x2 x3) := by
  unfold State.breakPair
  refine Keeps.ite ?_ ?_
  · exact h
  · extract_lets v1 s2 s3
    have hs2 : Keeps S M s s2 := Keeps.to_flt h (hM.tr rfl)
    clear_value s2
    have hs3 : Keeps S M s s3 := State.bump_keeps hs2 (hS.bit rfl)
    clear_value s3
    refine State.fault_keeps ?_ (hS.tr rfl) (hM.tr rfl)
    exact State.raise_keeps hs3 (hS.tr rfl) (hM.tr rfl)

theorem State.faultWire_keeps {x1 x2 x3} (h : Keeps S M s t) (hS : Sub 0xc017d100000100000000000000440000000000000020000000000000000000000000000000000000000000000000080000000600000000000000000000000000000000000000000000000000000000000000000000000000000000000000000000000000000000000 S) (hM : Sub 0x304026 M) :
    Keeps S M s (State.faultWire t x1 x2 x3) := by
  unfold State.faultWire
  refine Keeps.ite ?_ ?_
  · exact h
  · refine Keeps.ite ?_ ?_
    · exact State.breakPair_keeps h (hS.tr rfl) (hM.tr rfl)
    · refine Keeps.ite ?_ ?_
      · exact h
      · exact State.mendPair_keeps h (hM.tr rfl)

theorem State.graceExpiry_keeps {x1} (h : Keeps S M s t) (hS : Sub 0xbd000000000000000000000440000000000000000000000000000000000000000000000000000000000000000000000000000000000000000000000000000000000000000000000000000000000000000000000000000000000000000000000000000000000000 S) (hM : Sub 0x26 M) :
    Keeps S M s (State.graceExpiry t x1) := by
  unfold State.graceExpiry
  split
  · rename_i a1 a2 a3
    split
    · rename_i a4 a5 a6
      extract_lets s7 s8
      have hs7 : Keeps S M s s7 := State.putLatch_keeps h (hM.tr rfl)
      clear_value s7
      have hs8 : Keeps S M s s8 := by
        unfold s8
        refine State.infoAt_keeps ?_ (hM.tr rfl)
        exact State.bump_keeps hs7 (hS.bit rfl)
      clear_value s8
      exact State.startReaction_keeps hs8 (hS.tr rfl) (hM.tr rfl)
    · rename_i a9 a10
      exact h
  · rename_i a11 a12
    exact h

theorem State.shutterAll_keeps (h : Keeps S M s t) (hS : Sub 0x1e000000000001000000000008017d100000100038000000000740005fffff0000022000031000000000000000000000002080000000003e0000008000000060404000018008800800000000000000000000000000000000000000108000000000000000000000000009b627fc1c080000e0700400 S) (hM : Sub 0x38fffe M) :
    Keeps S M s (State.shutterAll t) := by
  unfold State.shutterAll
  refine State.syncShutters_keeps ?_ (hS.tr rfl) (hM.tr rfl)
  refine Keeps.forAll h fun i1 u2 h3 => ?_
  refine Keeps.ite ?_ ?_
  · exact h3
  · exact State.unitMark_keeps h3 (hS.tr rfl) (hM.tr rfl)

theorem State.errToggle_keeps (h : Keeps S M s t) (hM : Sub 0x4 M) :
    Keeps S M s (State.errToggle t) := by
  unfold State.errToggle
  refine Keeps.ite ?_ ?_
  · exact h
  · exact Keeps.to_flt h (hM.tr rfl)

theorem State.faultCause_keeps {x1 x2 x3 x4} (h : Keeps S M s t) (hS : Sub 0x8017d100000100000000000000440000000000000020000000000000000000000000000000000000000000000000080000000600000000000000000000000000000000000000000000000000000000000000000000000000000000000000000000000000000000000 S) (hM : Sub 0x304026 M) :
    Keeps S M s (State.faultCause t x1 x2 x3 x4) := by
  unfold State.faultCause
  refine Keeps.ite ?_ ?_
  · exact State.fault_keeps h (hS.tr rfl) (hM.tr rfl)
  · exact h

theorem State.faultAck_keeps {x1} (h : Keeps S M s t) (hM : Sub 0x4 M) :
    Keeps S M s (State.faultAck t x1) := by
  unfold State.faultAck
  split
  · rename_i a1 a2 a3
    split
    · rename_i a4 a5 a6
      refine Keeps.ite ?_ ?_
      · exact State.putLatch_keeps h (hM.tr rfl)
      · exact h
    · rename_i a7 a8
      exact h
  · rename_i a9 a10
    exact h

theorem State.reactionOperation_keeps (h : Keeps S M s t) (hS : Sub 0x1e000000000001000000000008017d100000100038000000000740005fffff0000022000031383c00000000000000000002080000000003e0000008000000060404000018008800800000a6000001008f7000000000000000c0000b28000000200010003986800042009b6b7fc1c080000e0700440 S) (hM : Sub 0x23afffe M) :
    Keeps S M s (State.reactionOperation t) := by
  unfold State.reactionOperation
  split
  · rename_i a1 a2
    exact h
  · rename_i a3 a4 a5
    extract_lets s6 s7 v8 v9 op10 code11 s12 s13 done14 v15 s16
    have hs6 : Keeps S M s s6 := by
      unfold s6
      refine State.lifeBump_keeps ?_ (hS.tr rfl) (hM.tr rfl)
      exact State.reactionRecord_keeps h (hM.tr rfl)
    clear_value s6
    have hs7 : Keeps S M s s7 := by
      unfold s7
      refine Keeps.when hs6 fun u17 h18 => ?_
      exact State.shutterAll_keeps h18 (hS.tr rfl) (hM.tr rfl)
    clear_value s7
    have hs12 : Keeps S M s s12 := by
      unfold s12
      refine Keeps.when hs7 fun u19 h20 => ?_
      exact State.wr_keeps h20 (hS.bit rfl)
    clear_value s12
    have hs13 : Keeps S M s s13 := by
      unfold s13
      refine Keeps.ite ?_ ?_
      · exact hs12
      · refine Keeps.ite ?_ ?_
        · exact State.unitReset_keeps hs12 (hS.tr rfl) (hM.tr rfl)
        · exact State.unitDo_keeps hs12 (hS.tr rfl) (hM.tr rfl)
    clear_value s13
    have hs16 : Keeps S M s s16 := Keeps.to_flt hs13 (hM.tr rfl)
    clear_value s16
    refine Keeps.ite ?_ ?_
    · exact Keeps.to_flt_hs hs7 (hM.tr rfl)
    · refine Keeps.ite ?_ ?_
      · exact hs16
      · exact State.finishReaction_keeps hs16 (hM.tr rfl)

theorem State.settleEnd_keeps (h : Keeps S M s t) (hM : Sub 0x4 M) :
    Keeps S M s (State.settleEnd t) := by
  unfold State.settleEnd
  extract_lets stays1 v2
  exact Keeps.to_flt h (hM.tr rfl)

theorem State.injectBreak_keeps {x1} (h : Keeps S M s t) (hS : Sub 0xc317d100000100000000000000440000000000000020000000000000000000000000000000000000000000000000080000000600000000000000000000000000000000000000000000000000000000000000000000000000000000000000000000000000000000000 S) (hM : Sub 0x304026 M) :
    Keeps S M s (State.injectBreak t x1) := by
  unfold State.injectBreak
  refine Keeps.ite ?_ ?_
  · exact h
  · extract_lets s1 p2 v3 v4
    have hs1 : Keeps S M s s1 := State.wrB_keeps h (hS.bit rfl)
    clear_value s1
    have hv3 : Keeps S M s v3 := State.injected_keeps hs1 (hS.tr rfl) (hM.tr rfl)
    clear_value v3
    refine Keeps.ite ?_ ?_
    · refine Keeps.ite ?_ ?_
      · exact hs1
      · refine State.breakPair_keeps ?_ (hS.tr rfl) (hM.tr rfl)
        exact Keeps.to_flt hv3 (hM.tr rfl)
    · split
      · rename_i a5 a6 a7
        extract_lets v8 v9
        have hv8 : Keeps S M s v8 := State.mendPair_keeps hs1 (hM.tr rfl)
        clear_value v8
        exact Keeps.to_flt hv8 (hM.tr rfl)
      · rename_i a10 a11
        exact hs1

theorem State.leaveTestMode_keeps (h : Keeps S M s t) (hS : Sub 0x8000000000000000000000000000000c317d100000100000000000000440000000000000020000000000000000000000000000000000000000000000000080000000600000000000000000000000000000000000000000000000000000000000000000000000000000000000000000000000000000000000 S) (hM : Sub 0x304026 M) :
    Keeps S M s (State.leaveTestMode t) := by
  unfold State.leaveTestMode
  refine Keeps.ite ?_ ?_
  · refine State.wr_keeps ?_ (hS.bit rfl)
    exact State.injectBreak_keeps h (hS.tr rfl) (hM.tr rfl)
  · exact h

theorem State.injectGo_keeps (h : Keeps S M s t) (hS : Sub 0x8217d100000100000000000000440000000000000020000000000000000000000000000000000000000000000000080000000600000000000000000000000000000000000000000000000000000000000000000000000000000000000000000000000000000000000 S) (hM : Sub 0x304026 M) :
    Keeps S M s (State.injectGo t) := by
  unfold State.injectGo
  extract_lets src1 unit2
  refine Keeps.ite ?_ ?_
  · exact h
  · refine State.raise_keeps ?_ (hS.tr rfl) (hM.tr rfl)
    exact State.injected_keeps h (hS.tr rfl) (hM.tr rfl)

end Sys2Proof.Machine
end

