-- ==== Sys2Proof/Laws/KeepsIdent.lean ====
section
/-! SUPPORT. What each operation of Machine/Ident.lean may change (`Keeps`): the bits of the first mask are numbers of register
fields, those of the second the numbers `P.…` of the parts of the state. -/

set_option Elab.async false

namespace Sys2Proof.Machine

variable {S M : Nat} {s t u v : State}

theorem State.tapIdcode_keeps (h : Keeps S M s t) (hS : Sub 0x40000000000000000000000000000000000000000000000000000000000000000000000000000000000000000000000000000000000000000000000000000000000000000000000000000000000000000000000000000000000000000000000000000000000000000000000000000000000000000000000000 S) (hM : Sub 0x100000 M) :
    Keeps S M s (State.tapIdcode t) := by
  unfold State.tapIdcode
  refine Keeps.ite ?_ ?_
  · extract_lets w1
    refine State.emitOut_keeps ?_ (hM.tr rfl)
    exact State.wr_keeps h (hS.bit rfl)
  · exact h

theorem State.tapReset_keeps (h : Keeps S M s t) (hS : Sub 0x40000000000000000000000000000000000000000000000000000000000000000000000000000000000000000000000000000000000000000000000000000000000000000000000000000000000000000000000000000000000000000000000000000000000000000000000000000000000000000000000000 S) :
    Keeps S M s (State.tapReset t) := by
  unfold State.tapReset
  exact State.wr_keeps h (hS.bit rfl)

theorem State.testModeTry_keeps {x1 x2} (h : Keeps S M s t) (hS : Sub 0x80000000000000010000000000000008017d100000100000000000000440000000000000020000000000000000000000000000000000000000000000000080000000600000000000000000000000000000000000000000000000000000000000000000000000000000000000000000000000000000000000 S) (hM : Sub 0x304026 M) :
    Keeps S M s (State.testModeTry t x1 x2).1 := by
  unfold State.testModeTry
  split
  · rename_i a1
    dsimp only
    exact h
  · rename_i a2
    split
    · rename_i a3
      dsimp only
      exact State.wr_keeps h (hS.bit rfl)
    · rename_i a4
      dsimp only
      exact State.noteLocked_keeps h (hS.tr rfl) (hM.tr rfl)

theorem State.testModeEnter_keeps {x1 x2} (h : Keeps S M s t) (hS : Sub 0x8000000000000041e000000000000008017d100000100000000000000440000000000000020000000000000000000000000000000000000000000000000080000000600000000000000000000000000000000000000000000000000000000000000000000000000000000000000000000000000000000000 S) (hM : Sub 0x304026 M) :
    Keeps S M s (State.testModeEnter t x1 x2) := by
  unfold State.testModeEnter
  extract_lets p1
  have hp1 : Keeps S M s p1.1 := by
    unfold p1
    exact State.testModeTry_keeps h (hS.tr rfl) (hM.tr rfl)
  clear_value p1
  exact State.outcome_keeps hp1 (hS.tr rfl)

theorem State.tapScan_keeps {x1 x2 x3} (h : Keeps S M s t) (hS : Sub 0x40000000000000000000000000000000000000000000000000000000000000000000000000000000000000000000000000000000000000000000000000000000000000000000000000000000000000000000000000000000000000000000000000000000000000000000000000000000000000000000000000 S) (hM : Sub 0x140000 M) :
    Keeps S M s (State.tapScan t x1 x2 x3) := by
  unfold State.tapScan
  refine Keeps.ite ?_ ?_
  · extract_lets s1 v2
    have hs1 : Keeps S M s s1 := by
      unfold s1
      refine State.emitOut_keeps ?_ (hM.tr rfl)
      exact State.wr_keeps h (hS.bit rfl)
    clear_value s1
    exact Keeps.to_id_ hs1 (hM.tr rfl)
  · exact h

theorem State.recordFields_keeps {x1} (h : Keeps S M s t) (hS : Sub 0xf801000000000000000000000000000000000000000000000000000000000000000000000000000000000000000000000000000000000000000000000000000000000000000000000000000000000000000000000000000000000000000000000000000000000000000000000000000000000000000000 S) (hM : Sub 0x200000 M) :
    Keeps S M s (State.recordFields t x1) := by
  unfold State.recordFields
  extract_lets f1 v2 s3 s4
  have hs3 : Keeps S M s s3 := State.wrAll_keeps h hS ⟨rfl, rfl, rfl, trivial⟩
  clear_value s3
  have hs4 : Keeps S M s s4 := by
    unfold s4
    refine Keeps.forAll hs3 fun i5 u6 h7 => ?_
    exact State.wrAll_keeps h7 hS ⟨rfl, rfl, trivial⟩
  clear_value s4
  refine State.drawn_keeps ?_ (hM.tr rfl)
  refine Keeps.forAll hs4 fun i8 u9 h10 => ?_
  exact State.wr_keeps h10 (hS.bit rfl)

theorem State.tapBypass_keeps {x1 x2} (h : Keeps S M s t) (hS : Sub 0x40000000000000000000000000000000000000000000000000000000000000000000000000000000000000000000000000000000000000000000000000000000000000000000000000000000000000000000000000000000000000000000000000000000000000000000000000000000000000000000000000 S) (hM : Sub 0x100000 M) :
    Keeps S M s (State.tapBypass t x1 x2) := by
  unfold State.tapBypass
  refine Keeps.ite ?_ ?_
  · refine State.emitOut_keeps ?_ (hM.tr rfl)
    exact State.wr_keeps h (hS.bit rfl)
  · exact h

theorem State.tapExtest_keeps {x1 x2} (h : Keeps S M s t) (hS : Sub 0x40000000000000000000000000000000000000000000000000000000000000000000000000000000000000000000000000000000000000000000000000000000000000000000000000000000000000000000000000000000000000000000000000000000000000000000000000000000000000000000000000 S) (hM : Sub 0x140000 M) :
    Keeps S M s (State.tapExtest t x1 x2) := by
  unfold State.tapExtest
  refine Keeps.ite ?_ ?_
  · exact State.tapScan_keeps h (hS.tr rfl) (hM.tr rfl)
  · exact State.tapBypass_keeps h (hS.tr rfl) (hM.tr rfl)

theorem State.loadIdentity_keeps (h : Keeps S M s t) (hS : Sub 0x201ff80100000000000000000200000008017d100000100000000000000440000000000000020000000000000000000000000000000000000000000000000080000000600000000000000000000000000000000000000000000000000000000000000000000000000000000000000000000000000000000000 S) (hM : Sub 0x34422e M) :
    Keeps S M s (State.loadIdentity t) := by
  unfold State.loadIdentity
  extract_lets empty1 p2 s3 rcd4 s5 s6 v7 s8
  have hp2 : Keeps S M s p2.1 := by
    unfold p2
    exact State.useRecord_keeps h (hS.tr rfl) (hM.tr rfl)
  clear_value p2
  have hs3 : Keeps S M s s3 := by
    unfold s3
    exact hp2
  clear_value s3
  have hrcd4 : ∀ y9 y10 y11 y12 y13 y14, Keeps S M s y9 → Keeps S M s (rcd4 y9 y10 y11 y12 y13 y14) := by
    intro y9 y10 y11 y12 y13 y14 h15
    unfold rcd4
    beta_reduce
    exact State.wrAll_keeps h15 hS ⟨rfl, rfl, rfl, rfl, rfl, trivial⟩
  clear_value rcd4
  have hs5 : Keeps S M s s5 := by
    unfold s5
    refine hrcd4 _ _ _ _ _ _ ?_
    exact State.recordFields_keeps hs3 (hS.tr rfl) (hM.tr rfl)
  clear_value s5
  have hs6 : Keeps S M s s6 := by
    unfold s6
    refine Keeps.when hs5 fun u16 h17 => ?_
    exact State.atticFault_keeps h17 (hS.tr rfl) (hM.tr rfl)
  clear_value s6
  have hs8 : Keeps S M s s8 := by
    unfold s8
    split
    · rename_i a18 a19 a20
      refine Keeps.ite ?_ ?_
      · extract_lets s21 v22
        have hs21 : Keeps S M s s21 := by
          unfold s21
          refine hrcd4 _ _ _ _ _ _ ?_
          exact State.recordFields_keeps hs3 (hS.tr rfl) (hM.tr rfl)
        clear_value s21
        exact Keeps.to_id_ hs21 (hM.tr rfl)
      · extract_lets s23 v24
        have hs23 : Keeps S M s s23 := by
          unfold s23
          refine State.atticFault_keeps ?_ (hS.tr rfl) (hM.tr rfl)
          refine hrcd4 _ _ _ _ _ _ ?_
          exact State.recordFields_keeps hs3 (hS.tr rfl) (hM.tr rfl)
        clear_value s23
        exact Keeps.to_id_ hs23 (hM.tr rfl)
    · rename_i a25 a26
      exact Keeps.to_id_ hs6 (hM.tr rfl)
  clear_value s8
  exact State.wr_keeps hs8 (hS.bit rfl)

theorem State.fuseBlowDone_keeps (h : Keeps S M s t) (hS : Sub 0x42a000000000000000000000000000000c317d100000100000000000000440000000000000020000000000000000000000000000000000000000000000000080000000600000000000000000000000000000000000000000000000000000000000000000000000000000000000000000000000000000000000 S) (hM : Sub 0x304026 M) :
    Keeps S M s (State.fuseBlowDone t) := by
  unfold State.fuseBlowDone
  refine Keeps.ite ?_ ?_
  · refine State.tapReset_keeps ?_ (hS.tr rfl)
    refine State.wrAll_keeps ?_ hS ⟨rfl, rfl, trivial⟩
    exact State.leaveTestMode_keeps h (hS.tr rfl) (hM.tr rfl)
  · exact h

theorem State.fuseBlow_keeps {x1} (h : Keeps S M s t) (hS : Sub 0x2000000000000000000000000000000000000000000000000000000000000000000000000000000000000000000000000000000000000000000000000000000000000000000000000000000000000000000000000000000000000000000000000000000000000000000000000000000000000000000000000 S) :
    Keeps S M s (State.fuseBlow t x1) := by
  unfold State.fuseBlow
  refine Keeps.ite ?_ ?_
  · exact h
  · exact State.wr_keeps h (hS.bit rfl)

end Sys2Proof.Machine
end

