-- ==== Sys2Proof/Laws/KeepsAdmin.lean ====
section
/-! SUPPORT. What each operation of Machine/Admin.lean may change (`Keeps`): the bits of the first mask are numbers of register
fields, those of the second the numbers `P.…` of the parts of the state. -/

set_option Elab.async false

namespace Sys2Proof.Machine

variable {S M : Nat} {s t u v : State}

theorem State.adminRun_keeps {x1 x2 x3} (h : Keeps S M s t) (hS : Sub 0x8020000000000000000000000000000000000000000000000000000000000000000000000000000000000000000000000000000000000000000000000000000000000000000000000000000000000000000000000 S) (hM : Sub 0x104002 M) (f3 : ∀ y0, Keeps S M s (x3 y0)) :
    Keeps S M s (State.adminRun t x1 x2 x3) := by
  unfold State.adminRun
  split
  · rename_i a1 a2
    exact h
  · rename_i a3 a4 a5
    refine Keeps.ite ?_ ?_
    · exact h
    · refine Keeps.ite ?_ ?_
      · exact State.adminDone_keeps h (hS.tr rfl) (hM.tr rfl)
      · exact f3 _

theorem State.negotiate_keeps {x1} (h : Keeps S M s t) (hS : Sub 0x8020000001000000000000000000000000000000000000000000000000000000000000000000000000000000000000000000000000000000000000000000000000000000000000000000000000000000000000000 S) (hM : Sub 0x104002 M) :
    Keeps S M s (State.negotiate t x1) := by
  unfold State.negotiate
  refine State.adminRun_keeps h (hS.tr rfl) (hM.tr rfl) (fun y1 => ?_)
  refine Keeps.ite ?_ ?_
  · refine Keeps.ite ?_ ?_
    · exact State.adminDone_keeps h (hS.tr rfl) (hM.tr rfl)
    · split
      · rename_i a2 a3
        exact State.adminDone_keeps h (hS.tr rfl) (hM.tr rfl)
      · rename_i a4 a5 a6
        refine State.adminDone_keeps ?_ (hS.tr rfl) (hM.tr rfl)
        exact State.wr_keeps h (hS.bit rfl)
  · refine Keeps.ite ?_ ?_
    · split
      · rename_i a7 a8
        exact State.adminDone_keeps h (hS.tr rfl) (hM.tr rfl)
      · rename_i a9 a10 a11
        refine Keeps.ite ?_ ?_
        · exact State.adminDone_keeps h (hS.tr rfl) (hM.tr rfl)
        · refine Keeps.ite ?_ ?_
          · exact State.adminDone_keeps h (hS.tr rfl) (hM.tr rfl)
          · split
            · rename_i a12 a13
              exact State.adminDone_keeps h (hS.tr rfl) (hM.tr rfl)
            · rename_i a14 a15 a16
              refine State.adminDone_keeps ?_ (hS.tr rfl) (hM.tr rfl)
              exact Keeps.to_hs h (hM.tr rfl)
    · exact State.adminDone_keeps h (hS.tr rfl) (hM.tr rfl)

theorem State.drainReview_keeps {x1} (h : Keeps S M s t) (hS : Sub 0x8020000000000000000000000000000000000000000000000000000000000000000000000000000000000000000000000000000000000000000000000000000000000000000000000000000000000000000000000 S) (hM : Sub 0x104002 M) :
    Keeps S M s (State.drainReview t x1) := by
  unfold State.drainReview
  split
  · rename_i a1 a2
    exact h
  · rename_i a3 a4 a5
    refine Keeps.ite ?_ ?_
    · exact h
    · extract_lets due6 v7 s8
      have hs8 : Keeps S M s s8 := Keeps.to_hs h (hM.tr rfl)
      clear_value s8
      refine Keeps.foldl hs8 fun u10 x9 h11 => ?_
      exact State.adminDone_keeps h11 (hS.tr rfl) (hM.tr rfl)

theorem State.unitOpCmd_keeps {x1} (h : Keeps S M s t) (hS : Sub 0x1e000000000001000000000008017d100000100038000000000740005fffff0008022000031383c00000000000000000002080000000003e0000008000000060404000018008800800000a6000001008f7000000000000000c0000b28000000200010003986800042009b6b7fc1c080000e0700440 S) (hM : Sub 0x23afffe M) :
    Keeps S M s (State.unitOpCmd t x1) := by
  unfold State.unitOpCmd
  refine State.adminRun_keeps h (hS.tr rfl) (hM.tr rfl) (fun y1 => ?_)
  extract_lets op2 u3 p4
  have hp4 : Keeps S M s p4.1 := by
    unfold p4
    exact State.unitOp_keeps h (hS.tr rfl) (hM.tr rfl)
  clear_value p4
  refine Keeps.ite ?_ ?_
  · exact State.adminDone_keeps h (hS.tr rfl) (hM.tr rfl)
  · refine Keeps.ite ?_ ?_
    · exact State.adminWait_keeps hp4 (hM.tr rfl)
    · exact State.adminDone_keeps hp4 (hS.tr rfl) (hM.tr rfl)

theorem State.adminStop_keeps {x1} (h : Keeps S M s t) (hM : Sub 0x422a M) :
    Keeps S M s (State.adminStop t x1) := by
  unfold State.adminStop
  split
  · rename_i a1 a2
    exact h
  · rename_i a3 a4 a5
    refine Keeps.ite ?_ ?_
    · exact Keeps.to_hs h (hM.tr rfl)
    · refine State.destroyReel_keeps ?_ (hM.tr rfl)
      exact State.forgetReplies_keeps h (hM.tr rfl)

theorem State.adminStart_keeps {x1} (h : Keeps S M s t) (hS : Sub 0x20000000000000000000000000000000000000000000000000000000000000000000000000000000000000000000000000000000000000000000000000000000000000000000000000000000000000000000000000 S) (hM : Sub 0x4002 M) :
    Keeps S M s (State.adminStart t x1) := by
  unfold State.adminStart
  extract_lets log1 sq2 cq3
  refine Keeps.ite ?_ ?_
  · exact State.wr_keeps h (hS.bit rfl)
  · refine Keeps.ite ?_ ?_
    · exact State.wr_keeps h (hS.bit rfl)
    · refine State.createReel_keeps ?_ (hM.tr rfl)
      exact State.wr_keeps h (hS.bit rfl)

theorem State.adminCfgWrite_keeps {x1 x2} (h : Keeps S M s t) (hS : Sub 0x27000000000000000000000000000000000000000000000000000000000000000000000000000000000000000000000000000000000000000000000000000000000000000000000000000000000000000000000000 S) (hM : Sub 0x422a M) :
    Keeps S M s (State.adminCfgWrite t x1 x2) := by
  unfold State.adminCfgWrite
  extract_lets on_1 live2 s3 s4
  have hs3 : Keeps S M s s3 := State.wr_keeps h (hS.bit rfl)
  clear_value s3
  have hs4 : Keeps S M s s4 := by
    unfold s4
    refine Keeps.when hs3 fun u5 h6 => ?_
    exact State.wr_keeps h6 (hS.bit rfl)
  clear_value s4
  refine Keeps.ite ?_ ?_
  · refine State.adminStop_keeps ?_ (hM.tr rfl)
    exact State.wr_keeps hs4 (hS.bit rfl)
  · refine Keeps.ite ?_ ?_
    · refine State.modReel_keeps ?_ (hM.tr rfl)
      exact State.wr_keeps hs4 (hS.bit rfl)
    · refine Keeps.ite ?_ ?_
      · exact hs4
      · refine State.adminStart_keeps ?_ (hS.tr rfl) (hM.tr rfl)
        exact State.wr_keeps hs4 (hS.bit rfl)

theorem State.createReelCmd_keeps {x1} (h : Keeps S M s t) (hS : Sub 0x8020000000000000000000000000000000000000000000000000000000000000000000000000000000000000000000000000000000000000000000000000000000000000000000000000000000000000000000000 S) (hM : Sub 0x104002 M) :
    Keeps S M s (State.createReelCmd t x1) := by
  unfold State.createReelCmd
  refine State.adminRun_keeps h (hS.tr rfl) (hM.tr rfl) (fun y1 => ?_)
  split
  · rename_i a2 a3
    exact State.adminDone_keeps h (hS.tr rfl) (hM.tr rfl)
  · rename_i a4 a5 a6
    extract_lets ring7 cring8 p69 p710 x11
    refine Keeps.ite ?_ ?_
    · exact State.adminDone_keeps h (hS.tr rfl) (hM.tr rfl)
    · refine Keeps.ite ?_ ?_
      · exact State.adminDone_keeps h (hS.tr rfl) (hM.tr rfl)
      · refine Keeps.ite ?_ ?_
        · exact State.adminDone_keeps h (hS.tr rfl) (hM.tr rfl)
        · refine Keeps.ite ?_ ?_
          · exact State.adminDone_keeps h (hS.tr rfl) (hM.tr rfl)
          · refine State.adminDone_keeps ?_ (hS.tr rfl) (hM.tr rfl)
            exact State.createReel_keeps h (hM.tr rfl)

theorem State.setVector_keeps {x1} (h : Keeps S M s t) (hS : Sub 0x8020000000000000000000000000000000000000000000000000000000000000000000000000000000000000000000000000000000000000000000000000000000000000000000000000000000000000000000000 S) (hM : Sub 0x104002 M) :
    Keeps S M s (State.setVector t x1) := by
  unfold State.setVector
  refine State.adminRun_keeps h (hS.tr rfl) (hM.tr rfl) (fun y1 => ?_)
  extract_lets p2
  split
  · rename_i a3 a4
    exact State.adminDone_keeps h (hS.tr rfl) (hM.tr rfl)
  · rename_i a5 a6 a7
    refine Keeps.ite ?_ ?_
    · exact State.adminDone_keeps h (hS.tr rfl) (hM.tr rfl)
    · refine Keeps.ite ?_ ?_
      · exact State.adminDone_keeps h (hS.tr rfl) (hM.tr rfl)
      · refine State.adminDone_keeps ?_ (hS.tr rfl) (hM.tr rfl)
        exact State.modReel_keeps h (hM.tr rfl)

theorem State.fullResetCmd_keeps {x1} (h : Keeps S M s t) (hS : Sub 0x8020000000000000000000000000000000000000000000000000000000000000000000000000000000000000000000000000000000000000000000000000000000000000000000000000000000000000000000000 S) (hM : Sub 0x104002 M) :
    Keeps S M s (State.fullResetCmd t x1) := by
  unfold State.fullResetCmd
  refine State.adminRun_keeps h (hS.tr rfl) (hM.tr rfl) (fun y1 => ?_)
  refine Keeps.ite ?_ ?_
  · exact State.adminDone_keeps h (hS.tr rfl) (hM.tr rfl)
  · extract_lets t2 v3
    have ht2 : Keeps S M s t2 := State.adminDone_keeps h (hS.tr rfl) (hM.tr rfl)
    clear_value t2
    exact Keeps.to_hs ht2 (hM.tr rfl)

theorem State.atticWriteCmd_keeps {x1 x2} (h : Keeps S M s t) (hS : Sub 0x8017d1000001000000000000004400000000000080200f8000000000000000000000000000000000000000000000080000000600000000000000000000000000000000000000000000000000000000000000000000000000000000000000000000000000000000000 S) (hM : Sub 0x30422e M) :
    Keeps S M s (State.atticWriteCmd t x1 x2) := by
  unfold State.atticWriteCmd
  refine State.adminRun_keeps h (hS.tr rfl) (hM.tr rfl) (fun y1 => ?_)
  extract_lets t2 inst3 len4
  split
  · rename_i a5 a6
    exact State.adminDone_keeps h (hS.tr rfl) (hM.tr rfl)
  · rename_i a7 a8 a9
    refine Keeps.ite ?_ ?_
    · exact State.adminDone_keeps h (hS.tr rfl) (hM.tr rfl)
    · refine Keeps.ite ?_ ?_
      · exact State.adminDone_keeps h (hS.tr rfl) (hM.tr rfl)
      · refine Keeps.ite ?_ ?_
        · exact State.adminDone_keeps h (hS.tr rfl) (hM.tr rfl)
        · refine Keeps.ite ?_ ?_
          · exact State.adminDone_keeps h (hS.tr rfl) (hM.tr rfl)
          · split
            · rename_i a10
              refine State.dmaError_keeps ?_ (hS.tr rfl) (hM.tr rfl)
              exact State.adminDone_keeps h (hS.tr rfl) (hM.tr rfl)
            · rename_i a11 a12
              refine State.portRequest_keeps ?_ (hM.tr rfl)
              exact State.adminWait_keeps h (hM.tr rfl)

theorem State.completionWrite_keeps {x1} (h : Keeps S M s t) (hS : Sub 0x8020000000000000000000000000000000000000000000000000000000000000000000000000000000000000000000000000000000000000000000000000000000000000000000000000000000000000000000000 S) (hM : Sub 0x104002 M) :
    Keeps S M s (State.completionWrite t x1) := by
  unfold State.completionWrite
  refine State.drainReview_keeps ?_ (hS.tr rfl) (hM.tr rfl)
  exact State.writeHeld_keeps h (hS.tr rfl) (hM.tr rfl)

theorem State.adminBadOpcode_keeps {x1} (h : Keeps S M s t) (hS : Sub 0x8020000000000000000000000000000000000000000000000000000000000000000000000000000000000000000000000000000000000000000000000000000000000000000000000000000000000000000000000 S) (hM : Sub 0x104002 M) :
    Keeps S M s (State.adminBadOpcode t x1) := by
  unfold State.adminBadOpcode
  split
  · rename_i a1 a2
    exact h
  · rename_i a3 a4 a5
    refine Keeps.ite ?_ ?_
    · exact h
    · exact State.adminDone_keeps h (hS.tr rfl) (hM.tr rfl)

theorem State.reelStatusCmd_keeps {x1} (h : Keeps S M s t) (hS : Sub 0x8020000000000000000000000000000000000000000000000000000000000000000000000000000000000000000000000000000000000000000000000000000000000000000000000000000000000000000000000 S) (hM : Sub 0x104002 M) :
    Keeps S M s (State.reelStatusCmd t x1) := by
  unfold State.reelStatusCmd
  refine State.adminRun_keeps h (hS.tr rfl) (hM.tr rfl) (fun y1 => ?_)
  split
  · rename_i a2 a3
    exact State.adminDone_keeps h (hS.tr rfl) (hM.tr rfl)
  · rename_i a4 a5 a6
    split
    · rename_i a7 a8
      exact State.adminDone_keeps h (hS.tr rfl) (hM.tr rfl)
    · rename_i a9 a10 a11
      exact State.adminDone_keeps h (hS.tr rfl) (hM.tr rfl)

theorem State.atticReadCmd_keeps {x1 x2} (h : Keeps S M s t) (hS : Sub 0x200000008017d100000100000000000000440000000000008020000000000000000000000000000000000000000000000000080000000600000000000000000000000000000000000000000000000000000000000000000000000000000000000000000000000000000000000 S) (hM : Sub 0x30422e M) :
    Keeps S M s (State.atticReadCmd t x1 x2) := by
  unfold State.atticReadCmd
  refine State.adminRun_keeps h (hS.tr rfl) (hM.tr rfl) (fun y1 => ?_)
  extract_lets t2 inst3 p4
  have hp4 : Keeps S M s p4.1 := by
    unfold p4
    exact State.readRecord_keeps h (hS.tr rfl) (hM.tr rfl)
  clear_value p4
  refine Keeps.ite ?_ ?_
  · exact State.adminDone_keeps h (hS.tr rfl) (hM.tr rfl)
  · split
    · rename_i a5 a6
      exact State.adminDone_keeps hp4 (hS.tr rfl) (hM.tr rfl)
    · rename_i a7 a8 a9
      extract_lets n10
      refine Keeps.ite ?_ ?_
      · exact State.adminDone_keeps hp4 (hS.tr rfl) (hM.tr rfl)
      · refine Keeps.ite ?_ ?_
        · exact State.adminDone_keeps hp4 (hS.tr rfl) (hM.tr rfl)
        · refine State.adminDone_keeps ?_ (hS.tr rfl) (hM.tr rfl)
          exact State.emitOut_keeps hp4 (hM.tr rfl)

theorem State.endDrains_keeps {x1} (h : Keeps S M s t) (hS : Sub 0x8020000000000000000000000000000000000000000000000000000000000000000000000000000000000000000000000000000000000000000000000000000000000000000000000000000000000000000000000 S) (hM : Sub 0x104002 M) :
    Keeps S M s (State.endDrains t x1) := by
  unfold State.endDrains
  refine Keeps.foldl h fun u2 x1 h3 => ?_
  exact State.adminDone_keeps h3 (hS.tr rfl) (hM.tr rfl)

theorem State.pairSwitchCmd_keeps {x1} (h : Keeps S M s t) (hS : Sub 0x4800018f0000462000000000008020000000000000000000000000000000000000000000000000000000000000000000000000000000000000000000000000000000000000000000000000000000000000000000000000000000000000000000000 S) (hM : Sub 0x106022 M) :
    Keeps S M s (State.pairSwitchCmd t x1) := by
  unfold State.pairSwitchCmd
  refine State.adminRun_keeps h (hS.tr rfl) (hM.tr rfl) (fun y1 => ?_)
  exact State.switchRequest_keeps h (hS.tr rfl) (hM.tr rfl)

theorem State.cancelWork_keeps {x1} (h : Keeps S M s t) (hS : Sub 0x20000000000000000000000000000000000000000000000000000000000000000000000000000000000000000000000000000000000000000000000000000000000000000000000000000000000000000000000 S) (hM : Sub 0x104000 M) :
    Keeps S M s (State.cancelWork t x1) := by
  unfold State.cancelWork
  extract_lets work1 recs2 v3 s4 s5
  have hs4 : Keeps S M s s4 := Keeps.to_hs h (hM.tr rfl)
  clear_value s4
  have hs5 : Keeps S M s s5 := State.modReel_keeps hs4 (hM.tr rfl)
  clear_value s5
  refine Keeps.foldl hs5 fun u7 x6 h8 => ?_
  exact State.complete_keeps h8 (hS.tr rfl) (hM.tr rfl)

theorem State.destroyReelCmd_keeps {x1} (h : Keeps S M s t) (hS : Sub 0x8017d100000100000000000000440000000000008022000000000000000000000000000000080000000000000000080000000600000000000000000000000000000000000000000000000000000000000000000000000000000000000000000000000000000000000 S) (hM : Sub 0x304026 M) :
    Keeps S M s (State.destroyReelCmd t x1) := by
  unfold State.destroyReelCmd
  refine State.adminRun_keeps h (hS.tr rfl) (hM.tr rfl) (fun y1 => ?_)
  split
  · rename_i a2 a3
    exact State.adminDone_keeps h (hS.tr rfl) (hM.tr rfl)
  · rename_i a4 a5 a6
    refine Keeps.ite ?_ ?_
    · exact State.adminDone_keeps h (hS.tr rfl) (hM.tr rfl)
    · extract_lets n7
      refine State.drainStalled_keeps ?_ (hS.tr rfl) (hM.tr rfl)
      refine State.adminDone_keeps ?_ (hS.tr rfl) (hM.tr rfl)
      refine State.destroyReel_keeps ?_ (hM.tr rfl)
      exact State.endDrains_keeps h (hS.tr rfl) (hM.tr rfl)

theorem State.drainTimeout_keeps {x1} (h : Keeps S M s t) (hS : Sub 0x8020000000000000000000000000000000000000000000000000000000000000000000000000000000000000000000000000000000000000000000000000000000000000000000000000000000000000000000000 S) (hM : Sub 0x104002 M) :
    Keeps S M s (State.drainTimeout t x1) := by
  unfold State.drainTimeout
  split
  · rename_i a1 a2
    exact h
  · rename_i a3 a4 a5
    extract_lets held6 v7 s8
    have hs8 : Keeps S M s s8 := Keeps.to_hs h (hM.tr rfl)
    clear_value s8
    exact State.adminDone_keeps hs8 (hS.tr rfl) (hM.tr rfl)

theorem State.drainReelCmd_keeps {x1} (h : Keeps S M s t) (hS : Sub 0x8017d100000100000000000000440000000000008022000000000000000000000000000000080000000000000000080000000600000000000000000000000000000000000000000000000000000000000000000000000000000000000000000000000000000000000 S) (hM : Sub 0x304026 M) :
    Keeps S M s (State.drainReelCmd t x1) := by
  unfold State.drainReelCmd
  refine State.adminRun_keeps h (hS.tr rfl) (hM.tr rfl) (fun y1 => ?_)
  split
  · rename_i a2 a3
    exact State.adminDone_keeps h (hS.tr rfl) (hM.tr rfl)
  · rename_i a4 a5 a6
    refine Keeps.ite ?_ ?_
    · exact State.adminDone_keeps h (hS.tr rfl) (hM.tr rfl)
    · split
      · rename_i a7 a8
        exact State.adminDone_keeps h (hS.tr rfl) (hM.tr rfl)
      · rename_i a9 a10 a11
        refine Keeps.ite ?_ ?_
        · exact State.adminDone_keeps h (hS.tr rfl) (hM.tr rfl)
        · extract_lets n12 t13 v14
          have ht13 : Keeps S M s t13 := State.cancelWork_keeps h (hS.tr rfl) (hM.tr rfl)
          clear_value t13
          split
          · rename_i a15 a16 a17
            refine Keeps.ite ?_ ?_
            · refine State.drainStalled_keeps ?_ (hS.tr rfl) (hM.tr rfl)
              exact State.adminDone_keeps ht13 (hS.tr rfl) (hM.tr rfl)
            · refine State.drainStalled_keeps ?_ (hS.tr rfl) (hM.tr rfl)
              refine State.adminWait_keeps ?_ (hM.tr rfl)
              exact Keeps.to_hs ht13 (hM.tr rfl)
          · rename_i a18 a19
            exact ht13

end Sys2Proof.Machine
end

