-- ==== Sys2Proof/Laws/KeepsWide.lean ====
section
/-! SUPPORT. What each operation of Machine/Wide.lean may change (`Keeps`): the bits of the first mask are numbers of register
fields, those of the second the numbers `P.…` of the parts of the state. -/

set_option Elab.async false

namespace Sys2Proof.Machine

variable {S M : Nat} {s t u v : State}

theorem State.wideSel_keeps {x1 x2 x3 x4} (h : Keeps S M s t) (hS : Sub 0x38000000000000000000000000000000000000000000000000000000000000000000000000000000000000000000000000000000000000000000000000000000000000000000000000000000000000000000000000000000000000000000000000000000000000000000000000000000000000 S) :
    Keeps S M s (State.wideSel t x1 x2 x3 x4) := by
  unfold State.wideSel
  exact State.wrAll_keeps h hS ⟨rfl, rfl, rfl, trivial⟩

theorem State.wideStatus_keeps {x1 x2 x3 x4} (h : Keeps S M s t) (hS : Sub 0x3c0000000000000000000000000000000000000000000000000000000000000000000000000000000000000000000000000000000000000000000000000000000000000000000000000000000000000000000000000000000000000000000000000000000000000000000000000000000000000 S) :
    Keeps S M s (State.wideStatus t x1 x2 x3 x4) := by
  unfold State.wideStatus
  exact State.wrAll_keeps h hS ⟨rfl, rfl, rfl, rfl, trivial⟩

theorem State.putWide_keeps {x1 x2} (h : Keeps S M s t) (hS : Sub 0x400000000000000000000000000000000000000000000000000000000000000000000000000000000000000000000000000000000000000000000000000000000000000000000000000000000000000000000000000000000000000000000000000000000000000000000000000000000000000 S) :
    Keeps S M s (State.putWide t x1 x2) := by
  unfold State.putWide
  refine Keeps.forAll h fun i1 u2 h3 => ?_
  exact State.wr_keeps h3 (hS.bit rfl)

theorem State.noteCapture_keeps {x1 x2} (h : Keeps S M s t) (hS : Sub 0x8017d100000100000000000000440000000000000020000000000000000000000000000000000000000000000000080000000600000000000000000000000000000000000000000000000000000000000000000000000000000000000000000000000000000000000 S) (hM : Sub 0x304026 M) :
    Keeps S M s (State.noteCapture t x1 x2) := by
  unfold State.noteCapture
  refine Keeps.when h fun u1 h2 => ?_
  exact State.atticFault_keeps h2 (hS.tr rfl) (hM.tr rfl)

theorem State.wideCapture_keeps {x1 x2 x3} (h : Keeps S M s t) (hS : Sub 0x7f800000000000000000008017d100000100000000000000440000000000000020000000000000000000000000000000000000000000000000080000000600000000000000000000000000000000000000000000000000000000000000000000000000000000000000000000000000000000000 S) (hM : Sub 0x304026 M) :
    Keeps S M s (State.wideCapture t x1 x2 x3) := by
  unfold State.wideCapture
  extract_lets s1
  have hs1 : Keeps S M s s1 := State.wideSel_keeps h (hS.tr rfl)
  clear_value s1
  split
  · rename_i a2 a3
    exact State.wideStatus_keeps hs1 (hS.tr rfl)
  · rename_i a4 a5 a6
    extract_lets t7
    have ht7 : Keeps S M s t7 := by
      unfold t7
      split
      · rename_i a8 a9 a10
        refine State.drawn_keeps ?_ (hM.tr rfl)
        exact State.putWide_keeps hs1 (hS.tr rfl)
      · rename_i a11 a12
        exact hs1
    clear_value t7
    refine State.noteCapture_keeps ?_ (hS.tr rfl) (hM.tr rfl)
    exact State.wideStatus_keeps ht7 (hS.tr rfl)

theorem State.wideApply_keeps {x1 x2 x3} (h : Keeps S M s t) (hM : Sub 0x40014 M) :
    Keeps S M s (State.wideApply t x1 x2 x3) := by
  unfold State.wideApply
  refine Keeps.ite ?_ ?_
  · refine Keeps.ite ?_ ?_
    · exact Keeps.to_tm h (hM.tr rfl)
    · exact Keeps.to_tm h (hM.tr rfl)
  · refine Keeps.ite ?_ ?_
    · exact Keeps.to_flt h (hM.tr rfl)
    · exact Keeps.to_id_ h (hM.tr rfl)

theorem State.wideTry_keeps {x1 x2 x3 x4} (h : Keeps S M s t) (hS : Sub 0x3f800030000000000000008017d100000100000000000000440000000000000020000000000000000000000000000000000000000000000000080000000600000000000000000000000000000000000000000000000000000000000000000000000000000000000000000000000000000000000 S) (hM : Sub 0x344036 M) :
    Keeps S M s (State.wideTry t x1 x2 x3 x4).1 := by
  unfold State.wideTry
  extract_lets s1 v2
  have hs1 : Keeps S M s s1 := State.wideSel_keeps h (hS.tr rfl)
  clear_value s1
  split
  · rename_i a3 a4
    dsimp only
    exact State.wideStatus_keeps hs1 (hS.tr rfl)
  · rename_i a5 a6 a7
    extract_lets same8
    split
    · rename_i a9
      dsimp only
      refine State.noteLocked_keeps ?_ (hS.tr rfl) (hM.tr rfl)
      exact State.wideStatus_keeps hs1 (hS.tr rfl)
    · rename_i a10
      split
      · rename_i a11
        dsimp only
        refine State.noteNotOwner_keeps ?_ (hS.tr rfl) (hM.tr rfl)
        exact State.wideStatus_keeps hs1 (hS.tr rfl)
      · rename_i a12
        split
        · rename_i a13
          dsimp only
          exact State.wideStatus_keeps hs1 (hS.tr rfl)
        · rename_i a14
          split
          · rename_i a15
            dsimp only
            exact State.wideStatus_keeps hs1 (hS.tr rfl)
          · rename_i a16
            dsimp only
            refine State.wideStatus_keeps ?_ (hS.tr rfl)
            exact State.wideApply_keeps hs1 (hM.tr rfl)

theorem State.wideWrite_keeps {x1 x2 x3} (h : Keeps S M s t) (hS : Sub 0x3f80043e000000000000008017d100000100000000000000440000000000000020000000000000000000000000000000000000000000000000080000000600000000000000000000000000000000000000000000000000000000000000000000000000000000000000000000000000000000000 S) (hM : Sub 0x344036 M) :
    Keeps S M s (State.wideWrite t x1 x2 x3) := by
  unfold State.wideWrite
  split
  · rename_i a1 a2 a3
    extract_lets p4
    have hp4 : Keeps S M s p4.1 := by
      unfold p4
      exact State.wideTry_keeps h (hS.tr rfl) (hM.tr rfl)
    clear_value p4
    exact State.outcome_keeps hp4 (hS.tr rfl)
  · rename_i a5 a6
    exact h

end Sys2Proof.Machine
end

