-- ==== Sys2Proof/Laws/KeepsOperands.lean ====
section
/-! SUPPORT. What each operation of Machine/Operands.lean may change (`Keeps`): the bits of the first mask are numbers of register
fields, those of the second the numbers `P.…` of the parts of the state. -/

set_option Elab.async false

namespace Sys2Proof.Machine

variable {S M : Nat} {s t u v : State}

theorem State.ignored_keeps (h : Keeps S M s t) (hS : Sub 0x2000000000000000000000000000000000000000000000000000000000000000000000000000000000000000000000000000000000000000000000000000000000000000000000000000000000000000000000000000000000000000000000000000000000000000000000000000000000 S) :
    Keeps S M s (State.ignored t) := by
  unfold State.ignored
  exact State.bump_keeps h (hS.bit rfl)

theorem State.noteRetired_keeps {x1} (h : Keeps S M s t) (hS : Sub 0x200000000000000000000000 S) :
    Keeps S M s (State.noteRetired t x1) := by
  unfold State.noteRetired
  exact State.bump_keeps h (hS.bit rfl)

theorem State.readReg_keeps {x1 x2} (h : Keeps S M s t) (hS : Sub 0x60e0000000000040000000000000000000000000000000000000000000000000000000000000000000080000000000000000000000000000000000000000000000000000000000000000000000000000000000000000000000000000000000000000000000200000000000000000000000 S) (hM : Sub 0x200000 M) :
    Keeps S M s (State.readReg t x1 x2).1 := by
  unfold State.readReg
  split
  · rename_i a1
    dsimp only
    exact State.clientWindow_keeps h (hS.tr rfl)
  · rename_i a2
    split
    · rename_i a3 a4
      dsimp only
      exact State.ignored_keeps h (hS.tr rfl)
    · rename_i a5 a6 a7 a8
      split
      · rename_i a9 a10 a11
        dsimp only
        refine State.outcome_keeps ?_ (hS.tr rfl)
        exact State.noteRetired_keeps h (hS.tr rfl)
      · rename_i a12 a13
        extract_lets v14
        dsimp only
        refine State.drawn_keeps ?_ (hM.tr rfl)
        refine Keeps.ite ?_ ?_
        · exact State.stagingNext_keeps h (hS.tr rfl)
        · exact h

end Sys2Proof.Machine
end

