-- ==== Sys2Proof/Laws/KeepsCommitPoint.lean ====
section
/-! SUPPORT. What each operation of Machine/CommitPoint.lean may change (`Keeps`): the bits of the first mask are numbers of register
fields, those of the second the numbers `P.…` of the parts of the state. -/

set_option Elab.async false

namespace Sys2Proof.Machine

variable {S M : Nat} {s t u v : State}

theorem State.collisions_keeps (h : Keeps S M s t) (hS : Sub 0x1000000000000000000000000000000000000000000000000000000000000000000000000000000000000000000000000000000000000000000000000000000000000000000000000000000000000000000000000000000000000000000000000000000000000000000000000000000000 S) (hM : Sub 0x3 M) :
    Keeps S M s (State.collisions t) := by
  unfold State.collisions
  extract_lets l1 v2 s3
  have hs3 : Keeps S M s s3 := Keeps.to_cp h (hM.tr rfl)
  clear_value s3
  refine Keeps.foldl hs3 fun u5 x4 h6 => ?_
  extract_lets ms7 lo8 hi9
  refine Keeps.ite ?_ ?_
  · refine State.info_keeps ?_ (hM.tr rfl)
    exact State.bump_keeps h6 (hS.bit rfl)
  · exact h6

theorem State.noteCommit_keeps {x1} (h : Keeps S M s t) (hS : Sub 0x10000000000000000000000000000000000000000000000000000000000000000000000000000000000000000000000000000000000000000000000000000000000000000000000000000000000000000000000000000000000000000000000000000000000000000000000000000000 S) (hM : Sub 0x1 M) :
    Keeps S M s (State.noteCommit t x1) := by
  unfold State.noteCommit
  split
  · rename_i a1 a2
    exact h
  · rename_i a3 a4 a5
    extract_lets t6 v7
    refine State.wr_keeps ?_ (hS.bit rfl)
    exact Keeps.to_cp h (hM.tr rfl)

theorem State.storeFields_keeps {x1 x2 x3} (h : Keeps S M s t) (hM : Sub 0x400000 M) :
    Keeps S M s (State.storeFields t x1 x2 x3) := by
  unfold State.storeFields
  refine Keeps.foldl h fun u f hu => ?_
  split
  · exact State.wr_any hu hM
  · exact hu

theorem State.pageWrite_keeps {x1 x2 x3} (h : Keeps S M s t) (hS : Sub 0x8017d100000100000000000000440005f3fff00000220f8000000000000000000000000000080000000000000000080000000600000000000000000000000000000000000000000000000000000000000000000000000000000000000000000000000000000000000 S) (hM : Sub 0x704026 M) :
    Keeps S M s (State.pageWrite t x1 x2 x3) := by
  unfold State.pageWrite
  refine Keeps.ite ?_ ?_
  · exact h
  · split
    · rename_i a1 a2
      exact h
    · rename_i a3 a4 a5 a6
      split
      · rename_i a7 a8
        refine Keeps.when h fun u9 h10 => ?_
        exact State.timeSnapshot_keeps h10 (hS.tr rfl)
      · rename_i a11 a12
        exact State.vfEvtCfg_keeps h (hS.tr rfl) (hM.tr rfl)
      · rename_i a13 a14
        exact State.vfEvtCons_keeps h (hS.tr rfl) (hM.tr rfl)
      · rename_i a15 a16
        exact State.vfEvtCons_keeps h (hS.tr rfl) (hM.tr rfl)
      · rename_i a17 a18 a19 a20 a21
        exact State.storeFields_keeps h (hM.tr rfl)

theorem plain_keeps (h : Keeps S M s t) :
    Keeps S M s (plain t).1 := by
  unfold plain
  dsimp only
  exact h

theorem ownerFld_bit {W : Nat} (h : Sub 0x1e0000000000000000000000000000000000000000000000000000000000000000000000000000000000000000000000000000000000000000000000000000000000000000000000000000000000000000000000000000000000000000000000000000000000000000000000000000000000000000 W)
    (j : Nat) : W.testBit (ownerFld j).id = true := by
  refine h.bit ?_
  unfold ownerFld
  match j with
  | 0 => rfl
  | 1 => rfl
  | 2 => rfl
  | 3 => rfl
  | n + 4 => simp only [List.getD_cons_succ, List.getD_nil]; rfl

theorem State.ownerWrite_keeps {x1 x2 x3 x4} (h : Keeps S M s t) (hS : Sub 0x1e000000020000000000000008017d100000100000000000000440000000000000020000000000000000000000000000000000000000000000000080000000600000000000000000000000000000000000000000000000000000000000000000000000000000000000000000000000000000000000 S) (hM : Sub 0x304026 M) :
    Keeps S M s (State.ownerWrite t x1 x2 x3 x4).1 := by
  unfold State.ownerWrite
  refine Keeps.foldlFst h fun q j hq => ?_
  dsimp only
  split
  · exact hq
  · split
    · exact State.wr_keeps hq (ownerFld_bit (hS.tr rfl) j)
    · exact State.noteNotOwner_keeps hq (hS.tr rfl) (hM.tr rfl)

theorem State.actMeasure_keeps {x1 x2 x3 x4} (h : Keeps S M s t) (g : Keeps S M s u) (hS : Sub 0x1fc7f800030001000000000008017d100000100038000000000740005fffff0000022000031383c00000000000000000002080000000003e0000008000000060404000018008800800000a6000001008f7000000000000000c0000b2800001fe00118003986800042009b6b7fc1c080000e0700440 S) (hM : Sub 0x23efffe M) :
    Keeps S M s (State.actMeasure t u x1 x2 x3 x4).1 := by
  unfold State.actMeasure
  split
  · rename_i a1
    split
    · rename_i a2
      exact State.wideTry_keeps h (hS.tr rfl) (hM.tr rfl)
    · rename_i a3
      refine plain_keeps ?_
      exact State.wideCapture_keeps g (hS.tr rfl) (hM.tr rfl)
  · rename_i a4
    refine plain_keeps ?_
    refine Keeps.when g fun u5 h6 => ?_
    exact State.unitCtrl_keeps h6 (hS.tr rfl) (hM.tr rfl)
  · rename_i a7
    exact State.ownerWrite_keeps g (hS.tr rfl) (hM.tr rfl)
  · rename_i a8
    refine plain_keeps ?_
    refine Keeps.when g fun u9 h10 => ?_
    exact State.baseMove_keeps h10 (hS.tr rfl) (hM.tr rfl)
  · rename_i a11
    refine plain_keeps ?_
    refine Keeps.when g fun u12 h13 => ?_
    exact State.restartGates_keeps h13 (hM.tr rfl)
  · rename_i a14
    refine plain_keeps ?_
    refine Keeps.when g fun u15 h16 => ?_
    exact State.restartGates_keeps h16 (hM.tr rfl)
  · rename_i a17
    refine plain_keeps ?_
    refine Keeps.when g fun u18 h19 => ?_
    exact State.restartGates_keeps h19 (hM.tr rfl)
  · rename_i a20
    extract_lets was21 on_22 t23 v24
    have ht23 : Keeps S M s t23 := State.restartGates_keeps g (hM.tr rfl)
    clear_value t23
    split
    · rename_i a25
      refine plain_keeps ?_
      exact State.startChannel_keeps g (hS.tr rfl) (hM.tr rfl)
    · rename_i a26
      split
      · rename_i a27
        refine plain_keeps ?_
        exact State.setChan_keeps ht23 (hM.tr rfl)
      · rename_i a28
        refine plain_keeps ?_
        refine Keeps.when g fun u29 h30 => ?_
        exact State.restartGates_keeps h30 (hM.tr rfl)
  · rename_i a31
    extract_lets s132
    have hs132 : Keeps S M s s132 := by
      unfold s132
      refine Keeps.when g fun u33 h34 => ?_
      exact State.restartGates_keeps h34 (hM.tr rfl)
    clear_value s132
    refine plain_keeps ?_
    refine Keeps.when hs132 fun u35 h36 => ?_
    exact State.restartGates_keeps h36 (hM.tr rfl)
  · rename_i a37
    refine plain_keeps ?_
    refine Keeps.when ?_ fun u38 h39 => ?_
    · refine Keeps.when g fun u40 h41 => ?_
      exact State.estStop_keeps h41 (hS.tr rfl) (hM.tr rfl)
    · exact State.estStart_keeps h39 (hS.tr rfl) (hM.tr rfl)
  · rename_i a42
    refine plain_keeps ?_
    refine Keeps.when ?_ fun u43 h44 => ?_
    · refine Keeps.when g fun u45 h46 => ?_
      exact State.takeAbort_keeps h46 (hS.tr rfl) (hM.tr rfl)
    · exact State.takeArm_keeps h44 (hS.tr rfl) (hM.tr rfl)
  · rename_i a47 a48 a49 a50 a51 a52 a53 a54 a55 a56 a57 a58
    exact plain_keeps g

theorem State.actLoops_keeps {x1 x2 x3} (h : Keeps S M s t) (g : Keeps S M s u) (hS : Sub 0x8000180068000080000098e00000002c0000000000000000000000000000000000000000000000000000000000000000000000000 S) (hM : Sub 0x2803312 M) :
    Keeps S M s (State.actLoops t u x1 x2 x3).1 := by
  unfold State.actLoops
  split
  · rename_i a1
    refine plain_keeps ?_
    refine Keeps.when g fun u2 h3 => ?_
    exact State.clearNode_keeps h3 (hM.tr rfl)
  · rename_i a4
    refine plain_keeps ?_
    refine Keeps.when g fun u5 h6 => ?_
    refine Keeps.ite ?_ ?_
    · exact State.refAckStep_keeps h6 (hS.tr rfl) (hM.tr rfl)
    · exact State.refAck_keeps h6 (hS.tr rfl) (hM.tr rfl)
  · rename_i a7
    split
    · rename_i a8
      exact State.holdClear_keeps g (hS.tr rfl) (hM.tr rfl)
    · rename_i a9
      exact plain_keeps g
  · rename_i a10
    refine plain_keeps ?_
    refine Keeps.foldl ?_ fun u12 x11 h13 => ?_
    · refine Keeps.when g fun u14 h15 => ?_
      exact State.commitGo_keeps h15 (hS.tr rfl) (hM.tr rfl)
    · refine Keeps.when h13 fun u16 h17 => ?_
      exact State.realign_keeps h17 (hS.tr rfl) (hM.tr rfl)
  · rename_i a18
    split
    · rename_i a19
      exact plain_keeps g
    · rename_i a20
      refine plain_keeps ?_
      refine State.wrAll_keeps ?_ hS ⟨rfl, rfl, trivial⟩
      exact Keeps.to_sy g (hM.tr rfl)
  · rename_i a21
    refine plain_keeps ?_
    refine Keeps.when g fun u22 h23 => ?_
    exact State.syncShutters_keeps h23 (hS.tr rfl) (hM.tr rfl)
  · rename_i a24
    extract_lets bad25 s126
    have hs126 : Keeps S M s s126 := by
      unfold s126
      refine Keeps.when g fun u27 h28 => ?_
      exact State.timeSet_keeps h28 (hS.tr rfl) (hM.tr rfl)
    clear_value s126
    dsimp only
    refine Keeps.when hs126 fun u29 h30 => ?_
    exact State.timeStepRequest_keeps h30 (hM.tr rfl)
  · rename_i a31
    split
    · rename_i a32
      exact plain_keeps g
    · rename_i a33
      refine plain_keeps ?_
      exact State.notePps_keeps g (hM.tr rfl)
  · rename_i a34
    split
    · rename_i a35
      exact plain_keeps g
    · rename_i a36
      refine plain_keeps ?_
      exact State.notePps_keeps g (hM.tr rfl)
  · rename_i a37
    split
    · rename_i a38
      exact plain_keeps g
    · rename_i a39
      refine plain_keeps ?_
      exact State.notePps_keeps g (hM.tr rfl)
  · rename_i a40 a41 a42 a43 a44 a45 a46 a47 a48 a49 a50
    exact plain_keeps g

theorem State.actHost_keeps {x1 x2 x3} (h : Keeps S M s t) (g : Keeps S M s u) (hS : Sub 0x8017d1000001004800018f000046200000000002f022000000000000000000000540000002080000000013e00000080000000600000000000000000000000000000000000000000000000000000000000000000000000000000000000000000000000000000000000 S) (hM : Sub 0x31e22e M) :
    Keeps S M s (State.actHost t u x1 x2 x3).1 := by
  unfold State.actHost
  split
  · rename_i a1
    extract_lets restart2 s13
    have hs13 : Keeps S M s s13 := by
      unfold s13
      refine Keeps.when g fun u4 h5 => ?_
      exact State.portReset_keeps h5 (hS.tr rfl) (hM.tr rfl)
    clear_value s13
    refine plain_keeps ?_
    refine State.bridgeReview_keeps ?_ (hS.tr rfl) (hM.tr rfl)
    refine Keeps.when hs13 fun u6 h7 => ?_
    exact State.wr_keeps h7 (hS.bit rfl)
  · rename_i a8
    refine plain_keeps ?_
    refine Keeps.when ?_ fun u9 h10 => ?_
    · refine Keeps.when g fun u11 h12 => ?_
      exact State.restartLink_keeps h12 (hS.tr rfl) (hM.tr rfl)
    · exact State.restartEq_keeps h10 (hS.tr rfl)
  · rename_i a13
    refine plain_keeps ?_
    exact State.bridgeReview_keeps g (hS.tr rfl) (hM.tr rfl)
  · rename_i a14
    split
    · rename_i a15 a16
      refine plain_keeps ?_
      exact State.tblRead_keeps g (hS.tr rfl)
    · rename_i a17 a18
      refine plain_keeps ?_
      exact State.tblWrite_keeps g (hS.tr rfl) (hM.tr rfl)
    · rename_i a19 a20
      refine plain_keeps ?_
      exact State.tblDelete_keeps g (hS.tr rfl) (hM.tr rfl)
    · rename_i a21 a22
      refine plain_keeps ?_
      exact State.tblFind_keeps g (hS.tr rfl)
    · rename_i a23 a24 a25 a26 a27
      exact plain_keeps g
  · rename_i a28
    refine plain_keeps ?_
    exact State.adminCfgWrite_keeps g (hS.tr rfl) (hM.tr rfl)
  · rename_i a29
    split
    · rename_i a30
      refine plain_keeps ?_
      exact State.switchForce_keeps g (hS.tr rfl) (hM.tr rfl)
    · rename_i a31
      refine plain_keeps ?_
      refine Keeps.when g fun u32 h33 => ?_
      exact State.switchRequest_keeps h33 (hS.tr rfl) (hM.tr rfl)
  · rename_i a34 a35 a36 a37 a38 a39 a40
    exact plain_keeps g

theorem State.feedCfgWrite_keeps {x1} (h : Keeps S M s t) (g : Keeps S M s u) (hS : Sub 0x4400000000000000000000000000000000000000000000000000000000000000000800000006000000000000000000000000000000000000000000000000000000000000000000000000000000000000000000000000000e0700401 S) (hM : Sub 0x200262 M) :
    Keeps S M s (State.feedCfgWrite t u x1).1 := by
  unfold State.feedCfgWrite
  split
  · rename_i a1
    split
    · rename_i a2
      dsimp only
      exact State.wr_keeps g (hS.bit rfl)
    · rename_i a3
      extract_lets s4
      have hs4 : Keeps S M s s4 := by
        unfold s4
        refine Keeps.when g fun u5 h6 => ?_
        exact State.abortTest_keeps h6 (hS.tr rfl) (hM.tr rfl)
      clear_value s4
      refine plain_keeps ?_
      refine State.checkFeeds_keeps ?_ (hS.tr rfl) (hM.tr rfl)
      exact State.feedGoes_keeps hs4 (hS.tr rfl) (hM.tr rfl)
  · rename_i a7
    exact plain_keeps g

theorem State.powerTestWrite_keeps {x1} (h : Keeps S M s t) (hS : Sub 0xe0600400 S) (hM : Sub 0x42 M) :
    Keeps S M s (State.powerTestWrite t x1).1 := by
  unfold State.powerTestWrite
  split
  · rename_i a1
    exact State.startTestsAB_keeps h (hS.tr rfl) (hM.tr rfl)
  · rename_i a2
    split
    · rename_i a3
      exact State.startTest_keeps h (hS.tr rfl) (hM.tr rfl)
    · rename_i a4
      split
      · rename_i a5
        exact State.startTest_keeps h (hS.tr rfl) (hM.tr rfl)
      · rename_i a6
        exact plain_keeps h

theorem State.actModule_keeps {x1 x2 x3 x4} (h : Keeps S M s t) (g : Keeps S M s u) (hS : Sub 0x28000000000000001000000020079400c317d1000001000000000000004400000000000000200000000000000000000000000000000000000000000000000800000006000000000000000000000000000000000000000000000000000000000000000000000000000000000000000000000000000e0700401 S) (hM : Sub 0x7b0426e M) :
    Keeps S M s (State.actModule t u x1 x2 x3 x4).1 := by
  unfold State.actModule
  split
  · rename_i a1
    refine plain_keeps ?_
    exact State.faultAck_keeps g (hM.tr rfl)
  · rename_i a2
    extract_lets s13
    have hs13 : Keeps S M s s13 := by
      unfold s13
      refine Keeps.when g fun u4 h5 => ?_
      exact State.injectBreak_keeps h5 (hS.tr rfl) (hM.tr rfl)
    clear_value s13
    refine plain_keeps ?_
    refine Keeps.when hs13 fun u6 h7 => ?_
    exact State.injectGo_keeps h7 (hS.tr rfl) (hM.tr rfl)
  · rename_i a8
    split
    · rename_i a9 a10
      refine plain_keeps ?_
      exact State.mbRead_keeps g (hS.tr rfl) (hM.tr rfl)
    · rename_i a11 a12
      refine plain_keeps ?_
      exact State.mbWrite_keeps g (hS.tr rfl) (hM.tr rfl)
    · rename_i a13 a14
      refine plain_keeps ?_
      exact State.mbRawRead_keeps g (hS.tr rfl) (hM.tr rfl)
    · rename_i a15 a16
      refine plain_keeps ?_
      exact State.mbRawWrite_keeps g (hS.tr rfl) (hM.tr rfl)
    · rename_i a17 a18 a19 a20 a21
      exact plain_keeps g
  · rename_i a22
    refine plain_keeps ?_
    exact State.stagingPut_keeps g (hS.tr rfl) (hM.tr rfl)
  · rename_i a23
    exact State.feedCfgWrite_keeps h g (hS.tr rfl) (hM.tr rfl)
  · rename_i a24
    exact State.powerTestWrite_keeps g (hS.tr rfl) (hM.tr rfl)
  · rename_i a25
    extract_lets p26
    have hp26 : Keeps S M s p26.1 := by
      unfold p26
      split
      · rename_i a27
        exact State.testModeTry_keeps g (hS.tr rfl) (hM.tr rfl)
      · rename_i a28
        exact plain_keeps g
    clear_value p26
    dsimp only
    refine Keeps.when hp26 fun u29 h30 => ?_
    exact State.fuseBlow_keeps h30 (hS.tr rfl)
  · rename_i a31 a32 a33 a34 a35 a36 a37 a38
    exact plain_keeps g

theorem State.act_keeps {x1 x2 x3 x4} (h : Keeps S M s t) (g : Keeps S M s u) (hS : Sub 0x28000001fc7f80003000100020079400c317d1000001004b80018f0000762005fffff002f022000031383c00000000000540000002080000000013e0000008000000060484001818688800800000bee0000100af7000000000000000c0000b2800001fe00118003986800042009b6b7fc1c080000e0700441 S) (hM : Sub 0x7bffffe M) :
    Keeps S M s (State.act t u x1 x2 x3 x4).1 := by
  unfold State.act
  split
  · rename_i a1
    exact State.actMeasure_keeps h g (hS.tr rfl) (hM.tr rfl)
  · rename_i a2
    split
    · rename_i a3
      exact State.actLoops_keeps h g (hS.tr rfl) (hM.tr rfl)
    · rename_i a4
      split
      · rename_i a5
        exact State.actHost_keeps h g (hS.tr rfl) (hM.tr rfl)
      · rename_i a6
        exact State.actModule_keeps h g (hS.tr rfl) (hM.tr rfl)

theorem State.noteWritten_keeps {x1 x2 x3} (h : Keeps S M s t) (hM : Sub 0x1 M) :
    Keeps S M s (State.noteWritten t x1 x2 x3) := by
  unfold State.noteWritten
  refine Keeps.ite ?_ ?_
  · exact h
  · exact Keeps.to_cp h (hM.tr rfl)

theorem State.applyAt_keeps {x1 x2 x3 x4 x5} (h : Keeps S M s t) (hS : Sub 0x28000001fc7f80023000100020079400c317d1000001004b80018f0000762005fffff002f022000031383c00000000000540000002080000000013e0000008000000060484001818688800800000bee0000100af7000000000000000c0000b2800001fe00118003986800042009b6b7fc1c080000e0700441 S) (hM : Sub 0x7ffffff M) :
    Keeps S M s (State.applyAt t x1 x2 x3 x4 x5).1 := by
  unfold State.applyAt
  extract_lets p1
  have hp1 : Keeps S M s p1.1 := by
    unfold p1
    refine State.act_keeps h ?_ (hS.tr rfl) (hM.tr rfl)
    refine State.storeFields_keeps ?_ (hM.tr rfl)
    exact State.noteWritten_keeps h (hM.tr rfl)
  clear_value p1
  split
  · rename_i a2
    dsimp only
    exact State.ignored_keeps hp1 (hS.tr rfl)
  · rename_i a3
    exact hp1

theorem State.writeAt_keeps {x1 x2 x3} (h : Keeps S M s t) (hS : Sub 0x28000001fc7f80023000100020079400c317d1000001004b80018f0000762005fffff002f022000031383c000000000005c0000002080000000013e0000008000000060484001818688800800000bee0000100af7000000000000000c0000b2800001fe00118003986800042029b6b7fc1c080000e0700441 S) (hM : Sub 0x7ffffff M) :
    Keeps S M s (State.writeAt t x1 x2 x3).1 := by
  unfold State.writeAt
  split
  · rename_i a1
    dsimp only
    exact State.clientWindow_keeps h (hS.tr rfl)
  · rename_i a2
    split
    · rename_i a3 a4
      dsimp only
      exact State.ignored_keeps h (hS.tr rfl)
    · rename_i a5 a6 a7 a8
      split
      · rename_i a9 a10
        exact State.applyAt_keeps h (hS.tr rfl) (hM.tr rfl)
      · rename_i a11 a12 a13
        split
        · rename_i a14
          dsimp only
          exact State.noteLocked_keeps h (hS.tr rfl) (hM.tr rfl)
        · rename_i a15
          split
          · rename_i a16
            dsimp only
            exact State.noteNotOwner_keeps h (hS.tr rfl) (hM.tr rfl)
          · rename_i a17
            dsimp only
            exact State.noteRetired_keeps h (hS.tr rfl)

theorem State.applyWrite_keeps {x1} (h : Keeps S M s t) (hS : Sub 0x28000001fc7f80063f00100020079400c317d1000001004b80018f0000762005fffff002f0220f8031383c000000000005c0000002080000000013e0000008000000060484001818688800800000bee0000100af7000000000000000c0000b2800001fe00118003986800042029b6b7fc1c080000e0700441 S) (hM : Sub 0x7ffffff M) :
    Keeps S M s (State.applyWrite t x1) := by
  unfold State.applyWrite
  refine Keeps.ite ?_ ?_
  · exact State.pageWrite_keeps h (hS.tr rfl) (hM.tr rfl)
  · extract_lets p1
    have hp1 : Keeps S M s p1.1 := by
      unfold p1
      exact State.writeAt_keeps h (hS.tr rfl) (hM.tr rfl)
    clear_value p1
    refine State.noteCommit_keeps ?_ (hS.tr rfl) (hM.tr rfl)
    exact State.outcome_keeps hp1 (hS.tr rfl)

theorem State.applyQueue_keeps (h : Keeps S M s t) (hS : Sub 0x28000001fc7f80073f00100020079400c317d1000001004b80018f0000762005fffff002f0220f8031383c000000000005c0000002080000000013e0000008000000060484001818688800800000bee0000100af7000000000000000c0000b2800001fe00118003986800042029b6b7fc1c080000e0700441 S) (hM : Sub 0x7ffffff M) :
    Keeps S M s (State.applyQueue t) := by
  unfold State.applyQueue
  extract_lets q1 v2
  refine State.collisions_keeps ?_ (hS.tr rfl) (hM.tr rfl)
  refine Keeps.foldl ?_ fun u4 x3 h5 => ?_
  · exact Keeps.to_cp h (hM.tr rfl)
  · exact State.applyWrite_keeps h5 (hS.tr rfl) (hM.tr rfl)

theorem State.commitTick_keeps (h : Keeps S M s t) (hS : Sub 0x28000001fc7f80073f00100020079400c317d1000001004b80018f0000762005fffff002f0220f8031383c000000000005c0000002080000000013e0000008000000060484001818688800800000bee0000100af7000000000000000c0000b2800001fe00118003986800042029b6b7fc1c080000e0700441 S) (hM : Sub 0x7ffffff M) :
    Keeps S M s (State.commitTick t) := by
  unfold State.commitTick
  refine Keeps.ite ?_ ?_
  · refine State.applyQueue_keeps ?_ (hS.tr rfl) (hM.tr rfl)
    exact State.advanceTo_keeps h (hM.tr rfl)
  · exact h

theorem State.provisionalTick_keeps (h : Keeps S M s t) (hS : Sub 0x28000001fc7f80073f00100020079400c317d1000001004b80018f0000762005fffff002f0220f8031383c000000000005c0000002080000000013e0000008000000060484001818688800800000bee0000100af7000000000000000c0000b2800001fe00118003986800042029b6b7fc1c080000e0700441 S) (hM : Sub 0x7ffffff M) :
    Keeps S M s (State.provisionalTick t) := by
  unfold State.provisionalTick
  refine Keeps.ite ?_ ?_
  · exact h
  · exact State.applyQueue_keeps h (hS.tr rfl) (hM.tr rfl)

theorem State.readReady_keeps {x1} (h : Keeps S M s t) (hS : Sub 0x28000001fc7f80073f00100020079400c317d1000001004b80018f0000762005fffff002f0220f8031383c000000000005c0000002080000000013e0000008000000060484001818688800800000bee0000100af7000000000000000c0000b2800001fe00118003986800042029b6b7fc1c080000e0700441 S) (hM : Sub 0x7ffffff M) :
    Keeps S M s (State.readReady t x1) := by
  unfold State.readReady
  refine Keeps.ite ?_ ?_
  · refine Keeps.ite ?_ ?_
    · exact State.commitTick_keeps h (hS.tr rfl) (hM.tr rfl)
    · exact State.provisionalTick_keeps h (hS.tr rfl) (hM.tr rfl)
  · exact h

theorem State.registerWrite_keeps {x1 x2 x3} (h : Keeps S M s t) (hM : Sub 0x1 M) :
    Keeps S M s (State.registerWrite t x1 x2 x3) := by
  unfold State.registerWrite
  exact Keeps.to_cp h (hM.tr rfl)

end Sys2Proof.Machine
end

