-- ==== Sys2Proof/Laws/KeepsSmBus.lean ====
section
/-! SUPPORT. What each operation of Machine/SmBus.lean may change (`Keeps`): the bits of the first mask are numbers of register
fields, those of the second the numbers `P.…` of the parts of the state. -/

set_option Elab.async false

namespace Sys2Proof.Machine

variable {S M : Nat} {s t u v : State}

theorem State.smbNack_keeps {x1} (h : Keeps S M s t) (hS : Sub 0x400000000000000000000000000000000000000000000000000000000000000000000000000000000000000000000000000000000000000000000000000000000000000000000000000000000000000000000000000000000000000000000000000000000000000000000000000000000000 S) (hM : Sub 0x100000 M) :
    Keeps S M s (State.smbNack t x1) := by
  unfold State.smbNack
  refine State.emitOut_keeps ?_ (hM.tr rfl)
  refine Keeps.when h fun u1 h2 => ?_
  exact State.bump_keeps h2 (hS.bit rfl)

theorem State.readRun_keeps {x1 x2 x3} (h : Keeps S M s t) (hS : Sub 0x60e0000000000040000000000000000000000000000000000000000000000000000000000000000000080000000000000000000000000000000000000000000000000000000000000000000000000000000000000000000000000000000000000000000000200000000000000000000000 S) (hM : Sub 0x200000 M) :
    Keeps S M s (State.readRun t x1 x2 x3).1 := by
  induction x3 generalizing t x2 with
  | zero => exact h
  | succ n ih => exact ih (State.readReg_keeps h (hS.tr rfl) (hM.tr rfl))

theorem State.smbBlockRead_keeps {x1 x2 x3} (h : Keeps S M s t) (hS : Sub 0x28000001fc7f84073f00100020079400c317d1000001004b80018f0000762005fffff002f0220f8031383c000000000005c0000002080000000013e0000008000000060484001818688800800000bee0000100af7000000000000000c0000b2800001fe00118003986800042029b6b7fc1c080000e0700441 S) (hM : Sub 0x7ffffff M) :
    Keeps S M s (State.smbBlockRead t x1 x2 x3) := by
  unfold State.smbBlockRead
  extract_lets n1 p2
  have hp2 : Keeps S M s p2.1 := by
    unfold p2
    refine State.readRun_keeps ?_ (hS.tr rfl) (hM.tr rfl)
    exact State.readReady_keeps h (hS.tr rfl) (hM.tr rfl)
  clear_value p2
  refine Keeps.ite ?_ ?_
  · exact h
  · refine Keeps.ite ?_ ?_
    · exact State.smbNack_keeps h (hS.tr rfl) (hM.tr rfl)
    · refine Keeps.ite ?_ ?_
      · exact h
      · exact State.emitOut_keeps hp2 (hM.tr rfl)

theorem State.smbBadCommand_keeps {x1 x2} (h : Keeps S M s t) (hS : Sub 0x400000000000000000000000000000000000000000000000000000000000000000000000000000000000000000000000000000000000000000000000000000000000000000000000000000000000000000000000000000000000000000000000000000000000000000000000000000000000 S) (hM : Sub 0x100000 M) :
    Keeps S M s (State.smbBadCommand t x1 x2) := by
  unfold State.smbBadCommand
  refine Keeps.ite ?_ ?_
  · exact h
  · exact State.smbNack_keeps h (hS.tr rfl) (hM.tr rfl)

theorem State.writeRun_keeps {x1 x2 x3} (h : Keeps S M s t) (hM : Sub 0x1 M) :
    Keeps S M s (State.writeRun t x1 x2 x3) := by
  induction x3 generalizing t x2 with
  | nil => exact h
  | cons v l ih => exact ih (State.registerWrite_keeps h (hM.tr rfl))

theorem State.smbWrite_keeps {x1 x2 x3 x4 x5} (h : Keeps S M s t) (hS : Sub 0xc00000000000003800000000000000000000000000000000000000000000000000000000000000000000000000000000000000000000000000000000000000000000000000000000000000000000000000000000000000000000000000000000000000000000000000000000000000000000 S) (hM : Sub 0x100001 M) :
    Keeps S M s (State.smbWrite t x1 x2 x3 x4 x5) := by
  unfold State.smbWrite
  extract_lets bad1 a2 vs3
  refine Keeps.ite ?_ ?_
  · exact h
  · refine Keeps.ite ?_ ?_
    · refine State.smbNack_keeps ?_ (hS.tr rfl) (hM.tr rfl)
      exact State.mbResult_keeps h (hS.tr rfl)
    · refine Keeps.ite ?_ ?_
      · refine State.smbNack_keeps ?_ (hS.tr rfl) (hM.tr rfl)
        exact State.bump_keeps h (hS.bit rfl)
      · refine State.emitOut_keeps ?_ (hM.tr rfl)
        exact State.writeRun_keeps h (hM.tr rfl)

theorem State.smbBlockWriteMulti_keeps {x1 x2 x3 x4} (h : Keeps S M s t) (hS : Sub 0xc00000000000003800000000000000000000000000000000000000000000000000000000000000000000000000000000000000000000000000000000000000000000000000000000000000000000000000000000000000000000000000000000000000000000000000000000000000000000 S) (hM : Sub 0x100001 M) :
    Keeps S M s (State.smbBlockWriteMulti t x1 x2 x3 x4) := by
  unfold State.smbBlockWriteMulti
  refine Keeps.ite ?_ ?_
  · exact h
  · refine Keeps.ite ?_ ?_
    · exact State.smbNack_keeps h (hS.tr rfl) (hM.tr rfl)
    · exact State.smbWrite_keeps h (hS.tr rfl) (hM.tr rfl)

theorem State.smbBlockWrite_keeps {x1 x2 x3 x4} (h : Keeps S M s t) (hS : Sub 0xc00000000000003800000000000000000000000000000000000000000000000000000000000000000000000000000000000000000000000000000000000000000000000000000000000000000000000000000000000000000000000000000000000000000000000000000000000000000000 S) (hM : Sub 0x100001 M) :
    Keeps S M s (State.smbBlockWrite t x1 x2 x3 x4) := by
  unfold State.smbBlockWrite
  refine Keeps.ite ?_ ?_
  · exact h
  · refine Keeps.ite ?_ ?_
    · exact State.smbNack_keeps h (hS.tr rfl) (hM.tr rfl)
    · exact State.smbWrite_keeps h (hS.tr rfl) (hM.tr rfl)

theorem State.tapRegacc_keeps {x1 x2 x3} (h : Keeps S M s t) (hS : Sub 0xc28000001fc7f80073f00100020079400c317d1000001004b80018f0000762005fffff002f0220f8031383c000000000005c0000002080000000013e0000008000000060484001818688800800000bee0000100af7000000000000000c0000b2800001fe00118003986800042029b6b7fc1c080000e0700441 S) (hM : Sub 0x7ffffff M) :
    Keeps S M s (State.tapRegacc t x1 x2 x3) := by
  unfold State.tapRegacc
  refine Keeps.ite ?_ ?_
  · exact h
  · extract_lets last1 s2 s3 p4 v5 v6
    have hs2 : Keeps S M s s2 := by
      unfold s2
      refine State.emitOut_keeps ?_ (hM.tr rfl)
      exact State.wr_keeps h (hS.bit rfl)
    clear_value s2
    have hs3 : Keeps S M s s3 := State.bump_keeps hs2 (hS.bit rfl)
    clear_value s3
    have hp4 : Keeps S M s p4.1 := by
      unfold p4
      refine State.readReg_keeps ?_ (hS.tr rfl) (hM.tr rfl)
      exact State.readReady_keeps hs3 (hS.tr rfl) (hM.tr rfl)
    clear_value p4
    have hv5 : Keeps S M s v5 := by
      unfold v5
      exact hp4
    clear_value v5
    refine Keeps.ite ?_ ?_
    · exact hs2
    · refine Keeps.ite ?_ ?_
      · exact State.registerWrite_keeps hs3 (hM.tr rfl)
      · exact Keeps.to_id_ hv5 (hM.tr rfl)

end Sys2Proof.Machine
end

