-- ==== Sys2Proof/Laws/KeepsBoot.lean ====
section
/-! SUPPORT. What each operation of Machine/Boot.lean may change (`Keeps`): the bits of the first mask are numbers of register
fields, those of the second the numbers `P.…` of the parts of the state. -/

set_option Elab.async false

namespace Sys2Proof.Machine

variable {S M : Nat} {s t u v : State}

theorem State.sampleStraps_keeps {x1} (h : Keeps S M s t) (hS : Sub 0xc000000000001f80000000000000000c317d100000100000000000007c40000000000000020000000000000000000000000000000000000000000000000080000000600000000000000000000000000000000000000000000000000000000000000000000000000000000000000000000000000000000000 S) (hM : Sub 0x304026 M) :
    Keeps S M s (State.sampleStraps t x1) := by
  unfold State.sampleStraps
  extract_lets a1 sole2 s3
  have hs3 : Keeps S M s s3 := State.wrAll_keeps h hS ⟨rfl, rfl, rfl, rfl, rfl, rfl, rfl, rfl, rfl, rfl, rfl, rfl, trivial⟩
  clear_value s3
  refine Keeps.when hs3 fun u4 h5 => ?_
  exact State.leaveTestMode_keeps h5 (hS.tr rfl) (hM.tr rfl)

theorem State.railsGood_keeps {x1 x2 x3} (h : Keeps S M s t) (hS : Sub 0xc000000000001f80000000000000000c317d100000100000000000007c400000000000000e0000030c00000000000000000000000000000000000000000080000000600000000000000000000000000000000000000000000000000000000000000000000000000000000000040000000000000300920000 S) (hM : Sub 0x37fffff M) :
    Keeps S M s (State.railsGood t x1 x2 x3) := by
  unfold State.railsGood
  refine Keeps.ite ?_ ?_
  · exact h
  · extract_lets s1 v2 s3
    have hs1 : Keeps S M s s1 := by
      unfold s1
      refine State.wrAll_keeps ?_ hS ⟨rfl, rfl, rfl, rfl, trivial⟩
      exact State.fullReset_keeps h (hS.tr rfl) (hM.tr rfl)
    clear_value s1
    have hs3 : Keeps S M s s3 := Keeps.to_pw hs1 (hM.tr rfl)
    clear_value s3
    refine State.measureBank_keeps ?_ (hS.tr rfl) (hM.tr rfl)
    refine State.sampleStraps_keeps ?_ (hS.tr rfl) (hM.tr rfl)
    refine State.lifeBump_keeps ?_ (hS.tr rfl) (hM.tr rfl)
    exact State.porchTrace_keeps hs3 (hS.tr rfl) (hM.tr rfl)

theorem State.resetNow_keeps {x1 x2} (h : Keeps S M s t) (hS : Sub 0xe000008017d100000100000000000000440000000000000020000030c00000000000000000000000000000000000000000080000000600000000000000000000000000000000000000000000000000000000000000000000000000000000000040000000000000000000000 S) (hM : Sub 0x3ffffff M) :
    Keeps S M s (State.resetNow t x1 x2) := by
  unfold State.resetNow
  extract_lets old1 cleared2 s3 s4
  have hs3 : Keeps S M s s3 := by
    unfold s3
    refine State.fullReset_keeps ?_ (hS.tr rfl) (hM.tr rfl)
    exact State.logPageWrite_keeps h (hS.tr rfl) (hM.tr rfl)
  clear_value s3
  have hs4 : Keeps S M s s4 := by
    unfold s4
    refine Keeps.when hs3 fun u5 h6 => ?_
    exact State.info_keeps h6 (hM.tr rfl)
  clear_value s4
  refine Keeps.foldl hs4 fun u8 x7 h9 => ?_
  exact State.info_keeps h9 (hM.tr rfl)

theorem State.resetNLow_keeps {x1} (h : Keeps S M s t) (hS : Sub 0xe000008017d100000100000000000000440000000000000020000030c00000000000000000000000000000000000000000080000000600000000000000000000000000000000000000000000000000000000000000000000000000000000000040000000000000000000000 S) (hM : Sub 0x3ffffff M) :
    Keeps S M s (State.resetNLow t x1) := by
  unfold State.resetNLow
  refine Keeps.ite ?_ ?_
  · exact h
  · extract_lets open_1 hit2 s3 t4 v5
    have hs3 : Keeps S M s s3 := by
      unfold s3
      refine Keeps.ite ?_ ?_
      · exact State.drawn_keeps h (hM.tr rfl)
      · exact h
    clear_value s3
    have ht4 : Keeps S M s t4 := State.resetNow_keeps hs3 (hS.tr rfl) (hM.tr rfl)
    clear_value t4
    refine Keeps.ite ?_ ?_
    · exact Keeps.to_pw ht4 (hM.tr rfl)
    · exact hs3

theorem State.bootWrite_keeps {x1 x2} (h : Keeps S M s t) (hS : Sub 0x28000001fc7f80063f00100020079400c317d1000001004b80018f0000762005fffff002f0220f8031383c000000000005c0000002080000000013e0000008000000060484001818688800800000bee0000100af7000000000000000c0000b2800001fe00118003986800042029b6b7fc1c080000e0700441 S) (hM : Sub 0x7ffffff M) :
    Keeps S M s (State.bootWrite t x1 x2) := by
  unfold State.bootWrite
  split
  · rename_i a1 a2 a3 a4
    exact State.applyWrite_keeps h (hS.tr rfl) (hM.tr rfl)
  · rename_i a5 a6
    exact State.applyWrite_keeps h (hS.tr rfl) (hM.tr rfl)

theorem State.bootValues_keeps {x1 x2} (h : Keeps S M s t) (hS : Sub 0x28000001fc7f80063f00100020079400c317d1000001004b80018f0000762005fffff002f0220f8031383c000000000005c0000002080000000013e0000008000000060484001818688800800000bee0000100af7000000000000000c0000b2800001fe00118003986800042029b6b7fc1c080000e0700441 S) (hM : Sub 0x7ffffff M) :
    Keeps S M s (State.bootValues t x1 x2) := by
  induction x2 generalizing t x1 with
  | nil => exact h
  | cons v l ih => exact ih (State.bootWrite_keeps h (hS.tr rfl) (hM.tr rfl))

theorem State.bootRuns_keeps {x1 x2 x3} (h : Keeps S M s t) (hS : Sub 0x28000001fc7f80063f00100020079400c317d1000001004b80018f0000762005fffff002f0220f8031383c000000000005c0000002080000000013e0000008000000060484001818688800800000bee0000100af7000000000000000c0000b2800001fe00118003986800042029b6b7fc1c080000e0700441 S) (hM : Sub 0x7ffffff M) :
    Keeps S M s (State.bootRuns x1 x2 t x3).1 := by
  induction x2 generalizing t x3 with
  | zero => cases x3 <;> exact h
  | succ n ih =>
    cases x3 with
    | nil => exact h
    | cons b l =>
      unfold State.bootRuns
      dsimp only
      split
      · exact h
      · exact ih (State.bootValues_keeps h (hS.tr rfl) (hM.tr rfl))

theorem State.loadFactory_keeps (h : Keeps S M s t) (hS : Sub 0x200000008017d100000100000000000000440000000000000020000000000000000000000000000000000000000000000000080000000600000000000000000000000000000000000000000000000000000000000000000000000000000000000000000000000000000000000 S) (hM : Sub 0x30422e M) :
    Keeps S M s (State.loadFactory t) := by
  unfold State.loadFactory
  split
  · rename_i a1 a2
    exact h
  · rename_i a3 a4 a5
    extract_lets c6
    refine Keeps.when ?_ fun u7 h8 => ?_
    · exact State.useRecord_keeps h (hS.tr rfl) (hM.tr rfl)
    · exact State.atticFault_keeps h8 (hS.tr rfl) (hM.tr rfl)

theorem State.resetNRelease_keeps {x1} (h : Keeps S M s t) (hS : Sub 0xc000000000001f80000000000000000c317d100000100000000000007c40000000000000020000000000000000000000000000000000000000000000000080000000600000000000000000000000000000000000000000000000000000000000000000000000000000000000000000000000000000000000 S) (hM : Sub 0x304066 M) :
    Keeps S M s (State.resetNRelease t x1) := by
  unfold State.resetNRelease
  refine Keeps.ite ?_ ?_
  · refine State.sampleStraps_keeps ?_ (hS.tr rfl) (hM.tr rfl)
    exact Keeps.to_pw h (hM.tr rfl)
  · exact h

theorem State.bootInstance_keeps {x1} (h : Keeps S M s t) (hS : Sub 0x28000001fc7f80063f00100020079460c317d1000001004b80018f0000762005fffff002f0220f8031383c000000000005c0000002080000000013e0000008000000060484001818688800800000bee0000100af7000000000000000c0000b2800001fe00118003986800042029b6b7fc1c080000e0700441 S) (hM : Sub 0x7ffffff M) :
    Keeps S M s (State.bootInstance t x1) := by
  unfold State.bootInstance
  extract_lets bad1 p2
  have hbad1 : ∀ y3, Keeps S M s y3 → Keeps S M s (bad1 y3) := by
    intro y3 h4
    unfold bad1
    beta_reduce
    exact State.wr_keeps h4 (hS.bit rfl)
  clear_value bad1
  have hp2 : Keeps S M s p2.1 := by
    unfold p2
    exact State.useRecord_keeps h (hS.tr rfl) (hM.tr rfl)
  clear_value p2
  split
  · rename_i a5 a6
    exact h
  · rename_i a7 a8 a9
    extract_lets c10
    split
    · rename_i a11 a12
      refine Keeps.when hp2 fun u13 h14 => ?_
      refine hbad1 _ ?_
      exact h14
    · rename_i a15 a16 a17
      extract_lets q18
      have hq18 : Keeps S M s q18.1 := by
        unfold q18
        exact State.bootRuns_keeps hp2 (hS.tr rfl) (hM.tr rfl)
      clear_value q18
      refine Keeps.ite ?_ ?_
      · exact State.wr_keeps hq18 (hS.bit rfl)
      · refine State.atticFault_keeps ?_ (hS.tr rfl) (hM.tr rfl)
        refine hbad1 _ ?_
        exact hq18

theorem State.loadRetireList_keeps (h : Keeps S M s t) (hS : Sub 0x200000008017d100000100000000000000440000000000000020000000000000000000000000000000000000000000000000080000000600000000000000000000000000000000000000000000000001200000000000000000000000000000000000000000000000000000000 S) (hM : Sub 0x304a2e M) :
    Keeps S M s (State.loadRetireList t) := by
  unfold State.loadRetireList
  extract_lets p1 v2 v3
  have hp1 : Keeps S M s p1.1 := by
    unfold p1
    exact State.useRecord_keeps h (hS.tr rfl) (hM.tr rfl)
  clear_value p1
  have hv2 : Keeps S M s v2 := by
    unfold v2
    exact hp1
  clear_value v2
  split
  · rename_i a4 a5
    exact hp1
  · rename_i a6 a7 a8
    refine State.wrAll_keeps ?_ hS ⟨rfl, rfl, trivial⟩
    exact Keeps.to_ql hv2 (hM.tr rfl)

theorem State.bootProfile_keeps (h : Keeps S M s t) (hS : Sub 0x28000001fc7f80063f00100020079460c317d1000001004b80018f0000762005fffff002f0220f8031383c000000000005c0000002080000000013e0000008000000060484001818688800800000bee0000100af7000000000000000c0000b2800001fe00118003986800042029b6b7fc1c080000e0700441 S) (hM : Sub 0x7ffffff M) :
    Keeps S M s (State.bootProfile t) := by
  unfold State.bootProfile
  refine Keeps.forAll h fun i1 u2 h3 => ?_
  refine Keeps.when ?_ fun u4 h5 => ?_
  · exact State.bootInstance_keeps h3 (hS.tr rfl) (hM.tr rfl)
  · exact State.commitGo_keeps h5 (hS.tr rfl) (hM.tr rfl)

theorem State.bootReadDone_keeps (h : Keeps S M s t) (hS : Sub 0x229ff8011fc7f80063f0010f020079460c317d1000001004b80018f0000762005fffff002f0220f8033383c000000000005c0000002080000000013e0000008000000060484001818688800800000bee0000100af7000000000000001e0000b2800001fe00118003986800042029b6b7fc1c080000e0700441 S) (hM : Sub 0x7ffffff M) :
    Keeps S M s (State.bootReadDone t) := by
  unfold State.bootReadDone
  refine Keeps.ite ?_ ?_
  · exact h
  · extract_lets s1 s2 s3 s4
    have hs1 : Keeps S M s s1 := by
      unfold s1
      refine State.loadFactory_keeps ?_ (hS.tr rfl) (hM.tr rfl)
      refine State.loadRetireList_keeps ?_ (hS.tr rfl) (hM.tr rfl)
      refine State.loadLastGasp_keeps ?_ (hS.tr rfl)
      exact State.loadIdentity_keeps h (hS.tr rfl) (hM.tr rfl)
    clear_value s1
    have hs2 : Keeps S M s s2 := by
      unfold s2
      refine Keeps.forAll hs1 fun i5 u6 h7 => ?_
      exact State.restoreSummary_keeps h7 (hS.tr rfl) (hM.tr rfl)
    clear_value s2
    have hs3 : Keeps S M s s3 := by
      unfold s3
      refine State.setStage_keeps ?_ (hS.tr rfl) (hM.tr rfl)
      exact State.bootProfile_keeps hs2 (hS.tr rfl) (hM.tr rfl)
    clear_value s3
    have hs4 : Keeps S M s s4 := by
      unfold s4
      refine State.syncShutters_keeps ?_ (hS.tr rfl) (hM.tr rfl)
      refine State.startAttempt_keeps ?_ (hS.tr rfl) (hM.tr rfl)
      exact State.startAttempt_keeps hs3 (hS.tr rfl) (hM.tr rfl)
    clear_value s4
    refine Keeps.when hs4 fun u8 h9 => ?_
    exact State.wr_keeps h9 (hS.bit rfl)

theorem State.fullResetStart_keeps (h : Keeps S M s t) (hS : Sub 0xe000008017d1000001000000000000004400000000000000e0000030c00000000000000000000000000000000000000000080000000600000000000000000000000000000000000000000000000000000000000000000000000000000000000040000000000000000000000 S) (hM : Sub 0x3ffffff M) :
    Keeps S M s (State.fullResetStart t) := by
  unfold State.fullResetStart
  split
  · rename_i a1 a2
    exact h
  · rename_i a3 a4 a5
    extract_lets s6
    have hs6 : Keeps S M s s6 := State.resetNow_keeps h (hS.tr rfl) (hM.tr rfl)
    clear_value s6
    refine Keeps.when hs6 fun u7 h8 => ?_
    refine State.bump_keeps ?_ (hS.bit rfl)
    exact State.wr_keeps h8 (hS.bit rfl)

end Sys2Proof.Machine
end

