-- ==== Sys2Proof/Laws/KeepsEpochs.lean ====
section
/-! SUPPORT. What each operation of Machine/Epochs.lean may change (`Keeps`): the bits of the first mask are numbers of register
fields, those of the second the numbers `P.…` of the parts of the state. -/

set_option Elab.async false

namespace Sys2Proof.Machine

variable {S M : Nat} {s t u v : State}

theorem State.takeSeverities_keeps (h : Keeps S M s t) (hM : Sub 0x6 M) :
    Keeps S M s (State.takeSeverities t) := by
  unfold State.takeSeverities
  refine Keeps.forAll h fun i1 u2 h3 => ?_
  extract_lets w4 old5 v6
  refine Keeps.ite ?_ ?_
  · exact h3
  · refine State.info_keeps ?_ (hM.tr rfl)
    exact Keeps.to_flt h3 (hM.tr rfl)

theorem State.takeFreeWord_keeps {x1} (h : Keeps S M s t) (hM : Sub 0x2100 M) :
    Keeps S M s (State.takeFreeWord t x1) := by
  unfold State.takeFreeWord
  refine Keeps.ite ?_ ?_
  · exact State.putWord_keeps h (hM.tr rfl)
  · exact h

theorem State.takePeerCfg_keeps (h : Keeps S M s t) (hS : Sub 0x440000000000000000000000000000000000000000000000000000000000000000000000000000000000000000000000000000000000000000000000000000000000000000000000000000000000000000000000000000000000000 S) (hM : Sub 0x22 M) :
    Keeps S M s (State.takePeerCfg t) := by
  unfold State.takePeerCfg
  extract_lets v1 s2
  have hs2 : Keeps S M s s2 := Keeps.to_pr h (hM.tr rfl)
  clear_value s2
  refine State.pairReview_keeps ?_ (hS.tr rfl) (hM.tr rfl)
  refine Keeps.when hs2 fun u3 h4 => ?_
  exact State.releaseClaim_keeps h4 (hS.tr rfl) (hM.tr rfl)

theorem State.takeConfig_keeps (h : Keeps S M s t) (hS : Sub 0x440000000000000000000000383c00000000000000000000000000000000000000000000000000000400000000000000000000000200826000000000000000000000000000000000000000000000000000000000000000000000000 S) (hM : Sub 0x22126 M) :
    Keeps S M s (State.takeConfig t) := by
  unfold State.takeConfig
  extract_lets s1 s2 s3
  have hs1 : Keeps S M s s1 := State.takeSeverities_keeps h (hM.tr rfl)
  clear_value s1
  have hs2 : Keeps S M s s2 := by
    unfold s2
    refine Keeps.when hs1 fun u4 h5 => ?_
    exact State.takeCounter_keeps h5 (hS.tr rfl) (hM.tr rfl)
  clear_value s2
  have hs3 : Keeps S M s s3 := by
    unfold s3
    refine Keeps.forAll hs2 fun i6 u7 h8 => ?_
    refine State.takeFreeWord_keeps ?_ (hM.tr rfl)
    exact State.latchCfg_keeps h8 (hM.tr rfl)
  clear_value s3
  refine State.latchServos_keeps ?_ (hS.tr rfl) (hM.tr rfl)
  exact State.takePeerCfg_keeps hs3 (hS.tr rfl) (hM.tr rfl)

theorem State.applyEff_keeps {x1} (h : Keeps S M s t) (hS : Sub 0x40000000000000008017d100000100000000000000440000000000000020000000383e0000000000000000000008000000000000000008000000060000000000000000000000a600000300ae6000000000000000000000000000000000000000000000000000000000000000000000000 S) (hM : Sub 0x2726337 M) :
    Keeps S M s (State.applyEff t x1) := by
  unfold State.applyEff
  split
  · exact Keeps.to_regs h (hM.tr rfl) fun x => Tab.sorted_set _ _ _ x
  · refine Keeps.ite (Keeps.to_regs h (hM.tr rfl) fun x => ?_) h
    split
    · exact Tab.sorted_put _ _ x
    · exact Tab.sorted_erase _ x
  · exact State.infoAt_keeps h (hM.tr rfl)
  · exact State.fault_keeps h (hS.tr rfl) (hM.tr rfl)
  · exact State.dpApply_keeps h (hS.tr rfl) (hM.tr rfl)
  · exact State.pairLeaves_keeps h (hM.tr rfl)
  · exact State.pairEnters_keeps h (hS.tr rfl) (hM.tr rfl)
  · exact State.esmcChanged_keeps h (hS.tr rfl) (hM.tr rfl)
  · exact State.info_keeps h (hM.tr rfl)
  · exact State.pkApply_keeps h (hS.tr rfl) (hM.tr rfl)

theorem State.stageEpoch_keeps (h : Keeps S M s t) (hS : Sub 0x10000000000000000000000000000000000000440000000000000000000000000000000000000000000000000000000000000000000000000000000000000000000000000000000000000000000000000000000001080000000000000000000000000018000000000000000000000 S) (hM : Sub 0x81aaa M) :
    Keeps S M s (State.stageEpoch t) := by
  unfold State.stageEpoch
  extract_lets d1 traceable2 v3 s4 oos5 down6 s7
  have hs4 : Keeps S M s s4 := Keeps.to_ck h (hM.tr rfl)
  clear_value s4
  have hdown6 : ∀ y8 y9, Keeps S M s y8 → Keeps S M s (down6 y8 y9) := by
    intro y8 y9 h10
    unfold down6
    beta_reduce
    refine State.later_keeps ?_ (hM.tr rfl)
    exact Keeps.to_ck h10 (hM.tr rfl)
  clear_value down6
  have hs7 : Keeps S M s s7 := by
    unfold s7
    refine Keeps.ite ?_ ?_
    · refine Keeps.ite ?_ ?_
      · refine hdown6 _ _ ?_
        exact hs4
      · refine Keeps.ite ?_ ?_
        · refine hdown6 _ _ ?_
          exact hs4
        · exact hs4
    · exact hs4
  clear_value s7
  exact State.directStage_keeps hs7 (hS.tr rfl) (hM.tr rfl)

theorem State.vfabUpdate_keeps {x1 x2} (h : Keeps S M s t) (hS : Sub 0x600000000000000000008017d100000100000000000000440000000000000020000000000000000000000000000000000000000000000000080000000600000000000000000000000000000000000000000000000000000000000000000000000000000000000000000000000000000000000 S) (hM : Sub 0x304026 M) :
    Keeps S M s (State.vfabUpdate t x1 x2) := by
  unfold State.vfabUpdate
  refine Keeps.ite ?_ ?_
  · exact h
  · extract_lets v1 top2 v3 v4 s5
    have hs5 : Keeps S M s s5 := State.wrAll_keeps h hS ⟨rfl, rfl, trivial⟩
    clear_value s5
    refine Keeps.when hs5 fun u6 h7 => ?_
    exact State.fault_keeps h7 (hS.tr rfl) (hM.tr rfl)

theorem State.channelRate_keeps {x1} (h : Keeps S M s t) (hS : Sub 0x100000000000000000000000000000000000 S) (hM : Sub 0x400 M) :
    Keeps S M s (State.channelRate t x1) := by
  unfold State.channelRate
  extract_lets n1 x2
  refine State.wr_keeps ?_ (hS.bit rfl)
  exact State.setChan_keeps h (hM.tr rfl)

theorem State.toEpoch_keeps (h : Keeps S M s t) (hS : Sub 0x28000001fc7f80073f00100020079400c317d1000001004b80018f0000762005fffff002f0220f8031383c000000000005c0000002080000000013e00000080000000605e7181818688800800000bee0000100af7000000000000000c0000b2800001fe00118003986800042029b6b7fc1c080000e0700441 S) (hM : Sub 0x7ffffff M) :
    Keeps S M s (State.toEpoch t) := by
  unfold State.toEpoch
  refine Keeps.ite ?_ ?_
  · exact Keeps.to_tm h (hM.tr rfl)
  · split
    · rename_i a1 a2 a3
      extract_lets s4 s5 v6
      have hs4 : Keeps S M s s4 := by
        unfold s4
        refine Keeps.when h fun u7 h8 => ?_
        exact State.commitTick_keeps h8 (hS.tr rfl) (hM.tr rfl)
      clear_value s4
      have hs5 : Keeps S M s s5 := State.timeStep_keeps hs4 (hS.tr rfl) (hM.tr rfl)
      clear_value s5
      exact Keeps.to_tm hs5 (hM.tr rfl)
    · rename_i a9 a10
      extract_lets t11 s12
      have hs12 : Keeps S M s s12 := by
        unfold s12
        refine Keeps.when h fun u13 h14 => ?_
        exact State.commitTick_keeps h14 (hS.tr rfl) (hM.tr rfl)
      clear_value s12
      exact State.advanceTo_keeps hs12 (hM.tr rfl)

theorem State.noteLocked__keeps (h : Keeps S M s t) (hM : Sub 0x10000 M) :
    Keeps S M s (State.noteLocked_ t) := by
  unfold State.noteLocked_
  refine Keeps.ite ?_ ?_
  · exact Keeps.to_sv h (hM.tr rfl)
  · exact h

theorem State.applyEffects_keeps (h : Keeps S M s t) (hS : Sub 0x40000000000000008017d100000100000000000000440000000000000020000000383e0000000000000000000008000000000000000008000000060000000000000000000000a600000300ae6000000000000000000000000000000000000000000000000000000000000000000000000 S) (hM : Sub 0x27a6337 M) :
    Keeps S M s (State.applyEffects t) := by
  unfold State.applyEffects
  refine Keeps.foldl ?_ fun u2 x1 h3 => ?_
  · exact Keeps.to_ep h (hM.tr rfl)
  · exact State.applyEff_keeps h3 (hS.tr rfl) (hM.tr rfl)

theorem State.settleShutters_keeps (h : Keeps S M s t) (hM : Sub 0x2000 M) :
    Keeps S M s (State.settleShutters t) := by
  unfold State.settleShutters
  refine Keeps.forAll h fun i1 u2 h3 => ?_
  refine Keeps.ite ?_ ?_
  · exact State.setOut_keeps h3 (hM.tr rfl)
  · exact h3

theorem State.deferred_keeps {f : State → State} (h : Keeps S M s t) (hM : Sub 0x80000 M)
    (hf : ∀ u, Keeps S (M ||| P.regs) s u → Keeps S (M ||| P.regs) s (f u)) : Keeps S M s (t.deferred f) := by
  have hM' : Sub M (M ||| P.regs) := by unfold Sub; rw [← Nat.or_assoc, Nat.or_self]
  have g := hf t (h.mono (Sub.refl S) hM')
  have up : ∀ i, i ≠ 22 → M.testBit i = false → (M ||| P.regs).testBit i = false := by
    intro i hi hk
    rw [Nat.testBit_or, hk, Bool.false_or]
    exact Nat.testBit_two_pow_of_ne (n := 22) (m := i) (fun e => hi e.symm)
  unfold State.deferred
  exact {
    regs := h.regs
    sorted := h.sorted
    mem := g.mem
    staging := g.staging
    outs := g.outs
    pending := g.pending
    cp := fun x => g.cp (up _ (by decide) x)
    ev := fun x => g.ev (up _ (by decide) x)
    flt := fun x => g.flt (up _ (by decide) x)
    un := fun x => g.un (up _ (by decide) x)
    tm := fun x => g.tm (up _ (by decide) x)
    pr := fun x => g.pr (up _ (by decide) x)
    pw := fun x => g.pw (up _ (by decide) x)
    ck := fun x => g.ck (up _ (by decide) x)
    dp := fun x => g.dp (up _ (by decide) x)
    at_ := fun x => g.at_ (up _ (by decide) x)
    td := fun x => g.td (up _ (by decide) x)
    ql := fun x => g.ql (up _ (by decide) x)
    tr := fun x => g.tr (up _ (by decide) x)
    sy := fun x => g.sy (up _ (by decide) x)
    hs := fun x => g.hs (up _ (by decide) x)
    po := fun x => g.po (up _ (by decide) x)
    sv := fun x => g.sv (up _ (by decide) x)
    pk := fun x => g.pk (up _ (by decide) x)
    id_ := fun x => g.id_ (up _ (by decide) x)
    ep := fun hk => by rw [hM.bit (i := 19) (by decide)] at hk; cases hk
    out := fun x => g.out (up _ (by decide) x)
    freeCtr := fun x => g.freeCtr (up _ (by decide) x)
    recs := fun x => g.recs (up _ (by decide) x)
    stg := fun x => g.stg (up _ (by decide) x)
    bytes := fun x => g.bytes (up _ (by decide) x)
    arch := fun x => g.arch (up _ (by decide) x) }

theorem State.evaluate_keeps (h : Keeps S M s t) (hS : Sub 0x200000000000000000000000c00c002000000000000f8000031000000000000000000000000000218000000000000000000000000000140000ffe00000000c03e2ff80000000000000000000000000000000000000000000000000 S) (hM : Sub 0x2b1b1b M) :
    Keeps S M s (State.evaluate t) := by
  unfold State.evaluate
  refine State.servoEpochs_keeps ?_ (hS.tr rfl) (hM.tr rfl)
  refine State.svcEpoch_keeps ?_ (hS.tr rfl) (hM.tr rfl)
  refine State.esmcEpoch_keeps ?_ (hS.tr rfl) (hM.tr rfl)
  refine State.dpllEpochs_keeps ?_ (hS.tr rfl) (hM.tr rfl)
  refine State.treeEpoch_keeps ?_ (hS.tr rfl) (hM.tr rfl)
  refine State.qualEpoch_keeps ?_ (hS.tr rfl) (hM.tr rfl)
  exact State.checkPairs_keeps h (hM.tr rfl)

theorem State.epochWork_keeps (h : Keeps S M s t) (hS : Sub 0x40001000000000008017d1000001000000000000004600000000000000200000003c3ec002000000000000f800083100000000000000080000000600061c0000e80800800600a600000300af60000ffe00000000c03e2ff800000000000000000000000000980003c1c00000000000000 S) (hM : Sub 0x27b7fbf M) :
    Keeps S M s (State.epochWork t) := by
  unfold State.epochWork
  extract_lets v1 v2 s1 s2 s3 s4 s5 s6 s7
  have h1 : Keeps S M s s1 := Keeps.to_cp_flt h (hM.tr rfl)
  clear_value s1
  have h2 : Keeps S M s s2 := State.applyEffects_keeps h1 (hS.tr rfl) (hM.tr rfl)
  clear_value s2
  have h3 : Keeps S M s s3 := State.commitValidate_keeps
    (State.takeConfig_keeps (State.takeStage_keeps h2 (hS.tr rfl) (hM.tr rfl)) (hS.tr rfl) (hM.tr rfl)) (hS.tr rfl) (hM.tr rfl)
  clear_value s3
  have h4 : Keeps S M s s4 := State.handoverRelease_keeps
    (State.settleShutters_keeps (State.syncShutters_keeps h3 (hS.tr rfl) (hM.tr rfl)) (hM.tr rfl)) (hS.tr rfl) (hM.tr rfl)
  clear_value s4
  have h5 : Keeps S M s s5 := Keeps.when h4 fun u hu => State.baseMove_keeps hu (hS.tr rfl) (hM.tr rfl)
  clear_value s5
  have h6 : Keeps S M s s6 := State.noteLocked__keeps h5 (hM.tr rfl)
  clear_value s6
  have h7 : Keeps S M s s7 := by
    refine State.stageEpoch_keeps (State.deferred_keeps h6 (hM.tr rfl) fun u hu => ?_) (hS.tr rfl) (hM.tr rfl)
    exact State.evaluate_keeps hu (hS.tr rfl) ((Sub.left M _).tr (hM.tr rfl))
  clear_value s7
  exact State.notifyReview_keeps (State.orderStep_keeps h7 (hM.tr rfl)) (hS.tr rfl) (hM.tr rfl)

theorem State.decisionEpoch_keeps (h : Keeps S M s t) (hS : Sub 0x28000001fc7f80077f00100020079400c317d1000001004b80018f0000762005fffff002f0220f80313c3ec00200000005c000f802083100000013e00000080000000605e71c1818e88800800600bee0000300af70000ffe00000000c03e2ff800001fe00118003986800042029b6b7fc1c080000e0700441 S) (hM : Sub 0x7ffffff M) :
    Keeps S M s (State.decisionEpoch t) := by
  unfold State.decisionEpoch
  refine Keeps.ite ?_ ?_
  · extract_lets s1 v2
    have hs1 : Keeps S M s s1 := State.toEpoch_keeps h (hS.tr rfl) (hM.tr rfl)
    clear_value s1
    refine State.epochWork_keeps ?_ (hS.tr rfl) (hM.tr rfl)
    exact Keeps.to_tm hs1 (hM.tr rfl)
  · exact h

theorem State.modelEpoch_keeps (h : Keeps S M s t) (hS : Sub 0x8017d10000010048002000000045000000000000002000000030000000000000000000000000000000000000000008000000060000000000000000000000fbe0000000000000000000000000000000000000000000000100000000000000000000000000000000000 S) (hM : Sub 0x3a7d36 M) :
    Keeps S M s (State.modelEpoch t) := by
  unfold State.modelEpoch
  refine Keeps.ite ?_ ?_
  · extract_lets s1 v2 v3 s4 s5 s6
    have hs1 : Keeps S M s s1 := State.advanceTo_keeps h (hM.tr rfl)
    clear_value s1
    have hs4 : Keeps S M s s4 := Keeps.to_tm_ep hs1 (hM.tr rfl)
    clear_value s4
    have hs5 : Keeps S M s s5 := by
      unfold s5
      refine Keeps.forAll hs4 fun i7 u8 h9 => ?_
      exact State.holdEpoch_keeps h9 (hS.tr rfl) (hM.tr rfl)
    clear_value s5
    have hs6 : Keeps S M s s6 := by
      unfold s6
      refine State.servoModels_keeps ?_ (hS.tr rfl) (hM.tr rfl)
      refine Keeps.forAll ?_ fun i10 u11 h12 => ?_
      · exact State.adaptMixes_keeps hs5 (hM.tr rfl)
      · exact State.channelRate_keeps h12 (hS.tr rfl) (hM.tr rfl)
    clear_value s6
    exact State.ownDigest_keeps hs6 (hS.tr rfl) (hM.tr rfl)
  · exact h

theorem State.hourlyPoint_keeps (h : Keeps S M s t) (hS : Sub 0x18e0000000000000000000000000000000000000000000000000000000000000000000000000000000000 S) (hM : Sub 0x2800310 M) :
    Keeps S M s (State.hourlyPoint t) := by
  unfold State.hourlyPoint
  refine Keeps.ite ?_ ?_
  · extract_lets s1 v2 s3
    have hs1 : Keeps S M s s1 := State.advanceTo_keeps h (hM.tr rfl)
    clear_value s1
    have hs3 : Keeps S M s s3 := Keeps.to_tm hs1 (hM.tr rfl)
    clear_value s3
    refine Keeps.forAll hs3 fun i4 u5 h6 => ?_
    refine State.commitSummary_keeps ?_ (hM.tr rfl)
    exact State.hourPoint_keeps h6 (hS.tr rfl) (hM.tr rfl)
  · exact h

theorem State.epochMiss_keeps {x1} (h : Keeps S M s t) (hS : Sub 0x8017d100000100000000000000440000000000000020000000000000000000000000000000000000000000000000080000000600000000000000000000000000000000000000000000000000000000000000000000000000000000000000000000000000000000000 S) (hM : Sub 0x384026 M) :
    Keeps S M s (State.epochMiss t x1) := by
  unfold State.epochMiss
  extract_lets at_1 v2 s3
  have hs3 : Keeps S M s s3 := by
    unfold s3
    refine Keeps.ite ?_ ?_
    · exact Keeps.to_ep h (hM.tr rfl)
    · exact h
  clear_value s3
  exact State.fault_keeps hs3 (hS.tr rfl) (hM.tr rfl)

theorem State.provisionalEpoch_keeps (h : Keeps S M s t) (hS : Sub 0x28000001fc7f80077f00100020079400c317d1000001004b80018f0000762005fffff002f0220f80313c3ec00200000005c000f802083100000013e00000080000000604861c1818e88800800600bee0000300af70000ffe00000000c03e2ff800001fe00118003986800042029b6b7fc1c080000e0700441 S) (hM : Sub 0x7ffffff M) :
    Keeps S M s (State.provisionalEpoch t) := by
  unfold State.provisionalEpoch
  refine Keeps.ite ?_ ?_
  · exact h
  · refine State.epochWork_keeps ?_ (hS.tr rfl) (hM.tr rfl)
    exact State.provisionalTick_keeps h (hS.tr rfl) (hM.tr rfl)

theorem State.serviceEpoch_keeps (h : Keeps S M s t) (hS : Sub 0x8017d100000100480000000000440000000000000020000000000000000001000000000000080000000000000000080000000600000000000000000000000000000000000000000000000000000000000000000000000000000000000000000000000000000000000 S) (hM : Sub 0x334036 M) :
    Keeps S M s (State.serviceEpoch t) := by
  unfold State.serviceEpoch
  refine Keeps.ite ?_ ?_
  · extract_lets s1 v2 s3
    have hs1 : Keeps S M s s1 := State.advanceTo_keeps h (hM.tr rfl)
    clear_value s1
    have hs3 : Keeps S M s s3 := Keeps.to_tm hs1 (hM.tr rfl)
    clear_value s3
    refine State.mirrorSend_keeps ?_ (hS.tr rfl) (hM.tr rfl)
    refine State.servoService_keeps ?_ (hS.tr rfl) (hM.tr rfl)
    exact State.serverEpoch_keeps hs3 (hS.tr rfl) (hM.tr rfl)
  · exact h

end Sys2Proof.Machine
end

