-- ==== Sys2Proof/Laws/KeepsCmds.lean ====
section
/-! SUPPORT. What each command may change (`Keeps`), command by command. -/

set_option Elab.async false

namespace Sys2Proof.Machine

variable {S M : Nat} {s t u : State}

/-! CmdAccess -/

theorem execRegacc_keeps {x1 x2 x3} (h : Keeps S M s t) (hS : Sub 0xc28000001fc7f80073f00100020079400c317d1000001004b80018f0000762005fffff002f0220f8031383c000000000005c0000002080000000013e0000008000000060484001818688800800000bee0000100af7000000000000000c0000b2800001fe00118003986800042029b6b7fc1c080000e0700441 S) (hM : Sub 0x7ffffff M)
    (e : execRegacc x1 x2 x3 t = .next u) : Keeps S M s u := by
  obtain rfl := Host.Outcome.next.inj e
  exact State.tapRegacc_keeps h (hS.tr rfl) (hM.tr rfl)

theorem execSmbBlockRead_keeps {x1 x2 x3} (h : Keeps S M s t) (hS : Sub 0x28000001fc7f84073f00100020079400c317d1000001004b80018f0000762005fffff002f0220f8031383c000000000005c0000002080000000013e0000008000000060484001818688800800000bee0000100af7000000000000000c0000b2800001fe00118003986800042029b6b7fc1c080000e0700441 S) (hM : Sub 0x7ffffff M)
    (e : execSmbBlockRead x1 x2 x3 t = .next u) : Keeps S M s u := by
  obtain rfl := Host.Outcome.next.inj e
  exact State.smbBlockRead_keeps h (hS.tr rfl) (hM.tr rfl)

theorem execBypass_keeps {x1 x2} (h : Keeps S M s t) (hS : Sub 0x40000000000000000000000000000000000000000000000000000000000000000000000000000000000000000000000000000000000000000000000000000000000000000000000000000000000000000000000000000000000000000000000000000000000000000000000000000000000000000000000000 S) (hM : Sub 0x100000 M)
    (e : execBypass x1 x2 t = .next u) : Keeps S M s u := by
  obtain rfl := Host.Outcome.next.inj e
  exact State.tapBypass_keeps h (hS.tr rfl) (hM.tr rfl)

theorem execSamplePreload_keeps {x1 x2} (h : Keeps S M s t) (hS : Sub 0x40000000000000000000000000000000000000000000000000000000000000000000000000000000000000000000000000000000000000000000000000000000000000000000000000000000000000000000000000000000000000000000000000000000000000000000000000000000000000000000000000 S) (hM : Sub 0x140000 M)
    (e : execSamplePreload x1 x2 t = .next u) : Keeps S M s u := by
  obtain rfl := Host.Outcome.next.inj e
  exact State.tapScan_keeps h (hS.tr rfl) (hM.tr rfl)

theorem execSmbBlockWrite_keeps {x1 x2 x3 x4} (h : Keeps S M s t) (hS : Sub 0xc00000000000003800000000000000000000000000000000000000000000000000000000000000000000000000000000000000000000000000000000000000000000000000000000000000000000000000000000000000000000000000000000000000000000000000000000000000000000 S) (hM : Sub 0x100001 M)
    (e : execSmbBlockWrite x1 x2 x3 x4 t = .next u) : Keeps S M s u := by
  obtain rfl := Host.Outcome.next.inj e
  exact State.smbBlockWrite_keeps h (hS.tr rfl) (hM.tr rfl)

theorem execTapReset_keeps (h : Keeps S M s t) (hS : Sub 0x40000000000000000000000000000000000000000000000000000000000000000000000000000000000000000000000000000000000000000000000000000000000000000000000000000000000000000000000000000000000000000000000000000000000000000000000000000000000000000000000000 S)
    (e : execTapReset t = .next u) : Keeps S M s u := by
  obtain rfl := Host.Outcome.next.inj e
  exact State.tapReset_keeps h (hS.tr rfl)

theorem execWideWrite_keeps {x1 x2 x3} (h : Keeps S M s t) (hS : Sub 0x3f80043e000000000000008017d100000100000000000000440000000000000020000000000000000000000000000000000000000000000000080000000600000000000000000000000000000000000000000000000000000000000000000000000000000000000000000000000000000000000 S) (hM : Sub 0x344036 M)
    (e : execWideWrite x1 x2 x3 t = .next u) : Keeps S M s u := by
  obtain rfl := Host.Outcome.next.inj e
  exact State.wideWrite_keeps h (hS.tr rfl) (hM.tr rfl)

theorem execFuseBlow_keeps {x1} (h : Keeps S M s t) (hS : Sub 0x2000000000000000000000000000000000000000000000000000000000000000000000000000000000000000000000000000000000000000000000000000000000000000000000000000000000000000000000000000000000000000000000000000000000000000000000000000000000000000000000000 S)
    (e : execFuseBlow x1 t = .next u) : Keeps S M s u := by
  obtain rfl := Host.Outcome.next.inj e
  exact State.fuseBlow_keeps h (hS.tr rfl)

theorem execWideCapture_keeps {x1 x2 x3} (h : Keeps S M s t) (hS : Sub 0x7f800000000000000000008017d100000100000000000000440000000000000020000000000000000000000000000000000000000000000000080000000600000000000000000000000000000000000000000000000000000000000000000000000000000000000000000000000000000000000 S) (hM : Sub 0x304026 M)
    (e : execWideCapture x1 x2 x3 t = .next u) : Keeps S M s u := by
  obtain rfl := Host.Outcome.next.inj e
  exact State.wideCapture_keeps h (hS.tr rfl) (hM.tr rfl)

theorem execIdcode_keeps (h : Keeps S M s t) (hS : Sub 0x40000000000000000000000000000000000000000000000000000000000000000000000000000000000000000000000000000000000000000000000000000000000000000000000000000000000000000000000000000000000000000000000000000000000000000000000000000000000000000000000000 S) (hM : Sub 0x100000 M)
    (e : execIdcode t = .next u) : Keeps S M s u := by
  obtain rfl := Host.Outcome.next.inj e
  exact State.tapIdcode_keeps h (hS.tr rfl) (hM.tr rfl)

theorem execFuseBlowDone_keeps (h : Keeps S M s t) (hS : Sub 0x42a000000000000000000000000000000c317d100000100000000000000440000000000000020000000000000000000000000000000000000000000000000080000000600000000000000000000000000000000000000000000000000000000000000000000000000000000000000000000000000000000000 S) (hM : Sub 0x304026 M)
    (e : execFuseBlowDone t = .next u) : Keeps S M s u := by
  obtain rfl := Host.Outcome.next.inj e
  exact State.fuseBlowDone_keeps h (hS.tr rfl) (hM.tr rfl)

theorem execTestModeEnter_keeps {x1 x2} (h : Keeps S M s t) (hS : Sub 0x8000000000000041e000000000000008017d100000100000000000000440000000000000020000000000000000000000000000000000000000000000000080000000600000000000000000000000000000000000000000000000000000000000000000000000000000000000000000000000000000000000 S) (hM : Sub 0x304026 M)
    (e : execTestModeEnter x1 x2 t = .next u) : Keeps S M s u := by
  obtain rfl := Host.Outcome.next.inj e
  exact State.testModeEnter_keeps h (hS.tr rfl) (hM.tr rfl)

theorem execExtest_keeps {x1 x2} (h : Keeps S M s t) (hS : Sub 0x40000000000000000000000000000000000000000000000000000000000000000000000000000000000000000000000000000000000000000000000000000000000000000000000000000000000000000000000000000000000000000000000000000000000000000000000000000000000000000000000000 S) (hM : Sub 0x140000 M)
    (e : execExtest x1 x2 t = .next u) : Keeps S M s u := by
  obtain rfl := Host.Outcome.next.inj e
  exact State.tapExtest_keeps h (hS.tr rfl) (hM.tr rfl)

theorem execSmbBadCommand_keeps {x1 x2} (h : Keeps S M s t) (hS : Sub 0x400000000000000000000000000000000000000000000000000000000000000000000000000000000000000000000000000000000000000000000000000000000000000000000000000000000000000000000000000000000000000000000000000000000000000000000000000000000000 S) (hM : Sub 0x100000 M)
    (e : execSmbBadCommand x1 x2 t = .next u) : Keeps S M s u := by
  obtain rfl := Host.Outcome.next.inj e
  exact State.smbBadCommand_keeps h (hS.tr rfl) (hM.tr rfl)

theorem execSmbBlockWriteMulti_keeps {x1 x2 x3 x4} (h : Keeps S M s t) (hS : Sub 0xc00000000000003800000000000000000000000000000000000000000000000000000000000000000000000000000000000000000000000000000000000000000000000000000000000000000000000000000000000000000000000000000000000000000000000000000000000000000000 S) (hM : Sub 0x100001 M)
    (e : execSmbBlockWriteMulti x1 x2 x3 x4 t = .next u) : Keeps S M s u := by
  obtain rfl := Host.Outcome.next.inj e
  exact State.smbBlockWriteMulti_keeps h (hS.tr rfl) (hM.tr rfl)

/-! CmdAdmin -/

theorem execAdminEnable_keeps {x1 x2} (h : Keeps S M s t) (hS : Sub 0x27000000000000000000000000000000000000000000000000000000000000000000000000000000000000000000000000000000000000000000000000000000000000000000000000000000000000000000000000 S) (hM : Sub 0x422a M)
    (e : execAdminEnable x1 x2 t = .next u) : Keeps S M s u := by
  obtain rfl := Host.Outcome.next.inj e
  exact State.adminCfgWrite_keeps h (hS.tr rfl) (hM.tr rfl)

theorem execDrainReel_keeps {x1} (h : Keeps S M s t) (hS : Sub 0x8017d100000100000000000000440000000000008022000000000000000000000000000000080000000000000000080000000600000000000000000000000000000000000000000000000000000000000000000000000000000000000000000000000000000000000 S) (hM : Sub 0x304026 M)
    (e : execDrainReel x1 t = .next u) : Keeps S M s u := by
  obtain rfl := Host.Outcome.next.inj e
  exact State.drainReelCmd_keeps h (hS.tr rfl) (hM.tr rfl)

theorem execPairSwitch_keeps {x1} (h : Keeps S M s t) (hS : Sub 0x4800018f0000462000000000008020000000000000000000000000000000000000000000000000000000000000000000000000000000000000000000000000000000000000000000000000000000000000000000000000000000000000000000000 S) (hM : Sub 0x106022 M)
    (e : execPairSwitch x1 t = .next u) : Keeps S M s u := by
  obtain rfl := Host.Outcome.next.inj e
  exact State.pairSwitchCmd_keeps h (hS.tr rfl) (hM.tr rfl)

theorem execDestroyReel_keeps {x1} (h : Keeps S M s t) (hS : Sub 0x8017d100000100000000000000440000000000008022000000000000000000000000000000080000000000000000080000000600000000000000000000000000000000000000000000000000000000000000000000000000000000000000000000000000000000000 S) (hM : Sub 0x304026 M)
    (e : execDestroyReel x1 t = .next u) : Keeps S M s u := by
  obtain rfl := Host.Outcome.next.inj e
  exact State.destroyReelCmd_keeps h (hS.tr rfl) (hM.tr rfl)

theorem execSetVector_keeps {x1} (h : Keeps S M s t) (hS : Sub 0x8020000000000000000000000000000000000000000000000000000000000000000000000000000000000000000000000000000000000000000000000000000000000000000000000000000000000000000000000 S) (hM : Sub 0x104002 M)
    (e : execSetVector x1 t = .next u) : Keeps S M s u := by
  obtain rfl := Host.Outcome.next.inj e
  exact State.setVector_keeps h (hS.tr rfl) (hM.tr rfl)

theorem execCreateReel_keeps {x1} (h : Keeps S M s t) (hS : Sub 0x8020000000000000000000000000000000000000000000000000000000000000000000000000000000000000000000000000000000000000000000000000000000000000000000000000000000000000000000000 S) (hM : Sub 0x104002 M)
    (e : execCreateReel x1 t = .next u) : Keeps S M s u := by
  obtain rfl := Host.Outcome.next.inj e
  exact State.createReelCmd_keeps h (hS.tr rfl) (hM.tr rfl)

theorem execAtticRead_keeps {x1 x2} (h : Keeps S M s t) (hS : Sub 0x200000008017d100000100000000000000440000000000008020000000000000000000000000000000000000000000000000080000000600000000000000000000000000000000000000000000000000000000000000000000000000000000000000000000000000000000000 S) (hM : Sub 0x30422e M)
    (e : execAtticRead x1 x2 t = .next u) : Keeps S M s u := by
  obtain rfl := Host.Outcome.next.inj e
  exact State.atticReadCmd_keeps h (hS.tr rfl) (hM.tr rfl)

theorem execAtticWrite_keeps {x1 x2} (h : Keeps S M s t) (hS : Sub 0x8017d1000001000000000000004400000000000080200f8000000000000000000000000000000000000000000000080000000600000000000000000000000000000000000000000000000000000000000000000000000000000000000000000000000000000000000 S) (hM : Sub 0x30422e M)
    (e : execAtticWrite x1 x2 t = .next u) : Keeps S M s u := by
  obtain rfl := Host.Outcome.next.inj e
  exact State.atticWriteCmd_keeps h (hS.tr rfl) (hM.tr rfl)

theorem execFullResetStart_keeps (h : Keeps S M s t) (hS : Sub 0xe000008017d1000001000000000000004400000000000000e0000030c00000000000000000000000000000000000000000080000000600000000000000000000000000000000000000000000000000000000000000000000000000000000000040000000000000000000000 S) (hM : Sub 0x3ffffff M)
    (e : execFullResetStart t = .next u) : Keeps S M s u := by
  obtain rfl := Host.Outcome.next.inj e
  exact State.fullResetStart_keeps h (hS.tr rfl) (hM.tr rfl)

theorem execNegotiate_keeps {x1} (h : Keeps S M s t) (hS : Sub 0x8020000001000000000000000000000000000000000000000000000000000000000000000000000000000000000000000000000000000000000000000000000000000000000000000000000000000000000000000 S) (hM : Sub 0x104002 M)
    (e : execNegotiate x1 t = .next u) : Keeps S M s u := by
  obtain rfl := Host.Outcome.next.inj e
  exact State.negotiate_keeps h (hS.tr rfl) (hM.tr rfl)

theorem execReelStatus_keeps {x1} (h : Keeps S M s t) (hS : Sub 0x8020000000000000000000000000000000000000000000000000000000000000000000000000000000000000000000000000000000000000000000000000000000000000000000000000000000000000000000000 S) (hM : Sub 0x104002 M)
    (e : execReelStatus x1 t = .next u) : Keeps S M s u := by
  obtain rfl := Host.Outcome.next.inj e
  exact State.reelStatusCmd_keeps h (hS.tr rfl) (hM.tr rfl)

theorem execDrainTimeout_keeps {x1} (h : Keeps S M s t) (hS : Sub 0x8020000000000000000000000000000000000000000000000000000000000000000000000000000000000000000000000000000000000000000000000000000000000000000000000000000000000000000000000 S) (hM : Sub 0x104002 M)
    (e : execDrainTimeout x1 t = .next u) : Keeps S M s u := by
  obtain rfl := Host.Outcome.next.inj e
  exact State.drainTimeout_keeps h (hS.tr rfl) (hM.tr rfl)

theorem execAdminBadOpcode_keeps {x1} (h : Keeps S M s t) (hS : Sub 0x8020000000000000000000000000000000000000000000000000000000000000000000000000000000000000000000000000000000000000000000000000000000000000000000000000000000000000000000000 S) (hM : Sub 0x104002 M)
    (e : execAdminBadOpcode x1 t = .next u) : Keeps S M s u := by
  obtain rfl := Host.Outcome.next.inj e
  exact State.adminBadOpcode_keeps h (hS.tr rfl) (hM.tr rfl)

theorem execFullReset_keeps {x1} (h : Keeps S M s t) (hS : Sub 0x8020000000000000000000000000000000000000000000000000000000000000000000000000000000000000000000000000000000000000000000000000000000000000000000000000000000000000000000000 S) (hM : Sub 0x104002 M)
    (e : execFullReset x1 t = .next u) : Keeps S M s u := by
  obtain rfl := Host.Outcome.next.inj e
  exact State.fullResetCmd_keeps h (hS.tr rfl) (hM.tr rfl)

/-! CmdAttic -/

theorem execAtticMbRawWrite_keeps (h : Keeps S M s t) (hS : Sub 0x3800000000000000000000000000000000000000000000000000000000000000000000000000000000000000000000000000000000000000000000000000000000000000000000000000000000000000000000000000000000000000000000000000000000000000000000 S) (hM : Sub 0x6800200 M)
    (e : execAtticMbRawWrite t = .next u) : Keeps S M s u := by
  obtain rfl := Host.Outcome.next.inj e
  exact State.mbRawWrite_keeps h (hS.tr rfl) (hM.tr rfl)

theorem execPowerOnHour_keeps (h : Keeps S M s t) (hS : Sub 0x8017d100000100000000000000440000000000000020000000000000000000000000000000000000000000000000080000000600000000000000000000000000000000000000000000000000000000000000000000000000000000000000000000000000000000000 S) (hM : Sub 0x2304226 M)
    (e : execPowerOnHour t = .next u) : Keeps S M s u := by
  obtain rfl := Host.Outcome.next.inj e
  exact State.powerOnHour_keeps h (hS.tr rfl) (hM.tr rfl)

theorem execAtticCommitDone_keeps {x1 x2} (h : Keeps S M s t) (hS : Sub 0x1c0000000000000fc00700008017d100000100000000000000440000000000008020000000000000000000000000000000000000000000000000080000000600000000000000000000000000000000000000000000000001400000000000000000000000000000000000000000000000000000000 S) (hM : Sub 0x6b0422e M)
    (e : execAtticCommitDone x1 x2 t = .next u) : Keeps S M s u := by
  obtain rfl := Host.Outcome.next.inj e
  exact State.commitDone_keeps h (hS.tr rfl) (hM.tr rfl)

theorem execAtticMbRead_keeps (h : Keeps S M s t) (hS : Sub 0x200790008017d100000100000000000000440000000000000020000000000000000000000000000000000000000000000000080000000600000000000000000000000000000000000000000000000000000000000000000000000000000000000000000000000000000000000 S) (hM : Sub 0x130422e M)
    (e : execAtticMbRead t = .next u) : Keeps S M s u := by
  obtain rfl := Host.Outcome.next.inj e
  exact State.mbRead_keeps h (hS.tr rfl) (hM.tr rfl)

theorem execLogPageWrite_keeps (h : Keeps S M s t) (hS : Sub 0xe0000000000000000000000000000000000000000000000000000000000000000000000000000000000000000000000000000000000000000000000000000000000000000000000000000000000000000000000000000000000000000000000000000000000000000000000 S) (hM : Sub 0x2800200 M)
    (e : execLogPageWrite t = .next u) : Keeps S M s u := by
  obtain rfl := Host.Outcome.next.inj e
  exact State.logPageWrite_keeps h (hS.tr rfl) (hM.tr rfl)

theorem execAtticMbWrite_keeps (h : Keeps S M s t) (hS : Sub 0x3800000000000000000000000000000000000000000000000000000000000000000000000000000000000000000000000000000000000000000000000000000000000000000000000000000000000000000000000000000000000000000000000000000000000000000000 S) (hM : Sub 0x208 M)
    (e : execAtticMbWrite t = .next u) : Keeps S M s u := by
  obtain rfl := Host.Outcome.next.inj e
  exact State.mbWrite_keeps h (hS.tr rfl) (hM.tr rfl)

theorem execAtticMbRawRead_keeps (h : Keeps S M s t) (hS : Sub 0x3800000000000000000000000000000000000000000000000000000000000000000000000000000000000000000000000000000000000000000000000000000000000000000000000000000000000000000000000000000000000000000000000000000000000000000000 S) (hM : Sub 0x1000200 M)
    (e : execAtticMbRawRead t = .next u) : Keeps S M s u := by
  obtain rfl := Host.Outcome.next.inj e
  exact State.mbRawRead_keeps h (hS.tr rfl) (hM.tr rfl)

theorem execAtticScanPage_keeps {x1 x2 x3} (h : Keeps S M s t) (hS : Sub 0x3e0000008017d100000100000000000000440000000000000020000000000000000000000000000000000000000000000000080000000600000000000000000000000000000000000000000000000000000000000000000000000000000000000000000000000000000000000 S) (hM : Sub 0x30422e M)
    (e : execAtticScanPage x1 x2 x3 t = .next u) : Keeps S M s u := by
  obtain rfl := Host.Outcome.next.inj e
  exact State.scanPage_keeps h (hS.tr rfl) (hM.tr rfl)

/-! CmdBlock -/

theorem execModelEpoch_keeps (h : Keeps S M s t) (hS : Sub 0x8017d10000010048002000000045000000000000002000000030000000000000000000000000000000000000000008000000060000000000000000000000fbe0000000000000000000000000000000000000000000000100000000000000000000000000000000000 S) (hM : Sub 0x3a7d36 M)
    (e : execModelEpoch t = .next u) : Keeps S M s u := by
  obtain rfl := Host.Outcome.next.inj e
  exact State.modelEpoch_keeps h (hS.tr rfl) (hM.tr rfl)

theorem execMergerRelease_keeps (h : Keeps S M s t) (hS : Sub 0x1e000008017d100000100000000000000440000000000000020000000000000000000000000000000000000000000000f79080000000600000000000000000000000000000000000000000000000000000000000000000000000000000000000000000000000000000000000 S) (hM : Sub 0x2b04226 M)
    (e : execMergerRelease t = .next u) : Keeps S M s u := by
  obtain rfl := Host.Outcome.next.inj e
  exact State.mergerRelease_keeps h (hS.tr rfl) (hM.tr rfl)

theorem execServiceEpoch_keeps (h : Keeps S M s t) (hS : Sub 0x8017d100000100480000000000440000000000000020000000000000000001000000000000080000000000000000080000000600000000000000000000000000000000000000000000000000000000000000000000000000000000000000000000000000000000000 S) (hM : Sub 0x334036 M)
    (e : execServiceEpoch t = .next u) : Keeps S M s u := by
  obtain rfl := Host.Outcome.next.inj e
  exact State.serviceEpoch_keeps h (hS.tr rfl) (hM.tr rfl)

theorem execCommitTick_keeps (h : Keeps S M s t) (hS : Sub 0x28000001fc7f80073f00100020079400c317d1000001004b80018f0000762005fffff002f0220f8031383c000000000005c0000002080000000013e0000008000000060484001818688800800000bee0000100af7000000000000000c0000b2800001fe00118003986800042029b6b7fc1c080000e0700441 S) (hM : Sub 0x7ffffff M)
    (e : execCommitTick t = .next u) : Keeps S M s u := by
  obtain rfl := Host.Outcome.next.inj e
  exact State.commitTick_keeps h (hS.tr rfl) (hM.tr rfl)

theorem execHourlyPoint_keeps (h : Keeps S M s t) (hS : Sub 0x18e0000000000000000000000000000000000000000000000000000000000000000000000000000000000 S) (hM : Sub 0x2800310 M)
    (e : execHourlyPoint t = .next u) : Keeps S M s u := by
  obtain rfl := Host.Outcome.next.inj e
  exact State.hourlyPoint_keeps h (hS.tr rfl) (hM.tr rfl)

theorem execDecisionEpoch_keeps (h : Keeps S M s t) (hS : Sub 0x28000001fc7f80077f00100020079400c317d1000001004b80018f0000762005fffff002f0220f80313c3ec00200000005c000f802083100000013e00000080000000605e71c1818e88800800600bee0000300af70000ffe00000000c03e2ff800001fe00118003986800042029b6b7fc1c080000e0700441 S) (hM : Sub 0x7ffffff M)
    (e : execDecisionEpoch t = .next u) : Keeps S M s u := by
  obtain rfl := Host.Outcome.next.inj e
  exact State.decisionEpoch_keeps h (hS.tr rfl) (hM.tr rfl)

theorem execVfabUpdate_keeps {x1 x2} (h : Keeps S M s t) (hS : Sub 0x600000000000000000008017d100000100000000000000440000000000000020000000000000000000000000000000000000000000000000080000000600000000000000000000000000000000000000000000000000000000000000000000000000000000000000000000000000000000000 S) (hM : Sub 0x304026 M)
    (e : execVfabUpdate x1 x2 t = .next u) : Keeps S M s u := by
  obtain rfl := Host.Outcome.next.inj e
  exact State.vfabUpdate_keeps h (hS.tr rfl) (hM.tr rfl)

theorem execEpochMiss_keeps {x1} (h : Keeps S M s t) (hS : Sub 0x8017d100000100000000000000440000000000000020000000000000000000000000000000000000000000000000080000000600000000000000000000000000000000000000000000000000000000000000000000000000000000000000000000000000000000000 S) (hM : Sub 0x384026 M)
    (e : execEpochMiss x1 t = .next u) : Keeps S M s u := by
  obtain rfl := Host.Outcome.next.inj e
  exact State.epochMiss_keeps h (hS.tr rfl) (hM.tr rfl)

theorem execProvisionalTick_keeps (h : Keeps S M s t) (hS : Sub 0x28000001fc7f80073f00100020079400c317d1000001004b80018f0000762005fffff002f0220f8031383c000000000005c0000002080000000013e0000008000000060484001818688800800000bee0000100af7000000000000000c0000b2800001fe00118003986800042029b6b7fc1c080000e0700441 S) (hM : Sub 0x7ffffff M)
    (e : execProvisionalTick t = .next u) : Keeps S M s u := by
  obtain rfl := Host.Outcome.next.inj e
  exact State.provisionalTick_keeps h (hS.tr rfl) (hM.tr rfl)

theorem execMergerRecordIn_keeps {x1 x2 x3 x4 x5 x6} (h : Keeps S M s t) (hS : Sub 0x1e000008017d100000100000000000000440000000000000020000000000000000000000000000000000000000000004f79080000000600000000000000000000000000000000000000000000000000000000000000000000000000000000000000000000000000000000000 S) (hM : Sub 0x2b04226 M)
    (e : execMergerRecordIn x1 x2 x3 x4 x5 x6 t = .next u) : Keeps S M s u := by
  obtain rfl := Host.Outcome.next.inj e
  exact State.mergerRecordIn_keeps h (hS.tr rfl) (hM.tr rfl)

theorem execRegisterWrite_keeps {x1 x2 x3} (h : Keeps S M s t) (hM : Sub 0x1 M)
    (e : execRegisterWrite x1 x2 x3 t = .next u) : Keeps S M s u := by
  obtain rfl := Host.Outcome.next.inj e
  exact State.registerWrite_keeps h (hM.tr rfl)

theorem execProvisionalEpoch_keeps (h : Keeps S M s t) (hS : Sub 0x28000001fc7f80077f00100020079400c317d1000001004b80018f0000762005fffff002f0220f80313c3ec00200000005c000f802083100000013e00000080000000604861c1818e88800800600bee0000300af70000ffe00000000c03e2ff800001fe00118003986800042029b6b7fc1c080000e0700441 S) (hM : Sub 0x7ffffff M)
    (e : execProvisionalEpoch t = .next u) : Keeps S M s u := by
  obtain rfl := Host.Outcome.next.inj e
  exact State.provisionalEpoch_keeps h (hS.tr rfl) (hM.tr rfl)

/-! CmdClocks -/

theorem execMuxForced_keeps {x1} (h : Keeps S M s t) (hS : Sub 0x4000000000000000 S) (hM : Sub 0x2 M)
    (e : execMuxForced x1 t = .next u) : Keeps S M s u := by
  obtain rfl := Host.Outcome.next.inj e
  exact State.muxForced_keeps h (hS.tr rfl) (hM.tr rfl)

theorem execClockMonMiss_keeps {x1} (h : Keeps S M s t) (hS : Sub 0x1000000000008017d100000100000000000000440000000000000020000000000000000000000000000000000000000000000000080000000e0004000018008800800000000000000000000000000000000000000108000000000000000000000000009b627fc1d3c000000000000 S) (hM : Sub 0x307fbe M)
    (e : execClockMonMiss x1 t = .next u) : Keeps S M s u := by
  obtain rfl := Host.Outcome.next.inj e
  exact State.clockMonMiss_keeps h (hS.tr rfl) (hM.tr rfl)

theorem execOscCountDone_keeps {x1 x2} (h : Keeps S M s t) (hS : Sub 0x8017d1000001000000000000004400000000000000200000000000000000000000000000000000000000000000000800000006000000000000000000000000000000000000000000000000000000000000000000000000000000000000000ff800808000000000000 S) (hM : Sub 0x3040ae M)
    (e : execOscCountDone x1 x2 t = .next u) : Keeps S M s u := by
  obtain rfl := Host.Outcome.next.inj e
  exact State.oscCountDone_keeps h (hS.tr rfl) (hM.tr rfl)

theorem execMuxSwitch_keeps {x1 x2} (h : Keeps S M s t) (hS : Sub 0x48be00000000000000 S) (hM : Sub 0x92 M)
    (e : execMuxSwitch x1 x2 t = .next u) : Keeps S M s u := by
  obtain rfl := Host.Outcome.next.inj e
  exact State.muxSwitch_keeps h (hS.tr rfl) (hM.tr rfl)

theorem execBaseMoveEnd_keeps (h : Keeps S M s t) (hS : Sub 0x10000000000000000000000000000000000000440000000000000000000000000000000000000000000000000000000000000000000000000000000000000000000000000000000000000000000000000000000001080000000000000000000000000018000100000000000000000 S) (hM : Sub 0x1aaa M)
    (e : execBaseMoveEnd t = .next u) : Keeps S M s u := by
  obtain rfl := Host.Outcome.next.inj e
  exact State.baseMoveEnd_keeps h (hS.tr rfl) (hM.tr rfl)

theorem execStage3HoldoffEnd_keeps (h : Keeps S M s t) (hS : Sub 0x10000000000000000000000000000000000000440000000000000000000000000000000000000000000000000000000000000000000000000000000000000000000000000000000000000000000000000000000001080000000000000000000000000018000000000000000000000 S) (hM : Sub 0x1aaa M)
    (e : execStage3HoldoffEnd t = .next u) : Keeps S M s u := by
  obtain rfl := Host.Outcome.next.inj e
  exact State.stage3HoldoffEnd_keeps h (hS.tr rfl) (hM.tr rfl)

theorem execOcxoTempSettled_keeps (h : Keeps S M s t) (hS : Sub 0x100000000000000000000 S)
    (e : execOcxoTempSettled t = .next u) : Keeps S M s u := by
  obtain rfl := Host.Outcome.next.inj e
  exact State.ocxoTempSettled_keeps h (hS.tr rfl)

theorem execOcxoWarm_keeps {x1} (h : Keeps S M s t) (hS : Sub 0x8017d100000100000000000000440000000000000020000000000000000000000000000000000000000000000000080000000600000000000000000000000000000000000000000000000000000000000000000000000000000000000001600200800000000000000 S) (hM : Sub 0x23042ae M)
    (e : execOcxoWarm x1 t = .next u) : Keeps S M s u := by
  obtain rfl := Host.Outcome.next.inj e
  exact State.ocxoBecomesWarm_keeps h (hS.tr rfl) (hM.tr rfl)

theorem execClockMonWindow_keeps {x1 x2} (h : Keeps S M s t) (hS : Sub 0x1000000000008017d100000100000000000000440000000000000020000000000000000000000000000000000000000000000000080000000e0004000018008800800000000000000000000000000000000000000108000000000000000000000000009b627fc1dfc000000000000 S) (hM : Sub 0x307fbe M)
    (e : execClockMonWindow x1 x2 t = .next u) : Keeps S M s u := by
  obtain rfl := Host.Outcome.next.inj e
  exact State.clockMonWindow_keeps h (hS.tr rfl) (hM.tr rfl)

theorem execBaseMove_keeps (h : Keeps S M s t) (hS : Sub 0x400000000080080000000000000000000000000000000000000000000000000000000000000000000800003c1c00000000000000 S) (hM : Sub 0x2592 M)
    (e : execBaseMove t = .next u) : Keeps S M s u := by
  obtain rfl := Host.Outcome.next.inj e
  exact State.baseMove_keeps h (hS.tr rfl) (hM.tr rfl)

theorem execOscAmplitudeTimeout_keeps {x1} (h : Keeps S M s t) (hS : Sub 0x8017d1000001000000000000004400000000000000200000000000000000000000000000000000000000000000000800000006000000000000000000000000000000000000000000000000000000000000000000000000000000000000000ff800000000000000000 S) (hM : Sub 0x3040ae M)
    (e : execOscAmplitudeTimeout x1 t = .next u) : Keeps S M s u := by
  obtain rfl := Host.Outcome.next.inj e
  exact State.oscAmplitudeTimeout_keeps h (hS.tr rfl) (hM.tr rfl)

theorem execOcxoWarmTimeout_keeps (h : Keeps S M s t) (hS : Sub 0x8017d100000100000000000000440000000000000020000000000000000000000000000000000000000000000000080000000600000000000000000000000000000000000000000000000000000000000000000000000000000000000000000000000000000000000 S) (hM : Sub 0x3040a6 M)
    (e : execOcxoWarmTimeout t = .next u) : Keeps S M s u := by
  obtain rfl := Host.Outcome.next.inj e
  exact State.ocxoWarmTimeout_keeps h (hS.tr rfl) (hM.tr rfl)

theorem execMuxStall_keeps {x1} (h : Keeps S M s t) (hS : Sub 0x8017d100000100000000000000440000000000000020000000000000000000000000000000000000000000000000080000000600040000000000000000000000000000000000000000000000000000000000000000000000000000000080000489e00000000000000 S) (hM : Sub 0x3040b6 M)
    (e : execMuxStall x1 t = .next u) : Keeps S M s u := by
  obtain rfl := Host.Outcome.next.inj e
  exact State.muxStall_keeps h (hS.tr rfl) (hM.tr rfl)

/-! CmdFaults -/

theorem execErrToggle_keeps (h : Keeps S M s t) (hM : Sub 0x4 M)
    (e : execErrToggle t = .next u) : Keeps S M s u := by
  obtain rfl := Host.Outcome.next.inj e
  exact State.errToggle_keeps h (hM.tr rfl)

theorem execSettleWindowEnd_keeps (h : Keeps S M s t) (hM : Sub 0x4 M)
    (e : execSettleWindowEnd t = .next u) : Keeps S M s u := by
  obtain rfl := Host.Outcome.next.inj e
  exact State.settleEnd_keeps h (hM.tr rfl)

theorem execReactionOperation_keeps (h : Keeps S M s t) (hS : Sub 0x1e000000000001000000000008017d100000100038000000000740005fffff0000022000031383c00000000000000000002080000000003e0000008000000060404000018008800800000a6000001008f7000000000000000c0000b28000000200010003986800042009b6b7fc1c080000e0700440 S) (hM : Sub 0x23afffe M)
    (e : execReactionOperation t = .next u) : Keeps S M s u := by
  obtain rfl := Host.Outcome.next.inj e
  refine State.notifyReview_keeps ?_ (hS.tr rfl) (hM.tr rfl)
  exact State.reactionOperation_keeps h (hS.tr rfl) (hM.tr rfl)

theorem execFaultInjectBreak_keeps {x1} (h : Keeps S M s t) (hS : Sub 0xc317d100000100000000000000440000000000000020000000000000000000000000000000000000000000000000080000000600000000000000000000000000000000000000000000000000000000000000000000000000000000000000000000000000000000000 S) (hM : Sub 0x304026 M)
    (e : execFaultInjectBreak x1 t = .next u) : Keeps S M s u := by
  obtain rfl := Host.Outcome.next.inj e
  exact State.injectBreak_keeps h (hS.tr rfl) (hM.tr rfl)

theorem execFaultAck_keeps {x1} (h : Keeps S M s t) (hM : Sub 0x4 M)
    (e : execFaultAck x1 t = .next u) : Keeps S M s u := by
  obtain rfl := Host.Outcome.next.inj e
  exact State.faultAck_keeps h (hM.tr rfl)

theorem execFaultWire_keeps {x1 x2 x3} (h : Keeps S M s t) (hS : Sub 0xc017d100000100000000000000440000000000000020000000000000000000000000000000000000000000000000080000000600000000000000000000000000000000000000000000000000000000000000000000000000000000000000000000000000000000000 S) (hM : Sub 0x304026 M)
    (e : execFaultWire x1 x2 x3 t = .next u) : Keeps S M s u := by
  obtain rfl := Host.Outcome.next.inj e
  exact State.faultWire_keeps h (hS.tr rfl) (hM.tr rfl)

theorem execGraceExpiry_keeps {x1} (h : Keeps S M s t) (hS : Sub 0xbd000000000000000000000440000000000000000000000000000000000000000000000000000000000000000000000000000000000000000000000000000000000000000000000000000000000000000000000000000000000000000000000000000000000000 S) (hM : Sub 0x26 M)
    (e : execGraceExpiry x1 t = .next u) : Keeps S M s u := by
  obtain rfl := Host.Outcome.next.inj e
  exact State.graceExpiry_keeps h (hS.tr rfl) (hM.tr rfl)

theorem execFaultCause_keeps {x1 x2 x3 x4} (h : Keeps S M s t) (hS : Sub 0x8017d100000100000000000000440000000000000020000000000000000000000000000000000000000000000000080000000600000000000000000000000000000000000000000000000000000000000000000000000000000000000000000000000000000000000 S) (hM : Sub 0x304026 M)
    (e : execFaultCause x1 x2 x3 x4 t = .next u) : Keeps S M s u := by
  obtain rfl := Host.Outcome.next.inj e
  exact State.faultCause_keeps h (hS.tr rfl) (hM.tr rfl)

theorem execFaultInject_keeps (h : Keeps S M s t) (hS : Sub 0x8217d100000100000000000000440000000000000020000000000000000000000000000000000000000000000000080000000600000000000000000000000000000000000000000000000000000000000000000000000000000000000000000000000000000000000 S) (hM : Sub 0x304026 M)
    (e : execFaultInject t = .next u) : Keeps S M s u := by
  obtain rfl := Host.Outcome.next.inj e
  exact State.injectGo_keeps h (hS.tr rfl) (hM.tr rfl)

theorem execSramScrub_keeps {x1 x2} (h : Keeps S M s t) (hS : Sub 0x8017d100000100000000000000440000000000000020000000000000000000000000000000000000000000000000080000000600000000000000000000000000000000000000000000000000000000000000000000000000000000000000000000000000000000000 S) (hM : Sub 0x304026 M)
    (e : execSramScrub x1 x2 t = .next u) : Keeps S M s u := by
  obtain rfl := Host.Outcome.next.inj e
  exact State.sramScrub_keeps h (hS.tr rfl) (hM.tr rfl)

theorem execReactionComplete_keeps (h : Keeps S M s t) (hM : Sub 0x6 M)
    (e : execReactionComplete t = .next u) : Keeps S M s u := by
  obtain rfl := Host.Outcome.next.inj e
  exact State.reactionComplete_keeps h (hM.tr rfl)

/-! CmdHost -/

theorem execPerstN_keeps {x1} (h : Keeps S M s t) (hS : Sub 0x1e0000000000000000000000000000000000000000000000000000005fffff00000c0000031c00000000000000000000000000000000000000000000000000000000000000000000000000000000000000000000000000000000000000000000000000000000000000000000000000000000000000 S) (hM : Sub 0x422a M)
    (e : execPerstN x1 t = .next u) : Keeps S M s u := by
  obtain rfl := Host.Outcome.next.inj e
  exact State.perstN_keeps h (hS.tr rfl) (hM.tr rfl)

theorem execDoorbellProd_keeps {x1 x2 x3} (h : Keeps S M s t) (hS : Sub 0x8017d1000001000000000000004400000000000000380f8000000000000000000000000000000000000000000000080000000600000000000000000000000000000000000000000000000000000000000000000000000000000000000000000000000000000000000 S) (hM : Sub 0x304026 M)
    (e : execDoorbellProd x1 x2 x3 t = .next u) : Keeps S M s u := by
  obtain rfl := Host.Outcome.next.inj e
  exact State.doorbellProd_keeps h (hS.tr rfl) (hM.tr rfl)

theorem execNumVfsChange_keeps {x1} (h : Keeps S M s t) (hS : Sub 0x5fffff0000000000000400000000000000000000000000000000000000000000000000000000000000000000000000000000000000000000000000000000000000000000000000000000000000000000000000000000000000 S) (hM : Sub 0x4002 M)
    (e : execNumVfsChange x1 t = .next u) : Keeps S M s u := by
  obtain rfl := Host.Outcome.next.inj e
  exact State.numVfs_keeps h (hS.tr rfl) (hM.tr rfl)

theorem execRecordsFlush_keeps {x1} (h : Keeps S M s t) (hS : Sub 0x20000000000000000000000000000000000000000000000000000000000000000000000000000000000000000000000000000000000000000000000000000000000000000000000000000000000000000000000 S) (hM : Sub 0x104000 M)
    (e : execRecordsFlush x1 t = .next u) : Keeps S M s u := by
  obtain rfl := Host.Outcome.next.inj e
  exact State.recordsFlush_keeps h (hS.tr rfl) (hM.tr rfl)

theorem execVfFlr_keeps {x1} (h : Keeps S M s t) (hS : Sub 0x5fffff0800000000000000000000000000000000000000000000000000000000000000000000000000000000000000000000000000000000000000000000000000000000000000000000000000000000000000000000000000 S) (hM : Sub 0x4002 M)
    (e : execVfFlr x1 t = .next u) : Keeps S M s u := by
  obtain rfl := Host.Outcome.next.inj e
  exact State.vfFlr_keeps h (hS.tr rfl) (hM.tr rfl)

theorem execLinkL0_keeps {x1 x2} (h : Keeps S M s t) (hS : Sub 0x38000000000000000000000000000000000000000000000000000000000000000000000000000000000000000000000000000000000000000000000000000000000000000000000000000000000000000 S) (hM : Sub 0x4000 M)
    (e : execLinkL0 x1 x2 t = .next u) : Keeps S M s u := by
  obtain rfl := Host.Outcome.next.inj e
  exact State.linkL0_keeps h (hS.tr rfl) (hM.tr rfl)

theorem execVfEvtConsArm_keeps {x1 x2} (h : Keeps S M s t) (hS : Sub 0x8017d1000001000000000000004400000000000000220f8000000000000000000000000000080000000000000000080000000600000000000000000000000000000000000000000000000000000000000000000000000000000000000000000000000000000000000 S) (hM : Sub 0x304026 M)
    (e : execVfEvtConsArm x1 x2 t = .next u) : Keeps S M s u := by
  obtain rfl := Host.Outcome.next.inj e
  exact State.vfEvtCons_keeps h (hS.tr rfl) (hM.tr rfl)

theorem execD3hotEntry_keeps (h : Keeps S M s t) (hS : Sub 0x800000000000000000000000000000000000000000000000000000000000000000000000000000000000000000000000000000000000000000000000000000000000000000000000000000000000000 S)
    (e : execD3hotEntry t = .next u) : Keeps S M s u := by
  obtain rfl := Host.Outcome.next.inj e
  exact State.d3hot_keeps h (hS.tr rfl)

theorem execDoorbellConsArm_keeps {x1 x2 x3} (h : Keeps S M s t) (hS : Sub 0x8017d10000010000000000000044000000000000003a0f8000000000000000000000000000080000000000000000080000000600000000000000000000000000000000000000000000000000000000000000000000000000000000000000000000000000000000000 S) (hM : Sub 0x304026 M)
    (e : execDoorbellConsArm x1 x2 x3 t = .next u) : Keeps S M s u := by
  obtain rfl := Host.Outcome.next.inj e
  exact State.doorbellConsArm_keeps h (hS.tr rfl) (hM.tr rfl)

theorem execTimeSnapshot_keeps {x1 x2} (h : Keeps S M s t) (hS : Sub 0x3fff0000000000000000000000000000000000000000000000000000000000000000000000000000000000000000000000000000000000000000000000000000000000000000000000000000000000000000000000000000 S)
    (e : execTimeSnapshot x1 x2 t = .next u) : Keeps S M s u := by
  obtain rfl := Host.Outcome.next.inj e
  exact State.timeSnapshot_keeps h (hS.tr rfl)

theorem execVfEvtCons_keeps {x1 x2} (h : Keeps S M s t) (hS : Sub 0x8017d1000001000000000000004400000000000000220f8000000000000000000000000000080000000000000000080000000600000000000000000000000000000000000000000000000000000000000000000000000000000000000000000000000000000000000 S) (hM : Sub 0x304026 M)
    (e : execVfEvtCons x1 x2 t = .next u) : Keeps S M s u := by
  obtain rfl := Host.Outcome.next.inj e
  exact State.vfEvtCons_keeps h (hS.tr rfl) (hM.tr rfl)

theorem execDoorbellCons_keeps {x1 x2 x3} (h : Keeps S M s t) (hS : Sub 0x8017d10000010000000000000044000000000000003a0f8000000000000000000000000000080000000000000000080000000600000000000000000000000000000000000000000000000000000000000000000000000000000000000000000000000000000000000 S) (hM : Sub 0x304026 M)
    (e : execDoorbellCons x1 x2 x3 t = .next u) : Keeps S M s u := by
  obtain rfl := Host.Outcome.next.inj e
  exact State.doorbellCons_keeps h (hS.tr rfl) (hM.tr rfl)

theorem execPf0Flr_keeps {x1} (h : Keeps S M s t) (hS : Sub 0x1e0000000000000000000000000000000000000000000000000000005fffff00000c0000001c00000000000000000000000000000000000000000000000000000000000000000000000000000000000000000000000000000000000000000000000000000000000000000000000000000000000000 S) (hM : Sub 0x422a M)
    (e : execPf0Flr x1 t = .next u) : Keeps S M s u := by
  obtain rfl := Host.Outcome.next.inj e
  exact State.pf0Flr_keeps h (hS.tr rfl) (hM.tr rfl)

theorem execHostLinkDown_keeps (h : Keeps S M s t) (hS : Sub 0x1e000000000000000000000008017d100000100000000000000440005fffff00000e0000035c00000000000000000000000000000000000000000080000000600000000000000000000000000000000000000000000000000000000000000000000000000000000000000000000000000000000000 S) (hM : Sub 0x30422e M)
    (e : execHostLinkDown t = .next u) : Keeps S M s u := by
  obtain rfl := Host.Outcome.next.inj e
  exact State.hostLinkDown_keeps h (hS.tr rfl) (hM.tr rfl)

theorem execDmaError_keeps {x1 x2 x3} (h : Keeps S M s t) (hS : Sub 0x8017d1000001000000000000004400000000000000200f8000000000000000000000000000000000000000000000080000000600000000000000000000000000000000000000000000000000000000000000000000000000000000000000000000000000000000000 S) (hM : Sub 0x304026 M)
    (e : execDmaError x1 x2 x3 t = .next u) : Keeps S M s u := by
  obtain rfl := Host.Outcome.next.inj e
  exact State.dmaError_keeps h (hS.tr rfl) (hM.tr rfl)

theorem execMsixUnmask_keeps {x1 x2} (h : Keeps S M s t) (hS : Sub 0x20000000000000000000000000000000000000000000000000000000000000000000000000000000000000000000000000000000000000000000000000000000000000000000000000000000000000000000000 S) (hM : Sub 0x104000 M)
    (e : execMsixUnmask x1 x2 t = .next u) : Keeps S M s u := by
  obtain rfl := Host.Outcome.next.inj e
  exact State.unmask_keeps h (hS.tr rfl) (hM.tr rfl)

theorem execMsixModeration_keeps {x1} (h : Keeps S M s t) (hS : Sub 0x20000000000000000000000000000000000000000000000000000000000000000000000000000000000000000000000000000000000000000000000000000000000000000000000000000000000000000000000 S) (hM : Sub 0x104000 M)
    (e : execMsixModeration x1 t = .next u) : Keeps S M s u := by
  obtain rfl := Host.Outcome.next.inj e
  exact State.moderate_keeps h (hS.tr rfl) (hM.tr rfl)

theorem execVfEvtReelEnable_keeps {x1 x2} (h : Keeps S M s t) (hS : Sub 0x5f00000000000000000000000000000000000000000000000000000000000000000000000000000000000000000000000000000000000000000000000000000000000000000000000000000000000000000000000000000000 S) (hM : Sub 0x4002 M)
    (e : execVfEvtReelEnable x1 x2 t = .next u) : Keeps S M s u := by
  obtain rfl := Host.Outcome.next.inj e
  exact State.vfEvtCfg_keeps h (hS.tr rfl) (hM.tr rfl)

theorem execDescriptorRelease_keeps {x1 x2} (h : Keeps S M s t) (hS : Sub 0x8017d1000001000000000000004400000000000000220f8000000000000000000000000000080000000000000000080000000600000000000000000000000000000000000000000000000000000000000000000000000000000000000000000000000000000000000 S) (hM : Sub 0x304026 M)
    (e : execDescriptorRelease x1 x2 t = .next u) : Keeps S M s u := by
  obtain rfl := Host.Outcome.next.inj e
  exact State.descriptorRelease_keeps h (hS.tr rfl) (hM.tr rfl)

theorem execDescriptorFetchDone_keeps {x1 x2} (h : Keeps S M s t) (hS : Sub 0x8017d1000001000000000000004400000000000000260f8000000000000000000000000000080000000000000000080000000600000000000000000000000000000000000000000000000000000000000000000000000000000000000000000000000000000000000 S) (hM : Sub 0x304026 M)
    (e : execDescriptorFetchDone x1 x2 t = .next u) : Keeps S M s u := by
  obtain rfl := Host.Outcome.next.inj e
  exact State.descriptorFetched_keeps h (hS.tr rfl) (hM.tr rfl)

theorem execCompletionWrite_keeps {x1} (h : Keeps S M s t) (hS : Sub 0x8020000000000000000000000000000000000000000000000000000000000000000000000000000000000000000000000000000000000000000000000000000000000000000000000000000000000000000000000 S) (hM : Sub 0x104002 M)
    (e : execCompletionWrite x1 t = .next u) : Keeps S M s u := by
  obtain rfl := Host.Outcome.next.inj e
  exact State.completionWrite_keeps h (hS.tr rfl) (hM.tr rfl)

/-! CmdLoops -/

theorem execWaitToRestoreEnd_keeps {x1 x2} (h : Keeps S M s t) (hM : Sub 0x1000 M)
    (e : execWaitToRestoreEnd x1 x2 t = .next u) : Keeps S M s u := by
  obtain rfl := Host.Outcome.next.inj e
  exact State.wtrEnd_keeps h (hM.tr rfl)

theorem execDpllLockTimer_keeps {x1} (h : Keeps S M s t) (hS : Sub 0x20000000000000000000000000000000000000000000000000000000000000000000000000000000000000000000826000000000000000000000000000000000000000000000000000000000000000000000000 S) (hM : Sub 0x104102 M)
    (e : execDpllLockTimer x1 t = .next u) : Keeps S M s u := by
  obtain rfl := Host.Outcome.next.inj e
  refine State.notifyReview_keeps ?_ (hS.tr rfl) (hM.tr rfl)
  exact State.lockTimer_keeps h (hS.tr rfl) (hM.tr rfl)

theorem execQualHoldoffEnd_keeps {x1} (h : Keeps S M s t) (hS : Sub 0x80000000000000000000000000000000000000000000000000 S) (hM : Sub 0x80802 M)
    (e : execQualHoldoffEnd x1 t = .next u) : Keeps S M s u := by
  obtain rfl := Host.Outcome.next.inj e
  exact State.holdoffEnd_keeps h (hS.tr rfl) (hM.tr rfl)

theorem execArrivalWindowMiss_keeps {x1} (h : Keeps S M s t) (hS : Sub 0x8017d10000010000000000000044000000000000002000000000000000000000000000000000000000000000000008000000060000000000000000000000a600000100826000000000000002000000200000000000000000000000000000000000000000000000000 S) (hM : Sub 0x2306b26 M)
    (e : execArrivalWindowMiss x1 t = .next u) : Keeps S M s u := by
  obtain rfl := Host.Outcome.next.inj e
  refine State.notifyReview_keeps ?_ (hS.tr rfl) (hM.tr rfl)
  exact State.windowMiss_keeps h (hS.tr rfl) (hM.tr rfl)

theorem execRefAckStep_keeps {x1} (h : Keeps S M s t) (hS : Sub 0x2c0000000000000000000000000000000000000000000000000000000000000000000000000 S) (hM : Sub 0x110 M)
    (e : execRefAckStep x1 t = .next u) : Keeps S M s u := by
  obtain rfl := Host.Outcome.next.inj e
  exact State.refAckStep_keeps h (hS.tr rfl) (hM.tr rfl)

theorem execBuildoutComplete_keeps {x1} (h : Keeps S M s t) (hS : Sub 0x8017d10000010000000000000044000000000000002000000000000000000000000000000000000000000000000008000000060000000000000000000000e700000100ee6000000000000000000000000000000000000000000000000000000000000000000000000 S) (hM : Sub 0x2306336 M)
    (e : execBuildoutComplete x1 t = .next u) : Keeps S M s u := by
  obtain rfl := Host.Outcome.next.inj e
  refine State.notifyReview_keeps ?_ (hS.tr rfl) (hM.tr rfl)
  exact State.buildoutComplete_keeps h (hS.tr rfl) (hM.tr rfl)

theorem execLoopUpdate_keeps {x1 x2} (h : Keeps S M s t) (hS : Sub 0x8017d10000010000000000000044000000000000002000000000000000000000000000000000000000000000000008000000060000000000000000000000a600000500867000000000000000000000000000000000000000000000000000000000000000000000000 S) (hM : Sub 0x2306326 M)
    (e : execLoopUpdate x1 x2 t = .next u) : Keeps S M s u := by
  obtain rfl := Host.Outcome.next.inj e
  refine State.notifyReview_keeps ?_ (hS.tr rfl) (hM.tr rfl)
  exact State.loopUpdate_keeps h (hS.tr rfl) (hM.tr rfl)

theorem execQualDetectResume_keeps (h : Keeps S M s t) (hM : Sub 0xc00 M)
    (e : execQualDetectResume t = .next u) : Keeps S M s u := by
  obtain rfl := Host.Outcome.next.inj e
  exact State.detectResume_keeps h (hM.tr rfl)

theorem execMissingEdge_keeps {x1} (h : Keeps S M s t) (hS : Sub 0x8017d10000010000000000000044000000000000002000000000000000000000000000000000000000000000000008000000060000000000000000000000a600000100826000000000000002000000200000000000000000000000000000000000000000000000000 S) (hM : Sub 0x2306b26 M)
    (e : execMissingEdge x1 t = .next u) : Keeps S M s u := by
  obtain rfl := Host.Outcome.next.inj e
  refine State.notifyReview_keeps ?_ (hS.tr rfl) (hM.tr rfl)
  exact State.missingEdge_keeps h (hS.tr rfl) (hM.tr rfl)

theorem execHoldClear_keeps {x1} (h : Keeps S M s t) (hS : Sub 0x98e0000000000000000000000000000000000000000000000000000000000000000000000000000000000 S) (hM : Sub 0x2800300 M)
    (e : execHoldClear x1 t = .next u) : Keeps S M s u := by
  obtain rfl := Host.Outcome.next.inj e
  exact State.holdClear_keeps h (hS.tr rfl) (hM.tr rfl)

theorem execRefAck_keeps {x1} (h : Keeps S M s t) (hS : Sub 0x2c0000000000000000000000000000000000000000000000000000000000000000000000000 S) (hM : Sub 0x100 M)
    (e : execRefAck x1 t = .next u) : Keeps S M s u := by
  obtain rfl := Host.Outcome.next.inj e
  exact State.refAck_keeps h (hS.tr rfl) (hM.tr rfl)

theorem execQualValidationEnd_keeps {x1} (h : Keeps S M s t) (hS : Sub 0x80000000000000000000000000000000000000000000000000 S) (hM : Sub 0x80802 M)
    (e : execQualValidationEnd x1 t = .next u) : Keeps S M s u := by
  obtain rfl := Host.Outcome.next.inj e
  exact State.validationEnd_keeps h (hS.tr rfl) (hM.tr rfl)

/-! CmdPeer -/

theorem execHallwayLaneDown_keeps {x1} (h : Keeps S M s t) (hS : Sub 0x8017d100000100238000000000740000000000000020000000000000000000000000000000000000000000000000080000000600000000000000000000000000000000000000000000000000000000000000000000000000000000000000000000000000000000000 S) (hM : Sub 0x304026 M)
    (e : execHallwayLaneDown x1 t = .next u) : Keeps S M s u := by
  obtain rfl := Host.Outcome.next.inj e
  exact State.laneGoesDown_keeps h (hS.tr rfl) (hM.tr rfl)

theorem execHallwayLaneUp_keeps {x1} (h : Keeps S M s t) (hS : Sub 0x38000000000200000000000000000000000000000000000000000000000000000000000000000000000000000000000000000000000000000000000000000000000000000000000000000000000000000000000000000000000000000000000000 S) (hM : Sub 0x22 M)
    (e : execHallwayLaneUp x1 t = .next u) : Keeps S M s u := by
  obtain rfl := Host.Outcome.next.inj e
  exact State.laneComesUp_keeps h (hS.tr rfl) (hM.tr rfl)

theorem execTableSyncRx_keeps {x1 x2} (h : Keeps S M s t) (hS : Sub 0xdc0000000000000000000000000000000000000000000000000000000000000000000000000000000000000000000000000000000000000000000000000000000000000000000000000000000000000000000000000000000000000000000000000 S) (hM : Sub 0x110020 M)
    (e : execTableSyncRx x1 x2 t = .next u) : Keeps S M s u := by
  obtain rfl := Host.Outcome.next.inj e
  exact State.tableSyncRx_keeps h (hS.tr rfl) (hM.tr rfl)

theorem execHelloRx_keeps {x1 x2} (h : Keeps S M s t) (hS : Sub 0x8017d100000100dc2840200000758000000000000020000000000000000000000000000000000000000000000000080000000600000000000000000000000000000000000000000000000000000000000000000000000000000000000000000000000000000000000 S) (hM : Sub 0x304026 M)
    (e : execHelloRx x1 x2 t = .next u) : Keeps S M s u := by
  obtain rfl := Host.Outcome.next.inj e
  exact State.helloRx_keeps h (hS.tr rfl) (hM.tr rfl)

theorem execHeartbeatTx_keeps (h : Keeps S M s t) (hS : Sub 0x480000200000000000000000000000000000000000000000000000000000000000000000000000000000000000000000000000000000000000000000000000000000000000000000000000000000000000000000000000000000000000000000000 S) (hM : Sub 0x100020 M)
    (e : execHeartbeatTx t = .next u) : Keeps S M s u := by
  obtain rfl := Host.Outcome.next.inj e
  exact State.heartbeatTx_keeps h (hS.tr rfl) (hM.tr rfl)

theorem execPeerSwitchGo_keeps (h : Keeps S M s t) (hS : Sub 0x4800018f0000462000000000008020000000000000000000000000000000000000000000000000000000000000000000000000000000000000000000000000000000000000000000000000000000000000000000000000000000000000000000000 S) (hM : Sub 0x106022 M)
    (e : execPeerSwitchGo t = .next u) : Keeps S M s u := by
  obtain rfl := Host.Outcome.next.inj e
  exact State.switchRequest_keeps h (hS.tr rfl) (hM.tr rfl)

theorem execPeerSwitchForce_keeps {x1} (h : Keeps S M s t) (hS : Sub 0x4800018f0000462000000000008020000000000000000000000000000000000000000000000000000000000000000000000000000000000000000000000000000000000000000000000000000000000000000000000000000000000000000000000 S) (hM : Sub 0x106022 M)
    (e : execPeerSwitchForce x1 t = .next u) : Keeps S M s u := by
  obtain rfl := Host.Outcome.next.inj e
  exact State.switchForce_keeps h (hS.tr rfl) (hM.tr rfl)

theorem execTimeMsgRx_keeps {x1 x2} (h : Keeps S M s t) (hS : Sub 0x8017d100000100940000000000440000000000000020000000000000000000000000000000000000000000000000080000000600021800000000000000000000000000000000000000000000000000000000000000000000000000000000000000000000000000000 S) (hM : Sub 0x384036 M)
    (e : execTimeMsgRx x1 x2 t = .next u) : Keeps S M s u := by
  obtain rfl := Host.Outcome.next.inj e
  exact State.timeMsgRx_keeps h (hS.tr rfl) (hM.tr rfl)

theorem execClaimConflictHoldEnd_keeps (h : Keeps S M s t) (hS : Sub 0x18e0000462000000000008020000000000000000000000000000000000000000000000000000000000000000000000000000000000000000000000000000000000000000000000000000000000000000000000000000000000000000000000 S) (hM : Sub 0x106022 M)
    (e : execClaimConflictHoldEnd t = .next u) : Keeps S M s u := by
  obtain rfl := Host.Outcome.next.inj e
  exact State.conflictHoldEnd_keeps h (hS.tr rfl) (hM.tr rfl)

theorem execSwitchAcceptRx_keeps {x1 x2 x3} (h : Keeps S M s t) (hS : Sub 0x940000030000000000000000000000000000000000000000000000000000000000000000000000000000000000000000000000000000000000000000000000000000000000000000000000000000000000000000000000000000000000000000000 S) (hM : Sub 0x4020 M)
    (e : execSwitchAcceptRx x1 x2 x3 t = .next u) : Keeps S M s u := by
  obtain rfl := Host.Outcome.next.inj e
  exact State.acceptRx_keeps h (hS.tr rfl) (hM.tr rfl)

theorem execSwitchHandover_keeps (h : Keeps S M s t) (hS : Sub 0x8000000000000000000000000000000000000000000000000000000000000000000000000000000000000000000 S) (hM : Sub 0x2002 M)
    (e : execSwitchHandover t = .next u) : Keeps S M s u := by
  obtain rfl := Host.Outcome.next.inj e
  exact State.switchHandover_keeps h (hS.tr rfl) (hM.tr rfl)

theorem execHeartbeatRx_keeps {x1 x2} (h : Keeps S M s t) (hS : Sub 0x9400001e1ff8208000000000008020000000000000000000000000000000000000000000000000000000000000000000000000000000000000000000000000000000000000000000000000000000000000000000000000000000000000000000000 S) (hM : Sub 0x106022 M)
    (e : execHeartbeatRx x1 x2 t = .next u) : Keeps S M s u := by
  obtain rfl := Host.Outcome.next.inj e
  exact State.heartbeatRx_keeps h (hS.tr rfl) (hM.tr rfl)

theorem execSwitchTimeout_keeps (h : Keeps S M s t) (hS : Sub 0xe0000000000000000008020000000000000000000000000000000000000000000000000000000000000000000000000000000000000000000000000000000000000000000000000000000000000000000000000000000000000000000000 S) (hM : Sub 0x106022 M)
    (e : execSwitchTimeout t = .next u) : Keeps S M s u := by
  obtain rfl := Host.Outcome.next.inj e
  exact State.switchTimeout_keeps h (hS.tr rfl) (hM.tr rfl)

theorem execStandbyAligned_keeps (h : Keeps S M s t) (hS : Sub 0x20000000000000000000000000000000000000000000000000000000000000000000000000000000000000000000000000000000000000000000000000000000000000000000000000000000000000000000000000000000000000 S)
    (e : execStandbyAligned t = .next u) : Keeps S M s u := by
  obtain rfl := Host.Outcome.next.inj e
  exact State.standbyAligned_keeps h (hS.tr rfl)

theorem execSwitchOfferRx_keeps {x1 x2 x3} (h : Keeps S M s t) (hS : Sub 0xdc0000070000440000000000008020000000000000000000000000000000000000000000000000000000000000000000000000000000000000000000000000000000000000000000000000000000000000000000000000000000000000000000000 S) (hM : Sub 0x104022 M)
    (e : execSwitchOfferRx x1 x2 x3 t = .next u) : Keeps S M s u := by
  obtain rfl := Host.Outcome.next.inj e
  exact State.offerRx_keeps h (hS.tr rfl) (hM.tr rfl)

theorem execHelloTx_keeps (h : Keeps S M s t) (hS : Sub 0x481000000000000000000000000000000000000000000000000000000000000000000000000000000000000000000000000000000000000000000000000000000000000000000000000000000000000000000000000000000000000000000000000 S) (hM : Sub 0x100020 M)
    (e : execHelloTx t = .next u) : Keeps S M s u := by
  obtain rfl := Host.Outcome.next.inj e
  exact State.helloTx_keeps h (hS.tr rfl) (hM.tr rfl)

theorem execSwitchRefuseRx_keeps {x1 x2} (h : Keeps S M s t) (hS : Sub 0x9400000e0000000000000000008020000000000000000000000000000000000000000000000000000000000000000000000000000000000000000000000000000000000000000000000000000000000000000000000000000000000000000000000 S) (hM : Sub 0x106022 M)
    (e : execSwitchRefuseRx x1 x2 t = .next u) : Keeps S M s u := by
  obtain rfl := Host.Outcome.next.inj e
  exact State.refuseRx_keeps h (hS.tr rfl) (hM.tr rfl)

theorem execHeartbeatLost_keeps (h : Keeps S M s t) (hS : Sub 0x1e000000000000000000000008017d100000100000000400000648000000000000020000000000000000000000000000000000000000000000000080000000600000000000000000000000000000000000000000000000000000000000000000000000000000000000000000000000000000000000 S) (hM : Sub 0x304026 M)
    (e : execHeartbeatLost t = .next u) : Keeps S M s u := by
  obtain rfl := Host.Outcome.next.inj e
  exact State.heartbeatLost_keeps h (hS.tr rfl) (hM.tr rfl)

theorem execClaimSlotDelayEnd_keeps (h : Keeps S M s t) (hS : Sub 0x40000000000000000000000000000000000000000000000000000000000000000000000000000000000000000000000000000000000000000000000000000000000000000000000000000000000000000000000000000000000000 S) (hM : Sub 0x20 M)
    (e : execClaimSlotDelayEnd t = .next u) : Keeps S M s u := by
  obtain rfl := Host.Outcome.next.inj e
  exact State.slotDelayEnd_keeps h (hS.tr rfl) (hM.tr rfl)

theorem execCfgDigestRx_keeps {x1 x2} (h : Keeps S M s t) (hS : Sub 0x940040000000010000000000000000000000000000000000000000000000000000000000000000000000000000000000000000000000000000000000000000000000000000000000000000000000000000000000000000000000000000000000000 S) (hM : Sub 0x22 M)
    (e : execCfgDigestRx x1 x2 t = .next u) : Keeps S M s u := by
  obtain rfl := Host.Outcome.next.inj e
  exact State.digestRx_keeps h (hS.tr rfl) (hM.tr rfl)

theorem execClaimInChange_keeps {x1} (h : Keeps S M s t) (hS : Sub 0x8017d1000001000000060000004c2000000000000020000000000000000000000000000000000000000000000000080000000600000000000000000000000000000000000000000000000000000000000000000000000000000000000000000000000000000000000 S) (hM : Sub 0x304026 M)
    (e : execClaimInChange x1 t = .next u) : Keeps S M s u := by
  obtain rfl := Host.Outcome.next.inj e
  exact State.claimInChange_keeps h (hS.tr rfl) (hM.tr rfl)

theorem execReclaimHoldoffEnd_keeps (h : Keeps S M s t) (hS : Sub 0x400000000000000000000000000000000000000000000000000000000000000000000000000000000000000000000000000000000000000000000000000000000000000000000000000000000000000000000000000000000000000 S) (hM : Sub 0x22 M)
    (e : execReclaimHoldoffEnd t = .next u) : Keeps S M s u := by
  obtain rfl := Host.Outcome.next.inj e
  exact State.reclaimEnd_keeps h (hS.tr rfl) (hM.tr rfl)

theorem execClaimConfirmEnd_keeps (h : Keeps S M s t) (hS : Sub 0x18e0000462000000000008020000000000000000000000000000000000000000000000000000000000000000000000000000000000000000000000000000000000000000000000000000000000000000000000000000000000000000000000 S) (hM : Sub 0x106022 M)
    (e : execClaimConfirmEnd t = .next u) : Keeps S M s u := by
  obtain rfl := Host.Outcome.next.inj e
  exact State.confirmEnd_keeps h (hS.tr rfl) (hM.tr rfl)

/-! CmdPmbus -/

theorem execPmbusPage_keeps {x1} (h : Keeps S M s t) (hM : Sub 0x100040 M)
    (e : execPmbusPage x1 t = .next u) : Keeps S M s u := by
  obtain rfl := Host.Outcome.next.inj e
  exact State.pmPageCmd_keeps h (hM.tr rfl)

theorem execAlertResponse_keeps (h : Keeps S M s t) (hM : Sub 0x100040 M)
    (e : execAlertResponse t = .next u) : Keeps S M s u := by
  obtain rfl := Host.Outcome.next.inj e
  exact State.alertResponse_keeps h (hM.tr rfl)

theorem execPmbusReadTemperature2_keeps (h : Keeps S M s t) (hM : Sub 0x300040 M)
    (e : execPmbusReadTemperature2 t = .next u) : Keeps S M s u := by
  obtain rfl := Host.Outcome.next.inj e
  exact State.pmRead_keeps h (hM.tr rfl)

theorem execPmbusMfrId_keeps (h : Keeps S M s t) (hM : Sub 0x100040 M)
    (e : execPmbusMfrId t = .next u) : Keeps S M s u := by
  obtain rfl := Host.Outcome.next.inj e
  exact State.pmAnswer_keeps h (hM.tr rfl)

theorem execPmbusCapability_keeps (h : Keeps S M s t) (hM : Sub 0x100040 M)
    (e : execPmbusCapability t = .next u) : Keeps S M s u := by
  obtain rfl := Host.Outcome.next.inj e
  exact State.pmAnswer_keeps h (hM.tr rfl)

theorem execPmbusReadVin_keeps (h : Keeps S M s t) (hM : Sub 0x300040 M)
    (e : execPmbusReadVin t = .next u) : Keeps S M s u := by
  obtain rfl := Host.Outcome.next.inj e
  exact State.pmRead_keeps h (hM.tr rfl)

theorem execPmbusReadPin_keeps (h : Keeps S M s t) (hM : Sub 0x300040 M)
    (e : execPmbusReadPin t = .next u) : Keeps S M s u := by
  obtain rfl := Host.Outcome.next.inj e
  exact State.pmRead_keeps h (hM.tr rfl)

theorem execPmbusUnsupported_keeps (h : Keeps S M s t) (hM : Sub 0x100040 M)
    (e : execPmbusUnsupported t = .next u) : Keeps S M s u := by
  obtain rfl := Host.Outcome.next.inj e
  exact State.pmUnsupported_keeps h (hM.tr rfl)

theorem execPmbusMfrModel_keeps (h : Keeps S M s t) (hM : Sub 0x300040 M)
    (e : execPmbusMfrModel t = .next u) : Keeps S M s u := by
  obtain rfl := Host.Outcome.next.inj e
  exact State.pmModel_keeps h (hM.tr rfl)

theorem execPmbusStatusWord_keeps (h : Keeps S M s t) (hM : Sub 0x100040 M)
    (e : execPmbusStatusWord t = .next u) : Keeps S M s u := by
  obtain rfl := Host.Outcome.next.inj e
  exact State.pmStatusWord_keeps h (hM.tr rfl)

theorem execPmbusReadIin_keeps (h : Keeps S M s t) (hM : Sub 0x300040 M)
    (e : execPmbusReadIin t = .next u) : Keeps S M s u := by
  obtain rfl := Host.Outcome.next.inj e
  exact State.pmRead_keeps h (hM.tr rfl)

theorem execPmbusReadTemperature3_keeps (h : Keeps S M s t) (hM : Sub 0x300040 M)
    (e : execPmbusReadTemperature3 t = .next u) : Keeps S M s u := by
  obtain rfl := Host.Outcome.next.inj e
  exact State.pmRead_keeps h (hM.tr rfl)

theorem execPmbusStatusTemperature_keeps (h : Keeps S M s t) (hM : Sub 0x300040 M)
    (e : execPmbusStatusTemperature t = .next u) : Keeps S M s u := by
  obtain rfl := Host.Outcome.next.inj e
  exact State.pmRead_keeps h (hM.tr rfl)

theorem execPmbusStatusInput_keeps (h : Keeps S M s t) (hM : Sub 0x300040 M)
    (e : execPmbusStatusInput t = .next u) : Keeps S M s u := by
  obtain rfl := Host.Outcome.next.inj e
  exact State.pmRead_keeps h (hM.tr rfl)

theorem execPmbusRevision_keeps (h : Keeps S M s t) (hM : Sub 0x100040 M)
    (e : execPmbusRevision t = .next u) : Keeps S M s u := by
  obtain rfl := Host.Outcome.next.inj e
  exact State.pmAnswer_keeps h (hM.tr rfl)

theorem execPmbusReadTemperature1_keeps (h : Keeps S M s t) (hM : Sub 0x300040 M)
    (e : execPmbusReadTemperature1 t = .next u) : Keeps S M s u := by
  obtain rfl := Host.Outcome.next.inj e
  exact State.pmRead_keeps h (hM.tr rfl)

/-! CmdPorts -/

theorem execEsmcTx_keeps {x1} (h : Keeps S M s t) (hS : Sub 0x80000000000000000000000000000000000000000000000000000000000000000000000000000000000000000000000000000000000000000000000000000000000000 S) (hM : Sub 0x300000 M)
    (e : execEsmcTx x1 t = .next u) : Keeps S M s u := by
  obtain rfl := Host.Outcome.next.inj e
  exact State.esmcTx_keeps h (hS.tr rfl) (hM.tr rfl)

theorem execBridgeForward_keeps {x1 x2 x3 x4} (h : Keeps S M s t) (hS : Sub 0x8017d100000100000000000000440000000000000020000000000000000000000000000020080000000000000000080000000600000000000000000000000000000000000000000000000000000000000000000000000000000000000000000000000000000000000 S) (hM : Sub 0x314026 M)
    (e : execBridgeForward x1 x2 x3 x4 t = .next u) : Keeps S M s u := by
  obtain rfl := Host.Outcome.next.inj e
  exact State.bridgeForward_keeps h (hS.tr rfl) (hM.tr rfl)

theorem execRestartEq_keeps {x1} (h : Keeps S M s t) (hS : Sub 0x80000000000000000000000000000000000000000000000000000000000000000000000000000000000000000000000000000000000000000000000000000000000000 S)
    (e : execRestartEq x1 t = .next u) : Keeps S M s u := by
  obtain rfl := Host.Outcome.next.inj e
  exact State.restartEq_keeps h (hS.tr rfl)

theorem execRestartLink_keeps {x1} (h : Keeps S M s t) (hS : Sub 0x8017d100000100000000000000440000000000000022000000000000000000000000000002080000000003e00000080000000600000000000000000000000000000000000000000000000000000000000000000000000000000000000000000000000000000000000 S) (hM : Sub 0x30c026 M)
    (e : execRestartLink x1 t = .next u) : Keeps S M s u := by
  obtain rfl := Host.Outcome.next.inj e
  exact State.restartLink_keeps h (hS.tr rfl) (hM.tr rfl)

theorem execCdrLock_keeps {x1} (h : Keeps S M s t) (hS : Sub 0x400000000000000000000000000000000000000000000000000000000000000000000000000000000000000000000000000000000000000000000000000 S)
    (e : execCdrLock x1 t = .next u) : Keeps S M s u := by
  obtain rfl := Host.Outcome.next.inj e
  exact State.cdrLock_keeps h (hS.tr rfl)

theorem execEsmcRx_keeps {x1} (h : Keeps S M s t) (hS : Sub 0x80e00000000000000000000000000000000000000000000000000000000000000000000000000000000000000000000000000000000000000000000000000000000000 S) (hM : Sub 0x18800 M)
    (e : execEsmcRx x1 t = .next u) : Keeps S M s u := by
  obtain rfl := Host.Outcome.next.inj e
  exact State.esmcRx_keeps h (hS.tr rfl) (hM.tr rfl)

theorem execFrameRx_keeps {x1 x2 x3} (h : Keeps S M s t) (hS : Sub 0x20000000000000000000000000000000080000000000000000000000000000000000000000000000000000000000000000000000000000000000000000000000000000000000000000000000000000000000000 S) (hM : Sub 0x114000 M)
    (e : execFrameRx x1 x2 x3 t = .next u) : Keeps S M s u := by
  obtain rfl := Host.Outcome.next.inj e
  exact State.frameRx_keeps h (hS.tr rfl) (hM.tr rfl)

theorem execCueLaunch_keeps {x1 x2 x3} (h : Keeps S M s t) (hS : Sub 0x8017d100000100000000000000440000000000000022000000000000000000000000000000080000000000000000080000000600000000000000000000000000000000000000000000000000000000000000000000000000000000000000000000000000000000000 S) (hM : Sub 0x304026 M)
    (e : execCueLaunch x1 x2 x3 t = .next u) : Keeps S M s u := by
  obtain rfl := Host.Outcome.next.inj e
  exact State.cueLaunch_keeps h (hS.tr rfl) (hM.tr rfl)

theorem execLinkUp_keeps {x1} (h : Keeps S M s t) (hS : Sub 0x2000000000003e00000000000000000000000000000000000000000000000000000000000000000000000000000000000000000000000000000000000000000000000000 S) (hM : Sub 0x8002 M)
    (e : execLinkUp x1 t = .next u) : Keeps S M s u := by
  obtain rfl := Host.Outcome.next.inj e
  exact State.linkUpNow_keeps h (hS.tr rfl) (hM.tr rfl)

theorem execLinkDown_keeps {x1 x2} (h : Keeps S M s t) (hS : Sub 0x8017d100000100000000000000440000000000000020000000000000000000000000000002080000000003e00000080000000600000000000000000000000000000000000000000000000000000000000000000000000000000000000000000000000000000000000 S) (hM : Sub 0x30c026 M)
    (e : execLinkDown x1 x2 t = .next u) : Keeps S M s u := by
  obtain rfl := Host.Outcome.next.inj e
  exact State.linkDownNow_keeps h (hS.tr rfl) (hM.tr rfl)

theorem execLaneRefReturn_keeps {x1} (h : Keeps S M s t) (hS : Sub 0x10000000000000000000000000000000000000000000000000000000000000000000000000000000000000000000000000000000000000000000000000000 S)
    (e : execLaneRefReturn x1 t = .next u) : Keeps S M s u := by
  obtain rfl := Host.Outcome.next.inj e
  exact State.laneReturn_keeps h (hS.tr rfl)

theorem execLaneRefFallback_keeps {x1} (h : Keeps S M s t) (hS : Sub 0x8017d100000100000000000000440000000000000020000000000000000000000000000000080000000010000000080000000600000000000000000000000000000000000000000000000000000000000000000000000000000000000000000000000000000000000 S) (hM : Sub 0x304026 M)
    (e : execLaneRefFallback x1 t = .next u) : Keeps S M s u := by
  obtain rfl := Host.Outcome.next.inj e
  exact State.laneFallback_keeps h (hS.tr rfl) (hM.tr rfl)

theorem execFrameTx_keeps {x1 x2} (h : Keeps S M s t) (hS : Sub 0x20000000000000000000000000000000080000000000000000000000000000000000000000000000000000000000000000000000000000000000000000000000000000000000000000000000000000000000000 S) (hM : Sub 0x304000 M)
    (e : execFrameTx x1 x2 t = .next u) : Keeps S M s u := by
  obtain rfl := Host.Outcome.next.inj e
  exact State.frameTx_keeps h (hS.tr rfl) (hM.tr rfl)

/-! CmdPower -/

theorem execLastGasp_keeps {x1 x2} (h : Keeps S M s t) (hS : Sub 0x200e0000000000000000000000000000000000000000000000000000000000000000000000000000000000000000000000000000000000000000000000000000000000000000000000000000000000000000000000000000000000000000000000000000000000000000000000 S) (hM : Sub 0x6a00200 M)
    (e : execLastGasp x1 x2 t = .next u) : Keeps S M s u := by
  obtain rfl := Host.Outcome.next.inj e
  exact State.lastGasp_keeps h (hS.tr rfl) (hM.tr rfl)

theorem execFeedTestA_keeps (h : Keeps S M s t) (hS : Sub 0xe0600400 S) (hM : Sub 0x2 M)
    (e : execFeedTestA t = .next u) : Keeps S M s u := by
  obtain rfl := Host.Outcome.next.inj e
  exact State.startTest_keeps h (hS.tr rfl) (hM.tr rfl)

theorem execRailFault_keeps {x1 x2} (h : Keeps S M s t) (hS : Sub 0x8017d100000100000000000000440000000000000020000000000000000000000000000000000000000000000000080000000600000000000000000000000000000000000000000000000000000000000000000000000000000000000000000000000000000000000 S) (hM : Sub 0x304026 M)
    (e : execRailFault x1 x2 t = .next u) : Keeps S M s u := by
  obtain rfl := Host.Outcome.next.inj e
  exact State.railFault_keeps h (hS.tr rfl) (hM.tr rfl)

theorem execVbatLow_keeps {x1} (h : Keeps S M s t) (hS : Sub 0x80000000600000000000000000000000000000000000000000000000000000000000000000000000000000000000000000000000200000080000 S) (hM : Sub 0x200012 M)
    (e : execVbatLow x1 t = .next u) : Keeps S M s u := by
  obtain rfl := Host.Outcome.next.inj e
  exact State.vbatLow_keeps h (hS.tr rfl) (hM.tr rfl)

theorem execFeedOv_keeps {x1} (h : Keeps S M s t) (hS : Sub 0x8017d1000001000000000000004400000000000000200000000000000000000000000000000000000000000000000800000006000000000000000000000000000000000000000000000000000000000000000000000000000000000000000000000000000c0718494 S) (hM : Sub 0x2304266 M)
    (e : execFeedOv x1 t = .next u) : Keeps S M s u := by
  obtain rfl := Host.Outcome.next.inj e
  exact State.feedOv_keeps h (hS.tr rfl) (hM.tr rfl)

theorem execFeedTestEnd_keeps {x1 x2} (h : Keeps S M s t) (hS : Sub 0x8017d1000001000000000000004400000000000000200000000000000000000000000000000000000000000000000800000006000000000000000000000000000000000000000000000000000000000000000000000000000000000000000000000000003e0e00400 S) (hM : Sub 0x304066 M)
    (e : execFeedTestEnd x1 x2 t = .next u) : Keeps S M s u := by
  obtain rfl := Host.Outcome.next.inj e
  exact State.feedTestEnd_keeps h (hS.tr rfl) (hM.tr rfl)

theorem execRailOffRestart_keeps {x1} (h : Keeps S M s t) (hS : Sub 0x200400 S) (hM : Sub 0x2 M)
    (e : execRailOffRestart x1 t = .next u) : Keeps S M s u := by
  obtain rfl := Host.Outcome.next.inj e
  exact State.railOffRestart_keeps h (hS.tr rfl) (hM.tr rfl)

theorem execFeedOc_keeps {x1} (h : Keeps S M s t) (hS : Sub 0x8017d1000001000000000000004400000000000000200000000000000000000000000000000000000000000000000800000006000000000000000000000000000000000000000000000000000000000000000000000000000000000000000000000000000c07184c0 S) (hM : Sub 0x2304266 M)
    (e : execFeedOc x1 t = .next u) : Keeps S M s u := by
  obtain rfl := Host.Outcome.next.inj e
  exact State.feedOc_keeps h (hS.tr rfl) (hM.tr rfl)

theorem execFeedTestPeriod_keeps (h : Keeps S M s t) (hS : Sub 0xe0600400 S) (hM : Sub 0x42 M)
    (e : execFeedTestPeriod t = .next u) : Keeps S M s u := by
  obtain rfl := Host.Outcome.next.inj e
  exact State.startTestsAB_keeps h (hS.tr rfl) (hM.tr rfl)

theorem execRailsGood_keeps {x1 x2 x3} (h : Keeps S M s t) (hS : Sub 0xc000000000001f80000000000000000c317d100000100000000000007c400000000000000e0000030c00000000000000000000000000000000000000000080000000600000000000000000000000000000000000000000000000000000000000000000000000000000000000040000000000000300920000 S) (hM : Sub 0x37fffff M)
    (e : execRailsGood x1 x2 x3 t = .next u) : Keeps S M s u := by
  obtain rfl := Host.Outcome.next.inj e
  exact State.railsGood_keeps h (hS.tr rfl) (hM.tr rfl)

theorem execResetNLow_keeps {x1} (h : Keeps S M s t) (hS : Sub 0xe000008017d100000100000000000000440000000000000020000030c00000000000000000000000000000000000000000080000000600000000000000000000000000000000000000000000000000000000000000000000000000000000000040000000000000000000000 S) (hM : Sub 0x3ffffff M)
    (e : execResetNLow x1 t = .next u) : Keeps S M s u := by
  obtain rfl := Host.Outcome.next.inj e
  exact State.resetNLow_keeps h (hS.tr rfl) (hM.tr rfl)

theorem execFeedTestFail_keeps {x1} (h : Keeps S M s t) (hS : Sub 0x8017d1000001000000000000004400000000000000200000000000000000000000000000000000000000000000000800000006000000000000000000000000000000000000000000000000000000000000000000000000000000000000000000000000000c0718480 S) (hM : Sub 0x2304266 M)
    (e : execFeedTestFail x1 t = .next u) : Keeps S M s u := by
  obtain rfl := Host.Outcome.next.inj e
  exact State.feedTestFail_keeps h (hS.tr rfl) (hM.tr rfl)

theorem execFeedTestB_keeps (h : Keeps S M s t) (hS : Sub 0xe0600400 S) (hM : Sub 0x2 M)
    (e : execFeedTestB t = .next u) : Keeps S M s u := by
  obtain rfl := Host.Outcome.next.inj e
  exact State.startTest_keeps h (hS.tr rfl) (hM.tr rfl)

theorem execThermalSample_keeps {x1 x2 x3 x4 x5 x6} (h : Keeps S M s t) (hS : Sub 0x8017d10000010000000000000044000000000000002000000000000000000000000000000000000000000000000008000000060000000000000000000000000000000000000000000000000000000000000000000000000000000000000000000000027f0010c0000 S) (hM : Sub 0x304266 M)
    (e : execThermalSample x1 x2 x3 x4 x5 x6 t = .next u) : Keeps S M s u := by
  obtain rfl := Host.Outcome.next.inj e
  exact State.thermalSample_keeps h (hS.tr rfl) (hM.tr rfl)

theorem execThermalRestart_keeps {x1} (h : Keeps S M s t) (hM : Sub 0x40 M)
    (e : execThermalRestart x1 t = .next u) : Keeps S M s u := by
  obtain rfl := Host.Outcome.next.inj e
  exact State.thermalRestart_keeps h (hM.tr rfl)

theorem execFeedDropout_keeps {x1} (h : Keeps S M s t) (hS : Sub 0x408c S)
    (e : execFeedDropout x1 t = .next u) : Keeps S M s u := by
  obtain rfl := Host.Outcome.next.inj e
  exact State.feedDropout_keeps h (hS.tr rfl)

theorem execFeedSample_keeps {x1 x2 x3 x4} (h : Keeps S M s t) (hS : Sub 0x420203fbc S) (hM : Sub 0x42 M)
    (e : execFeedSample x1 x2 x3 x4 t = .next u) : Keeps S M s u := by
  obtain rfl := Host.Outcome.next.inj e
  exact State.feedSample_keeps h (hS.tr rfl) (hM.tr rfl)

theorem execPorchPowerOn_keeps (h : Keeps S M s t) (hM : Sub 0x400010 M)
    (e : execPorchPowerOn t = .next u) : Keeps S M s u := by
  obtain rfl := Host.Outcome.next.inj e
  exact State.porchPowerOn_keeps h (hM.tr rfl)

theorem execFeedQualified_keeps {x1} (h : Keeps S M s t) (hS : Sub 0x200400 S) (hM : Sub 0x2 M)
    (e : execFeedQualified x1 t = .next u) : Keeps S M s u := by
  obtain rfl := Host.Outcome.next.inj e
  exact State.feedQualified_keeps h (hS.tr rfl) (hM.tr rfl)

theorem execResetNRelease_keeps {x1} (h : Keeps S M s t) (hS : Sub 0xc000000000001f80000000000000000c317d100000100000000000007c40000000000000020000000000000000000000000000000000000000000000000080000000600000000000000000000000000000000000000000000000000000000000000000000000000000000000000000000000000000000000 S) (hM : Sub 0x304066 M)
    (e : execResetNRelease x1 t = .next u) : Keeps S M s u := by
  obtain rfl := Host.Outcome.next.inj e
  exact State.resetNRelease_keeps h (hS.tr rfl) (hM.tr rfl)

theorem execFeedRecover_keeps {x1} (h : Keeps S M s t) (hS : Sub 0x200440 S) (hM : Sub 0x2 M)
    (e : execFeedRecover x1 t = .next u) : Keeps S M s u := by
  obtain rfl := Host.Outcome.next.inj e
  exact State.feedRecover_keeps h (hS.tr rfl) (hM.tr rfl)

theorem execRailOff_keeps (h : Keeps S M s t) (hS : Sub 0x10000000000000000000000000000000000000440000000000000000000000000000000000000000000000000000000000000000080000000600000000000000000000000000000000000000000000000000000001080000000000000000000000000018000000000800000220400 S) (hM : Sub 0x201afa M)
    (e : execRailOff t = .next u) : Keeps S M s u := by
  obtain rfl := Host.Outcome.next.inj e
  exact State.railOff_keeps h (hS.tr rfl) (hM.tr rfl)

theorem execFeedUvFault_keeps {x1} (h : Keeps S M s t) (hS : Sub 0x8017d1000001000000000000004400000000000000200000000000000000000000000000000000000000000000000800000006000000000000000000000000000000000000000000000000000000000000000000000000000000000000000000000000000c0718480 S) (hM : Sub 0x2304266 M)
    (e : execFeedUvFault x1 t = .next u) : Keeps S M s u := by
  obtain rfl := Host.Outcome.next.inj e
  exact State.feedUvFault_keeps h (hS.tr rfl) (hM.tr rfl)

theorem execThermalTrip_keeps (h : Keeps S M s t) (hS : Sub 0x8017d100000100000000000000440000000000000020000000000000000000000000000000000000000000000000080000000600000000000000000000000000000000000000000000000000000000000000000000000000000000000000000000000000000100000 S) (hM : Sub 0x2304266 M)
    (e : execThermalTrip t = .next u) : Keeps S M s u := by
  obtain rfl := Host.Outcome.next.inj e
  exact State.thermalTripped_keeps h (hS.tr rfl) (hM.tr rfl)

theorem execBootReadDone_keeps (h : Keeps S M s t) (hS : Sub 0x229ff8011fc7f80063f0010f020079460c317d1000001004b80018f0000762005fffff002f0220f8033383c000000000005c0000002080000000013e0000008000000060484001818688800800000bee0000100af7000000000000001e0000b2800001fe00118003986800042029b6b7fc1c080000e0700441 S) (hM : Sub 0x7ffffff M)
    (e : execBootReadDone t = .next u) : Keeps S M s u := by
  obtain rfl := Host.Outcome.next.inj e
  exact State.bootReadDone_keeps h (hS.tr rfl) (hM.tr rfl)

/-! CmdService -/

theorem execNtpRequestRx_keeps {x1 x2} (h : Keeps S M s t) (hS : Sub 0x8017d100000100000000000000440000000000000020000000000000000001000000000000080000000000000000080000000600000000000000000000000000000000000000000000000000000000000000000000000000000000000000000000000000000000000 S) (hM : Sub 0x314026 M)
    (e : execNtpRequestRx x1 x2 t = .next u) : Keeps S M s u := by
  obtain rfl := Host.Outcome.next.inj e
  exact State.ntpRx_keeps h (hS.tr rfl) (hM.tr rfl)

theorem execTblWrite_keeps (h : Keeps S M s t) (hS : Sub 0x100000000000000000000000000000000000000000000000000000000000000000000000000000000000000000000000000000000000000000000000000000000000000000000000 S) (hM : Sub 0x10020 M)
    (e : execTblWrite t = .next u) : Keeps S M s u := by
  obtain rfl := Host.Outcome.next.inj e
  exact State.tblWrite_keeps h (hS.tr rfl) (hM.tr rfl)

theorem execFollowUpTimeout_keeps {x1} (h : Keeps S M s t) (hM : Sub 0x20000 M)
    (e : execFollowUpTimeout x1 t = .next u) : Keeps S M s u := by
  obtain rfl := Host.Outcome.next.inj e
  exact State.followUpTimeout_keeps h (hM.tr rfl)

theorem execDelayReqRx_keeps {x1} (h : Keeps S M s t) (hS : Sub 0x1000000000000080000000000000000000000000000000000000000000000000000000000000000000000000000000000000000000000000000000000000000000000000000000000000 S) (hM : Sub 0x310020 M)
    (e : execDelayReqRx x1 t = .next u) : Keeps S M s u := by
  obtain rfl := Host.Outcome.next.inj e
  exact State.delayReqRx_keeps h (hS.tr rfl) (hM.tr rfl)

theorem execFollowUpSend_keeps {x1} (h : Keeps S M s t) (hS : Sub 0x80000000000000000000000000000000000000000000000000000000000000000000000000000000000000000000000000000000000000000000000000000000000000 S) (hM : Sub 0x310000 M)
    (e : execFollowUpSend x1 t = .next u) : Keeps S M s u := by
  obtain rfl := Host.Outcome.next.inj e
  exact State.followUpSend_keeps h (hS.tr rfl) (hM.tr rfl)

theorem execManagementRx_keeps {x1} (h : Keeps S M s t) (hS : Sub 0x1000000000000080000000000000000000000000000000000000000000000000000000000000000000000000000000000000000000000000000000000000000000000000000000000000 S) (hM : Sub 0x310000 M)
    (e : execManagementRx x1 t = .next u) : Keeps S M s u := by
  obtain rfl := Host.Outcome.next.inj e
  exact State.managementRx_keeps h (hS.tr rfl) (hM.tr rfl)

theorem execClientWindowAccess_keeps (h : Keeps S M s t) (hS : Sub 0x80000000000000000000000000000000000000000000000000000000000000000000000000000000000000000000000000000000000000000000000000000000000000000000000 S)
    (e : execClientWindowAccess t = .next u) : Keeps S M s u := by
  obtain rfl := Host.Outcome.next.inj e
  exact State.clientWindow_keeps h (hS.tr rfl)

theorem execTblFind_keeps (h : Keeps S M s t) (hS : Sub 0x140000000000000000000000000000000000000000000000000000000000000000000000000000000000000000000000000000000000000000000000000000000000000000000000 S)
    (e : execTblFind t = .next u) : Keeps S M s u := by
  obtain rfl := Host.Outcome.next.inj e
  exact State.tblFind_keeps h (hS.tr rfl)

theorem execServoLost_keeps {x1 x2 x3} (h : Keeps S M s t) (hS : Sub 0x8017d100000100000000000000440000000000000020000000383c2000000000000000000000000000000000000008000000060000000000000000000000a600000100826000000000000002000000200000000000000000000000000000000000000000000000000 S) (hM : Sub 0x2326b26 M)
    (e : execServoLost x1 x2 x3 t = .next u) : Keeps S M s u := by
  obtain rfl := Host.Outcome.next.inj e
  exact State.servoLost_keeps h (hS.tr rfl) (hM.tr rfl)

theorem execPdelayReqRx_keeps {x1 x2} (h : Keeps S M s t) (hS : Sub 0x1000000000000080000000000000000000000000000000000000000000000000000000000000000000000000000000000000000000000000000000000000000000000000000000000000 S) (hM : Sub 0x310020 M)
    (e : execPdelayReqRx x1 x2 t = .next u) : Keeps S M s u := by
  obtain rfl := Host.Outcome.next.inj e
  exact State.pdelayReqRx_keeps h (hS.tr rfl) (hM.tr rfl)

theorem execAnnounceTimeout_keeps {x1} (h : Keeps S M s t) (hS : Sub 0x200000000000000000000000000000000000000000000000000000000000000000000000000000000000000000000000000000000000000000000000000000000000000000000000000000000000 S)
    (e : execAnnounceTimeout x1 t = .next u) : Keeps S M s u := by
  obtain rfl := Host.Outcome.next.inj e
  exact State.announceTimeout_keeps h (hS.tr rfl)

theorem execTblDelete_keeps (h : Keeps S M s t) (hS : Sub 0x100000000000000000000000000000000000000000000000000000000000000000000000000000000000000000000000000000000000000000000000000000000000000000000000 S) (hM : Sub 0x10022 M)
    (e : execTblDelete t = .next u) : Keeps S M s u := by
  obtain rfl := Host.Outcome.next.inj e
  exact State.tblDelete_keeps h (hS.tr rfl) (hM.tr rfl)

theorem execTblRead_keeps (h : Keeps S M s t) (hS : Sub 0x500000000000000000000000000000000000000000000000000000000000000000000000000000000000000000000000000000000000000000000000000000000000000000000000 S)
    (e : execTblRead t = .next u) : Keeps S M s u := by
  obtain rfl := Host.Outcome.next.inj e
  exact State.tblRead_keeps h (hS.tr rfl)

theorem execServoRenew_keeps {x1 x2} (h : Keeps S M s t) (hS : Sub 0x80000000000000000000000000000000000000000000000000000000000000000000000000000000000000000000000000000000000000000000000000000000000000 S) (hM : Sub 0x320000 M)
    (e : execServoRenew x1 x2 t = .next u) : Keeps S M s u := by
  obtain rfl := Host.Outcome.next.inj e
  exact State.servoRenew_keeps h (hS.tr rfl) (hM.tr rfl)

theorem execPtpSignalingRx_keeps {x1} (h : Keeps S M s t) (hM : Sub 0x10000 M)
    (e : execPtpSignalingRx x1 t = .next u) : Keeps S M s u := by
  obtain rfl := Host.Outcome.next.inj e
  exact State.signalingRx_keeps h (hM.tr rfl)

theorem execServoFrameRx_keeps {x1} (h : Keeps S M s t) (hS : Sub 0x8017d1000001000000000000004400000000000000200000003bff2000000000000000000008000000000000000008000000060000000000000000000000a600000100826000000000000002000000200000000000000000000000000000000000000000000000000 S) (hM : Sub 0x2336b26 M)
    (e : execServoFrameRx x1 t = .next u) : Keeps S M s u := by
  obtain rfl := Host.Outcome.next.inj e
  exact State.servoFrameRx_keeps h (hS.tr rfl) (hM.tr rfl)

/-! CmdSynth -/

theorem execShutterOpen_keeps {x1} (h : Keeps S M s t) (hS : Sub 0x8000000000000000000000000000000000000000000000000000000000000000000000000000000000000000000 S) (hM : Sub 0x2002 M)
    (e : execShutterOpen x1 t = .next u) : Keeps S M s u := by
  obtain rfl := Host.Outcome.next.inj e
  exact State.shutterOpen_keeps h (hS.tr rfl) (hM.tr rfl)

theorem execRelockAttempt_keeps {x1 x2} (h : Keeps S M s t) (hS : Sub 0x40000000000000000000000000000000000000000000000000000000000000000000000000000000000000000000000 S)
    (e : execRelockAttempt x1 x2 t = .next u) : Keeps S M s u := by
  obtain rfl := Host.Outcome.next.inj e
  exact State.relockAttempt_keeps h (hS.tr rfl)

theorem execApllUnlock_keeps {x1} (h : Keeps S M s t) (hS : Sub 0x8017d100000100000000000000440000000000000020000000000000000000000000000000000000000000000000080000000600000000000088008000000000000000000000000000000000000000000000000000000000000000000000000000000000000000000 S) (hM : Sub 0x306026 M)
    (e : execApllUnlock x1 t = .next u) : Keeps S M s u := by
  obtain rfl := Host.Outcome.next.inj e
  exact State.apllUnlock_keeps h (hS.tr rfl) (hM.tr rfl)

theorem execSynthCommitGo_keeps (h : Keeps S M s t) (hS : Sub 0x6800000000000000000000000000000000000000000000000000000000000000000000000000000000000000000000000 S) (hM : Sub 0x2002 M)
    (e : execSynthCommitGo t = .next u) : Keeps S M s u := by
  obtain rfl := Host.Outcome.next.inj e
  exact State.commitGo_keeps h (hS.tr rfl) (hM.tr rfl)

theorem execShutterForce_keeps {x1} (h : Keeps S M s t) (hM : Sub 0x2000 M)
    (e : execShutterForce x1 t = .next u) : Keeps S M s u := by
  obtain rfl := Host.Outcome.next.inj e
  exact State.shutterForce_keeps h (hM.tr rfl)

theorem execSynthCommitValidate_keeps (h : Keeps S M s t) (hS : Sub 0xe808008006000000000000000000000000000000000000000000000000000000000000000000000000000000000000000 S) (hM : Sub 0x2002 M)
    (e : execSynthCommitValidate t = .next u) : Keeps S M s u := by
  obtain rfl := Host.Outcome.next.inj e
  exact State.commitValidate_keeps h (hS.tr rfl) (hM.tr rfl)

theorem execApllLock_keeps {x1} (h : Keeps S M s t) (hS : Sub 0x10000000000000000000000000000000000000440000000000000000000000000000000000000000000000000000000000000000000000000000000000000008008000000000000000000000000000000000000001080000000000000039868000420018000040820000000000000 S) (hM : Sub 0x3eaa M)
    (e : execApllLock x1 t = .next u) : Keeps S M s u := by
  obtain rfl := Host.Outcome.next.inj e
  exact State.apllLock_keeps h (hS.tr rfl) (hM.tr rfl)

theorem execDegradedIntervalEnd_keeps (h : Keeps S M s t) (hS : Sub 0x280000000000000000000000000000000000000000000000000000000000000000000000000000000000000000000000000 S) (hM : Sub 0x2002 M)
    (e : execDegradedIntervalEnd t = .next u) : Keeps S M s u := by
  obtain rfl := Host.Outcome.next.inj e
  exact State.degradedEnd_keeps h (hS.tr rfl) (hM.tr rfl)

theorem execSynthRealign_keeps {x1} (h : Keeps S M s t) (hS : Sub 0x8000000000000000000000000000000000000000000000000000000000000000000000000000000000000000000 S) (hM : Sub 0x2002 M)
    (e : execSynthRealign x1 t = .next u) : Keeps S M s u := by
  obtain rfl := Host.Outcome.next.inj e
  exact State.realign_keeps h (hS.tr rfl) (hM.tr rfl)

theorem execBaseUnlock_keeps (h : Keeps S M s t) (hS : Sub 0x8017d1000001000000000000004400000000000000200000000000000000000000000000000000000000000000000800000006000400001800880080000000000000000000000000000000000000000000000000000000000000000000800000c1c00000000000000 S) (hM : Sub 0x306436 M)
    (e : execBaseUnlock t = .next u) : Keeps S M s u := by
  obtain rfl := Host.Outcome.next.inj e
  exact State.baseUnlock_keeps h (hS.tr rfl) (hM.tr rfl)

theorem execPhaseVerify_keeps (h : Keeps S M s t) (hS : Sub 0x8017d10000010000000000000044000000000000002000000000000000000000000000000000000000000000000008000000060000001e000000000000000000000000000000000000000000000000000000000000000000000000000000000000000000000000000 S) (hM : Sub 0x306026 M)
    (e : execPhaseVerify t = .next u) : Keeps S M s u := by
  obtain rfl := Host.Outcome.next.inj e
  exact State.phaseVerify_keeps h (hS.tr rfl) (hM.tr rfl)

/-! CmdTdc -/

theorem execTakeAbort_keeps {x1} (h : Keeps S M s t) (hS : Sub 0x20000000000000000000000000000000000000000000000000000000000000000000000000000000000000000000000000000000000000000000000000162000000000000000000000000000000000000000000 S) (hM : Sub 0x104402 M)
    (e : execTakeAbort x1 t = .next u) : Keeps S M s u := by
  obtain rfl := Host.Outcome.next.inj e
  exact State.takeAbort_keeps h (hS.tr rfl) (hM.tr rfl)

theorem execCalTableReady_keeps {x1 x2 x3 x4 x5 x6 x7} (h : Keeps S M s t) (hS : Sub 0x8017d1000001000000000000004400000000000000200000000000000000000000000000000000000000000000000800000006000000000000000000000000000000000000000000000000000000000000000000000000f6008000000000000000000000000000000 S) (hM : Sub 0x304426 M)
    (e : execCalTableReady x1 x2 x3 x4 x5 x6 x7 t = .next u) : Keeps S M s u := by
  obtain rfl := Host.Outcome.next.inj e
  exact State.calTableReady_keeps h (hS.tr rfl) (hM.tr rfl)

theorem execCalValid_keeps {x1} (h : Keeps S M s t) (hS : Sub 0x8000000000000000000000000000000000 S) (hM : Sub 0x400 M)
    (e : execCalValid x1 t = .next u) : Keeps S M s u := by
  obtain rfl := Host.Outcome.next.inj e
  exact State.calValid_keeps h (hS.tr rfl) (hM.tr rfl)

theorem execEdgeStamp_keeps {x1 x2 x3 x4 x5 x6} (h : Keeps S M s t) (hS : Sub 0x8017d10000010000000000000044000000000000002000000000000000000000000000000000000000000000000008000000060000000000000000000000a600000100826000000000000002000010200000002000000001e00000420000000000000000000000000 S) (hM : Sub 0x2306f36 M)
    (e : execEdgeStamp x1 x2 x3 x4 x5 x6 t = .next u) : Keeps S M s u := by
  obtain rfl := Host.Outcome.next.inj e
  refine State.notifyReview_keeps ?_ (hS.tr rfl) (hM.tr rfl)
  exact State.edgeStamp_keeps h (hS.tr rfl) (hM.tr rfl)

theorem execTakeGateEnd_keeps {x1} (h : Keeps S M s t) (hS : Sub 0x200000000000000000000000000000000000000000000000000000000000000000000000000000000000000000000000000000000000000000000000001fe000000000000000000000000000000000000000000 S) (hM : Sub 0x104412 M)
    (e : execTakeGateEnd x1 t = .next u) : Keeps S M s u := by
  obtain rfl := Host.Outcome.next.inj e
  exact State.takeGateEnd_keeps h (hS.tr rfl) (hM.tr rfl)

theorem execStampDistribute_keeps {x1} (h : Keeps S M s t) (hS : Sub 0x2000000000000000000000000000000000000000000000000000000000000000000000000000000000000000000000000000000000000000000000000019e000000000900000000000000000000000000000000 S) (hM : Sub 0x106d00 M)
    (e : execStampDistribute x1 t = .next u) : Keeps S M s u := by
  obtain rfl := Host.Outcome.next.inj e
  refine State.notifyReview_keeps ?_ (hS.tr rfl) (hM.tr rfl)
  exact State.stampDistribute_keeps h (hS.tr rfl) (hM.tr rfl)

theorem execGateEnd_keeps {x1} (h : Keeps S M s t) (hS : Sub 0x100000000000000000000000000000000000000 S) (hM : Sub 0x410 M)
    (e : execGateEnd x1 t = .next u) : Keeps S M s u := by
  obtain rfl := Host.Outcome.next.inj e
  exact State.gateEnd_keeps h (hS.tr rfl) (hM.tr rfl)

theorem execGatePinEdge_keeps {x1 x2 x3} (h : Keeps S M s t) (hS : Sub 0x200000000000000000000000000000000000000000000000000000000000000000000000000000000000000000000000000000000000000000000000001fe000000000000000000000000000000000000000000 S) (hM : Sub 0x104412 M)
    (e : execGatePinEdge x1 x2 x3 t = .next u) : Keeps S M s u := by
  obtain rfl := Host.Outcome.next.inj e
  exact State.gatePinEdge_keeps h (hS.tr rfl) (hM.tr rfl)

theorem execEstStart_keeps {x1} (h : Keeps S M s t) (hS : Sub 0x1180000000000000000000000000000000000000 S) (hM : Sub 0x400 M)
    (e : execEstStart x1 t = .next u) : Keeps S M s u := by
  obtain rfl := Host.Outcome.next.inj e
  exact State.estStart_keeps h (hS.tr rfl) (hM.tr rfl)

theorem execCalRescaleDone_keeps {x1} (h : Keeps S M s t) (hM : Sub 0x400 M)
    (e : execCalRescaleDone x1 t = .next u) : Keeps S M s u := by
  obtain rfl := Host.Outcome.next.inj e
  exact State.calRescaleDone_keeps h (hM.tr rfl)

theorem execEstimatePublish_keeps {x1} (h : Keeps S M s t) (hS : Sub 0x1ef0000000000000000000000000000000000000 S) (hM : Sub 0xc02 M)
    (e : execEstimatePublish x1 t = .next u) : Keeps S M s u := by
  obtain rfl := Host.Outcome.next.inj e
  exact State.estimatePublish_keeps h (hS.tr rfl) (hM.tr rfl)

theorem execEstStop_keeps {x1} (h : Keeps S M s t) (hS : Sub 0x100000000000000000000000000000000000000 S) (hM : Sub 0x400 M)
    (e : execEstStop x1 t = .next u) : Keeps S M s u := by
  obtain rfl := Host.Outcome.next.inj e
  exact State.estStop_keeps h (hS.tr rfl) (hM.tr rfl)

theorem execTakeArm_keeps {x1} (h : Keeps S M s t) (hS : Sub 0x1fe000000000000000000000000000000000000000000 S) (hM : Sub 0x400 M)
    (e : execTakeArm x1 t = .next u) : Keeps S M s u := by
  obtain rfl := Host.Outcome.next.inj e
  exact State.takeArm_keeps h (hS.tr rfl) (hM.tr rfl)

/-! CmdTime -/

theorem execTodMessageRx_keeps {x1 x2 x3 x4 x5} (h : Keeps S M s t) (hS : Sub 0x8017d1000001000000000000004400000000000000200000000000000000000000000000000000000000000000000803600007d0021800000000000000000000000000000000000000000000000000000000000000000000000000000000000000000000000000000 S) (hM : Sub 0x304036 M)
    (e : execTodMessageRx x1 x2 x3 x4 x5 t = .next u) : Keeps S M s u := by
  obtain rfl := Host.Outcome.next.inj e
  exact State.todMessage_keeps h (hS.tr rfl) (hM.tr rfl)

theorem execCounterStart_keeps {x1 x2 x3} (h : Keeps S M s t) (hS : Sub 0x10000000000000000000000000000000000000440000000000000020000000000000000000000000000000000000000000000000080000000605e77800000000000000000000000000000000000000000000000001080000162000000000000000000018000000400000000000000 S) (hM : Sub 0x337fbe M)
    (e : execCounterStart x1 x2 x3 t = .next u) : Keeps S M s u := by
  obtain rfl := Host.Outcome.next.inj e
  refine State.notifyReview_keeps ?_ (hS.tr rfl) (hM.tr rfl)
  exact State.counterStart_keeps h (hS.tr rfl) (hM.tr rfl)

theorem execTimeSet_keeps (h : Keeps S M s t) (hS : Sub 0x800000000000000000000000000000000000000000000000000000000000000000000000000000000000000000000000000000000 S) (hM : Sub 0x10 M)
    (e : execTimeSet t = .next u) : Keeps S M s u := by
  obtain rfl := Host.Outcome.next.inj e
  exact State.timeSet_keeps h (hS.tr rfl) (hM.tr rfl)

theorem execTimeVoteOne_keeps {x1} (h : Keeps S M s t) (hS : Sub 0x8017d10000010000000000000044000000000000002000000000000000000000000000000000000000000000000008000000060a000000000000000000000000000000000000000000000000000000000000000000000000000000000000000000000000000000000 S) (hM : Sub 0x304036 M)
    (e : execTimeVoteOne x1 t = .next u) : Keeps S M s u := by
  obtain rfl := Host.Outcome.next.inj e
  exact State.timeVoteOne_keeps h (hS.tr rfl) (hM.tr rfl)

theorem execPorchAnchor_keeps (h : Keeps S M s t) (hS : Sub 0x7000000000000000000000000000000000000000000000000000000000000000000000000000000000000000000000000000000000000 S) (hM : Sub 0x10 M)
    (e : execPorchAnchor t = .next u) : Keeps S M s u := by
  obtain rfl := Host.Outcome.next.inj e
  exact State.porchAnchor_keeps h (hS.tr rfl) (hM.tr rfl)

theorem execTodoSend_keeps {x1} (h : Keeps S M s t) (hS : Sub 0x70000000000000000000000000000000000000000000000000000000000000000000000000000000000000000000000000000000000000000000 S) (hM : Sub 0x100010 M)
    (e : execTodoSend x1 t = .next u) : Keeps S M s u := by
  obtain rfl := Host.Outcome.next.inj e
  exact State.todoSend_keeps h (hS.tr rfl) (hM.tr rfl)

theorem execTimeVoteNone_keeps (h : Keeps S M s t) (hS : Sub 0x8017d100000100000000000000440000000000000020000000000000000000000000000000000000000000000000080000000604040000000000000000000000000000000000000000000000000000000000000000000000000000000000000000000000000000000 S) (hM : Sub 0x304036 M)
    (e : execTimeVoteNone t = .next u) : Keeps S M s u := by
  obtain rfl := Host.Outcome.next.inj e
  refine State.notifyReview_keeps ?_ (hS.tr rfl) (hM.tr rfl)
  exact State.timeVoteNone_keeps h (hS.tr rfl) (hM.tr rfl)

theorem execTimeStep_keeps (h : Keeps S M s t) (hS : Sub 0x20000000000000000000000000000000000000000000000000000000000001e31800000000000000000000000000040000000000000000000000000000162000000000000000000000000000000000000000000 S) (hM : Sub 0x136d36 M)
    (e : execTimeStep t = .next u) : Keeps S M s u := by
  obtain rfl := Host.Outcome.next.inj e
  refine State.notifyReview_keeps ?_ (hS.tr rfl) (hM.tr rfl)
  exact State.timeStep_keeps h (hS.tr rfl) (hM.tr rfl)

theorem execTimeStepRequest_keeps (h : Keeps S M s t) (hM : Sub 0x10 M)
    (e : execTimeStepRequest t = .next u) : Keeps S M s u := by
  obtain rfl := Host.Outcome.next.inj e
  exact State.timeStepRequest_keeps h (hM.tr rfl)

theorem execLeapSecond_keeps (h : Keeps S M s t) (hS : Sub 0xd0000000000000000000000000000000000000000000000000000000000000000000000000000000000000000000000000000000000 S)
    (e : execLeapSecond t = .next u) : Keeps S M s u := by
  obtain rfl := Host.Outcome.next.inj e
  exact State.leapSecond_keeps h (hS.tr rfl)

theorem execPpsPulse_keeps {x1} (h : Keeps S M s t) (hS : Sub 0x480000000000000000000000000000000000000000000000000000000000000000000000000000000000800000000000000000000000000000000000000000000000000000000000000000000000000000000000000000000000000000000000000 S) (hM : Sub 0x100030 M)
    (e : execPpsPulse x1 t = .next u) : Keeps S M s u := by
  obtain rfl := Host.Outcome.next.inj e
  exact State.ppsPulseTime_keeps h (hS.tr rfl) (hM.tr rfl)

/-! CmdUnits -/

theorem execUnitStatus_keeps {x1 x2} (h : Keeps S M s t) (hS : Sub 0x1fc00000000001000000000008017d100000100038000000000740005fffff0000022000031383c00000000000000000002080000000003e0000008000000060404000018008800800000a6000001008f7000000000000000c0000b28000000200010003986800042009b6b7fc1c080000e0700440 S) (hM : Sub 0x23afffe M)
    (e : execUnitStatus x1 x2 t = .next u) : Keeps S M s u := by
  obtain rfl := Host.Outcome.next.inj e
  exact State.unitCtrl_keeps h (hS.tr rfl) (hM.tr rfl)

theorem execOwnUnitReset_keeps (h : Keeps S M s t) (hS : Sub 0x1e000000000001000000000008017d100000100038000000000740005fffff0000022000001383c00000000000000000002080000000003e0000008000000060404000018008800800000000000000000100000000000000000000b28000000200010003986800042009b6b7fc1c08000000200440 S) (hM : Sub 0x3afffe M)
    (e : execOwnUnitReset t = .next u) : Keeps S M s u := by
  obtain rfl := Host.Outcome.next.inj e
  refine State.notifyReview_keeps ?_ (hS.tr rfl) (hM.tr rfl)
  exact State.ownUnitReset_keeps h (hS.tr rfl) (hM.tr rfl)

theorem execAnnounceToken_keeps {x1 x2} (h : Keeps S M s t) (hS : Sub 0x180000000000000000000000 S) (hM : Sub 0x2 M)
    (e : execAnnounceToken x1 x2 t = .next u) : Keeps S M s u := by
  obtain rfl := Host.Outcome.next.inj e
  exact State.announceToken_keeps h (hS.tr rfl) (hM.tr rfl)

theorem execUnitRetire_keeps {x1 x2} (h : Keeps S M s t) (hS : Sub 0x1fc00000000001000000000008017d100000100038000000000740005fffff0000022000031383c00000000000000000002080000000003e0000008000000060404000018008800800000a6000001008f7000000000000000c0000b28000000200010003986800042009b6b7fc1c080000e0700440 S) (hM : Sub 0x23afffe M)
    (e : execUnitRetire x1 x2 t = .next u) : Keeps S M s u := by
  obtain rfl := Host.Outcome.next.inj e
  refine State.notifyReview_keeps ?_ (hS.tr rfl) (hM.tr rfl)
  exact State.unitCtrl_keeps h (hS.tr rfl) (hM.tr rfl)

theorem execUnitIsolate_keeps {x1 x2} (h : Keeps S M s t) (hS : Sub 0x1fc00000000001000000000008017d100000100038000000000740005fffff0000022000031383c00000000000000000002080000000003e0000008000000060404000018008800800000a6000001008f7000000000000000c0000b28000000200010003986800042009b6b7fc1c080000e0700440 S) (hM : Sub 0x23afffe M)
    (e : execUnitIsolate x1 x2 t = .next u) : Keeps S M s u := by
  obtain rfl := Host.Outcome.next.inj e
  refine State.notifyReview_keeps ?_ (hS.tr rfl) (hM.tr rfl)
  exact State.unitCtrl_keeps h (hS.tr rfl) (hM.tr rfl)

theorem execUnitOp_keeps {x1} (h : Keeps S M s t) (hS : Sub 0x1e000000000001000000000008017d100000100038000000000740005fffff0008022000031383c00000000000000000002080000000003e0000008000000060404000018008800800000a6000001008f7000000000000000c0000b28000000200010003986800042009b6b7fc1c080000e0700440 S) (hM : Sub 0x23afffe M)
    (e : execUnitOp x1 t = .next u) : Keeps S M s u := by
  obtain rfl := Host.Outcome.next.inj e
  refine State.notifyReview_keeps ?_ (hS.tr rfl) (hM.tr rfl)
  exact State.unitOpCmd_keeps h (hS.tr rfl) (hM.tr rfl)

theorem execUnitUnretire_keeps {x1 x2} (h : Keeps S M s t) (hS : Sub 0x1fc00000000001000000000008017d100000100038000000000740005fffff0000022000031383c00000000000000000002080000000003e0000008000000060404000018008800800000a6000001008f7000000000000000c0000b28000000200010003986800042009b6b7fc1c080000e0700440 S) (hM : Sub 0x23afffe M)
    (e : execUnitUnretire x1 x2 t = .next u) : Keeps S M s u := by
  obtain rfl := Host.Outcome.next.inj e
  refine State.notifyReview_keeps ?_ (hS.tr rfl) (hM.tr rfl)
  exact State.unitCtrl_keeps h (hS.tr rfl) (hM.tr rfl)

theorem execUnitRelease_keeps {x1 x2} (h : Keeps S M s t) (hS : Sub 0x1fc00000000001000000000008017d100000100038000000000740005fffff0000022000031383c00000000000000000002080000000003e0000008000000060404000018008800800000a6000001008f7000000000000000c0000b28000000200010003986800042009b6b7fc1c080000e0700440 S) (hM : Sub 0x23afffe M)
    (e : execUnitRelease x1 x2 t = .next u) : Keeps S M s u := by
  obtain rfl := Host.Outcome.next.inj e
  refine State.notifyReview_keeps ?_ (hS.tr rfl) (hM.tr rfl)
  exact State.unitCtrl_keeps h (hS.tr rfl) (hM.tr rfl)

theorem execUnitBackInService_keeps {x1} (h : Keeps S M s t) (hS : Sub 0x8017d10000010000000000000044000000000000002000000000000000000000000000000200000000000000000008000000060000000000000000800000a6000001008f7000000000000000000000000000000000000000000000000000000000000000000000000 S) (hM : Sub 0x230632e M)
    (e : execUnitBackInService x1 t = .next u) : Keeps S M s u := by
  obtain rfl := Host.Outcome.next.inj e
  refine State.notifyReview_keeps ?_ (hS.tr rfl) (hM.tr rfl)
  exact State.unitBack_keeps h (hS.tr rfl) (hM.tr rfl)

theorem execUnitReset_keeps {x1 x2} (h : Keeps S M s t) (hS : Sub 0x1fc00000000001000000000008017d100000100038000000000740005fffff0000022000031383c00000000000000000002080000000003e0000008000000060404000018008800800000a6000001008f7000000000000000c0000b28000000200010003986800042009b6b7fc1c080000e0700440 S) (hM : Sub 0x23afffe M)
    (e : execUnitReset x1 x2 t = .next u) : Keeps S M s u := by
  obtain rfl := Host.Outcome.next.inj e
  refine State.notifyReview_keeps ?_ (hS.tr rfl) (hM.tr rfl)
  exact State.unitCtrl_keeps h (hS.tr rfl) (hM.tr rfl)

end Sys2Proof.Machine
end

