-- ==== Sys2Proof/Laws/KeepsExec.lean ====
section
/-! SUPPORT. What every command keeps: the queue behind it, what had left the module, the canonical forms. -/

set_option Elab.async false

namespace Sys2Proof.Machine

/-- Every register field, and every part of the state, as masks. -/
abbrev allFields : Nat := 0x1ffffffffffffffffffffffffffffffffffffffffffffffffffffffffffffffffffffffffffffffffffffffffffffffffffffffffffffffffffffffffffffffffffffffffffffffffffffffffffffffffffffffffffffffffffffffffffffffffffffffffffffffffffffffffffffffffffffffffffffffffff
abbrev allParts : Nat := 0x7ffffff

theorem exec_keeps {c : Instr} {s t : State} (e : exec c s = .next t) : Keeps allFields allParts s t := by
  cases c with
  | registerWrite _ _ _ => exact execRegisterWrite_keeps (Keeps.refl _ _ _) (by rfl) e
  | commitTick => exact execCommitTick_keeps (Keeps.refl _ _ _) (by rfl) (by rfl) e
  | provisionalTick => exact execProvisionalTick_keeps (Keeps.refl _ _ _) (by rfl) (by rfl) e
  | provisionalEpoch => exact execProvisionalEpoch_keeps (Keeps.refl _ _ _) (by rfl) (by rfl) e
  | decisionEpoch => exact execDecisionEpoch_keeps (Keeps.refl _ _ _) (by rfl) (by rfl) e
  | epochMiss _ => exact execEpochMiss_keeps (Keeps.refl _ _ _) (by rfl) (by rfl) e
  | serviceEpoch => exact execServiceEpoch_keeps (Keeps.refl _ _ _) (by rfl) (by rfl) e
  | modelEpoch => exact execModelEpoch_keeps (Keeps.refl _ _ _) (by rfl) (by rfl) e
  | hourlyPoint => exact execHourlyPoint_keeps (Keeps.refl _ _ _) (by rfl) (by rfl) e
  | vfabUpdate _ _ => exact execVfabUpdate_keeps (Keeps.refl _ _ _) (by rfl) (by rfl) e
  | mergerRecordIn _ _ _ _ _ _ => exact execMergerRecordIn_keeps (Keeps.refl _ _ _) (by rfl) (by rfl) e
  | mergerRelease => exact execMergerRelease_keeps (Keeps.refl _ _ _) (by rfl) (by rfl) e
  | unitOp _ => exact execUnitOp_keeps (Keeps.refl _ _ _) (by rfl) (by rfl) e
  | unitReset _ _ => exact execUnitReset_keeps (Keeps.refl _ _ _) (by rfl) (by rfl) e
  | unitRetire _ _ => exact execUnitRetire_keeps (Keeps.refl _ _ _) (by rfl) (by rfl) e
  | unitIsolate _ _ => exact execUnitIsolate_keeps (Keeps.refl _ _ _) (by rfl) (by rfl) e
  | unitRelease _ _ => exact execUnitRelease_keeps (Keeps.refl _ _ _) (by rfl) (by rfl) e
  | unitUnretire _ _ => exact execUnitUnretire_keeps (Keeps.refl _ _ _) (by rfl) (by rfl) e
  | unitStatus _ _ => exact execUnitStatus_keeps (Keeps.refl _ _ _) (by rfl) (by rfl) e
  | unitBackInService _ => exact execUnitBackInService_keeps (Keeps.refl _ _ _) (by rfl) (by rfl) e
  | ownUnitReset => exact execOwnUnitReset_keeps (Keeps.refl _ _ _) (by rfl) (by rfl) e
  | announceToken _ _ => exact execAnnounceToken_keeps (Keeps.refl _ _ _) (by rfl) (by rfl) e
  | feedSample _ _ _ _ => exact execFeedSample_keeps (Keeps.refl _ _ _) (by rfl) (by rfl) e
  | feedQualified _ => exact execFeedQualified_keeps (Keeps.refl _ _ _) (by rfl) (by rfl) e
  | feedDropout _ => exact execFeedDropout_keeps (Keeps.refl _ _ _) (by rfl) e
  | feedUvFault _ => exact execFeedUvFault_keeps (Keeps.refl _ _ _) (by rfl) (by rfl) e
  | feedOv _ => exact execFeedOv_keeps (Keeps.refl _ _ _) (by rfl) (by rfl) e
  | feedOc _ => exact execFeedOc_keeps (Keeps.refl _ _ _) (by rfl) (by rfl) e
  | feedRecover _ => exact execFeedRecover_keeps (Keeps.refl _ _ _) (by rfl) (by rfl) e
  | feedTestA => exact execFeedTestA_keeps (Keeps.refl _ _ _) (by rfl) (by rfl) e
  | feedTestB => exact execFeedTestB_keeps (Keeps.refl _ _ _) (by rfl) (by rfl) e
  | feedTestPeriod => exact execFeedTestPeriod_keeps (Keeps.refl _ _ _) (by rfl) (by rfl) e
  | feedTestEnd _ _ => exact execFeedTestEnd_keeps (Keeps.refl _ _ _) (by rfl) (by rfl) e
  | feedTestFail _ => exact execFeedTestFail_keeps (Keeps.refl _ _ _) (by rfl) (by rfl) e
  | lastGasp _ _ => exact execLastGasp_keeps (Keeps.refl _ _ _) (by rfl) (by rfl) e
  | railOff => exact execRailOff_keeps (Keeps.refl _ _ _) (by rfl) (by rfl) e
  | railOffRestart _ => exact execRailOffRestart_keeps (Keeps.refl _ _ _) (by rfl) (by rfl) e
  | thermalSample _ _ _ _ _ _ => exact execThermalSample_keeps (Keeps.refl _ _ _) (by rfl) (by rfl) e
  | thermalTrip => exact execThermalTrip_keeps (Keeps.refl _ _ _) (by rfl) (by rfl) e
  | thermalRestart _ => exact execThermalRestart_keeps (Keeps.refl _ _ _) (by rfl) e
  | railFault _ _ => exact execRailFault_keeps (Keeps.refl _ _ _) (by rfl) (by rfl) e
  | vbatLow _ => exact execVbatLow_keeps (Keeps.refl _ _ _) (by rfl) (by rfl) e
  | porchPowerOn => exact execPorchPowerOn_keeps (Keeps.refl _ _ _) (by rfl) e
  | resetNLow _ => exact execResetNLow_keeps (Keeps.refl _ _ _) (by rfl) (by rfl) e
  | resetNRelease _ => exact execResetNRelease_keeps (Keeps.refl _ _ _) (by rfl) (by rfl) e
  | railsGood _ _ _ => exact execRailsGood_keeps (Keeps.refl _ _ _) (by rfl) (by rfl) e
  | bootReadDone => exact execBootReadDone_keeps (Keeps.refl _ _ _) (by rfl) (by rfl) e
  | pmbusPage _ => exact execPmbusPage_keeps (Keeps.refl _ _ _) (by rfl) e
  | pmbusCapability => exact execPmbusCapability_keeps (Keeps.refl _ _ _) (by rfl) e
  | pmbusStatusWord => exact execPmbusStatusWord_keeps (Keeps.refl _ _ _) (by rfl) e
  | pmbusStatusInput => exact execPmbusStatusInput_keeps (Keeps.refl _ _ _) (by rfl) e
  | pmbusStatusTemperature => exact execPmbusStatusTemperature_keeps (Keeps.refl _ _ _) (by rfl) e
  | pmbusReadVin => exact execPmbusReadVin_keeps (Keeps.refl _ _ _) (by rfl) e
  | pmbusReadIin => exact execPmbusReadIin_keeps (Keeps.refl _ _ _) (by rfl) e
  | pmbusReadTemperature1 => exact execPmbusReadTemperature1_keeps (Keeps.refl _ _ _) (by rfl) e
  | pmbusReadTemperature2 => exact execPmbusReadTemperature2_keeps (Keeps.refl _ _ _) (by rfl) e
  | pmbusReadTemperature3 => exact execPmbusReadTemperature3_keeps (Keeps.refl _ _ _) (by rfl) e
  | pmbusReadPin => exact execPmbusReadPin_keeps (Keeps.refl _ _ _) (by rfl) e
  | pmbusRevision => exact execPmbusRevision_keeps (Keeps.refl _ _ _) (by rfl) e
  | pmbusMfrId => exact execPmbusMfrId_keeps (Keeps.refl _ _ _) (by rfl) e
  | pmbusMfrModel => exact execPmbusMfrModel_keeps (Keeps.refl _ _ _) (by rfl) e
  | pmbusUnsupported => exact execPmbusUnsupported_keeps (Keeps.refl _ _ _) (by rfl) e
  | alertResponse => exact execAlertResponse_keeps (Keeps.refl _ _ _) (by rfl) e
  | oscAmplitudeTimeout _ => exact execOscAmplitudeTimeout_keeps (Keeps.refl _ _ _) (by rfl) (by rfl) e
  | oscCountDone _ _ => exact execOscCountDone_keeps (Keeps.refl _ _ _) (by rfl) (by rfl) e
  | ocxoTempSettled => exact execOcxoTempSettled_keeps (Keeps.refl _ _ _) (by rfl) e
  | ocxoWarm _ => exact execOcxoWarm_keeps (Keeps.refl _ _ _) (by rfl) (by rfl) e
  | ocxoWarmTimeout => exact execOcxoWarmTimeout_keeps (Keeps.refl _ _ _) (by rfl) (by rfl) e
  | clockMonWindow _ _ => exact execClockMonWindow_keeps (Keeps.refl _ _ _) (by rfl) (by rfl) e
  | clockMonMiss _ => exact execClockMonMiss_keeps (Keeps.refl _ _ _) (by rfl) (by rfl) e
  | baseMove => exact execBaseMove_keeps (Keeps.refl _ _ _) (by rfl) (by rfl) e
  | baseMoveEnd => exact execBaseMoveEnd_keeps (Keeps.refl _ _ _) (by rfl) (by rfl) e
  | muxSwitch _ _ => exact execMuxSwitch_keeps (Keeps.refl _ _ _) (by rfl) (by rfl) e
  | muxForced _ => exact execMuxForced_keeps (Keeps.refl _ _ _) (by rfl) (by rfl) e
  | muxStall _ => exact execMuxStall_keeps (Keeps.refl _ _ _) (by rfl) (by rfl) e
  | stage3HoldoffEnd => exact execStage3HoldoffEnd_keeps (Keeps.refl _ _ _) (by rfl) (by rfl) e
  | edgeStamp _ _ _ _ _ _ => exact execEdgeStamp_keeps (Keeps.refl _ _ _) (by rfl) (by rfl) e
  | stampDistribute _ => exact execStampDistribute_keeps (Keeps.refl _ _ _) (by rfl) (by rfl) e
  | calTableReady _ _ _ _ _ _ _ => exact execCalTableReady_keeps (Keeps.refl _ _ _) (by rfl) (by rfl) e
  | calValid _ => exact execCalValid_keeps (Keeps.refl _ _ _) (by rfl) (by rfl) e
  | calRescaleDone _ => exact execCalRescaleDone_keeps (Keeps.refl _ _ _) (by rfl) e
  | gateEnd _ => exact execGateEnd_keeps (Keeps.refl _ _ _) (by rfl) (by rfl) e
  | estimatePublish _ => exact execEstimatePublish_keeps (Keeps.refl _ _ _) (by rfl) (by rfl) e
  | estStart _ => exact execEstStart_keeps (Keeps.refl _ _ _) (by rfl) (by rfl) e
  | estStop _ => exact execEstStop_keeps (Keeps.refl _ _ _) (by rfl) (by rfl) e
  | takeArm _ => exact execTakeArm_keeps (Keeps.refl _ _ _) (by rfl) (by rfl) e
  | takeAbort _ => exact execTakeAbort_keeps (Keeps.refl _ _ _) (by rfl) (by rfl) e
  | gatePinEdge _ _ _ => exact execGatePinEdge_keeps (Keeps.refl _ _ _) (by rfl) (by rfl) e
  | takeGateEnd _ => exact execTakeGateEnd_keeps (Keeps.refl _ _ _) (by rfl) (by rfl) e
  | loopUpdate _ _ => exact execLoopUpdate_keeps (Keeps.refl _ _ _) (by rfl) (by rfl) e
  | missingEdge _ => exact execMissingEdge_keeps (Keeps.refl _ _ _) (by rfl) (by rfl) e
  | arrivalWindowMiss _ => exact execArrivalWindowMiss_keeps (Keeps.refl _ _ _) (by rfl) (by rfl) e
  | qualValidationEnd _ => exact execQualValidationEnd_keeps (Keeps.refl _ _ _) (by rfl) (by rfl) e
  | qualHoldoffEnd _ => exact execQualHoldoffEnd_keeps (Keeps.refl _ _ _) (by rfl) (by rfl) e
  | qualDetectResume => exact execQualDetectResume_keeps (Keeps.refl _ _ _) (by rfl) e
  | waitToRestoreEnd _ _ => exact execWaitToRestoreEnd_keeps (Keeps.refl _ _ _) (by rfl) e
  | buildoutComplete _ => exact execBuildoutComplete_keeps (Keeps.refl _ _ _) (by rfl) (by rfl) e
  | dpllLockTimer _ => exact execDpllLockTimer_keeps (Keeps.refl _ _ _) (by rfl) (by rfl) e
  | refAck _ => exact execRefAck_keeps (Keeps.refl _ _ _) (by rfl) (by rfl) e
  | refAckStep _ => exact execRefAckStep_keeps (Keeps.refl _ _ _) (by rfl) (by rfl) e
  | holdClear _ => exact execHoldClear_keeps (Keeps.refl _ _ _) (by rfl) (by rfl) e
  | synthCommitGo => exact execSynthCommitGo_keeps (Keeps.refl _ _ _) (by rfl) (by rfl) e
  | synthCommitValidate => exact execSynthCommitValidate_keeps (Keeps.refl _ _ _) (by rfl) (by rfl) e
  | synthRealign _ => exact execSynthRealign_keeps (Keeps.refl _ _ _) (by rfl) (by rfl) e
  | apllLock _ => exact execApllLock_keeps (Keeps.refl _ _ _) (by rfl) (by rfl) e
  | apllUnlock _ => exact execApllUnlock_keeps (Keeps.refl _ _ _) (by rfl) (by rfl) e
  | relockAttempt _ _ => exact execRelockAttempt_keeps (Keeps.refl _ _ _) (by rfl) e
  | baseUnlock => exact execBaseUnlock_keeps (Keeps.refl _ _ _) (by rfl) (by rfl) e
  | degradedIntervalEnd => exact execDegradedIntervalEnd_keeps (Keeps.refl _ _ _) (by rfl) (by rfl) e
  | shutterForce _ => exact execShutterForce_keeps (Keeps.refl _ _ _) (by rfl) e
  | shutterOpen _ => exact execShutterOpen_keeps (Keeps.refl _ _ _) (by rfl) (by rfl) e
  | phaseVerify => exact execPhaseVerify_keeps (Keeps.refl _ _ _) (by rfl) (by rfl) e
  | timeSet => exact execTimeSet_keeps (Keeps.refl _ _ _) (by rfl) (by rfl) e
  | timeStepRequest => exact execTimeStepRequest_keeps (Keeps.refl _ _ _) (by rfl) e
  | timeStep => exact execTimeStep_keeps (Keeps.refl _ _ _) (by rfl) (by rfl) e
  | timeVoteOne _ => exact execTimeVoteOne_keeps (Keeps.refl _ _ _) (by rfl) (by rfl) e
  | timeVoteNone => exact execTimeVoteNone_keeps (Keeps.refl _ _ _) (by rfl) (by rfl) e
  | counterStart _ _ _ => exact execCounterStart_keeps (Keeps.refl _ _ _) (by rfl) (by rfl) e
  | porchAnchor => exact execPorchAnchor_keeps (Keeps.refl _ _ _) (by rfl) (by rfl) e
  | leapSecond => exact execLeapSecond_keeps (Keeps.refl _ _ _) (by rfl) e
  | todMessageRx _ _ _ _ _ => exact execTodMessageRx_keeps (Keeps.refl _ _ _) (by rfl) (by rfl) e
  | todoSend _ => exact execTodoSend_keeps (Keeps.refl _ _ _) (by rfl) (by rfl) e
  | ppsPulse _ => exact execPpsPulse_keeps (Keeps.refl _ _ _) (by rfl) (by rfl) e
  | linkUp _ => exact execLinkUp_keeps (Keeps.refl _ _ _) (by rfl) (by rfl) e
  | linkDown _ _ => exact execLinkDown_keeps (Keeps.refl _ _ _) (by rfl) (by rfl) e
  | cdrLock _ => exact execCdrLock_keeps (Keeps.refl _ _ _) (by rfl) e
  | restartLink _ => exact execRestartLink_keeps (Keeps.refl _ _ _) (by rfl) (by rfl) e
  | restartEq _ => exact execRestartEq_keeps (Keeps.refl _ _ _) (by rfl) e
  | laneRefFallback _ => exact execLaneRefFallback_keeps (Keeps.refl _ _ _) (by rfl) (by rfl) e
  | laneRefReturn _ => exact execLaneRefReturn_keeps (Keeps.refl _ _ _) (by rfl) e
  | esmcRx _ => exact execEsmcRx_keeps (Keeps.refl _ _ _) (by rfl) (by rfl) e
  | esmcTx _ => exact execEsmcTx_keeps (Keeps.refl _ _ _) (by rfl) (by rfl) e
  | frameRx _ _ _ => exact execFrameRx_keeps (Keeps.refl _ _ _) (by rfl) (by rfl) e
  | frameTx _ _ => exact execFrameTx_keeps (Keeps.refl _ _ _) (by rfl) (by rfl) e
  | bridgeForward _ _ _ _ => exact execBridgeForward_keeps (Keeps.refl _ _ _) (by rfl) (by rfl) e
  | cueLaunch _ _ _ => exact execCueLaunch_keeps (Keeps.refl _ _ _) (by rfl) (by rfl) e
  | ptpSignalingRx _ => exact execPtpSignalingRx_keeps (Keeps.refl _ _ _) (by rfl) e
  | followUpSend _ => exact execFollowUpSend_keeps (Keeps.refl _ _ _) (by rfl) (by rfl) e
  | delayReqRx _ => exact execDelayReqRx_keeps (Keeps.refl _ _ _) (by rfl) (by rfl) e
  | pdelayReqRx _ _ => exact execPdelayReqRx_keeps (Keeps.refl _ _ _) (by rfl) (by rfl) e
  | managementRx _ => exact execManagementRx_keeps (Keeps.refl _ _ _) (by rfl) (by rfl) e
  | ntpRequestRx _ _ => exact execNtpRequestRx_keeps (Keeps.refl _ _ _) (by rfl) (by rfl) e
  | tblRead => exact execTblRead_keeps (Keeps.refl _ _ _) (by rfl) e
  | tblWrite => exact execTblWrite_keeps (Keeps.refl _ _ _) (by rfl) (by rfl) e
  | tblDelete => exact execTblDelete_keeps (Keeps.refl _ _ _) (by rfl) (by rfl) e
  | tblFind => exact execTblFind_keeps (Keeps.refl _ _ _) (by rfl) e
  | clientWindowAccess => exact execClientWindowAccess_keeps (Keeps.refl _ _ _) (by rfl) e
  | servoFrameRx _ => exact execServoFrameRx_keeps (Keeps.refl _ _ _) (by rfl) (by rfl) e
  | servoRenew _ _ => exact execServoRenew_keeps (Keeps.refl _ _ _) (by rfl) (by rfl) e
  | followUpTimeout _ => exact execFollowUpTimeout_keeps (Keeps.refl _ _ _) (by rfl) e
  | servoLost _ _ _ => exact execServoLost_keeps (Keeps.refl _ _ _) (by rfl) (by rfl) e
  | announceTimeout _ => exact execAnnounceTimeout_keeps (Keeps.refl _ _ _) (by rfl) e
  | perstN _ => exact execPerstN_keeps (Keeps.refl _ _ _) (by rfl) (by rfl) e
  | linkL0 _ _ => exact execLinkL0_keeps (Keeps.refl _ _ _) (by rfl) (by rfl) e
  | hostLinkDown => exact execHostLinkDown_keeps (Keeps.refl _ _ _) (by rfl) (by rfl) e
  | pf0Flr _ => exact execPf0Flr_keeps (Keeps.refl _ _ _) (by rfl) (by rfl) e
  | vfFlr _ => exact execVfFlr_keeps (Keeps.refl _ _ _) (by rfl) (by rfl) e
  | d3hotEntry => exact execD3hotEntry_keeps (Keeps.refl _ _ _) (by rfl) e
  | numVfsChange _ => exact execNumVfsChange_keeps (Keeps.refl _ _ _) (by rfl) (by rfl) e
  | doorbellProd _ _ _ => exact execDoorbellProd_keeps (Keeps.refl _ _ _) (by rfl) (by rfl) e
  | doorbellCons _ _ _ => exact execDoorbellCons_keeps (Keeps.refl _ _ _) (by rfl) (by rfl) e
  | doorbellConsArm _ _ _ => exact execDoorbellConsArm_keeps (Keeps.refl _ _ _) (by rfl) (by rfl) e
  | descriptorRelease _ _ => exact execDescriptorRelease_keeps (Keeps.refl _ _ _) (by rfl) (by rfl) e
  | descriptorFetchDone _ _ => exact execDescriptorFetchDone_keeps (Keeps.refl _ _ _) (by rfl) (by rfl) e
  | completionWrite _ => exact execCompletionWrite_keeps (Keeps.refl _ _ _) (by rfl) (by rfl) e
  | dmaError _ _ _ => exact execDmaError_keeps (Keeps.refl _ _ _) (by rfl) (by rfl) e
  | recordsFlush _ => exact execRecordsFlush_keeps (Keeps.refl _ _ _) (by rfl) (by rfl) e
  | msixModeration _ => exact execMsixModeration_keeps (Keeps.refl _ _ _) (by rfl) (by rfl) e
  | msixUnmask _ _ => exact execMsixUnmask_keeps (Keeps.refl _ _ _) (by rfl) (by rfl) e
  | timeSnapshot _ _ => exact execTimeSnapshot_keeps (Keeps.refl _ _ _) (by rfl) e
  | vfEvtReelEnable _ _ => exact execVfEvtReelEnable_keeps (Keeps.refl _ _ _) (by rfl) (by rfl) e
  | vfEvtCons _ _ => exact execVfEvtCons_keeps (Keeps.refl _ _ _) (by rfl) (by rfl) e
  | vfEvtConsArm _ _ => exact execVfEvtConsArm_keeps (Keeps.refl _ _ _) (by rfl) (by rfl) e
  | adminEnable _ _ => exact execAdminEnable_keeps (Keeps.refl _ _ _) (by rfl) (by rfl) e
  | negotiate _ => exact execNegotiate_keeps (Keeps.refl _ _ _) (by rfl) (by rfl) e
  | createReel _ => exact execCreateReel_keeps (Keeps.refl _ _ _) (by rfl) (by rfl) e
  | destroyReel _ => exact execDestroyReel_keeps (Keeps.refl _ _ _) (by rfl) (by rfl) e
  | setVector _ => exact execSetVector_keeps (Keeps.refl _ _ _) (by rfl) (by rfl) e
  | atticRead _ _ => exact execAtticRead_keeps (Keeps.refl _ _ _) (by rfl) (by rfl) e
  | atticWrite _ _ => exact execAtticWrite_keeps (Keeps.refl _ _ _) (by rfl) (by rfl) e
  | fullReset _ => exact execFullReset_keeps (Keeps.refl _ _ _) (by rfl) (by rfl) e
  | fullResetStart => exact execFullResetStart_keeps (Keeps.refl _ _ _) (by rfl) (by rfl) e
  | pairSwitch _ => exact execPairSwitch_keeps (Keeps.refl _ _ _) (by rfl) (by rfl) e
  | reelStatus _ => exact execReelStatus_keeps (Keeps.refl _ _ _) (by rfl) (by rfl) e
  | drainReel _ => exact execDrainReel_keeps (Keeps.refl _ _ _) (by rfl) (by rfl) e
  | drainTimeout _ => exact execDrainTimeout_keeps (Keeps.refl _ _ _) (by rfl) (by rfl) e
  | adminBadOpcode _ => exact execAdminBadOpcode_keeps (Keeps.refl _ _ _) (by rfl) (by rfl) e
  | claimInChange _ => exact execClaimInChange_keeps (Keeps.refl _ _ _) (by rfl) (by rfl) e
  | claimSlotDelayEnd => exact execClaimSlotDelayEnd_keeps (Keeps.refl _ _ _) (by rfl) (by rfl) e
  | claimConfirmEnd => exact execClaimConfirmEnd_keeps (Keeps.refl _ _ _) (by rfl) (by rfl) e
  | claimConflictHoldEnd => exact execClaimConflictHoldEnd_keeps (Keeps.refl _ _ _) (by rfl) (by rfl) e
  | reclaimHoldoffEnd => exact execReclaimHoldoffEnd_keeps (Keeps.refl _ _ _) (by rfl) (by rfl) e
  | hallwayLaneUp _ => exact execHallwayLaneUp_keeps (Keeps.refl _ _ _) (by rfl) (by rfl) e
  | hallwayLaneDown _ => exact execHallwayLaneDown_keeps (Keeps.refl _ _ _) (by rfl) (by rfl) e
  | helloTx => exact execHelloTx_keeps (Keeps.refl _ _ _) (by rfl) (by rfl) e
  | helloRx _ _ => exact execHelloRx_keeps (Keeps.refl _ _ _) (by rfl) (by rfl) e
  | heartbeatTx => exact execHeartbeatTx_keeps (Keeps.refl _ _ _) (by rfl) (by rfl) e
  | heartbeatRx _ _ => exact execHeartbeatRx_keeps (Keeps.refl _ _ _) (by rfl) (by rfl) e
  | heartbeatLost => exact execHeartbeatLost_keeps (Keeps.refl _ _ _) (by rfl) (by rfl) e
  | timeMsgRx _ _ => exact execTimeMsgRx_keeps (Keeps.refl _ _ _) (by rfl) (by rfl) e
  | tableSyncRx _ _ => exact execTableSyncRx_keeps (Keeps.refl _ _ _) (by rfl) (by rfl) e
  | cfgDigestRx _ _ => exact execCfgDigestRx_keeps (Keeps.refl _ _ _) (by rfl) (by rfl) e
  | standbyAligned => exact execStandbyAligned_keeps (Keeps.refl _ _ _) (by rfl) e
  | peerSwitchGo => exact execPeerSwitchGo_keeps (Keeps.refl _ _ _) (by rfl) (by rfl) e
  | peerSwitchForce _ => exact execPeerSwitchForce_keeps (Keeps.refl _ _ _) (by rfl) (by rfl) e
  | switchOfferRx _ _ _ => exact execSwitchOfferRx_keeps (Keeps.refl _ _ _) (by rfl) (by rfl) e
  | switchAcceptRx _ _ _ => exact execSwitchAcceptRx_keeps (Keeps.refl _ _ _) (by rfl) (by rfl) e
  | switchRefuseRx _ _ => exact execSwitchRefuseRx_keeps (Keeps.refl _ _ _) (by rfl) (by rfl) e
  | switchHandover => exact execSwitchHandover_keeps (Keeps.refl _ _ _) (by rfl) (by rfl) e
  | switchTimeout => exact execSwitchTimeout_keeps (Keeps.refl _ _ _) (by rfl) (by rfl) e
  | faultCause _ _ _ _ => exact execFaultCause_keeps (Keeps.refl _ _ _) (by rfl) (by rfl) e
  | faultWire _ _ _ => exact execFaultWire_keeps (Keeps.refl _ _ _) (by rfl) (by rfl) e
  | sramScrub _ _ => exact execSramScrub_keeps (Keeps.refl _ _ _) (by rfl) (by rfl) e
  | faultAck _ => exact execFaultAck_keeps (Keeps.refl _ _ _) (by rfl) e
  | graceExpiry _ => exact execGraceExpiry_keeps (Keeps.refl _ _ _) (by rfl) (by rfl) e
  | reactionOperation => exact execReactionOperation_keeps (Keeps.refl _ _ _) (by rfl) (by rfl) e
  | reactionComplete => exact execReactionComplete_keeps (Keeps.refl _ _ _) (by rfl) e
  | settleWindowEnd => exact execSettleWindowEnd_keeps (Keeps.refl _ _ _) (by rfl) e
  | errToggle => exact execErrToggle_keeps (Keeps.refl _ _ _) (by rfl) e
  | faultInject => exact execFaultInject_keeps (Keeps.refl _ _ _) (by rfl) (by rfl) e
  | faultInjectBreak _ => exact execFaultInjectBreak_keeps (Keeps.refl _ _ _) (by rfl) (by rfl) e
  | atticCommitDone _ _ => exact execAtticCommitDone_keeps (Keeps.refl _ _ _) (by rfl) (by rfl) e
  | atticMbRead => exact execAtticMbRead_keeps (Keeps.refl _ _ _) (by rfl) (by rfl) e
  | atticMbWrite => exact execAtticMbWrite_keeps (Keeps.refl _ _ _) (by rfl) (by rfl) e
  | atticMbRawRead => exact execAtticMbRawRead_keeps (Keeps.refl _ _ _) (by rfl) (by rfl) e
  | atticMbRawWrite => exact execAtticMbRawWrite_keeps (Keeps.refl _ _ _) (by rfl) (by rfl) e
  | logPageWrite => exact execLogPageWrite_keeps (Keeps.refl _ _ _) (by rfl) (by rfl) e
  | powerOnHour => exact execPowerOnHour_keeps (Keeps.refl _ _ _) (by rfl) (by rfl) e
  | atticScanPage _ _ _ => exact execAtticScanPage_keeps (Keeps.refl _ _ _) (by rfl) (by rfl) e
  | wideCapture _ _ _ => exact execWideCapture_keeps (Keeps.refl _ _ _) (by rfl) (by rfl) e
  | wideWrite _ _ _ => exact execWideWrite_keeps (Keeps.refl _ _ _) (by rfl) (by rfl) e
  | smbBlockWrite _ _ _ _ => exact execSmbBlockWrite_keeps (Keeps.refl _ _ _) (by rfl) (by rfl) e
  | smbBlockWriteMulti _ _ _ _ => exact execSmbBlockWriteMulti_keeps (Keeps.refl _ _ _) (by rfl) (by rfl) e
  | smbBlockRead _ _ _ => exact execSmbBlockRead_keeps (Keeps.refl _ _ _) (by rfl) (by rfl) e
  | smbBadCommand _ _ => exact execSmbBadCommand_keeps (Keeps.refl _ _ _) (by rfl) (by rfl) e
  | extest _ _ => exact execExtest_keeps (Keeps.refl _ _ _) (by rfl) (by rfl) e
  | samplePreload _ _ => exact execSamplePreload_keeps (Keeps.refl _ _ _) (by rfl) (by rfl) e
  | idcode => exact execIdcode_keeps (Keeps.refl _ _ _) (by rfl) (by rfl) e
  | regacc _ _ _ => exact execRegacc_keeps (Keeps.refl _ _ _) (by rfl) (by rfl) e
  | bypass _ _ => exact execBypass_keeps (Keeps.refl _ _ _) (by rfl) (by rfl) e
  | tapReset => exact execTapReset_keeps (Keeps.refl _ _ _) (by rfl) e
  | testModeEnter _ _ => exact execTestModeEnter_keeps (Keeps.refl _ _ _) (by rfl) (by rfl) e
  | fuseBlow _ => exact execFuseBlow_keeps (Keeps.refl _ _ _) (by rfl) e
  | fuseBlowDone => exact execFuseBlowDone_keeps (Keeps.refl _ _ _) (by rfl) (by rfl) e

end Sys2Proof.Machine
end

