-- ==== Sys2Proof/Laws/Frames.lean ====
section
/-! SUPPORT. From what an operation keeps (`Keeps`, in masks) to what a command changes (`Changes`, in lists). -/

set_option Elab.async false

namespace Sys2Proof

open Sys2Proof.Machine

/-- The mask of a list of register fields. -/
def fieldMask : List Fld → Nat
  | [] => 0
  | f :: l => 2 ^ f.id ||| fieldMask l

/-- The bit of a part in the masks of `Keeps`. -/
def Part.bit : Part → Nat
  | .cp => 0
  | .ev => 1
  | .flt => 2
  | .un => 3
  | .tm => 4
  | .pr => 5
  | .pw => 6
  | .ck => 7
  | .dp => 8
  | .at_ => 9
  | .td => 10
  | .ql => 11
  | .tr => 12
  | .sy => 13
  | .hs => 14
  | .po => 15
  | .sv => 16
  | .pk => 17
  | .id_ => 18
  | .ep => 19
  | .out => 20
  | .freeCtr => 21
  | .recs => 23
  | .staging => 24
  | .bytes => 25
  | .archive => 26

/-- The mask of a list of parts. -/
def partMask : List Part → Nat
  | [] => 0
  | p :: l => 2 ^ p.bit ||| partMask l

theorem fieldMask_testBit (l : List Fld) (k : Nat) (h : ∀ g ∈ l, g.id ≠ k) : (fieldMask l).testBit k = false := by
  induction l with
  | nil => simp [fieldMask]
  | cons f r ih =>
    have h1 : f.id ≠ k := h f (by simp)
    rw [fieldMask, Nat.testBit_or, ih fun g hg => h g (by simp [hg]), Nat.testBit_two_pow_of_ne h1]
    rfl

theorem Part.bit_inj (p q : Part) (h : p.bit = q.bit) : p = q := by
  cases p <;> cases q <;> first | rfl | (exact absurd h (by decide))

theorem partMask_testBit (l : List Part) (p : Part) (h : p ∉ l) : (partMask l).testBit p.bit = false := by
  induction l with
  | nil => simp [partMask]
  | cons q r ih =>
    have h1 : q.bit ≠ p.bit := fun e => h (by rw [Part.bit_inj q p e]; exact List.mem_cons_self)
    rw [partMask, Nat.testBit_or, ih fun g => h (List.mem_cons_of_mem _ g), Nat.testBit_two_pow_of_ne h1]
    rfl

theorem partMask_regs (l : List Part) : (partMask l).testBit 22 = false := by
  induction l with
  | nil => simp [partMask]
  | cons q r ih =>
    have h1 : q.bit ≠ 22 := by cases q <;> decide
    rw [partMask, Nat.testBit_or, ih, Nat.testBit_two_pow_of_ne h1]
    rfl

/-- A part whose bit is not in the mask is the same. -/
theorem Changes.part {S M : Nat} {s t : State} (h : Keeps S M s t) (p : Part) (b : M.testBit p.bit = false) : p.same s t := by
  cases p
  · exact h.cp b
  · exact h.ev b
  · exact h.flt b
  · exact h.un b
  · exact h.tm b
  · exact h.pr b
  · exact h.pw b
  · exact h.ck b
  · exact h.dp b
  · exact h.at_ b
  · exact h.td b
  · exact h.ql b
  · exact h.tr b
  · exact h.sy b
  · exact h.hs b
  · exact h.po b
  · exact h.sv b
  · exact h.pk b
  · exact h.id_ b
  · exact h.ep b
  · exact h.out b
  · exact h.freeCtr b
  · exact h.recs b
  · exact h.arch b
  · exact h.stg b
  · exact fun a => by rw [h.bytes b]

/-- What an operation keeps, as what it changes: the masks of `Keeps` taken as the masks of the lists
(the two `Sub` conditions on closed masks of a `…_keeps` lemma are closed by `by decide +kernel`). -/
theorem Changes.of_keeps {l : List Fld} {ps : List Part} {s t : State} (h : Keeps (fieldMask l) (partMask ps) s t) :
    Changes l ps s t := by
  exact ⟨fun f i hf => h.rd f i (partMask_regs ps) (fieldMask_testBit l f.id hf), fun p hp => Changes.part h p (partMask_testBit ps p hp)⟩

end Sys2Proof
end

