-- ==== Sys2Proof/Laws/State.lean ====
section
/-! SUPPORT. The named updates of the state, field by field: what each leaves is left by definition; what is written is read
back. -/

set_option Elab.async false

namespace Sys2Proof.Machine

/-! Register fields. -/

theorem Fld.key_ne {f g : Fld} (h : f.id ≠ g.id) (i j : Nat) : f.key i ≠ g.key j := by unfold Fld.key; omega

theorem Fld.key_ne_idx (f : Fld) {i j : Nat} (h : i % 65536 ≠ j % 65536) : f.key i ≠ f.key j := by unfold Fld.key; omega

/-- A field written reads the value, cut to its width. -/
@[simp] theorem State.rd_wr_self (s : State) (f : Fld) (i v : Nat) : (s.wr f i v).rd f i = v % 2 ^ f.width :=
  Tab.at_set_self _ _ _ _

/-- A write leaves every other field. -/
theorem State.rd_wr_ne (s : State) {f g : Fld} (h : g.id ≠ f.id) (i j v : Nat) : (s.wr f i v).rd g j = s.rd g j :=
  Tab.at_set_ne _ _ _ _ (Fld.key_ne h j i)

/-- A write leaves the field's other indices. -/
theorem State.rd_wr_idx (s : State) (f : Fld) {i j : Nat} (h : j % 65536 ≠ i % 65536) (v : Nat) :
    (s.wr f i v).rd f j = s.rd f j := Tab.at_set_ne _ _ _ _ (Fld.key_ne_idx f h)

/-- Fields are read from the register table alone. -/
theorem State.rd_congr {s t : State} (h : t.regs = s.regs) (f : Fld) (i : Nat) : t.rd f i = s.rd f i := by
  unfold State.rd; rw [h]

/-! What each named update leaves. -/

@[simp] theorem State.wr_cp (s : State) (f : Fld) (i v : Nat) : (s.wr f i v).cp = s.cp := (rfl)
@[simp] theorem State.wr_ev (s : State) (f : Fld) (i v : Nat) : (s.wr f i v).ev = s.ev := (rfl)
@[simp] theorem State.wr_flt (s : State) (f : Fld) (i v : Nat) : (s.wr f i v).flt = s.flt := (rfl)
@[simp] theorem State.wr_un (s : State) (f : Fld) (i v : Nat) : (s.wr f i v).un = s.un := (rfl)
@[simp] theorem State.wr_tm (s : State) (f : Fld) (i v : Nat) : (s.wr f i v).tm = s.tm := (rfl)
@[simp] theorem State.wr_pr (s : State) (f : Fld) (i v : Nat) : (s.wr f i v).pr = s.pr := (rfl)
@[simp] theorem State.wr_pw (s : State) (f : Fld) (i v : Nat) : (s.wr f i v).pw = s.pw := (rfl)
@[simp] theorem State.wr_ck (s : State) (f : Fld) (i v : Nat) : (s.wr f i v).ck = s.ck := (rfl)
@[simp] theorem State.wr_dp (s : State) (f : Fld) (i v : Nat) : (s.wr f i v).dp = s.dp := (rfl)
@[simp] theorem State.wr_at_ (s : State) (f : Fld) (i v : Nat) : (s.wr f i v).at_ = s.at_ := (rfl)
@[simp] theorem State.wr_td (s : State) (f : Fld) (i v : Nat) : (s.wr f i v).td = s.td := (rfl)
@[simp] theorem State.wr_ql (s : State) (f : Fld) (i v : Nat) : (s.wr f i v).ql = s.ql := (rfl)
@[simp] theorem State.wr_tr (s : State) (f : Fld) (i v : Nat) : (s.wr f i v).tr = s.tr := (rfl)
@[simp] theorem State.wr_sy (s : State) (f : Fld) (i v : Nat) : (s.wr f i v).sy = s.sy := (rfl)
@[simp] theorem State.wr_hs (s : State) (f : Fld) (i v : Nat) : (s.wr f i v).hs = s.hs := (rfl)
@[simp] theorem State.wr_po (s : State) (f : Fld) (i v : Nat) : (s.wr f i v).po = s.po := (rfl)
@[simp] theorem State.wr_sv (s : State) (f : Fld) (i v : Nat) : (s.wr f i v).sv = s.sv := (rfl)
@[simp] theorem State.wr_pk (s : State) (f : Fld) (i v : Nat) : (s.wr f i v).pk = s.pk := (rfl)
@[simp] theorem State.wr_id_ (s : State) (f : Fld) (i v : Nat) : (s.wr f i v).id_ = s.id_ := (rfl)
@[simp] theorem State.wr_ep (s : State) (f : Fld) (i v : Nat) : (s.wr f i v).ep = s.ep := (rfl)
@[simp] theorem State.wr_out (s : State) (f : Fld) (i v : Nat) : (s.wr f i v).out = s.out := (rfl)
@[simp] theorem State.wr_freeCtr (s : State) (f : Fld) (i v : Nat) : (s.wr f i v).freeCtr = s.freeCtr := (rfl)
@[simp] theorem State.wr_pending (s : State) (f : Fld) (i v : Nat) : (s.wr f i v).pending = s.pending := (rfl)

@[simp] theorem State.emitOut_regs (s : State) (o : Out) : (s.emitOut o).regs = s.regs := (rfl)
@[simp] theorem State.emitOut_cp (s : State) (o : Out) : (s.emitOut o).cp = s.cp := (rfl)
@[simp] theorem State.emitOut_ev (s : State) (o : Out) : (s.emitOut o).ev = s.ev := (rfl)
@[simp] theorem State.emitOut_flt (s : State) (o : Out) : (s.emitOut o).flt = s.flt := (rfl)
@[simp] theorem State.emitOut_un (s : State) (o : Out) : (s.emitOut o).un = s.un := (rfl)
@[simp] theorem State.emitOut_tm (s : State) (o : Out) : (s.emitOut o).tm = s.tm := (rfl)
@[simp] theorem State.emitOut_pr (s : State) (o : Out) : (s.emitOut o).pr = s.pr := (rfl)
@[simp] theorem State.emitOut_pw (s : State) (o : Out) : (s.emitOut o).pw = s.pw := (rfl)
@[simp] theorem State.emitOut_ck (s : State) (o : Out) : (s.emitOut o).ck = s.ck := (rfl)
@[simp] theorem State.emitOut_dp (s : State) (o : Out) : (s.emitOut o).dp = s.dp := (rfl)
@[simp] theorem State.emitOut_at_ (s : State) (o : Out) : (s.emitOut o).at_ = s.at_ := (rfl)
@[simp] theorem State.emitOut_td (s : State) (o : Out) : (s.emitOut o).td = s.td := (rfl)
@[simp] theorem State.emitOut_ql (s : State) (o : Out) : (s.emitOut o).ql = s.ql := (rfl)
@[simp] theorem State.emitOut_tr (s : State) (o : Out) : (s.emitOut o).tr = s.tr := (rfl)
@[simp] theorem State.emitOut_sy (s : State) (o : Out) : (s.emitOut o).sy = s.sy := (rfl)
@[simp] theorem State.emitOut_hs (s : State) (o : Out) : (s.emitOut o).hs = s.hs := (rfl)
@[simp] theorem State.emitOut_po (s : State) (o : Out) : (s.emitOut o).po = s.po := (rfl)
@[simp] theorem State.emitOut_sv (s : State) (o : Out) : (s.emitOut o).sv = s.sv := (rfl)
@[simp] theorem State.emitOut_pk (s : State) (o : Out) : (s.emitOut o).pk = s.pk := (rfl)
@[simp] theorem State.emitOut_id_ (s : State) (o : Out) : (s.emitOut o).id_ = s.id_ := (rfl)
@[simp] theorem State.emitOut_ep (s : State) (o : Out) : (s.emitOut o).ep = s.ep := (rfl)
@[simp] theorem State.emitOut_freeCtr (s : State) (o : Out) : (s.emitOut o).freeCtr = s.freeCtr := (rfl)
@[simp] theorem State.emitOut_pending (s : State) (o : Out) : (s.emitOut o).pending = s.pending := (rfl)
@[simp] theorem State.emitOut_rd (s : State) (o : Out) (g : Fld) (j : Nat) : (s.emitOut o).rd g j = s.rd g j := (rfl)

@[simp] theorem State.drawn_regs (s : State) : (s.drawn).regs = s.regs := (rfl)
@[simp] theorem State.drawn_cp (s : State) : (s.drawn).cp = s.cp := (rfl)
@[simp] theorem State.drawn_ev (s : State) : (s.drawn).ev = s.ev := (rfl)
@[simp] theorem State.drawn_flt (s : State) : (s.drawn).flt = s.flt := (rfl)
@[simp] theorem State.drawn_un (s : State) : (s.drawn).un = s.un := (rfl)
@[simp] theorem State.drawn_tm (s : State) : (s.drawn).tm = s.tm := (rfl)
@[simp] theorem State.drawn_pr (s : State) : (s.drawn).pr = s.pr := (rfl)
@[simp] theorem State.drawn_pw (s : State) : (s.drawn).pw = s.pw := (rfl)
@[simp] theorem State.drawn_ck (s : State) : (s.drawn).ck = s.ck := (rfl)
@[simp] theorem State.drawn_dp (s : State) : (s.drawn).dp = s.dp := (rfl)
@[simp] theorem State.drawn_at_ (s : State) : (s.drawn).at_ = s.at_ := (rfl)
@[simp] theorem State.drawn_td (s : State) : (s.drawn).td = s.td := (rfl)
@[simp] theorem State.drawn_ql (s : State) : (s.drawn).ql = s.ql := (rfl)
@[simp] theorem State.drawn_tr (s : State) : (s.drawn).tr = s.tr := (rfl)
@[simp] theorem State.drawn_sy (s : State) : (s.drawn).sy = s.sy := (rfl)
@[simp] theorem State.drawn_hs (s : State) : (s.drawn).hs = s.hs := (rfl)
@[simp] theorem State.drawn_po (s : State) : (s.drawn).po = s.po := (rfl)
@[simp] theorem State.drawn_sv (s : State) : (s.drawn).sv = s.sv := (rfl)
@[simp] theorem State.drawn_pk (s : State) : (s.drawn).pk = s.pk := (rfl)
@[simp] theorem State.drawn_id_ (s : State) : (s.drawn).id_ = s.id_ := (rfl)
@[simp] theorem State.drawn_ep (s : State) : (s.drawn).ep = s.ep := (rfl)
@[simp] theorem State.drawn_out (s : State) : (s.drawn).out = s.out := (rfl)
@[simp] theorem State.drawn_pending (s : State) : (s.drawn).pending = s.pending := (rfl)
@[simp] theorem State.drawn_rd (s : State) (g : Fld) (j : Nat) : (s.drawn).rd g j = s.rd g j := (rfl)

@[simp] theorem State.setDpll_regs (s : State) (d : Nat) (p : DpllSt) : (s.setDpll d p).regs = s.regs := (rfl)
@[simp] theorem State.setDpll_cp (s : State) (d : Nat) (p : DpllSt) : (s.setDpll d p).cp = s.cp := (rfl)
@[simp] theorem State.setDpll_ev (s : State) (d : Nat) (p : DpllSt) : (s.setDpll d p).ev = s.ev := (rfl)
@[simp] theorem State.setDpll_flt (s : State) (d : Nat) (p : DpllSt) : (s.setDpll d p).flt = s.flt := (rfl)
@[simp] theorem State.setDpll_un (s : State) (d : Nat) (p : DpllSt) : (s.setDpll d p).un = s.un := (rfl)
@[simp] theorem State.setDpll_tm (s : State) (d : Nat) (p : DpllSt) : (s.setDpll d p).tm = s.tm := (rfl)
@[simp] theorem State.setDpll_pr (s : State) (d : Nat) (p : DpllSt) : (s.setDpll d p).pr = s.pr := (rfl)
@[simp] theorem State.setDpll_pw (s : State) (d : Nat) (p : DpllSt) : (s.setDpll d p).pw = s.pw := (rfl)
@[simp] theorem State.setDpll_ck (s : State) (d : Nat) (p : DpllSt) : (s.setDpll d p).ck = s.ck := (rfl)
@[simp] theorem State.setDpll_at_ (s : State) (d : Nat) (p : DpllSt) : (s.setDpll d p).at_ = s.at_ := (rfl)
@[simp] theorem State.setDpll_td (s : State) (d : Nat) (p : DpllSt) : (s.setDpll d p).td = s.td := (rfl)
@[simp] theorem State.setDpll_ql (s : State) (d : Nat) (p : DpllSt) : (s.setDpll d p).ql = s.ql := (rfl)
@[simp] theorem State.setDpll_tr (s : State) (d : Nat) (p : DpllSt) : (s.setDpll d p).tr = s.tr := (rfl)
@[simp] theorem State.setDpll_sy (s : State) (d : Nat) (p : DpllSt) : (s.setDpll d p).sy = s.sy := (rfl)
@[simp] theorem State.setDpll_hs (s : State) (d : Nat) (p : DpllSt) : (s.setDpll d p).hs = s.hs := (rfl)
@[simp] theorem State.setDpll_po (s : State) (d : Nat) (p : DpllSt) : (s.setDpll d p).po = s.po := (rfl)
@[simp] theorem State.setDpll_sv (s : State) (d : Nat) (p : DpllSt) : (s.setDpll d p).sv = s.sv := (rfl)
@[simp] theorem State.setDpll_pk (s : State) (d : Nat) (p : DpllSt) : (s.setDpll d p).pk = s.pk := (rfl)
@[simp] theorem State.setDpll_id_ (s : State) (d : Nat) (p : DpllSt) : (s.setDpll d p).id_ = s.id_ := (rfl)
@[simp] theorem State.setDpll_ep (s : State) (d : Nat) (p : DpllSt) : (s.setDpll d p).ep = s.ep := (rfl)
@[simp] theorem State.setDpll_out (s : State) (d : Nat) (p : DpllSt) : (s.setDpll d p).out = s.out := (rfl)
@[simp] theorem State.setDpll_freeCtr (s : State) (d : Nat) (p : DpllSt) : (s.setDpll d p).freeCtr = s.freeCtr := (rfl)
@[simp] theorem State.setDpll_pending (s : State) (d : Nat) (p : DpllSt) : (s.setDpll d p).pending = s.pending := (rfl)
@[simp] theorem State.setDpll_rd (s : State) (d : Nat) (p : DpllSt) (g : Fld) (j : Nat) : (s.setDpll d p).rd g j = s.rd g j := (rfl)

@[simp] theorem State.putReel_regs (s : State) (r : Nat) (x : Reel) : (s.putReel r x).regs = s.regs := (rfl)
@[simp] theorem State.putReel_cp (s : State) (r : Nat) (x : Reel) : (s.putReel r x).cp = s.cp := (rfl)
@[simp] theorem State.putReel_ev (s : State) (r : Nat) (x : Reel) : (s.putReel r x).ev = s.ev := (rfl)
@[simp] theorem State.putReel_flt (s : State) (r : Nat) (x : Reel) : (s.putReel r x).flt = s.flt := (rfl)
@[simp] theorem State.putReel_un (s : State) (r : Nat) (x : Reel) : (s.putReel r x).un = s.un := (rfl)
@[simp] theorem State.putReel_tm (s : State) (r : Nat) (x : Reel) : (s.putReel r x).tm = s.tm := (rfl)
@[simp] theorem State.putReel_pr (s : State) (r : Nat) (x : Reel) : (s.putReel r x).pr = s.pr := (rfl)
@[simp] theorem State.putReel_pw (s : State) (r : Nat) (x : Reel) : (s.putReel r x).pw = s.pw := (rfl)
@[simp] theorem State.putReel_ck (s : State) (r : Nat) (x : Reel) : (s.putReel r x).ck = s.ck := (rfl)
@[simp] theorem State.putReel_dp (s : State) (r : Nat) (x : Reel) : (s.putReel r x).dp = s.dp := (rfl)
@[simp] theorem State.putReel_at_ (s : State) (r : Nat) (x : Reel) : (s.putReel r x).at_ = s.at_ := (rfl)
@[simp] theorem State.putReel_td (s : State) (r : Nat) (x : Reel) : (s.putReel r x).td = s.td := (rfl)
@[simp] theorem State.putReel_ql (s : State) (r : Nat) (x : Reel) : (s.putReel r x).ql = s.ql := (rfl)
@[simp] theorem State.putReel_tr (s : State) (r : Nat) (x : Reel) : (s.putReel r x).tr = s.tr := (rfl)
@[simp] theorem State.putReel_sy (s : State) (r : Nat) (x : Reel) : (s.putReel r x).sy = s.sy := (rfl)
@[simp] theorem State.putReel_po (s : State) (r : Nat) (x : Reel) : (s.putReel r x).po = s.po := (rfl)
@[simp] theorem State.putReel_sv (s : State) (r : Nat) (x : Reel) : (s.putReel r x).sv = s.sv := (rfl)
@[simp] theorem State.putReel_pk (s : State) (r : Nat) (x : Reel) : (s.putReel r x).pk = s.pk := (rfl)
@[simp] theorem State.putReel_id_ (s : State) (r : Nat) (x : Reel) : (s.putReel r x).id_ = s.id_ := (rfl)
@[simp] theorem State.putReel_ep (s : State) (r : Nat) (x : Reel) : (s.putReel r x).ep = s.ep := (rfl)
@[simp] theorem State.putReel_out (s : State) (r : Nat) (x : Reel) : (s.putReel r x).out = s.out := (rfl)
@[simp] theorem State.putReel_freeCtr (s : State) (r : Nat) (x : Reel) : (s.putReel r x).freeCtr = s.freeCtr := (rfl)
@[simp] theorem State.putReel_pending (s : State) (r : Nat) (x : Reel) : (s.putReel r x).pending = s.pending := (rfl)
@[simp] theorem State.putReel_rd (s : State) (r : Nat) (x : Reel) (g : Fld) (j : Nat) : (s.putReel r x).rd g j = s.rd g j := (rfl)

@[simp] theorem State.setChan_regs (s : State) (c : Nat) (x : ChanSt) : (s.setChan c x).regs = s.regs := (rfl)
@[simp] theorem State.setChan_cp (s : State) (c : Nat) (x : ChanSt) : (s.setChan c x).cp = s.cp := (rfl)
@[simp] theorem State.setChan_ev (s : State) (c : Nat) (x : ChanSt) : (s.setChan c x).ev = s.ev := (rfl)
@[simp] theorem State.setChan_flt (s : State) (c : Nat) (x : ChanSt) : (s.setChan c x).flt = s.flt := (rfl)
@[simp] theorem State.setChan_un (s : State) (c : Nat) (x : ChanSt) : (s.setChan c x).un = s.un := (rfl)
@[simp] theorem State.setChan_tm (s : State) (c : Nat) (x : ChanSt) : (s.setChan c x).tm = s.tm := (rfl)
@[simp] theorem State.setChan_pr (s : State) (c : Nat) (x : ChanSt) : (s.setChan c x).pr = s.pr := (rfl)
@[simp] theorem State.setChan_pw (s : State) (c : Nat) (x : ChanSt) : (s.setChan c x).pw = s.pw := (rfl)
@[simp] theorem State.setChan_ck (s : State) (c : Nat) (x : ChanSt) : (s.setChan c x).ck = s.ck := (rfl)
@[simp] theorem State.setChan_dp (s : State) (c : Nat) (x : ChanSt) : (s.setChan c x).dp = s.dp := (rfl)
@[simp] theorem State.setChan_at_ (s : State) (c : Nat) (x : ChanSt) : (s.setChan c x).at_ = s.at_ := (rfl)
@[simp] theorem State.setChan_ql (s : State) (c : Nat) (x : ChanSt) : (s.setChan c x).ql = s.ql := (rfl)
@[simp] theorem State.setChan_tr (s : State) (c : Nat) (x : ChanSt) : (s.setChan c x).tr = s.tr := (rfl)
@[simp] theorem State.setChan_sy (s : State) (c : Nat) (x : ChanSt) : (s.setChan c x).sy = s.sy := (rfl)
@[simp] theorem State.setChan_hs (s : State) (c : Nat) (x : ChanSt) : (s.setChan c x).hs = s.hs := (rfl)
@[simp] theorem State.setChan_po (s : State) (c : Nat) (x : ChanSt) : (s.setChan c x).po = s.po := (rfl)
@[simp] theorem State.setChan_sv (s : State) (c : Nat) (x : ChanSt) : (s.setChan c x).sv = s.sv := (rfl)
@[simp] theorem State.setChan_pk (s : State) (c : Nat) (x : ChanSt) : (s.setChan c x).pk = s.pk := (rfl)
@[simp] theorem State.setChan_id_ (s : State) (c : Nat) (x : ChanSt) : (s.setChan c x).id_ = s.id_ := (rfl)
@[simp] theorem State.setChan_ep (s : State) (c : Nat) (x : ChanSt) : (s.setChan c x).ep = s.ep := (rfl)
@[simp] theorem State.setChan_out (s : State) (c : Nat) (x : ChanSt) : (s.setChan c x).out = s.out := (rfl)
@[simp] theorem State.setChan_freeCtr (s : State) (c : Nat) (x : ChanSt) : (s.setChan c x).freeCtr = s.freeCtr := (rfl)
@[simp] theorem State.setChan_pending (s : State) (c : Nat) (x : ChanSt) : (s.setChan c x).pending = s.pending := (rfl)
@[simp] theorem State.setChan_rd (s : State) (c : Nat) (x : ChanSt) (g : Fld) (j : Nat) : (s.setChan c x).rd g j = s.rd g j := (rfl)

@[simp] theorem State.setEst_regs (s : State) (e : Nat) (x : EstSt) : (s.setEst e x).regs = s.regs := (rfl)
@[simp] theorem State.setEst_cp (s : State) (e : Nat) (x : EstSt) : (s.setEst e x).cp = s.cp := (rfl)
@[simp] theorem State.setEst_ev (s : State) (e : Nat) (x : EstSt) : (s.setEst e x).ev = s.ev := (rfl)
@[simp] theorem State.setEst_flt (s : State) (e : Nat) (x : EstSt) : (s.setEst e x).flt = s.flt := (rfl)
@[simp] theorem State.setEst_un (s : State) (e : Nat) (x : EstSt) : (s.setEst e x).un = s.un := (rfl)
@[simp] theorem State.setEst_tm (s : State) (e : Nat) (x : EstSt) : (s.setEst e x).tm = s.tm := (rfl)
@[simp] theorem State.setEst_pr (s : State) (e : Nat) (x : EstSt) : (s.setEst e x).pr = s.pr := (rfl)
@[simp] theorem State.setEst_pw (s : State) (e : Nat) (x : EstSt) : (s.setEst e x).pw = s.pw := (rfl)
@[simp] theorem State.setEst_ck (s : State) (e : Nat) (x : EstSt) : (s.setEst e x).ck = s.ck := (rfl)
@[simp] theorem State.setEst_dp (s : State) (e : Nat) (x : EstSt) : (s.setEst e x).dp = s.dp := (rfl)
@[simp] theorem State.setEst_at_ (s : State) (e : Nat) (x : EstSt) : (s.setEst e x).at_ = s.at_ := (rfl)
@[simp] theorem State.setEst_ql (s : State) (e : Nat) (x : EstSt) : (s.setEst e x).ql = s.ql := (rfl)
@[simp] theorem State.setEst_tr (s : State) (e : Nat) (x : EstSt) : (s.setEst e x).tr = s.tr := (rfl)
@[simp] theorem State.setEst_sy (s : State) (e : Nat) (x : EstSt) : (s.setEst e x).sy = s.sy := (rfl)
@[simp] theorem State.setEst_hs (s : State) (e : Nat) (x : EstSt) : (s.setEst e x).hs = s.hs := (rfl)
@[simp] theorem State.setEst_po (s : State) (e : Nat) (x : EstSt) : (s.setEst e x).po = s.po := (rfl)
@[simp] theorem State.setEst_sv (s : State) (e : Nat) (x : EstSt) : (s.setEst e x).sv = s.sv := (rfl)
@[simp] theorem State.setEst_pk (s : State) (e : Nat) (x : EstSt) : (s.setEst e x).pk = s.pk := (rfl)
@[simp] theorem State.setEst_id_ (s : State) (e : Nat) (x : EstSt) : (s.setEst e x).id_ = s.id_ := (rfl)
@[simp] theorem State.setEst_ep (s : State) (e : Nat) (x : EstSt) : (s.setEst e x).ep = s.ep := (rfl)
@[simp] theorem State.setEst_out (s : State) (e : Nat) (x : EstSt) : (s.setEst e x).out = s.out := (rfl)
@[simp] theorem State.setEst_freeCtr (s : State) (e : Nat) (x : EstSt) : (s.setEst e x).freeCtr = s.freeCtr := (rfl)
@[simp] theorem State.setEst_pending (s : State) (e : Nat) (x : EstSt) : (s.setEst e x).pending = s.pending := (rfl)
@[simp] theorem State.setEst_rd (s : State) (e : Nat) (x : EstSt) (g : Fld) (j : Nat) : (s.setEst e x).rd g j = s.rd g j := (rfl)

@[simp] theorem State.setTake_regs (s : State) (k : Nat) (x : TakeSt) : (s.setTake k x).regs = s.regs := (rfl)
@[simp] theorem State.setTake_cp (s : State) (k : Nat) (x : TakeSt) : (s.setTake k x).cp = s.cp := (rfl)
@[simp] theorem State.setTake_ev (s : State) (k : Nat) (x : TakeSt) : (s.setTake k x).ev = s.ev := (rfl)
@[simp] theorem State.setTake_flt (s : State) (k : Nat) (x : TakeSt) : (s.setTake k x).flt = s.flt := (rfl)
@[simp] theorem State.setTake_un (s : State) (k : Nat) (x : TakeSt) : (s.setTake k x).un = s.un := (rfl)
@[simp] theorem State.setTake_tm (s : State) (k : Nat) (x : TakeSt) : (s.setTake k x).tm = s.tm := (rfl)
@[simp] theorem State.setTake_pr (s : State) (k : Nat) (x : TakeSt) : (s.setTake k x).pr = s.pr := (rfl)
@[simp] theorem State.setTake_pw (s : State) (k : Nat) (x : TakeSt) : (s.setTake k x).pw = s.pw := (rfl)
@[simp] theorem State.setTake_ck (s : State) (k : Nat) (x : TakeSt) : (s.setTake k x).ck = s.ck := (rfl)
@[simp] theorem State.setTake_dp (s : State) (k : Nat) (x : TakeSt) : (s.setTake k x).dp = s.dp := (rfl)
@[simp] theorem State.setTake_at_ (s : State) (k : Nat) (x : TakeSt) : (s.setTake k x).at_ = s.at_ := (rfl)
@[simp] theorem State.setTake_ql (s : State) (k : Nat) (x : TakeSt) : (s.setTake k x).ql = s.ql := (rfl)
@[simp] theorem State.setTake_tr (s : State) (k : Nat) (x : TakeSt) : (s.setTake k x).tr = s.tr := (rfl)
@[simp] theorem State.setTake_sy (s : State) (k : Nat) (x : TakeSt) : (s.setTake k x).sy = s.sy := (rfl)
@[simp] theorem State.setTake_hs (s : State) (k : Nat) (x : TakeSt) : (s.setTake k x).hs = s.hs := (rfl)
@[simp] theorem State.setTake_po (s : State) (k : Nat) (x : TakeSt) : (s.setTake k x).po = s.po := (rfl)
@[simp] theorem State.setTake_sv (s : State) (k : Nat) (x : TakeSt) : (s.setTake k x).sv = s.sv := (rfl)
@[simp] theorem State.setTake_pk (s : State) (k : Nat) (x : TakeSt) : (s.setTake k x).pk = s.pk := (rfl)
@[simp] theorem State.setTake_id_ (s : State) (k : Nat) (x : TakeSt) : (s.setTake k x).id_ = s.id_ := (rfl)
@[simp] theorem State.setTake_ep (s : State) (k : Nat) (x : TakeSt) : (s.setTake k x).ep = s.ep := (rfl)
@[simp] theorem State.setTake_out (s : State) (k : Nat) (x : TakeSt) : (s.setTake k x).out = s.out := (rfl)
@[simp] theorem State.setTake_freeCtr (s : State) (k : Nat) (x : TakeSt) : (s.setTake k x).freeCtr = s.freeCtr := (rfl)
@[simp] theorem State.setTake_pending (s : State) (k : Nat) (x : TakeSt) : (s.setTake k x).pending = s.pending := (rfl)
@[simp] theorem State.setTake_rd (s : State) (k : Nat) (x : TakeSt) (g : Fld) (j : Nat) : (s.setTake k x).rd g j = s.rd g j := (rfl)

@[simp] theorem State.setMon_regs (s : State) (m : Nat) (q : QualSt) : (s.setMon m q).regs = s.regs := (rfl)
@[simp] theorem State.setMon_cp (s : State) (m : Nat) (q : QualSt) : (s.setMon m q).cp = s.cp := (rfl)
@[simp] theorem State.setMon_ev (s : State) (m : Nat) (q : QualSt) : (s.setMon m q).ev = s.ev := (rfl)
@[simp] theorem State.setMon_flt (s : State) (m : Nat) (q : QualSt) : (s.setMon m q).flt = s.flt := (rfl)
@[simp] theorem State.setMon_un (s : State) (m : Nat) (q : QualSt) : (s.setMon m q).un = s.un := (rfl)
@[simp] theorem State.setMon_tm (s : State) (m : Nat) (q : QualSt) : (s.setMon m q).tm = s.tm := (rfl)
@[simp] theorem State.setMon_pr (s : State) (m : Nat) (q : QualSt) : (s.setMon m q).pr = s.pr := (rfl)
@[simp] theorem State.setMon_pw (s : State) (m : Nat) (q : QualSt) : (s.setMon m q).pw = s.pw := (rfl)
@[simp] theorem State.setMon_ck (s : State) (m : Nat) (q : QualSt) : (s.setMon m q).ck = s.ck := (rfl)
@[simp] theorem State.setMon_dp (s : State) (m : Nat) (q : QualSt) : (s.setMon m q).dp = s.dp := (rfl)
@[simp] theorem State.setMon_at_ (s : State) (m : Nat) (q : QualSt) : (s.setMon m q).at_ = s.at_ := (rfl)
@[simp] theorem State.setMon_td (s : State) (m : Nat) (q : QualSt) : (s.setMon m q).td = s.td := (rfl)
@[simp] theorem State.setMon_tr (s : State) (m : Nat) (q : QualSt) : (s.setMon m q).tr = s.tr := (rfl)
@[simp] theorem State.setMon_sy (s : State) (m : Nat) (q : QualSt) : (s.setMon m q).sy = s.sy := (rfl)
@[simp] theorem State.setMon_hs (s : State) (m : Nat) (q : QualSt) : (s.setMon m q).hs = s.hs := (rfl)
@[simp] theorem State.setMon_po (s : State) (m : Nat) (q : QualSt) : (s.setMon m q).po = s.po := (rfl)
@[simp] theorem State.setMon_sv (s : State) (m : Nat) (q : QualSt) : (s.setMon m q).sv = s.sv := (rfl)
@[simp] theorem State.setMon_pk (s : State) (m : Nat) (q : QualSt) : (s.setMon m q).pk = s.pk := (rfl)
@[simp] theorem State.setMon_id_ (s : State) (m : Nat) (q : QualSt) : (s.setMon m q).id_ = s.id_ := (rfl)
@[simp] theorem State.setMon_ep (s : State) (m : Nat) (q : QualSt) : (s.setMon m q).ep = s.ep := (rfl)
@[simp] theorem State.setMon_out (s : State) (m : Nat) (q : QualSt) : (s.setMon m q).out = s.out := (rfl)
@[simp] theorem State.setMon_freeCtr (s : State) (m : Nat) (q : QualSt) : (s.setMon m q).freeCtr = s.freeCtr := (rfl)
@[simp] theorem State.setMon_pending (s : State) (m : Nat) (q : QualSt) : (s.setMon m q).pending = s.pending := (rfl)
@[simp] theorem State.setMon_rd (s : State) (m : Nat) (q : QualSt) (g : Fld) (j : Nat) : (s.setMon m q).rd g j = s.rd g j := (rfl)

@[simp] theorem State.setFeed_regs (s : State) (n : Nat) (x : FeedSt) : (s.setFeed n x).regs = s.regs := (rfl)
@[simp] theorem State.setFeed_cp (s : State) (n : Nat) (x : FeedSt) : (s.setFeed n x).cp = s.cp := (rfl)
@[simp] theorem State.setFeed_ev (s : State) (n : Nat) (x : FeedSt) : (s.setFeed n x).ev = s.ev := (rfl)
@[simp] theorem State.setFeed_flt (s : State) (n : Nat) (x : FeedSt) : (s.setFeed n x).flt = s.flt := (rfl)
@[simp] theorem State.setFeed_un (s : State) (n : Nat) (x : FeedSt) : (s.setFeed n x).un = s.un := (rfl)
@[simp] theorem State.setFeed_tm (s : State) (n : Nat) (x : FeedSt) : (s.setFeed n x).tm = s.tm := (rfl)
@[simp] theorem State.setFeed_pr (s : State) (n : Nat) (x : FeedSt) : (s.setFeed n x).pr = s.pr := (rfl)
@[simp] theorem State.setFeed_ck (s : State) (n : Nat) (x : FeedSt) : (s.setFeed n x).ck = s.ck := (rfl)
@[simp] theorem State.setFeed_dp (s : State) (n : Nat) (x : FeedSt) : (s.setFeed n x).dp = s.dp := (rfl)
@[simp] theorem State.setFeed_at_ (s : State) (n : Nat) (x : FeedSt) : (s.setFeed n x).at_ = s.at_ := (rfl)
@[simp] theorem State.setFeed_td (s : State) (n : Nat) (x : FeedSt) : (s.setFeed n x).td = s.td := (rfl)
@[simp] theorem State.setFeed_ql (s : State) (n : Nat) (x : FeedSt) : (s.setFeed n x).ql = s.ql := (rfl)
@[simp] theorem State.setFeed_tr (s : State) (n : Nat) (x : FeedSt) : (s.setFeed n x).tr = s.tr := (rfl)
@[simp] theorem State.setFeed_sy (s : State) (n : Nat) (x : FeedSt) : (s.setFeed n x).sy = s.sy := (rfl)
@[simp] theorem State.setFeed_hs (s : State) (n : Nat) (x : FeedSt) : (s.setFeed n x).hs = s.hs := (rfl)
@[simp] theorem State.setFeed_po (s : State) (n : Nat) (x : FeedSt) : (s.setFeed n x).po = s.po := (rfl)
@[simp] theorem State.setFeed_sv (s : State) (n : Nat) (x : FeedSt) : (s.setFeed n x).sv = s.sv := (rfl)
@[simp] theorem State.setFeed_pk (s : State) (n : Nat) (x : FeedSt) : (s.setFeed n x).pk = s.pk := (rfl)
@[simp] theorem State.setFeed_id_ (s : State) (n : Nat) (x : FeedSt) : (s.setFeed n x).id_ = s.id_ := (rfl)
@[simp] theorem State.setFeed_ep (s : State) (n : Nat) (x : FeedSt) : (s.setFeed n x).ep = s.ep := (rfl)
@[simp] theorem State.setFeed_out (s : State) (n : Nat) (x : FeedSt) : (s.setFeed n x).out = s.out := (rfl)
@[simp] theorem State.setFeed_freeCtr (s : State) (n : Nat) (x : FeedSt) : (s.setFeed n x).freeCtr = s.freeCtr := (rfl)
@[simp] theorem State.setFeed_pending (s : State) (n : Nat) (x : FeedSt) : (s.setFeed n x).pending = s.pending := (rfl)
@[simp] theorem State.setFeed_rd (s : State) (n : Nat) (x : FeedSt) (g : Fld) (j : Nat) : (s.setFeed n x).rd g j = s.rd g j := (rfl)

@[simp] theorem State.putLatch_regs (s : State) (k : Nat) (l : Latch) : (s.putLatch k l).regs = s.regs := (rfl)
@[simp] theorem State.putLatch_cp (s : State) (k : Nat) (l : Latch) : (s.putLatch k l).cp = s.cp := (rfl)
@[simp] theorem State.putLatch_ev (s : State) (k : Nat) (l : Latch) : (s.putLatch k l).ev = s.ev := (rfl)
@[simp] theorem State.putLatch_un (s : State) (k : Nat) (l : Latch) : (s.putLatch k l).un = s.un := (rfl)
@[simp] theorem State.putLatch_tm (s : State) (k : Nat) (l : Latch) : (s.putLatch k l).tm = s.tm := (rfl)
@[simp] theorem State.putLatch_pr (s : State) (k : Nat) (l : Latch) : (s.putLatch k l).pr = s.pr := (rfl)
@[simp] theorem State.putLatch_pw (s : State) (k : Nat) (l : Latch) : (s.putLatch k l).pw = s.pw := (rfl)
@[simp] theorem State.putLatch_ck (s : State) (k : Nat) (l : Latch) : (s.putLatch k l).ck = s.ck := (rfl)
@[simp] theorem State.putLatch_dp (s : State) (k : Nat) (l : Latch) : (s.putLatch k l).dp = s.dp := (rfl)
@[simp] theorem State.putLatch_at_ (s : State) (k : Nat) (l : Latch) : (s.putLatch k l).at_ = s.at_ := (rfl)
@[simp] theorem State.putLatch_td (s : State) (k : Nat) (l : Latch) : (s.putLatch k l).td = s.td := (rfl)
@[simp] theorem State.putLatch_ql (s : State) (k : Nat) (l : Latch) : (s.putLatch k l).ql = s.ql := (rfl)
@[simp] theorem State.putLatch_tr (s : State) (k : Nat) (l : Latch) : (s.putLatch k l).tr = s.tr := (rfl)
@[simp] theorem State.putLatch_sy (s : State) (k : Nat) (l : Latch) : (s.putLatch k l).sy = s.sy := (rfl)
@[simp] theorem State.putLatch_hs (s : State) (k : Nat) (l : Latch) : (s.putLatch k l).hs = s.hs := (rfl)
@[simp] theorem State.putLatch_po (s : State) (k : Nat) (l : Latch) : (s.putLatch k l).po = s.po := (rfl)
@[simp] theorem State.putLatch_sv (s : State) (k : Nat) (l : Latch) : (s.putLatch k l).sv = s.sv := (rfl)
@[simp] theorem State.putLatch_pk (s : State) (k : Nat) (l : Latch) : (s.putLatch k l).pk = s.pk := (rfl)
@[simp] theorem State.putLatch_id_ (s : State) (k : Nat) (l : Latch) : (s.putLatch k l).id_ = s.id_ := (rfl)
@[simp] theorem State.putLatch_ep (s : State) (k : Nat) (l : Latch) : (s.putLatch k l).ep = s.ep := (rfl)
@[simp] theorem State.putLatch_out (s : State) (k : Nat) (l : Latch) : (s.putLatch k l).out = s.out := (rfl)
@[simp] theorem State.putLatch_freeCtr (s : State) (k : Nat) (l : Latch) : (s.putLatch k l).freeCtr = s.freeCtr := (rfl)
@[simp] theorem State.putLatch_pending (s : State) (k : Nat) (l : Latch) : (s.putLatch k l).pending = s.pending := (rfl)
@[simp] theorem State.putLatch_rd (s : State) (k : Nat) (l : Latch) (g : Fld) (j : Nat) : (s.putLatch k l).rd g j = s.rd g j := (rfl)

@[simp] theorem State.setOut_regs (s : State) (n : Nat) (o : OutSt) : (s.setOut n o).regs = s.regs := (rfl)
@[simp] theorem State.setOut_cp (s : State) (n : Nat) (o : OutSt) : (s.setOut n o).cp = s.cp := (rfl)
@[simp] theorem State.setOut_ev (s : State) (n : Nat) (o : OutSt) : (s.setOut n o).ev = s.ev := (rfl)
@[simp] theorem State.setOut_flt (s : State) (n : Nat) (o : OutSt) : (s.setOut n o).flt = s.flt := (rfl)
@[simp] theorem State.setOut_un (s : State) (n : Nat) (o : OutSt) : (s.setOut n o).un = s.un := (rfl)
@[simp] theorem State.setOut_tm (s : State) (n : Nat) (o : OutSt) : (s.setOut n o).tm = s.tm := (rfl)
@[simp] theorem State.setOut_pr (s : State) (n : Nat) (o : OutSt) : (s.setOut n o).pr = s.pr := (rfl)
@[simp] theorem State.setOut_pw (s : State) (n : Nat) (o : OutSt) : (s.setOut n o).pw = s.pw := (rfl)
@[simp] theorem State.setOut_ck (s : State) (n : Nat) (o : OutSt) : (s.setOut n o).ck = s.ck := (rfl)
@[simp] theorem State.setOut_dp (s : State) (n : Nat) (o : OutSt) : (s.setOut n o).dp = s.dp := (rfl)
@[simp] theorem State.setOut_at_ (s : State) (n : Nat) (o : OutSt) : (s.setOut n o).at_ = s.at_ := (rfl)
@[simp] theorem State.setOut_td (s : State) (n : Nat) (o : OutSt) : (s.setOut n o).td = s.td := (rfl)
@[simp] theorem State.setOut_ql (s : State) (n : Nat) (o : OutSt) : (s.setOut n o).ql = s.ql := (rfl)
@[simp] theorem State.setOut_tr (s : State) (n : Nat) (o : OutSt) : (s.setOut n o).tr = s.tr := (rfl)
@[simp] theorem State.setOut_hs (s : State) (n : Nat) (o : OutSt) : (s.setOut n o).hs = s.hs := (rfl)
@[simp] theorem State.setOut_po (s : State) (n : Nat) (o : OutSt) : (s.setOut n o).po = s.po := (rfl)
@[simp] theorem State.setOut_sv (s : State) (n : Nat) (o : OutSt) : (s.setOut n o).sv = s.sv := (rfl)
@[simp] theorem State.setOut_pk (s : State) (n : Nat) (o : OutSt) : (s.setOut n o).pk = s.pk := (rfl)
@[simp] theorem State.setOut_id_ (s : State) (n : Nat) (o : OutSt) : (s.setOut n o).id_ = s.id_ := (rfl)
@[simp] theorem State.setOut_ep (s : State) (n : Nat) (o : OutSt) : (s.setOut n o).ep = s.ep := (rfl)
@[simp] theorem State.setOut_out (s : State) (n : Nat) (o : OutSt) : (s.setOut n o).out = s.out := (rfl)
@[simp] theorem State.setOut_freeCtr (s : State) (n : Nat) (o : OutSt) : (s.setOut n o).freeCtr = s.freeCtr := (rfl)
@[simp] theorem State.setOut_pending (s : State) (n : Nat) (o : OutSt) : (s.setOut n o).pending = s.pending := (rfl)
@[simp] theorem State.setOut_rd (s : State) (n : Nat) (o : OutSt) (g : Fld) (j : Nat) : (s.setOut n o).rd g j = s.rd g j := (rfl)

@[simp] theorem State.setLoop_regs (s : State) (a : Nat) (l : LoopSt) : (s.setLoop a l).regs = s.regs := (rfl)
@[simp] theorem State.setLoop_cp (s : State) (a : Nat) (l : LoopSt) : (s.setLoop a l).cp = s.cp := (rfl)
@[simp] theorem State.setLoop_ev (s : State) (a : Nat) (l : LoopSt) : (s.setLoop a l).ev = s.ev := (rfl)
@[simp] theorem State.setLoop_flt (s : State) (a : Nat) (l : LoopSt) : (s.setLoop a l).flt = s.flt := (rfl)
@[simp] theorem State.setLoop_un (s : State) (a : Nat) (l : LoopSt) : (s.setLoop a l).un = s.un := (rfl)
@[simp] theorem State.setLoop_tm (s : State) (a : Nat) (l : LoopSt) : (s.setLoop a l).tm = s.tm := (rfl)
@[simp] theorem State.setLoop_pr (s : State) (a : Nat) (l : LoopSt) : (s.setLoop a l).pr = s.pr := (rfl)
@[simp] theorem State.setLoop_pw (s : State) (a : Nat) (l : LoopSt) : (s.setLoop a l).pw = s.pw := (rfl)
@[simp] theorem State.setLoop_ck (s : State) (a : Nat) (l : LoopSt) : (s.setLoop a l).ck = s.ck := (rfl)
@[simp] theorem State.setLoop_dp (s : State) (a : Nat) (l : LoopSt) : (s.setLoop a l).dp = s.dp := (rfl)
@[simp] theorem State.setLoop_at_ (s : State) (a : Nat) (l : LoopSt) : (s.setLoop a l).at_ = s.at_ := (rfl)
@[simp] theorem State.setLoop_td (s : State) (a : Nat) (l : LoopSt) : (s.setLoop a l).td = s.td := (rfl)
@[simp] theorem State.setLoop_ql (s : State) (a : Nat) (l : LoopSt) : (s.setLoop a l).ql = s.ql := (rfl)
@[simp] theorem State.setLoop_tr (s : State) (a : Nat) (l : LoopSt) : (s.setLoop a l).tr = s.tr := (rfl)
@[simp] theorem State.setLoop_hs (s : State) (a : Nat) (l : LoopSt) : (s.setLoop a l).hs = s.hs := (rfl)
@[simp] theorem State.setLoop_po (s : State) (a : Nat) (l : LoopSt) : (s.setLoop a l).po = s.po := (rfl)
@[simp] theorem State.setLoop_sv (s : State) (a : Nat) (l : LoopSt) : (s.setLoop a l).sv = s.sv := (rfl)
@[simp] theorem State.setLoop_pk (s : State) (a : Nat) (l : LoopSt) : (s.setLoop a l).pk = s.pk := (rfl)
@[simp] theorem State.setLoop_id_ (s : State) (a : Nat) (l : LoopSt) : (s.setLoop a l).id_ = s.id_ := (rfl)
@[simp] theorem State.setLoop_ep (s : State) (a : Nat) (l : LoopSt) : (s.setLoop a l).ep = s.ep := (rfl)
@[simp] theorem State.setLoop_out (s : State) (a : Nat) (l : LoopSt) : (s.setLoop a l).out = s.out := (rfl)
@[simp] theorem State.setLoop_freeCtr (s : State) (a : Nat) (l : LoopSt) : (s.setLoop a l).freeCtr = s.freeCtr := (rfl)
@[simp] theorem State.setLoop_pending (s : State) (a : Nat) (l : LoopSt) : (s.setLoop a l).pending = s.pending := (rfl)
@[simp] theorem State.setLoop_rd (s : State) (a : Nat) (l : LoopSt) (g : Fld) (j : Nat) : (s.setLoop a l).rd g j = s.rd g j := (rfl)

@[simp] theorem State.setNode_regs (s : State) (n : Nat) (x : NodeSt) : (s.setNode n x).regs = s.regs := (rfl)
@[simp] theorem State.setNode_cp (s : State) (n : Nat) (x : NodeSt) : (s.setNode n x).cp = s.cp := (rfl)
@[simp] theorem State.setNode_ev (s : State) (n : Nat) (x : NodeSt) : (s.setNode n x).ev = s.ev := (rfl)
@[simp] theorem State.setNode_flt (s : State) (n : Nat) (x : NodeSt) : (s.setNode n x).flt = s.flt := (rfl)
@[simp] theorem State.setNode_un (s : State) (n : Nat) (x : NodeSt) : (s.setNode n x).un = s.un := (rfl)
@[simp] theorem State.setNode_tm (s : State) (n : Nat) (x : NodeSt) : (s.setNode n x).tm = s.tm := (rfl)
@[simp] theorem State.setNode_pr (s : State) (n : Nat) (x : NodeSt) : (s.setNode n x).pr = s.pr := (rfl)
@[simp] theorem State.setNode_pw (s : State) (n : Nat) (x : NodeSt) : (s.setNode n x).pw = s.pw := (rfl)
@[simp] theorem State.setNode_ck (s : State) (n : Nat) (x : NodeSt) : (s.setNode n x).ck = s.ck := (rfl)
@[simp] theorem State.setNode_dp (s : State) (n : Nat) (x : NodeSt) : (s.setNode n x).dp = s.dp := (rfl)
@[simp] theorem State.setNode_at_ (s : State) (n : Nat) (x : NodeSt) : (s.setNode n x).at_ = s.at_ := (rfl)
@[simp] theorem State.setNode_td (s : State) (n : Nat) (x : NodeSt) : (s.setNode n x).td = s.td := (rfl)
@[simp] theorem State.setNode_ql (s : State) (n : Nat) (x : NodeSt) : (s.setNode n x).ql = s.ql := (rfl)
@[simp] theorem State.setNode_sy (s : State) (n : Nat) (x : NodeSt) : (s.setNode n x).sy = s.sy := (rfl)
@[simp] theorem State.setNode_hs (s : State) (n : Nat) (x : NodeSt) : (s.setNode n x).hs = s.hs := (rfl)
@[simp] theorem State.setNode_po (s : State) (n : Nat) (x : NodeSt) : (s.setNode n x).po = s.po := (rfl)
@[simp] theorem State.setNode_sv (s : State) (n : Nat) (x : NodeSt) : (s.setNode n x).sv = s.sv := (rfl)
@[simp] theorem State.setNode_pk (s : State) (n : Nat) (x : NodeSt) : (s.setNode n x).pk = s.pk := (rfl)
@[simp] theorem State.setNode_id_ (s : State) (n : Nat) (x : NodeSt) : (s.setNode n x).id_ = s.id_ := (rfl)
@[simp] theorem State.setNode_ep (s : State) (n : Nat) (x : NodeSt) : (s.setNode n x).ep = s.ep := (rfl)
@[simp] theorem State.setNode_out (s : State) (n : Nat) (x : NodeSt) : (s.setNode n x).out = s.out := (rfl)
@[simp] theorem State.setNode_freeCtr (s : State) (n : Nat) (x : NodeSt) : (s.setNode n x).freeCtr = s.freeCtr := (rfl)
@[simp] theorem State.setNode_pending (s : State) (n : Nat) (x : NodeSt) : (s.setNode n x).pending = s.pending := (rfl)
@[simp] theorem State.setNode_rd (s : State) (n : Nat) (x : NodeSt) (g : Fld) (j : Nat) : (s.setNode n x).rd g j = s.rd g j := (rfl)

@[simp] theorem State.setServo_regs (s : State) (k : Nat) (x : ServoSt) : (s.setServo k x).regs = s.regs := (rfl)
@[simp] theorem State.setServo_cp (s : State) (k : Nat) (x : ServoSt) : (s.setServo k x).cp = s.cp := (rfl)
@[simp] theorem State.setServo_ev (s : State) (k : Nat) (x : ServoSt) : (s.setServo k x).ev = s.ev := (rfl)
@[simp] theorem State.setServo_flt (s : State) (k : Nat) (x : ServoSt) : (s.setServo k x).flt = s.flt := (rfl)
@[simp] theorem State.setServo_un (s : State) (k : Nat) (x : ServoSt) : (s.setServo k x).un = s.un := (rfl)
@[simp] theorem State.setServo_tm (s : State) (k : Nat) (x : ServoSt) : (s.setServo k x).tm = s.tm := (rfl)
@[simp] theorem State.setServo_pr (s : State) (k : Nat) (x : ServoSt) : (s.setServo k x).pr = s.pr := (rfl)
@[simp] theorem State.setServo_pw (s : State) (k : Nat) (x : ServoSt) : (s.setServo k x).pw = s.pw := (rfl)
@[simp] theorem State.setServo_ck (s : State) (k : Nat) (x : ServoSt) : (s.setServo k x).ck = s.ck := (rfl)
@[simp] theorem State.setServo_dp (s : State) (k : Nat) (x : ServoSt) : (s.setServo k x).dp = s.dp := (rfl)
@[simp] theorem State.setServo_at_ (s : State) (k : Nat) (x : ServoSt) : (s.setServo k x).at_ = s.at_ := (rfl)
@[simp] theorem State.setServo_td (s : State) (k : Nat) (x : ServoSt) : (s.setServo k x).td = s.td := (rfl)
@[simp] theorem State.setServo_ql (s : State) (k : Nat) (x : ServoSt) : (s.setServo k x).ql = s.ql := (rfl)
@[simp] theorem State.setServo_tr (s : State) (k : Nat) (x : ServoSt) : (s.setServo k x).tr = s.tr := (rfl)
@[simp] theorem State.setServo_sy (s : State) (k : Nat) (x : ServoSt) : (s.setServo k x).sy = s.sy := (rfl)
@[simp] theorem State.setServo_hs (s : State) (k : Nat) (x : ServoSt) : (s.setServo k x).hs = s.hs := (rfl)
@[simp] theorem State.setServo_po (s : State) (k : Nat) (x : ServoSt) : (s.setServo k x).po = s.po := (rfl)
@[simp] theorem State.setServo_sv (s : State) (k : Nat) (x : ServoSt) : (s.setServo k x).sv = s.sv := (rfl)
@[simp] theorem State.setServo_id_ (s : State) (k : Nat) (x : ServoSt) : (s.setServo k x).id_ = s.id_ := (rfl)
@[simp] theorem State.setServo_ep (s : State) (k : Nat) (x : ServoSt) : (s.setServo k x).ep = s.ep := (rfl)
@[simp] theorem State.setServo_out (s : State) (k : Nat) (x : ServoSt) : (s.setServo k x).out = s.out := (rfl)
@[simp] theorem State.setServo_freeCtr (s : State) (k : Nat) (x : ServoSt) : (s.setServo k x).freeCtr = s.freeCtr := (rfl)
@[simp] theorem State.setServo_pending (s : State) (k : Nat) (x : ServoSt) : (s.setServo k x).pending = s.pending := (rfl)
@[simp] theorem State.setServo_rd (s : State) (k : Nat) (x : ServoSt) (g : Fld) (j : Nat) : (s.setServo k x).rd g j = s.rd g j := (rfl)

@[simp] theorem State.setPort_regs (s : State) (p : Nat) (x : PortSt) : (s.setPort p x).regs = s.regs := (rfl)
@[simp] theorem State.setPort_cp (s : State) (p : Nat) (x : PortSt) : (s.setPort p x).cp = s.cp := (rfl)
@[simp] theorem State.setPort_ev (s : State) (p : Nat) (x : PortSt) : (s.setPort p x).ev = s.ev := (rfl)
@[simp] theorem State.setPort_flt (s : State) (p : Nat) (x : PortSt) : (s.setPort p x).flt = s.flt := (rfl)
@[simp] theorem State.setPort_un (s : State) (p : Nat) (x : PortSt) : (s.setPort p x).un = s.un := (rfl)
@[simp] theorem State.setPort_tm (s : State) (p : Nat) (x : PortSt) : (s.setPort p x).tm = s.tm := (rfl)
@[simp] theorem State.setPort_pr (s : State) (p : Nat) (x : PortSt) : (s.setPort p x).pr = s.pr := (rfl)
@[simp] theorem State.setPort_pw (s : State) (p : Nat) (x : PortSt) : (s.setPort p x).pw = s.pw := (rfl)
@[simp] theorem State.setPort_ck (s : State) (p : Nat) (x : PortSt) : (s.setPort p x).ck = s.ck := (rfl)
@[simp] theorem State.setPort_dp (s : State) (p : Nat) (x : PortSt) : (s.setPort p x).dp = s.dp := (rfl)
@[simp] theorem State.setPort_at_ (s : State) (p : Nat) (x : PortSt) : (s.setPort p x).at_ = s.at_ := (rfl)
@[simp] theorem State.setPort_td (s : State) (p : Nat) (x : PortSt) : (s.setPort p x).td = s.td := (rfl)
@[simp] theorem State.setPort_ql (s : State) (p : Nat) (x : PortSt) : (s.setPort p x).ql = s.ql := (rfl)
@[simp] theorem State.setPort_tr (s : State) (p : Nat) (x : PortSt) : (s.setPort p x).tr = s.tr := (rfl)
@[simp] theorem State.setPort_sy (s : State) (p : Nat) (x : PortSt) : (s.setPort p x).sy = s.sy := (rfl)
@[simp] theorem State.setPort_hs (s : State) (p : Nat) (x : PortSt) : (s.setPort p x).hs = s.hs := (rfl)
@[simp] theorem State.setPort_sv (s : State) (p : Nat) (x : PortSt) : (s.setPort p x).sv = s.sv := (rfl)
@[simp] theorem State.setPort_pk (s : State) (p : Nat) (x : PortSt) : (s.setPort p x).pk = s.pk := (rfl)
@[simp] theorem State.setPort_id_ (s : State) (p : Nat) (x : PortSt) : (s.setPort p x).id_ = s.id_ := (rfl)
@[simp] theorem State.setPort_ep (s : State) (p : Nat) (x : PortSt) : (s.setPort p x).ep = s.ep := (rfl)
@[simp] theorem State.setPort_out (s : State) (p : Nat) (x : PortSt) : (s.setPort p x).out = s.out := (rfl)
@[simp] theorem State.setPort_freeCtr (s : State) (p : Nat) (x : PortSt) : (s.setPort p x).freeCtr = s.freeCtr := (rfl)
@[simp] theorem State.setPort_pending (s : State) (p : Nat) (x : PortSt) : (s.setPort p x).pending = s.pending := (rfl)
@[simp] theorem State.setPort_rd (s : State) (p : Nat) (x : PortSt) (g : Fld) (j : Nat) : (s.setPort p x).rd g j = s.rd g j := (rfl)

@[simp] theorem State.setSvcPort_regs (s : State) (p : Nat) (x : SvcPort) : (s.setSvcPort p x).regs = s.regs := (rfl)
@[simp] theorem State.setSvcPort_cp (s : State) (p : Nat) (x : SvcPort) : (s.setSvcPort p x).cp = s.cp := (rfl)
@[simp] theorem State.setSvcPort_ev (s : State) (p : Nat) (x : SvcPort) : (s.setSvcPort p x).ev = s.ev := (rfl)
@[simp] theorem State.setSvcPort_flt (s : State) (p : Nat) (x : SvcPort) : (s.setSvcPort p x).flt = s.flt := (rfl)
@[simp] theorem State.setSvcPort_un (s : State) (p : Nat) (x : SvcPort) : (s.setSvcPort p x).un = s.un := (rfl)
@[simp] theorem State.setSvcPort_tm (s : State) (p : Nat) (x : SvcPort) : (s.setSvcPort p x).tm = s.tm := (rfl)
@[simp] theorem State.setSvcPort_pr (s : State) (p : Nat) (x : SvcPort) : (s.setSvcPort p x).pr = s.pr := (rfl)
@[simp] theorem State.setSvcPort_pw (s : State) (p : Nat) (x : SvcPort) : (s.setSvcPort p x).pw = s.pw := (rfl)
@[simp] theorem State.setSvcPort_ck (s : State) (p : Nat) (x : SvcPort) : (s.setSvcPort p x).ck = s.ck := (rfl)
@[simp] theorem State.setSvcPort_dp (s : State) (p : Nat) (x : SvcPort) : (s.setSvcPort p x).dp = s.dp := (rfl)
@[simp] theorem State.setSvcPort_at_ (s : State) (p : Nat) (x : SvcPort) : (s.setSvcPort p x).at_ = s.at_ := (rfl)
@[simp] theorem State.setSvcPort_td (s : State) (p : Nat) (x : SvcPort) : (s.setSvcPort p x).td = s.td := (rfl)
@[simp] theorem State.setSvcPort_ql (s : State) (p : Nat) (x : SvcPort) : (s.setSvcPort p x).ql = s.ql := (rfl)
@[simp] theorem State.setSvcPort_tr (s : State) (p : Nat) (x : SvcPort) : (s.setSvcPort p x).tr = s.tr := (rfl)
@[simp] theorem State.setSvcPort_sy (s : State) (p : Nat) (x : SvcPort) : (s.setSvcPort p x).sy = s.sy := (rfl)
@[simp] theorem State.setSvcPort_hs (s : State) (p : Nat) (x : SvcPort) : (s.setSvcPort p x).hs = s.hs := (rfl)
@[simp] theorem State.setSvcPort_po (s : State) (p : Nat) (x : SvcPort) : (s.setSvcPort p x).po = s.po := (rfl)
@[simp] theorem State.setSvcPort_pk (s : State) (p : Nat) (x : SvcPort) : (s.setSvcPort p x).pk = s.pk := (rfl)
@[simp] theorem State.setSvcPort_id_ (s : State) (p : Nat) (x : SvcPort) : (s.setSvcPort p x).id_ = s.id_ := (rfl)
@[simp] theorem State.setSvcPort_ep (s : State) (p : Nat) (x : SvcPort) : (s.setSvcPort p x).ep = s.ep := (rfl)
@[simp] theorem State.setSvcPort_out (s : State) (p : Nat) (x : SvcPort) : (s.setSvcPort p x).out = s.out := (rfl)
@[simp] theorem State.setSvcPort_freeCtr (s : State) (p : Nat) (x : SvcPort) : (s.setSvcPort p x).freeCtr = s.freeCtr := (rfl)
@[simp] theorem State.setSvcPort_pending (s : State) (p : Nat) (x : SvcPort) : (s.setSvcPort p x).pending = s.pending := (rfl)
@[simp] theorem State.setSvcPort_rd (s : State) (p : Nat) (x : SvcPort) (g : Fld) (j : Nat) : (s.setSvcPort p x).rd g j = s.rd g j := (rfl)

@[simp] theorem State.setTod_regs (s : State) (j : Nat) (r : TodRun) : (s.setTod j r).regs = s.regs := (rfl)
@[simp] theorem State.setTod_cp (s : State) (j : Nat) (r : TodRun) : (s.setTod j r).cp = s.cp := (rfl)
@[simp] theorem State.setTod_ev (s : State) (j : Nat) (r : TodRun) : (s.setTod j r).ev = s.ev := (rfl)
@[simp] theorem State.setTod_flt (s : State) (j : Nat) (r : TodRun) : (s.setTod j r).flt = s.flt := (rfl)
@[simp] theorem State.setTod_un (s : State) (j : Nat) (r : TodRun) : (s.setTod j r).un = s.un := (rfl)
@[simp] theorem State.setTod_pr (s : State) (j : Nat) (r : TodRun) : (s.setTod j r).pr = s.pr := (rfl)
@[simp] theorem State.setTod_pw (s : State) (j : Nat) (r : TodRun) : (s.setTod j r).pw = s.pw := (rfl)
@[simp] theorem State.setTod_ck (s : State) (j : Nat) (r : TodRun) : (s.setTod j r).ck = s.ck := (rfl)
@[simp] theorem State.setTod_dp (s : State) (j : Nat) (r : TodRun) : (s.setTod j r).dp = s.dp := (rfl)
@[simp] theorem State.setTod_at_ (s : State) (j : Nat) (r : TodRun) : (s.setTod j r).at_ = s.at_ := (rfl)
@[simp] theorem State.setTod_td (s : State) (j : Nat) (r : TodRun) : (s.setTod j r).td = s.td := (rfl)
@[simp] theorem State.setTod_ql (s : State) (j : Nat) (r : TodRun) : (s.setTod j r).ql = s.ql := (rfl)
@[simp] theorem State.setTod_tr (s : State) (j : Nat) (r : TodRun) : (s.setTod j r).tr = s.tr := (rfl)
@[simp] theorem State.setTod_sy (s : State) (j : Nat) (r : TodRun) : (s.setTod j r).sy = s.sy := (rfl)
@[simp] theorem State.setTod_hs (s : State) (j : Nat) (r : TodRun) : (s.setTod j r).hs = s.hs := (rfl)
@[simp] theorem State.setTod_po (s : State) (j : Nat) (r : TodRun) : (s.setTod j r).po = s.po := (rfl)
@[simp] theorem State.setTod_sv (s : State) (j : Nat) (r : TodRun) : (s.setTod j r).sv = s.sv := (rfl)
@[simp] theorem State.setTod_pk (s : State) (j : Nat) (r : TodRun) : (s.setTod j r).pk = s.pk := (rfl)
@[simp] theorem State.setTod_id_ (s : State) (j : Nat) (r : TodRun) : (s.setTod j r).id_ = s.id_ := (rfl)
@[simp] theorem State.setTod_ep (s : State) (j : Nat) (r : TodRun) : (s.setTod j r).ep = s.ep := (rfl)
@[simp] theorem State.setTod_out (s : State) (j : Nat) (r : TodRun) : (s.setTod j r).out = s.out := (rfl)
@[simp] theorem State.setTod_freeCtr (s : State) (j : Nat) (r : TodRun) : (s.setTod j r).freeCtr = s.freeCtr := (rfl)
@[simp] theorem State.setTod_pending (s : State) (j : Nat) (r : TodRun) : (s.setTod j r).pending = s.pending := (rfl)
@[simp] theorem State.setTod_rd (s : State) (j : Nat) (r : TodRun) (g : Fld) (j : Nat) : (s.setTod j r).rd g j = s.rd g j := (rfl)

@[simp] theorem State.hold_regs (s : State) (r : EvRec) : (s.hold r).regs = s.regs := by unfold State.hold; split <;> rfl
@[simp] theorem State.hold_cp (s : State) (r : EvRec) : (s.hold r).cp = s.cp := by unfold State.hold; split <;> rfl
@[simp] theorem State.hold_flt (s : State) (r : EvRec) : (s.hold r).flt = s.flt := by unfold State.hold; split <;> rfl
@[simp] theorem State.hold_un (s : State) (r : EvRec) : (s.hold r).un = s.un := by unfold State.hold; split <;> rfl
@[simp] theorem State.hold_tm (s : State) (r : EvRec) : (s.hold r).tm = s.tm := by unfold State.hold; split <;> rfl
@[simp] theorem State.hold_pr (s : State) (r : EvRec) : (s.hold r).pr = s.pr := by unfold State.hold; split <;> rfl
@[simp] theorem State.hold_pw (s : State) (r : EvRec) : (s.hold r).pw = s.pw := by unfold State.hold; split <;> rfl
@[simp] theorem State.hold_ck (s : State) (r : EvRec) : (s.hold r).ck = s.ck := by unfold State.hold; split <;> rfl
@[simp] theorem State.hold_dp (s : State) (r : EvRec) : (s.hold r).dp = s.dp := by unfold State.hold; split <;> rfl
@[simp] theorem State.hold_at_ (s : State) (r : EvRec) : (s.hold r).at_ = s.at_ := by unfold State.hold; split <;> rfl
@[simp] theorem State.hold_td (s : State) (r : EvRec) : (s.hold r).td = s.td := by unfold State.hold; split <;> rfl
@[simp] theorem State.hold_ql (s : State) (r : EvRec) : (s.hold r).ql = s.ql := by unfold State.hold; split <;> rfl
@[simp] theorem State.hold_tr (s : State) (r : EvRec) : (s.hold r).tr = s.tr := by unfold State.hold; split <;> rfl
@[simp] theorem State.hold_sy (s : State) (r : EvRec) : (s.hold r).sy = s.sy := by unfold State.hold; split <;> rfl
@[simp] theorem State.hold_hs (s : State) (r : EvRec) : (s.hold r).hs = s.hs := by unfold State.hold; split <;> rfl
@[simp] theorem State.hold_po (s : State) (r : EvRec) : (s.hold r).po = s.po := by unfold State.hold; split <;> rfl
@[simp] theorem State.hold_sv (s : State) (r : EvRec) : (s.hold r).sv = s.sv := by unfold State.hold; split <;> rfl
@[simp] theorem State.hold_pk (s : State) (r : EvRec) : (s.hold r).pk = s.pk := by unfold State.hold; split <;> rfl
@[simp] theorem State.hold_id_ (s : State) (r : EvRec) : (s.hold r).id_ = s.id_ := by unfold State.hold; split <;> rfl
@[simp] theorem State.hold_ep (s : State) (r : EvRec) : (s.hold r).ep = s.ep := by unfold State.hold; split <;> rfl
@[simp] theorem State.hold_out (s : State) (r : EvRec) : (s.hold r).out = s.out := by unfold State.hold; split <;> rfl
@[simp] theorem State.hold_freeCtr (s : State) (r : EvRec) : (s.hold r).freeCtr = s.freeCtr := by unfold State.hold; split <;> rfl
@[simp] theorem State.hold_pending (s : State) (r : EvRec) : (s.hold r).pending = s.pending := by unfold State.hold; split <;> rfl
@[simp] theorem State.hold_rd (s : State) (r : EvRec) (g : Fld) (j : Nat) : (s.hold r).rd g j = s.rd g j := State.rd_congr (State.hold_regs _ _) g j

@[simp] theorem State.infoAt_regs (s : State) (t source unit detail : Nat) : (s.infoAt t source unit detail).regs = s.regs := State.hold_regs _ _
@[simp] theorem State.infoAt_cp (s : State) (t source unit detail : Nat) : (s.infoAt t source unit detail).cp = s.cp := State.hold_cp _ _
@[simp] theorem State.infoAt_flt (s : State) (t source unit detail : Nat) : (s.infoAt t source unit detail).flt = s.flt := State.hold_flt _ _
@[simp] theorem State.infoAt_un (s : State) (t source unit detail : Nat) : (s.infoAt t source unit detail).un = s.un := State.hold_un _ _
@[simp] theorem State.infoAt_tm (s : State) (t source unit detail : Nat) : (s.infoAt t source unit detail).tm = s.tm := State.hold_tm _ _
@[simp] theorem State.infoAt_pr (s : State) (t source unit detail : Nat) : (s.infoAt t source unit detail).pr = s.pr := State.hold_pr _ _
@[simp] theorem State.infoAt_pw (s : State) (t source unit detail : Nat) : (s.infoAt t source unit detail).pw = s.pw := State.hold_pw _ _
@[simp] theorem State.infoAt_ck (s : State) (t source unit detail : Nat) : (s.infoAt t source unit detail).ck = s.ck := State.hold_ck _ _
@[simp] theorem State.infoAt_dp (s : State) (t source unit detail : Nat) : (s.infoAt t source unit detail).dp = s.dp := State.hold_dp _ _
@[simp] theorem State.infoAt_at_ (s : State) (t source unit detail : Nat) : (s.infoAt t source unit detail).at_ = s.at_ := State.hold_at_ _ _
@[simp] theorem State.infoAt_td (s : State) (t source unit detail : Nat) : (s.infoAt t source unit detail).td = s.td := State.hold_td _ _
@[simp] theorem State.infoAt_ql (s : State) (t source unit detail : Nat) : (s.infoAt t source unit detail).ql = s.ql := State.hold_ql _ _
@[simp] theorem State.infoAt_tr (s : State) (t source unit detail : Nat) : (s.infoAt t source unit detail).tr = s.tr := State.hold_tr _ _
@[simp] theorem State.infoAt_sy (s : State) (t source unit detail : Nat) : (s.infoAt t source unit detail).sy = s.sy := State.hold_sy _ _
@[simp] theorem State.infoAt_hs (s : State) (t source unit detail : Nat) : (s.infoAt t source unit detail).hs = s.hs := State.hold_hs _ _
@[simp] theorem State.infoAt_po (s : State) (t source unit detail : Nat) : (s.infoAt t source unit detail).po = s.po := State.hold_po _ _
@[simp] theorem State.infoAt_sv (s : State) (t source unit detail : Nat) : (s.infoAt t source unit detail).sv = s.sv := State.hold_sv _ _
@[simp] theorem State.infoAt_pk (s : State) (t source unit detail : Nat) : (s.infoAt t source unit detail).pk = s.pk := State.hold_pk _ _
@[simp] theorem State.infoAt_id_ (s : State) (t source unit detail : Nat) : (s.infoAt t source unit detail).id_ = s.id_ := State.hold_id_ _ _
@[simp] theorem State.infoAt_ep (s : State) (t source unit detail : Nat) : (s.infoAt t source unit detail).ep = s.ep := State.hold_ep _ _
@[simp] theorem State.infoAt_out (s : State) (t source unit detail : Nat) : (s.infoAt t source unit detail).out = s.out := State.hold_out _ _
@[simp] theorem State.infoAt_freeCtr (s : State) (t source unit detail : Nat) : (s.infoAt t source unit detail).freeCtr = s.freeCtr := State.hold_freeCtr _ _
@[simp] theorem State.infoAt_pending (s : State) (t source unit detail : Nat) : (s.infoAt t source unit detail).pending = s.pending := State.hold_pending _ _
@[simp] theorem State.infoAt_rd (s : State) (t source unit detail : Nat) (g : Fld) (j : Nat) : (s.infoAt t source unit detail).rd g j = s.rd g j := State.rd_congr (State.hold_regs _ _) g j

@[simp] theorem State.info_regs (s : State) (source unit a b c : Nat) : (s.info source unit a b c).regs = s.regs := State.hold_regs _ _
@[simp] theorem State.info_cp (s : State) (source unit a b c : Nat) : (s.info source unit a b c).cp = s.cp := State.hold_cp _ _
@[simp] theorem State.info_flt (s : State) (source unit a b c : Nat) : (s.info source unit a b c).flt = s.flt := State.hold_flt _ _
@[simp] theorem State.info_un (s : State) (source unit a b c : Nat) : (s.info source unit a b c).un = s.un := State.hold_un _ _
@[simp] theorem State.info_tm (s : State) (source unit a b c : Nat) : (s.info source unit a b c).tm = s.tm := State.hold_tm _ _
@[simp] theorem State.info_pr (s : State) (source unit a b c : Nat) : (s.info source unit a b c).pr = s.pr := State.hold_pr _ _
@[simp] theorem State.info_pw (s : State) (source unit a b c : Nat) : (s.info source unit a b c).pw = s.pw := State.hold_pw _ _
@[simp] theorem State.info_ck (s : State) (source unit a b c : Nat) : (s.info source unit a b c).ck = s.ck := State.hold_ck _ _
@[simp] theorem State.info_dp (s : State) (source unit a b c : Nat) : (s.info source unit a b c).dp = s.dp := State.hold_dp _ _
@[simp] theorem State.info_at_ (s : State) (source unit a b c : Nat) : (s.info source unit a b c).at_ = s.at_ := State.hold_at_ _ _
@[simp] theorem State.info_td (s : State) (source unit a b c : Nat) : (s.info source unit a b c).td = s.td := State.hold_td _ _
@[simp] theorem State.info_ql (s : State) (source unit a b c : Nat) : (s.info source unit a b c).ql = s.ql := State.hold_ql _ _
@[simp] theorem State.info_tr (s : State) (source unit a b c : Nat) : (s.info source unit a b c).tr = s.tr := State.hold_tr _ _
@[simp] theorem State.info_sy (s : State) (source unit a b c : Nat) : (s.info source unit a b c).sy = s.sy := State.hold_sy _ _
@[simp] theorem State.info_hs (s : State) (source unit a b c : Nat) : (s.info source unit a b c).hs = s.hs := State.hold_hs _ _
@[simp] theorem State.info_po (s : State) (source unit a b c : Nat) : (s.info source unit a b c).po = s.po := State.hold_po _ _
@[simp] theorem State.info_sv (s : State) (source unit a b c : Nat) : (s.info source unit a b c).sv = s.sv := State.hold_sv _ _
@[simp] theorem State.info_pk (s : State) (source unit a b c : Nat) : (s.info source unit a b c).pk = s.pk := State.hold_pk _ _
@[simp] theorem State.info_id_ (s : State) (source unit a b c : Nat) : (s.info source unit a b c).id_ = s.id_ := State.hold_id_ _ _
@[simp] theorem State.info_ep (s : State) (source unit a b c : Nat) : (s.info source unit a b c).ep = s.ep := State.hold_ep _ _
@[simp] theorem State.info_out (s : State) (source unit a b c : Nat) : (s.info source unit a b c).out = s.out := State.hold_out _ _
@[simp] theorem State.info_freeCtr (s : State) (source unit a b c : Nat) : (s.info source unit a b c).freeCtr = s.freeCtr := State.hold_freeCtr _ _
@[simp] theorem State.info_pending (s : State) (source unit a b c : Nat) : (s.info source unit a b c).pending = s.pending := State.hold_pending _ _
@[simp] theorem State.info_rd (s : State) (source unit a b c : Nat) (g : Fld) (j : Nat) : (s.info source unit a b c).rd g j = s.rd g j := State.rd_congr (State.hold_regs _ _) g j

@[simp] theorem State.markRetired_regs (s : State) (u : Nat) : (s.markRetired u).regs = s.regs := (rfl)
@[simp] theorem State.markRetired_cp (s : State) (u : Nat) : (s.markRetired u).cp = s.cp := (rfl)
@[simp] theorem State.markRetired_ev (s : State) (u : Nat) : (s.markRetired u).ev = s.ev := (rfl)
@[simp] theorem State.markRetired_flt (s : State) (u : Nat) : (s.markRetired u).flt = s.flt := (rfl)
@[simp] theorem State.markRetired_tm (s : State) (u : Nat) : (s.markRetired u).tm = s.tm := (rfl)
@[simp] theorem State.markRetired_pr (s : State) (u : Nat) : (s.markRetired u).pr = s.pr := (rfl)
@[simp] theorem State.markRetired_pw (s : State) (u : Nat) : (s.markRetired u).pw = s.pw := (rfl)
@[simp] theorem State.markRetired_ck (s : State) (u : Nat) : (s.markRetired u).ck = s.ck := (rfl)
@[simp] theorem State.markRetired_dp (s : State) (u : Nat) : (s.markRetired u).dp = s.dp := (rfl)
@[simp] theorem State.markRetired_at_ (s : State) (u : Nat) : (s.markRetired u).at_ = s.at_ := (rfl)
@[simp] theorem State.markRetired_td (s : State) (u : Nat) : (s.markRetired u).td = s.td := (rfl)
@[simp] theorem State.markRetired_ql (s : State) (u : Nat) : (s.markRetired u).ql = s.ql := (rfl)
@[simp] theorem State.markRetired_tr (s : State) (u : Nat) : (s.markRetired u).tr = s.tr := (rfl)
@[simp] theorem State.markRetired_sy (s : State) (u : Nat) : (s.markRetired u).sy = s.sy := (rfl)
@[simp] theorem State.markRetired_hs (s : State) (u : Nat) : (s.markRetired u).hs = s.hs := (rfl)
@[simp] theorem State.markRetired_po (s : State) (u : Nat) : (s.markRetired u).po = s.po := (rfl)
@[simp] theorem State.markRetired_sv (s : State) (u : Nat) : (s.markRetired u).sv = s.sv := (rfl)
@[simp] theorem State.markRetired_pk (s : State) (u : Nat) : (s.markRetired u).pk = s.pk := (rfl)
@[simp] theorem State.markRetired_id_ (s : State) (u : Nat) : (s.markRetired u).id_ = s.id_ := (rfl)
@[simp] theorem State.markRetired_ep (s : State) (u : Nat) : (s.markRetired u).ep = s.ep := (rfl)
@[simp] theorem State.markRetired_out (s : State) (u : Nat) : (s.markRetired u).out = s.out := (rfl)
@[simp] theorem State.markRetired_freeCtr (s : State) (u : Nat) : (s.markRetired u).freeCtr = s.freeCtr := (rfl)
@[simp] theorem State.markRetired_pending (s : State) (u : Nat) : (s.markRetired u).pending = s.pending := (rfl)
@[simp] theorem State.markRetired_rd (s : State) (u : Nat) (g : Fld) (j : Nat) : (s.markRetired u).rd g j = s.rd g j := (rfl)

@[simp] theorem State.markIsolated_regs (s : State) (u : Nat) : (s.markIsolated u).regs = s.regs := (rfl)
@[simp] theorem State.markIsolated_cp (s : State) (u : Nat) : (s.markIsolated u).cp = s.cp := (rfl)
@[simp] theorem State.markIsolated_ev (s : State) (u : Nat) : (s.markIsolated u).ev = s.ev := (rfl)
@[simp] theorem State.markIsolated_flt (s : State) (u : Nat) : (s.markIsolated u).flt = s.flt := (rfl)
@[simp] theorem State.markIsolated_tm (s : State) (u : Nat) : (s.markIsolated u).tm = s.tm := (rfl)
@[simp] theorem State.markIsolated_pr (s : State) (u : Nat) : (s.markIsolated u).pr = s.pr := (rfl)
@[simp] theorem State.markIsolated_pw (s : State) (u : Nat) : (s.markIsolated u).pw = s.pw := (rfl)
@[simp] theorem State.markIsolated_ck (s : State) (u : Nat) : (s.markIsolated u).ck = s.ck := (rfl)
@[simp] theorem State.markIsolated_dp (s : State) (u : Nat) : (s.markIsolated u).dp = s.dp := (rfl)
@[simp] theorem State.markIsolated_at_ (s : State) (u : Nat) : (s.markIsolated u).at_ = s.at_ := (rfl)
@[simp] theorem State.markIsolated_td (s : State) (u : Nat) : (s.markIsolated u).td = s.td := (rfl)
@[simp] theorem State.markIsolated_ql (s : State) (u : Nat) : (s.markIsolated u).ql = s.ql := (rfl)
@[simp] theorem State.markIsolated_tr (s : State) (u : Nat) : (s.markIsolated u).tr = s.tr := (rfl)
@[simp] theorem State.markIsolated_sy (s : State) (u : Nat) : (s.markIsolated u).sy = s.sy := (rfl)
@[simp] theorem State.markIsolated_hs (s : State) (u : Nat) : (s.markIsolated u).hs = s.hs := (rfl)
@[simp] theorem State.markIsolated_po (s : State) (u : Nat) : (s.markIsolated u).po = s.po := (rfl)
@[simp] theorem State.markIsolated_sv (s : State) (u : Nat) : (s.markIsolated u).sv = s.sv := (rfl)
@[simp] theorem State.markIsolated_pk (s : State) (u : Nat) : (s.markIsolated u).pk = s.pk := (rfl)
@[simp] theorem State.markIsolated_id_ (s : State) (u : Nat) : (s.markIsolated u).id_ = s.id_ := (rfl)
@[simp] theorem State.markIsolated_ep (s : State) (u : Nat) : (s.markIsolated u).ep = s.ep := (rfl)
@[simp] theorem State.markIsolated_out (s : State) (u : Nat) : (s.markIsolated u).out = s.out := (rfl)
@[simp] theorem State.markIsolated_freeCtr (s : State) (u : Nat) : (s.markIsolated u).freeCtr = s.freeCtr := (rfl)
@[simp] theorem State.markIsolated_pending (s : State) (u : Nat) : (s.markIsolated u).pending = s.pending := (rfl)
@[simp] theorem State.markIsolated_rd (s : State) (u : Nat) (g : Fld) (j : Nat) : (s.markIsolated u).rd g j = s.rd g j := (rfl)

@[simp] theorem State.clearRetired_regs (s : State) (u : Nat) : (s.clearRetired u).regs = s.regs := (rfl)
@[simp] theorem State.clearRetired_cp (s : State) (u : Nat) : (s.clearRetired u).cp = s.cp := (rfl)
@[simp] theorem State.clearRetired_ev (s : State) (u : Nat) : (s.clearRetired u).ev = s.ev := (rfl)
@[simp] theorem State.clearRetired_flt (s : State) (u : Nat) : (s.clearRetired u).flt = s.flt := (rfl)
@[simp] theorem State.clearRetired_tm (s : State) (u : Nat) : (s.clearRetired u).tm = s.tm := (rfl)
@[simp] theorem State.clearRetired_pr (s : State) (u : Nat) : (s.clearRetired u).pr = s.pr := (rfl)
@[simp] theorem State.clearRetired_pw (s : State) (u : Nat) : (s.clearRetired u).pw = s.pw := (rfl)
@[simp] theorem State.clearRetired_ck (s : State) (u : Nat) : (s.clearRetired u).ck = s.ck := (rfl)
@[simp] theorem State.clearRetired_dp (s : State) (u : Nat) : (s.clearRetired u).dp = s.dp := (rfl)
@[simp] theorem State.clearRetired_at_ (s : State) (u : Nat) : (s.clearRetired u).at_ = s.at_ := (rfl)
@[simp] theorem State.clearRetired_td (s : State) (u : Nat) : (s.clearRetired u).td = s.td := (rfl)
@[simp] theorem State.clearRetired_ql (s : State) (u : Nat) : (s.clearRetired u).ql = s.ql := (rfl)
@[simp] theorem State.clearRetired_tr (s : State) (u : Nat) : (s.clearRetired u).tr = s.tr := (rfl)
@[simp] theorem State.clearRetired_sy (s : State) (u : Nat) : (s.clearRetired u).sy = s.sy := (rfl)
@[simp] theorem State.clearRetired_hs (s : State) (u : Nat) : (s.clearRetired u).hs = s.hs := (rfl)
@[simp] theorem State.clearRetired_po (s : State) (u : Nat) : (s.clearRetired u).po = s.po := (rfl)
@[simp] theorem State.clearRetired_sv (s : State) (u : Nat) : (s.clearRetired u).sv = s.sv := (rfl)
@[simp] theorem State.clearRetired_pk (s : State) (u : Nat) : (s.clearRetired u).pk = s.pk := (rfl)
@[simp] theorem State.clearRetired_id_ (s : State) (u : Nat) : (s.clearRetired u).id_ = s.id_ := (rfl)
@[simp] theorem State.clearRetired_ep (s : State) (u : Nat) : (s.clearRetired u).ep = s.ep := (rfl)
@[simp] theorem State.clearRetired_out (s : State) (u : Nat) : (s.clearRetired u).out = s.out := (rfl)
@[simp] theorem State.clearRetired_freeCtr (s : State) (u : Nat) : (s.clearRetired u).freeCtr = s.freeCtr := (rfl)
@[simp] theorem State.clearRetired_pending (s : State) (u : Nat) : (s.clearRetired u).pending = s.pending := (rfl)
@[simp] theorem State.clearRetired_rd (s : State) (u : Nat) (g : Fld) (j : Nat) : (s.clearRetired u).rd g j = s.rd g j := (rfl)

@[simp] theorem State.clearIsolated_regs (s : State) (u : Nat) : (s.clearIsolated u).regs = s.regs := (rfl)
@[simp] theorem State.clearIsolated_cp (s : State) (u : Nat) : (s.clearIsolated u).cp = s.cp := (rfl)
@[simp] theorem State.clearIsolated_ev (s : State) (u : Nat) : (s.clearIsolated u).ev = s.ev := (rfl)
@[simp] theorem State.clearIsolated_flt (s : State) (u : Nat) : (s.clearIsolated u).flt = s.flt := (rfl)
@[simp] theorem State.clearIsolated_tm (s : State) (u : Nat) : (s.clearIsolated u).tm = s.tm := (rfl)
@[simp] theorem State.clearIsolated_pr (s : State) (u : Nat) : (s.clearIsolated u).pr = s.pr := (rfl)
@[simp] theorem State.clearIsolated_pw (s : State) (u : Nat) : (s.clearIsolated u).pw = s.pw := (rfl)
@[simp] theorem State.clearIsolated_ck (s : State) (u : Nat) : (s.clearIsolated u).ck = s.ck := (rfl)
@[simp] theorem State.clearIsolated_dp (s : State) (u : Nat) : (s.clearIsolated u).dp = s.dp := (rfl)
@[simp] theorem State.clearIsolated_at_ (s : State) (u : Nat) : (s.clearIsolated u).at_ = s.at_ := (rfl)
@[simp] theorem State.clearIsolated_td (s : State) (u : Nat) : (s.clearIsolated u).td = s.td := (rfl)
@[simp] theorem State.clearIsolated_ql (s : State) (u : Nat) : (s.clearIsolated u).ql = s.ql := (rfl)
@[simp] theorem State.clearIsolated_tr (s : State) (u : Nat) : (s.clearIsolated u).tr = s.tr := (rfl)
@[simp] theorem State.clearIsolated_sy (s : State) (u : Nat) : (s.clearIsolated u).sy = s.sy := (rfl)
@[simp] theorem State.clearIsolated_hs (s : State) (u : Nat) : (s.clearIsolated u).hs = s.hs := (rfl)
@[simp] theorem State.clearIsolated_po (s : State) (u : Nat) : (s.clearIsolated u).po = s.po := (rfl)
@[simp] theorem State.clearIsolated_sv (s : State) (u : Nat) : (s.clearIsolated u).sv = s.sv := (rfl)
@[simp] theorem State.clearIsolated_pk (s : State) (u : Nat) : (s.clearIsolated u).pk = s.pk := (rfl)
@[simp] theorem State.clearIsolated_id_ (s : State) (u : Nat) : (s.clearIsolated u).id_ = s.id_ := (rfl)
@[simp] theorem State.clearIsolated_ep (s : State) (u : Nat) : (s.clearIsolated u).ep = s.ep := (rfl)
@[simp] theorem State.clearIsolated_out (s : State) (u : Nat) : (s.clearIsolated u).out = s.out := (rfl)
@[simp] theorem State.clearIsolated_freeCtr (s : State) (u : Nat) : (s.clearIsolated u).freeCtr = s.freeCtr := (rfl)
@[simp] theorem State.clearIsolated_pending (s : State) (u : Nat) : (s.clearIsolated u).pending = s.pending := (rfl)
@[simp] theorem State.clearIsolated_rd (s : State) (u : Nat) (g : Fld) (j : Nat) : (s.clearIsolated u).rd g j = s.rd g j := (rfl)

/-! What is put is read back. -/

@[simp] theorem State.dpll_setDpll (s : State) (d : Nat) (p : DpllSt) : (s.setDpll d p).dpll d = p := Tab.at_set_self _ _ _ _

theorem State.dpll_setDpll_ne (s : State) (d : Nat) (p : DpllSt) {k : Nat} (h : k ≠ d) : (s.setDpll d p).dpll k = s.dpll k :=
  Tab.at_set_ne _ _ _ _ h

@[simp] theorem State.chan_setChan (s : State) (d : Nat) (p : ChanSt) : (s.setChan d p).chan d = p := Tab.at_set_self _ _ _ _

theorem State.chan_setChan_ne (s : State) (d : Nat) (p : ChanSt) {k : Nat} (h : k ≠ d) : (s.setChan d p).chan k = s.chan k :=
  Tab.at_set_ne _ _ _ _ h

@[simp] theorem State.est_setEst (s : State) (d : Nat) (p : EstSt) : (s.setEst d p).est d = p := Tab.at_set_self _ _ _ _

theorem State.est_setEst_ne (s : State) (d : Nat) (p : EstSt) {k : Nat} (h : k ≠ d) : (s.setEst d p).est k = s.est k :=
  Tab.at_set_ne _ _ _ _ h

@[simp] theorem State.take_setTake (s : State) (d : Nat) (p : TakeSt) : (s.setTake d p).take d = p := Tab.at_set_self _ _ _ _

theorem State.take_setTake_ne (s : State) (d : Nat) (p : TakeSt) {k : Nat} (h : k ≠ d) : (s.setTake d p).take k = s.take k :=
  Tab.at_set_ne _ _ _ _ h

@[simp] theorem State.mon_setMon (s : State) (d : Nat) (p : QualSt) : (s.setMon d p).mon d = p := Tab.at_set_self _ _ _ _

theorem State.mon_setMon_ne (s : State) (d : Nat) (p : QualSt) {k : Nat} (h : k ≠ d) : (s.setMon d p).mon k = s.mon k :=
  Tab.at_set_ne _ _ _ _ h

@[simp] theorem State.feed_setFeed (s : State) (d : Nat) (p : FeedSt) : (s.setFeed d p).feed d = p := Tab.at_set_self _ _ _ _

theorem State.feed_setFeed_ne (s : State) (d : Nat) (p : FeedSt) {k : Nat} (h : k ≠ d) : (s.setFeed d p).feed k = s.feed k :=
  Tab.at_set_ne _ _ _ _ h

@[simp] theorem State.outSt_setOut (s : State) (d : Nat) (p : OutSt) : (s.setOut d p).outSt d = p := Tab.at_set_self _ _ _ _

theorem State.outSt_setOut_ne (s : State) (d : Nat) (p : OutSt) {k : Nat} (h : k ≠ d) : (s.setOut d p).outSt k = s.outSt k :=
  Tab.at_set_ne _ _ _ _ h

@[simp] theorem State.loopSt_setLoop (s : State) (d : Nat) (p : LoopSt) : (s.setLoop d p).loopSt d = p := Tab.at_set_self _ _ _ _

theorem State.loopSt_setLoop_ne (s : State) (d : Nat) (p : LoopSt) {k : Nat} (h : k ≠ d) : (s.setLoop d p).loopSt k = s.loopSt k :=
  Tab.at_set_ne _ _ _ _ h

@[simp] theorem State.node_setNode (s : State) (d : Nat) (p : NodeSt) : (s.setNode d p).node d = p := Tab.at_set_self _ _ _ _

theorem State.node_setNode_ne (s : State) (d : Nat) (p : NodeSt) {k : Nat} (h : k ≠ d) : (s.setNode d p).node k = s.node k :=
  Tab.at_set_ne _ _ _ _ h

@[simp] theorem State.servo_setServo (s : State) (d : Nat) (p : ServoSt) : (s.setServo d p).servo d = p := Tab.at_set_self _ _ _ _

theorem State.servo_setServo_ne (s : State) (d : Nat) (p : ServoSt) {k : Nat} (h : k ≠ d) : (s.setServo d p).servo k = s.servo k :=
  Tab.at_set_ne _ _ _ _ h

@[simp] theorem State.port_setPort (s : State) (d : Nat) (p : PortSt) : (s.setPort d p).port d = p := Tab.at_set_self _ _ _ _

theorem State.port_setPort_ne (s : State) (d : Nat) (p : PortSt) {k : Nat} (h : k ≠ d) : (s.setPort d p).port k = s.port k :=
  Tab.at_set_ne _ _ _ _ h

@[simp] theorem State.svcPort_setSvcPort (s : State) (d : Nat) (p : SvcPort) : (s.setSvcPort d p).svcPort d = p := Tab.at_set_self _ _ _ _

theorem State.svcPort_setSvcPort_ne (s : State) (d : Nat) (p : SvcPort) {k : Nat} (h : k ≠ d) : (s.setSvcPort d p).svcPort k = s.svcPort k :=
  Tab.at_set_ne _ _ _ _ h

@[simp] theorem State.reel_putReel (s : State) (r : Nat) (x : Reel) : (s.putReel r x).reel? r = some x := Tab.find_put_self _ _ _

/-! The state after reset. -/

theorem State.reset_rd (f : Fld) (i : Nat) : State.reset.rd f i = f.reset i := rfl

end Sys2Proof.Machine
end

