-- ==== Sys2Proof/Laws/RdOps.lean ====
section
/-! SUPPORT. Register fields through the operations: a field that an operation does not write reads as before. Each lemma is
the field clause of the operation's `…_keeps`; `simp +decide` closes its side condition. -/

set_option Elab.async false

namespace Sys2Proof.Machine

variable {t : State}

@[simp] theorem State.accessFault_rd {x1 x2 x3 x4} {f : Fld} {i : Nat} (h : Nat.testBit 0x8017d100000100000000000000440000000000000020000000000000000000000000000000000000000000000000080000000600000000000000000000000000000000000000000000000000000000000000000000000000000000000000000000000000000000000 f.id = false) :
    (State.accessFault t x1 x2 x3 x4).rd f i = t.rd f i := (State.accessFault_keeps (Keeps.refl 0x8017d100000100000000000000440000000000000020000000000000000000000000000000000000000000000000080000000600000000000000000000000000000000000000000000000000000000000000000000000000000000000000000000000000000000000 0x304026 t) (Sub.refl _) (Sub.refl _)).rd f i rfl h

@[simp] theorem State.noteLocked_rd {x1 x2 x3} {f : Fld} {i : Nat} (h : Nat.testBit 0x10000000000000008017d100000100000000000000440000000000000020000000000000000000000000000000000000000000000000080000000600000000000000000000000000000000000000000000000000000000000000000000000000000000000000000000000000000000000 f.id = false) :
    (State.noteLocked t x1 x2 x3).rd f i = t.rd f i := (State.noteLocked_keeps (Keeps.refl 0x10000000000000008017d100000100000000000000440000000000000020000000000000000000000000000000000000000000000000080000000600000000000000000000000000000000000000000000000000000000000000000000000000000000000000000000000000000000000 0x304026 t) (Sub.refl _) (Sub.refl _)).rd f i rfl h

@[simp] theorem State.outcome_rd {x1 x2 x3} {f : Fld} {i : Nat} (h : Nat.testBit 0x40e0000000000000000000000000000000000000000000000000000000000000000000000000000000000000000000000000000000000000000000000000000000000000000000000000000000000000000000000000000000000000000000000000000000000000000000000000000000 f.id = false) :
    (State.outcome t x1 x2 x3).rd f i = t.rd f i := (State.outcome_keeps (Keeps.refl 0x40e0000000000000000000000000000000000000000000000000000000000000000000000000000000000000000000000000000000000000000000000000000000000000000000000000000000000000000000000000000000000000000000000000000000000000000000000000000000 0 t) (Sub.refl _)).rd f i rfl h

@[simp] theorem State.noteNotOwner_rd {x1 x2 x3} {f : Fld} {i : Nat} (h : Nat.testBit 0x20000000000000008017d100000100000000000000440000000000000020000000000000000000000000000000000000000000000000080000000600000000000000000000000000000000000000000000000000000000000000000000000000000000000000000000000000000000000 f.id = false) :
    (State.noteNotOwner t x1 x2 x3).rd f i = t.rd f i := (State.noteNotOwner_keeps (Keeps.refl 0x20000000000000008017d100000100000000000000440000000000000020000000000000000000000000000000000000000000000000080000000600000000000000000000000000000000000000000000000000000000000000000000000000000000000000000000000000000000000 0x304026 t) (Sub.refl _) (Sub.refl _)).rd f i rfl h

@[simp] theorem State.negotiate_rd {x1} {f : Fld} {i : Nat} (h : Nat.testBit 0x8020000001000000000000000000000000000000000000000000000000000000000000000000000000000000000000000000000000000000000000000000000000000000000000000000000000000000000000000 f.id = false) :
    (State.negotiate t x1).rd f i = t.rd f i := (State.negotiate_keeps (Keeps.refl 0x8020000001000000000000000000000000000000000000000000000000000000000000000000000000000000000000000000000000000000000000000000000000000000000000000000000000000000000000000 0x104002 t) (Sub.refl _) (Sub.refl _)).rd f i rfl h

@[simp] theorem State.drainReview_rd {x1} {f : Fld} {i : Nat} (h : Nat.testBit 0x8020000000000000000000000000000000000000000000000000000000000000000000000000000000000000000000000000000000000000000000000000000000000000000000000000000000000000000000000 f.id = false) :
    (State.drainReview t x1).rd f i = t.rd f i := (State.drainReview_keeps (Keeps.refl 0x8020000000000000000000000000000000000000000000000000000000000000000000000000000000000000000000000000000000000000000000000000000000000000000000000000000000000000000000000 0x104002 t) (Sub.refl _) (Sub.refl _)).rd f i rfl h

@[simp] theorem State.unitOpCmd_rd {x1} {f : Fld} {i : Nat} (h : Nat.testBit 0x1e000000000001000000000008017d100000100038000000000740005fffff0008022000031383c00000000000000000002080000000003e0000008000000060404000018008800800000a6000001008f7000000000000000c0000b28000000200010003986800042009b6b7fc1c080000e0700440 f.id = false) :
    (State.unitOpCmd t x1).rd f i = t.rd f i := (State.unitOpCmd_keeps (Keeps.refl 0x1e000000000001000000000008017d100000100038000000000740005fffff0008022000031383c00000000000000000002080000000003e0000008000000060404000018008800800000a6000001008f7000000000000000c0000b28000000200010003986800042009b6b7fc1c080000e0700440 0x23afffe t) (Sub.refl _) (Sub.refl _)).rd f i rfl h

@[simp] theorem State.adminStop_rd {x1} {f : Fld} {i : Nat} : (State.adminStop t x1).rd f i = t.rd f i :=
  (State.adminStop_keeps (Keeps.refl 0 0x422a t) (Sub.refl _)).rd f i rfl (Nat.zero_testBit _)

@[simp] theorem State.adminStart_rd {x1} {f : Fld} {i : Nat} (h : Nat.testBit 0x20000000000000000000000000000000000000000000000000000000000000000000000000000000000000000000000000000000000000000000000000000000000000000000000000000000000000000000000000 f.id = false) :
    (State.adminStart t x1).rd f i = t.rd f i := (State.adminStart_keeps (Keeps.refl 0x20000000000000000000000000000000000000000000000000000000000000000000000000000000000000000000000000000000000000000000000000000000000000000000000000000000000000000000000000 0x4002 t) (Sub.refl _) (Sub.refl _)).rd f i rfl h

@[simp] theorem State.adminCfgWrite_rd {x1 x2} {f : Fld} {i : Nat} (h : Nat.testBit 0x27000000000000000000000000000000000000000000000000000000000000000000000000000000000000000000000000000000000000000000000000000000000000000000000000000000000000000000000000 f.id = false) :
    (State.adminCfgWrite t x1 x2).rd f i = t.rd f i := (State.adminCfgWrite_keeps (Keeps.refl 0x27000000000000000000000000000000000000000000000000000000000000000000000000000000000000000000000000000000000000000000000000000000000000000000000000000000000000000000000000 0x422a t) (Sub.refl _) (Sub.refl _)).rd f i rfl h

@[simp] theorem State.createReelCmd_rd {x1} {f : Fld} {i : Nat} (h : Nat.testBit 0x8020000000000000000000000000000000000000000000000000000000000000000000000000000000000000000000000000000000000000000000000000000000000000000000000000000000000000000000000 f.id = false) :
    (State.createReelCmd t x1).rd f i = t.rd f i := (State.createReelCmd_keeps (Keeps.refl 0x8020000000000000000000000000000000000000000000000000000000000000000000000000000000000000000000000000000000000000000000000000000000000000000000000000000000000000000000000 0x104002 t) (Sub.refl _) (Sub.refl _)).rd f i rfl h

@[simp] theorem State.setVector_rd {x1} {f : Fld} {i : Nat} (h : Nat.testBit 0x8020000000000000000000000000000000000000000000000000000000000000000000000000000000000000000000000000000000000000000000000000000000000000000000000000000000000000000000000 f.id = false) :
    (State.setVector t x1).rd f i = t.rd f i := (State.setVector_keeps (Keeps.refl 0x8020000000000000000000000000000000000000000000000000000000000000000000000000000000000000000000000000000000000000000000000000000000000000000000000000000000000000000000000 0x104002 t) (Sub.refl _) (Sub.refl _)).rd f i rfl h

@[simp] theorem State.fullResetCmd_rd {x1} {f : Fld} {i : Nat} (h : Nat.testBit 0x8020000000000000000000000000000000000000000000000000000000000000000000000000000000000000000000000000000000000000000000000000000000000000000000000000000000000000000000000 f.id = false) :
    (State.fullResetCmd t x1).rd f i = t.rd f i := (State.fullResetCmd_keeps (Keeps.refl 0x8020000000000000000000000000000000000000000000000000000000000000000000000000000000000000000000000000000000000000000000000000000000000000000000000000000000000000000000000 0x104002 t) (Sub.refl _) (Sub.refl _)).rd f i rfl h

@[simp] theorem State.atticWriteCmd_rd {x1 x2} {f : Fld} {i : Nat} (h : Nat.testBit 0x8017d1000001000000000000004400000000000080200f8000000000000000000000000000000000000000000000080000000600000000000000000000000000000000000000000000000000000000000000000000000000000000000000000000000000000000000 f.id = false) :
    (State.atticWriteCmd t x1 x2).rd f i = t.rd f i := (State.atticWriteCmd_keeps (Keeps.refl 0x8017d1000001000000000000004400000000000080200f8000000000000000000000000000000000000000000000080000000600000000000000000000000000000000000000000000000000000000000000000000000000000000000000000000000000000000000 0x30422e t) (Sub.refl _) (Sub.refl _)).rd f i rfl h

@[simp] theorem State.completionWrite_rd {x1} {f : Fld} {i : Nat} (h : Nat.testBit 0x8020000000000000000000000000000000000000000000000000000000000000000000000000000000000000000000000000000000000000000000000000000000000000000000000000000000000000000000000 f.id = false) :
    (State.completionWrite t x1).rd f i = t.rd f i := (State.completionWrite_keeps (Keeps.refl 0x8020000000000000000000000000000000000000000000000000000000000000000000000000000000000000000000000000000000000000000000000000000000000000000000000000000000000000000000000 0x104002 t) (Sub.refl _) (Sub.refl _)).rd f i rfl h

@[simp] theorem State.adminBadOpcode_rd {x1} {f : Fld} {i : Nat} (h : Nat.testBit 0x8020000000000000000000000000000000000000000000000000000000000000000000000000000000000000000000000000000000000000000000000000000000000000000000000000000000000000000000000 f.id = false) :
    (State.adminBadOpcode t x1).rd f i = t.rd f i := (State.adminBadOpcode_keeps (Keeps.refl 0x8020000000000000000000000000000000000000000000000000000000000000000000000000000000000000000000000000000000000000000000000000000000000000000000000000000000000000000000000 0x104002 t) (Sub.refl _) (Sub.refl _)).rd f i rfl h

@[simp] theorem State.reelStatusCmd_rd {x1} {f : Fld} {i : Nat} (h : Nat.testBit 0x8020000000000000000000000000000000000000000000000000000000000000000000000000000000000000000000000000000000000000000000000000000000000000000000000000000000000000000000000 f.id = false) :
    (State.reelStatusCmd t x1).rd f i = t.rd f i := (State.reelStatusCmd_keeps (Keeps.refl 0x8020000000000000000000000000000000000000000000000000000000000000000000000000000000000000000000000000000000000000000000000000000000000000000000000000000000000000000000000 0x104002 t) (Sub.refl _) (Sub.refl _)).rd f i rfl h

@[simp] theorem State.atticReadCmd_rd {x1 x2} {f : Fld} {i : Nat} (h : Nat.testBit 0x200000008017d100000100000000000000440000000000008020000000000000000000000000000000000000000000000000080000000600000000000000000000000000000000000000000000000000000000000000000000000000000000000000000000000000000000000 f.id = false) :
    (State.atticReadCmd t x1 x2).rd f i = t.rd f i := (State.atticReadCmd_keeps (Keeps.refl 0x200000008017d100000100000000000000440000000000008020000000000000000000000000000000000000000000000000080000000600000000000000000000000000000000000000000000000000000000000000000000000000000000000000000000000000000000000 0x30422e t) (Sub.refl _) (Sub.refl _)).rd f i rfl h

@[simp] theorem State.endDrains_rd {x1} {f : Fld} {i : Nat} (h : Nat.testBit 0x8020000000000000000000000000000000000000000000000000000000000000000000000000000000000000000000000000000000000000000000000000000000000000000000000000000000000000000000000 f.id = false) :
    (State.endDrains t x1).rd f i = t.rd f i := (State.endDrains_keeps (Keeps.refl 0x8020000000000000000000000000000000000000000000000000000000000000000000000000000000000000000000000000000000000000000000000000000000000000000000000000000000000000000000000 0x104002 t) (Sub.refl _) (Sub.refl _)).rd f i rfl h

@[simp] theorem State.pairSwitchCmd_rd {x1} {f : Fld} {i : Nat} (h : Nat.testBit 0x4800018f0000462000000000008020000000000000000000000000000000000000000000000000000000000000000000000000000000000000000000000000000000000000000000000000000000000000000000000000000000000000000000000 f.id = false) :
    (State.pairSwitchCmd t x1).rd f i = t.rd f i := (State.pairSwitchCmd_keeps (Keeps.refl 0x4800018f0000462000000000008020000000000000000000000000000000000000000000000000000000000000000000000000000000000000000000000000000000000000000000000000000000000000000000000000000000000000000000000 0x106022 t) (Sub.refl _) (Sub.refl _)).rd f i rfl h

@[simp] theorem State.cancelWork_rd {x1} {f : Fld} {i : Nat} (h : Nat.testBit 0x20000000000000000000000000000000000000000000000000000000000000000000000000000000000000000000000000000000000000000000000000000000000000000000000000000000000000000000000 f.id = false) :
    (State.cancelWork t x1).rd f i = t.rd f i := (State.cancelWork_keeps (Keeps.refl 0x20000000000000000000000000000000000000000000000000000000000000000000000000000000000000000000000000000000000000000000000000000000000000000000000000000000000000000000000 0x104000 t) (Sub.refl _) (Sub.refl _)).rd f i rfl h

@[simp] theorem State.destroyReelCmd_rd {x1} {f : Fld} {i : Nat} (h : Nat.testBit 0x8017d100000100000000000000440000000000008022000000000000000000000000000000080000000000000000080000000600000000000000000000000000000000000000000000000000000000000000000000000000000000000000000000000000000000000 f.id = false) :
    (State.destroyReelCmd t x1).rd f i = t.rd f i := (State.destroyReelCmd_keeps (Keeps.refl 0x8017d100000100000000000000440000000000008022000000000000000000000000000000080000000000000000080000000600000000000000000000000000000000000000000000000000000000000000000000000000000000000000000000000000000000000 0x304026 t) (Sub.refl _) (Sub.refl _)).rd f i rfl h

@[simp] theorem State.drainTimeout_rd {x1} {f : Fld} {i : Nat} (h : Nat.testBit 0x8020000000000000000000000000000000000000000000000000000000000000000000000000000000000000000000000000000000000000000000000000000000000000000000000000000000000000000000000 f.id = false) :
    (State.drainTimeout t x1).rd f i = t.rd f i := (State.drainTimeout_keeps (Keeps.refl 0x8020000000000000000000000000000000000000000000000000000000000000000000000000000000000000000000000000000000000000000000000000000000000000000000000000000000000000000000000 0x104002 t) (Sub.refl _) (Sub.refl _)).rd f i rfl h

@[simp] theorem State.drainReelCmd_rd {x1} {f : Fld} {i : Nat} (h : Nat.testBit 0x8017d100000100000000000000440000000000008022000000000000000000000000000000080000000000000000080000000600000000000000000000000000000000000000000000000000000000000000000000000000000000000000000000000000000000000 f.id = false) :
    (State.drainReelCmd t x1).rd f i = t.rd f i := (State.drainReelCmd_keeps (Keeps.refl 0x8017d100000100000000000000440000000000008022000000000000000000000000000000080000000000000000080000000600000000000000000000000000000000000000000000000000000000000000000000000000000000000000000000000000000000000 0x304026 t) (Sub.refl _) (Sub.refl _)).rd f i rfl h

@[simp] theorem State.writePages_rd {x1 x2 x3 x4} {f : Fld} {i : Nat} : (State.writePages t x1 x2 x3 x4).rd f i = t.rd f i :=
  (State.writePages_keeps (Keeps.refl 0 0x6a00200 t) (Sub.refl _)).rd f i rfl (Nat.zero_testBit _)

@[simp] theorem State.atticFault_rd {x1 x2 x3} {f : Fld} {i : Nat} (h : Nat.testBit 0x8017d100000100000000000000440000000000000020000000000000000000000000000000000000000000000000080000000600000000000000000000000000000000000000000000000000000000000000000000000000000000000000000000000000000000000 f.id = false) :
    (State.atticFault t x1 x2 x3).rd f i = t.rd f i := (State.atticFault_keeps (Keeps.refl 0x8017d100000100000000000000440000000000000020000000000000000000000000000000000000000000000000080000000600000000000000000000000000000000000000000000000000000000000000000000000000000000000000000000000000000000000 0x304026 t) (Sub.refl _) (Sub.refl _)).rd f i rfl h

@[simp] theorem State.repairDone_rd {x1 x2 x3} {f : Fld} {i : Nat} (h : Nat.testBit 0x8017d100000100000000000000440000000000000020000000000000000000000000000000000000000000000000080000000600000000000000000000000000000000000000000000000000000000000000000000000000000000000000000000000000000000000 f.id = false) :
    (State.repairDone t x1 x2 x3).rd f i = t.rd f i := (State.repairDone_keeps (Keeps.refl 0x8017d100000100000000000000440000000000000020000000000000000000000000000000000000000000000000080000000600000000000000000000000000000000000000000000000000000000000000000000000000000000000000000000000000000000000 0x6b0422e t) (Sub.refl _) (Sub.refl _)).rd f i rfl h

@[simp] theorem State.stage__rd {x1} {f : Fld} {i : Nat} : (State.stage_ t x1).rd f i = t.rd f i :=
  (State.stage__keeps (Keeps.refl 0 0x1000200 t) (Sub.refl _)).rd f i rfl (Nat.zero_testBit _)

@[simp] theorem State.mbResult_rd {x1} {f : Fld} {i : Nat} (h : Nat.testBit 0x3800000000000000000000000000000000000000000000000000000000000000000000000000000000000000000000000000000000000000000000000000000000000000000000000000000000000000000000000000000000000000000000000000000000000000000000 f.id = false) :
    (State.mbResult t x1).rd f i = t.rd f i := (State.mbResult_keeps (Keeps.refl 0x3800000000000000000000000000000000000000000000000000000000000000000000000000000000000000000000000000000000000000000000000000000000000000000000000000000000000000000000000000000000000000000000000000000000000000000000 0 t) (Sub.refl _)).rd f i rfl h

@[simp] theorem State.mbRawRead_rd {f : Fld} {i : Nat} (h : Nat.testBit 0x3800000000000000000000000000000000000000000000000000000000000000000000000000000000000000000000000000000000000000000000000000000000000000000000000000000000000000000000000000000000000000000000000000000000000000000000 f.id = false) :
    (State.mbRawRead t).rd f i = t.rd f i := (State.mbRawRead_keeps (Keeps.refl 0x3800000000000000000000000000000000000000000000000000000000000000000000000000000000000000000000000000000000000000000000000000000000000000000000000000000000000000000000000000000000000000000000000000000000000000000000 0x1000200 t) (Sub.refl _) (Sub.refl _)).rd f i rfl h

@[simp] theorem State.rawWrite_rd {x1 x2 x3} {f : Fld} {i : Nat} : (State.rawWrite t x1 x2 x3).rd f i = t.rd f i :=
  (State.rawWrite_keeps (Keeps.refl 0 0x6800200 t) (Sub.refl _)).rd f i rfl (Nat.zero_testBit _)

@[simp] theorem State.retireListDone_rd {x1} {f : Fld} {i : Nat} (h : Nat.testBit 0x1c000000000000000000000000000000000000000000000000000000000000008020000000000000000000000000000000000000000000000000000000000000000000000000000000000000000000000000000000000000400000000000000000000000000000000000000000000000000000000 f.id = false) :
    (State.retireListDone t x1).rd f i = t.rd f i := (State.retireListDone_keeps (Keeps.refl 0x1c000000000000000000000000000000000000000000000000000000000000008020000000000000000000000000000000000000000000000000000000000000000000000000000000000000000000000000000000000000400000000000000000000000000000000000000000000000000000000 0x10400a t) (Sub.refl _) (Sub.refl _)).rd f i rfl h

@[simp] theorem State.commitReply_rd {x1 x2 x3} {f : Fld} {i : Nat} (h : Nat.testBit 0x1c000000000000000007000000000000000000000000000000000000000000008020000000000000000000000000000000000000000000000000000000000000000000000000000000000000000000000000000000000001400000000000000000000000000000000000000000000000000000000 f.id = false) :
    (State.commitReply t x1 x2 x3).rd f i = t.rd f i := (State.commitReply_keeps (Keeps.refl 0x1c000000000000000007000000000000000000000000000000000000000000008020000000000000000000000000000000000000000000000000000000000000000000000000000000000000000000000000000000000001400000000000000000000000000000000000000000000000000000000 0x10400a t) (Sub.refl _) (Sub.refl _)).rd f i rfl h

@[simp] theorem State.portNext_rd {f : Fld} {i : Nat} : (State.portNext t).rd f i = t.rd f i :=
  (State.portNext_keeps (Keeps.refl 0 0x2000208 t) (Sub.refl _)).rd f i rfl (Nat.zero_testBit _)

@[simp] theorem State.commitRegs_rd {x1 x2 x3 x4} {f : Fld} {i : Nat} (h : Nat.testBit 0xfc00000008017d100000100000000000000440000000000000020000000000000000000000000000000000000000000000000080000000600000000000000000000000000000000000000000000000000000000000000000000000000000000000000000000000000000000000 f.id = false) :
    (State.commitRegs t x1 x2 x3 x4).rd f i = t.rd f i := (State.commitRegs_keeps (Keeps.refl 0xfc00000008017d100000100000000000000440000000000000020000000000000000000000000000000000000000000000000080000000600000000000000000000000000000000000000000000000000000000000000000000000000000000000000000000000000000000000 0x304026 t) (Sub.refl _) (Sub.refl _)).rd f i rfl h

@[simp] theorem State.commitDone_rd {x1 x2} {f : Fld} {i : Nat} (h : Nat.testBit 0x1c0000000000000fc00700008017d100000100000000000000440000000000008020000000000000000000000000000000000000000000000000080000000600000000000000000000000000000000000000000000000001400000000000000000000000000000000000000000000000000000000 f.id = false) :
    (State.commitDone t x1 x2).rd f i = t.rd f i := (State.commitDone_keeps (Keeps.refl 0x1c0000000000000fc00700008017d100000100000000000000440000000000008020000000000000000000000000000000000000000000000000080000000600000000000000000000000000000000000000000000000001400000000000000000000000000000000000000000000000000000000 0x6b0422e t) (Sub.refl _) (Sub.refl _)).rd f i rfl h

@[simp] theorem State.refreshed_rd {x1} {f : Fld} {i : Nat} (h : Nat.testBit 0x200000000000000000000000000000000000000000000000000000000000000000000000000000000000000000000000000000000000000000000000000000000000000000000000000000000000000000000000000000000000000000000000000000000000000000000000 f.id = false) :
    (State.refreshed t x1).rd f i = t.rd f i := (State.refreshed_keeps (Keeps.refl 0x200000000000000000000000000000000000000000000000000000000000000000000000000000000000000000000000000000000000000000000000000000000000000000000000000000000000000000000000000000000000000000000000000000000000000000000000 0x2 t) (Sub.refl _) (Sub.refl _)).rd f i rfl h

@[simp] theorem State.stagingNext_rd {f : Fld} {i : Nat} (h : Nat.testBit 0x40000000000000000000000000000000000000000000000000000000000000000000000000000000000000000000000000000000000000000000000000000000000000000000000000000000000000000000000000000000000000000000000000000000000000000000 f.id = false) :
    (State.stagingNext t).rd f i = t.rd f i := (State.stagingNext_keeps (Keeps.refl 0x40000000000000000000000000000000000000000000000000000000000000000000000000000000000000000000000000000000000000000000000000000000000000000000000000000000000000000000000000000000000000000000000000000000000000000000 0 t) (Sub.refl _)).rd f i rfl h

@[simp] theorem State.queueRepair_rd {x1 x2 x3 x4} {f : Fld} {i : Nat} : (State.queueRepair t x1 x2 x3 x4).rd f i = t.rd f i :=
  (State.queueRepair_keeps (Keeps.refl 0 0x208 t) (Sub.refl _)).rd f i rfl (Nat.zero_testBit _)

@[simp] theorem State.noteChosen_rd {x1 x2 x3 x4} {f : Fld} {i : Nat} (h : Nat.testBit 0x200000008017d100000100000000000000440000000000000020000000000000000000000000000000000000000000000000080000000600000000000000000000000000000000000000000000000000000000000000000000000000000000000000000000000000000000000 f.id = false) :
    (State.noteChosen t x1 x2 x3 x4).rd f i = t.rd f i := (State.noteChosen_keeps (Keeps.refl 0x200000008017d100000100000000000000440000000000000020000000000000000000000000000000000000000000000000080000000600000000000000000000000000000000000000000000000000000000000000000000000000000000000000000000000000000000000 0x30422e t) (Sub.refl _) (Sub.refl _)).rd f i rfl h

@[simp] theorem State.noteLife_rd {f : Fld} {i : Nat} (h : Nat.testBit 0x8017d100000100000000000000440000000000000020000000000000000000000000000000000000000000000000080000000600000000000000000000000000000000000000000000000000000000000000000000000000000000000000000000000000000000000 f.id = false) :
    (State.noteLife t).rd f i = t.rd f i := (State.noteLife_keeps (Keeps.refl 0x8017d100000100000000000000440000000000000020000000000000000000000000000000000000000000000000080000000600000000000000000000000000000000000000000000000000000000000000000000000000000000000000000000000000000000000 0x304026 t) (Sub.refl _) (Sub.refl _)).rd f i rfl h

@[simp] theorem State.mbRead_rd {f : Fld} {i : Nat} (h : Nat.testBit 0x200790008017d100000100000000000000440000000000000020000000000000000000000000000000000000000000000000080000000600000000000000000000000000000000000000000000000000000000000000000000000000000000000000000000000000000000000 f.id = false) :
    (State.mbRead t).rd f i = t.rd f i := (State.mbRead_keeps (Keeps.refl 0x200790008017d100000100000000000000440000000000000020000000000000000000000000000000000000000000000000080000000600000000000000000000000000000000000000000000000000000000000000000000000000000000000000000000000000000000000 0x130422e t) (Sub.refl _) (Sub.refl _)).rd f i rfl h

@[simp] theorem State.stopCommit_rd {x1} {f : Fld} {i : Nat} (h : Nat.testBit 0x20000000000000000000000000000000000000000000000000000000000000000000000000000000000000000000000000000000000000000000000000000000000000000000000000000000000000000000000000000000000000000000000000000000000000000000000000 f.id = false) :
    (State.stopCommit t x1).rd f i = t.rd f i := (State.stopCommit_keeps (Keeps.refl 0x20000000000000000000000000000000000000000000000000000000000000000000000000000000000000000000000000000000000000000000000000000000000000000000000000000000000000000000000000000000000000000000000000000000000000000000000000 0x6a00200 t) (Sub.refl _) (Sub.refl _)).rd f i rfl h

@[simp] theorem State.stagingPut_rd {x1} {f : Fld} {i : Nat} (h : Nat.testBit 0x40000000000000000000000000000000000000000000000000000000000000000000000000000000000000000000000000000000000000000000000000000000000000000000000000000000000000000000000000000000000000000000000000000000000000000000 f.id = false) :
    (State.stagingPut t x1).rd f i = t.rd f i := (State.stagingPut_keeps (Keeps.refl 0x40000000000000000000000000000000000000000000000000000000000000000000000000000000000000000000000000000000000000000000000000000000000000000000000000000000000000000000000000000000000000000000000000000000000000000000 0x1000200 t) (Sub.refl _) (Sub.refl _)).rd f i rfl h

@[simp] theorem State.loadLastGasp_rd {f : Fld} {i : Nat} (h : Nat.testBit 0xf00000000000000000000000000000000000000000000000000000000000000000000000000000000000000000000000000000000000000000000000000000000000000000000000000000000000000000000000000000000000000000000000000000000000000000000000000 f.id = false) :
    (State.loadLastGasp t).rd f i = t.rd f i := (State.loadLastGasp_keeps (Keeps.refl 0xf00000000000000000000000000000000000000000000000000000000000000000000000000000000000000000000000000000000000000000000000000000000000000000000000000000000000000000000000000000000000000000000000000000000000000000000000000 0 t) (Sub.refl _)).rd f i rfl h

@[simp] theorem State.lastGasp_rd {x1 x2} {f : Fld} {i : Nat} (h : Nat.testBit 0x200e0000000000000000000000000000000000000000000000000000000000000000000000000000000000000000000000000000000000000000000000000000000000000000000000000000000000000000000000000000000000000000000000000000000000000000000000 f.id = false) :
    (State.lastGasp t x1 x2).rd f i = t.rd f i := (State.lastGasp_keeps (Keeps.refl 0x200e0000000000000000000000000000000000000000000000000000000000000000000000000000000000000000000000000000000000000000000000000000000000000000000000000000000000000000000000000000000000000000000000000000000000000000000000 0x6a00200 t) (Sub.refl _) (Sub.refl _)).rd f i rfl h

@[simp] theorem State.powerOnHour_rd {f : Fld} {i : Nat} (h : Nat.testBit 0x8017d100000100000000000000440000000000000020000000000000000000000000000000000000000000000000080000000600000000000000000000000000000000000000000000000000000000000000000000000000000000000000000000000000000000000 f.id = false) :
    (State.powerOnHour t).rd f i = t.rd f i := (State.powerOnHour_keeps (Keeps.refl 0x8017d100000100000000000000440000000000000020000000000000000000000000000000000000000000000000080000000600000000000000000000000000000000000000000000000000000000000000000000000000000000000000000000000000000000000 0x2304226 t) (Sub.refl _) (Sub.refl _)).rd f i rfl h

@[simp] theorem State.mbWrite_rd {f : Fld} {i : Nat} (h : Nat.testBit 0x3800000000000000000000000000000000000000000000000000000000000000000000000000000000000000000000000000000000000000000000000000000000000000000000000000000000000000000000000000000000000000000000000000000000000000000000 f.id = false) :
    (State.mbWrite t).rd f i = t.rd f i := (State.mbWrite_keeps (Keeps.refl 0x3800000000000000000000000000000000000000000000000000000000000000000000000000000000000000000000000000000000000000000000000000000000000000000000000000000000000000000000000000000000000000000000000000000000000000000000 0x208 t) (Sub.refl _) (Sub.refl _)).rd f i rfl h

@[simp] theorem State.scanPage_rd {x1 x2 x3} {f : Fld} {i : Nat} (h : Nat.testBit 0x3e0000008017d100000100000000000000440000000000000020000000000000000000000000000000000000000000000000080000000600000000000000000000000000000000000000000000000000000000000000000000000000000000000000000000000000000000000 f.id = false) :
    (State.scanPage t x1 x2 x3).rd f i = t.rd f i := (State.scanPage_keeps (Keeps.refl 0x3e0000008017d100000100000000000000440000000000000020000000000000000000000000000000000000000000000000080000000600000000000000000000000000000000000000000000000000000000000000000000000000000000000000000000000000000000000 0x30422e t) (Sub.refl _) (Sub.refl _)).rd f i rfl h

@[simp] theorem State.mbRawWrite_rd {f : Fld} {i : Nat} (h : Nat.testBit 0x3800000000000000000000000000000000000000000000000000000000000000000000000000000000000000000000000000000000000000000000000000000000000000000000000000000000000000000000000000000000000000000000000000000000000000000000 f.id = false) :
    (State.mbRawWrite t).rd f i = t.rd f i := (State.mbRawWrite_keeps (Keeps.refl 0x3800000000000000000000000000000000000000000000000000000000000000000000000000000000000000000000000000000000000000000000000000000000000000000000000000000000000000000000000000000000000000000000000000000000000000000000 0x6800200 t) (Sub.refl _) (Sub.refl _)).rd f i rfl h

@[simp] theorem State.logPageWrite_rd {f : Fld} {i : Nat} (h : Nat.testBit 0xe0000000000000000000000000000000000000000000000000000000000000000000000000000000000000000000000000000000000000000000000000000000000000000000000000000000000000000000000000000000000000000000000000000000000000000000000 f.id = false) :
    (State.logPageWrite t).rd f i = t.rd f i := (State.logPageWrite_keeps (Keeps.refl 0xe0000000000000000000000000000000000000000000000000000000000000000000000000000000000000000000000000000000000000000000000000000000000000000000000000000000000000000000000000000000000000000000000000000000000000000000000 0x2800200 t) (Sub.refl _) (Sub.refl _)).rd f i rfl h

@[simp] theorem State.logRecord_rd {x1} {f : Fld} {i : Nat} (h : Nat.testBit 0x1e0000000000000000000000000000000000000000000000000000000000000000000000000000000000000000000000000000000000000000000000000000000000000000000000000000000000000000000000000000000000000000000000000000000000000000000000 f.id = false) :
    (State.logRecord t x1).rd f i = t.rd f i := (State.logRecord_keeps (Keeps.refl 0x1e0000000000000000000000000000000000000000000000000000000000000000000000000000000000000000000000000000000000000000000000000000000000000000000000000000000000000000000000000000000000000000000000000000000000000000000000 0x2800200 t) (Sub.refl _) (Sub.refl _)).rd f i rfl h

@[simp] theorem State.atticWrite_rd {x1 x2} {f : Fld} {i : Nat} : (State.atticWrite t x1 x2).rd f i = t.rd f i :=
  (State.atticWrite_keeps (Keeps.refl 0 0x6800200 t) (Sub.refl _)).rd f i rfl (Nat.zero_testBit _)

@[simp] theorem State.lifeWrite_rd {x1 x2} {f : Fld} {i : Nat} : (State.lifeWrite t x1 x2).rd f i = t.rd f i :=
  (State.lifeWrite_keeps (Keeps.refl 0 0x2000200 t) (Sub.refl _)).rd f i rfl (Nat.zero_testBit _)

@[simp] theorem State.flushLife_rd {f : Fld} {i : Nat} : (State.flushLife t).rd f i = t.rd f i :=
  (State.flushLife_keeps (Keeps.refl 0 0x2000200 t) (Sub.refl _)).rd f i rfl (Nat.zero_testBit _)

@[simp] theorem State.lifeBump_rd {x1 x2} {f : Fld} {i : Nat} (h : Nat.testBit 0x8017d100000100000000000000440000000000000020000000000000000000000000000000000000000000000000080000000600000000000000000000000000000000000000000000000000000000000000000000000000000000000000000000000000000000000 f.id = false) :
    (State.lifeBump t x1 x2).rd f i = t.rd f i := (State.lifeBump_keeps (Keeps.refl 0x8017d100000100000000000000440000000000000020000000000000000000000000000000000000000000000000080000000600000000000000000000000000000000000000000000000000000000000000000000000000000000000000000000000000000000000 0x2304226 t) (Sub.refl _) (Sub.refl _)).rd f i rfl h

@[simp] theorem State.portStarts_rd {f : Fld} {i : Nat} : (State.portStarts t).rd f i = t.rd f i :=
  (State.portStarts_keeps (Keeps.refl 0 0x208 t) (Sub.refl _)).rd f i rfl (Nat.zero_testBit _)

@[simp] theorem State.portRequest_rd {x1} {f : Fld} {i : Nat} : (State.portRequest t x1).rd f i = t.rd f i :=
  (State.portRequest_keeps (Keeps.refl 0 0x208 t) (Sub.refl _)).rd f i rfl (Nat.zero_testBit _)

@[simp] theorem State.queueRetireList_rd {f : Fld} {i : Nat} (h : Nat.testBit 0x400000000000000000000000000000000000000000000000000000000 f.id = false) :
    (State.queueRetireList t).rd f i = t.rd f i := (State.queueRetireList_keeps (Keeps.refl 0x400000000000000000000000000000000000000000000000000000000 0x208 t) (Sub.refl _) (Sub.refl _)).rd f i rfl h

@[simp] theorem State.listRetire_rd {x1 x2} {f : Fld} {i : Nat} (h : Nat.testBit 0xc00000000000000000000000000000000000000000000000000000000 f.id = false) :
    (State.listRetire t x1 x2).rd f i = t.rd f i := (State.listRetire_keeps (Keeps.refl 0xc00000000000000000000000000000000000000000000000000000000 0xa08 t) (Sub.refl _) (Sub.refl _)).rd f i rfl h

@[simp] theorem State.sampleStraps_rd {x1} {f : Fld} {i : Nat} (h : Nat.testBit 0xc000000000001f80000000000000000c317d100000100000000000007c40000000000000020000000000000000000000000000000000000000000000000080000000600000000000000000000000000000000000000000000000000000000000000000000000000000000000000000000000000000000000 f.id = false) :
    (State.sampleStraps t x1).rd f i = t.rd f i := (State.sampleStraps_keeps (Keeps.refl 0xc000000000001f80000000000000000c317d100000100000000000007c40000000000000020000000000000000000000000000000000000000000000000080000000600000000000000000000000000000000000000000000000000000000000000000000000000000000000000000000000000000000000 0x304026 t) (Sub.refl _) (Sub.refl _)).rd f i rfl h

@[simp] theorem State.loadFactory_rd {f : Fld} {i : Nat} (h : Nat.testBit 0x200000008017d100000100000000000000440000000000000020000000000000000000000000000000000000000000000000080000000600000000000000000000000000000000000000000000000000000000000000000000000000000000000000000000000000000000000 f.id = false) :
    (State.loadFactory t).rd f i = t.rd f i := (State.loadFactory_keeps (Keeps.refl 0x200000008017d100000100000000000000440000000000000020000000000000000000000000000000000000000000000000080000000600000000000000000000000000000000000000000000000000000000000000000000000000000000000000000000000000000000000 0x30422e t) (Sub.refl _) (Sub.refl _)).rd f i rfl h

@[simp] theorem State.resetNRelease_rd {x1} {f : Fld} {i : Nat} (h : Nat.testBit 0xc000000000001f80000000000000000c317d100000100000000000007c40000000000000020000000000000000000000000000000000000000000000000080000000600000000000000000000000000000000000000000000000000000000000000000000000000000000000000000000000000000000000 f.id = false) :
    (State.resetNRelease t x1).rd f i = t.rd f i := (State.resetNRelease_keeps (Keeps.refl 0xc000000000001f80000000000000000c317d100000100000000000007c40000000000000020000000000000000000000000000000000000000000000000080000000600000000000000000000000000000000000000000000000000000000000000000000000000000000000000000000000000000000000 0x304066 t) (Sub.refl _) (Sub.refl _)).rd f i rfl h

@[simp] theorem State.loadRetireList_rd {f : Fld} {i : Nat} (h : Nat.testBit 0x200000008017d100000100000000000000440000000000000020000000000000000000000000000000000000000000000000080000000600000000000000000000000000000000000000000000000001200000000000000000000000000000000000000000000000000000000 f.id = false) :
    (State.loadRetireList t).rd f i = t.rd f i := (State.loadRetireList_keeps (Keeps.refl 0x200000008017d100000100000000000000440000000000000020000000000000000000000000000000000000000000000000080000000600000000000000000000000000000000000000000000000001200000000000000000000000000000000000000000000000000000000 0x304a2e t) (Sub.refl _) (Sub.refl _)).rd f i rfl h

@[simp] theorem State.requestBase_rd {x1} {f : Fld} {i : Nat} (h : Nat.testBit 0x800000000000000 f.id = false) :
    (State.requestBase t x1).rd f i = t.rd f i := (State.requestBase_keeps (Keeps.refl 0x800000000000000 0x80 t) (Sub.refl _) (Sub.refl _)).rd f i rfl h

@[simp] theorem State.directStage_rd {f : Fld} {i : Nat} (h : Nat.testBit 0x10000000000000000000000000000000000000440000000000000000000000000000000000000000000000000000000000000000000000000000000000000000000000000000000000000000000000000000000001080000000000000000000000000018000000000000000000000 f.id = false) :
    (State.directStage t).rd f i = t.rd f i := (State.directStage_keeps (Keeps.refl 0x10000000000000000000000000000000000000440000000000000000000000000000000000000000000000000000000000000000000000000000000000000000000000000000000000000000000000000000000001080000000000000000000000000018000000000000000000000 0x1aaa t) (Sub.refl _) (Sub.refl _)).rd f i rfl h

@[simp] theorem State.stage3HoldoffEnd_rd {f : Fld} {i : Nat} (h : Nat.testBit 0x10000000000000000000000000000000000000440000000000000000000000000000000000000000000000000000000000000000000000000000000000000000000000000000000000000000000000000000000001080000000000000000000000000018000000000000000000000 f.id = false) :
    (State.stage3HoldoffEnd t).rd f i = t.rd f i := (State.stage3HoldoffEnd_keeps (Keeps.refl 0x10000000000000000000000000000000000000440000000000000000000000000000000000000000000000000000000000000000000000000000000000000000000000000000000000000000000000000000000001080000000000000000000000000018000000000000000000000 0x1aaa t) (Sub.refl _) (Sub.refl _)).rd f i rfl h

@[simp] theorem State.disconnect_rd {x1} {f : Fld} {i : Nat} (h : Nat.testBit 0x80000000000000000000000 f.id = false) :
    (State.disconnect t x1).rd f i = t.rd f i := (State.disconnect_keeps (Keeps.refl 0x80000000000000000000000 0x2 t) (Sub.refl _) (Sub.refl _)).rd f i rfl h

@[simp] theorem State.gateTk_rd {f : Fld} {i : Nat} (h : Nat.testBit 0x40000000000000000000000000000000000000000000000000000000000000000000000000000000080000081c00000000000000 f.id = false) :
    (State.gateTk t).rd f i = t.rd f i := (State.gateTk_keeps (Keeps.refl 0x40000000000000000000000000000000000000000000000000000000000000000000000000000000080000081c00000000000000 0x12 t) (Sub.refl _) (Sub.refl _)).rd f i rfl h

@[simp] theorem State.toPath_rd {x1} {f : Fld} {i : Nat} (h : Nat.testBit 0x40000000000000000000000000000000000000000000000000000000000000000000000000000000080000081c00000000000000 f.id = false) :
    (State.toPath t x1).rd f i = t.rd f i := (State.toPath_keeps (Keeps.refl 0x40000000000000000000000000000000000000000000000000000000000000000000000000000000080000081c00000000000000 0x12 t) (Sub.refl _) (Sub.refl _)).rd f i rfl h

@[simp] theorem State.reReferAll_rd {x1 x2} {f : Fld} {i : Nat} : (State.reReferAll t x1 x2).rd f i = t.rd f i :=
  (State.reReferAll_keeps (Keeps.refl 0 0x100 t) (Sub.refl _)).rd f i rfl (Nat.zero_testBit _)

@[simp] theorem State.apll0Off_rd {x1} {f : Fld} {i : Nat} (h : Nat.testBit 0x8008000000000000000000000000000000000000000000000000000000000000000000080000040000000000000000 f.id = false) :
    (State.apll0Off t x1).rd f i = t.rd f i := (State.apll0Off_keeps (Keeps.refl 0x8008000000000000000000000000000000000000000000000000000000000000000000080000040000000000000000 0x2402 t) (Sub.refl _) (Sub.refl _)).rd f i rfl h

@[simp] theorem State.startMove_rd {x1} {f : Fld} {i : Nat} (h : Nat.testBit 0x400000000080080000000000000000000000000000000000000000000000000000000000000000000800003c1c00000000000000 f.id = false) :
    (State.startMove t x1).rd f i = t.rd f i := (State.startMove_keeps (Keeps.refl 0x400000000080080000000000000000000000000000000000000000000000000000000000000000000800003c1c00000000000000 0x2592 t) (Sub.refl _) (Sub.refl _)).rd f i rfl h

@[simp] theorem State.setOscBit_rd {x1 x2 x3} {f : Fld} {i : Nat} (h : Nat.testBit 0x27800000000000000000 f.id = false) :
    (State.setOscBit t x1 x2 x3).rd f i = t.rd f i := (State.setOscBit_keeps (Keeps.refl 0x27800000000000000000 0 t) (Sub.refl _)).rd f i rfl h

@[simp] theorem State.baseUnlock_rd {f : Fld} {i : Nat} (h : Nat.testBit 0x8017d1000001000000000000004400000000000000200000000000000000000000000000000000000000000000000800000006000400001800880080000000000000000000000000000000000000000000000000000000000000000000800000c1c00000000000000 f.id = false) :
    (State.baseUnlock t).rd f i = t.rd f i := (State.baseUnlock_keeps (Keeps.refl 0x8017d1000001000000000000004400000000000000200000000000000000000000000000000000000000000000000800000006000400001800880080000000000000000000000000000000000000000000000000000000000000000000800000c1c00000000000000 0x306436 t) (Sub.refl _) (Sub.refl _)).rd f i rfl h

@[simp] theorem State.baseMoveEnd_rd {f : Fld} {i : Nat} (h : Nat.testBit 0x10000000000000000000000000000000000000440000000000000000000000000000000000000000000000000000000000000000000000000000000000000000000000000000000000000000000000000000000001080000000000000000000000000018000100000000000000000 f.id = false) :
    (State.baseMoveEnd t).rd f i = t.rd f i := (State.baseMoveEnd_keeps (Keeps.refl 0x10000000000000000000000000000000000000440000000000000000000000000000000000000000000000000000000000000000000000000000000000000000000000000000000000000000000000000000000001080000000000000000000000000018000100000000000000000 0x1aaa t) (Sub.refl _) (Sub.refl _)).rd f i rfl h

@[simp] theorem State.notWarm_rd {f : Fld} {i : Nat} (h : Nat.testBit 0x1600200000000000000000 f.id = false) :
    (State.notWarm t).rd f i = t.rd f i := (State.notWarm_keeps (Keeps.refl 0x1600200000000000000000 0 t) (Sub.refl _)).rd f i rfl h

@[simp] theorem State.pathLost_rd {f : Fld} {i : Nat} (h : Nat.testBit 0x40000000000000000000000000000000000000000000000000000000000000000000000000000000080000081c08000000000000 f.id = false) :
    (State.pathLost t).rd f i = t.rd f i := (State.pathLost_keeps (Keeps.refl 0x40000000000000000000000000000000000000000000000000000000000000000000000000000000080000081c08000000000000 0x12 t) (Sub.refl _) (Sub.refl _)).rd f i rfl h

@[simp] theorem State.startAttempt_rd {x1} {f : Fld} {i : Nat} (h : Nat.testBit 0x27800000000000000000 f.id = false) :
    (State.startAttempt t x1).rd f i = t.rd f i := (State.startAttempt_keeps (Keeps.refl 0x27800000000000000000 0x80 t) (Sub.refl _) (Sub.refl _)).rd f i rfl h

@[simp] theorem State.disqualify_rd {x1} {f : Fld} {i : Nat} (h : Nat.testBit 0x40000000000000000000000000000000000000000000000000000000000000000000000000000000083627a81c08000000000000 f.id = false) :
    (State.disqualify t x1).rd f i = t.rd f i := (State.disqualify_keeps (Keeps.refl 0x40000000000000000000000000000000000000000000000000000000000000000000000000000000083627a81c08000000000000 0x92 t) (Sub.refl _) (Sub.refl _)).rd f i rfl h

@[simp] theorem State.gateBase_rd {f : Fld} {i : Nat} (h : Nat.testBit 0x8017d1000001000000000000004400000000000000200000000000000000000000000000000000000000000000000800000006000400001800880080000000000000000000000000000000000000000000000000000000000000000000800005c1c00000000000000 f.id = false) :
    (State.gateBase t).rd f i = t.rd f i := (State.gateBase_keeps (Keeps.refl 0x8017d1000001000000000000004400000000000000200000000000000000000000000000000000000000000000000800000006000400001800880080000000000000000000000000000000000000000000000000000000000000000000800005c1c00000000000000 0x3064b6 t) (Sub.refl _) (Sub.refl _)).rd f i rfl h

@[simp] theorem State.ocxoLost_rd {f : Fld} {i : Nat} (h : Nat.testBit 0x1000000000008017d1000001000000000000004400000000000000200000000000000000000000000000000000000000000000000800000006000400001800880080000000000000000000000000000000000000010800000000000000000000000000980007c1c00000000000000 f.id = false) :
    (State.ocxoLost t).rd f i = t.rd f i := (State.ocxoLost_keeps (Keeps.refl 0x1000000000008017d1000001000000000000004400000000000000200000000000000000000000000000000000000000000000000800000006000400001800880080000000000000000000000000000000000000010800000000000000000000000000980007c1c00000000000000 0x307fbe t) (Sub.refl _) (Sub.refl _)).rd f i rfl h

@[simp] theorem State.tcxoLost_rd {f : Fld} {i : Nat} (h : Nat.testBit 0x8017d1000001000000000000004400000000000000200000000000000000000000000000000000000000000000000800000006000400001800880080000000000000000000000000000000000000000000000000000000000000000000800007c1c00000000000000 f.id = false) :
    (State.tcxoLost t).rd f i = t.rd f i := (State.tcxoLost_keeps (Keeps.refl 0x8017d1000001000000000000004400000000000000200000000000000000000000000000000000000000000000000800000006000400001800880080000000000000000000000000000000000000000000000000000000000000000000800007c1c00000000000000 0x3065b6 t) (Sub.refl _) (Sub.refl _)).rd f i rfl h

@[simp] theorem State.monFallback_rd {x1} {f : Fld} {i : Nat} (h : Nat.testBit 0x1000000000008017d100000100000000000000440000000000000020000000000000000000000000000000000000000000000000080000000e0004000018008800800000000000000000000000000000000000000108000000000000000000000000009b627fc1c28000000000000 f.id = false) :
    (State.monFallback t x1).rd f i = t.rd f i := (State.monFallback_keeps (Keeps.refl 0x1000000000008017d100000100000000000000440000000000000020000000000000000000000000000000000000000000000000080000000e0004000018008800800000000000000000000000000000000000000108000000000000000000000000009b627fc1c28000000000000 0x307fbe t) (Sub.refl _) (Sub.refl _)).rd f i rfl h

@[simp] theorem State.retireOsc_rd {x1} {f : Fld} {i : Nat} (h : Nat.testBit 0x8017d100000100000000000000440000000000000020000000000000000000000000000000000000000000000000080000000600000000000000000000000000000000000000000000000000000000000000000000000000000000000000027800000000000000000 f.id = false) :
    (State.retireOsc t x1).rd f i = t.rd f i := (State.retireOsc_keeps (Keeps.refl 0x8017d100000100000000000000440000000000000020000000000000000000000000000000000000000000000000080000000600000000000000000000000000000000000000000000000000000000000000000000000000000000000000027800000000000000000 0x30402e t) (Sub.refl _) (Sub.refl _)).rd f i rfl h

@[simp] theorem State.attemptFails_rd {x1 x2} {f : Fld} {i : Nat} (h : Nat.testBit 0x8017d1000001000000000000004400000000000000200000000000000000000000000000000000000000000000000800000006000000000000000000000000000000000000000000000000000000000000000000000000000000000000000ff800000000000000000 f.id = false) :
    (State.attemptFails t x1 x2).rd f i = t.rd f i := (State.attemptFails_keeps (Keeps.refl 0x8017d1000001000000000000004400000000000000200000000000000000000000000000000000000000000000000800000006000000000000000000000000000000000000000000000000000000000000000000000000000000000000000ff800000000000000000 0x3040ae t) (Sub.refl _) (Sub.refl _)).rd f i rfl h

@[simp] theorem State.oscAmplitudeTimeout_rd {x1} {f : Fld} {i : Nat} (h : Nat.testBit 0x8017d1000001000000000000004400000000000000200000000000000000000000000000000000000000000000000800000006000000000000000000000000000000000000000000000000000000000000000000000000000000000000000ff800000000000000000 f.id = false) :
    (State.oscAmplitudeTimeout t x1).rd f i = t.rd f i := (State.oscAmplitudeTimeout_keeps (Keeps.refl 0x8017d1000001000000000000004400000000000000200000000000000000000000000000000000000000000000000800000006000000000000000000000000000000000000000000000000000000000000000000000000000000000000000ff800000000000000000 0x3040ae t) (Sub.refl _) (Sub.refl _)).rd f i rfl h

@[simp] theorem State.ocxoTempSettled_rd {f : Fld} {i : Nat} (h : Nat.testBit 0x100000000000000000000 f.id = false) :
    (State.ocxoTempSettled t).rd f i = t.rd f i := (State.ocxoTempSettled_keeps (Keeps.refl 0x100000000000000000000 0 t) (Sub.refl _)).rd f i rfl h

@[simp] theorem State.ocxoWarmTimeout_rd {f : Fld} {i : Nat} (h : Nat.testBit 0x8017d100000100000000000000440000000000000020000000000000000000000000000000000000000000000000080000000600000000000000000000000000000000000000000000000000000000000000000000000000000000000000000000000000000000000 f.id = false) :
    (State.ocxoWarmTimeout t).rd f i = t.rd f i := (State.ocxoWarmTimeout_keeps (Keeps.refl 0x8017d100000100000000000000440000000000000020000000000000000000000000000000000000000000000000080000000600000000000000000000000000000000000000000000000000000000000000000000000000000000000000000000000000000000000 0x3040a6 t) (Sub.refl _) (Sub.refl _)).rd f i rfl h

@[simp] theorem State.takeUsable_rd {f : Fld} {i : Nat} (h : Nat.testBit 0x800000000000000 f.id = false) :
    (State.takeUsable t).rd f i = t.rd f i := (State.takeUsable_keeps (Keeps.refl 0x800000000000000 0x80 t) (Sub.refl _) (Sub.refl _)).rd f i rfl h

@[simp] theorem State.attemptPasses_rd {x1} {f : Fld} {i : Nat} (h : Nat.testBit 0xb7800808000000000000 f.id = false) :
    (State.attemptPasses t x1).rd f i = t.rd f i := (State.attemptPasses_keeps (Keeps.refl 0xb7800808000000000000 0x8a t) (Sub.refl _) (Sub.refl _)).rd f i rfl h

@[simp] theorem State.oscCountDone_rd {x1 x2} {f : Fld} {i : Nat} (h : Nat.testBit 0x8017d1000001000000000000004400000000000000200000000000000000000000000000000000000000000000000800000006000000000000000000000000000000000000000000000000000000000000000000000000000000000000000ff800808000000000000 f.id = false) :
    (State.oscCountDone t x1 x2).rd f i = t.rd f i := (State.oscCountDone_keeps (Keeps.refl 0x8017d1000001000000000000004400000000000000200000000000000000000000000000000000000000000000000800000006000000000000000000000000000000000000000000000000000000000000000000000000000000000000000ff800808000000000000 0x3040ae t) (Sub.refl _) (Sub.refl _)).rd f i rfl h

@[simp] theorem State.monTrip_rd {x1 x2} {f : Fld} {i : Nat} (h : Nat.testBit 0x1000000000008017d100000100000000000000440000000000000020000000000000000000000000000000000000000000000000080000000e0004000018008800800000000000000000000000000000000000000108000000000000000000000000009b627fc1d38000000000000 f.id = false) :
    (State.monTrip t x1 x2).rd f i = t.rd f i := (State.monTrip_keeps (Keeps.refl 0x1000000000008017d100000100000000000000440000000000000020000000000000000000000000000000000000000000000000080000000e0004000018008800800000000000000000000000000000000000000108000000000000000000000000009b627fc1d38000000000000 0x307fbe t) (Sub.refl _) (Sub.refl _)).rd f i rfl h

@[simp] theorem State.muxSwitch_rd {x1 x2} {f : Fld} {i : Nat} (h : Nat.testBit 0x48be00000000000000 f.id = false) :
    (State.muxSwitch t x1 x2).rd f i = t.rd f i := (State.muxSwitch_keeps (Keeps.refl 0x48be00000000000000 0x92 t) (Sub.refl _) (Sub.refl _)).rd f i rfl h

@[simp] theorem State.announceToken_rd {x1 x2} {f : Fld} {i : Nat} (h : Nat.testBit 0x180000000000000000000000 f.id = false) :
    (State.announceToken t x1 x2).rd f i = t.rd f i := (State.announceToken_keeps (Keeps.refl 0x180000000000000000000000 0x2 t) (Sub.refl _) (Sub.refl _)).rd f i rfl h

@[simp] theorem State.muxStall_rd {x1} {f : Fld} {i : Nat} (h : Nat.testBit 0x8017d100000100000000000000440000000000000020000000000000000000000000000000000000000000000000080000000600040000000000000000000000000000000000000000000000000000000000000000000000000000000080000489e00000000000000 f.id = false) :
    (State.muxStall t x1).rd f i = t.rd f i := (State.muxStall_keeps (Keeps.refl 0x8017d100000100000000000000440000000000000020000000000000000000000000000000000000000000000000080000000600040000000000000000000000000000000000000000000000000000000000000000000000000000000080000489e00000000000000 0x3040b6 t) (Sub.refl _) (Sub.refl _)).rd f i rfl h

@[simp] theorem State.clockMonWindow_rd {x1 x2} {f : Fld} {i : Nat} (h : Nat.testBit 0x1000000000008017d100000100000000000000440000000000000020000000000000000000000000000000000000000000000000080000000e0004000018008800800000000000000000000000000000000000000108000000000000000000000000009b627fc1dfc000000000000 f.id = false) :
    (State.clockMonWindow t x1 x2).rd f i = t.rd f i := (State.clockMonWindow_keeps (Keeps.refl 0x1000000000008017d100000100000000000000440000000000000020000000000000000000000000000000000000000000000000080000000e0004000018008800800000000000000000000000000000000000000108000000000000000000000000009b627fc1dfc000000000000 0x307fbe t) (Sub.refl _) (Sub.refl _)).rd f i rfl h

@[simp] theorem State.baseMove_rd {f : Fld} {i : Nat} (h : Nat.testBit 0x400000000080080000000000000000000000000000000000000000000000000000000000000000000800003c1c00000000000000 f.id = false) :
    (State.baseMove t).rd f i = t.rd f i := (State.baseMove_keeps (Keeps.refl 0x400000000080080000000000000000000000000000000000000000000000000000000000000000000800003c1c00000000000000 0x2592 t) (Sub.refl _) (Sub.refl _)).rd f i rfl h

@[simp] theorem State.muxForced_rd {x1} {f : Fld} {i : Nat} (h : Nat.testBit 0x4000000000000000 f.id = false) :
    (State.muxForced t x1).rd f i = t.rd f i := (State.muxForced_keeps (Keeps.refl 0x4000000000000000 0x2 t) (Sub.refl _) (Sub.refl _)).rd f i rfl h

@[simp] theorem State.ocxoBecomesWarm_rd {x1} {f : Fld} {i : Nat} (h : Nat.testBit 0x8017d100000100000000000000440000000000000020000000000000000000000000000000000000000000000000080000000600000000000000000000000000000000000000000000000000000000000000000000000000000000000001600200800000000000000 f.id = false) :
    (State.ocxoBecomesWarm t x1).rd f i = t.rd f i := (State.ocxoBecomesWarm_keeps (Keeps.refl 0x8017d100000100000000000000440000000000000020000000000000000000000000000000000000000000000000080000000600000000000000000000000000000000000000000000000000000000000000000000000000000000000001600200800000000000000 0x23042ae t) (Sub.refl _) (Sub.refl _)).rd f i rfl h

@[simp] theorem State.clockMonMiss_rd {x1} {f : Fld} {i : Nat} (h : Nat.testBit 0x1000000000008017d100000100000000000000440000000000000020000000000000000000000000000000000000000000000000080000000e0004000018008800800000000000000000000000000000000000000108000000000000000000000000009b627fc1d3c000000000000 f.id = false) :
    (State.clockMonMiss t x1).rd f i = t.rd f i := (State.clockMonMiss_keeps (Keeps.refl 0x1000000000008017d100000100000000000000440000000000000020000000000000000000000000000000000000000000000000080000000e0004000018008800800000000000000000000000000000000000000108000000000000000000000000009b627fc1d3c000000000000 0x307fbe t) (Sub.refl _) (Sub.refl _)).rd f i rfl h

@[simp] theorem State.degradedEnd_rd {f : Fld} {i : Nat} (h : Nat.testBit 0x280000000000000000000000000000000000000000000000000000000000000000000000000000000000000000000000000 f.id = false) :
    (State.degradedEnd t).rd f i = t.rd f i := (State.degradedEnd_keeps (Keeps.refl 0x280000000000000000000000000000000000000000000000000000000000000000000000000000000000000000000000000 0x2002 t) (Sub.refl _) (Sub.refl _)).rd f i rfl h

@[simp] theorem State.apllLock_rd {x1} {f : Fld} {i : Nat} (h : Nat.testBit 0x10000000000000000000000000000000000000440000000000000000000000000000000000000000000000000000000000000000000000000000000000000008008000000000000000000000000000000000000001080000000000000039868000420018000040820000000000000 f.id = false) :
    (State.apllLock t x1).rd f i = t.rd f i := (State.apllLock_keeps (Keeps.refl 0x10000000000000000000000000000000000000440000000000000000000000000000000000000000000000000000000000000000000000000000000000000008008000000000000000000000000000000000000001080000000000000039868000420018000040820000000000000 0x3eaa t) (Sub.refl _) (Sub.refl _)).rd f i rfl h

@[simp] theorem State.collisions_rd {f : Fld} {i : Nat} (h : Nat.testBit 0x1000000000000000000000000000000000000000000000000000000000000000000000000000000000000000000000000000000000000000000000000000000000000000000000000000000000000000000000000000000000000000000000000000000000000000000000000000000000 f.id = false) :
    (State.collisions t).rd f i = t.rd f i := (State.collisions_keeps (Keeps.refl 0x1000000000000000000000000000000000000000000000000000000000000000000000000000000000000000000000000000000000000000000000000000000000000000000000000000000000000000000000000000000000000000000000000000000000000000000000000000000000 0x3 t) (Sub.refl _) (Sub.refl _)).rd f i rfl h

@[simp] theorem State.noteCommit_rd {x1} {f : Fld} {i : Nat} (h : Nat.testBit 0x10000000000000000000000000000000000000000000000000000000000000000000000000000000000000000000000000000000000000000000000000000000000000000000000000000000000000000000000000000000000000000000000000000000000000000000000000000000 f.id = false) :
    (State.noteCommit t x1).rd f i = t.rd f i := (State.noteCommit_keeps (Keeps.refl 0x10000000000000000000000000000000000000000000000000000000000000000000000000000000000000000000000000000000000000000000000000000000000000000000000000000000000000000000000000000000000000000000000000000000000000000000000000000000 0x1 t) (Sub.refl _) (Sub.refl _)).rd f i rfl h

@[simp] theorem State.noteWritten_rd {x1 x2 x3} {f : Fld} {i : Nat} : (State.noteWritten t x1 x2 x3).rd f i = t.rd f i :=
  (State.noteWritten_keeps (Keeps.refl 0 0x1 t) (Sub.refl _)).rd f i rfl (Nat.zero_testBit _)

@[simp] theorem State.registerWrite_rd {x1 x2 x3} {f : Fld} {i : Nat} : (State.registerWrite t x1 x2 x3).rd f i = t.rd f i :=
  (State.registerWrite_keeps (Keeps.refl 0 0x1 t) (Sub.refl _)).rd f i rfl (Nat.zero_testBit _)

@[simp] theorem State.setPairState_rd {x1} {f : Fld} {i : Nat} (h : Nat.testBit 0x400000000000000000000000000000000000000000000000000000000000000000000000000000000000000000000000000000000000000000000000000000000000000000000000000000000000000000000000000000000000000 f.id = false) :
    (State.setPairState t x1).rd f i = t.rd f i := (State.setPairState_keeps (Keeps.refl 0x400000000000000000000000000000000000000000000000000000000000000000000000000000000000000000000000000000000000000000000000000000000000000000000000000000000000000000000000000000000000000 0x2 t) (Sub.refl _) (Sub.refl _)).rd f i rfl h

@[simp] theorem State.pairReview_rd {f : Fld} {i : Nat} (h : Nat.testBit 0x400000000000000000000000000000000000000000000000000000000000000000000000000000000000000000000000000000000000000000000000000000000000000000000000000000000000000000000000000000000000000 f.id = false) :
    (State.pairReview t).rd f i = t.rd f i := (State.pairReview_keeps (Keeps.refl 0x400000000000000000000000000000000000000000000000000000000000000000000000000000000000000000000000000000000000000000000000000000000000000000000000000000000000000000000000000000000000000 0x22 t) (Sub.refl _) (Sub.refl _)).rd f i rfl h

@[simp] theorem State.releaseClaim_rd {f : Fld} {i : Nat} (h : Nat.testBit 0x440000000000000000000000000000000000000000000000000000000000000000000000000000000000000000000000000000000000000000000000000000000000000000000000000000000000000000000000000000000000000 f.id = false) :
    (State.releaseClaim t).rd f i = t.rd f i := (State.releaseClaim_keeps (Keeps.refl 0x440000000000000000000000000000000000000000000000000000000000000000000000000000000000000000000000000000000000000000000000000000000000000000000000000000000000000000000000000000000000000 0x22 t) (Sub.refl _) (Sub.refl _)).rd f i rfl h

@[simp] theorem State.setDp_rd {x1 x2 x3} {f : Fld} {i : Nat} (h : Nat.testBit 0x826000000000000000000000000000000000000000000000000000000000000000000000000 f.id = false) :
    (State.setDp t x1 x2 x3).rd f i = t.rd f i := (State.setDp_keeps (Keeps.refl 0x826000000000000000000000000000000000000000000000000000000000000000000000000 0x102 t) (Sub.refl _) (Sub.refl _)).rd f i rfl h

@[simp] theorem State.putWord_rd {x1 x2} {f : Fld} {i : Nat} : (State.putWord t x1 x2).rd f i = t.rd f i :=
  (State.putWord_keeps (Keeps.refl 0 0x2100 t) (Sub.refl _)).rd f i rfl (Nat.zero_testBit _)

@[simp] theorem State.freezeDp_rd {x1} {f : Fld} {i : Nat} (h : Nat.testBit 0x8017d10000010000000000000044000000000000002000000000000000000000000000000000000000000000000008000000060000000000000000000000a600000100826000000000000000000000000000000000000000000000000000000000000000000000000 f.id = false) :
    (State.freezeDp t x1).rd f i = t.rd f i := (State.freezeDp_keeps (Keeps.refl 0x8017d10000010000000000000044000000000000002000000000000000000000000000000000000000000000000008000000060000000000000000000000a600000100826000000000000000000000000000000000000000000000000000000000000000000000000 0x2306326 t) (Sub.refl _) (Sub.refl _)).rd f i rfl h

@[simp] theorem State.clearHeld_rd {x1} {f : Fld} {i : Nat} (h : Nat.testBit 0x80000000000000000000000000000000000000000000000000000000000000000000000000 f.id = false) :
    (State.clearHeld t x1).rd f i = t.rd f i := (State.clearHeld_keeps (Keeps.refl 0x80000000000000000000000000000000000000000000000000000000000000000000000000 0x100 t) (Sub.refl _) (Sub.refl _)).rd f i rfl h

@[simp] theorem State.goFree_rd {x1 x2 x3} {f : Fld} {i : Nat} (h : Nat.testBit 0x8e6000000000000000000000000000000000000000000000000000000000000000000000000 f.id = false) :
    (State.goFree t x1 x2 x3).rd f i = t.rd f i := (State.goFree_keeps (Keeps.refl 0x8e6000000000000000000000000000000000000000000000000000000000000000000000000 0x2102 t) (Sub.refl _) (Sub.refl _)).rd f i rfl h

@[simp] theorem State.toHold_rd {x1 x2} {f : Fld} {i : Nat} (h : Nat.testBit 0x8017d10000010000000000000044000000000000002000000000000000000000000000000000000000000000000008000000060000000000000000000000a6000001008e6000000000000000000000000000000000000000000000000000000000000000000000000 f.id = false) :
    (State.toHold t x1 x2).rd f i = t.rd f i := (State.toHold_keeps (Keeps.refl 0x8017d10000010000000000000044000000000000002000000000000000000000000000000000000000000000000008000000060000000000000000000000a6000001008e6000000000000000000000000000000000000000000000000000000000000000000000000 0x2306326 t) (Sub.refl _) (Sub.refl _)).rd f i rfl h

@[simp] theorem State.reentry_rd {x1 x2} {f : Fld} {i : Nat} : (State.reentry t x1 x2).rd f i = t.rd f i :=
  (State.reentry_keeps (Keeps.refl 0 0x2 t) (Sub.refl _)).rd f i rfl (Nat.zero_testBit _)

@[simp] theorem State.alignTime_rd {x1 x2} {f : Fld} {i : Nat} (h : Nat.testBit 0x200000000000000000000000000000000000000000000000000000000000000000000000000 f.id = false) :
    (State.alignTime t x1 x2).rd f i = t.rd f i := (State.alignTime_keeps (Keeps.refl 0x200000000000000000000000000000000000000000000000000000000000000000000000000 0x112 t) (Sub.refl _) (Sub.refl _)).rd f i rfl h

@[simp] theorem State.startSlew_rd {x1} {f : Fld} {i : Nat} (h : Nat.testBit 0x240000000000000000000000000000000000000000000000000000000000000000000000000 f.id = false) :
    (State.startSlew t x1).rd f i = t.rd f i := (State.startSlew_keeps (Keeps.refl 0x240000000000000000000000000000000000000000000000000000000000000000000000000 0x100 t) (Sub.refl _) (Sub.refl _)).rd f i rfl h

@[simp] theorem State.applyPolicy_rd {x1 x2} {f : Fld} {i : Nat} (h : Nat.testBit 0x8017d1000001000000000000004400000000000000200000000000000000000000000000000000000000000000000800000006000000000000000000000000000000002c0000000000000000000000000000000000000000000000000000000000000000000000000 f.id = false) :
    (State.applyPolicy t x1 x2).rd f i = t.rd f i := (State.applyPolicy_keeps (Keeps.refl 0x8017d1000001000000000000004400000000000000200000000000000000000000000000000000000000000000000800000006000000000000000000000000000000002c0000000000000000000000000000000000000000000000000000000000000000000000000 0x304126 t) (Sub.refl _) (Sub.refl _)).rd f i rfl h

@[simp] theorem State.buildoutComplete_rd {x1} {f : Fld} {i : Nat} (h : Nat.testBit 0x8017d10000010000000000000044000000000000002000000000000000000000000000000000000000000000000008000000060000000000000000000000e700000100ee6000000000000000000000000000000000000000000000000000000000000000000000000 f.id = false) :
    (State.buildoutComplete t x1).rd f i = t.rd f i := (State.buildoutComplete_keeps (Keeps.refl 0x8017d10000010000000000000044000000000000002000000000000000000000000000000000000000000000000008000000060000000000000000000000e700000100ee6000000000000000000000000000000000000000000000000000000000000000000000000 0x2306336 t) (Sub.refl _) (Sub.refl _)).rd f i rfl h

@[simp] theorem State.formB_rd {x1 x2} {f : Fld} {i : Nat} : (State.formB t x1 x2).rd f i = t.rd f i :=
  (State.formB_keeps (Keeps.refl 0 0x100 t) (Sub.refl _)).rd f i rfl (Nat.zero_testBit _)

@[simp] theorem State.startBuild_rd {x1 x2 x3 x4} {f : Fld} {i : Nat} (h : Nat.testBit 0x200826000000000000000000000000000000000000000000000000000000000000000000000000 f.id = false) :
    (State.startBuild t x1 x2 x3 x4).rd f i = t.rd f i := (State.startBuild_keeps (Keeps.refl 0x200826000000000000000000000000000000000000000000000000000000000000000000000000 0x2102 t) (Sub.refl _) (Sub.refl _)).rd f i rfl h

@[simp] theorem State.releaseHeld_rd {x1 x2} {f : Fld} {i : Nat} (h : Nat.testBit 0x2c0000000000000000000000000000000000000000000000000000000000000000000000000 f.id = false) :
    (State.releaseHeld t x1 x2).rd f i = t.rd f i := (State.releaseHeld_keeps (Keeps.refl 0x2c0000000000000000000000000000000000000000000000000000000000000000000000000 0x100 t) (Sub.refl _) (Sub.refl _)).rd f i rfl h

@[simp] theorem State.dpAfterReset_rd {x1} {f : Fld} {i : Nat} (h : Nat.testBit 0x8017d10000010000000000000044000000000000002000000000000000000000000000000000000000000000000008000000060000000000000000000000a6000001008f7000000000000000000000000000000000000000000000000000000000000000000000000 f.id = false) :
    (State.dpAfterReset t x1).rd f i = t.rd f i := (State.dpAfterReset_keeps (Keeps.refl 0x8017d10000010000000000000044000000000000002000000000000000000000000000000000000000000000000008000000060000000000000000000000a6000001008f7000000000000000000000000000000000000000000000000000000000000000000000000 0x2306326 t) (Sub.refl _) (Sub.refl _)).rd f i rfl h

@[simp] theorem State.lockstep_rd {x1} {f : Fld} {i : Nat} (h : Nat.testBit 0x8017d10000010000000000000044000000000000002000000000000000000000000000000000000000000000000008000000060000000000000000000000a600000500827000000000000000000000000000000000000000000000000000000000000000000000000 f.id = false) :
    (State.lockstep t x1).rd f i = t.rd f i := (State.lockstep_keeps (Keeps.refl 0x8017d10000010000000000000044000000000000002000000000000000000000000000000000000000000000000008000000060000000000000000000000a600000500827000000000000000000000000000000000000000000000000000000000000000000000000 0x2304326 t) (Sub.refl _) (Sub.refl _)).rd f i rfl h

@[simp] theorem State.refAck_rd {x1} {f : Fld} {i : Nat} (h : Nat.testBit 0x2c0000000000000000000000000000000000000000000000000000000000000000000000000 f.id = false) :
    (State.refAck t x1).rd f i = t.rd f i := (State.refAck_keeps (Keeps.refl 0x2c0000000000000000000000000000000000000000000000000000000000000000000000000 0x100 t) (Sub.refl _) (Sub.refl _)).rd f i rfl h

@[simp] theorem State.modMon_rd {x1 x2} {f : Fld} {i : Nat} : (State.modMon t x1 x2).rd f i = t.rd f i :=
  (State.modMon_keeps (Keeps.refl 0 0x800 t) (Sub.refl _)).rd f i rfl (Nat.zero_testBit _)

@[simp] theorem State.takeCounter_rd {x1} {f : Fld} {i : Nat} (h : Nat.testBit 0x400000000000000000000000200826000000000000000000000000000000000000000000000000000000000000000000000000 f.id = false) :
    (State.takeCounter t x1).rd f i = t.rd f i := (State.takeCounter_keeps (Keeps.refl 0x400000000000000000000000200826000000000000000000000000000000000000000000000000000000000000000000000000 0x2102 t) (Sub.refl _) (Sub.refl _)).rd f i rfl h

@[simp] theorem State.latchCfg_rd {x1} {f : Fld} {i : Nat} : (State.latchCfg t x1).rd f i = t.rd f i :=
  (State.latchCfg_keeps (Keeps.refl 0 0x100 t) (Sub.refl _)).rd f i rfl (Nat.zero_testBit _)

@[simp] theorem State.lockTimer_rd {x1} {f : Fld} {i : Nat} (h : Nat.testBit 0x826000000000000000000000000000000000000000000000000000000000000000000000000 f.id = false) :
    (State.lockTimer t x1).rd f i = t.rd f i := (State.lockTimer_keeps (Keeps.refl 0x826000000000000000000000000000000000000000000000000000000000000000000000000 0x102 t) (Sub.refl _) (Sub.refl _)).rd f i rfl h

@[simp] theorem State.filterStep_rd {x1 x2} {f : Fld} {i : Nat} (h : Nat.testBit 0x20000000000000000000000000000000000000000000000000000000000000000000000000 f.id = false) :
    (State.filterStep t x1 x2).rd f i = t.rd f i := (State.filterStep_keeps (Keeps.refl 0x20000000000000000000000000000000000000000000000000000000000000000000000000 0x2100 t) (Sub.refl _) (Sub.refl _)).rd f i rfl h

@[simp] theorem State.countUpdate_rd {x1 x2} {f : Fld} {i : Nat} : (State.countUpdate t x1 x2).rd f i = t.rd f i :=
  (State.countUpdate_keeps (Keeps.refl 0 0x100 t) (Sub.refl _)).rd f i rfl (Nat.zero_testBit _)

@[simp] theorem State.slewStep_rd {x1} {f : Fld} {i : Nat} (h : Nat.testBit 0x40000000000000000000000000000000000000000000000000000000000000000000000000 f.id = false) :
    (State.slewStep t x1).rd f i = t.rd f i := (State.slewStep_keeps (Keeps.refl 0x40000000000000000000000000000000000000000000000000000000000000000000000000 0x102 t) (Sub.refl _) (Sub.refl _)).rd f i rfl h

@[simp] theorem State.loopUpdate_rd {x1 x2} {f : Fld} {i : Nat} (h : Nat.testBit 0x8017d10000010000000000000044000000000000002000000000000000000000000000000000000000000000000008000000060000000000000000000000a600000500867000000000000000000000000000000000000000000000000000000000000000000000000 f.id = false) :
    (State.loopUpdate t x1 x2).rd f i = t.rd f i := (State.loopUpdate_keeps (Keeps.refl 0x8017d10000010000000000000044000000000000002000000000000000000000000000000000000000000000000008000000060000000000000000000000a600000500867000000000000000000000000000000000000000000000000000000000000000000000000 0x2306326 t) (Sub.refl _) (Sub.refl _)).rd f i rfl h

@[simp] theorem State.delivers_rd {x1} {f : Fld} {i : Nat} : (State.delivers t x1).rd f i = t.rd f i :=
  (State.delivers_keeps (Keeps.refl 0 0x100 t) (Sub.refl _)).rd f i rfl (Nat.zero_testBit _)

@[simp] theorem State.enableDp_rd {x1} {f : Fld} {i : Nat} (h : Nat.testBit 0x8e6000000000000000000000000000000000000000000000000000000000000000000000000 f.id = false) :
    (State.enableDp t x1).rd f i = t.rd f i := (State.enableDp_keeps (Keeps.refl 0x8e6000000000000000000000000000000000000000000000000000000000000000000000000 0x2102 t) (Sub.refl _) (Sub.refl _)).rd f i rfl h

@[simp] theorem State.refAckStep_rd {x1} {f : Fld} {i : Nat} (h : Nat.testBit 0x2c0000000000000000000000000000000000000000000000000000000000000000000000000 f.id = false) :
    (State.refAckStep t x1).rd f i = t.rd f i := (State.refAckStep_keeps (Keeps.refl 0x2c0000000000000000000000000000000000000000000000000000000000000000000000000 0x110 t) (Sub.refl _) (Sub.refl _)).rd f i rfl h

@[simp] theorem State.dpDecides_rd {x1 x2} {f : Fld} {i : Nat} : (State.dpDecides t x1 x2).rd f i = t.rd f i :=
  (State.dpDecides_keeps (Keeps.refl 0 0x80000 t) (Sub.refl _)).rd f i rfl (Nat.zero_testBit _)

@[simp] theorem State.standbyEpoch_rd {f : Fld} {i : Nat} (h : Nat.testBit 0x20000000000000000000000000000000000000000000000000000000000000000000000000000000000000000000000000000000000000000000000000000000000000000000000000000000000000000000000000000000000000 f.id = false) :
    (State.standbyEpoch t).rd f i = t.rd f i := (State.standbyEpoch_keeps (Keeps.refl 0x20000000000000000000000000000000000000000000000000000000000000000000000000000000000000000000000000000000000000000000000000000000000000000000000000000000000000000000000000000000000000 0x80000 t) (Sub.refl _) (Sub.refl _)).rd f i rfl h

@[simp] theorem State.dpSwitch_rd {x1 x2 x3} {f : Fld} {i : Nat} : (State.dpSwitch t x1 x2 x3).rd f i = t.rd f i :=
  (State.dpSwitch_keeps (Keeps.refl 0 0x280000 t) (Sub.refl _)).rd f i rfl (Nat.zero_testBit _)

@[simp] theorem State.dpPending_rd {x1 x2 x3} {f : Fld} {i : Nat} : (State.dpPending t x1 x2 x3).rd f i = t.rd f i :=
  (State.dpPending_keeps (Keeps.refl 0 0x80100 t) (Sub.refl _)).rd f i rfl (Nat.zero_testBit _)

@[simp] theorem State.dpEpoch_rd {x1} {f : Fld} {i : Nat} : (State.dpEpoch t x1).rd f i = t.rd f i :=
  (State.dpEpoch_keeps (Keeps.refl 0 0x280100 t) (Sub.refl _)).rd f i rfl (Nat.zero_testBit _)

@[simp] theorem State.adaptRecipe_rd {x1 x2} {f : Fld} {i : Nat} : (State.adaptRecipe t x1 x2).rd f i = t.rd f i :=
  (State.adaptRecipe_keeps (Keeps.refl 0 0x100 t) (Sub.refl _)).rd f i rfl (Nat.zero_testBit _)

@[simp] theorem State.rangeEpoch_rd {x1 x2} {f : Fld} {i : Nat} (h : Nat.testBit 0x10000000000000000000000000000000000000000000000000000000000000000000000000 f.id = false) :
    (State.rangeEpoch t x1 x2).rd f i = t.rd f i := (State.rangeEpoch_keeps (Keeps.refl 0x10000000000000000000000000000000000000000000000000000000000000000000000000 0x80100 t) (Sub.refl _) (Sub.refl _)).rd f i rfl h

@[simp] theorem State.lockEpoch_rd {x1} {f : Fld} {i : Nat} (h : Nat.testBit 0x4000000000000000000000000000000000000000000000000000000000000000000000000 f.id = false) :
    (State.lockEpoch t x1).rd f i = t.rd f i := (State.lockEpoch_keeps (Keeps.refl 0x4000000000000000000000000000000000000000000000000000000000000000000000000 0x100 t) (Sub.refl _) (Sub.refl _)).rd f i rfl h

@[simp] theorem State.alignEpoch_rd {x1} {f : Fld} {i : Nat} : (State.alignEpoch t x1).rd f i = t.rd f i :=
  (State.alignEpoch_keeps (Keeps.refl 0 0x80000 t) (Sub.refl _)).rd f i rfl (Nat.zero_testBit _)

@[simp] theorem State.meanErrors_rd {x1} {f : Fld} {i : Nat} : (State.meanErrors t x1).rd f i = t.rd f i :=
  (State.meanErrors_keeps (Keeps.refl 0 0x100 t) (Sub.refl _)).rd f i rfl (Nat.zero_testBit _)

@[simp] theorem State.heldEpoch_rd {x1} {f : Fld} {i : Nat} : (State.heldEpoch t x1).rd f i = t.rd f i :=
  (State.heldEpoch_keeps (Keeps.refl 0 0x80000 t) (Sub.refl _)).rd f i rfl (Nat.zero_testBit _)

@[simp] theorem State.dpllEpochs_rd {f : Fld} {i : Nat} (h : Nat.testBit 0x20000000000000000000000000000000000000000000000000000000000000000000000000000000000000000000000000000000000014000000800000000000000000000000000000000000000000000000000000000000000000 f.id = false) :
    (State.dpllEpochs t).rd f i = t.rd f i := (State.dpllEpochs_keeps (Keeps.refl 0x20000000000000000000000000000000000000000000000000000000000000000000000000000000000000000000000000000000000014000000800000000000000000000000000000000000000000000000000000000000000000 0x280100 t) (Sub.refl _) (Sub.refl _)).rd f i rfl h

@[simp] theorem State.dpApply_rd {x1 x2 x3} {f : Fld} {i : Nat} (h : Nat.testBit 0x8017d10000010000000000000044000000000000002000000000000000000000000000000000000000000000000008000000060000000000000000000000a600000300ae6000000000000000000000000000000000000000000000000000000000000000000000000 f.id = false) :
    (State.dpApply t x1 x2 x3).rd f i = t.rd f i := (State.dpApply_keeps (Keeps.refl 0x8017d10000010000000000000044000000000000002000000000000000000000000000000000000000000000000008000000060000000000000000000000a600000300ae6000000000000000000000000000000000000000000000000000000000000000000000000 0x2306336 t) (Sub.refl _) (Sub.refl _)).rd f i rfl h

@[simp] theorem State.takeSeverities_rd {f : Fld} {i : Nat} : (State.takeSeverities t).rd f i = t.rd f i :=
  (State.takeSeverities_keeps (Keeps.refl 0 0x6 t) (Sub.refl _)).rd f i rfl (Nat.zero_testBit _)

@[simp] theorem State.takeFreeWord_rd {x1} {f : Fld} {i : Nat} : (State.takeFreeWord t x1).rd f i = t.rd f i :=
  (State.takeFreeWord_keeps (Keeps.refl 0 0x2100 t) (Sub.refl _)).rd f i rfl (Nat.zero_testBit _)

@[simp] theorem State.takePeerCfg_rd {f : Fld} {i : Nat} (h : Nat.testBit 0x440000000000000000000000000000000000000000000000000000000000000000000000000000000000000000000000000000000000000000000000000000000000000000000000000000000000000000000000000000000000000 f.id = false) :
    (State.takePeerCfg t).rd f i = t.rd f i := (State.takePeerCfg_keeps (Keeps.refl 0x440000000000000000000000000000000000000000000000000000000000000000000000000000000000000000000000000000000000000000000000000000000000000000000000000000000000000000000000000000000000000 0x22 t) (Sub.refl _) (Sub.refl _)).rd f i rfl h

@[simp] theorem State.takeConfig_rd {f : Fld} {i : Nat} (h : Nat.testBit 0x440000000000000000000000383c00000000000000000000000000000000000000000000000000000400000000000000000000000200826000000000000000000000000000000000000000000000000000000000000000000000000 f.id = false) :
    (State.takeConfig t).rd f i = t.rd f i := (State.takeConfig_keeps (Keeps.refl 0x440000000000000000000000383c00000000000000000000000000000000000000000000000000000400000000000000000000000200826000000000000000000000000000000000000000000000000000000000000000000000000 0x22126 t) (Sub.refl _) (Sub.refl _)).rd f i rfl h

@[simp] theorem State.stageEpoch_rd {f : Fld} {i : Nat} (h : Nat.testBit 0x10000000000000000000000000000000000000440000000000000000000000000000000000000000000000000000000000000000000000000000000000000000000000000000000000000000000000000000000001080000000000000000000000000018000000000000000000000 f.id = false) :
    (State.stageEpoch t).rd f i = t.rd f i := (State.stageEpoch_keeps (Keeps.refl 0x10000000000000000000000000000000000000440000000000000000000000000000000000000000000000000000000000000000000000000000000000000000000000000000000000000000000000000000000001080000000000000000000000000018000000000000000000000 0x81aaa t) (Sub.refl _) (Sub.refl _)).rd f i rfl h

@[simp] theorem State.vfabUpdate_rd {x1 x2} {f : Fld} {i : Nat} (h : Nat.testBit 0x600000000000000000008017d100000100000000000000440000000000000020000000000000000000000000000000000000000000000000080000000600000000000000000000000000000000000000000000000000000000000000000000000000000000000000000000000000000000000 f.id = false) :
    (State.vfabUpdate t x1 x2).rd f i = t.rd f i := (State.vfabUpdate_keeps (Keeps.refl 0x600000000000000000008017d100000100000000000000440000000000000020000000000000000000000000000000000000000000000000080000000600000000000000000000000000000000000000000000000000000000000000000000000000000000000000000000000000000000000 0x304026 t) (Sub.refl _) (Sub.refl _)).rd f i rfl h

@[simp] theorem State.channelRate_rd {x1} {f : Fld} {i : Nat} (h : Nat.testBit 0x100000000000000000000000000000000000 f.id = false) :
    (State.channelRate t x1).rd f i = t.rd f i := (State.channelRate_keeps (Keeps.refl 0x100000000000000000000000000000000000 0x400 t) (Sub.refl _) (Sub.refl _)).rd f i rfl h

@[simp] theorem State.noteLocked__rd {f : Fld} {i : Nat} : (State.noteLocked_ t).rd f i = t.rd f i :=
  (State.noteLocked__keeps (Keeps.refl 0 0x10000 t) (Sub.refl _)).rd f i rfl (Nat.zero_testBit _)

@[simp] theorem State.settleShutters_rd {f : Fld} {i : Nat} : (State.settleShutters t).rd f i = t.rd f i :=
  (State.settleShutters_keeps (Keeps.refl 0 0x2000 t) (Sub.refl _)).rd f i rfl (Nat.zero_testBit _)

@[simp] theorem State.evaluate_rd {f : Fld} {i : Nat} (h : Nat.testBit 0x200000000000000000000000c00c002000000000000f8000031000000000000000000000000000218000000000000000000000000000140000ffe00000000c03e2ff80000000000000000000000000000000000000000000000000 f.id = false) :
    (State.evaluate t).rd f i = t.rd f i := (State.evaluate_keeps (Keeps.refl 0x200000000000000000000000c00c002000000000000f8000031000000000000000000000000000218000000000000000000000000000140000ffe00000000c03e2ff80000000000000000000000000000000000000000000000000 0x2b1b1b t) (Sub.refl _) (Sub.refl _)).rd f i rfl h

@[simp] theorem State.modelEpoch_rd {f : Fld} {i : Nat} (h : Nat.testBit 0x8017d10000010048002000000045000000000000002000000030000000000000000000000000000000000000000008000000060000000000000000000000fbe0000000000000000000000000000000000000000000000100000000000000000000000000000000000 f.id = false) :
    (State.modelEpoch t).rd f i = t.rd f i := (State.modelEpoch_keeps (Keeps.refl 0x8017d10000010048002000000045000000000000002000000030000000000000000000000000000000000000000008000000060000000000000000000000fbe0000000000000000000000000000000000000000000000100000000000000000000000000000000000 0x3a7d36 t) (Sub.refl _) (Sub.refl _)).rd f i rfl h

@[simp] theorem State.hourlyPoint_rd {f : Fld} {i : Nat} (h : Nat.testBit 0x18e0000000000000000000000000000000000000000000000000000000000000000000000000000000000 f.id = false) :
    (State.hourlyPoint t).rd f i = t.rd f i := (State.hourlyPoint_keeps (Keeps.refl 0x18e0000000000000000000000000000000000000000000000000000000000000000000000000000000000 0x2800310 t) (Sub.refl _) (Sub.refl _)).rd f i rfl h

@[simp] theorem State.epochMiss_rd {x1} {f : Fld} {i : Nat} (h : Nat.testBit 0x8017d100000100000000000000440000000000000020000000000000000000000000000000000000000000000000080000000600000000000000000000000000000000000000000000000000000000000000000000000000000000000000000000000000000000000 f.id = false) :
    (State.epochMiss t x1).rd f i = t.rd f i := (State.epochMiss_keeps (Keeps.refl 0x8017d100000100000000000000440000000000000020000000000000000000000000000000000000000000000000080000000600000000000000000000000000000000000000000000000000000000000000000000000000000000000000000000000000000000000 0x384026 t) (Sub.refl _) (Sub.refl _)).rd f i rfl h

@[simp] theorem State.serviceEpoch_rd {f : Fld} {i : Nat} (h : Nat.testBit 0x8017d100000100480000000000440000000000000020000000000000000001000000000000080000000000000000080000000600000000000000000000000000000000000000000000000000000000000000000000000000000000000000000000000000000000000 f.id = false) :
    (State.serviceEpoch t).rd f i = t.rd f i := (State.serviceEpoch_keeps (Keeps.refl 0x8017d100000100480000000000440000000000000020000000000000000001000000000000080000000000000000080000000600000000000000000000000000000000000000000000000000000000000000000000000000000000000000000000000000000000000 0x334036 t) (Sub.refl _) (Sub.refl _)).rd f i rfl h

@[simp] theorem State.countRelease_rd {x1} {f : Fld} {i : Nat} (h : Nat.testBit 0x518000000000000000000000000000000000000000000000000000000000000000000000000000000000000000000000000000000000000000000000 f.id = false) :
    (State.countRelease t x1).rd f i = t.rd f i := (State.countRelease_keeps (Keeps.refl 0x518000000000000000000000000000000000000000000000000000000000000000000000000000000000000000000000000000000000000000000000 0 t) (Sub.refl _)).rd f i rfl h

@[simp] theorem State.bufferPush_rd {x1} {f : Fld} {i : Nat} (h : Nat.testBit 0x860000000000000000000000000000000000000000000000000000000000000000000000000000000000000000000000000000000000000000000000 f.id = false) :
    (State.bufferPush t x1).rd f i = t.rd f i := (State.bufferPush_keeps (Keeps.refl 0x860000000000000000000000000000000000000000000000000000000000000000000000000000000000000000000000000000000000000000000000 0x2 t) (Sub.refl _) (Sub.refl _)).rd f i rfl h

@[simp] theorem State.releaseRecord_rd {x1} {f : Fld} {i : Nat} (h : Nat.testBit 0xd78000000000000000000000000000000000000000000000000000000000000000000000000000000000000000000000000000000000000000000000 f.id = false) :
    (State.releaseRecord t x1).rd f i = t.rd f i := (State.releaseRecord_keeps (Keeps.refl 0xd78000000000000000000000000000000000000000000000000000000000000000000000000000000000000000000000000000000000000000000000 0x6 t) (Sub.refl _) (Sub.refl _)).rd f i rfl h

@[simp] theorem State.emitAtGen_rd {x1 x2 x3 x4 x5 x6 x7} {f : Fld} {i : Nat} : (State.emitAtGen t x1 x2 x3 x4 x5 x6 x7).rd f i = t.rd f i :=
  (State.emitAtGen_keeps (Keeps.refl 0 0x2 t) (Sub.refl _)).rd f i rfl (Nat.zero_testBit _)

@[simp] theorem State.porchTrace_rd {x1 x2} {f : Fld} {i : Nat} (h : Nat.testBit 0x80000000600000000000000000000000000000000000000000000000000000000000000000000000000000000000000000000000000000000000 f.id = false) :
    (State.porchTrace t x1 x2).rd f i = t.rd f i := (State.porchTrace_keeps (Keeps.refl 0x80000000600000000000000000000000000000000000000000000000000000000000000000000000000000000000000000000000000000000000 0x200000 t) (Sub.refl _) (Sub.refl _)).rd f i rfl h

@[simp] theorem State.injected_rd {x1} {f : Fld} {i : Nat} (h : Nat.testBit 0x2000000000000000000000000000000000000000000000000000000000000000000000000000000000000000000000000000000000000000000000000000000000000000000000000000000000000000000000000000000000000000000000000000000000000000 f.id = false) :
    (State.injected t x1).rd f i = t.rd f i := (State.injected_keeps (Keeps.refl 0x2000000000000000000000000000000000000000000000000000000000000000000000000000000000000000000000000000000000000000000000000000000000000000000000000000000000000000000000000000000000000000000000000000000000000000 0x2 t) (Sub.refl _) (Sub.refl _)).rd f i rfl h

@[simp] theorem State.reactionRecord_rd {x1 x2} {f : Fld} {i : Nat} : (State.reactionRecord t x1 x2).rd f i = t.rd f i :=
  (State.reactionRecord_keeps (Keeps.refl 0 0x2 t) (Sub.refl _)).rd f i rfl (Nat.zero_testBit _)

@[simp] theorem State.finishReaction_rd {x1} {f : Fld} {i : Nat} : (State.finishReaction t x1).rd f i = t.rd f i :=
  (State.finishReaction_keeps (Keeps.refl 0 0x6 t) (Sub.refl _)).rd f i rfl (Nat.zero_testBit _)

@[simp] theorem State.sramScrub_rd {x1 x2} {f : Fld} {i : Nat} (h : Nat.testBit 0x8017d100000100000000000000440000000000000020000000000000000000000000000000000000000000000000080000000600000000000000000000000000000000000000000000000000000000000000000000000000000000000000000000000000000000000 f.id = false) :
    (State.sramScrub t x1 x2).rd f i = t.rd f i := (State.sramScrub_keeps (Keeps.refl 0x8017d100000100000000000000440000000000000020000000000000000000000000000000000000000000000000080000000600000000000000000000000000000000000000000000000000000000000000000000000000000000000000000000000000000000000 0x304026 t) (Sub.refl _) (Sub.refl _)).rd f i rfl h

@[simp] theorem State.reactionComplete_rd {f : Fld} {i : Nat} : (State.reactionComplete t).rd f i = t.rd f i :=
  (State.reactionComplete_keeps (Keeps.refl 0 0x6 t) (Sub.refl _)).rd f i rfl (Nat.zero_testBit _)

@[simp] theorem State.mendPair_rd {x1 x2} {f : Fld} {i : Nat} : (State.mendPair t x1 x2).rd f i = t.rd f i :=
  (State.mendPair_keeps (Keeps.refl 0 0x4 t) (Sub.refl _)).rd f i rfl (Nat.zero_testBit _)

@[simp] theorem State.breakPair_rd {x1 x2 x3} {f : Fld} {i : Nat} (h : Nat.testBit 0xc017d100000100000000000000440000000000000020000000000000000000000000000000000000000000000000080000000600000000000000000000000000000000000000000000000000000000000000000000000000000000000000000000000000000000000 f.id = false) :
    (State.breakPair t x1 x2 x3).rd f i = t.rd f i := (State.breakPair_keeps (Keeps.refl 0xc017d100000100000000000000440000000000000020000000000000000000000000000000000000000000000000080000000600000000000000000000000000000000000000000000000000000000000000000000000000000000000000000000000000000000000 0x304026 t) (Sub.refl _) (Sub.refl _)).rd f i rfl h

@[simp] theorem State.faultWire_rd {x1 x2 x3} {f : Fld} {i : Nat} (h : Nat.testBit 0xc017d100000100000000000000440000000000000020000000000000000000000000000000000000000000000000080000000600000000000000000000000000000000000000000000000000000000000000000000000000000000000000000000000000000000000 f.id = false) :
    (State.faultWire t x1 x2 x3).rd f i = t.rd f i := (State.faultWire_keeps (Keeps.refl 0xc017d100000100000000000000440000000000000020000000000000000000000000000000000000000000000000080000000600000000000000000000000000000000000000000000000000000000000000000000000000000000000000000000000000000000000 0x304026 t) (Sub.refl _) (Sub.refl _)).rd f i rfl h

@[simp] theorem State.graceExpiry_rd {x1} {f : Fld} {i : Nat} (h : Nat.testBit 0xbd000000000000000000000440000000000000000000000000000000000000000000000000000000000000000000000000000000000000000000000000000000000000000000000000000000000000000000000000000000000000000000000000000000000000 f.id = false) :
    (State.graceExpiry t x1).rd f i = t.rd f i := (State.graceExpiry_keeps (Keeps.refl 0xbd000000000000000000000440000000000000000000000000000000000000000000000000000000000000000000000000000000000000000000000000000000000000000000000000000000000000000000000000000000000000000000000000000000000000 0x26 t) (Sub.refl _) (Sub.refl _)).rd f i rfl h

@[simp] theorem State.shutterAll_rd {f : Fld} {i : Nat} (h : Nat.testBit 0x1e000000000001000000000008017d100000100038000000000740005fffff0000022000031000000000000000000000002080000000003e0000008000000060404000018008800800000000000000000000000000000000000000108000000000000000000000000009b627fc1c080000e0700400 f.id = false) :
    (State.shutterAll t).rd f i = t.rd f i := (State.shutterAll_keeps (Keeps.refl 0x1e000000000001000000000008017d100000100038000000000740005fffff0000022000031000000000000000000000002080000000003e0000008000000060404000018008800800000000000000000000000000000000000000108000000000000000000000000009b627fc1c080000e0700400 0x38fffe t) (Sub.refl _) (Sub.refl _)).rd f i rfl h

@[simp] theorem State.errToggle_rd {f : Fld} {i : Nat} : (State.errToggle t).rd f i = t.rd f i :=
  (State.errToggle_keeps (Keeps.refl 0 0x4 t) (Sub.refl _)).rd f i rfl (Nat.zero_testBit _)

@[simp] theorem State.faultCause_rd {x1 x2 x3 x4} {f : Fld} {i : Nat} (h : Nat.testBit 0x8017d100000100000000000000440000000000000020000000000000000000000000000000000000000000000000080000000600000000000000000000000000000000000000000000000000000000000000000000000000000000000000000000000000000000000 f.id = false) :
    (State.faultCause t x1 x2 x3 x4).rd f i = t.rd f i := (State.faultCause_keeps (Keeps.refl 0x8017d100000100000000000000440000000000000020000000000000000000000000000000000000000000000000080000000600000000000000000000000000000000000000000000000000000000000000000000000000000000000000000000000000000000000 0x304026 t) (Sub.refl _) (Sub.refl _)).rd f i rfl h

@[simp] theorem State.faultAck_rd {x1} {f : Fld} {i : Nat} : (State.faultAck t x1).rd f i = t.rd f i :=
  (State.faultAck_keeps (Keeps.refl 0 0x4 t) (Sub.refl _)).rd f i rfl (Nat.zero_testBit _)

@[simp] theorem State.reactionOperation_rd {f : Fld} {i : Nat} (h : Nat.testBit 0x1e000000000001000000000008017d100000100038000000000740005fffff0000022000031383c00000000000000000002080000000003e0000008000000060404000018008800800000a6000001008f7000000000000000c0000b28000000200010003986800042009b6b7fc1c080000e0700440 f.id = false) :
    (State.reactionOperation t).rd f i = t.rd f i := (State.reactionOperation_keeps (Keeps.refl 0x1e000000000001000000000008017d100000100038000000000740005fffff0000022000031383c00000000000000000002080000000003e0000008000000060404000018008800800000a6000001008f7000000000000000c0000b28000000200010003986800042009b6b7fc1c080000e0700440 0x23afffe t) (Sub.refl _) (Sub.refl _)).rd f i rfl h

@[simp] theorem State.settleEnd_rd {f : Fld} {i : Nat} : (State.settleEnd t).rd f i = t.rd f i :=
  (State.settleEnd_keeps (Keeps.refl 0 0x4 t) (Sub.refl _)).rd f i rfl (Nat.zero_testBit _)

@[simp] theorem State.injectBreak_rd {x1} {f : Fld} {i : Nat} (h : Nat.testBit 0xc317d100000100000000000000440000000000000020000000000000000000000000000000000000000000000000080000000600000000000000000000000000000000000000000000000000000000000000000000000000000000000000000000000000000000000 f.id = false) :
    (State.injectBreak t x1).rd f i = t.rd f i := (State.injectBreak_keeps (Keeps.refl 0xc317d100000100000000000000440000000000000020000000000000000000000000000000000000000000000000080000000600000000000000000000000000000000000000000000000000000000000000000000000000000000000000000000000000000000000 0x304026 t) (Sub.refl _) (Sub.refl _)).rd f i rfl h

@[simp] theorem State.leaveTestMode_rd {f : Fld} {i : Nat} (h : Nat.testBit 0x8000000000000000000000000000000c317d100000100000000000000440000000000000020000000000000000000000000000000000000000000000000080000000600000000000000000000000000000000000000000000000000000000000000000000000000000000000000000000000000000000000 f.id = false) :
    (State.leaveTestMode t).rd f i = t.rd f i := (State.leaveTestMode_keeps (Keeps.refl 0x8000000000000000000000000000000c317d100000100000000000000440000000000000020000000000000000000000000000000000000000000000000080000000600000000000000000000000000000000000000000000000000000000000000000000000000000000000000000000000000000000000 0x304026 t) (Sub.refl _) (Sub.refl _)).rd f i rfl h

@[simp] theorem State.injectGo_rd {f : Fld} {i : Nat} (h : Nat.testBit 0x8217d100000100000000000000440000000000000020000000000000000000000000000000000000000000000000080000000600000000000000000000000000000000000000000000000000000000000000000000000000000000000000000000000000000000000 f.id = false) :
    (State.injectGo t).rd f i = t.rd f i := (State.injectGo_keeps (Keeps.refl 0x8217d100000100000000000000440000000000000020000000000000000000000000000000000000000000000000080000000600000000000000000000000000000000000000000000000000000000000000000000000000000000000000000000000000000000000 0x304026 t) (Sub.refl _) (Sub.refl _)).rd f i rfl h

@[simp] theorem State.noteLatchUse_rd {f : Fld} {i : Nat} (h : Nat.testBit 0x100000000000000000000000000000000000000000000000000000000000000000000000000000000000000000000000000000000000000000000000000000000000000000000000000000000000000000000000000000000000000000000000000000000000000 f.id = false) :
    (State.noteLatchUse t).rd f i = t.rd f i := (State.noteLatchUse_keeps (Keeps.refl 0x100000000000000000000000000000000000000000000000000000000000000000000000000000000000000000000000000000000000000000000000000000000000000000000000000000000000000000000000000000000000000000000000000000000000000 0 t) (Sub.refl _)).rd f i rfl h

@[simp] theorem State.slateTake_rd {x1 x2 x3 x4} {f : Fld} {i : Nat} (h : Nat.testBit 0x100000000000000000000000000000000000000000000000000000000000000000000000000000000000000000000000000000000000000000000000000000000000000000000000000000000000000000000000000000000000000000000000000000000000 f.id = false) :
    (State.slateTake t x1 x2 x3 x4).rd f i = t.rd f i := (State.slateTake_keeps (Keeps.refl 0x100000000000000000000000000000000000000000000000000000000000000000000000000000000000000000000000000000000000000000000000000000000000000000000000000000000000000000000000000000000000000000000000000000000000 0x4 t) (Sub.refl _) (Sub.refl _)).rd f i rfl h

@[simp] theorem State.startReaction_rd {x1 x2 x3 x4} {f : Fld} {i : Nat} (h : Nat.testBit 0x3d000000000000000000000440000000000000000000000000000000000000000000000000000000000000000000000000000000000000000000000000000000000000000000000000000000000000000000000000000000000000000000000000000000000000 f.id = false) :
    (State.startReaction t x1 x2 x3 x4).rd f i = t.rd f i := (State.startReaction_keeps (Keeps.refl 0x3d000000000000000000000440000000000000000000000000000000000000000000000000000000000000000000000000000000000000000000000000000000000000000000000000000000000000000000000000000000000000000000000000000000000000 0x26 t) (Sub.refl _) (Sub.refl _)).rd f i rfl h

@[simp] theorem State.raiseAt_rd {x1 x2} {f : Fld} {i : Nat} (h : Nat.testBit 0x8017d100000100000000000000440000000000000020000000000000000000000000000000000000000000000000080000000600000000000000000000000000000000000000000000000000000000000000000000000000000000000000000000000000000000000 f.id = false) :
    (State.raiseAt t x1 x2).rd f i = t.rd f i := (State.raiseAt_keeps (Keeps.refl 0x8017d100000100000000000000440000000000000020000000000000000000000000000000000000000000000000080000000600000000000000000000000000000000000000000000000000000000000000000000000000000000000000000000000000000000000 0x304026 t) (Sub.refl _) (Sub.refl _)).rd f i rfl h

@[simp] theorem State.raise_rd {x1} {f : Fld} {i : Nat} (h : Nat.testBit 0x8017d100000100000000000000440000000000000020000000000000000000000000000000000000000000000000080000000600000000000000000000000000000000000000000000000000000000000000000000000000000000000000000000000000000000000 f.id = false) :
    (State.raise t x1).rd f i = t.rd f i := (State.raise_keeps (Keeps.refl 0x8017d100000100000000000000440000000000000020000000000000000000000000000000000000000000000000080000000600000000000000000000000000000000000000000000000000000000000000000000000000000000000000000000000000000000000 0x304026 t) (Sub.refl _) (Sub.refl _)).rd f i rfl h

@[simp] theorem State.clearLatch_rd {x1} {f : Fld} {i : Nat} : (State.clearLatch t x1).rd f i = t.rd f i :=
  (State.clearLatch_keeps (Keeps.refl 0 0x6 t) (Sub.refl _)).rd f i rfl (Nat.zero_testBit _)

@[simp] theorem State.clearLatchesUnder_rd {x1 x2} {f : Fld} {i : Nat} : (State.clearLatchesUnder t x1 x2).rd f i = t.rd f i :=
  (State.clearLatchesUnder_keeps (Keeps.refl 0 0x6 t) (Sub.refl _)).rd f i rfl (Nat.zero_testBit _)

@[simp] theorem State.fault_rd {x1 x2 x3 x4} {f : Fld} {i : Nat} (h : Nat.testBit 0x8017d100000100000000000000440000000000000020000000000000000000000000000000000000000000000000080000000600000000000000000000000000000000000000000000000000000000000000000000000000000000000000000000000000000000000 f.id = false) :
    (State.fault t x1 x2 x3 x4).rd f i = t.rd f i := (State.fault_keeps (Keeps.refl 0x8017d100000100000000000000440000000000000020000000000000000000000000000000000000000000000000080000000600000000000000000000000000000000000000000000000000000000000000000000000000000000000000000000000000000000000 0x304026 t) (Sub.refl _) (Sub.refl _)).rd f i rfl h

@[simp] theorem State.faultOnce_rd {x1 x2 x3 x4} {f : Fld} {i : Nat} (h : Nat.testBit 0x8017d100000100000000000000440000000000000020000000000000000000000000000000000000000000000000080000000600000000000000000000000000000000000000000000000000000000000000000000000000000000000000000000000000000000000 f.id = false) :
    (State.faultOnce t x1 x2 x3 x4).rd f i = t.rd f i := (State.faultOnce_keeps (Keeps.refl 0x8017d100000100000000000000440000000000000020000000000000000000000000000000000000000000000000080000000600000000000000000000000000000000000000000000000000000000000000000000000000000000000000000000000000000000000 0x304026 t) (Sub.refl _) (Sub.refl _)).rd f i rfl h

@[simp] theorem State.shiftFaultTimers_rd {x1} {f : Fld} {i : Nat} : (State.shiftFaultTimers t x1).rd f i = t.rd f i :=
  (State.shiftFaultTimers_keeps (Keeps.refl 0 0x4 t) (Sub.refl _)).rd f i rfl (Nat.zero_testBit _)

@[simp] theorem State.noteModel_rd {x1} {f : Fld} {i : Nat} (h : Nat.testBit 0x18e0000000000000000000000000000000000000000000000000000000000000000000000000000000000 f.id = false) :
    (State.noteModel t x1).rd f i = t.rd f i := (State.noteModel_keeps (Keeps.refl 0x18e0000000000000000000000000000000000000000000000000000000000000000000000000000000000 0 t) (Sub.refl _)).rd f i rfl h

@[simp] theorem State.eraseSummary_rd {x1} {f : Fld} {i : Nat} : (State.eraseSummary t x1).rd f i = t.rd f i :=
  (State.eraseSummary_keeps (Keeps.refl 0 0x2800200 t) (Sub.refl _)).rd f i rfl (Nat.zero_testBit _)

@[simp] theorem State.learnSecond_rd {x1} {f : Fld} {i : Nat} : (State.learnSecond t x1).rd f i = t.rd f i :=
  (State.learnSecond_keeps (Keeps.refl 0 0x100 t) (Sub.refl _)).rd f i rfl (Nat.zero_testBit _)

@[simp] theorem State.outOfSpec_rd {x1 x2} {f : Fld} {i : Nat} (h : Nat.testBit 0x8017d100000100000000000000440000000000000020000000000000000000000000000000000000000000000000080000000600000000000000000000000200000000000000000000000000000000000000000000000000000000000000000000000000000000000 f.id = false) :
    (State.outOfSpec t x1 x2).rd f i = t.rd f i := (State.outOfSpec_keeps (Keeps.refl 0x8017d100000100000000000000440000000000000020000000000000000000000000000000000000000000000000080000000600000000000000000000000200000000000000000000000000000000000000000000000000000000000000000000000000000000000 0x304026 t) (Sub.refl _) (Sub.refl _)).rd f i rfl h

@[simp] theorem State.budgetEpoch_rd {x1} {f : Fld} {i : Nat} (h : Nat.testBit 0x8017d10000010000000000000044000000000000002000000000000000000000000000000000000000000000000008000000060000000000000000000000e300000000000000000000000000000000000000000000000000000000000000000000000000000000000 f.id = false) :
    (State.budgetEpoch t x1).rd f i = t.rd f i := (State.budgetEpoch_keeps (Keeps.refl 0x8017d10000010000000000000044000000000000002000000000000000000000000000000000000000000000000008000000060000000000000000000000e300000000000000000000000000000000000000000000000000000000000000000000000000000000000 0x304126 t) (Sub.refl _) (Sub.refl _)).rd f i rfl h

@[simp] theorem State.holdEpoch_rd {x1} {f : Fld} {i : Nat} (h : Nat.testBit 0x8017d10000010000000000000044000000000000002000000000000000000000000000000000000000000000000008000000060000000000000000000000fbe0000000000000000000000000000000000000000000000000000000000000000000000000000000000 f.id = false) :
    (State.holdEpoch t x1).rd f i = t.rd f i := (State.holdEpoch_keeps (Keeps.refl 0x8017d10000010000000000000044000000000000002000000000000000000000000000000000000000000000000008000000060000000000000000000000fbe0000000000000000000000000000000000000000000000000000000000000000000000000000000000 0x306126 t) (Sub.refl _) (Sub.refl _)).rd f i rfl h

@[simp] theorem State.restoreSummary_rd {x1} {f : Fld} {i : Nat} (h : Nat.testBit 0x18e0000000000000000000000000000000000000000000000000000000000000000000000000000000000 f.id = false) :
    (State.restoreSummary t x1).rd f i = t.rd f i := (State.restoreSummary_keeps (Keeps.refl 0x18e0000000000000000000000000000000000000000000000000000000000000000000000000000000000 0x100 t) (Sub.refl _) (Sub.refl _)).rd f i rfl h

@[simp] theorem State.holdoverSeconds_rd {x1} {f : Fld} {i : Nat} (h : Nat.testBit 0x8017d100000100000000000000440000000000000020000000000000000000000000000000000000000000000000080000000600000000000000000000000000000000000000000000000000000000000000000000000000000000000000000000000000000000000 f.id = false) :
    (State.holdoverSeconds t x1).rd f i = t.rd f i := (State.holdoverSeconds_keeps (Keeps.refl 0x8017d100000100000000000000440000000000000020000000000000000000000000000000000000000000000000080000000600000000000000000000000000000000000000000000000000000000000000000000000000000000000000000000000000000000000 0x2304226 t) (Sub.refl _) (Sub.refl _)).rd f i rfl h

@[simp] theorem State.spoilLearning_rd {x1} {f : Fld} {i : Nat} : (State.spoilLearning t x1).rd f i = t.rd f i :=
  (State.spoilLearning_keeps (Keeps.refl 0 0x100 t) (Sub.refl _)).rd f i rfl (Nat.zero_testBit _)

@[simp] theorem State.commitSummary_rd {x1} {f : Fld} {i : Nat} : (State.commitSummary t x1).rd f i = t.rd f i :=
  (State.commitSummary_keeps (Keeps.refl 0 0x2800200 t) (Sub.refl _)).rd f i rfl (Nat.zero_testBit _)

@[simp] theorem State.endEpisode_rd {x1} {f : Fld} {i : Nat} (h : Nat.testBit 0x8017d100000100000000000000440000000000000020000000000000000000000000000000000000000000000000080000000600000000000000000000006700000000000000000000000000000000000000000000000000000000000000000000000000000000000 f.id = false) :
    (State.endEpisode t x1).rd f i = t.rd f i := (State.endEpisode_keeps (Keeps.refl 0x8017d100000100000000000000440000000000000020000000000000000000000000000000000000000000000000080000000600000000000000000000006700000000000000000000000000000000000000000000000000000000000000000000000000000000000 0x2304326 t) (Sub.refl _) (Sub.refl _)).rd f i rfl h

@[simp] theorem State.startEpisode_rd {x1} {f : Fld} {i : Nat} (h : Nat.testBit 0x8017d10000010000000000000044000000000000002000000000000000000000000000000000000000000000000008000000060000000000000000000000a600000100000000000000000000000000000000000000000000000000000000000000000000000000000 f.id = false) :
    (State.startEpisode t x1).rd f i = t.rd f i := (State.startEpisode_keeps (Keeps.refl 0x8017d10000010000000000000044000000000000002000000000000000000000000000000000000000000000000008000000060000000000000000000000a600000100000000000000000000000000000000000000000000000000000000000000000000000000000 0x2304326 t) (Sub.refl _) (Sub.refl _)).rd f i rfl h

@[simp] theorem State.hourPoint_rd {x1} {f : Fld} {i : Nat} (h : Nat.testBit 0x18e0000000000000000000000000000000000000000000000000000000000000000000000000000000000 f.id = false) :
    (State.hourPoint t x1).rd f i = t.rd f i := (State.hourPoint_keeps (Keeps.refl 0x18e0000000000000000000000000000000000000000000000000000000000000000000000000000000000 0x100 t) (Sub.refl _) (Sub.refl _)).rd f i rfl h

@[simp] theorem State.loseOldest_rd {f : Fld} {i : Nat} (h : Nat.testBit 0x8017d100000100000000000000440000000000000020000000000000000000000000000000000000000000000201080000000600000000000000000000000000000000000000000000000000000000000000000000000000000000000000000000000000000000000 f.id = false) :
    (State.loseOldest t).rd f i = t.rd f i := (State.loseOldest_keeps (Keeps.refl 0x8017d100000100000000000000440000000000000020000000000000000000000000000000000000000000000201080000000600000000000000000000000000000000000000000000000000000000000000000000000000000000000000000000000000000000000 0x304026 t) (Sub.refl _) (Sub.refl _)).rd f i rfl h

@[simp] theorem State.msixReset_rd {x1} {f : Fld} {i : Nat} : (State.msixReset t x1).rd f i = t.rd f i :=
  (State.msixReset_keeps (Keeps.refl 0 0x4000 t) (Sub.refl _)).rd f i rfl (Nat.zero_testBit _)

@[simp] theorem State.pageReset_rd {x1} {f : Fld} {i : Nat} (h : Nat.testBit 0x5fffff0000000000000000000000000000000000000000000000000000000000000000000000000000000000000000000000000000000000000000000000000000000000000000000000000000000000000000000000000000 f.id = false) :
    (State.pageReset t x1).rd f i = t.rd f i := (State.pageReset_keeps (Keeps.refl 0x5fffff0000000000000000000000000000000000000000000000000000000000000000000000000000000000000000000000000000000000000000000000000000000000000000000000000000000000000000000000000000 0 t) (Sub.refl _)).rd f i rfl h

@[simp] theorem State.destroyReel_rd {x1} {f : Fld} {i : Nat} : (State.destroyReel t x1).rd f i = t.rd f i :=
  (State.destroyReel_keeps (Keeps.refl 0 0x4002 t) (Sub.refl _)).rd f i rfl (Nat.zero_testBit _)

@[simp] theorem State.vfReset_rd {x1} {f : Fld} {i : Nat} (h : Nat.testBit 0x5fffff0000000000000000000000000000000000000000000000000000000000000000000000000000000000000000000000000000000000000000000000000000000000000000000000000000000000000000000000000000 f.id = false) :
    (State.vfReset t x1).rd f i = t.rd f i := (State.vfReset_keeps (Keeps.refl 0x5fffff0000000000000000000000000000000000000000000000000000000000000000000000000000000000000000000000000000000000000000000000000000000000000000000000000000000000000000000000000000 0x4002 t) (Sub.refl _) (Sub.refl _)).rd f i rfl h

@[simp] theorem State.numVfs_rd {x1} {f : Fld} {i : Nat} (h : Nat.testBit 0x5fffff0000000000000400000000000000000000000000000000000000000000000000000000000000000000000000000000000000000000000000000000000000000000000000000000000000000000000000000000000000 f.id = false) :
    (State.numVfs t x1).rd f i = t.rd f i := (State.numVfs_keeps (Keeps.refl 0x5fffff0000000000000400000000000000000000000000000000000000000000000000000000000000000000000000000000000000000000000000000000000000000000000000000000000000000000000000000000000000 0x4002 t) (Sub.refl _) (Sub.refl _)).rd f i rfl h

@[simp] theorem State.linkL0_rd {x1 x2} {f : Fld} {i : Nat} (h : Nat.testBit 0x38000000000000000000000000000000000000000000000000000000000000000000000000000000000000000000000000000000000000000000000000000000000000000000000000000000000000000 f.id = false) :
    (State.linkL0 t x1 x2).rd f i = t.rd f i := (State.linkL0_keeps (Keeps.refl 0x38000000000000000000000000000000000000000000000000000000000000000000000000000000000000000000000000000000000000000000000000000000000000000000000000000000000000000 0x4000 t) (Sub.refl _) (Sub.refl _)).rd f i rfl h

@[simp] theorem State.moderate_rd {x1} {f : Fld} {i : Nat} (h : Nat.testBit 0x20000000000000000000000000000000000000000000000000000000000000000000000000000000000000000000000000000000000000000000000000000000000000000000000000000000000000000000000 f.id = false) :
    (State.moderate t x1).rd f i = t.rd f i := (State.moderate_keeps (Keeps.refl 0x20000000000000000000000000000000000000000000000000000000000000000000000000000000000000000000000000000000000000000000000000000000000000000000000000000000000000000000000 0x104000 t) (Sub.refl _) (Sub.refl _)).rd f i rfl h

@[simp] theorem State.offer_rd {x1 x2} {f : Fld} {i : Nat} (h : Nat.testBit 0x20000000000000000000000000000000000000000000000000000000000000000000000000000000000000000000000000000000000000000000000000000000000000000000000000000000000000000000000 f.id = false) :
    (State.offer t x1 x2).rd f i = t.rd f i := (State.offer_keeps (Keeps.refl 0x20000000000000000000000000000000000000000000000000000000000000000000000000000000000000000000000000000000000000000000000000000000000000000000000000000000000000000000000 0x104002 t) (Sub.refl _) (Sub.refl _)).rd f i rfl h

@[simp] theorem State.deliverReel_rd {x1} {f : Fld} {i : Nat} (h : Nat.testBit 0x20000000000000000000000000000000000000000000000000000000000000000000000000000000000000000000000000000000000000000000000000000000000000000000000000000000000000000000000 f.id = false) :
    (State.deliverReel t x1).rd f i = t.rd f i := (State.deliverReel_keeps (Keeps.refl 0x20000000000000000000000000000000000000000000000000000000000000000000000000000000000000000000000000000000000000000000000000000000000000000000000000000000000000000000000 0x104002 t) (Sub.refl _) (Sub.refl _)).rd f i rfl h

@[simp] theorem State.deliverEvents_rd {f : Fld} {i : Nat} (h : Nat.testBit 0x20000000000000000000000000000000000000000000000000000000000000000000000000000000000000000000000000000000000000000000000000000000000000000000000000000000000000000000000 f.id = false) :
    (State.deliverEvents t).rd f i = t.rd f i := (State.deliverEvents_keeps (Keeps.refl 0x20000000000000000000000000000000000000000000000000000000000000000000000000000000000000000000000000000000000000000000000000000000000000000000000000000000000000000000000 0x104002 t) (Sub.refl _) (Sub.refl _)).rd f i rfl h

@[simp] theorem State.emitRecord_rd {x1} {f : Fld} {i : Nat} (h : Nat.testBit 0x1e000008017d100000100000000000000440000000000000020000000000000000000000000000000000000000000000f79080000000600000000000000000000000000000000000000000000000000000000000000000000000000000000000000000000000000000000000 f.id = false) :
    (State.emitRecord t x1).rd f i = t.rd f i := (State.emitRecord_keeps (Keeps.refl 0x1e000008017d100000100000000000000440000000000000020000000000000000000000000000000000000000000000f79080000000600000000000000000000000000000000000000000000000000000000000000000000000000000000000000000000000000000000000 0x2b04226 t) (Sub.refl _) (Sub.refl _)).rd f i rfl h

@[simp] theorem State.mergerRelease_rd {f : Fld} {i : Nat} (h : Nat.testBit 0x1e000008017d100000100000000000000440000000000000020000000000000000000000000000000000000000000000f79080000000600000000000000000000000000000000000000000000000000000000000000000000000000000000000000000000000000000000000 f.id = false) :
    (State.mergerRelease t).rd f i = t.rd f i := (State.mergerRelease_keeps (Keeps.refl 0x1e000008017d100000100000000000000440000000000000020000000000000000000000000000000000000000000000f79080000000600000000000000000000000000000000000000000000000000000000000000000000000000000000000000000000000000000000000 0x2b04226 t) (Sub.refl _) (Sub.refl _)).rd f i rfl h

@[simp] theorem State.postBuffer_rd {x1 x2 x3} {f : Fld} {i : Nat} (h : Nat.testBit 0x20000000000000000000000000000000000000000000000000000000000000000000000000000000000000000000000000000000000000000000000000000000000000000000000000000000000000000000000 f.id = false) :
    (State.postBuffer t x1 x2 x3).rd f i = t.rd f i := (State.postBuffer_keeps (Keeps.refl 0x20000000000000000000000000000000000000000000000000000000000000000000000000000000000000000000000000000000000000000000000000000000000000000000000000000000000000000000000 0x104000 t) (Sub.refl _) (Sub.refl _)).rd f i rfl h

@[simp] theorem State.takeFetched_rd {x1 x2 x3} {f : Fld} {i : Nat} (h : Nat.testBit 0x8017d1000001000000000000004400000000000000220f8000000000000000000000000000080000000000000000080000000600000000000000000000000000000000000000000000000000000000000000000000000000000000000000000000000000000000000 f.id = false) :
    (State.takeFetched t x1 x2 x3).rd f i = t.rd f i := (State.takeFetched_keeps (Keeps.refl 0x8017d1000001000000000000004400000000000000220f8000000000000000000000000000080000000000000000080000000600000000000000000000000000000000000000000000000000000000000000000000000000000000000000000000000000000000000 0x304026 t) (Sub.refl _) (Sub.refl _)).rd f i rfl h

@[simp] theorem State.consume_rd {x1 x2} {f : Fld} {i : Nat} (h : Nat.testBit 0x8017d1000001000000000000004400000000000000220f8000000000000000000000000000080000000000000000080000000600000000000000000000000000000000000000000000000000000000000000000000000000000000000000000000000000000000000 f.id = false) :
    (State.consume t x1 x2).rd f i = t.rd f i := (State.consume_keeps (Keeps.refl 0x8017d1000001000000000000004400000000000000220f8000000000000000000000000000080000000000000000080000000600000000000000000000000000000000000000000000000000000000000000000000000000000000000000000000000000000000000 0x304026 t) (Sub.refl _) (Sub.refl _)).rd f i rfl h

@[simp] theorem State.armReel_rd {x1} {f : Fld} {i : Nat} (h : Nat.testBit 0x20000000000000000000000000000000000000000000000000000000000000000000000000000000000000000000000000000000000000000000000000000000000000000000000000000000000000000000000 f.id = false) :
    (State.armReel t x1).rd f i = t.rd f i := (State.armReel_keeps (Keeps.refl 0x20000000000000000000000000000000000000000000000000000000000000000000000000000000000000000000000000000000000000000000000000000000000000000000000000000000000000000000000 0x104000 t) (Sub.refl _) (Sub.refl _)).rd f i rfl h

@[simp] theorem State.vfEvtCons_rd {x1 x2 x3} {f : Fld} {i : Nat} (h : Nat.testBit 0x8017d1000001000000000000004400000000000000220f8000000000000000000000000000080000000000000000080000000600000000000000000000000000000000000000000000000000000000000000000000000000000000000000000000000000000000000 f.id = false) :
    (State.vfEvtCons t x1 x2 x3).rd f i = t.rd f i := (State.vfEvtCons_keeps (Keeps.refl 0x8017d1000001000000000000004400000000000000220f8000000000000000000000000000080000000000000000080000000600000000000000000000000000000000000000000000000000000000000000000000000000000000000000000000000000000000000 0x304026 t) (Sub.refl _) (Sub.refl _)).rd f i rfl h

@[simp] theorem State.d3hot_rd {f : Fld} {i : Nat} (h : Nat.testBit 0x800000000000000000000000000000000000000000000000000000000000000000000000000000000000000000000000000000000000000000000000000000000000000000000000000000000000000 f.id = false) :
    (State.d3hot t).rd f i = t.rd f i := (State.d3hot_keeps (Keeps.refl 0x800000000000000000000000000000000000000000000000000000000000000000000000000000000000000000000000000000000000000000000000000000000000000000000000000000000000000 0 t) (Sub.refl _)).rd f i rfl h

@[simp] theorem State.forgetReplies_rd {x1} {f : Fld} {i : Nat} : (State.forgetReplies t x1).rd f i = t.rd f i :=
  (State.forgetReplies_keeps (Keeps.refl 0 0x4228 t) (Sub.refl _)).rd f i rfl (Nat.zero_testBit _)

@[simp] theorem State.pcieReset_rd {f : Fld} {i : Nat} (h : Nat.testBit 0x1e0000000000000000000000000000000000000000000000000000000000000000000000001000000000000000000000000000000000000000000000000000000000000000000000000000000000000000000000000000000000000000000000000000000000000000000000000000000000000000 f.id = false) :
    (State.pcieReset t).rd f i = t.rd f i := (State.pcieReset_keeps (Keeps.refl 0x1e0000000000000000000000000000000000000000000000000000000000000000000000001000000000000000000000000000000000000000000000000000000000000000000000000000000000000000000000000000000000000000000000000000000000000000000000000000000000000000 0x422a t) (Sub.refl _) (Sub.refl _)).rd f i rfl h

@[simp] theorem State.hostReset_rd {x1} {f : Fld} {i : Nat} (h : Nat.testBit 0x1e0000000000000000000000000000000000000000000000000000005fffff00000c0000001c00000000000000000000000000000000000000000000000000000000000000000000000000000000000000000000000000000000000000000000000000000000000000000000000000000000000000 f.id = false) :
    (State.hostReset t x1).rd f i = t.rd f i := (State.hostReset_keeps (Keeps.refl 0x1e0000000000000000000000000000000000000000000000000000005fffff00000c0000001c00000000000000000000000000000000000000000000000000000000000000000000000000000000000000000000000000000000000000000000000000000000000000000000000000000000000000 0x422a t) (Sub.refl _) (Sub.refl _)).rd f i rfl h

@[simp] theorem State.pf0Flr_rd {x1} {f : Fld} {i : Nat} (h : Nat.testBit 0x1e0000000000000000000000000000000000000000000000000000005fffff00000c0000001c00000000000000000000000000000000000000000000000000000000000000000000000000000000000000000000000000000000000000000000000000000000000000000000000000000000000000 f.id = false) :
    (State.pf0Flr t x1).rd f i = t.rd f i := (State.pf0Flr_keeps (Keeps.refl 0x1e0000000000000000000000000000000000000000000000000000005fffff00000c0000001c00000000000000000000000000000000000000000000000000000000000000000000000000000000000000000000000000000000000000000000000000000000000000000000000000000000000000 0x422a t) (Sub.refl _) (Sub.refl _)).rd f i rfl h

@[simp] theorem State.adminDone_rd {x1 x2 x3} {f : Fld} {i : Nat} (h : Nat.testBit 0x8020000000000000000000000000000000000000000000000000000000000000000000000000000000000000000000000000000000000000000000000000000000000000000000000000000000000000000000000 f.id = false) :
    (State.adminDone t x1 x2 x3).rd f i = t.rd f i := (State.adminDone_keeps (Keeps.refl 0x8020000000000000000000000000000000000000000000000000000000000000000000000000000000000000000000000000000000000000000000000000000000000000000000000000000000000000000000000 0x104002 t) (Sub.refl _) (Sub.refl _)).rd f i rfl h

@[simp] theorem State.adminWait_rd {x1} {f : Fld} {i : Nat} : (State.adminWait t x1).rd f i = t.rd f i :=
  (State.adminWait_keeps (Keeps.refl 0 0x4000 t) (Sub.refl _)).rd f i rfl (Nat.zero_testBit _)

@[simp] theorem State.vfFlr_rd {x1} {f : Fld} {i : Nat} (h : Nat.testBit 0x5fffff0800000000000000000000000000000000000000000000000000000000000000000000000000000000000000000000000000000000000000000000000000000000000000000000000000000000000000000000000000 f.id = false) :
    (State.vfFlr t x1).rd f i = t.rd f i := (State.vfFlr_keeps (Keeps.refl 0x5fffff0800000000000000000000000000000000000000000000000000000000000000000000000000000000000000000000000000000000000000000000000000000000000000000000000000000000000000000000000000 0x4002 t) (Sub.refl _) (Sub.refl _)).rd f i rfl h

@[simp] theorem State.dbIgnored_rd {x1} {f : Fld} {i : Nat} (h : Nat.testBit 0x18000000000000000000000000000000000000000000000000000000000000000000000000000000000000000000000000000000000000000000000000000000000000000000000000000000000000000000000 f.id = false) :
    (State.dbIgnored t x1).rd f i = t.rd f i := (State.dbIgnored_keeps (Keeps.refl 0x18000000000000000000000000000000000000000000000000000000000000000000000000000000000000000000000000000000000000000000000000000000000000000000000000000000000000000000000 0 t) (Sub.refl _)).rd f i rfl h

@[simp] theorem State.createReel_rd {x1 x2} {f : Fld} {i : Nat} : (State.createReel t x1 x2).rd f i = t.rd f i :=
  (State.createReel_keeps (Keeps.refl 0 0x4002 t) (Sub.refl _)).rd f i rfl (Nat.zero_testBit _)

@[simp] theorem State.vfEvtCfg_rd {x1 x2} {f : Fld} {i : Nat} (h : Nat.testBit 0x5f00000000000000000000000000000000000000000000000000000000000000000000000000000000000000000000000000000000000000000000000000000000000000000000000000000000000000000000000000000000 f.id = false) :
    (State.vfEvtCfg t x1 x2).rd f i = t.rd f i := (State.vfEvtCfg_keeps (Keeps.refl 0x5f00000000000000000000000000000000000000000000000000000000000000000000000000000000000000000000000000000000000000000000000000000000000000000000000000000000000000000000000000000000 0x4002 t) (Sub.refl _) (Sub.refl _)).rd f i rfl h

@[simp] theorem State.dmaError_rd {x1 x2 x3} {f : Fld} {i : Nat} (h : Nat.testBit 0x8017d1000001000000000000004400000000000000200f8000000000000000000000000000000000000000000000080000000600000000000000000000000000000000000000000000000000000000000000000000000000000000000000000000000000000000000 f.id = false) :
    (State.dmaError t x1 x2 x3).rd f i = t.rd f i := (State.dmaError_keeps (Keeps.refl 0x8017d1000001000000000000004400000000000000200f8000000000000000000000000000000000000000000000080000000600000000000000000000000000000000000000000000000000000000000000000000000000000000000000000000000000000000000 0x304026 t) (Sub.refl _) (Sub.refl _)).rd f i rfl h

@[simp] theorem State.linkGone_rd {f : Fld} {i : Nat} (h : Nat.testBit 0x30000000000000000000000000000000000000000000000000000000000000000000000000000000000000000000000000000000000000000000000000000000000000000000000000000000000000000 f.id = false) :
    (State.linkGone t).rd f i = t.rd f i := (State.linkGone_keeps (Keeps.refl 0x30000000000000000000000000000000000000000000000000000000000000000000000000000000000000000000000000000000000000000000000000000000000000000000000000000000000000000 0x4000 t) (Sub.refl _) (Sub.refl _)).rd f i rfl h

@[simp] theorem State.perstN_rd {x1} {f : Fld} {i : Nat} (h : Nat.testBit 0x1e0000000000000000000000000000000000000000000000000000005fffff00000c0000031c00000000000000000000000000000000000000000000000000000000000000000000000000000000000000000000000000000000000000000000000000000000000000000000000000000000000000 f.id = false) :
    (State.perstN t x1).rd f i = t.rd f i := (State.perstN_keeps (Keeps.refl 0x1e0000000000000000000000000000000000000000000000000000005fffff00000c0000031c00000000000000000000000000000000000000000000000000000000000000000000000000000000000000000000000000000000000000000000000000000000000000000000000000000000000000 0x422a t) (Sub.refl _) (Sub.refl _)).rd f i rfl h

@[simp] theorem State.mergerRecordIn_rd {x1 x2 x3 x4 x5 x6} {f : Fld} {i : Nat} (h : Nat.testBit 0x1e000008017d100000100000000000000440000000000000020000000000000000000000000000000000000000000004f79080000000600000000000000000000000000000000000000000000000000000000000000000000000000000000000000000000000000000000000 f.id = false) :
    (State.mergerRecordIn t x1 x2 x3 x4 x5 x6).rd f i = t.rd f i := (State.mergerRecordIn_keeps (Keeps.refl 0x1e000008017d100000100000000000000440000000000000020000000000000000000000000000000000000000000004f79080000000600000000000000000000000000000000000000000000000000000000000000000000000000000000000000000000000000000000000 0x2b04226 t) (Sub.refl _) (Sub.refl _)).rd f i rfl h

@[simp] theorem State.doorbellConsArm_rd {x1 x2 x3} {f : Fld} {i : Nat} (h : Nat.testBit 0x8017d10000010000000000000044000000000000003a0f8000000000000000000000000000080000000000000000080000000600000000000000000000000000000000000000000000000000000000000000000000000000000000000000000000000000000000000 f.id = false) :
    (State.doorbellConsArm t x1 x2 x3).rd f i = t.rd f i := (State.doorbellConsArm_keeps (Keeps.refl 0x8017d10000010000000000000044000000000000003a0f8000000000000000000000000000080000000000000000080000000600000000000000000000000000000000000000000000000000000000000000000000000000000000000000000000000000000000000 0x304026 t) (Sub.refl _) (Sub.refl _)).rd f i rfl h

@[simp] theorem State.timeSnapshot_rd {x1 x2} {f : Fld} {i : Nat} (h : Nat.testBit 0x3fff0000000000000000000000000000000000000000000000000000000000000000000000000000000000000000000000000000000000000000000000000000000000000000000000000000000000000000000000000000 f.id = false) :
    (State.timeSnapshot t x1 x2).rd f i = t.rd f i := (State.timeSnapshot_keeps (Keeps.refl 0x3fff0000000000000000000000000000000000000000000000000000000000000000000000000000000000000000000000000000000000000000000000000000000000000000000000000000000000000000000000000000 0 t) (Sub.refl _)).rd f i rfl h

@[simp] theorem State.notifyReview_rd {f : Fld} {i : Nat} (h : Nat.testBit 0x20000000000000000000000000000000000000000000000000000000000000000000000000000000000000000000000000000000000000000000000000000000000000000000000000000000000000000000000 f.id = false) :
    (State.notifyReview t).rd f i = t.rd f i := (State.notifyReview_keeps (Keeps.refl 0x20000000000000000000000000000000000000000000000000000000000000000000000000000000000000000000000000000000000000000000000000000000000000000000000000000000000000000000000 0x104000 t) (Sub.refl _) (Sub.refl _)).rd f i rfl h

@[simp] theorem State.descriptorRelease_rd {x1 x2} {f : Fld} {i : Nat} (h : Nat.testBit 0x8017d1000001000000000000004400000000000000220f8000000000000000000000000000080000000000000000080000000600000000000000000000000000000000000000000000000000000000000000000000000000000000000000000000000000000000000 f.id = false) :
    (State.descriptorRelease t x1 x2).rd f i = t.rd f i := (State.descriptorRelease_keeps (Keeps.refl 0x8017d1000001000000000000004400000000000000220f8000000000000000000000000000080000000000000000080000000600000000000000000000000000000000000000000000000000000000000000000000000000000000000000000000000000000000000 0x304026 t) (Sub.refl _) (Sub.refl _)).rd f i rfl h

@[simp] theorem State.hostLinkDown_rd {f : Fld} {i : Nat} (h : Nat.testBit 0x1e000000000000000000000008017d100000100000000000000440005fffff00000e0000035c00000000000000000000000000000000000000000080000000600000000000000000000000000000000000000000000000000000000000000000000000000000000000000000000000000000000000 f.id = false) :
    (State.hostLinkDown t).rd f i = t.rd f i := (State.hostLinkDown_keeps (Keeps.refl 0x1e000000000000000000000008017d100000100000000000000440005fffff00000e0000035c00000000000000000000000000000000000000000080000000600000000000000000000000000000000000000000000000000000000000000000000000000000000000000000000000000000000000 0x30422e t) (Sub.refl _) (Sub.refl _)).rd f i rfl h

@[simp] theorem State.descriptorFetched_rd {x1 x2} {f : Fld} {i : Nat} (h : Nat.testBit 0x8017d1000001000000000000004400000000000000260f8000000000000000000000000000080000000000000000080000000600000000000000000000000000000000000000000000000000000000000000000000000000000000000000000000000000000000000 f.id = false) :
    (State.descriptorFetched t x1 x2).rd f i = t.rd f i := (State.descriptorFetched_keeps (Keeps.refl 0x8017d1000001000000000000004400000000000000260f8000000000000000000000000000080000000000000000080000000600000000000000000000000000000000000000000000000000000000000000000000000000000000000000000000000000000000000 0x304026 t) (Sub.refl _) (Sub.refl _)).rd f i rfl h

@[simp] theorem State.doorbellProd_rd {x1 x2 x3} {f : Fld} {i : Nat} (h : Nat.testBit 0x8017d1000001000000000000004400000000000000380f8000000000000000000000000000000000000000000000080000000600000000000000000000000000000000000000000000000000000000000000000000000000000000000000000000000000000000000 f.id = false) :
    (State.doorbellProd t x1 x2 x3).rd f i = t.rd f i := (State.doorbellProd_keeps (Keeps.refl 0x8017d1000001000000000000004400000000000000380f8000000000000000000000000000000000000000000000080000000600000000000000000000000000000000000000000000000000000000000000000000000000000000000000000000000000000000000 0x304026 t) (Sub.refl _) (Sub.refl _)).rd f i rfl h

@[simp] theorem State.doorbellCons_rd {x1 x2 x3} {f : Fld} {i : Nat} (h : Nat.testBit 0x8017d10000010000000000000044000000000000003a0f8000000000000000000000000000080000000000000000080000000600000000000000000000000000000000000000000000000000000000000000000000000000000000000000000000000000000000000 f.id = false) :
    (State.doorbellCons t x1 x2 x3).rd f i = t.rd f i := (State.doorbellCons_keeps (Keeps.refl 0x8017d10000010000000000000044000000000000003a0f8000000000000000000000000000080000000000000000080000000600000000000000000000000000000000000000000000000000000000000000000000000000000000000000000000000000000000000 0x304026 t) (Sub.refl _) (Sub.refl _)).rd f i rfl h

@[simp] theorem State.tapIdcode_rd {f : Fld} {i : Nat} (h : Nat.testBit 0x40000000000000000000000000000000000000000000000000000000000000000000000000000000000000000000000000000000000000000000000000000000000000000000000000000000000000000000000000000000000000000000000000000000000000000000000000000000000000000000000000 f.id = false) :
    (State.tapIdcode t).rd f i = t.rd f i := (State.tapIdcode_keeps (Keeps.refl 0x40000000000000000000000000000000000000000000000000000000000000000000000000000000000000000000000000000000000000000000000000000000000000000000000000000000000000000000000000000000000000000000000000000000000000000000000000000000000000000000000000 0x100000 t) (Sub.refl _) (Sub.refl _)).rd f i rfl h

@[simp] theorem State.tapReset_rd {f : Fld} {i : Nat} (h : Nat.testBit 0x40000000000000000000000000000000000000000000000000000000000000000000000000000000000000000000000000000000000000000000000000000000000000000000000000000000000000000000000000000000000000000000000000000000000000000000000000000000000000000000000000 f.id = false) :
    (State.tapReset t).rd f i = t.rd f i := (State.tapReset_keeps (Keeps.refl 0x40000000000000000000000000000000000000000000000000000000000000000000000000000000000000000000000000000000000000000000000000000000000000000000000000000000000000000000000000000000000000000000000000000000000000000000000000000000000000000000000000 0 t) (Sub.refl _)).rd f i rfl h

@[simp] theorem State.testModeEnter_rd {x1 x2} {f : Fld} {i : Nat} (h : Nat.testBit 0x8000000000000041e000000000000008017d100000100000000000000440000000000000020000000000000000000000000000000000000000000000000080000000600000000000000000000000000000000000000000000000000000000000000000000000000000000000000000000000000000000000 f.id = false) :
    (State.testModeEnter t x1 x2).rd f i = t.rd f i := (State.testModeEnter_keeps (Keeps.refl 0x8000000000000041e000000000000008017d100000100000000000000440000000000000020000000000000000000000000000000000000000000000000080000000600000000000000000000000000000000000000000000000000000000000000000000000000000000000000000000000000000000000 0x304026 t) (Sub.refl _) (Sub.refl _)).rd f i rfl h

@[simp] theorem State.tapScan_rd {x1 x2 x3} {f : Fld} {i : Nat} (h : Nat.testBit 0x40000000000000000000000000000000000000000000000000000000000000000000000000000000000000000000000000000000000000000000000000000000000000000000000000000000000000000000000000000000000000000000000000000000000000000000000000000000000000000000000000 f.id = false) :
    (State.tapScan t x1 x2 x3).rd f i = t.rd f i := (State.tapScan_keeps (Keeps.refl 0x40000000000000000000000000000000000000000000000000000000000000000000000000000000000000000000000000000000000000000000000000000000000000000000000000000000000000000000000000000000000000000000000000000000000000000000000000000000000000000000000000 0x140000 t) (Sub.refl _) (Sub.refl _)).rd f i rfl h

@[simp] theorem State.recordFields_rd {x1} {f : Fld} {i : Nat} (h : Nat.testBit 0xf801000000000000000000000000000000000000000000000000000000000000000000000000000000000000000000000000000000000000000000000000000000000000000000000000000000000000000000000000000000000000000000000000000000000000000000000000000000000000000000 f.id = false) :
    (State.recordFields t x1).rd f i = t.rd f i := (State.recordFields_keeps (Keeps.refl 0xf801000000000000000000000000000000000000000000000000000000000000000000000000000000000000000000000000000000000000000000000000000000000000000000000000000000000000000000000000000000000000000000000000000000000000000000000000000000000000000000 0x200000 t) (Sub.refl _) (Sub.refl _)).rd f i rfl h

@[simp] theorem State.tapBypass_rd {x1 x2} {f : Fld} {i : Nat} (h : Nat.testBit 0x40000000000000000000000000000000000000000000000000000000000000000000000000000000000000000000000000000000000000000000000000000000000000000000000000000000000000000000000000000000000000000000000000000000000000000000000000000000000000000000000000 f.id = false) :
    (State.tapBypass t x1 x2).rd f i = t.rd f i := (State.tapBypass_keeps (Keeps.refl 0x40000000000000000000000000000000000000000000000000000000000000000000000000000000000000000000000000000000000000000000000000000000000000000000000000000000000000000000000000000000000000000000000000000000000000000000000000000000000000000000000000 0x100000 t) (Sub.refl _) (Sub.refl _)).rd f i rfl h

@[simp] theorem State.tapExtest_rd {x1 x2} {f : Fld} {i : Nat} (h : Nat.testBit 0x40000000000000000000000000000000000000000000000000000000000000000000000000000000000000000000000000000000000000000000000000000000000000000000000000000000000000000000000000000000000000000000000000000000000000000000000000000000000000000000000000 f.id = false) :
    (State.tapExtest t x1 x2).rd f i = t.rd f i := (State.tapExtest_keeps (Keeps.refl 0x40000000000000000000000000000000000000000000000000000000000000000000000000000000000000000000000000000000000000000000000000000000000000000000000000000000000000000000000000000000000000000000000000000000000000000000000000000000000000000000000000 0x140000 t) (Sub.refl _) (Sub.refl _)).rd f i rfl h

@[simp] theorem State.loadIdentity_rd {f : Fld} {i : Nat} (h : Nat.testBit 0x201ff80100000000000000000200000008017d100000100000000000000440000000000000020000000000000000000000000000000000000000000000000080000000600000000000000000000000000000000000000000000000000000000000000000000000000000000000000000000000000000000000 f.id = false) :
    (State.loadIdentity t).rd f i = t.rd f i := (State.loadIdentity_keeps (Keeps.refl 0x201ff80100000000000000000200000008017d100000100000000000000440000000000000020000000000000000000000000000000000000000000000000080000000600000000000000000000000000000000000000000000000000000000000000000000000000000000000000000000000000000000000 0x34422e t) (Sub.refl _) (Sub.refl _)).rd f i rfl h

@[simp] theorem State.fuseBlowDone_rd {f : Fld} {i : Nat} (h : Nat.testBit 0x42a000000000000000000000000000000c317d100000100000000000000440000000000000020000000000000000000000000000000000000000000000000080000000600000000000000000000000000000000000000000000000000000000000000000000000000000000000000000000000000000000000 f.id = false) :
    (State.fuseBlowDone t).rd f i = t.rd f i := (State.fuseBlowDone_keeps (Keeps.refl 0x42a000000000000000000000000000000c317d100000100000000000000440000000000000020000000000000000000000000000000000000000000000000080000000600000000000000000000000000000000000000000000000000000000000000000000000000000000000000000000000000000000000 0x304026 t) (Sub.refl _) (Sub.refl _)).rd f i rfl h

@[simp] theorem State.fuseBlow_rd {x1} {f : Fld} {i : Nat} (h : Nat.testBit 0x2000000000000000000000000000000000000000000000000000000000000000000000000000000000000000000000000000000000000000000000000000000000000000000000000000000000000000000000000000000000000000000000000000000000000000000000000000000000000000000000000 f.id = false) :
    (State.fuseBlow t x1).rd f i = t.rd f i := (State.fuseBlow_keeps (Keeps.refl 0x2000000000000000000000000000000000000000000000000000000000000000000000000000000000000000000000000000000000000000000000000000000000000000000000000000000000000000000000000000000000000000000000000000000000000000000000000000000000000000000000000 0 t) (Sub.refl _)).rd f i rfl h

@[simp] theorem State.sendMsix_rd {x1 x2} {f : Fld} {i : Nat} (h : Nat.testBit 0x20000000000000000000000000000000000000000000000000000000000000000000000000000000000000000000000000000000000000000000000000000000000000000000000000000000000000000000000 f.id = false) :
    (State.sendMsix t x1 x2).rd f i = t.rd f i := (State.sendMsix_keeps (Keeps.refl 0x20000000000000000000000000000000000000000000000000000000000000000000000000000000000000000000000000000000000000000000000000000000000000000000000000000000000000000000000 0x104000 t) (Sub.refl _) (Sub.refl _)).rd f i rfl h

@[simp] theorem State.unmask_rd {x1 x2} {f : Fld} {i : Nat} (h : Nat.testBit 0x20000000000000000000000000000000000000000000000000000000000000000000000000000000000000000000000000000000000000000000000000000000000000000000000000000000000000000000000 f.id = false) :
    (State.unmask t x1 x2).rd f i = t.rd f i := (State.unmask_keeps (Keeps.refl 0x20000000000000000000000000000000000000000000000000000000000000000000000000000000000000000000000000000000000000000000000000000000000000000000000000000000000000000000000 0x104000 t) (Sub.refl _) (Sub.refl _)).rd f i rfl h

@[simp] theorem State.ignored_rd {f : Fld} {i : Nat} (h : Nat.testBit 0x2000000000000000000000000000000000000000000000000000000000000000000000000000000000000000000000000000000000000000000000000000000000000000000000000000000000000000000000000000000000000000000000000000000000000000000000000000000000 f.id = false) :
    (State.ignored t).rd f i = t.rd f i := (State.ignored_keeps (Keeps.refl 0x2000000000000000000000000000000000000000000000000000000000000000000000000000000000000000000000000000000000000000000000000000000000000000000000000000000000000000000000000000000000000000000000000000000000000000000000000000000000 0 t) (Sub.refl _)).rd f i rfl h

@[simp] theorem State.noteRetired_rd {x1} {f : Fld} {i : Nat} (h : Nat.testBit 0x200000000000000000000000 f.id = false) :
    (State.noteRetired t x1).rd f i = t.rd f i := (State.noteRetired_keeps (Keeps.refl 0x200000000000000000000000 0 t) (Sub.refl _)).rd f i rfl h

@[simp] theorem State.openBytes_rd {x1} {f : Fld} {i : Nat} (h : Nat.testBit 0x1e0000000000000000000000000000000000000000000000000000000000000000000000000000000000000000000000000000000000000000000000000000000000000000000000000000000000000000000000000000000000000000000000000000000000000000000000000000000000000000 f.id = false) :
    (State.openBytes t x1).rd f i = t.rd f i := (State.openBytes_keeps (Keeps.refl 0x1e0000000000000000000000000000000000000000000000000000000000000000000000000000000000000000000000000000000000000000000000000000000000000000000000000000000000000000000000000000000000000000000000000000000000000000000000000000000000000000 0 t) (Sub.refl _)).rd f i rfl h

@[simp] theorem State.advanceTo_rd {x1} {f : Fld} {i : Nat} : (State.advanceTo t x1).rd f i = t.rd f i :=
  (State.advanceTo_keeps (Keeps.refl 0 0x10 t) (Sub.refl _)).rd f i rfl (Nat.zero_testBit _)

@[simp] theorem State.modDpll_rd {x1 x2} {f : Fld} {i : Nat} : (State.modDpll t x1 x2).rd f i = t.rd f i :=
  (State.modDpll_keeps (Keeps.refl 0 0x100 t) (Sub.refl _)).rd f i rfl (Nat.zero_testBit _)

@[simp] theorem State.setWord_rd {x1 x2} {f : Fld} {i : Nat} : (State.setWord t x1 x2).rd f i = t.rd f i :=
  (State.setWord_keeps (Keeps.refl 0 0x100 t) (Sub.refl _)).rd f i rfl (Nat.zero_testBit _)

@[simp] theorem State.checkPair_rd {x1} {f : Fld} {i : Nat} : (State.checkPair t x1).rd f i = t.rd f i :=
  (State.checkPair_keeps (Keeps.refl 0 0x80001 t) (Sub.refl _)).rd f i rfl (Nat.zero_testBit _)

@[simp] theorem State.checkPairs_rd {f : Fld} {i : Nat} : (State.checkPairs t).rd f i = t.rd f i :=
  (State.checkPairs_keeps (Keeps.refl 0 0x80001 t) (Sub.refl _)).rd f i rfl (Nat.zero_testBit _)

@[simp] theorem State.pairLeaves_rd {x1} {f : Fld} {i : Nat} : (State.pairLeaves t x1).rd f i = t.rd f i :=
  (State.pairLeaves_keeps (Keeps.refl 0 0x1 t) (Sub.refl _)).rd f i rfl (Nat.zero_testBit _)

@[simp] theorem State.pairEnters_rd {x1} {f : Fld} {i : Nat} (h : Nat.testBit 0x40000000000000008017d100000100000000000000440000000000000020000000000000000000000000000000000000000000000000080000000600000000000000000000000000000000000000000000000000000000000000000000000000000000000000000000000000000000000 f.id = false) :
    (State.pairEnters t x1).rd f i = t.rd f i := (State.pairEnters_keeps (Keeps.refl 0x40000000000000008017d100000100000000000000440000000000000020000000000000000000000000000000000000000000000000080000000600000000000000000000000000000000000000000000000000000000000000000000000000000000000000000000000000000000000 0x304027 t) (Sub.refl _) (Sub.refl _)).rd f i rfl h

@[simp] theorem State.setLink_rd {x1} {f : Fld} {i : Nat} (h : Nat.testBit 0x200000000000000000000000000000000000000000000000000000000000000000000000000000000000000000000000000000000000000000000000000000000000000000000000000000000000000000000000000000000000000 f.id = false) :
    (State.setLink t x1).rd f i = t.rd f i := (State.setLink_keeps (Keeps.refl 0x200000000000000000000000000000000000000000000000000000000000000000000000000000000000000000000000000000000000000000000000000000000000000000000000000000000000000000000000000000000000000 0x2 t) (Sub.refl _) (Sub.refl _)).rd f i rfl h

@[simp] theorem State.linkDown_rd {x1} {f : Fld} {i : Nat} (h : Nat.testBit 0x300000000000000000000000000000000000000000000000000000000000000000000000000000000000000000000000000000000000000000000000000000000000000000000000000000000000000000000000000000000000000 f.id = false) :
    (State.linkDown t x1).rd f i = t.rd f i := (State.linkDown_keeps (Keeps.refl 0x300000000000000000000000000000000000000000000000000000000000000000000000000000000000000000000000000000000000000000000000000000000000000000000000000000000000000000000000000000000000000 0x2 t) (Sub.refl _) (Sub.refl _)).rd f i rfl h

@[simp] theorem State.laneGoesDown_rd {x1} {f : Fld} {i : Nat} (h : Nat.testBit 0x8017d100000100238000000000740000000000000020000000000000000000000000000000000000000000000000080000000600000000000000000000000000000000000000000000000000000000000000000000000000000000000000000000000000000000000 f.id = false) :
    (State.laneGoesDown t x1).rd f i = t.rd f i := (State.laneGoesDown_keeps (Keeps.refl 0x8017d100000100238000000000740000000000000020000000000000000000000000000000000000000000000000080000000600000000000000000000000000000000000000000000000000000000000000000000000000000000000000000000000000000000000 0x304026 t) (Sub.refl _) (Sub.refl _)).rd f i rfl h

@[simp] theorem State.partnerUtc_rd {x1} {f : Fld} {i : Nat} : (State.partnerUtc t x1).rd f i = t.rd f i :=
  (State.partnerUtc_keeps (Keeps.refl 0 0x80000 t) (Sub.refl _)).rd f i rfl (Nat.zero_testBit _)

@[simp] theorem State.hallwaySend_rd {x1 x2} {f : Fld} {i : Nat} (h : Nat.testBit 0x480000000000000000000000000000000000000000000000000000000000000000000000000000000000000000000000000000000000000000000000000000000000000000000000000000000000000000000000000000000000000000000000000 f.id = false) :
    (State.hallwaySend t x1 x2).rd f i = t.rd f i := (State.hallwaySend_keeps (Keeps.refl 0x480000000000000000000000000000000000000000000000000000000000000000000000000000000000000000000000000000000000000000000000000000000000000000000000000000000000000000000000000000000000000000000000000 0x100020 t) (Sub.refl _) (Sub.refl _)).rd f i rfl h

@[simp] theorem State.mirrorSend_rd {f : Fld} {i : Nat} (h : Nat.testBit 0x480000000000000000000000000000000000000000000000000000000000000000000000000000000000000000000000000000000000000000000000000000000000000000000000000000000000000000000000000000000000000000000000000 f.id = false) :
    (State.mirrorSend t).rd f i = t.rd f i := (State.mirrorSend_keeps (Keeps.refl 0x480000000000000000000000000000000000000000000000000000000000000000000000000000000000000000000000000000000000000000000000000000000000000000000000000000000000000000000000000000000000000000000000000 0x100020 t) (Sub.refl _) (Sub.refl _)).rd f i rfl h

@[simp] theorem State.beginSwitch_rd {x1} {f : Fld} {i : Nat} (h : Nat.testBit 0x30000000000000000000000000000000000000000000000000000000000000000000000000000000000000000000000000000000000000000000000000000000000000000000000000000000000000000000000000000000000000000000 f.id = false) :
    (State.beginSwitch t x1).rd f i = t.rd f i := (State.beginSwitch_keeps (Keeps.refl 0x30000000000000000000000000000000000000000000000000000000000000000000000000000000000000000000000000000000000000000000000000000000000000000000000000000000000000000000000000000000000000000000 0x4020 t) (Sub.refl _) (Sub.refl _)).rd f i rfl h

@[simp] theorem State.endSwitch_rd {x1} {f : Fld} {i : Nat} (h : Nat.testBit 0xe0000000000000000008020000000000000000000000000000000000000000000000000000000000000000000000000000000000000000000000000000000000000000000000000000000000000000000000000000000000000000000000 f.id = false) :
    (State.endSwitch t x1).rd f i = t.rd f i := (State.endSwitch_keeps (Keeps.refl 0xe0000000000000000008020000000000000000000000000000000000000000000000000000000000000000000000000000000000000000000000000000000000000000000000000000000000000000000000000000000000000000000000 0x106022 t) (Sub.refl _) (Sub.refl _)).rd f i rfl h

@[simp] theorem State.refuseRx_rd {x1 x2} {f : Fld} {i : Nat} (h : Nat.testBit 0x9400000e0000000000000000008020000000000000000000000000000000000000000000000000000000000000000000000000000000000000000000000000000000000000000000000000000000000000000000000000000000000000000000000 f.id = false) :
    (State.refuseRx t x1 x2).rd f i = t.rd f i := (State.refuseRx_keeps (Keeps.refl 0x9400000e0000000000000000008020000000000000000000000000000000000000000000000000000000000000000000000000000000000000000000000000000000000000000000000000000000000000000000000000000000000000000000000 0x106022 t) (Sub.refl _) (Sub.refl _)).rd f i rfl h

@[simp] theorem State.compareDigests_rd {f : Fld} {i : Nat} (h : Nat.testBit 0x10000000000000000000000000000000000000000000000000000000000000000000000000000000000000000000000000000000000000000000000000000000000000000000000000000000000000000000000000000000000000 f.id = false) :
    (State.compareDigests t).rd f i = t.rd f i := (State.compareDigests_keeps (Keeps.refl 0x10000000000000000000000000000000000000000000000000000000000000000000000000000000000000000000000000000000000000000000000000000000000000000000000000000000000000000000000000000000000000 0x2 t) (Sub.refl _) (Sub.refl _)).rd f i rfl h

@[simp] theorem State.ownDigest_rd {x1} {f : Fld} {i : Nat} (h : Nat.testBit 0x480020000000010000000000000000000000000000000000000000000000000000000000000000000000000000000000000000000000000000000000000000000000000000000000000000000000000000000000000000000000000000000000000 f.id = false) :
    (State.ownDigest t x1).rd f i = t.rd f i := (State.ownDigest_keeps (Keeps.refl 0x480020000000010000000000000000000000000000000000000000000000000000000000000000000000000000000000000000000000000000000000000000000000000000000000000000000000000000000000000000000000000000000000000 0x100022 t) (Sub.refl _) (Sub.refl _)).rd f i rfl h

@[simp] theorem State.refuseSwitch_rd {x1 x2 x3} {f : Fld} {i : Nat} (h : Nat.testBit 0x50000000000000000008020000000000000000000000000000000000000000000000000000000000000000000000000000000000000000000000000000000000000000000000000000000000000000000000000000000000000000000000 f.id = false) :
    (State.refuseSwitch t x1 x2 x3).rd f i = t.rd f i := (State.refuseSwitch_keeps (Keeps.refl 0x50000000000000000008020000000000000000000000000000000000000000000000000000000000000000000000000000000000000000000000000000000000000000000000000000000000000000000000000000000000000000000000 0x104002 t) (Sub.refl _) (Sub.refl _)).rd f i rfl h

@[simp] theorem State.acceptSwitch_rd {x1 x2 x3 x4} {f : Fld} {i : Nat} (h : Nat.testBit 0x480000030000000000000000000000000000000000000000000000000000000000000000000000000000000000000000000000000000000000000000000000000000000000000000000000000000000000000000000000000000000000000000000 f.id = false) :
    (State.acceptSwitch t x1 x2 x3 x4).rd f i = t.rd f i := (State.acceptSwitch_keeps (Keeps.refl 0x480000030000000000000000000000000000000000000000000000000000000000000000000000000000000000000000000000000000000000000000000000000000000000000000000000000000000000000000000000000000000000000000000 0x104020 t) (Sub.refl _) (Sub.refl _)).rd f i rfl h

@[simp] theorem State.mirrorAll_rd {f : Fld} {i : Nat} : (State.mirrorAll t).rd f i = t.rd f i :=
  (State.mirrorAll_keeps (Keeps.refl 0 0x20 t) (Sub.refl _)).rd f i rfl (Nat.zero_testBit _)

@[simp] theorem State.enterActive_rd {f : Fld} {i : Nat} (h : Nat.testBit 0x18e0000462000000000008020000000000000000000000000000000000000000000000000000000000000000000000000000000000000000000000000000000000000000000000000000000000000000000000000000000000000000000000 f.id = false) :
    (State.enterActive t).rd f i = t.rd f i := (State.enterActive_keeps (Keeps.refl 0x18e0000462000000000008020000000000000000000000000000000000000000000000000000000000000000000000000000000000000000000000000000000000000000000000000000000000000000000000000000000000000000000000 0x106022 t) (Sub.refl _) (Sub.refl _)).rd f i rfl h

@[simp] theorem State.forceClaim_rd {x1 x2} {f : Fld} {i : Nat} (h : Nat.testBit 0x18f0000462000000000008020000000000000000000000000000000000000000000000000000000000000000000000000000000000000000000000000000000000000000000000000000000000000000000000000000000000000000000000 f.id = false) :
    (State.forceClaim t x1 x2).rd f i = t.rd f i := (State.forceClaim_keeps (Keeps.refl 0x18f0000462000000000008020000000000000000000000000000000000000000000000000000000000000000000000000000000000000000000000000000000000000000000000000000000000000000000000000000000000000000000000 0x106022 t) (Sub.refl _) (Sub.refl _)).rd f i rfl h

@[simp] theorem State.switchRequest_rd {x1 x2 x3} {f : Fld} {i : Nat} (h : Nat.testBit 0x4800018f0000462000000000008020000000000000000000000000000000000000000000000000000000000000000000000000000000000000000000000000000000000000000000000000000000000000000000000000000000000000000000000 f.id = false) :
    (State.switchRequest t x1 x2 x3).rd f i = t.rd f i := (State.switchRequest_keeps (Keeps.refl 0x4800018f0000462000000000008020000000000000000000000000000000000000000000000000000000000000000000000000000000000000000000000000000000000000000000000000000000000000000000000000000000000000000000000 0x106022 t) (Sub.refl _) (Sub.refl _)).rd f i rfl h

@[simp] theorem State.switchForce_rd {x1} {f : Fld} {i : Nat} (h : Nat.testBit 0x4800018f0000462000000000008020000000000000000000000000000000000000000000000000000000000000000000000000000000000000000000000000000000000000000000000000000000000000000000000000000000000000000000000 f.id = false) :
    (State.switchForce t x1).rd f i = t.rd f i := (State.switchForce_keeps (Keeps.refl 0x4800018f0000462000000000008020000000000000000000000000000000000000000000000000000000000000000000000000000000000000000000000000000000000000000000000000000000000000000000000000000000000000000000000 0x106022 t) (Sub.refl _) (Sub.refl _)).rd f i rfl h

@[simp] theorem State.block_rd {x1} {f : Fld} {i : Nat} (h : Nat.testBit 0x442000000000000000000000000000000000000000000000000000000000000000000000000000000000000000000000000000000000000000000000000000000000000000000000000000000000000000000000000000000000000 f.id = false) :
    (State.block t x1).rd f i = t.rd f i := (State.block_keeps (Keeps.refl 0x442000000000000000000000000000000000000000000000000000000000000000000000000000000000000000000000000000000000000000000000000000000000000000000000000000000000000000000000000000000000000 0x22 t) (Sub.refl _) (Sub.refl _)).rd f i rfl h

@[simp] theorem State.brokenRead_rd {x1} {f : Fld} {i : Nat} (h : Nat.testBit 0x8017d100000100000002000000442000000000000020000000000000000000000000000000000000000000000000080000000600000000000000000000000000000000000000000000000000000000000000000000000000000000000000000000000000000000000 f.id = false) :
    (State.brokenRead t x1).rd f i = t.rd f i := (State.brokenRead_keeps (Keeps.refl 0x8017d100000100000002000000442000000000000020000000000000000000000000000000000000000000000000080000000600000000000000000000000000000000000000000000000000000000000000000000000000000000000000000000000000000000000 0x304026 t) (Sub.refl _) (Sub.refl _)).rd f i rfl h

@[simp] theorem State.conflict_rd {f : Fld} {i : Nat} (h : Nat.testBit 0x8017d100000100000004000000440000000000000020000000000000000000000000000000000000000000000000080000000600000000000000000000000000000000000000000000000000000000000000000000000000000000000000000000000000000000000 f.id = false) :
    (State.conflict t).rd f i = t.rd f i := (State.conflict_keeps (Keeps.refl 0x8017d100000100000004000000440000000000000020000000000000000000000000000000000000000000000000080000000600000000000000000000000000000000000000000000000000000000000000000000000000000000000000000000000000000000000 0x304026 t) (Sub.refl _) (Sub.refl _)).rd f i rfl h

@[simp] theorem State.confirmConflict_rd {f : Fld} {i : Nat} (h : Nat.testBit 0x8017d100000100000004000000442000000000000020000000000000000000000000000000000000000000000000080000000600000000000000000000000000000000000000000000000000000000000000000000000000000000000000000000000000000000000 f.id = false) :
    (State.confirmConflict t).rd f i = t.rd f i := (State.confirmConflict_keeps (Keeps.refl 0x8017d100000100000004000000442000000000000020000000000000000000000000000000000000000000000000080000000600000000000000000000000000000000000000000000000000000000000000000000000000000000000000000000000000000000000 0x304026 t) (Sub.refl _) (Sub.refl _)).rd f i rfl h

@[simp] theorem State.claimInChange_rd {x1} {f : Fld} {i : Nat} (h : Nat.testBit 0x8017d1000001000000060000004c2000000000000020000000000000000000000000000000000000000000000000080000000600000000000000000000000000000000000000000000000000000000000000000000000000000000000000000000000000000000000 f.id = false) :
    (State.claimInChange t x1).rd f i = t.rd f i := (State.claimInChange_keeps (Keeps.refl 0x8017d1000001000000060000004c2000000000000020000000000000000000000000000000000000000000000000080000000600000000000000000000000000000000000000000000000000000000000000000000000000000000000000000000000000000000000 0x304026 t) (Sub.refl _) (Sub.refl _)).rd f i rfl h

@[simp] theorem State.timeTx_rd {x1} {f : Fld} {i : Nat} (h : Nat.testBit 0x480000000000000000000000000000000000000000000000000000000000000000000000000000000000000000000000000000000000000000000000000000000000000000000000000000000000000000000000000000000000000000000000000 f.id = false) :
    (State.timeTx t x1).rd f i = t.rd f i := (State.timeTx_keeps (Keeps.refl 0x480000000000000000000000000000000000000000000000000000000000000000000000000000000000000000000000000000000000000000000000000000000000000000000000000000000000000000000000000000000000000000000000000 0x100020 t) (Sub.refl _) (Sub.refl _)).rd f i rfl h

@[simp] theorem State.ppsPulseTime_rd {x1} {f : Fld} {i : Nat} (h : Nat.testBit 0x480000000000000000000000000000000000000000000000000000000000000000000000000000000000800000000000000000000000000000000000000000000000000000000000000000000000000000000000000000000000000000000000000 f.id = false) :
    (State.ppsPulseTime t x1).rd f i = t.rd f i := (State.ppsPulseTime_keeps (Keeps.refl 0x480000000000000000000000000000000000000000000000000000000000000000000000000000000000800000000000000000000000000000000000000000000000000000000000000000000000000000000000000000000000000000000000000 0x100030 t) (Sub.refl _) (Sub.refl _)).rd f i rfl h

@[simp] theorem State.switchTimeout_rd {f : Fld} {i : Nat} (h : Nat.testBit 0xe0000000000000000008020000000000000000000000000000000000000000000000000000000000000000000000000000000000000000000000000000000000000000000000000000000000000000000000000000000000000000000000 f.id = false) :
    (State.switchTimeout t).rd f i = t.rd f i := (State.switchTimeout_keeps (Keeps.refl 0xe0000000000000000008020000000000000000000000000000000000000000000000000000000000000000000000000000000000000000000000000000000000000000000000000000000000000000000000000000000000000000000000 0x106022 t) (Sub.refl _) (Sub.refl _)).rd f i rfl h

@[simp] theorem State.heartbeatLost_rd {f : Fld} {i : Nat} (h : Nat.testBit 0x1e000000000000000000000008017d100000100000000400000648000000000000020000000000000000000000000000000000000000000000000080000000600000000000000000000000000000000000000000000000000000000000000000000000000000000000000000000000000000000000 f.id = false) :
    (State.heartbeatLost t).rd f i = t.rd f i := (State.heartbeatLost_keeps (Keeps.refl 0x1e000000000000000000000008017d100000100000000400000648000000000000020000000000000000000000000000000000000000000000000080000000600000000000000000000000000000000000000000000000000000000000000000000000000000000000000000000000000000000000 0x304026 t) (Sub.refl _) (Sub.refl _)).rd f i rfl h

@[simp] theorem State.heartbeatRx_rd {x1 x2} {f : Fld} {i : Nat} (h : Nat.testBit 0x9400001e1ff8208000000000008020000000000000000000000000000000000000000000000000000000000000000000000000000000000000000000000000000000000000000000000000000000000000000000000000000000000000000000000 f.id = false) :
    (State.heartbeatRx t x1 x2).rd f i = t.rd f i := (State.heartbeatRx_keeps (Keeps.refl 0x9400001e1ff8208000000000008020000000000000000000000000000000000000000000000000000000000000000000000000000000000000000000000000000000000000000000000000000000000000000000000000000000000000000000000 0x106022 t) (Sub.refl _) (Sub.refl _)).rd f i rfl h

@[simp] theorem State.timeMsgRx_rd {x1 x2} {f : Fld} {i : Nat} (h : Nat.testBit 0x8017d100000100940000000000440000000000000020000000000000000000000000000000000000000000000000080000000600021800000000000000000000000000000000000000000000000000000000000000000000000000000000000000000000000000000 f.id = false) :
    (State.timeMsgRx t x1 x2).rd f i = t.rd f i := (State.timeMsgRx_keeps (Keeps.refl 0x8017d100000100940000000000440000000000000020000000000000000000000000000000000000000000000000080000000600021800000000000000000000000000000000000000000000000000000000000000000000000000000000000000000000000000000 0x384036 t) (Sub.refl _) (Sub.refl _)).rd f i rfl h

@[simp] theorem State.laneComesUp_rd {x1} {f : Fld} {i : Nat} (h : Nat.testBit 0x38000000000200000000000000000000000000000000000000000000000000000000000000000000000000000000000000000000000000000000000000000000000000000000000000000000000000000000000000000000000000000000000000 f.id = false) :
    (State.laneComesUp t x1).rd f i = t.rd f i := (State.laneComesUp_keeps (Keeps.refl 0x38000000000200000000000000000000000000000000000000000000000000000000000000000000000000000000000000000000000000000000000000000000000000000000000000000000000000000000000000000000000000000000000000 0x22 t) (Sub.refl _) (Sub.refl _)).rd f i rfl h

@[simp] theorem State.heartbeatTx_rd {f : Fld} {i : Nat} (h : Nat.testBit 0x480000200000000000000000000000000000000000000000000000000000000000000000000000000000000000000000000000000000000000000000000000000000000000000000000000000000000000000000000000000000000000000000000 f.id = false) :
    (State.heartbeatTx t).rd f i = t.rd f i := (State.heartbeatTx_keeps (Keeps.refl 0x480000200000000000000000000000000000000000000000000000000000000000000000000000000000000000000000000000000000000000000000000000000000000000000000000000000000000000000000000000000000000000000000000 0x100020 t) (Sub.refl _) (Sub.refl _)).rd f i rfl h

@[simp] theorem State.offerRx_rd {x1 x2 x3} {f : Fld} {i : Nat} (h : Nat.testBit 0xdc0000070000440000000000008020000000000000000000000000000000000000000000000000000000000000000000000000000000000000000000000000000000000000000000000000000000000000000000000000000000000000000000000 f.id = false) :
    (State.offerRx t x1 x2 x3).rd f i = t.rd f i := (State.offerRx_keeps (Keeps.refl 0xdc0000070000440000000000008020000000000000000000000000000000000000000000000000000000000000000000000000000000000000000000000000000000000000000000000000000000000000000000000000000000000000000000000 0x104022 t) (Sub.refl _) (Sub.refl _)).rd f i rfl h

@[simp] theorem State.hallwayReset_rd {f : Fld} {i : Nat} (h : Nat.testBit 0x1e0000000000000000000000000000000000000038000000000300000000000000000000000000000000000000000000000000000000000000000000000000000000000000000000000000000000000000000000000000000000000000000000000000000000000000000000000000000000000000 f.id = false) :
    (State.hallwayReset t).rd f i = t.rd f i := (State.hallwayReset_keeps (Keeps.refl 0x1e0000000000000000000000000000000000000038000000000300000000000000000000000000000000000000000000000000000000000000000000000000000000000000000000000000000000000000000000000000000000000000000000000000000000000000000000000000000000000000 0x2 t) (Sub.refl _) (Sub.refl _)).rd f i rfl h

@[simp] theorem State.handoverRelease_rd {f : Fld} {i : Nat} (h : Nat.testBit 0x440000000000000000000000000000000000000000000000000000000000000000000000000000000000000000000000000000000000000000000000000000000000000000000000000000000000000000000000000000000000000 f.id = false) :
    (State.handoverRelease t).rd f i = t.rd f i := (State.handoverRelease_keeps (Keeps.refl 0x440000000000000000000000000000000000000000000000000000000000000000000000000000000000000000000000000000000000000000000000000000000000000000000000000000000000000000000000000000000000000 0x2022 t) (Sub.refl _) (Sub.refl _)).rd f i rfl h

@[simp] theorem State.acceptRx_rd {x1 x2 x3} {f : Fld} {i : Nat} (h : Nat.testBit 0x940000030000000000000000000000000000000000000000000000000000000000000000000000000000000000000000000000000000000000000000000000000000000000000000000000000000000000000000000000000000000000000000000 f.id = false) :
    (State.acceptRx t x1 x2 x3).rd f i = t.rd f i := (State.acceptRx_keeps (Keeps.refl 0x940000030000000000000000000000000000000000000000000000000000000000000000000000000000000000000000000000000000000000000000000000000000000000000000000000000000000000000000000000000000000000000000000 0x4020 t) (Sub.refl _) (Sub.refl _)).rd f i rfl h

@[simp] theorem State.digestRx_rd {x1 x2} {f : Fld} {i : Nat} (h : Nat.testBit 0x940040000000010000000000000000000000000000000000000000000000000000000000000000000000000000000000000000000000000000000000000000000000000000000000000000000000000000000000000000000000000000000000000 f.id = false) :
    (State.digestRx t x1 x2).rd f i = t.rd f i := (State.digestRx_keeps (Keeps.refl 0x940040000000010000000000000000000000000000000000000000000000000000000000000000000000000000000000000000000000000000000000000000000000000000000000000000000000000000000000000000000000000000000000000 0x22 t) (Sub.refl _) (Sub.refl _)).rd f i rfl h

@[simp] theorem State.switchHandover_rd {f : Fld} {i : Nat} (h : Nat.testBit 0x8000000000000000000000000000000000000000000000000000000000000000000000000000000000000000000 f.id = false) :
    (State.switchHandover t).rd f i = t.rd f i := (State.switchHandover_keeps (Keeps.refl 0x8000000000000000000000000000000000000000000000000000000000000000000000000000000000000000000 0x2002 t) (Sub.refl _) (Sub.refl _)).rd f i rfl h

@[simp] theorem State.confirmEnd_rd {f : Fld} {i : Nat} (h : Nat.testBit 0x18e0000462000000000008020000000000000000000000000000000000000000000000000000000000000000000000000000000000000000000000000000000000000000000000000000000000000000000000000000000000000000000000 f.id = false) :
    (State.confirmEnd t).rd f i = t.rd f i := (State.confirmEnd_keeps (Keeps.refl 0x18e0000462000000000008020000000000000000000000000000000000000000000000000000000000000000000000000000000000000000000000000000000000000000000000000000000000000000000000000000000000000000000000 0x106022 t) (Sub.refl _) (Sub.refl _)).rd f i rfl h

@[simp] theorem State.reclaimEnd_rd {f : Fld} {i : Nat} (h : Nat.testBit 0x400000000000000000000000000000000000000000000000000000000000000000000000000000000000000000000000000000000000000000000000000000000000000000000000000000000000000000000000000000000000000 f.id = false) :
    (State.reclaimEnd t).rd f i = t.rd f i := (State.reclaimEnd_keeps (Keeps.refl 0x400000000000000000000000000000000000000000000000000000000000000000000000000000000000000000000000000000000000000000000000000000000000000000000000000000000000000000000000000000000000000 0x22 t) (Sub.refl _) (Sub.refl _)).rd f i rfl h

@[simp] theorem State.standbyAligned_rd {f : Fld} {i : Nat} (h : Nat.testBit 0x20000000000000000000000000000000000000000000000000000000000000000000000000000000000000000000000000000000000000000000000000000000000000000000000000000000000000000000000000000000000000 f.id = false) :
    (State.standbyAligned t).rd f i = t.rd f i := (State.standbyAligned_keeps (Keeps.refl 0x20000000000000000000000000000000000000000000000000000000000000000000000000000000000000000000000000000000000000000000000000000000000000000000000000000000000000000000000000000000000000 0 t) (Sub.refl _)).rd f i rfl h

@[simp] theorem State.conflictHoldEnd_rd {f : Fld} {i : Nat} (h : Nat.testBit 0x18e0000462000000000008020000000000000000000000000000000000000000000000000000000000000000000000000000000000000000000000000000000000000000000000000000000000000000000000000000000000000000000000 f.id = false) :
    (State.conflictHoldEnd t).rd f i = t.rd f i := (State.conflictHoldEnd_keeps (Keeps.refl 0x18e0000462000000000008020000000000000000000000000000000000000000000000000000000000000000000000000000000000000000000000000000000000000000000000000000000000000000000000000000000000000000000000 0x106022 t) (Sub.refl _) (Sub.refl _)).rd f i rfl h

@[simp] theorem State.helloRx_rd {x1 x2} {f : Fld} {i : Nat} (h : Nat.testBit 0x8017d100000100dc2840200000758000000000000020000000000000000000000000000000000000000000000000080000000600000000000000000000000000000000000000000000000000000000000000000000000000000000000000000000000000000000000 f.id = false) :
    (State.helloRx t x1 x2).rd f i = t.rd f i := (State.helloRx_keeps (Keeps.refl 0x8017d100000100dc2840200000758000000000000020000000000000000000000000000000000000000000000000080000000600000000000000000000000000000000000000000000000000000000000000000000000000000000000000000000000000000000000 0x304026 t) (Sub.refl _) (Sub.refl _)).rd f i rfl h

@[simp] theorem State.tableSyncRx_rd {x1 x2} {f : Fld} {i : Nat} (h : Nat.testBit 0xdc0000000000000000000000000000000000000000000000000000000000000000000000000000000000000000000000000000000000000000000000000000000000000000000000000000000000000000000000000000000000000000000000000 f.id = false) :
    (State.tableSyncRx t x1 x2).rd f i = t.rd f i := (State.tableSyncRx_keeps (Keeps.refl 0xdc0000000000000000000000000000000000000000000000000000000000000000000000000000000000000000000000000000000000000000000000000000000000000000000000000000000000000000000000000000000000000000000000000 0x110020 t) (Sub.refl _) (Sub.refl _)).rd f i rfl h

@[simp] theorem State.slotDelayEnd_rd {f : Fld} {i : Nat} (h : Nat.testBit 0x40000000000000000000000000000000000000000000000000000000000000000000000000000000000000000000000000000000000000000000000000000000000000000000000000000000000000000000000000000000000000 f.id = false) :
    (State.slotDelayEnd t).rd f i = t.rd f i := (State.slotDelayEnd_keeps (Keeps.refl 0x40000000000000000000000000000000000000000000000000000000000000000000000000000000000000000000000000000000000000000000000000000000000000000000000000000000000000000000000000000000000000 0x20 t) (Sub.refl _) (Sub.refl _)).rd f i rfl h

@[simp] theorem State.helloTx_rd {f : Fld} {i : Nat} (h : Nat.testBit 0x481000000000000000000000000000000000000000000000000000000000000000000000000000000000000000000000000000000000000000000000000000000000000000000000000000000000000000000000000000000000000000000000000 f.id = false) :
    (State.helloTx t).rd f i = t.rd f i := (State.helloTx_keeps (Keeps.refl 0x481000000000000000000000000000000000000000000000000000000000000000000000000000000000000000000000000000000000000000000000000000000000000000000000000000000000000000000000000000000000000000000000000 0x100020 t) (Sub.refl _) (Sub.refl _)).rd f i rfl h

@[simp] theorem State.bridgeReview_rd {x1} {f : Fld} {i : Nat} (h : Nat.testBit 0x2000000000000000000000000000000000000000000000000000000000000000000000000000000000000000000000000000000000000000000000000000000000000000 f.id = false) :
    (State.bridgeReview t x1).rd f i = t.rd f i := (State.bridgeReview_keeps (Keeps.refl 0x2000000000000000000000000000000000000000000000000000000000000000000000000000000000000000000000000000000000000000000000000000000000000000 0x2 t) (Sub.refl _) (Sub.refl _)).rd f i rfl h

@[simp] theorem State.linkUpNow_rd {x1} {f : Fld} {i : Nat} (h : Nat.testBit 0x2000000000003e00000000000000000000000000000000000000000000000000000000000000000000000000000000000000000000000000000000000000000000000000 f.id = false) :
    (State.linkUpNow t x1).rd f i = t.rd f i := (State.linkUpNow_keeps (Keeps.refl 0x2000000000003e00000000000000000000000000000000000000000000000000000000000000000000000000000000000000000000000000000000000000000000000000 0x8002 t) (Sub.refl _) (Sub.refl _)).rd f i rfl h

@[simp] theorem State.bcount_rd {x1 x2} {f : Fld} {i : Nat} (h : Nat.testBit 0x20000000000000000000000000000000000000000000000000000000000000000000000000000000000000000000000000000000000000000000000000000000000000000 f.id = false) :
    (State.bcount t x1 x2).rd f i = t.rd f i := (State.bcount_keeps (Keeps.refl 0x20000000000000000000000000000000000000000000000000000000000000000000000000000000000000000000000000000000000000000000000000000000000000000 0 t) (Sub.refl _)).rd f i rfl h

@[simp] theorem State.pcount_rd {x1 x2} {f : Fld} {i : Nat} (h : Nat.testBit 0x80000000000000000000000000000000000000000000000000000000000000000000000000000000000000000000000000000000000000000000000000000000000000 f.id = false) :
    (State.pcount t x1 x2).rd f i = t.rd f i := (State.pcount_keeps (Keeps.refl 0x80000000000000000000000000000000000000000000000000000000000000000000000000000000000000000000000000000000000000000000000000000000000000 0 t) (Sub.refl _)).rd f i rfl h

@[simp] theorem State.esmcTake_rd {x1 x2} {f : Fld} {i : Nat} (h : Nat.testBit 0x80e00000000000000000000000000000000000000000000000000000000000000000000000000000000000000000000000000000000000000000000000000000000000 f.id = false) :
    (State.esmcTake t x1 x2).rd f i = t.rd f i := (State.esmcTake_keeps (Keeps.refl 0x80e00000000000000000000000000000000000000000000000000000000000000000000000000000000000000000000000000000000000000000000000000000000000 0x8800 t) (Sub.refl _) (Sub.refl _)).rd f i rfl h

@[simp] theorem State.esmcRx_rd {x1} {f : Fld} {i : Nat} (h : Nat.testBit 0x80e00000000000000000000000000000000000000000000000000000000000000000000000000000000000000000000000000000000000000000000000000000000000 f.id = false) :
    (State.esmcRx t x1).rd f i = t.rd f i := (State.esmcRx_keeps (Keeps.refl 0x80e00000000000000000000000000000000000000000000000000000000000000000000000000000000000000000000000000000000000000000000000000000000000 0x18800 t) (Sub.refl _) (Sub.refl _)).rd f i rfl h

@[simp] theorem State.noteStamp_rd {x1} {f : Fld} {i : Nat} (h : Nat.testBit 0x80000000000000000000000000000000000000000000000000000000000000000000000000000000000000000000000000000000000000000000000000000000000000 f.id = false) :
    (State.noteStamp t x1).rd f i = t.rd f i := (State.noteStamp_keeps (Keeps.refl 0x80000000000000000000000000000000000000000000000000000000000000000000000000000000000000000000000000000000000000000000000000000000000000 0 t) (Sub.refl _)).rd f i rfl h

@[simp] theorem State.txDone_rd {x1 x2} {f : Fld} {i : Nat} (h : Nat.testBit 0x20000000000000000000000000000000000000000000000000000000000000000000000000000000000000000000000000000000000000000000000000000000000000000000000000000000000000000000000 f.id = false) :
    (State.txDone t x1 x2).rd f i = t.rd f i := (State.txDone_keeps (Keeps.refl 0x20000000000000000000000000000000000000000000000000000000000000000000000000000000000000000000000000000000000000000000000000000000000000000000000000000000000000000000000 0x104000 t) (Sub.refl _) (Sub.refl _)).rd f i rfl h

@[simp] theorem State.deliver__rd {x1 x2 x3 x4 x5 x6} {f : Fld} {i : Nat} (h : Nat.testBit 0x20000000000000000000000000000000080000000000000000000000000000000000000000000000000000000000000000000000000000000000000000000000000000000000000000000000000000000000000 f.id = false) :
    (State.deliver_ t x1 x2 x3 x4 x5 x6).rd f i = t.rd f i := (State.deliver_keeps_ (Keeps.refl 0x20000000000000000000000000000000080000000000000000000000000000000000000000000000000000000000000000000000000000000000000000000000000000000000000000000000000000000000000 0x104000 t) (Sub.refl _) (Sub.refl _)).rd f i rfl h

@[simp] theorem State.laneReturn_rd {x1} {f : Fld} {i : Nat} (h : Nat.testBit 0x10000000000000000000000000000000000000000000000000000000000000000000000000000000000000000000000000000000000000000000000000000 f.id = false) :
    (State.laneReturn t x1).rd f i = t.rd f i := (State.laneReturn_keeps (Keeps.refl 0x10000000000000000000000000000000000000000000000000000000000000000000000000000000000000000000000000000000000000000000000000000 0 t) (Sub.refl _)).rd f i rfl h

@[simp] theorem State.cdrLock_rd {x1} {f : Fld} {i : Nat} (h : Nat.testBit 0x400000000000000000000000000000000000000000000000000000000000000000000000000000000000000000000000000000000000000000000000000 f.id = false) :
    (State.cdrLock t x1).rd f i = t.rd f i := (State.cdrLock_keeps (Keeps.refl 0x400000000000000000000000000000000000000000000000000000000000000000000000000000000000000000000000000000000000000000000000000 0 t) (Sub.refl _)).rd f i rfl h

@[simp] theorem State.esmcEpoch_rd {f : Fld} {i : Nat} (h : Nat.testBit 0x3100000000000000000000000000000000000000000000000000000000000000000000000000000000000000000000000000000000000000000000000000000000000 f.id = false) :
    (State.esmcEpoch t).rd f i = t.rd f i := (State.esmcEpoch_keeps (Keeps.refl 0x3100000000000000000000000000000000000000000000000000000000000000000000000000000000000000000000000000000000000000000000000000000000000 0x80000 t) (Sub.refl _) (Sub.refl _)).rd f i rfl h

@[simp] theorem State.linkDownNow_rd {x1 x2} {f : Fld} {i : Nat} (h : Nat.testBit 0x8017d100000100000000000000440000000000000020000000000000000000000000000002080000000003e00000080000000600000000000000000000000000000000000000000000000000000000000000000000000000000000000000000000000000000000000 f.id = false) :
    (State.linkDownNow t x1 x2).rd f i = t.rd f i := (State.linkDownNow_keeps (Keeps.refl 0x8017d100000100000000000000440000000000000020000000000000000000000000000002080000000003e00000080000000600000000000000000000000000000000000000000000000000000000000000000000000000000000000000000000000000000000000 0x30c026 t) (Sub.refl _) (Sub.refl _)).rd f i rfl h

@[simp] theorem State.drainStalled_rd {f : Fld} {i : Nat} (h : Nat.testBit 0x8017d100000100000000000000440000000000000022000000000000000000000000000000080000000000000000080000000600000000000000000000000000000000000000000000000000000000000000000000000000000000000000000000000000000000000 f.id = false) :
    (State.drainStalled t).rd f i = t.rd f i := (State.drainStalled_keeps (Keeps.refl 0x8017d100000100000000000000440000000000000022000000000000000000000000000000080000000000000000080000000600000000000000000000000000000000000000000000000000000000000000000000000000000000000000000000000000000000000 0x304026 t) (Sub.refl _) (Sub.refl _)).rd f i rfl h

@[simp] theorem State.retireFrames_rd {x1} {f : Fld} {i : Nat} (h : Nat.testBit 0x8017d100000100000000000000440000000000000022000000000000000000000000000000080000000000000000080000000600000000000000000000000000000000000000000000000000000000000000000000000000000000000000000000000000000000000 f.id = false) :
    (State.retireFrames t x1).rd f i = t.rd f i := (State.retireFrames_keeps (Keeps.refl 0x8017d100000100000000000000440000000000000022000000000000000000000000000000080000000000000000080000000600000000000000000000000000000000000000000000000000000000000000000000000000000000000000000000000000000000000 0x304026 t) (Sub.refl _) (Sub.refl _)).rd f i rfl h

@[simp] theorem State.portReset_rd {x1} {f : Fld} {i : Nat} (h : Nat.testBit 0x8017d100000100000000000000440000000000000022000000000000000000000000000002080000000003e00000080000000600000000000000000000000000000000000000000000000000000000000000000000000000000000000000000000000000000000000 f.id = false) :
    (State.portReset t x1).rd f i = t.rd f i := (State.portReset_keeps (Keeps.refl 0x8017d100000100000000000000440000000000000022000000000000000000000000000002080000000003e00000080000000600000000000000000000000000000000000000000000000000000000000000000000000000000000000000000000000000000000000 0x30c026 t) (Sub.refl _) (Sub.refl _)).rd f i rfl h

@[simp] theorem State.restartLink_rd {x1} {f : Fld} {i : Nat} (h : Nat.testBit 0x8017d100000100000000000000440000000000000022000000000000000000000000000002080000000003e00000080000000600000000000000000000000000000000000000000000000000000000000000000000000000000000000000000000000000000000000 f.id = false) :
    (State.restartLink t x1).rd f i = t.rd f i := (State.restartLink_keeps (Keeps.refl 0x8017d100000100000000000000440000000000000022000000000000000000000000000002080000000003e00000080000000600000000000000000000000000000000000000000000000000000000000000000000000000000000000000000000000000000000000 0x30c026 t) (Sub.refl _) (Sub.refl _)).rd f i rfl h

@[simp] theorem State.esmcSend_rd {x1 x2} {f : Fld} {i : Nat} (h : Nat.testBit 0x80000000000000000000000000000000000000000000000000000000000000000000000000000000000000000000000000000000000000000000000000000000000000 f.id = false) :
    (State.esmcSend t x1 x2).rd f i = t.rd f i := (State.esmcSend_keeps (Keeps.refl 0x80000000000000000000000000000000000000000000000000000000000000000000000000000000000000000000000000000000000000000000000000000000000000 0x300000 t) (Sub.refl _) (Sub.refl _)).rd f i rfl h

@[simp] theorem State.esmcTx_rd {x1} {f : Fld} {i : Nat} (h : Nat.testBit 0x80000000000000000000000000000000000000000000000000000000000000000000000000000000000000000000000000000000000000000000000000000000000000 f.id = false) :
    (State.esmcTx t x1).rd f i = t.rd f i := (State.esmcTx_keeps (Keeps.refl 0x80000000000000000000000000000000000000000000000000000000000000000000000000000000000000000000000000000000000000000000000000000000000000 0x300000 t) (Sub.refl _) (Sub.refl _)).rd f i rfl h

@[simp] theorem State.frameTx_rd {x1 x2} {f : Fld} {i : Nat} (h : Nat.testBit 0x20000000000000000000000000000000080000000000000000000000000000000000000000000000000000000000000000000000000000000000000000000000000000000000000000000000000000000000000 f.id = false) :
    (State.frameTx t x1 x2).rd f i = t.rd f i := (State.frameTx_keeps (Keeps.refl 0x20000000000000000000000000000000080000000000000000000000000000000000000000000000000000000000000000000000000000000000000000000000000000000000000000000000000000000000000 0x304000 t) (Sub.refl _) (Sub.refl _)).rd f i rfl h

@[simp] theorem State.countRx_rd {x1 x2} {f : Fld} {i : Nat} (h : Nat.testBit 0x80000000000000000000000000000000000000000000000000000000000000000000000000000000000000000000000000000000000000000000000000000000000000 f.id = false) :
    (State.countRx t x1 x2).rd f i = t.rd f i := (State.countRx_keeps (Keeps.refl 0x80000000000000000000000000000000000000000000000000000000000000000000000000000000000000000000000000000000000000000000000000000000000000 0 t) (Sub.refl _)).rd f i rfl h

@[simp] theorem State.cueLaunch_rd {x1 x2 x3} {f : Fld} {i : Nat} (h : Nat.testBit 0x8017d100000100000000000000440000000000000022000000000000000000000000000000080000000000000000080000000600000000000000000000000000000000000000000000000000000000000000000000000000000000000000000000000000000000000 f.id = false) :
    (State.cueLaunch t x1 x2 x3).rd f i = t.rd f i := (State.cueLaunch_keeps (Keeps.refl 0x8017d100000100000000000000440000000000000022000000000000000000000000000000080000000000000000080000000600000000000000000000000000000000000000000000000000000000000000000000000000000000000000000000000000000000000 0x304026 t) (Sub.refl _) (Sub.refl _)).rd f i rfl h

@[simp] theorem State.toHost_rd {x1 x2 x3 x4} {f : Fld} {i : Nat} (h : Nat.testBit 0x20000000000000000000000000000000080000000000000000000000000000000000000000000000000000000000000000000000000000000000000000000000000000000000000000000000000000000000000 f.id = false) :
    (State.toHost t x1 x2 x3 x4).rd f i = t.rd f i := (State.toHost_keeps (Keeps.refl 0x20000000000000000000000000000000080000000000000000000000000000000000000000000000000000000000000000000000000000000000000000000000000000000000000000000000000000000000000 0x104000 t) (Sub.refl _) (Sub.refl _)).rd f i rfl h

@[simp] theorem State.frameRx_rd {x1 x2 x3} {f : Fld} {i : Nat} (h : Nat.testBit 0x20000000000000000000000000000000080000000000000000000000000000000000000000000000000000000000000000000000000000000000000000000000000000000000000000000000000000000000000 f.id = false) :
    (State.frameRx t x1 x2 x3).rd f i = t.rd f i := (State.frameRx_keeps (Keeps.refl 0x20000000000000000000000000000000080000000000000000000000000000000000000000000000000000000000000000000000000000000000000000000000000000000000000000000000000000000000000 0x114000 t) (Sub.refl _) (Sub.refl _)).rd f i rfl h

@[simp] theorem State.laneFallback_rd {x1} {f : Fld} {i : Nat} (h : Nat.testBit 0x8017d100000100000000000000440000000000000020000000000000000000000000000000080000000010000000080000000600000000000000000000000000000000000000000000000000000000000000000000000000000000000000000000000000000000000 f.id = false) :
    (State.laneFallback t x1).rd f i = t.rd f i := (State.laneFallback_keeps (Keeps.refl 0x8017d100000100000000000000440000000000000020000000000000000000000000000000080000000010000000080000000600000000000000000000000000000000000000000000000000000000000000000000000000000000000000000000000000000000000 0x304026 t) (Sub.refl _) (Sub.refl _)).rd f i rfl h

@[simp] theorem State.esmcChanged_rd {x1} {f : Fld} {i : Nat} (h : Nat.testBit 0x80000000000000000000000000000000000000000000000000000000000000000000000000000000000000000000000000000000000000000000000000000000000000 f.id = false) :
    (State.esmcChanged t x1).rd f i = t.rd f i := (State.esmcChanged_keeps (Keeps.refl 0x80000000000000000000000000000000000000000000000000000000000000000000000000000000000000000000000000000000000000000000000000000000000000 0x300002 t) (Sub.refl _) (Sub.refl _)).rd f i rfl h

@[simp] theorem State.bridgeForward_rd {x1 x2 x3 x4} {f : Fld} {i : Nat} (h : Nat.testBit 0x8017d100000100000000000000440000000000000020000000000000000000000000000020080000000000000000080000000600000000000000000000000000000000000000000000000000000000000000000000000000000000000000000000000000000000000 f.id = false) :
    (State.bridgeForward t x1 x2 x3 x4).rd f i = t.rd f i := (State.bridgeForward_keeps (Keeps.refl 0x8017d100000100000000000000440000000000000020000000000000000000000000000020080000000000000000080000000600000000000000000000000000000000000000000000000000000000000000000000000000000000000000000000000000000000000 0x314026 t) (Sub.refl _) (Sub.refl _)).rd f i rfl h

@[simp] theorem State.restartEq_rd {x1} {f : Fld} {i : Nat} (h : Nat.testBit 0x80000000000000000000000000000000000000000000000000000000000000000000000000000000000000000000000000000000000000000000000000000000000000 f.id = false) :
    (State.restartEq t x1).rd f i = t.rd f i := (State.restartEq_keeps (Keeps.refl 0x80000000000000000000000000000000000000000000000000000000000000000000000000000000000000000000000000000000000000000000000000000000000000 0 t) (Sub.refl _)).rd f i rfl h

@[simp] theorem State.powerDown_rd {x1} {f : Fld} {i : Nat} (h : Nat.testBit 0x440000000000000000000000000000000000000000000000000000000000000000080000000600000000000000000000000000000000000000000000000000000000000000000000000000000000000000000000000000000100000 f.id = false) :
    (State.powerDown t x1).rd f i = t.rd f i := (State.powerDown_keeps (Keeps.refl 0x440000000000000000000000000000000000000000000000000000000000000000080000000600000000000000000000000000000000000000000000000000000000000000000000000000000000000000000000000000000100000 0x200262 t) (Sub.refl _) (Sub.refl _)).rd f i rfl h

@[simp] theorem State.checkFeeds_rd {f : Fld} {i : Nat} (h : Nat.testBit 0x440000000000000000000000000000000000000000000000000000000000000000080000000600000000000000000000000000000000000000000000000000000000000000000000000000000000000000000000000000000100000 f.id = false) :
    (State.checkFeeds t).rd f i = t.rd f i := (State.checkFeeds_keeps (Keeps.refl 0x440000000000000000000000000000000000000000000000000000000000000000080000000600000000000000000000000000000000000000000000000000000000000000000000000000000000000000000000000000000100000 0x200262 t) (Sub.refl _) (Sub.refl _)).rd f i rfl h

@[simp] theorem State.alertResponse_rd {f : Fld} {i : Nat} : (State.alertResponse t).rd f i = t.rd f i :=
  (State.alertResponse_keeps (Keeps.refl 0 0x100040 t) (Sub.refl _)).rd f i rfl (Nat.zero_testBit _)

@[simp] theorem State.checkAlert_rd {f : Fld} {i : Nat} : (State.checkAlert t).rd f i = t.rd f i :=
  (State.checkAlert_keeps (Keeps.refl 0 0x40 t) (Sub.refl _)).rd f i rfl (Nat.zero_testBit _)

@[simp] theorem State.testResult_rd {x1 x2} {f : Fld} {i : Nat} (h : Nat.testBit 0xc0400000 f.id = false) :
    (State.testResult t x1 x2).rd f i = t.rd f i := (State.testResult_keeps (Keeps.refl 0xc0400000 0x2 t) (Sub.refl _) (Sub.refl _)).rd f i rfl h

@[simp] theorem State.noteRedundant_rd {f : Fld} {i : Nat} (h : Nat.testBit 0x200000 f.id = false) :
    (State.noteRedundant t).rd f i = t.rd f i := (State.noteRedundant_keeps (Keeps.refl 0x200000 0 t) (Sub.refl _)).rd f i rfl h

@[simp] theorem State.feedGoes_rd {x1 x2} {f : Fld} {i : Nat} (h : Nat.testBit 0x200400 f.id = false) :
    (State.feedGoes t x1 x2).rd f i = t.rd f i := (State.feedGoes_keeps (Keeps.refl 0x200400 0x2 t) (Sub.refl _) (Sub.refl _)).rd f i rfl h

@[simp] theorem State.endTest_rd {x1 x2 x3} {f : Fld} {i : Nat} (h : Nat.testBit 0xe0600400 f.id = false) :
    (State.endTest t x1 x2 x3).rd f i = t.rd f i := (State.endTest_keeps (Keeps.refl 0xe0600400 0x42 t) (Sub.refl _) (Sub.refl _)).rd f i rfl h

@[simp] theorem State.abortTest_rd {f : Fld} {i : Nat} (h : Nat.testBit 0xe0600400 f.id = false) :
    (State.abortTest t).rd f i = t.rd f i := (State.abortTest_keeps (Keeps.refl 0xe0600400 0x42 t) (Sub.refl _) (Sub.refl _)).rd f i rfl h

@[simp] theorem State.feedSample_rd {x1 x2 x3 x4} {f : Fld} {i : Nat} (h : Nat.testBit 0x420203fbc f.id = false) :
    (State.feedSample t x1 x2 x3 x4).rd f i = t.rd f i := (State.feedSample_keeps (Keeps.refl 0x420203fbc 0x42 t) (Sub.refl _) (Sub.refl _)).rd f i rfl h

@[simp] theorem State.railOff_rd {f : Fld} {i : Nat} (h : Nat.testBit 0x10000000000000000000000000000000000000440000000000000000000000000000000000000000000000000000000000000000080000000600000000000000000000000000000000000000000000000000000001080000000000000000000000000018000000000800000220400 f.id = false) :
    (State.railOff t).rd f i = t.rd f i := (State.railOff_keeps (Keeps.refl 0x10000000000000000000000000000000000000440000000000000000000000000000000000000000000000000000000000000000080000000600000000000000000000000000000000000000000000000000000001080000000000000000000000000018000000000800000220400 0x201afa t) (Sub.refl _) (Sub.refl _)).rd f i rfl h

@[simp] theorem State.feedQualified_rd {x1} {f : Fld} {i : Nat} (h : Nat.testBit 0x200400 f.id = false) :
    (State.feedQualified t x1).rd f i = t.rd f i := (State.feedQualified_keeps (Keeps.refl 0x200400 0x2 t) (Sub.refl _) (Sub.refl _)).rd f i rfl h

@[simp] theorem State.railFault_rd {x1 x2} {f : Fld} {i : Nat} (h : Nat.testBit 0x8017d100000100000000000000440000000000000020000000000000000000000000000000000000000000000000080000000600000000000000000000000000000000000000000000000000000000000000000000000000000000000000000000000000000000000 f.id = false) :
    (State.railFault t x1 x2).rd f i = t.rd f i := (State.railFault_keeps (Keeps.refl 0x8017d100000100000000000000440000000000000020000000000000000000000000000000000000000000000000080000000600000000000000000000000000000000000000000000000000000000000000000000000000000000000000000000000000000000000 0x304026 t) (Sub.refl _) (Sub.refl _)).rd f i rfl h

@[simp] theorem State.feedDropout_rd {x1} {f : Fld} {i : Nat} (h : Nat.testBit 0x408c f.id = false) :
    (State.feedDropout t x1).rd f i = t.rd f i := (State.feedDropout_keeps (Keeps.refl 0x408c 0 t) (Sub.refl _)).rd f i rfl h

@[simp] theorem State.pmAnswer_rd {x1} {f : Fld} {i : Nat} : (State.pmAnswer t x1).rd f i = t.rd f i :=
  (State.pmAnswer_keeps (Keeps.refl 0 0x100040 t) (Sub.refl _)).rd f i rfl (Nat.zero_testBit _)

@[simp] theorem State.pmStatusWord_rd {f : Fld} {i : Nat} : (State.pmStatusWord t).rd f i = t.rd f i :=
  (State.pmStatusWord_keeps (Keeps.refl 0 0x100040 t) (Sub.refl _)).rd f i rfl (Nat.zero_testBit _)

@[simp] theorem State.pmPageCmd_rd {x1} {f : Fld} {i : Nat} : (State.pmPageCmd t x1).rd f i = t.rd f i :=
  (State.pmPageCmd_keeps (Keeps.refl 0 0x100040 t) (Sub.refl _)).rd f i rfl (Nat.zero_testBit _)

@[simp] theorem State.feedRecover_rd {x1} {f : Fld} {i : Nat} (h : Nat.testBit 0x200440 f.id = false) :
    (State.feedRecover t x1).rd f i = t.rd f i := (State.feedRecover_keeps (Keeps.refl 0x200440 0x2 t) (Sub.refl _) (Sub.refl _)).rd f i rfl h

@[simp] theorem State.thermalSample_rd {x1 x2 x3 x4 x5 x6} {f : Fld} {i : Nat} (h : Nat.testBit 0x8017d10000010000000000000044000000000000002000000000000000000000000000000000000000000000000008000000060000000000000000000000000000000000000000000000000000000000000000000000000000000000000000000000027f0010c0000 f.id = false) :
    (State.thermalSample t x1 x2 x3 x4 x5 x6).rd f i = t.rd f i := (State.thermalSample_keeps (Keeps.refl 0x8017d10000010000000000000044000000000000002000000000000000000000000000000000000000000000000008000000060000000000000000000000000000000000000000000000000000000000000000000000000000000000000000000000027f0010c0000 0x304266 t) (Sub.refl _) (Sub.refl _)).rd f i rfl h

@[simp] theorem State.thermalTripped_rd {f : Fld} {i : Nat} (h : Nat.testBit 0x8017d100000100000000000000440000000000000020000000000000000000000000000000000000000000000000080000000600000000000000000000000000000000000000000000000000000000000000000000000000000000000000000000000000000100000 f.id = false) :
    (State.thermalTripped t).rd f i = t.rd f i := (State.thermalTripped_keeps (Keeps.refl 0x8017d100000100000000000000440000000000000020000000000000000000000000000000000000000000000000080000000600000000000000000000000000000000000000000000000000000000000000000000000000000000000000000000000000000100000 0x2304266 t) (Sub.refl _) (Sub.refl _)).rd f i rfl h

@[simp] theorem State.feedFaults_rd {x1 x2} {f : Fld} {i : Nat} (h : Nat.testBit 0x8017d1000001000000000000004400000000000000200000000000000000000000000000000000000000000000000800000006000000000000000000000000000000000000000000000000000000000000000000000000000000000000000000000000000c0718480 f.id = false) :
    (State.feedFaults t x1 x2).rd f i = t.rd f i := (State.feedFaults_keeps (Keeps.refl 0x8017d1000001000000000000004400000000000000200000000000000000000000000000000000000000000000000800000006000000000000000000000000000000000000000000000000000000000000000000000000000000000000000000000000000c0718480 0x2304266 t) (Sub.refl _) (Sub.refl _)).rd f i rfl h

@[simp] theorem State.feedUvFault_rd {x1} {f : Fld} {i : Nat} (h : Nat.testBit 0x8017d1000001000000000000004400000000000000200000000000000000000000000000000000000000000000000800000006000000000000000000000000000000000000000000000000000000000000000000000000000000000000000000000000000c0718480 f.id = false) :
    (State.feedUvFault t x1).rd f i = t.rd f i := (State.feedUvFault_keeps (Keeps.refl 0x8017d1000001000000000000004400000000000000200000000000000000000000000000000000000000000000000800000006000000000000000000000000000000000000000000000000000000000000000000000000000000000000000000000000000c0718480 0x2304266 t) (Sub.refl _) (Sub.refl _)).rd f i rfl h

@[simp] theorem State.pmRead_rd {x1 x2} {f : Fld} {i : Nat} : (State.pmRead t x1 x2).rd f i = t.rd f i :=
  (State.pmRead_keeps (Keeps.refl 0 0x300040 t) (Sub.refl _)).rd f i rfl (Nat.zero_testBit _)

@[simp] theorem State.thermalRestart_rd {x1} {f : Fld} {i : Nat} : (State.thermalRestart t x1).rd f i = t.rd f i :=
  (State.thermalRestart_keeps (Keeps.refl 0 0x40 t) (Sub.refl _)).rd f i rfl (Nat.zero_testBit _)

@[simp] theorem State.pmUnsupported_rd {f : Fld} {i : Nat} : (State.pmUnsupported t).rd f i = t.rd f i :=
  (State.pmUnsupported_keeps (Keeps.refl 0 0x100040 t) (Sub.refl _)).rd f i rfl (Nat.zero_testBit _)

@[simp] theorem State.feedOv_rd {x1} {f : Fld} {i : Nat} (h : Nat.testBit 0x8017d1000001000000000000004400000000000000200000000000000000000000000000000000000000000000000800000006000000000000000000000000000000000000000000000000000000000000000000000000000000000000000000000000000c0718494 f.id = false) :
    (State.feedOv t x1).rd f i = t.rd f i := (State.feedOv_keeps (Keeps.refl 0x8017d1000001000000000000004400000000000000200000000000000000000000000000000000000000000000000800000006000000000000000000000000000000000000000000000000000000000000000000000000000000000000000000000000000c0718494 0x2304266 t) (Sub.refl _) (Sub.refl _)).rd f i rfl h

@[simp] theorem State.vbatLow_rd {x1} {f : Fld} {i : Nat} (h : Nat.testBit 0x80000000600000000000000000000000000000000000000000000000000000000000000000000000000000000000000000000000200000080000 f.id = false) :
    (State.vbatLow t x1).rd f i = t.rd f i := (State.vbatLow_keeps (Keeps.refl 0x80000000600000000000000000000000000000000000000000000000000000000000000000000000000000000000000000000000200000080000 0x200012 t) (Sub.refl _) (Sub.refl _)).rd f i rfl h

@[simp] theorem State.feedTestFail_rd {x1} {f : Fld} {i : Nat} (h : Nat.testBit 0x8017d1000001000000000000004400000000000000200000000000000000000000000000000000000000000000000800000006000000000000000000000000000000000000000000000000000000000000000000000000000000000000000000000000000c0718480 f.id = false) :
    (State.feedTestFail t x1).rd f i = t.rd f i := (State.feedTestFail_keeps (Keeps.refl 0x8017d1000001000000000000004400000000000000200000000000000000000000000000000000000000000000000800000006000000000000000000000000000000000000000000000000000000000000000000000000000000000000000000000000000c0718480 0x2304266 t) (Sub.refl _) (Sub.refl _)).rd f i rfl h

@[simp] theorem State.railOffRestart_rd {x1} {f : Fld} {i : Nat} (h : Nat.testBit 0x200400 f.id = false) :
    (State.railOffRestart t x1).rd f i = t.rd f i := (State.railOffRestart_keeps (Keeps.refl 0x200400 0x2 t) (Sub.refl _) (Sub.refl _)).rd f i rfl h

@[simp] theorem State.measureBank_rd {x1 x2} {f : Fld} {i : Nat} (h : Nat.testBit 0x8017d100000100000000000000440000000000000020000000000000000000000000000000000000000000000000080000000600000000000000000000000000000000000000000000000000000000000000000000000000000000000000000000000000300800000 f.id = false) :
    (State.measureBank t x1 x2).rd f i = t.rd f i := (State.measureBank_keeps (Keeps.refl 0x8017d100000100000000000000440000000000000020000000000000000000000000000000000000000000000000080000000600000000000000000000000000000000000000000000000000000000000000000000000000000000000000000000000000300800000 0x304026 t) (Sub.refl _) (Sub.refl _)).rd f i rfl h

@[simp] theorem State.feedTestEnd_rd {x1 x2} {f : Fld} {i : Nat} (h : Nat.testBit 0x8017d1000001000000000000004400000000000000200000000000000000000000000000000000000000000000000800000006000000000000000000000000000000000000000000000000000000000000000000000000000000000000000000000000003e0e00400 f.id = false) :
    (State.feedTestEnd t x1 x2).rd f i = t.rd f i := (State.feedTestEnd_keeps (Keeps.refl 0x8017d1000001000000000000004400000000000000200000000000000000000000000000000000000000000000000800000006000000000000000000000000000000000000000000000000000000000000000000000000000000000000000000000000003e0e00400 0x304066 t) (Sub.refl _) (Sub.refl _)).rd f i rfl h

@[simp] theorem State.pmModel_rd {f : Fld} {i : Nat} : (State.pmModel t).rd f i = t.rd f i :=
  (State.pmModel_keeps (Keeps.refl 0 0x300040 t) (Sub.refl _)).rd f i rfl (Nat.zero_testBit _)

@[simp] theorem State.feedOc_rd {x1} {f : Fld} {i : Nat} (h : Nat.testBit 0x8017d1000001000000000000004400000000000000200000000000000000000000000000000000000000000000000800000006000000000000000000000000000000000000000000000000000000000000000000000000000000000000000000000000000c07184c0 f.id = false) :
    (State.feedOc t x1).rd f i = t.rd f i := (State.feedOc_keeps (Keeps.refl 0x8017d1000001000000000000004400000000000000200000000000000000000000000000000000000000000000000800000006000000000000000000000000000000000000000000000000000000000000000000000000000000000000000000000000000c07184c0 0x2304266 t) (Sub.refl _) (Sub.refl _)).rd f i rfl h

@[simp] theorem State.later_rd {x1} {f : Fld} {i : Nat} : (State.later t x1).rd f i = t.rd f i :=
  (State.later_keeps (Keeps.refl 0 0x80000 t) (Sub.refl _)).rd f i rfl (Nat.zero_testBit _)

@[simp] theorem State.qmGoes_rd {x1 x2 x3} {f : Fld} {i : Nat} (h : Nat.testBit 0x80000000000000000000000000000000000000000000000000 f.id = false) :
    (State.qmGoes t x1 x2 x3).rd f i = t.rd f i := (State.qmGoes_keeps (Keeps.refl 0x80000000000000000000000000000000000000000000000000 0x80802 t) (Sub.refl _) (Sub.refl _)).rd f i rfl h

@[simp] theorem State.qmReset_rd {x1} {f : Fld} {i : Nat} (h : Nat.testBit 0xb280000000000000000000000000000000000000000000000000 f.id = false) :
    (State.qmReset t x1).rd f i = t.rd f i := (State.qmReset_keeps (Keeps.refl 0xb280000000000000000000000000000000000000000000000000 0x80802 t) (Sub.refl _) (Sub.refl _)).rd f i rfl h

@[simp] theorem State.setOut2_rd {x1 x2 x3} {f : Fld} {i : Nat} (h : Nat.testBit 0x2000000000000000000000000000000000000000000000000000000 f.id = false) :
    (State.setOut2 t x1 x2 x3).rd f i = t.rd f i := (State.setOut2_keeps (Keeps.refl 0x2000000000000000000000000000000000000000000000000000000 0x80800 t) (Sub.refl _) (Sub.refl _)).rd f i rfl h

@[simp] theorem State.captureQl_rd {x1} {f : Fld} {i : Nat} (h : Nat.testBit 0x4100000000000000000000000000000000000000000000000000 f.id = false) :
    (State.captureQl t x1).rd f i = t.rd f i := (State.captureQl_keeps (Keeps.refl 0x4100000000000000000000000000000000000000000000000000 0x80800 t) (Sub.refl _) (Sub.refl _)).rd f i rfl h

@[simp] theorem State.votes_rd {f : Fld} {i : Nat} (h : Nat.testBit 0x3e00400000000000000000000000000000000000000000000000000 f.id = false) :
    (State.votes t).rd f i = t.rd f i := (State.votes_keeps (Keeps.refl 0x3e00400000000000000000000000000000000000000000000000000 0x80800 t) (Sub.refl _) (Sub.refl _)).rd f i rfl h

@[simp] theorem State.qmRetire_rd {x1} {f : Fld} {i : Nat} (h : Nat.testBit 0xc00000080000000000000000000000000000000000000000000000000 f.id = false) :
    (State.qmRetire t x1).rd f i = t.rd f i := (State.qmRetire_keeps (Keeps.refl 0xc00000080000000000000000000000000000000000000000000000000 0x80a0a t) (Sub.refl _) (Sub.refl _)).rd f i rfl h

@[simp] theorem State.qmEpoch_rd {x1} {f : Fld} {i : Nat} (h : Nat.testBit 0xc00020080000000000000000000000000000000000000000000000000 f.id = false) :
    (State.qmEpoch t x1).rd f i = t.rd f i := (State.qmEpoch_keeps (Keeps.refl 0xc00020080000000000000000000000000000000000000000000000000 0x80a0a t) (Sub.refl _) (Sub.refl _)).rd f i rfl h

@[simp] theorem State.qualEpoch_rd {f : Fld} {i : Nat} (h : Nat.testBit 0xc03e2ff80000000000000000000000000000000000000000000000000 f.id = false) :
    (State.qualEpoch t).rd f i = t.rd f i := (State.qualEpoch_keeps (Keeps.refl 0xc03e2ff80000000000000000000000000000000000000000000000000 0x80a0a t) (Sub.refl _) (Sub.refl _)).rd f i rfl h

@[simp] theorem State.strobe_rd {x1 x2} {f : Fld} {i : Nat} (h : Nat.testBit 0x8017d10000010000000000000044000000000000002000000000000000000000000000000000000000000000000008000000060000000000000000000000a600000100826000000000000002000000200000000000000000000000000000000000000000000000000 f.id = false) :
    (State.strobe t x1 x2).rd f i = t.rd f i := (State.strobe_keeps (Keeps.refl 0x8017d10000010000000000000044000000000000002000000000000000000000000000000000000000000000000008000000060000000000000000000000a600000100826000000000000002000000200000000000000000000000000000000000000000000000000 0x2306b26 t) (Sub.refl _) (Sub.refl _)).rd f i rfl h

@[simp] theorem State.phaseHit_rd {x1} {f : Fld} {i : Nat} (h : Nat.testBit 0x8017d10000010000000000000044000000000000002000000000000000000000000000000000000000000000000008000000060000000000000000000000a600000100826000000000000002000010200000000000000000000000000000000000000000000000000 f.id = false) :
    (State.phaseHit t x1).rd f i = t.rd f i := (State.phaseHit_keeps (Keeps.refl 0x8017d10000010000000000000044000000000000002000000000000000000000000000000000000000000000000008000000060000000000000000000000a600000100826000000000000002000010200000000000000000000000000000000000000000000000000 0x2306b26 t) (Sub.refl _) (Sub.refl _)).rd f i rfl h

@[simp] theorem State.acceptResidual_rd {x1 x2 x3} {f : Fld} {i : Nat} : (State.acceptResidual t x1 x2 x3).rd f i = t.rd f i :=
  (State.acceptResidual_keeps (Keeps.refl 0 0x800 t) (Sub.refl _)).rd f i rfl (Nat.zero_testBit _)

@[simp] theorem State.judgeHit_rd {x1 x2 x3} {f : Fld} {i : Nat} (h : Nat.testBit 0x8017d10000010000000000000044000000000000002000000000000000000000000000000000000000000000000008000000060000000000000000000000a600000100826000000000000002000010200000000000000000000000000000000000000000000000000 f.id = false) :
    (State.judgeHit t x1 x2 x3).rd f i = t.rd f i := (State.judgeHit_keeps (Keeps.refl 0x8017d10000010000000000000044000000000000002000000000000000000000000000000000000000000000000008000000060000000000000000000000a600000100826000000000000002000010200000000000000000000000000000000000000000000000000 0x2306b26 t) (Sub.refl _) (Sub.refl _)).rd f i rfl h

@[simp] theorem State.updateY_rd {x1 x2 x3 x4} {f : Fld} {i : Nat} : (State.updateY t x1 x2 x3 x4).rd f i = t.rd f i :=
  (State.updateY_keeps (Keeps.refl 0 0x800 t) (Sub.refl _)).rd f i rfl (Nat.zero_testBit _)

@[simp] theorem State.monResult_rd {x1 x2} {f : Fld} {i : Nat} : (State.monResult t x1 x2).rd f i = t.rd f i :=
  (State.monResult_keeps (Keeps.refl 0 0x800 t) (Sub.refl _)).rd f i rfl (Nat.zero_testBit _)

@[simp] theorem State.qmUnitRetire_rd {x1} {f : Fld} {i : Nat} (h : Nat.testBit 0x1080000000000000000000000000000000000000000000000000 f.id = false) :
    (State.qmUnitRetire t x1).rd f i = t.rd f i := (State.qmUnitRetire_keeps (Keeps.refl 0x1080000000000000000000000000000000000000000000000000 0x80802 t) (Sub.refl _) (Sub.refl _)).rd f i rfl h

@[simp] theorem State.detectResume_rd {f : Fld} {i : Nat} : (State.detectResume t).rd f i = t.rd f i :=
  (State.detectResume_keeps (Keeps.refl 0 0xc00 t) (Sub.refl _)).rd f i rfl (Nat.zero_testBit _)

@[simp] theorem State.missingEdge_rd {x1} {f : Fld} {i : Nat} (h : Nat.testBit 0x8017d10000010000000000000044000000000000002000000000000000000000000000000000000000000000000008000000060000000000000000000000a600000100826000000000000002000000200000000000000000000000000000000000000000000000000 f.id = false) :
    (State.missingEdge t x1).rd f i = t.rd f i := (State.missingEdge_keeps (Keeps.refl 0x8017d10000010000000000000044000000000000002000000000000000000000000000000000000000000000000008000000060000000000000000000000a600000100826000000000000002000000200000000000000000000000000000000000000000000000000 0x2306b26 t) (Sub.refl _) (Sub.refl _)).rd f i rfl h

@[simp] theorem State.holdoffEnd_rd {x1} {f : Fld} {i : Nat} (h : Nat.testBit 0x80000000000000000000000000000000000000000000000000 f.id = false) :
    (State.holdoffEnd t x1).rd f i = t.rd f i := (State.holdoffEnd_keeps (Keeps.refl 0x80000000000000000000000000000000000000000000000000 0x80802 t) (Sub.refl _) (Sub.refl _)).rd f i rfl h

@[simp] theorem State.qmUnretire_rd {x1} {f : Fld} {i : Nat} (h : Nat.testBit 0x1080000000000000000000000000000000000000000000000000 f.id = false) :
    (State.qmUnretire t x1).rd f i = t.rd f i := (State.qmUnretire_keeps (Keeps.refl 0x1080000000000000000000000000000000000000000000000000 0x80802 t) (Sub.refl _) (Sub.refl _)).rd f i rfl h

@[simp] theorem State.windowMiss_rd {x1} {f : Fld} {i : Nat} (h : Nat.testBit 0x8017d10000010000000000000044000000000000002000000000000000000000000000000000000000000000000008000000060000000000000000000000a600000100826000000000000002000000200000000000000000000000000000000000000000000000000 f.id = false) :
    (State.windowMiss t x1).rd f i = t.rd f i := (State.windowMiss_keeps (Keeps.refl 0x8017d10000010000000000000044000000000000002000000000000000000000000000000000000000000000000008000000060000000000000000000000a600000100826000000000000002000000200000000000000000000000000000000000000000000000000 0x2306b26 t) (Sub.refl _) (Sub.refl _)).rd f i rfl h

@[simp] theorem State.qualStamp_rd {x1 x2 x3} {f : Fld} {i : Nat} (h : Nat.testBit 0x8017d10000010000000000000044000000000000002000000000000000000000000000000000000000000000000008000000060000000000000000000000a600000100826000000000000002000010200000000000000000000000000000000000000000000000000 f.id = false) :
    (State.qualStamp t x1 x2 x3).rd f i = t.rd f i := (State.qualStamp_keeps (Keeps.refl 0x8017d10000010000000000000044000000000000002000000000000000000000000000000000000000000000000008000000060000000000000000000000a600000100826000000000000002000010200000000000000000000000000000000000000000000000000 0x2306b26 t) (Sub.refl _) (Sub.refl _)).rd f i rfl h

@[simp] theorem State.validationEnd_rd {x1} {f : Fld} {i : Nat} (h : Nat.testBit 0x80000000000000000000000000000000000000000000000000 f.id = false) :
    (State.validationEnd t x1).rd f i = t.rd f i := (State.validationEnd_keeps (Keeps.refl 0x80000000000000000000000000000000000000000000000000 0x80802 t) (Sub.refl _) (Sub.refl _)).rd f i rfl h

@[simp] theorem State.faultReel_rd {x1 x2 x3} {f : Fld} {i : Nat} (h : Nat.testBit 0x8017d1000001000000000000004400000000000000200f8000000000000000000000000000000000000000000000080000000600000000000000000000000000000000000000000000000000000000000000000000000000000000000000000000000000000000000 f.id = false) :
    (State.faultReel t x1 x2 x3).rd f i = t.rd f i := (State.faultReel_keeps (Keeps.refl 0x8017d1000001000000000000004400000000000000200f8000000000000000000000000000000000000000000000080000000600000000000000000000000000000000000000000000000000000000000000000000000000000000000000000000000000000000000 0x304026 t) (Sub.refl _) (Sub.refl _)).rd f i rfl h

@[simp] theorem State.modReel_rd {x1 x2} {f : Fld} {i : Nat} : (State.modReel t x1 x2).rd f i = t.rd f i :=
  (State.modReel_keeps (Keeps.refl 0 0x4000 t) (Sub.refl _)).rd f i rfl (Nat.zero_testBit _)

@[simp] theorem State.signalReel_rd {x1} {f : Fld} {i : Nat} (h : Nat.testBit 0x20000000000000000000000000000000000000000000000000000000000000000000000000000000000000000000000000000000000000000000000000000000000000000000000000000000000000000000000 f.id = false) :
    (State.signalReel t x1).rd f i = t.rd f i := (State.signalReel_keeps (Keeps.refl 0x20000000000000000000000000000000000000000000000000000000000000000000000000000000000000000000000000000000000000000000000000000000000000000000000000000000000000000000000 0x104000 t) (Sub.refl _) (Sub.refl _)).rd f i rfl h

@[simp] theorem State.noteEntry_rd {x1} {f : Fld} {i : Nat} (h : Nat.testBit 0x20000000000000000000000000000000000000000000000000000000000000000000000000000000000000000000000000000000000000000000000000000000000000000000000000000000000000000000000 f.id = false) :
    (State.noteEntry t x1).rd f i = t.rd f i := (State.noteEntry_keeps (Keeps.refl 0x20000000000000000000000000000000000000000000000000000000000000000000000000000000000000000000000000000000000000000000000000000000000000000000000000000000000000000000000 0x104000 t) (Sub.refl _) (Sub.refl _)).rd f i rfl h

@[simp] theorem State.writeEntry_rd {x1 x2} {f : Fld} {i : Nat} (h : Nat.testBit 0x20000000000000000000000000000000000000000000000000000000000000000000000000000000000000000000000000000000000000000000000000000000000000000000000000000000000000000000000 f.id = false) :
    (State.writeEntry t x1 x2).rd f i = t.rd f i := (State.writeEntry_keeps (Keeps.refl 0x20000000000000000000000000000000000000000000000000000000000000000000000000000000000000000000000000000000000000000000000000000000000000000000000000000000000000000000000 0x104000 t) (Sub.refl _) (Sub.refl _)).rd f i rfl h

@[simp] theorem State.complete_rd {x1 x2} {f : Fld} {i : Nat} (h : Nat.testBit 0x20000000000000000000000000000000000000000000000000000000000000000000000000000000000000000000000000000000000000000000000000000000000000000000000000000000000000000000000 f.id = false) :
    (State.complete t x1 x2).rd f i = t.rd f i := (State.complete_keeps (Keeps.refl 0x20000000000000000000000000000000000000000000000000000000000000000000000000000000000000000000000000000000000000000000000000000000000000000000000000000000000000000000000 0x104000 t) (Sub.refl _) (Sub.refl _)).rd f i rfl h

@[simp] theorem State.finishRecords_rd {x1} {f : Fld} {i : Nat} (h : Nat.testBit 0x20000000000000000000000000000000000000000000000000000000000000000000000000000000000000000000000000000000000000000000000000000000000000000000000000000000000000000000000 f.id = false) :
    (State.finishRecords t x1).rd f i = t.rd f i := (State.finishRecords_keeps (Keeps.refl 0x20000000000000000000000000000000000000000000000000000000000000000000000000000000000000000000000000000000000000000000000000000000000000000000000000000000000000000000000 0x104000 t) (Sub.refl _) (Sub.refl _)).rd f i rfl h

@[simp] theorem State.recordsFlush_rd {x1} {f : Fld} {i : Nat} (h : Nat.testBit 0x20000000000000000000000000000000000000000000000000000000000000000000000000000000000000000000000000000000000000000000000000000000000000000000000000000000000000000000000 f.id = false) :
    (State.recordsFlush t x1).rd f i = t.rd f i := (State.recordsFlush_keeps (Keeps.refl 0x20000000000000000000000000000000000000000000000000000000000000000000000000000000000000000000000000000000000000000000000000000000000000000000000000000000000000000000000 0x104000 t) (Sub.refl _) (Sub.refl _)).rd f i rfl h

@[simp] theorem State.writeHeld_rd {x1} {f : Fld} {i : Nat} (h : Nat.testBit 0x20000000000000000000000000000000000000000000000000000000000000000000000000000000000000000000000000000000000000000000000000000000000000000000000000000000000000000000000 f.id = false) :
    (State.writeHeld t x1).rd f i = t.rd f i := (State.writeHeld_keeps (Keeps.refl 0x20000000000000000000000000000000000000000000000000000000000000000000000000000000000000000000000000000000000000000000000000000000000000000000000000000000000000000000000 0x104000 t) (Sub.refl _) (Sub.refl _)).rd f i rfl h

@[simp] theorem State.pushRecord_rd {x1 x2} {f : Fld} {i : Nat} (h : Nat.testBit 0x20000000000000000000000000000000000000000000000000000000000000000000000000000000000000000000000000000000000000000000000000000000000000000000000000000000000000000000000 f.id = false) :
    (State.pushRecord t x1 x2).rd f i = t.rd f i := (State.pushRecord_keeps (Keeps.refl 0x20000000000000000000000000000000000000000000000000000000000000000000000000000000000000000000000000000000000000000000000000000000000000000000000000000000000000000000000 0x104000 t) (Sub.refl _) (Sub.refl _)).rd f i rfl h

@[simp] theorem State.scount_rd {x1} {f : Fld} {i : Nat} (h : Nat.testBit 0x1000000000000000000000000000000000000000000000000000000000000000000000000000000000000000000000000000000000000000000000000000000000000000000000000000 f.id = false) :
    (State.scount t x1).rd f i = t.rd f i := (State.scount_keeps (Keeps.refl 0x1000000000000000000000000000000000000000000000000000000000000000000000000000000000000000000000000000000000000000000000000000000000000000000000000000 0 t) (Sub.refl _)).rd f i rfl h

@[simp] theorem State.svcEpoch_rd {f : Fld} {i : Nat} (h : Nat.testBit 0xf800000000000000000000000000000000000000000000000000000000000000000000000000000000000000000000000000000000000000000000000000000000000000000 f.id = false) :
    (State.svcEpoch t).rd f i = t.rd f i := (State.svcEpoch_keeps (Keeps.refl 0xf800000000000000000000000000000000000000000000000000000000000000000000000000000000000000000000000000000000000000000000000000000000000000000 0x90000 t) (Sub.refl _) (Sub.refl _)).rd f i rfl h

@[simp] theorem State.awaitGeneral_rd {x1} {f : Fld} {i : Nat} : (State.awaitGeneral t x1).rd f i = t.rd f i :=
  (State.awaitGeneral_keeps (Keeps.refl 0 0x10000 t) (Sub.refl _)).rd f i rfl (Nat.zero_testBit _)

@[simp] theorem State.syncSend_rd {x1 x2 x3 x4 x5} {f : Fld} {i : Nat} (h : Nat.testBit 0x1000000000000080000000000000000000000000000000000000000000000000000000000000000000000000000000000000000000000000000000000000000000000000000000000000 f.id = false) :
    (State.syncSend t x1 x2 x3 x4 x5).rd f i = t.rd f i := (State.syncSend_keeps (Keeps.refl 0x1000000000000080000000000000000000000000000000000000000000000000000000000000000000000000000000000000000000000000000000000000000000000000000000000000 0x310000 t) (Sub.refl _) (Sub.refl _)).rd f i rfl h

@[simp] theorem State.announceSend_rd {x1 x2 x3 x4} {f : Fld} {i : Nat} (h : Nat.testBit 0x1000000000000080000000000000000000000000000000000000000000000000000000000000000000000000000000000000000000000000000000000000000000000000000000000000 f.id = false) :
    (State.announceSend t x1 x2 x3 x4).rd f i = t.rd f i := (State.announceSend_keeps (Keeps.refl 0x1000000000000080000000000000000000000000000000000000000000000000000000000000000000000000000000000000000000000000000000000000000000000000000000000000 0x300000 t) (Sub.refl _) (Sub.refl _)).rd f i rfl h

@[simp] theorem State.multicastEpoch_rd {x1 x2 x3} {f : Fld} {i : Nat} (h : Nat.testBit 0x1000000000000080000000000000000000000000000000000000000000000000000000000000000000000000000000000000000000000000000000000000000000000000000000000000 f.id = false) :
    (State.multicastEpoch t x1 x2 x3).rd f i = t.rd f i := (State.multicastEpoch_keeps (Keeps.refl 0x1000000000000080000000000000000000000000000000000000000000000000000000000000000000000000000000000000000000000000000000000000000000000000000000000000 0x310000 t) (Sub.refl _) (Sub.refl _)).rd f i rfl h

@[simp] theorem State.ntpLimited_rd {x1 x2 x3 x4 x5} {f : Fld} {i : Nat} (h : Nat.testBit 0x8017d100000100000000000000440000000000000020000000000000000001000000000000080000000000000000080000000600000000000000000000000000000000000000000000000000000000000000000000000000000000000000000000000000000000000 f.id = false) :
    (State.ntpLimited t x1 x2 x3 x4 x5).rd f i = t.rd f i := (State.ntpLimited_keeps (Keeps.refl 0x8017d100000100000000000000440000000000000020000000000000000001000000000000080000000000000000080000000600000000000000000000000000000000000000000000000000000000000000000000000000000000000000000000000000000000000 0x314026 t) (Sub.refl _) (Sub.refl _)).rd f i rfl h

@[simp] theorem State.tblResult_rd {x1} {f : Fld} {i : Nat} (h : Nat.testBit 0x100000000000000000000000000000000000000000000000000000000000000000000000000000000000000000000000000000000000000000000000000000000000000000000000 f.id = false) :
    (State.tblResult t x1).rd f i = t.rd f i := (State.tblResult_keeps (Keeps.refl 0x100000000000000000000000000000000000000000000000000000000000000000000000000000000000000000000000000000000000000000000000000000000000000000000000 0 t) (Sub.refl _)).rd f i rfl h

@[simp] theorem State.tblFind_rd {f : Fld} {i : Nat} (h : Nat.testBit 0x140000000000000000000000000000000000000000000000000000000000000000000000000000000000000000000000000000000000000000000000000000000000000000000000 f.id = false) :
    (State.tblFind t).rd f i = t.rd f i := (State.tblFind_keeps (Keeps.refl 0x140000000000000000000000000000000000000000000000000000000000000000000000000000000000000000000000000000000000000000000000000000000000000000000000 0 t) (Sub.refl _)).rd f i rfl h

@[simp] theorem State.setClient_rd {x1 x2 x3} {f : Fld} {i : Nat} : (State.setClient t x1 x2 x3).rd f i = t.rd f i :=
  (State.setClient_keeps (Keeps.refl 0 0x10020 t) (Sub.refl _)).rd f i rfl (Nat.zero_testBit _)

@[simp] theorem State.ntpRx_rd {x1 x2} {f : Fld} {i : Nat} (h : Nat.testBit 0x8017d100000100000000000000440000000000000020000000000000000001000000000000080000000000000000080000000600000000000000000000000000000000000000000000000000000000000000000000000000000000000000000000000000000000000 f.id = false) :
    (State.ntpRx t x1 x2).rd f i = t.rd f i := (State.ntpRx_keeps (Keeps.refl 0x8017d100000100000000000000440000000000000020000000000000000001000000000000080000000000000000080000000600000000000000000000000000000000000000000000000000000000000000000000000000000000000000000000000000000000000 0x314026 t) (Sub.refl _) (Sub.refl _)).rd f i rfl h

@[simp] theorem State.signal_rd {x1 x2} {f : Fld} {i : Nat} (h : Nat.testBit 0x8017d100000100000000000000440000000000000020000000000000000001000000000000080000000000000000080000000600000000000000000000000000000000000000000000000000000000000000000000000000000000000000000000000000000000000 f.id = false) :
    (State.signal t x1 x2).rd f i = t.rd f i := (State.signal_keeps (Keeps.refl 0x8017d100000100000000000000440000000000000020000000000000000001000000000000080000000000000000080000000600000000000000000000000000000000000000000000000000000000000000000000000000000000000000000000000000000000000 0x314026 t) (Sub.refl _) (Sub.refl _)).rd f i rfl h

@[simp] theorem State.handleSignals_rd {f : Fld} {i : Nat} (h : Nat.testBit 0x8017d100000100000000000000440000000000000020000000000000000001000000000000080000000000000000080000000600000000000000000000000000000000000000000000000000000000000000000000000000000000000000000000000000000000000 f.id = false) :
    (State.handleSignals t).rd f i = t.rd f i := (State.handleSignals_keeps (Keeps.refl 0x8017d100000100000000000000440000000000000020000000000000000001000000000000080000000000000000080000000600000000000000000000000000000000000000000000000000000000000000000000000000000000000000000000000000000000000 0x314026 t) (Sub.refl _) (Sub.refl _)).rd f i rfl h

@[simp] theorem State.pdelayReqRx_rd {x1 x2} {f : Fld} {i : Nat} (h : Nat.testBit 0x1000000000000080000000000000000000000000000000000000000000000000000000000000000000000000000000000000000000000000000000000000000000000000000000000000 f.id = false) :
    (State.pdelayReqRx t x1 x2).rd f i = t.rd f i := (State.pdelayReqRx_keeps (Keeps.refl 0x1000000000000080000000000000000000000000000000000000000000000000000000000000000000000000000000000000000000000000000000000000000000000000000000000000 0x310020 t) (Sub.refl _) (Sub.refl _)).rd f i rfl h

@[simp] theorem State.clientEpoch_rd {x1 x2 x3} {f : Fld} {i : Nat} (h : Nat.testBit 0x1000000000000080000000000000000000000000000000000000000000000000000000000000000000000000000000000000000000000000000000000000000000000000000000000000 f.id = false) :
    (State.clientEpoch t x1 x2 x3).rd f i = t.rd f i := (State.clientEpoch_keeps (Keeps.refl 0x1000000000000080000000000000000000000000000000000000000000000000000000000000000000000000000000000000000000000000000000000000000000000000000000000000 0x310020 t) (Sub.refl _) (Sub.refl _)).rd f i rfl h

@[simp] theorem State.serverSends_rd {f : Fld} {i : Nat} (h : Nat.testBit 0x1000000000000080000000000000000000000000000000000000000000000000000000000000000000000000000000000000000000000000000000000000000000000000000000000000 f.id = false) :
    (State.serverSends t).rd f i = t.rd f i := (State.serverSends_keeps (Keeps.refl 0x1000000000000080000000000000000000000000000000000000000000000000000000000000000000000000000000000000000000000000000000000000000000000000000000000000 0x310020 t) (Sub.refl _) (Sub.refl _)).rd f i rfl h

@[simp] theorem State.managementRx_rd {x1} {f : Fld} {i : Nat} (h : Nat.testBit 0x1000000000000080000000000000000000000000000000000000000000000000000000000000000000000000000000000000000000000000000000000000000000000000000000000000 f.id = false) :
    (State.managementRx t x1).rd f i = t.rd f i := (State.managementRx_keeps (Keeps.refl 0x1000000000000080000000000000000000000000000000000000000000000000000000000000000000000000000000000000000000000000000000000000000000000000000000000000 0x310000 t) (Sub.refl _) (Sub.refl _)).rd f i rfl h

@[simp] theorem State.clientWindow_rd {f : Fld} {i : Nat} (h : Nat.testBit 0x80000000000000000000000000000000000000000000000000000000000000000000000000000000000000000000000000000000000000000000000000000000000000000000000 f.id = false) :
    (State.clientWindow t).rd f i = t.rd f i := (State.clientWindow_keeps (Keeps.refl 0x80000000000000000000000000000000000000000000000000000000000000000000000000000000000000000000000000000000000000000000000000000000000000000000000 0 t) (Sub.refl _)).rd f i rfl h

@[simp] theorem State.freeEntries_rd {f : Fld} {i : Nat} : (State.freeEntries t).rd f i = t.rd f i :=
  (State.freeEntries_keeps (Keeps.refl 0 0x10022 t) (Sub.refl _)).rd f i rfl (Nat.zero_testBit _)

@[simp] theorem State.signalingRx_rd {x1} {f : Fld} {i : Nat} : (State.signalingRx t x1).rd f i = t.rd f i :=
  (State.signalingRx_keeps (Keeps.refl 0 0x10000 t) (Sub.refl _)).rd f i rfl (Nat.zero_testBit _)

@[simp] theorem State.delayReqRx_rd {x1} {f : Fld} {i : Nat} (h : Nat.testBit 0x1000000000000080000000000000000000000000000000000000000000000000000000000000000000000000000000000000000000000000000000000000000000000000000000000000 f.id = false) :
    (State.delayReqRx t x1).rd f i = t.rd f i := (State.delayReqRx_keeps (Keeps.refl 0x1000000000000080000000000000000000000000000000000000000000000000000000000000000000000000000000000000000000000000000000000000000000000000000000000000 0x310020 t) (Sub.refl _) (Sub.refl _)).rd f i rfl h

@[simp] theorem State.expireGrants_rd {f : Fld} {i : Nat} : (State.expireGrants t).rd f i = t.rd f i :=
  (State.expireGrants_keeps (Keeps.refl 0 0x10020 t) (Sub.refl _)).rd f i rfl (Nat.zero_testBit _)

@[simp] theorem State.serverEpoch_rd {f : Fld} {i : Nat} (h : Nat.testBit 0x8017d100000100000000000000440000000000000020000000000000000001000000000000080000000000000000080000000600000000000000000000000000000000000000000000000000000000000000000000000000000000000000000000000000000000000 f.id = false) :
    (State.serverEpoch t).rd f i = t.rd f i := (State.serverEpoch_keeps (Keeps.refl 0x8017d100000100000000000000440000000000000020000000000000000001000000000000080000000000000000080000000600000000000000000000000000000000000000000000000000000000000000000000000000000000000000000000000000000000000 0x314026 t) (Sub.refl _) (Sub.refl _)).rd f i rfl h

@[simp] theorem State.tblDelete_rd {f : Fld} {i : Nat} (h : Nat.testBit 0x100000000000000000000000000000000000000000000000000000000000000000000000000000000000000000000000000000000000000000000000000000000000000000000000 f.id = false) :
    (State.tblDelete t).rd f i = t.rd f i := (State.tblDelete_keeps (Keeps.refl 0x100000000000000000000000000000000000000000000000000000000000000000000000000000000000000000000000000000000000000000000000000000000000000000000000 0x10022 t) (Sub.refl _) (Sub.refl _)).rd f i rfl h

@[simp] theorem State.followUpSend_rd {x1} {f : Fld} {i : Nat} (h : Nat.testBit 0x80000000000000000000000000000000000000000000000000000000000000000000000000000000000000000000000000000000000000000000000000000000000000 f.id = false) :
    (State.followUpSend t x1).rd f i = t.rd f i := (State.followUpSend_keeps (Keeps.refl 0x80000000000000000000000000000000000000000000000000000000000000000000000000000000000000000000000000000000000000000000000000000000000000 0x310000 t) (Sub.refl _) (Sub.refl _)).rd f i rfl h

@[simp] theorem State.tblRead_rd {f : Fld} {i : Nat} (h : Nat.testBit 0x500000000000000000000000000000000000000000000000000000000000000000000000000000000000000000000000000000000000000000000000000000000000000000000000 f.id = false) :
    (State.tblRead t).rd f i = t.rd f i := (State.tblRead_keeps (Keeps.refl 0x500000000000000000000000000000000000000000000000000000000000000000000000000000000000000000000000000000000000000000000000000000000000000000000000 0 t) (Sub.refl _)).rd f i rfl h

@[simp] theorem State.tblWrite_rd {f : Fld} {i : Nat} (h : Nat.testBit 0x100000000000000000000000000000000000000000000000000000000000000000000000000000000000000000000000000000000000000000000000000000000000000000000000 f.id = false) :
    (State.tblWrite t).rd f i = t.rd f i := (State.tblWrite_keeps (Keeps.refl 0x100000000000000000000000000000000000000000000000000000000000000000000000000000000000000000000000000000000000000000000000000000000000000000000000 0x10020 t) (Sub.refl _) (Sub.refl _)).rd f i rfl h

@[simp] theorem State.announceTimeout_rd {x1} {f : Fld} {i : Nat} (h : Nat.testBit 0x200000000000000000000000000000000000000000000000000000000000000000000000000000000000000000000000000000000000000000000000000000000000000000000000000000000000 f.id = false) :
    (State.announceTimeout t x1).rd f i = t.rd f i := (State.announceTimeout_keeps (Keeps.refl 0x200000000000000000000000000000000000000000000000000000000000000000000000000000000000000000000000000000000000000000000000000000000000000000000000000000000000 0 t) (Sub.refl _)).rd f i rfl h

@[simp] theorem State.modServo_rd {x1 x2} {f : Fld} {i : Nat} : (State.modServo t x1 x2).rd f i = t.rd f i :=
  (State.modServo_keeps (Keeps.refl 0 0x20000 t) (Sub.refl _)).rd f i rfl (Nat.zero_testBit _)

@[simp] theorem State.pkClear_rd {x1} {f : Fld} {i : Nat} (h : Nat.testBit 0x380000000000000000000000000000000000000000000000000000000000000000000000000000000000000000000000000000000000000000000000000000000000000000000000000000000000000 f.id = false) :
    (State.pkClear t x1).rd f i = t.rd f i := (State.pkClear_keeps (Keeps.refl 0x380000000000000000000000000000000000000000000000000000000000000000000000000000000000000000000000000000000000000000000000000000000000000000000000000000000000000 0x20000 t) (Sub.refl _) (Sub.refl _)).rd f i rfl h

@[simp] theorem State.pkSample_rd {x1 x2 x3 x4} {f : Fld} {i : Nat} : (State.pkSample t x1 x2 x3 x4).rd f i = t.rd f i :=
  (State.pkSample_keeps (Keeps.refl 0 0x20000 t) (Sub.refl _)).rd f i rfl (Nat.zero_testBit _)

@[simp] theorem State.pkSyncRx_rd {x1 x2 x3} {f : Fld} {i : Nat} (h : Nat.testBit 0x100000000000000000000000000000000000000000000000000000000000000000000000000000000000000000000000000000000000000000000000000000000000000000000000000000000000 f.id = false) :
    (State.pkSyncRx t x1 x2 x3).rd f i = t.rd f i := (State.pkSyncRx_keeps (Keeps.refl 0x100000000000000000000000000000000000000000000000000000000000000000000000000000000000000000000000000000000000000000000000000000000000000000000000000000000000 0x20000 t) (Sub.refl _) (Sub.refl _)).rd f i rfl h

@[simp] theorem State.pkFollowRx_rd {x1 x2} {f : Fld} {i : Nat} : (State.pkFollowRx t x1 x2).rd f i = t.rd f i :=
  (State.pkFollowRx_keeps (Keeps.refl 0 0x20000 t) (Sub.refl _)).rd f i rfl (Nat.zero_testBit _)

@[simp] theorem State.pkGrant_rd {x1 x2 x3} {f : Fld} {i : Nat} (h : Nat.testBit 0x1c00000000000000000000000000000000000000000000000000000000000000000000000000000000000000000000000000000000000000000000000000000000000000000000000000000000000 f.id = false) :
    (State.pkGrant t x1 x2 x3).rd f i = t.rd f i := (State.pkGrant_keeps (Keeps.refl 0x1c00000000000000000000000000000000000000000000000000000000000000000000000000000000000000000000000000000000000000000000000000000000000000000000000000000000000 0x20000 t) (Sub.refl _) (Sub.refl _)).rd f i rfl h

@[simp] theorem State.pkGoes_rd {x1 x2} {f : Fld} {i : Nat} (h : Nat.testBit 0x2000000000000000000000000000000000000000000000000000000000000000000000000000000000000000000000000000000000000000000000000000000000000000000000000000000000000 f.id = false) :
    (State.pkGoes t x1 x2).rd f i = t.rd f i := (State.pkGoes_keeps (Keeps.refl 0x2000000000000000000000000000000000000000000000000000000000000000000000000000000000000000000000000000000000000000000000000000000000000000000000000000000000000 0x2 t) (Sub.refl _) (Sub.refl _)).rd f i rfl h

@[simp] theorem State.servoLost_rd {x1 x2 x3} {f : Fld} {i : Nat} (h : Nat.testBit 0x8017d100000100000000000000440000000000000020000000383c2000000000000000000000000000000000000008000000060000000000000000000000a600000100826000000000000002000000200000000000000000000000000000000000000000000000000 f.id = false) :
    (State.servoLost t x1 x2 x3).rd f i = t.rd f i := (State.servoLost_keeps (Keeps.refl 0x8017d100000100000000000000440000000000000020000000383c2000000000000000000000000000000000000008000000060000000000000000000000a600000100826000000000000002000000200000000000000000000000000000000000000000000000000 0x2326b26 t) (Sub.refl _) (Sub.refl _)).rd f i rfl h

@[simp] theorem State.pkSignal_rd {x1 x2 x3} {f : Fld} {i : Nat} (h : Nat.testBit 0x80000000000000000000000000000000000000000000000000000000000000000000000000000000000000000000000000000000000000000000000000000000000000 f.id = false) :
    (State.pkSignal t x1 x2 x3).rd f i = t.rd f i := (State.pkSignal_keeps (Keeps.refl 0x80000000000000000000000000000000000000000000000000000000000000000000000000000000000000000000000000000000000000000000000000000000000000 0x320000 t) (Sub.refl _) (Sub.refl _)).rd f i rfl h

@[simp] theorem State.pkTlv_rd {x1 x2} {f : Fld} {i : Nat} (h : Nat.testBit 0x8017d100000100000000000000440000000000000020000000383c2000000000000000000008000000000000000008000000060000000000000000000000a600000100826000000000000002000000200000000000000000000000000000000000000000000000000 f.id = false) :
    (State.pkTlv t x1 x2).rd f i = t.rd f i := (State.pkTlv_keeps (Keeps.refl 0x8017d100000100000000000000440000000000000020000000383c2000000000000000000008000000000000000008000000060000000000000000000000a600000100826000000000000002000000200000000000000000000000000000000000000000000000000 0x2326b26 t) (Sub.refl _) (Sub.refl _)).rd f i rfl h

@[simp] theorem State.pkEstimate_rd {x1} {f : Fld} {i : Nat} (h : Nat.testBit 0xc0000000000000000000000000000000000000000000000000000000000000000000000000000000000000000000000000000000000000000000000000000000000000000000000000000000000000 f.id = false) :
    (State.pkEstimate t x1).rd f i = t.rd f i := (State.pkEstimate_keeps (Keeps.refl 0xc0000000000000000000000000000000000000000000000000000000000000000000000000000000000000000000000000000000000000000000000000000000000000000000000000000000000000 0x20000 t) (Sub.refl _) (Sub.refl _)).rd f i rfl h

@[simp] theorem State.servoEpoch_rd {x1} {f : Fld} {i : Nat} (h : Nat.testBit 0xc00c0020000000000000000000000000000000000000000000000000000000000000000000000000000000000000000000000000000000000000000000000000000000000000000000000000000000 f.id = false) :
    (State.servoEpoch t x1).rd f i = t.rd f i := (State.servoEpoch_keeps (Keeps.refl 0xc00c0020000000000000000000000000000000000000000000000000000000000000000000000000000000000000000000000000000000000000000000000000000000000000000000000000000000 0xa0900 t) (Sub.refl _) (Sub.refl _)).rd f i rfl h

@[simp] theorem State.servoSeconds_rd {x1} {f : Fld} {i : Nat} (h : Nat.testBit 0x21800000000000000000000000000000000000000000000000000000000000000000000000000000000000000000000000000000 f.id = false) :
    (State.servoSeconds t x1).rd f i = t.rd f i := (State.servoSeconds_keeps (Keeps.refl 0x21800000000000000000000000000000000000000000000000000000000000000000000000000000000000000000000000000000 0x80010 t) (Sub.refl _) (Sub.refl _)).rd f i rfl h

@[simp] theorem State.followUpTimeout_rd {x1} {f : Fld} {i : Nat} : (State.followUpTimeout t x1).rd f i = t.rd f i :=
  (State.followUpTimeout_keeps (Keeps.refl 0 0x20000 t) (Sub.refl _)).rd f i rfl (Nat.zero_testBit _)

@[simp] theorem State.pkUngrant_rd {x1} {f : Fld} {i : Nat} (h : Nat.testBit 0x1c00000000000000000000000000000000000000000000000000000000000000000000000000000000000000000000000000000000000000000000000000000000000000000000000000000000000 f.id = false) :
    (State.pkUngrant t x1).rd f i = t.rd f i := (State.pkUngrant_keeps (Keeps.refl 0x1c00000000000000000000000000000000000000000000000000000000000000000000000000000000000000000000000000000000000000000000000000000000000000000000000000000000000 0x20000 t) (Sub.refl _) (Sub.refl _)).rd f i rfl h

@[simp] theorem State.pkRequest_rd {x1 x2} {f : Fld} {i : Nat} (h : Nat.testBit 0x80000000000000000000000000000000000000000000000000000000000000000000000000000000000000000000000000000000000000000000000000000000000000 f.id = false) :
    (State.pkRequest t x1 x2).rd f i = t.rd f i := (State.pkRequest_keeps (Keeps.refl 0x80000000000000000000000000000000000000000000000000000000000000000000000000000000000000000000000000000000000000000000000000000000000000 0x320000 t) (Sub.refl _) (Sub.refl _)).rd f i rfl h

@[simp] theorem State.pkApply_rd {x1 x2 x3} {f : Fld} {i : Nat} (h : Nat.testBit 0x383e00000000000000000000080000000000000000000000000000000000000000000000000000000000000000000000000000000000000000000000000000000000000000000000000000000000000 f.id = false) :
    (State.pkApply t x1 x2 x3).rd f i = t.rd f i := (State.pkApply_keeps (Keeps.refl 0x383e00000000000000000000080000000000000000000000000000000000000000000000000000000000000000000000000000000000000000000000000000000000000000000000000000000000000 0x320002 t) (Sub.refl _) (Sub.refl _)).rd f i rfl h

@[simp] theorem State.servoModel_rd {x1 x2} {f : Fld} {i : Nat} (h : Nat.testBit 0x300000000000000000000000000000000000000000000000000000000000000000000000000000000000000000000000000000000000000000000000000000000000000000000000000000000000000 f.id = false) :
    (State.servoModel t x1 x2).rd f i = t.rd f i := (State.servoModel_keeps (Keeps.refl 0x300000000000000000000000000000000000000000000000000000000000000000000000000000000000000000000000000000000000000000000000000000000000000000000000000000000000000 0x20800 t) (Sub.refl _) (Sub.refl _)).rd f i rfl h

@[simp] theorem State.servoModels_rd {f : Fld} {i : Nat} (h : Nat.testBit 0x300000000000000000000000000000000000000000000000000000000000000000000000000000000000000000000000000000000000000000000000000000000000000000000000000000000000000 f.id = false) :
    (State.servoModels t).rd f i = t.rd f i := (State.servoModels_keeps (Keeps.refl 0x300000000000000000000000000000000000000000000000000000000000000000000000000000000000000000000000000000000000000000000000000000000000000000000000000000000000000 0xa0800 t) (Sub.refl _) (Sub.refl _)).rd f i rfl h

@[simp] theorem State.servoSecondsEpoch_rd {f : Fld} {i : Nat} (h : Nat.testBit 0x21800000000000000000000000000000000000000000000000000000000000000000000000000000000000000000000000000000 f.id = false) :
    (State.servoSecondsEpoch t).rd f i = t.rd f i := (State.servoSecondsEpoch_keeps (Keeps.refl 0x21800000000000000000000000000000000000000000000000000000000000000000000000000000000000000000000000000000 0x80010 t) (Sub.refl _) (Sub.refl _)).rd f i rfl h

@[simp] theorem State.delayReqSend_rd {x1} {f : Fld} {i : Nat} (h : Nat.testBit 0x80000000000000000000000000000000000000000000000000000000000000000000000000000000000000000000000000000000000000000000000000000000000000 f.id = false) :
    (State.delayReqSend t x1).rd f i = t.rd f i := (State.delayReqSend_keeps (Keeps.refl 0x80000000000000000000000000000000000000000000000000000000000000000000000000000000000000000000000000000000000000000000000000000000000000 0x320000 t) (Sub.refl _) (Sub.refl _)).rd f i rfl h

@[simp] theorem State.servoService_rd {f : Fld} {i : Nat} (h : Nat.testBit 0x80000000000000000000000000000000000000000000000000000000000000000000000000000000000000000000000000000000000000000000000000000000000000 f.id = false) :
    (State.servoService t).rd f i = t.rd f i := (State.servoService_keeps (Keeps.refl 0x80000000000000000000000000000000000000000000000000000000000000000000000000000000000000000000000000000000000000000000000000000000000000 0x320000 t) (Sub.refl _) (Sub.refl _)).rd f i rfl h

@[simp] theorem State.servoRenew_rd {x1 x2} {f : Fld} {i : Nat} (h : Nat.testBit 0x80000000000000000000000000000000000000000000000000000000000000000000000000000000000000000000000000000000000000000000000000000000000000 f.id = false) :
    (State.servoRenew t x1 x2).rd f i = t.rd f i := (State.servoRenew_keeps (Keeps.refl 0x80000000000000000000000000000000000000000000000000000000000000000000000000000000000000000000000000000000000000000000000000000000000000 0x320000 t) (Sub.refl _) (Sub.refl _)).rd f i rfl h

@[simp] theorem State.pkAnnRx_rd {x1 x2} {f : Fld} {i : Nat} (h : Nat.testBit 0x3c200000000000000000000000000000000000000000000000000000000000000000000000000000000000000000000000000000000000000000000000000000000000000000000000000000000000 f.id = false) :
    (State.pkAnnRx t x1 x2).rd f i = t.rd f i := (State.pkAnnRx_keeps (Keeps.refl 0x3c200000000000000000000000000000000000000000000000000000000000000000000000000000000000000000000000000000000000000000000000000000000000000000000000000000000000 0x20000 t) (Sub.refl _) (Sub.refl _)).rd f i rfl h

@[simp] theorem State.pkReset_rd {x1} {f : Fld} {i : Nat} (h : Nat.testBit 0x383c00000000000000000000000000000000000000000000000000000000000000000000000000000000000000000000000000000000000000000000000000000000000000000000000000000000000 f.id = false) :
    (State.pkReset t x1).rd f i = t.rd f i := (State.pkReset_keeps (Keeps.refl 0x383c00000000000000000000000000000000000000000000000000000000000000000000000000000000000000000000000000000000000000000000000000000000000000000000000000000000000 0x20002 t) (Sub.refl _) (Sub.refl _)).rd f i rfl h

@[simp] theorem State.latchServos_rd {f : Fld} {i : Nat} (h : Nat.testBit 0x383c00000000000000000000000000000000000000000000000000000000000000000000000000000000000000000000000000000000000000000000000000000000000000000000000000000000000 f.id = false) :
    (State.latchServos t).rd f i = t.rd f i := (State.latchServos_keeps (Keeps.refl 0x383c00000000000000000000000000000000000000000000000000000000000000000000000000000000000000000000000000000000000000000000000000000000000000000000000000000000000 0x20002 t) (Sub.refl _) (Sub.refl _)).rd f i rfl h

@[simp] theorem State.pkRespRx_rd {x1 x2} {f : Fld} {i : Nat} : (State.pkRespRx t x1 x2).rd f i = t.rd f i :=
  (State.pkRespRx_keeps (Keeps.refl 0 0x20000 t) (Sub.refl _)).rd f i rfl (Nat.zero_testBit _)

@[simp] theorem State.servoFrameRx_rd {x1} {f : Fld} {i : Nat} (h : Nat.testBit 0x8017d1000001000000000000004400000000000000200000003bff2000000000000000000008000000000000000008000000060000000000000000000000a600000100826000000000000002000000200000000000000000000000000000000000000000000000000 f.id = false) :
    (State.servoFrameRx t x1).rd f i = t.rd f i := (State.servoFrameRx_keeps (Keeps.refl 0x8017d1000001000000000000004400000000000000200000003bff2000000000000000000008000000000000000008000000060000000000000000000000a600000100826000000000000002000000200000000000000000000000000000000000000000000000000 0x2336b26 t) (Sub.refl _) (Sub.refl _)).rd f i rfl h

@[simp] theorem State.servoEpochs_rd {f : Fld} {i : Nat} (h : Nat.testBit 0xc00c0020000000000000000000000000000000000000000000000021800000000000000000000000000000000000000000000000000000000000000000000000000000000000000000000000000000 f.id = false) :
    (State.servoEpochs t).rd f i = t.rd f i := (State.servoEpochs_keeps (Keeps.refl 0xc00c0020000000000000000000000000000000000000000000000021800000000000000000000000000000000000000000000000000000000000000000000000000000000000000000000000000000 0xa0910 t) (Sub.refl _) (Sub.refl _)).rd f i rfl h

@[simp] theorem State.smbNack_rd {x1} {f : Fld} {i : Nat} (h : Nat.testBit 0x400000000000000000000000000000000000000000000000000000000000000000000000000000000000000000000000000000000000000000000000000000000000000000000000000000000000000000000000000000000000000000000000000000000000000000000000000000000000 f.id = false) :
    (State.smbNack t x1).rd f i = t.rd f i := (State.smbNack_keeps (Keeps.refl 0x400000000000000000000000000000000000000000000000000000000000000000000000000000000000000000000000000000000000000000000000000000000000000000000000000000000000000000000000000000000000000000000000000000000000000000000000000000000000 0x100000 t) (Sub.refl _) (Sub.refl _)).rd f i rfl h

@[simp] theorem State.smbBadCommand_rd {x1 x2} {f : Fld} {i : Nat} (h : Nat.testBit 0x400000000000000000000000000000000000000000000000000000000000000000000000000000000000000000000000000000000000000000000000000000000000000000000000000000000000000000000000000000000000000000000000000000000000000000000000000000000000 f.id = false) :
    (State.smbBadCommand t x1 x2).rd f i = t.rd f i := (State.smbBadCommand_keeps (Keeps.refl 0x400000000000000000000000000000000000000000000000000000000000000000000000000000000000000000000000000000000000000000000000000000000000000000000000000000000000000000000000000000000000000000000000000000000000000000000000000000000000 0x100000 t) (Sub.refl _) (Sub.refl _)).rd f i rfl h

@[simp] theorem State.writeRun_rd {x1 x2 x3} {f : Fld} {i : Nat} : (State.writeRun t x1 x2 x3).rd f i = t.rd f i :=
  (State.writeRun_keeps (Keeps.refl 0 0x1 t) (Sub.refl _)).rd f i rfl (Nat.zero_testBit _)

@[simp] theorem State.smbWrite_rd {x1 x2 x3 x4 x5} {f : Fld} {i : Nat} (h : Nat.testBit 0xc00000000000003800000000000000000000000000000000000000000000000000000000000000000000000000000000000000000000000000000000000000000000000000000000000000000000000000000000000000000000000000000000000000000000000000000000000000000000 f.id = false) :
    (State.smbWrite t x1 x2 x3 x4 x5).rd f i = t.rd f i := (State.smbWrite_keeps (Keeps.refl 0xc00000000000003800000000000000000000000000000000000000000000000000000000000000000000000000000000000000000000000000000000000000000000000000000000000000000000000000000000000000000000000000000000000000000000000000000000000000000000 0x100001 t) (Sub.refl _) (Sub.refl _)).rd f i rfl h

@[simp] theorem State.smbBlockWriteMulti_rd {x1 x2 x3 x4} {f : Fld} {i : Nat} (h : Nat.testBit 0xc00000000000003800000000000000000000000000000000000000000000000000000000000000000000000000000000000000000000000000000000000000000000000000000000000000000000000000000000000000000000000000000000000000000000000000000000000000000000 f.id = false) :
    (State.smbBlockWriteMulti t x1 x2 x3 x4).rd f i = t.rd f i := (State.smbBlockWriteMulti_keeps (Keeps.refl 0xc00000000000003800000000000000000000000000000000000000000000000000000000000000000000000000000000000000000000000000000000000000000000000000000000000000000000000000000000000000000000000000000000000000000000000000000000000000000000 0x100001 t) (Sub.refl _) (Sub.refl _)).rd f i rfl h

@[simp] theorem State.smbBlockWrite_rd {x1 x2 x3 x4} {f : Fld} {i : Nat} (h : Nat.testBit 0xc00000000000003800000000000000000000000000000000000000000000000000000000000000000000000000000000000000000000000000000000000000000000000000000000000000000000000000000000000000000000000000000000000000000000000000000000000000000000 f.id = false) :
    (State.smbBlockWrite t x1 x2 x3 x4).rd f i = t.rd f i := (State.smbBlockWrite_keeps (Keeps.refl 0xc00000000000003800000000000000000000000000000000000000000000000000000000000000000000000000000000000000000000000000000000000000000000000000000000000000000000000000000000000000000000000000000000000000000000000000000000000000000000 0x100001 t) (Sub.refl _) (Sub.refl _)).rd f i rfl h

@[simp] theorem State.clearTree_rd {f : Fld} {i : Nat} : (State.clearTree t).rd f i = t.rd f i :=
  (State.clearTree_keeps (Keeps.refl 0 0x1000 t) (Sub.refl _)).rd f i rfl (Nat.zero_testBit _)

@[simp] theorem State.applyRetireList_rd {f : Fld} {i : Nat} (h : Nat.testBit 0x1080000000000000000000000000000000000000000000000000 f.id = false) :
    (State.applyRetireList t).rd f i = t.rd f i := (State.applyRetireList_keeps (Keeps.refl 0x1080000000000000000000000000000000000000000000000000 0x808 t) (Sub.refl _) (Sub.refl _)).rd f i rfl h

@[simp] theorem State.setStage_rd {x1 x2} {f : Fld} {i : Nat} (h : Nat.testBit 0x10000000000000000000000000000000000000440000000000000000000000000000000000000000000000000000000000000000000000000000000000000000000000000000000000000000000000000000000001080000000000000000000000000018000000000000000000000 f.id = false) :
    (State.setStage t x1 x2).rd f i = t.rd f i := (State.setStage_keeps (Keeps.refl 0x10000000000000000000000000000000000000440000000000000000000000000000000000000000000000000000000000000000000000000000000000000000000000000000000000000000000000000000000001080000000000000000000000000018000000000000000000000 0x1aaa t) (Sub.refl _) (Sub.refl _)).rd f i rfl h

@[simp] theorem State.requestStage_rd {x1 x2} {f : Fld} {i : Nat} (h : Nat.testBit 0x10000000000000000000000000000000000000440000000000000000000000000000000000000000000000000000000000000000000000000000000000000000000000000000000000000000000000000000000001080000000000000000000000000018000000000000000000000 f.id = false) :
    (State.requestStage t x1 x2).rd f i = t.rd f i := (State.requestStage_keeps (Keeps.refl 0x10000000000000000000000000000000000000440000000000000000000000000000000000000000000000000000000000000000000000000000000000000000000000000000000000000000000000000000000001080000000000000000000000000018000000000000000000000 0x1aaa t) (Sub.refl _) (Sub.refl _)).rd f i rfl h

@[simp] theorem State.takeStage_rd {f : Fld} {i : Nat} (h : Nat.testBit 0x10000000000000000000000000000000000000440000000000000000000000000000000000000000000000000000000000000000000000000000000000000000000000000000000000000000000000000000000001080000000000000000000000000018000000000000000000000 f.id = false) :
    (State.takeStage t).rd f i = t.rd f i := (State.takeStage_keeps (Keeps.refl 0x10000000000000000000000000000000000000440000000000000000000000000000000000000000000000000000000000000000000000000000000000000000000000000000000000000000000000000000000001080000000000000000000000000018000000000000000000000 0x1aaa t) (Sub.refl _) (Sub.refl _)).rd f i rfl h

@[simp] theorem State.leafStamp_rd {x1 x2} {f : Fld} {i : Nat} : (State.leafStamp t x1 x2).rd f i = t.rd f i :=
  (State.leafStamp_keeps (Keeps.refl 0 0x900 t) (Sub.refl _)).rd f i rfl (Nat.zero_testBit _)

@[simp] theorem State.notePulse_rd {x1 x2} {f : Fld} {i : Nat} : (State.notePulse t x1 x2).rd f i = t.rd f i :=
  (State.notePulse_keeps (Keeps.refl 0 0x400 t) (Sub.refl _)).rd f i rfl (Nat.zero_testBit _)

@[simp] theorem State.estimatePublish_rd {x1} {f : Fld} {i : Nat} (h : Nat.testBit 0x1ef0000000000000000000000000000000000000 f.id = false) :
    (State.estimatePublish t x1).rd f i = t.rd f i := (State.estimatePublish_keeps (Keeps.refl 0x1ef0000000000000000000000000000000000000 0xc02 t) (Sub.refl _) (Sub.refl _)).rd f i rfl h

@[simp] theorem State.dropStamp_rd {x1 x2} {f : Fld} {i : Nat} (h : Nat.testBit 0x8017d100000100000000000000440000000000000020000000000000000000000000000000000000000000000000080000000600000000000000000000000000000000000000000000000000000000000000002000000000200000000000000000000000000000000 f.id = false) :
    (State.dropStamp t x1 x2).rd f i = t.rd f i := (State.dropStamp_keeps (Keeps.refl 0x8017d100000100000000000000440000000000000020000000000000000000000000000000000000000000000000080000000600000000000000000000000000000000000000000000000000000000000000002000000000200000000000000000000000000000000 0x304c26 t) (Sub.refl _) (Sub.refl _)).rd f i rfl h

@[simp] theorem State.stampDistribute_rd {x1} {f : Fld} {i : Nat} (h : Nat.testBit 0x2000000000000000000000000000000000000000000000000000000000000000000000000000000000000000000000000000000000000000000000000019e000000000900000000000000000000000000000000 f.id = false) :
    (State.stampDistribute t x1).rd f i = t.rd f i := (State.stampDistribute_keeps (Keeps.refl 0x2000000000000000000000000000000000000000000000000000000000000000000000000000000000000000000000000000000000000000000000000019e000000000900000000000000000000000000000000 0x106d00 t) (Sub.refl _) (Sub.refl _)).rd f i rfl h

@[simp] theorem State.pushStamp_rd {x1 x2} {f : Fld} {i : Nat} (h : Nat.testBit 0x8017d10000010000000000000044000000000000002000000000000000000000000000000000000000000000000008000000060000000000000000000000a600000100826000000000000002000010200000000000000001800000000000000000000000000000000 f.id = false) :
    (State.pushStamp t x1 x2).rd f i = t.rd f i := (State.pushStamp_keeps (Keeps.refl 0x8017d10000010000000000000044000000000000002000000000000000000000000000000000000000000000000008000000060000000000000000000000a600000100826000000000000002000010200000000000000001800000000000000000000000000000000 0x2306f26 t) (Sub.refl _) (Sub.refl _)).rd f i rfl h

@[simp] theorem State.edgeStamp_rd {x1 x2 x3 x4 x5 x6} {f : Fld} {i : Nat} (h : Nat.testBit 0x8017d10000010000000000000044000000000000002000000000000000000000000000000000000000000000000008000000060000000000000000000000a600000100826000000000000002000010200000002000000001e00000420000000000000000000000000 f.id = false) :
    (State.edgeStamp t x1 x2 x3 x4 x5 x6).rd f i = t.rd f i := (State.edgeStamp_keeps (Keeps.refl 0x8017d10000010000000000000044000000000000002000000000000000000000000000000000000000000000000008000000060000000000000000000000a600000100826000000000000002000010200000002000000001e00000420000000000000000000000000 0x2306f36 t) (Sub.refl _) (Sub.refl _)).rd f i rfl h

@[simp] theorem State.closeGate_rd {x1} {f : Fld} {i : Nat} (h : Nat.testBit 0x8000000000000000000000000000000000000000000000000000000000000000000000000000000000000000000 f.id = false) :
    (State.closeGate t x1).rd f i = t.rd f i := (State.closeGate_keeps (Keeps.refl 0x8000000000000000000000000000000000000000000000000000000000000000000000000000000000000000000 0x2002 t) (Sub.refl _) (Sub.refl _)).rd f i rfl h

@[simp] theorem State.syncShutters_rd {f : Fld} {i : Nat} (h : Nat.testBit 0x8000000000000000000000000000000000000000000000000000000000000000000000000000000000000000000 f.id = false) :
    (State.syncShutters t).rd f i = t.rd f i := (State.syncShutters_keeps (Keeps.refl 0x8000000000000000000000000000000000000000000000000000000000000000000000000000000000000000000 0x2002 t) (Sub.refl _) (Sub.refl _)).rd f i rfl h

@[simp] theorem State.commitResult_rd {x1 x2 x3} {f : Fld} {i : Nat} (h : Nat.testBit 0x6800000000000000000000000000000000000000000000000000000000000000000000000000000000000000000000000 f.id = false) :
    (State.commitResult t x1 x2 x3).rd f i = t.rd f i := (State.commitResult_keeps (Keeps.refl 0x6800000000000000000000000000000000000000000000000000000000000000000000000000000000000000000000000 0x2 t) (Sub.refl _) (Sub.refl _)).rd f i rfl h

@[simp] theorem State.commitCopy_rd {f : Fld} {i : Nat} (h : Nat.testBit 0xe808008006000000000000000000000000000000000000000000000000000000000000000000000000000000000000000 f.id = false) :
    (State.commitCopy t).rd f i = t.rd f i := (State.commitCopy_keeps (Keeps.refl 0xe808008006000000000000000000000000000000000000000000000000000000000000000000000000000000000000000 0x2002 t) (Sub.refl _) (Sub.refl _)).rd f i rfl h

@[simp] theorem State.takeOrigin_rd {x1} {f : Fld} {i : Nat} : (State.takeOrigin t x1).rd f i = t.rd f i :=
  (State.takeOrigin_keeps (Keeps.refl 0 0x2000 t) (Sub.refl _)).rd f i rfl (Nat.zero_testBit _)

@[simp] theorem State.doRealign_rd {x1} {f : Fld} {i : Nat} (h : Nat.testBit 0x8000000000000000000000000000000000000000000000000000000000000000000000000000000000000000000 f.id = false) :
    (State.doRealign t x1).rd f i = t.rd f i := (State.doRealign_keeps (Keeps.refl 0x8000000000000000000000000000000000000000000000000000000000000000000000000000000000000000000 0x2002 t) (Sub.refl _) (Sub.refl _)).rd f i rfl h

@[simp] theorem State.runRealigns_rd {f : Fld} {i : Nat} (h : Nat.testBit 0x8000000000000000000000000000000000000000000000000000000000000000000000000000000000000000000 f.id = false) :
    (State.runRealigns t).rd f i = t.rd f i := (State.runRealigns_keeps (Keeps.refl 0x8000000000000000000000000000000000000000000000000000000000000000000000000000000000000000000 0x2002 t) (Sub.refl _) (Sub.refl _)).rd f i rfl h

@[simp] theorem State.shutterOpen_rd {x1} {f : Fld} {i : Nat} (h : Nat.testBit 0x8000000000000000000000000000000000000000000000000000000000000000000000000000000000000000000 f.id = false) :
    (State.shutterOpen t x1).rd f i = t.rd f i := (State.shutterOpen_keeps (Keeps.refl 0x8000000000000000000000000000000000000000000000000000000000000000000000000000000000000000000 0x2002 t) (Sub.refl _) (Sub.refl _)).rd f i rfl h

@[simp] theorem State.commitGo_rd {f : Fld} {i : Nat} (h : Nat.testBit 0x6800000000000000000000000000000000000000000000000000000000000000000000000000000000000000000000000 f.id = false) :
    (State.commitGo t).rd f i = t.rd f i := (State.commitGo_keeps (Keeps.refl 0x6800000000000000000000000000000000000000000000000000000000000000000000000000000000000000000000000 0x2002 t) (Sub.refl _) (Sub.refl _)).rd f i rfl h

@[simp] theorem State.verifyStamp_rd {x1 x2} {f : Fld} {i : Nat} : (State.verifyStamp t x1 x2).rd f i = t.rd f i :=
  (State.verifyStamp_keeps (Keeps.refl 0 0x2000 t) (Sub.refl _)).rd f i rfl (Nat.zero_testBit _)

@[simp] theorem State.keepRealign_rd {x1} {f : Fld} {i : Nat} : (State.keepRealign t x1).rd f i = t.rd f i :=
  (State.keepRealign_keeps (Keeps.refl 0 0x2000 t) (Sub.refl _)).rd f i rfl (Nat.zero_testBit _)

@[simp] theorem State.dropLoops_rd {x1} {f : Fld} {i : Nat} (h : Nat.testBit 0x8000000000000000000000000000000000000000000000000000000000000000000000000000000000000000000000 f.id = false) :
    (State.dropLoops t x1).rd f i = t.rd f i := (State.dropLoops_keeps (Keeps.refl 0x8000000000000000000000000000000000000000000000000000000000000000000000000000000000000000000000 0x2000 t) (Sub.refl _) (Sub.refl _)).rd f i rfl h

@[simp] theorem State.shutterForce_rd {x1} {f : Fld} {i : Nat} : (State.shutterForce t x1).rd f i = t.rd f i :=
  (State.shutterForce_keeps (Keeps.refl 0 0x2000 t) (Sub.refl _)).rd f i rfl (Nat.zero_testBit _)

@[simp] theorem State.phaseVerify_rd {f : Fld} {i : Nat} (h : Nat.testBit 0x8017d10000010000000000000044000000000000002000000000000000000000000000000000000000000000000008000000060000001e000000000000000000000000000000000000000000000000000000000000000000000000000000000000000000000000000 f.id = false) :
    (State.phaseVerify t).rd f i = t.rd f i := (State.phaseVerify_keeps (Keeps.refl 0x8017d10000010000000000000044000000000000002000000000000000000000000000000000000000000000000008000000060000001e000000000000000000000000000000000000000000000000000000000000000000000000000000000000000000000000000 0x306026 t) (Sub.refl _) (Sub.refl _)).rd f i rfl h

@[simp] theorem State.commitValidate_rd {f : Fld} {i : Nat} (h : Nat.testBit 0xe808008006000000000000000000000000000000000000000000000000000000000000000000000000000000000000000 f.id = false) :
    (State.commitValidate t).rd f i = t.rd f i := (State.commitValidate_keeps (Keeps.refl 0xe808008006000000000000000000000000000000000000000000000000000000000000000000000000000000000000000 0x2002 t) (Sub.refl _) (Sub.refl _)).rd f i rfl h

@[simp] theorem State.outLoopLocks_rd {x1} {f : Fld} {i : Nat} (h : Nat.testBit 0x8008000000000000000000000000000000000000000000000000000000000000000000000000000000000000000000 f.id = false) :
    (State.outLoopLocks t x1).rd f i = t.rd f i := (State.outLoopLocks_keeps (Keeps.refl 0x8008000000000000000000000000000000000000000000000000000000000000000000000000000000000000000000 0x2002 t) (Sub.refl _) (Sub.refl _)).rd f i rfl h

@[simp] theorem State.apllUnlock_rd {x1} {f : Fld} {i : Nat} (h : Nat.testBit 0x8017d100000100000000000000440000000000000020000000000000000000000000000000000000000000000000080000000600000000000088008000000000000000000000000000000000000000000000000000000000000000000000000000000000000000000 f.id = false) :
    (State.apllUnlock t x1).rd f i = t.rd f i := (State.apllUnlock_keeps (Keeps.refl 0x8017d100000100000000000000440000000000000020000000000000000000000000000000000000000000000000080000000600000000000088008000000000000000000000000000000000000000000000000000000000000000000000000000000000000000000 0x306026 t) (Sub.refl _) (Sub.refl _)).rd f i rfl h

@[simp] theorem State.relockAttempt_rd {x1 x2} {f : Fld} {i : Nat} (h : Nat.testBit 0x40000000000000000000000000000000000000000000000000000000000000000000000000000000000000000000000 f.id = false) :
    (State.relockAttempt t x1 x2).rd f i = t.rd f i := (State.relockAttempt_keeps (Keeps.refl 0x40000000000000000000000000000000000000000000000000000000000000000000000000000000000000000000000 0 t) (Sub.refl _)).rd f i rfl h

@[simp] theorem State.realign_rd {x1} {f : Fld} {i : Nat} (h : Nat.testBit 0x8000000000000000000000000000000000000000000000000000000000000000000000000000000000000000000 f.id = false) :
    (State.realign t x1).rd f i = t.rd f i := (State.realign_keeps (Keeps.refl 0x8000000000000000000000000000000000000000000000000000000000000000000000000000000000000000000 0x2002 t) (Sub.refl _) (Sub.refl _)).rd f i rfl h

@[simp] theorem State.deliver_rd {x1} {f : Fld} {i : Nat} : (State.deliver t x1).rd f i = t.rd f i :=
  (State.deliver_keeps (Keeps.refl 0 0x2000 t) (Sub.refl _)).rd f i rfl (Nat.zero_testBit _)

@[simp] theorem State.startChannel_rd {x1} {f : Fld} {i : Nat} (h : Nat.testBit 0x39868000420000000000000000000000000 f.id = false) :
    (State.startChannel t x1).rd f i = t.rd f i := (State.startChannel_keeps (Keeps.refl 0x39868000420000000000000000000000000 0x400 t) (Sub.refl _) (Sub.refl _)).rd f i rfl h

@[simp] theorem State.ungateTdc_rd {f : Fld} {i : Nat} (h : Nat.testBit 0x39868000420000000000000000000000000 f.id = false) :
    (State.ungateTdc t).rd f i = t.rd f i := (State.ungateTdc_keeps (Keeps.refl 0x39868000420000000000000000000000000 0x400 t) (Sub.refl _) (Sub.refl _)).rd f i rfl h

@[simp] theorem State.calRescaleDone_rd {x1} {f : Fld} {i : Nat} : (State.calRescaleDone t x1).rd f i = t.rd f i :=
  (State.calRescaleDone_keeps (Keeps.refl 0 0x400 t) (Sub.refl _)).rd f i rfl (Nat.zero_testBit _)

@[simp] theorem State.takeRecord_rd {x1 x2 x3} {f : Fld} {i : Nat} (h : Nat.testBit 0x20000000000000000000000000000000000000000000000000000000000000000000000000000000000000000000000000000000000000000000000000102000000000000000000000000000000000000000000 f.id = false) :
    (State.takeRecord t x1 x2 x3).rd f i = t.rd f i := (State.takeRecord_keeps (Keeps.refl 0x20000000000000000000000000000000000000000000000000000000000000000000000000000000000000000000000000000000000000000000000000102000000000000000000000000000000000000000000 0x104000 t) (Sub.refl _) (Sub.refl _)).rd f i rfl h

@[simp] theorem State.takeInterval_rd {x1 x2 x3 x4 x5} {f : Fld} {i : Nat} (h : Nat.testBit 0x2000000000000000000000000000000000000000000000000000000000000000000000000000000000000000000000000000000000000000000000000011a000000000000000000000000000000000000000000 f.id = false) :
    (State.takeInterval t x1 x2 x3 x4 x5).rd f i = t.rd f i := (State.takeInterval_keeps (Keeps.refl 0x2000000000000000000000000000000000000000000000000000000000000000000000000000000000000000000000000000000000000000000000000011a000000000000000000000000000000000000000000 0x104400 t) (Sub.refl _) (Sub.refl _)).rd f i rfl h

@[simp] theorem State.takeDiscard_rd {x1} {f : Fld} {i : Nat} (h : Nat.testBit 0x80000000000000000000000000000000000000000000 f.id = false) :
    (State.takeDiscard t x1).rd f i = t.rd f i := (State.takeDiscard_keeps (Keeps.refl 0x80000000000000000000000000000000000000000000 0 t) (Sub.refl _)).rd f i rfl h

@[simp] theorem State.pairStep_rd {x1 x2 x3} {f : Fld} {i : Nat} (h : Nat.testBit 0x2000000000000000000000000000000000000000000000000000000000000000000000000000000000000000000000000000000000000000000000000019a000000000000000000000000000000000000000000 f.id = false) :
    (State.pairStep t x1 x2 x3).rd f i = t.rd f i := (State.pairStep_keeps (Keeps.refl 0x2000000000000000000000000000000000000000000000000000000000000000000000000000000000000000000000000000000000000000000000000019a000000000000000000000000000000000000000000 0x104400 t) (Sub.refl _) (Sub.refl _)).rd f i rfl h

@[simp] theorem State.takeDrain_rd {x1 x2} {f : Fld} {i : Nat} (h : Nat.testBit 0x2000000000000000000000000000000000000000000000000000000000000000000000000000000000000000000000000000000000000000000000000019a000000000000000000000000000000000000000000 f.id = false) :
    (State.takeDrain t x1 x2).rd f i = t.rd f i := (State.takeDrain_keeps (Keeps.refl 0x2000000000000000000000000000000000000000000000000000000000000000000000000000000000000000000000000000000000000000000000000019a000000000000000000000000000000000000000000 0x104400 t) (Sub.refl _) (Sub.refl _)).rd f i rfl h

@[simp] theorem State.takeSummary_rd {x1 x2} {f : Fld} {i : Nat} (h : Nat.testBit 0x20000000000000000000000000000000000000000000000000000000000000000000000000000000000000000000000000000000000000000000000000122000000000000000000000000000000000000000000 f.id = false) :
    (State.takeSummary t x1 x2).rd f i = t.rd f i := (State.takeSummary_keeps (Keeps.refl 0x20000000000000000000000000000000000000000000000000000000000000000000000000000000000000000000000000000000000000000000000000122000000000000000000000000000000000000000000 0x104400 t) (Sub.refl _) (Sub.refl _)).rd f i rfl h

@[simp] theorem State.stepGates_rd {f : Fld} {i : Nat} (h : Nat.testBit 0x20000000000000000000000000000000000000000000000000000000000000000000000000000000000000000000000000000000000000000000000000162000000000000000000000000000000000000000000 f.id = false) :
    (State.stepGates t).rd f i = t.rd f i := (State.stepGates_keeps (Keeps.refl 0x20000000000000000000000000000000000000000000000000000000000000000000000000000000000000000000000000000000000000000000000000162000000000000000000000000000000000000000000 0x104402 t) (Sub.refl _) (Sub.refl _)).rd f i rfl h

@[simp] theorem State.estStart_rd {x1} {f : Fld} {i : Nat} (h : Nat.testBit 0x1180000000000000000000000000000000000000 f.id = false) :
    (State.estStart t x1).rd f i = t.rd f i := (State.estStart_keeps (Keeps.refl 0x1180000000000000000000000000000000000000 0x400 t) (Sub.refl _) (Sub.refl _)).rd f i rfl h

@[simp] theorem State.takeStart_rd {x1 x2} {f : Fld} {i : Nat} (h : Nat.testBit 0x1de000000000000000000000000000000000000000000 f.id = false) :
    (State.takeStart t x1 x2).rd f i = t.rd f i := (State.takeStart_keeps (Keeps.refl 0x1de000000000000000000000000000000000000000000 0x400 t) (Sub.refl _) (Sub.refl _)).rd f i rfl h

@[simp] theorem State.takeArm_rd {x1} {f : Fld} {i : Nat} (h : Nat.testBit 0x1fe000000000000000000000000000000000000000000 f.id = false) :
    (State.takeArm t x1).rd f i = t.rd f i := (State.takeArm_keeps (Keeps.refl 0x1fe000000000000000000000000000000000000000000 0x400 t) (Sub.refl _) (Sub.refl _)).rd f i rfl h

@[simp] theorem State.takeStamp_rd {x1 x2 x3} {f : Fld} {i : Nat} (h : Nat.testBit 0x2000000000000000000000000000000000000000000000000000000000000000000000000000000000000000000000000000000000000000000000000019e000000000000000000000000000000000000000000 f.id = false) :
    (State.takeStamp t x1 x2 x3).rd f i = t.rd f i := (State.takeStamp_keeps (Keeps.refl 0x2000000000000000000000000000000000000000000000000000000000000000000000000000000000000000000000000000000000000000000000000019e000000000000000000000000000000000000000000 0x104400 t) (Sub.refl _) (Sub.refl _)).rd f i rfl h

@[simp] theorem State.restartGates_rd {x1} {f : Fld} {i : Nat} : (State.restartGates t x1).rd f i = t.rd f i :=
  (State.restartGates_keeps (Keeps.refl 0 0x400 t) (Sub.refl _)).rd f i rfl (Nat.zero_testBit _)

@[simp] theorem State.gateEnd_rd {x1} {f : Fld} {i : Nat} (h : Nat.testBit 0x100000000000000000000000000000000000000 f.id = false) :
    (State.gateEnd t x1).rd f i = t.rd f i := (State.gateEnd_keeps (Keeps.refl 0x100000000000000000000000000000000000000 0x410 t) (Sub.refl _) (Sub.refl _)).rd f i rfl h

@[simp] theorem State.takeEnd_rd {x1} {f : Fld} {i : Nat} (h : Nat.testBit 0x200000000000000000000000000000000000000000000000000000000000000000000000000000000000000000000000000000000000000000000000001fe000000000000000000000000000000000000000000 f.id = false) :
    (State.takeEnd t x1).rd f i = t.rd f i := (State.takeEnd_keeps (Keeps.refl 0x200000000000000000000000000000000000000000000000000000000000000000000000000000000000000000000000000000000000000000000000001fe000000000000000000000000000000000000000000 0x104402 t) (Sub.refl _) (Sub.refl _)).rd f i rfl h

@[simp] theorem State.gatePinEdge_rd {x1 x2 x3} {f : Fld} {i : Nat} (h : Nat.testBit 0x200000000000000000000000000000000000000000000000000000000000000000000000000000000000000000000000000000000000000000000000001fe000000000000000000000000000000000000000000 f.id = false) :
    (State.gatePinEdge t x1 x2 x3).rd f i = t.rd f i := (State.gatePinEdge_keeps (Keeps.refl 0x200000000000000000000000000000000000000000000000000000000000000000000000000000000000000000000000000000000000000000000000001fe000000000000000000000000000000000000000000 0x104412 t) (Sub.refl _) (Sub.refl _)).rd f i rfl h

@[simp] theorem State.calValid_rd {x1} {f : Fld} {i : Nat} (h : Nat.testBit 0x8000000000000000000000000000000000 f.id = false) :
    (State.calValid t x1).rd f i = t.rd f i := (State.calValid_keeps (Keeps.refl 0x8000000000000000000000000000000000 0x400 t) (Sub.refl _) (Sub.refl _)).rd f i rfl h

@[simp] theorem State.takeGateEnd_rd {x1} {f : Fld} {i : Nat} (h : Nat.testBit 0x200000000000000000000000000000000000000000000000000000000000000000000000000000000000000000000000000000000000000000000000001fe000000000000000000000000000000000000000000 f.id = false) :
    (State.takeGateEnd t x1).rd f i = t.rd f i := (State.takeGateEnd_keeps (Keeps.refl 0x200000000000000000000000000000000000000000000000000000000000000000000000000000000000000000000000000000000000000000000000001fe000000000000000000000000000000000000000000 0x104412 t) (Sub.refl _) (Sub.refl _)).rd f i rfl h

@[simp] theorem State.publishEst_rd {x1} {f : Fld} {i : Nat} (h : Nat.testBit 0x1ef0000000000000000000000000000000000000 f.id = false) :
    (State.publishEst t x1).rd f i = t.rd f i := (State.publishEst_keeps (Keeps.refl 0x1ef0000000000000000000000000000000000000 0x402 t) (Sub.refl _) (Sub.refl _)).rd f i rfl h

@[simp] theorem State.mapGates_rd {x1 x2} {f : Fld} {i : Nat} : (State.mapGates t x1 x2).rd f i = t.rd f i :=
  (State.mapGates_keeps (Keeps.refl 0 0x400 t) (Sub.refl _)).rd f i rfl (Nat.zero_testBit _)

@[simp] theorem State.calTableReady_rd {x1 x2 x3 x4 x5 x6 x7} {f : Fld} {i : Nat} (h : Nat.testBit 0x8017d1000001000000000000004400000000000000200000000000000000000000000000000000000000000000000800000006000000000000000000000000000000000000000000000000000000000000000000000000f6008000000000000000000000000000000 f.id = false) :
    (State.calTableReady t x1 x2 x3 x4 x5 x6 x7).rd f i = t.rd f i := (State.calTableReady_keeps (Keeps.refl 0x8017d1000001000000000000004400000000000000200000000000000000000000000000000000000000000000000800000006000000000000000000000000000000000000000000000000000000000000000000000000f6008000000000000000000000000000000 0x304426 t) (Sub.refl _) (Sub.refl _)).rd f i rfl h

@[simp] theorem State.gateTdc_rd {f : Fld} {i : Nat} : (State.gateTdc t).rd f i = t.rd f i :=
  (State.gateTdc_keeps (Keeps.refl 0 0x400 t) (Sub.refl _)).rd f i rfl (Nat.zero_testBit _)

@[simp] theorem State.estStop_rd {x1} {f : Fld} {i : Nat} (h : Nat.testBit 0x100000000000000000000000000000000000000 f.id = false) :
    (State.estStop t x1).rd f i = t.rd f i := (State.estStop_keeps (Keeps.refl 0x100000000000000000000000000000000000000 0x400 t) (Sub.refl _) (Sub.refl _)).rd f i rfl h

@[simp] theorem State.takeAbort_rd {x1} {f : Fld} {i : Nat} (h : Nat.testBit 0x20000000000000000000000000000000000000000000000000000000000000000000000000000000000000000000000000000000000000000000000000162000000000000000000000000000000000000000000 f.id = false) :
    (State.takeAbort t x1).rd f i = t.rd f i := (State.takeAbort_keeps (Keeps.refl 0x20000000000000000000000000000000000000000000000000000000000000000000000000000000000000000000000000000000000000000000000000162000000000000000000000000000000000000000000 0x104402 t) (Sub.refl _) (Sub.refl _)).rd f i rfl h

@[simp] theorem State.shiftTimes_rd {x1} {f : Fld} {i : Nat} : (State.shiftTimes t x1).rd f i = t.rd f i :=
  (State.shiftTimes_keeps (Keeps.refl 0 0x32d34 t) (Sub.refl _)).rd f i rfl (Nat.zero_testBit _)

@[simp] theorem State.notePps_rd {x1 x2} {f : Fld} {i : Nat} : (State.notePps t x1 x2).rd f i = t.rd f i :=
  (State.notePps_keeps (Keeps.refl 0 0x10 t) (Sub.refl _)).rd f i rfl (Nat.zero_testBit _)

@[simp] theorem State.loadDplls_rd {f : Fld} {i : Nat} : (State.loadDplls t).rd f i = t.rd f i :=
  (State.loadDplls_keeps (Keeps.refl 0 0x100 t) (Sub.refl _)).rd f i rfl (Nat.zero_testBit _)

@[simp] theorem State.pulse_rd {x1 x2 x3 x4 x5} {f : Fld} {i : Nat} (h : Nat.testBit 0x800000000000000000000000000000000000000000000000000000000000000000000000000000000000000000000000000000000000000 f.id = false) :
    (State.pulse t x1 x2 x3 x4 x5).rd f i = t.rd f i := (State.pulse_keeps (Keeps.refl 0x800000000000000000000000000000000000000000000000000000000000000000000000000000000000000000000000000000000000000 0x100010 t) (Sub.refl _) (Sub.refl _)).rd f i rfl h

@[simp] theorem State.ppsPulse_rd {x1} {f : Fld} {i : Nat} (h : Nat.testBit 0x800000000000000000000000000000000000000000000000000000000000000000000000000000000000000000000000000000000000000 f.id = false) :
    (State.ppsPulse t x1).rd f i = t.rd f i := (State.ppsPulse_keeps (Keeps.refl 0x800000000000000000000000000000000000000000000000000000000000000000000000000000000000000000000000000000000000000 0x100010 t) (Sub.refl _) (Sub.refl _)).rd f i rfl h

@[simp] theorem State.porchAnchor_rd {f : Fld} {i : Nat} (h : Nat.testBit 0x7000000000000000000000000000000000000000000000000000000000000000000000000000000000000000000000000000000000000 f.id = false) :
    (State.porchAnchor t).rd f i = t.rd f i := (State.porchAnchor_keeps (Keeps.refl 0x7000000000000000000000000000000000000000000000000000000000000000000000000000000000000000000000000000000000000 0x10 t) (Sub.refl _) (Sub.refl _)).rd f i rfl h

@[simp] theorem State.timeVoteNone_rd {f : Fld} {i : Nat} (h : Nat.testBit 0x8017d100000100000000000000440000000000000020000000000000000000000000000000000000000000000000080000000604040000000000000000000000000000000000000000000000000000000000000000000000000000000000000000000000000000000 f.id = false) :
    (State.timeVoteNone t).rd f i = t.rd f i := (State.timeVoteNone_keeps (Keeps.refl 0x8017d100000100000000000000440000000000000020000000000000000000000000000000000000000000000000080000000604040000000000000000000000000000000000000000000000000000000000000000000000000000000000000000000000000000000 0x304036 t) (Sub.refl _) (Sub.refl _)).rd f i rfl h

@[simp] theorem State.dpllStepped_rd {x1} {f : Fld} {i : Nat} (h : Nat.testBit 0x10000000000000000000000000000040000000000000000000000000000000000000000000000000000000000000000000000000 f.id = false) :
    (State.dpllStepped t x1).rd f i = t.rd f i := (State.dpllStepped_keeps (Keeps.refl 0x10000000000000000000000000000040000000000000000000000000000000000000000000000000000000000000000000000000 0x100 t) (Sub.refl _) (Sub.refl _)).rd f i rfl h

@[simp] theorem State.jumpTo_rd {x1} {f : Fld} {i : Nat} : (State.jumpTo t x1).rd f i = t.rd f i :=
  (State.jumpTo_keeps (Keeps.refl 0 0x10 t) (Sub.refl _)).rd f i rfl (Nat.zero_testBit _)

@[simp] theorem State.stepRecord_rd {x1 x2 x3} {f : Fld} {i : Nat} (h : Nat.testBit 0x1e01800000000000000000000000000000000000000000000000000000000000000000000000000000000000000000000000000000 f.id = false) :
    (State.stepRecord t x1 x2 x3).rd f i = t.rd f i := (State.stepRecord_keeps (Keeps.refl 0x1e01800000000000000000000000000000000000000000000000000000000000000000000000000000000000000000000000000000 0x12 t) (Sub.refl _) (Sub.refl _)).rd f i rfl h

@[simp] theorem State.applyStep_rd {f : Fld} {i : Nat} (h : Nat.testBit 0x20000000000000000000000000000000000000000000000000000000000001e31800000000000000000000000000040000000000000000000000000000162000000000000000000000000000000000000000000 f.id = false) :
    (State.applyStep t).rd f i = t.rd f i := (State.applyStep_keeps (Keeps.refl 0x20000000000000000000000000000000000000000000000000000000000001e31800000000000000000000000000040000000000000000000000000000162000000000000000000000000000000000000000000 0x136d36 t) (Sub.refl _) (Sub.refl _)).rd f i rfl h

@[simp] theorem State.timeStep_rd {f : Fld} {i : Nat} (h : Nat.testBit 0x20000000000000000000000000000000000000000000000000000000000001e31800000000000000000000000000040000000000000000000000000000162000000000000000000000000000000000000000000 f.id = false) :
    (State.timeStep t).rd f i = t.rd f i := (State.timeStep_keeps (Keeps.refl 0x20000000000000000000000000000000000000000000000000000000000001e31800000000000000000000000000040000000000000000000000000000162000000000000000000000000000000000000000000 0x136d36 t) (Sub.refl _) (Sub.refl _)).rd f i rfl h

@[simp] theorem State.counterStart_rd {x1 x2 x3} {f : Fld} {i : Nat} (h : Nat.testBit 0x10000000000000000000000000000000000000440000000000000020000000000000000000000000000000000000000000000000080000000605e77800000000000000000000000000000000000000000000000001080000162000000000000000000018000000400000000000000 f.id = false) :
    (State.counterStart t x1 x2 x3).rd f i = t.rd f i := (State.counterStart_keeps (Keeps.refl 0x10000000000000000000000000000000000000440000000000000020000000000000000000000000000000000000000000000000080000000605e77800000000000000000000000000000000000000000000000001080000162000000000000000000018000000400000000000000 0x337fbe t) (Sub.refl _) (Sub.refl _)).rd f i rfl h

@[simp] theorem State.secondsDecision_rd {x1 x2 x3} {f : Fld} {i : Nat} (h : Nat.testBit 0x8017d100000100000000000000440000000000000020000000000000000000000000000000000000000000000000080000000600021800000000000000000000000000000000000000000000000000000000000000000000000000000000000000000000000000000 f.id = false) :
    (State.secondsDecision t x1 x2 x3).rd f i = t.rd f i := (State.secondsDecision_keeps (Keeps.refl 0x8017d100000100000000000000440000000000000020000000000000000000000000000000000000000000000000080000000600021800000000000000000000000000000000000000000000000000000000000000000000000000000000000000000000000000000 0x304036 t) (Sub.refl _) (Sub.refl _)).rd f i rfl h

@[simp] theorem State.orderStep_rd {x1} {f : Fld} {i : Nat} : (State.orderStep t x1).rd f i = t.rd f i :=
  (State.orderStep_keeps (Keeps.refl 0 0x10 t) (Sub.refl _)).rd f i rfl (Nat.zero_testBit _)

@[simp] theorem State.leapSecond_rd {f : Fld} {i : Nat} (h : Nat.testBit 0xd0000000000000000000000000000000000000000000000000000000000000000000000000000000000000000000000000000000000 f.id = false) :
    (State.leapSecond t).rd f i = t.rd f i := (State.leapSecond_keeps (Keeps.refl 0xd0000000000000000000000000000000000000000000000000000000000000000000000000000000000000000000000000000000000 0 t) (Sub.refl _)).rd f i rfl h

@[simp] theorem State.timeSet_rd {f : Fld} {i : Nat} (h : Nat.testBit 0x800000000000000000000000000000000000000000000000000000000000000000000000000000000000000000000000000000000 f.id = false) :
    (State.timeSet t).rd f i = t.rd f i := (State.timeSet_keeps (Keeps.refl 0x800000000000000000000000000000000000000000000000000000000000000000000000000000000000000000000000000000000 0x10 t) (Sub.refl _) (Sub.refl _)).rd f i rfl h

@[simp] theorem State.timeVoteOne_rd {x1} {f : Fld} {i : Nat} (h : Nat.testBit 0x8017d10000010000000000000044000000000000002000000000000000000000000000000000000000000000000008000000060a000000000000000000000000000000000000000000000000000000000000000000000000000000000000000000000000000000000 f.id = false) :
    (State.timeVoteOne t x1).rd f i = t.rd f i := (State.timeVoteOne_keeps (Keeps.refl 0x8017d10000010000000000000044000000000000002000000000000000000000000000000000000000000000000008000000060a000000000000000000000000000000000000000000000000000000000000000000000000000000000000000000000000000000000 0x304036 t) (Sub.refl _) (Sub.refl _)).rd f i rfl h

@[simp] theorem State.timeStepRequest_rd {f : Fld} {i : Nat} : (State.timeStepRequest t).rd f i = t.rd f i :=
  (State.timeStepRequest_keeps (Keeps.refl 0 0x10 t) (Sub.refl _)).rd f i rfl (Nat.zero_testBit _)

@[simp] theorem State.utcFrom_rd {x1 x2} {f : Fld} {i : Nat} (h : Nat.testBit 0x1d0000000000000000000000000000000000000000000000000000000000000000000000000000000000000000000000000000000000 f.id = false) :
    (State.utcFrom t x1 x2).rd f i = t.rd f i := (State.utcFrom_keeps (Keeps.refl 0x1d0000000000000000000000000000000000000000000000000000000000000000000000000000000000000000000000000000000000 0 t) (Sub.refl _)).rd f i rfl h

@[simp] theorem State.todMessage_rd {x1 x2 x3 x4 x5} {f : Fld} {i : Nat} (h : Nat.testBit 0x8017d1000001000000000000004400000000000000200000000000000000000000000000000000000000000000000803600007d0021800000000000000000000000000000000000000000000000000000000000000000000000000000000000000000000000000000 f.id = false) :
    (State.todMessage t x1 x2 x3 x4 x5).rd f i = t.rd f i := (State.todMessage_keeps (Keeps.refl 0x8017d1000001000000000000004400000000000000200000000000000000000000000000000000000000000000000803600007d0021800000000000000000000000000000000000000000000000000000000000000000000000000000000000000000000000000000 0x304036 t) (Sub.refl _) (Sub.refl _)).rd f i rfl h

@[simp] theorem State.todoSend_rd {x1} {f : Fld} {i : Nat} (h : Nat.testBit 0x70000000000000000000000000000000000000000000000000000000000000000000000000000000000000000000000000000000000000000000 f.id = false) :
    (State.todoSend t x1).rd f i = t.rd f i := (State.todoSend_keeps (Keeps.refl 0x70000000000000000000000000000000000000000000000000000000000000000000000000000000000000000000000000000000000000000000 0x100010 t) (Sub.refl _) (Sub.refl _)).rd f i rfl h

@[simp] theorem State.clearNode_rd {x1} {f : Fld} {i : Nat} : (State.clearNode t x1).rd f i = t.rd f i :=
  (State.clearNode_keeps (Keeps.refl 0 0x1000 t) (Sub.refl _)).rd f i rfl (Nat.zero_testBit _)

@[simp] theorem State.adaptNode_rd {x1} {f : Fld} {i : Nat} : (State.adaptNode t x1).rd f i = t.rd f i :=
  (State.adaptNode_keeps (Keeps.refl 0 0x1000 t) (Sub.refl _)).rd f i rfl (Nat.zero_testBit _)

@[simp] theorem State.wtrEnd_rd {x1 x2} {f : Fld} {i : Nat} : (State.wtrEnd t x1 x2).rd f i = t.rd f i :=
  (State.wtrEnd_keeps (Keeps.refl 0 0x1000 t) (Sub.refl _)).rd f i rfl (Nat.zero_testBit _)

@[simp] theorem State.showNode_rd {x1 x2} {f : Fld} {i : Nat} (h : Nat.testBit 0xff600000000000000000000000000000000000000000000000000000000000000000 f.id = false) :
    (State.showNode t x1 x2).rd f i = t.rd f i := (State.showNode_keeps (Keeps.refl 0xff600000000000000000000000000000000000000000000000000000000000000000 0 t) (Sub.refl _)).rd f i rfl h

@[simp] theorem State.present_rd {x1 x2 x3 x4 x5 x6} {f : Fld} {i : Nat} (h : Nat.testBit 0xff600000000000000000000000000000000000000000000000000000000000000000 f.id = false) :
    (State.present t x1 x2 x3 x4 x5 x6).rd f i = t.rd f i := (State.present_keeps (Keeps.refl 0xff600000000000000000000000000000000000000000000000000000000000000000 0x1000 t) (Sub.refl _) (Sub.refl _)).rd f i rfl h

@[simp] theorem State.wtrEpoch_rd {x1} {f : Fld} {i : Nat} : (State.wtrEpoch t x1).rd f i = t.rd f i :=
  (State.wtrEpoch_keeps (Keeps.refl 0 0x1000 t) (Sub.refl _)).rd f i rfl (Nat.zero_testBit _)

@[simp] theorem State.wtrTaken_rd {x1 x2} {f : Fld} {i : Nat} : (State.wtrTaken t x1 x2).rd f i = t.rd f i :=
  (State.wtrTaken_keeps (Keeps.refl 0 0x1000 t) (Sub.refl _)).rd f i rfl (Nat.zero_testBit _)

@[simp] theorem State.evalMix_rd {x1 x2} {f : Fld} {i : Nat} (h : Nat.testBit 0xff600000000000000000000000000000000000000000000000000000000000000000 f.id = false) :
    (State.evalMix t x1 x2).rd f i = t.rd f i := (State.evalMix_keeps (Keeps.refl 0xff600000000000000000000000000000000000000000000000000000000000000000 0x81000 t) (Sub.refl _) (Sub.refl _)).rd f i rfl h

@[simp] theorem State.invalidNode_rd {x1 x2} {f : Fld} {i : Nat} (h : Nat.testBit 0xff600000000000000000000000000000000000000000000000000000000000000000 f.id = false) :
    (State.invalidNode t x1 x2).rd f i = t.rd f i := (State.invalidNode_keeps (Keeps.refl 0xff600000000000000000000000000000000000000000000000000000000000000000 0x81000 t) (Sub.refl _) (Sub.refl _)).rd f i rfl h

@[simp] theorem State.evalCut_rd {x1 x2} {f : Fld} {i : Nat} (h : Nat.testBit 0xff600000000000000000000000000000000000000000000000000000000000000000 f.id = false) :
    (State.evalCut t x1 x2).rd f i = t.rd f i := (State.evalCut_keeps (Keeps.refl 0xff600000000000000000000000000000000000000000000000000000000000000000 0x81000 t) (Sub.refl _) (Sub.refl _)).rd f i rfl h

@[simp] theorem State.evalNode_rd {x1 x2} {f : Fld} {i : Nat} (h : Nat.testBit 0xff600000000000000000000000000000000000000000000000000000000000000000 f.id = false) :
    (State.evalNode t x1 x2).rd f i = t.rd f i := (State.evalNode_keeps (Keeps.refl 0xff600000000000000000000000000000000000000000000000000000000000000000 0x81000 t) (Sub.refl _) (Sub.refl _)).rd f i rfl h

@[simp] theorem State.adaptMixes_rd {f : Fld} {i : Nat} : (State.adaptMixes t).rd f i = t.rd f i :=
  (State.adaptMixes_keeps (Keeps.refl 0 0x1000 t) (Sub.refl _)).rd f i rfl (Nat.zero_testBit _)

@[simp] theorem State.treeEpoch_rd {f : Fld} {i : Nat} (h : Nat.testBit 0xff600000000000000000000000000000000000000000000000000000000000000000 f.id = false) :
    (State.treeEpoch t).rd f i = t.rd f i := (State.treeEpoch_keeps (Keeps.refl 0xff600000000000000000000000000000000000000000000000000000000000000000 0x81000 t) (Sub.refl _) (Sub.refl _)).rd f i rfl h

@[simp] theorem State.leaveBase_rd {x1} {f : Fld} {i : Nat} (h : Nat.testBit 0x1000000000008017d1000001000000000000004400000000000000200000000000000000000000000000000000000000000000000800000006000400001800880080000000000000000000000000000000000000010800000000000000000000000000980007c1c00000000000000 f.id = false) :
    (State.leaveBase t x1).rd f i = t.rd f i := (State.leaveBase_keeps (Keeps.refl 0x1000000000008017d1000001000000000000004400000000000000200000000000000000000000000000000000000000000000000800000006000400001800880080000000000000000000000000000000000000010800000000000000000000000000980007c1c00000000000000 0x307fbe t) (Sub.refl _) (Sub.refl _)).rd f i rfl h

@[simp] theorem State.stopCounter_rd {f : Fld} {i : Nat} (h : Nat.testBit 0x4040000000000000000000000000000000000000000000000000000000000000000000000000000000000000000000000000000000 f.id = false) :
    (State.stopCounter t).rd f i = t.rd f i := (State.stopCounter_keeps (Keeps.refl 0x4040000000000000000000000000000000000000000000000000000000000000000000000000000000000000000000000000000000 0x10 t) (Sub.refl _) (Sub.refl _)).rd f i rfl h

@[simp] theorem State.takesIncomplete_rd {x1} {f : Fld} {i : Nat} (h : Nat.testBit 0x2000000000000000000000000000000000000000000 f.id = false) :
    (State.takesIncomplete t x1).rd f i = t.rd f i := (State.takesIncomplete_keeps (Keeps.refl 0x2000000000000000000000000000000000000000000 0 t) (Sub.refl _)).rd f i rfl h

@[simp] theorem State.dropDeferred_rd {x1 x2 x3 x4 x5} {f : Fld} {i : Nat} : (State.dropDeferred t x1 x2 x3 x4 x5).rd f i = t.rd f i :=
  (State.dropDeferred_keeps (Keeps.refl 0 0x80000 t) (Sub.refl _)).rd f i rfl (Nat.zero_testBit _)

@[simp] theorem State.dropLoop_rd {x1} {f : Fld} {i : Nat} (h : Nat.testBit 0x8000000000000000000000000000000000000000000000000000000000000000000000000000000000000000000000 f.id = false) :
    (State.dropLoop t x1).rd f i = t.rd f i := (State.dropLoop_keeps (Keeps.refl 0x8000000000000000000000000000000000000000000000000000000000000000000000000000000000000000000000 0x2000 t) (Sub.refl _) (Sub.refl _)).rd f i rfl h

@[simp] theorem State.oscReset_rd {x1} {f : Fld} {i : Nat} (h : Nat.testBit 0x1000000000008017d10000010000000000000044000000000000002000000000000000000000000000000000000000000000000008000000060004000018008800800000000000000000000000000000000000000108000000000000000000000000009b6b7fc1c08000000000000 f.id = false) :
    (State.oscReset t x1).rd f i = t.rd f i := (State.oscReset_keeps (Keeps.refl 0x1000000000008017d10000010000000000000044000000000000002000000000000000000000000000000000000000000000000008000000060004000018008800800000000000000000000000000000000000000108000000000000000000000000009b6b7fc1c08000000000000 0x307fbe t) (Sub.refl _) (Sub.refl _)).rd f i rfl h

@[simp] theorem State.leafReset_rd {x1} {f : Fld} {i : Nat} (h : Nat.testBit 0x1e000000000001000000000008017d100000100038000000000740005fffff0000022000001383c00000000000000000002080000000003e0000008000000060404000018008800800000000000000000100000000000000000000b28000000200010003986800042009b6b7fc1c08000000200440 f.id = false) :
    (State.leafReset t x1).rd f i = t.rd f i := (State.leafReset_keeps (Keeps.refl 0x1e000000000001000000000008017d100000100038000000000740005fffff0000022000001383c00000000000000000002080000000003e0000008000000060404000018008800800000000000000000100000000000000000000b28000000200010003986800042009b6b7fc1c08000000200440 0x3afffe t) (Sub.refl _) (Sub.refl _)).rd f i rfl h

@[simp] theorem State.afterUnits_rd {f : Fld} {i : Nat} (h : Nat.testBit 0x400000000000000000000000000000000000000000000002000000000000000000000000000000000000000000008000000000000000000000000000000000000000000000000000000000000000000000000000000000000000000 f.id = false) :
    (State.afterUnits t).rd f i = t.rd f i := (State.afterUnits_keeps (Keeps.refl 0x400000000000000000000000000000000000000000000002000000000000000000000000000000000000000000008000000000000000000000000000000000000000000000000000000000000000000000000000000000000000000 0x2022 t) (Sub.refl _) (Sub.refl _)).rd f i rfl h

@[simp] theorem State.unitReset_rd {x1 x2} {f : Fld} {i : Nat} (h : Nat.testBit 0x1e000000000001000000000008017d100000100038000000000740005fffff0000022000001383c00000000000000000002080000000003e0000008000000060404000018008800800000000000000000100000000000000000000b28000000200010003986800042009b6b7fc1c08000000200440 f.id = false) :
    (State.unitReset t x1 x2).rd f i = t.rd f i := (State.unitReset_keeps (Keeps.refl 0x1e000000000001000000000008017d100000100038000000000740005fffff0000022000001383c00000000000000000002080000000003e0000008000000060404000018008800800000000000000000100000000000000000000b28000000200010003986800042009b6b7fc1c08000000200440 0x3afffe t) (Sub.refl _) (Sub.refl _)).rd f i rfl h

@[simp] theorem State.leafOut_rd {x1 x2} {f : Fld} {i : Nat} (h : Nat.testBit 0x1e000000000001000000000008017d100000100038000000000740005fffff0000022000031000000000000000000000002080000000003e0000008000000060404000018008800800000000000000000000000000000000000000108000000000000000000000000009b627fc1c080000e0700400 f.id = false) :
    (State.leafOut t x1 x2).rd f i = t.rd f i := (State.leafOut_keeps (Keeps.refl 0x1e000000000001000000000008017d100000100038000000000740005fffff0000022000031000000000000000000000002080000000003e0000008000000060404000018008800800000000000000000000000000000000000000108000000000000000000000000009b627fc1c080000e0700400 0x38fffe t) (Sub.refl _) (Sub.refl _)).rd f i rfl h

@[simp] theorem State.unitMark_rd {x1 x2} {f : Fld} {i : Nat} (h : Nat.testBit 0x1e000000000001000000000008017d100000100038000000000740005fffff0000022000031000000000000000000000002080000000003e0000008000000060404000018008800800000000000000000000000000000000000000108000000000000000000000000009b627fc1c080000e0700400 f.id = false) :
    (State.unitMark t x1 x2).rd f i = t.rd f i := (State.unitMark_keeps (Keeps.refl 0x1e000000000001000000000008017d100000100038000000000740005fffff0000022000031000000000000000000000002080000000003e0000008000000060404000018008800800000000000000000000000000000000000000108000000000000000000000000009b627fc1c080000e0700400 0x38fffe t) (Sub.refl _) (Sub.refl _)).rd f i rfl h

@[simp] theorem State.leafBack_rd {x1} {f : Fld} {i : Nat} (h : Nat.testBit 0x8017d10000010000000000000044000000000000002000000000000000000000000000000000000000000000000008000000060000000000000000000000a6000001008f70000000000000000000010800000000000000000000000000000b7800000000000200400 f.id = false) :
    (State.leafBack t x1).rd f i = t.rd f i := (State.leafBack_keeps (Keeps.refl 0x8017d10000010000000000000044000000000000002000000000000000000000000000000000000000000000000008000000060000000000000000000000a6000001008f70000000000000000000010800000000000000000000000000000b7800000000000200400 0x2386ba6 t) (Sub.refl _) (Sub.refl _)).rd f i rfl h

@[simp] theorem State.unitUnmark_rd {x1 x2} {f : Fld} {i : Nat} (h : Nat.testBit 0x8017d10000010000000000000044000000000000002000000000000000000000000000000200000000000000000008000000060000000000000000800000a6000001008f70000000000000000000010800000000000000000000000000000b7800000000000200400 f.id = false) :
    (State.unitUnmark t x1 x2).rd f i = t.rd f i := (State.unitUnmark_keeps (Keeps.refl 0x8017d10000010000000000000044000000000000002000000000000000000000000000000200000000000000000008000000060000000000000000800000a6000001008f70000000000000000000010800000000000000000000000000000b7800000000000200400 0x2386bae t) (Sub.refl _) (Sub.refl _)).rd f i rfl h

@[simp] theorem State.unitDo_rd {x1 x2 x3} {f : Fld} {i : Nat} (h : Nat.testBit 0x1e000000000001000000000008017d100000100038000000000740005fffff0000022000031383c00000000000000000002080000000003e0000008000000060404000018008800800000a6000001008f7000000000000000c0000b28000000200010003986800042009b6b7fc1c080000e0700440 f.id = false) :
    (State.unitDo t x1 x2 x3).rd f i = t.rd f i := (State.unitDo_keeps (Keeps.refl 0x1e000000000001000000000008017d100000100038000000000740005fffff0000022000031383c00000000000000000002080000000003e0000008000000060404000018008800800000a6000001008f7000000000000000c0000b28000000200010003986800042009b6b7fc1c080000e0700440 0x23afffe t) (Sub.refl _) (Sub.refl _)).rd f i rfl h

@[simp] theorem State.ownUnitReset_rd {f : Fld} {i : Nat} (h : Nat.testBit 0x1e000000000001000000000008017d100000100038000000000740005fffff0000022000001383c00000000000000000002080000000003e0000008000000060404000018008800800000000000000000100000000000000000000b28000000200010003986800042009b6b7fc1c08000000200440 f.id = false) :
    (State.ownUnitReset t).rd f i = t.rd f i := (State.ownUnitReset_keeps (Keeps.refl 0x1e000000000001000000000008017d100000100038000000000740005fffff0000022000001383c00000000000000000002080000000003e0000008000000060404000018008800800000000000000000100000000000000000000b28000000200010003986800042009b6b7fc1c08000000200440 0x3afffe t) (Sub.refl _) (Sub.refl _)).rd f i rfl h

@[simp] theorem State.unitCtrl_rd {x1 x2 x3} {f : Fld} {i : Nat} (h : Nat.testBit 0x1fc00000000001000000000008017d100000100038000000000740005fffff0000022000031383c00000000000000000002080000000003e0000008000000060404000018008800800000a6000001008f7000000000000000c0000b28000000200010003986800042009b6b7fc1c080000e0700440 f.id = false) :
    (State.unitCtrl t x1 x2 x3).rd f i = t.rd f i := (State.unitCtrl_keeps (Keeps.refl 0x1fc00000000001000000000008017d100000100038000000000740005fffff0000022000031383c00000000000000000002080000000003e0000008000000060404000018008800800000a6000001008f7000000000000000c0000b28000000200010003986800042009b6b7fc1c080000e0700440 0x23afffe t) (Sub.refl _) (Sub.refl _)).rd f i rfl h

@[simp] theorem State.unitBack_rd {x1} {f : Fld} {i : Nat} (h : Nat.testBit 0x8017d10000010000000000000044000000000000002000000000000000000000000000000200000000000000000008000000060000000000000000800000a6000001008f7000000000000000000000000000000000000000000000000000000000000000000000000 f.id = false) :
    (State.unitBack t x1).rd f i = t.rd f i := (State.unitBack_keeps (Keeps.refl 0x8017d10000010000000000000044000000000000002000000000000000000000000000000200000000000000000008000000060000000000000000800000a6000001008f7000000000000000000000000000000000000000000000000000000000000000000000000 0x230632e t) (Sub.refl _) (Sub.refl _)).rd f i rfl h

@[simp] theorem State.holdReset_rd {x1} {f : Fld} {i : Nat} : (State.holdReset t x1).rd f i = t.rd f i :=
  (State.holdReset_keeps (Keeps.refl 0 0x8 t) (Sub.refl _)).rd f i rfl (Nat.zero_testBit _)

@[simp] theorem State.noteReset_rd {x1} {f : Fld} {i : Nat} : (State.noteReset t x1).rd f i = t.rd f i :=
  (State.noteReset_keeps (Keeps.refl 0 0x8 t) (Sub.refl _)).rd f i rfl (Nat.zero_testBit _)

@[simp] theorem State.backInService_rd {x1} {f : Fld} {i : Nat} : (State.backInService t x1).rd f i = t.rd f i :=
  (State.backInService_keeps (Keeps.refl 0 0x8 t) (Sub.refl _)).rd f i rfl (Nat.zero_testBit _)

@[simp] theorem State.wideSel_rd {x1 x2 x3 x4} {f : Fld} {i : Nat} (h : Nat.testBit 0x38000000000000000000000000000000000000000000000000000000000000000000000000000000000000000000000000000000000000000000000000000000000000000000000000000000000000000000000000000000000000000000000000000000000000000000000000000000000000 f.id = false) :
    (State.wideSel t x1 x2 x3 x4).rd f i = t.rd f i := (State.wideSel_keeps (Keeps.refl 0x38000000000000000000000000000000000000000000000000000000000000000000000000000000000000000000000000000000000000000000000000000000000000000000000000000000000000000000000000000000000000000000000000000000000000000000000000000000000000 0 t) (Sub.refl _)).rd f i rfl h

@[simp] theorem State.wideStatus_rd {x1 x2 x3 x4} {f : Fld} {i : Nat} (h : Nat.testBit 0x3c0000000000000000000000000000000000000000000000000000000000000000000000000000000000000000000000000000000000000000000000000000000000000000000000000000000000000000000000000000000000000000000000000000000000000000000000000000000000000 f.id = false) :
    (State.wideStatus t x1 x2 x3 x4).rd f i = t.rd f i := (State.wideStatus_keeps (Keeps.refl 0x3c0000000000000000000000000000000000000000000000000000000000000000000000000000000000000000000000000000000000000000000000000000000000000000000000000000000000000000000000000000000000000000000000000000000000000000000000000000000000000 0 t) (Sub.refl _)).rd f i rfl h

@[simp] theorem State.putWide_rd {x1 x2} {f : Fld} {i : Nat} (h : Nat.testBit 0x400000000000000000000000000000000000000000000000000000000000000000000000000000000000000000000000000000000000000000000000000000000000000000000000000000000000000000000000000000000000000000000000000000000000000000000000000000000000000 f.id = false) :
    (State.putWide t x1 x2).rd f i = t.rd f i := (State.putWide_keeps (Keeps.refl 0x400000000000000000000000000000000000000000000000000000000000000000000000000000000000000000000000000000000000000000000000000000000000000000000000000000000000000000000000000000000000000000000000000000000000000000000000000000000000000 0 t) (Sub.refl _)).rd f i rfl h

@[simp] theorem State.noteCapture_rd {x1 x2} {f : Fld} {i : Nat} (h : Nat.testBit 0x8017d100000100000000000000440000000000000020000000000000000000000000000000000000000000000000080000000600000000000000000000000000000000000000000000000000000000000000000000000000000000000000000000000000000000000 f.id = false) :
    (State.noteCapture t x1 x2).rd f i = t.rd f i := (State.noteCapture_keeps (Keeps.refl 0x8017d100000100000000000000440000000000000020000000000000000000000000000000000000000000000000080000000600000000000000000000000000000000000000000000000000000000000000000000000000000000000000000000000000000000000 0x304026 t) (Sub.refl _) (Sub.refl _)).rd f i rfl h

@[simp] theorem State.wideCapture_rd {x1 x2 x3} {f : Fld} {i : Nat} (h : Nat.testBit 0x7f800000000000000000008017d100000100000000000000440000000000000020000000000000000000000000000000000000000000000000080000000600000000000000000000000000000000000000000000000000000000000000000000000000000000000000000000000000000000000 f.id = false) :
    (State.wideCapture t x1 x2 x3).rd f i = t.rd f i := (State.wideCapture_keeps (Keeps.refl 0x7f800000000000000000008017d100000100000000000000440000000000000020000000000000000000000000000000000000000000000000080000000600000000000000000000000000000000000000000000000000000000000000000000000000000000000000000000000000000000000 0x304026 t) (Sub.refl _) (Sub.refl _)).rd f i rfl h

@[simp] theorem State.wideApply_rd {x1 x2 x3} {f : Fld} {i : Nat} : (State.wideApply t x1 x2 x3).rd f i = t.rd f i :=
  (State.wideApply_keeps (Keeps.refl 0 0x40014 t) (Sub.refl _)).rd f i rfl (Nat.zero_testBit _)

@[simp] theorem State.wideWrite_rd {x1 x2 x3} {f : Fld} {i : Nat} (h : Nat.testBit 0x3f80043e000000000000008017d100000100000000000000440000000000000020000000000000000000000000000000000000000000000000080000000600000000000000000000000000000000000000000000000000000000000000000000000000000000000000000000000000000000000 f.id = false) :
    (State.wideWrite t x1 x2 x3).rd f i = t.rd f i := (State.wideWrite_keeps (Keeps.refl 0x3f80043e000000000000008017d100000100000000000000440000000000000020000000000000000000000000000000000000000000000000080000000600000000000000000000000000000000000000000000000000000000000000000000000000000000000000000000000000000000000 0x344036 t) (Sub.refl _) (Sub.refl _)).rd f i rfl h

end Sys2Proof.Machine
end

