-- ==== Sys2Proof/Laws/Read.lean ====
section
/-! SUPPORT. Reading fields after the shared operations: counters, loops over indices, a filtered register table. -/

set_option Elab.async false

namespace Sys2Proof.Machine

/-- A saturated value fits its width. -/
theorem satTo_mod (w n : Nat) : satTo w n % 2 ^ w = satTo w n := by
  apply Nat.mod_eq_of_lt
  unfold satTo
  have := Nat.pos_of_ne_zero (n := 2 ^ w) (by positivity)
  omega

/-- A counter after an advance. -/
theorem State.rd_bump_self (s : State) (f : Fld) (i : Nat) : (s.bump f i).rd f i = satTo f.width (s.rd f i + 1) := by
  rw [State.bump, State.bumpBy, State.rd_wr_self, satTo_mod]

/-- What every round of a loop over indices keeps, the loop keeps. -/
theorem State.forAll_inv {α : Type} (g : State → α) (n : Nat) (f : Nat → State → State) (s : State)
    (h : ∀ i t, g (f i t) = g t) : g (State.forAll n f s) = g s := by
  unfold State.forAll
  induction List.range n generalizing s with
  | nil => rfl
  | cons x r ih => rw [List.foldl_cons, ih, h]

/-- What every round of a fold keeps, the fold keeps. -/
theorem State.foldl_inv {α β : Type} (g : State → α) (l : List β) (f : State → β → State) (s : State)
    (h : ∀ x t, g (f t x) = g t) : g (l.foldl f s) = g s := by
  induction l generalizing s with
  | nil => rfl
  | cons x r ih => rw [List.foldl_cons, ih, h]

/-- A lookup in a filtered table. -/
theorem Tab.find_filter {α : Type} (t : Tab α) (p : Nat → Bool) (k : Nat) : Tab.find (t.filter fun q => p q.1) k = if p k then Tab.find t k else none := by
  induction t with
  | nil => simp [Tab.find]
  | cons a l ih =>
    obtain ⟨x, v⟩ := a
    by_cases hp : p x
    · rw [List.filter_cons_of_pos (by simpa using hp)]
      simp only [Tab.find, ih]
      by_cases hk : k = x
      · subst hk; simp [hp]
      · simp [hk]
    · rw [List.filter_cons_of_neg (by simpa using hp)]
      simp only [Tab.find, ih]
      by_cases hk : k = x
      · subst hk; simp [hp]
      · simp [hk]

end Sys2Proof.Machine
end

