-- ==== Sys2Proof/WellFormed.lean ====
section
/-! DEFINITION. Which commands are well formed: every number fits the width the spec gives what it stands for. The meanings
are total and do not depend on it. -/

namespace Sys2Proof.WellFormed

open Sys2Proof.Machine

/-- A register's value, or an OFFSET (R364). -/
def word (n : Nat) : Bool := n < 2 ^ 32

/-- A unit ID, a KEY, a sampled quantity of 16 bits. -/
def half (n : Nat) : Bool := n < 2 ^ 16

/-- A byte: a reel number, a command code, a block number. -/
def byte (n : Nat) : Bool := n < 2 ^ 8

/-- The three 32-bit items of an event record's detail (Table 9.5). -/
def item96 (n : Nat) : Bool := n < 2 ^ 96

/-- Bytes. -/
def bytesOk (l : List Nat) : Bool := l.all byte

/-- A byte that may be absent. -/
def optByte (o : Option Nat) : Bool := o.all byte

/-- A message type that a servo asks for (R269). -/
def service (n : Nat) : Bool := n == 0 || n == 9 || n == 11

/-- A frame: addresses of 48 bits, control information of 16. -/
def frameOk (f : Frame) : Bool := f.dst < 2 ^ 48 && f.src < 2 ^ 48 && f.vlan < 2 ^ 16

/-- A descriptor of at most 64 bytes (R286). -/
def descOk (d : Fetched) : Bool := d.bits < 2 ^ 512

/-- A client table index and an entry of 64 bytes (R265). -/
def tableOk : TableMsg → Bool
  | .entry i w => i < 16384 && w < 2 ^ 512
  | .deletion i => i < 16384
  | .ack i => i < 16384

end Sys2Proof.WellFormed

namespace Sys2Proof

open Sys2Proof.WellFormed

/-- The command is well formed. -/
def Instr.wellFormed (i : Instr) : Bool :=
  match i with
  | .registerWrite _ addr value => word addr && word value
  | .commitTick => true
  | .provisionalTick => true
  | .provisionalEpoch => true
  | .decisionEpoch => true
  | .epochMiss _ => true
  | .loopUpdate _ _ => true
  | .serviceEpoch => true
  | .modelEpoch => true
  | .hourlyPoint => true
  | .vfabUpdate _ _ => true
  | .mergerRecordIn _ unit _ detail _ gen => half unit && item96 detail && word gen
  | .mergerRelease => true
  | .unitOp _ => true
  | .unitReset _ u => half u
  | .unitRetire _ u => half u
  | .unitIsolate _ u => half u
  | .unitRelease _ u => half u
  | .unitUnretire _ u => half u
  | .unitStatus _ u => half u
  | .unitBackInService u => half u
  | .announceToken _ gen => byte gen
  | .feedSample _ mv ma _ => half mv && half ma
  | .feedQualified _ => true
  | .feedDropout _ => true
  | .feedUvFault _ => true
  | .feedOv _ => true
  | .feedOc _ => true
  | .feedRecover _ => true
  | .feedTestA => true
  | .feedTestB => true
  | .feedTestPeriod => true
  | .feedTestEnd _ _ => true
  | .lastGasp _ _ => true
  | .railOff => true
  | .railOffRestart _ => true
  | .thermalSample _ _ _ vbat railMv railMa => half vbat && half railMv && half railMa
  | .thermalTrip => true
  | .railFault _ mv => half mv
  | .vbatLow mv => half mv
  | .porchPowerOn => true
  | .resetNLow _ => true
  | .resetNRelease _ => true
  | .pmbusPage write => optByte write
  | .pmbusCapability => true
  | .pmbusStatusWord => true
  | .pmbusStatusInput => true
  | .pmbusStatusTemperature => true
  | .pmbusReadVin => true
  | .pmbusReadIin => true
  | .pmbusReadTemperature1 => true
  | .pmbusReadTemperature2 => true
  | .pmbusReadTemperature3 => true
  | .pmbusReadPin => true
  | .pmbusRevision => true
  | .pmbusMfrId => true
  | .pmbusMfrModel => true
  | .pmbusUnsupported => true
  | .alertResponse => true
  | .railsGood _ _ _ => true
  | .bootReadDone => true
  | .oscAmplitudeTimeout _ => true
  | .oscCountDone _ count => word count
  | .ocxoTempSettled => true
  | .ocxoWarm _ => true
  | .ocxoWarmTimeout => true
  | .clockMonWindow _ _ => true
  | .clockMonMiss _ => true
  | .baseMove => true
  | .baseMoveEnd => true
  | .muxSwitch _ _ => true
  | .muxForced _ => true
  | .muxStall _ => true
  | .stage3HoldoffEnd => true
  | .edgeStamp _ _ _ _ _ _ => true
  | .stampDistribute _ => true
  | .calTableReady _ _ _ _ _ _ _ => true
  | .calValid _ => true
  | .calRescaleDone _ => true
  | .gateEnd _ => true
  | .estimatePublish _ => true
  | .estStart _ => true
  | .estStop _ => true
  | .takeArm _ => true
  | .takeAbort _ => true
  | .gatePinEdge _ _ _ => true
  | .takeGateEnd _ => true
  | .missingEdge _ => true
  | .arrivalWindowMiss _ => true
  | .qualValidationEnd _ => true
  | .qualHoldoffEnd _ => true
  | .qualDetectResume => true
  | .waitToRestoreEnd _ _ => true
  | .buildoutComplete _ => true
  | .dpllLockTimer _ => true
  | .refAck _ => true
  | .refAckStep _ => true
  | .holdClear _ => true
  | .synthCommitGo => true
  | .synthCommitValidate => true
  | .synthRealign _ => true
  | .apllLock _ => true
  | .apllUnlock _ => true
  | .relockAttempt _ _ => true
  | .baseUnlock => true
  | .degradedIntervalEnd => true
  | .shutterForce _ => true
  | .shutterOpen _ => true
  | .phaseVerify => true
  | .timeSet => true
  | .timeStepRequest => true
  | .timeStep => true
  | .timeVoteOne _ => true
  | .timeVoteNone => true
  | .counterStart _ _ _ => true
  | .porchAnchor => true
  | .leapSecond => true
  | .todMessageRx _ bytes _ _ _ => bytesOk bytes
  | .todoSend _ => true
  | .ppsPulse _ => true
  | .linkUp _ => true
  | .linkDown _ _ => true
  | .restartLink _ => true
  | .restartEq _ => true
  | .laneRefFallback _ => true
  | .laneRefReturn _ => true
  | .esmcRx _ => true
  | .esmcTx _ => true
  | .frameRx _ _ fr => frameOk fr
  | .frameTx _ _ => true
  | .bridgeForward _ _ _ fr => frameOk fr
  | .cueLaunch _ _ _ => true
  | .ptpSignalingRx _ => true
  | .followUpSend _ => true
  | .delayReqRx _ => true
  | .pdelayReqRx _ _ => true
  | .managementRx _ => true
  | .ntpRequestRx _ _ => true
  | .tblRead => true
  | .tblWrite => true
  | .tblDelete => true
  | .tblFind => true
  | .clientWindowAccess => true
  | .servoFrameRx _ => true
  | .servoRenew _ msg => service msg
  | .followUpTimeout _ => true
  | .servoLost _ _ grant => grant.all service
  | .announceTimeout _ => true
  | .perstN _ => true
  | .linkL0 speed width => 1 ≤ speed && speed ≤ 4 && 1 ≤ width && width ≤ 16
  | .hostLinkDown => true
  | .pf0Flr _ => true
  | .vfFlr _ => true
  | .doorbellProd r value _ => byte r && word value
  | .doorbellCons r value _ => byte r && word value
  | .doorbellConsArm r value _ => byte r && word value
  | .descriptorRelease r l => byte r && l.all descOk
  | .descriptorFetchDone r d => byte r && descOk d
  | .completionWrite r => byte r
  | .dmaError r addr _ => byte r && addr < 2 ^ 64
  | .recordsFlush r => byte r
  | .msixModeration r => byte r
  | .adminEnable _ value => word value
  | .negotiate _ => true
  | .createReel _ => true
  | .destroyReel _ => true
  | .setVector _ => true
  | .atticRead _ _ => true
  | .atticWrite _ buffer => buffer.all bytesOk
  | .fullReset _ => true
  | .fullResetStart => true
  | .pairSwitch _ => true
  | .reelStatus _ => true
  | .drainReel _ => true
  | .adminBadOpcode _ => true
  | .timeSnapshot _ _ => true
  | .vfEvtReelEnable _ value => word value
  | .vfEvtCons _ value => word value
  | .vfEvtConsArm _ value => word value
  | .claimInChange _ => true
  | .claimSlotDelayEnd => true
  | .claimConfirmEnd => true
  | .claimConflictHoldEnd => true
  | .reclaimHoldoffEnd => true
  | .hallwayLaneUp _ => true
  | .hallwayLaneDown _ => true
  | .helloTx => true
  | .helloRx _ h => h.slot < 2 && h.clockId < 2 ^ 64
  | .heartbeatTx => true
  | .heartbeatRx _ h => h.pairState < 6 && h.stage < 4
  | .heartbeatLost => true
  | .timeMsgRx _ _ => true
  | .tableSyncRx _ t => tableOk t
  | .cfgDigestRx _ digest => word digest
  | .standbyAligned => true
  | .peerSwitchGo => true
  | .peerSwitchForce key => half key
  | .switchOfferRx _ _ _ => true
  | .switchAcceptRx _ _ _ => true
  | .switchRefuseRx _ _ => true
  | .switchHandover => true
  | .switchTimeout => true
  | .faultCause _ unit itemA itemB => half unit && word itemA && word itemB
  | .faultWire _ unit _ => half unit
  | .sramScrub addr _ => word addr
  | .faultAck _ => true
  | .graceExpiry _ => true
  | .reactionOperation => true
  | .reactionComplete => true
  | .settleWindowEnd => true
  | .errToggle => true
  | .faultInject => true
  | .faultInjectBreak _ => true
  | .atticCommitDone _ _ => true
  | .atticMbRead => true
  | .atticMbWrite => true
  | .atticMbRawRead => true
  | .atticMbRawWrite => true
  | .logPageWrite => true
  | .powerOnHour => true
  | .atticScanPage _ _ bad => bad.all (· < 32)
  | .wideCapture _ block item => byte block && half item
  | .wideWrite _ block item => byte block && half item
  | .smbBlockWrite sa count data pec => sa < 128 && byte count && bytesOk data && optByte pec
  | .smbBlockWriteMulti sa count data pec => sa < 128 && byte count && bytesOk data && optByte pec
  | .smbBlockRead sa count data => sa < 128 && byte count && bytesOk data
  | .smbBadCommand sa code => sa < 128 && byte code
  | .extest _ _ => true
  | .samplePreload _ _ => true
  | .idcode => true
  | .regacc _ addr value => word addr && word value
  | .bypass code _ => byte code
  | .tapReset => true
  | .testModeEnter _ key => half key
  | .fuseBlow key => half key
  | .fuseBlowDone => true
  | .feedTestFail _ => true
  | .thermalRestart _ => true
  | .cdrLock _ => true
  | .d3hotEntry => true
  | .numVfsChange n => half n
  | .msixUnmask fn vec => fn < 16 && vec < 128
  | .drainTimeout _ => true
  | .ownUnitReset => true

end Sys2Proof
end

