-- ==== Sys2Proof/Tests/Slice0.lean ====
section
/-! SUPPORT. Tests: ill-formed commands that the checks refuse, states and operands that meet the hypotheses of each
statement, and single steps whose results the spec gives. -/

set_option Elab.async false

namespace Sys2Proof.Tests

open Sys2Proof Sys2Proof.Machine

set_option linter.unusedVariables false

/-! Small states. -/

/-- The state after reset but for the listed register fields. -/
def on (l : List (Fld × Nat × Nat)) : State := State.reset.wrAll l
def stage1 : State := on [(F.CLK_STAGE_STATUS_STAGE, 0, 1)]
/-- The time counter runs. -/
def running : State := { State.reset with tm := { running := true } }
/-- Monitor 0 is enabled and judges its input, APLL0 being locked. -/
def judging (l : List (Fld × Nat × Nat)) : State :=
  { on ([(F.CLK_STAGE_STATUS_STAGE, 0, 2), (F.QM_CFG_ENABLE, 0, 1), (F.APLL_STATUS_LOCKED, 0, 1)] ++ l) with
    td := { gated := false, blind := false } }
/-- It is qualified, and its declared pair is not consistent. -/
def missed : State :=
  { judging [(F.QM_STATUS_STATE, 0, 3)] with
    cp := { mismatched := [0], lastPair := [(0, (30000000, 0))] }
    ql := { mon := [(0, { active := true })] } }
/-- Stage 1 with both hallway lanes up. -/
def lanes (l : List (Fld × Nat × Nat)) : State :=
  on ([(F.CLK_STAGE_STATUS_STAGE, 0, 1), (F.PEER_LANE_STATUS_UP, 0, 1), (F.PEER_LANE_STATUS_UP, 1, 1)] ++ l)
/-- The active module of a pair whose partner can take over. -/
def switchable : State :=
  lanes [(F.PEER_STATUS_LINK_STATE, 0, lkUP), (F.PEER_STATUS_PAIR_STATE, 0, psACTIVE), (F.PEER_STATUS_HB_CURRENT, 0, 1),
    (F.PEER_PARTNER_PAIR_STATE, 0, psSTANDBY), (F.PEER_PARTNER_CLAIM_EN, 0, 1), (F.PEER_PARTNER_STAGE, 0, 3),
    (F.PEER_STATUS_CFG_MATCH, 0, 1)]
/-- An admin command with its parameter words. -/
def command (op : Nat) (ps : List Nat) : TxDesc :=
  { reel := 160, slot := 0, bits := op * 2 ^ 504 + (ps.zipIdx.map fun p => p.1 * 2 ^ (320 - 32 * p.2)).sum, release := 0 }
/-- A command is next on admin reel 0. -/
def withCmd (d : TxDesc) (s : State) : State :=
  { s with hs := { s.hs with reels := s.hs.reels ++ [(160, { size := 16, queue := [d] })] } }
def hasReel0 : State := { State.reset with hs := { reels := [(0, { size := 16 })] } }
def paired : State :=
  { on [(F.PEER_STATUS_PAIR_STATE, 0, psSTANDBY), (F.PEER_STATUS_LINK_STATE, 0, lkUP)] with
    pr := { everNegotiated := true } }
/-- A host record without payload stands in copy A of its pages. -/
def hosted : State :=
  State.reset.atticWrite (copyAddr ⟨8, 4064, 374, 16, true, true⟩ 0 false) (copyBytes rtHOST 0 false 1 0 [])
def rec0 : EvRec := ⟨0, 0, 64, 0, 0, false, false, 0, 0, 0⟩
def straps0 : Straps := ⟨false, false, false, false, false, false⟩
def stamp0 : Stamp := ⟨0, 0, false, false, false⟩
def gate0 : Gate := { start := 0, stop := 1000, decim := 1 }
def recipe0 : Recipe := ⟨0, [], [], [], 0, false, 0, 0, 0⟩
def buf0 : RxBuf := { slot := 0, addr := 0, cookie := 0, length := 64, recs := [1], first := some 0 }
def react (a : Nat) (applied : Bool) : Reaction :=
  { source := 12, unit := 0x0200, entry := 0, cause := 0, due := 0, shutter := false, action := a, applied := applied, code := 0 }
def hello0 : Hello := ⟨14, 1, false, none, 1⟩
def desc0 : TxDesc := { reel := 0, slot := 0, bits := 0, release := 0 }
/-- A frame handed to a receiver of Table 11.2. -/
def rx (taker : Nat) (f : Frame) : RxFrame := ⟨taker, 0, 0, 0, 0, false, f⟩
def esmcFrame : Frame := { dst := 0x0180C2000002, net := .slow, body := .esmc {} }
def ptp (ty : Nat) : Frame := { net := .ptp2, body := .ptp { mtype := ty, peer := if ty = 0xD then (2 ^ 64 - 1) * 2 ^ 16 else 0 } }
def ptp2step : Frame := { net := .ptp2, body := .ptp { twoStep := true } }
def ntpFrame : Frame := { body := .ntp {} }
/-- Output 0's gate is closed with no cause left; no loop waits for a realignment. -/
def openable : State :=
  { on [(F.APLL_STATUS_LOCKED, 1, 1)] with
    sy := { outs := [(0, { shut := true })], loops := [(1, { origin := some 0, everLocked := true })] } }
theorem openable_waits (a : Nat) : (openable.loopSt a).realignWanted = false := by
  by_cases h : a = 1 <;> simp [openable, State.loopSt, Tab.at, Tab.find, h]
def sent0 : TwoStep := ⟨0, none, 0, 0, 0, { body := .ptp { mtype := 1 } }⟩

/-! Ill-formed commands: one for each check of each command. -/

theorem test_wf_units : ([.registerWrite 0 (2 ^ 32) 0, .registerWrite 0 0 (2 ^ 32), .mergerRecordIn 0 65536 0 0 0 0,
    .mergerRecordIn 0 0 0 (2 ^ 96) 0 0, .mergerRecordIn 0 0 0 0 0 (2 ^ 32), .unitReset 0 65536, .unitRetire 0 65536,
    .unitIsolate 0 65536, .unitRelease 0 65536, .unitUnretire 0 65536, .unitStatus 0 65536, .unitBackInService 65536,
    .announceToken 0 256] : List Instr).all (fun c => !c.wellFormed) = true := by decide +kernel

theorem test_wf_power : ([.feedSample 0 65536 0 false, .feedSample 0 0 65536 false, .thermalSample 0 0 0 65536 0 0,
    .thermalSample 0 0 0 0 65536 0, .thermalSample 0 0 0 0 0 65536, .railFault 0 65536, .vbatLow 65536, .pmbusPage (some 256),
    .oscCountDone 0 (2 ^ 32)] : List Instr).all (fun c => !c.wellFormed) = true := by decide +kernel

theorem test_wf_ports : ([.todMessageRx 0 [0, 256] false 0 0, .frameRx 0 0 { dst := 2 ^ 48 }, .frameRx 0 0 { src := 2 ^ 48 },
    .frameRx 0 0 { vlan := 65536 }, .bridgeForward 0 false 0 { dst := 2 ^ 48 }, .servoRenew 0 1, .servoLost 0 0 (some 1)] :
    List Instr).all (fun c => !c.wellFormed) = true := by decide +kernel

theorem test_wf_host : ([.linkL0 0 1, .linkL0 5 1, .linkL0 1 0, .linkL0 1 17,
    .doorbellProd 256 0 true, .doorbellProd 0 (2 ^ 32) true,
    .doorbellCons 256 0 true, .doorbellCons 0 (2 ^ 32) true, .doorbellConsArm 256 0 true, .doorbellConsArm 0 (2 ^ 32) true,
    .descriptorRelease 256 [], .descriptorRelease 0 [{ bits := 2 ^ 512 }], .descriptorFetchDone 256 { bits := 0 },
    .descriptorFetchDone 0 { bits := 2 ^ 512 }, .completionWrite 256, .dmaError 256 0 none, .dmaError 0 (2 ^ 64) none,
    .recordsFlush 256, .msixModeration 256, .adminEnable 0 (2 ^ 32), .atticWrite 0 (some [256]), .vfEvtReelEnable 0 (2 ^ 32),
    .vfEvtCons 0 (2 ^ 32), .vfEvtConsArm 0 (2 ^ 32), .numVfsChange 65536, .msixUnmask 16 0, .msixUnmask 0 128] :
    List Instr).all (fun c => !c.wellFormed) = true := by decide +kernel

theorem test_wf_peer : ([.helloRx {} ⟨14, 2, false, none, 1⟩, .helloRx {} ⟨14, 1, false, none, 2 ^ 64⟩,
    .heartbeatRx {} ⟨6, 0, 0, 0, 0, 0, 0, 0, 0⟩, .heartbeatRx {} ⟨0, 4, 0, 0, 0, 0, 0, 0, 0⟩, .tableSyncRx {} (.entry 16384 0),
    .tableSyncRx {} (.entry 0 (2 ^ 512)), .tableSyncRx {} (.deletion 16384), .tableSyncRx {} (.ack 16384),
    .cfgDigestRx {} (2 ^ 32), .peerSwitchForce 65536] : List Instr).all (fun c => !c.wellFormed) = true := by decide +kernel

theorem test_wf_access : ([.faultCause 2 65536 0 0, .faultCause 2 0 (2 ^ 32) 0, .faultCause 2 0 0 (2 ^ 32), .faultWire 2 65536 true,
    .sramScrub (2 ^ 32) false, .atticScanPage 0 0 [32], .wideCapture 0 256 0, .wideCapture 0 0 65536, .wideWrite 0 256 0,
    .wideWrite 0 0 65536, .smbBlockWrite 128 8 [] none, .smbBlockWrite 0 256 [] none, .smbBlockWrite 0 8 [256] none,
    .smbBlockWrite 0 8 [] (some 256), .smbBlockWriteMulti 128 8 [] none, .smbBlockWriteMulti 0 256 [] none,
    .smbBlockWriteMulti 0 8 [256] none, .smbBlockWriteMulti 0 8 [] (some 256), .smbBlockRead 128 4 [], .smbBlockRead 0 256 [],
    .smbBlockRead 0 4 [256], .smbBadCommand 128 0, .smbBadCommand 0 256, .regacc false (2 ^ 32) 0, .regacc false 0 (2 ^ 32),
    .bypass 256 [], .testModeEnter 0 65536, .fuseBlow 65536] : List Instr).all (fun c => !c.wellFormed) = true := by decide +kernel

/-- At the widest operands the checks accept. -/
theorem test_wf_bounds : ([.registerWrite 19 (2 ^ 32 - 1) (2 ^ 32 - 1), .unitReset 3 65535, .feedSample 1 65535 65535 true,
    .pmbusPage (some 255), .servoRenew 15 0xB, .linkL0 4 16, .dmaError 255 (2 ^ 64 - 1) none, .msixUnmask 15 127,
    .tableSyncRx {} (.entry 16383 (2 ^ 512 - 1)), .heartbeatRx {} ⟨5, 3, 0, 0, 0, 0, 0, 0, 0⟩, .atticScanPage 0 0 [31],
    .smbBlockWrite 127 255 [255] (some 255)] : List Instr).all Instr.wellFormed = true := by decide +kernel

/-! The table gives its rows no bits. -/

theorem test_decode_none : decodeTableWord 32 0 = none := rfl
theorem test_fetch_word : State.reset.withFetchWord 32 0 = State.reset := rfl

/-! Where each command completes: states and operands that meet every clause with hypotheses. -/

theorem wit_BlockCommandsComplete :
    (∃ s : State, s.tm.running = true ∧ s.cp.queue = []) ∧
    (∃ s : State, s.tm.running = false ∧ s.cp.queue = []) ∧
    (∃ s : State, s.tm.running = false ∧ s.stage ≠ 0 ∧ s.cp.queue = [] ∧ s.ep.effects = []) ∧
    (∃ s : State, s.tm.running = true ∧ s.tm.stepEpoch = false ∧ s.tm.ordered = none ∧ s.cp.queue = [] ∧ s.ep.effects =
      []) ∧
    (∃ s : State, s.tm.running = true) ∧
    (∃ s : State, s.tm.running = true) ∧
    (∃ s : State, s.tm.running = true) ∧
    (∃ (slack : Nat) (steady : Bool) (s : State), s.stage ≠ 0 ∧ slack < 128) ∧
    (∃ (n : Fin 128) (u d time gen : Nat) (sv : Fin 4) (s : State), s.inService uMERGER = true ∧ s.ev.lastKey = none) ∧
    (∃ (s : State) (r : EvRec), firstRecord (s.ev.held.filter (s.releasable ·)) = some r) :=
  ⟨⟨running, by decide +kernel⟩,
    ⟨State.reset, by decide +kernel⟩,
    ⟨stage1, by decide +kernel⟩,
    ⟨running, by decide +kernel⟩,
    ⟨running, by decide +kernel⟩,
    ⟨running, by decide +kernel⟩,
    ⟨running, by decide +kernel⟩,
    ⟨10, true, stage1, by decide +kernel⟩,
    ⟨1, 0, 0, 0, 0, 0, State.reset, by decide +kernel⟩,
    ⟨{ State.reset with ev := { held := [rec0] }, tm := { fine := 2 ^ 100 } }, rec0, by decide +kernel⟩⟩

theorem wit_UnitCommandsComplete :
    (∃ (a : Fin 2) (s : State) (d : TxDesc) (op u : Nat), s.adminNext a = some d ∧ d.opcode = 5 ∧ d.adminReserved = false
      ∧ op = bitsOf (d.param 0) 16 8 ∧ u = bitsOf (d.param 0) 0 16 ∧ op ≤ 5 ∧ (s.unitOp op u 0 (some (4 + a))).2.2.2 =
      false) ∧
    (∃ (bank : Fin 4) (u : Nat) (s : State), s.rd F.GLOBAL_UNIT_RESULT_BUSY bank ≠ 1 ∧ s.opRefused opRESET u (bankMaster
      bank) = 0 ∧ ownReset opRESET u (bankMaster bank) = false) ∧
    (∃ (bank : Fin 4) (u : Nat) (s : State), s.rd F.GLOBAL_UNIT_RESULT_BUSY bank ≠ 1 ∧ s.opRefused opRETIRE u (bankMaster
      bank) = 0 ∧ s.listChange opRETIRE u = none) ∧
    (∃ (bank : Fin 4) (u : Nat) (s : State), s.rd F.GLOBAL_UNIT_RESULT_BUSY bank ≠ 1 ∧ s.opRefused opISOLATE u (bankMaster
      bank) = 0) ∧
    (∃ (bank : Fin 4) (u : Nat) (s : State), s.rd F.GLOBAL_UNIT_RESULT_BUSY bank ≠ 1 ∧ s.opRefused opRELEASE u (bankMaster
      bank) = 0) ∧
    (∃ (bank : Fin 4) (u : Nat) (s : State), s.rd F.GLOBAL_UNIT_RESULT_BUSY bank ≠ 1 ∧ s.opRefused opUNRETIRE u
      (bankMaster bank) = 0 ∧ s.listChange opUNRETIRE u = none) ∧
    (∃ (bank : Fin 4) (u : Nat) (s : State), s.rd F.GLOBAL_UNIT_RESULT_BUSY bank ≠ 1 ∧ unitExists u = true) ∧
    (∃ (u : Nat) (s : State), s.un.resetting.contains u = true ∧ u ≠ uOCXO ∧ u ≠ uTCXO) ∧
    (∃ (s : State) (u m : Nat) (l : List (Nat × Nat)), s.un.deferred = (u, m) :: l ∧ { s with un := { s.un with
      deferred := l } }.opRefused opRESET u m = 0) ∧
    (∃ (x : Fin 14) (gen : Nat) (s : State), s.rd F.CLK_XING_STATUS_STATE x = 1 ∧ gen < 256 ∧ gen = (s.rd
      F.CLK_XING_STATUS_GENERATION x + 1) % 256) :=
  ⟨⟨0, (withCmd (command 5 [0x0100]) State.reset), (command 5 [0x0100]), 0, 0x0100, by decide +kernel⟩,
    ⟨0, 0x0200, State.reset, by decide +kernel⟩,
    ⟨0, 0x0300, State.reset, by decide +kernel⟩,
    ⟨0, 0x0200, State.reset, by decide +kernel⟩,
    ⟨0, 0x0200, State.reset, by decide +kernel⟩,
    ⟨0, 0x0300, State.reset, by decide +kernel⟩,
    ⟨0, 0x0200, State.reset, by decide +kernel⟩,
    ⟨0x0200, { State.reset with un := { resetting := [0x0200] } }, by decide +kernel⟩,
    ⟨{ State.reset with un := { deferred := [(0x0801, 0)] } }, 0x0801, 0, [], by decide +kernel⟩,
    ⟨0, 1, (on [(F.CLK_XING_STATUS_STATE, 0, 1)]), by decide +kernel⟩⟩

theorem wit_FeedCommandsComplete :
    (∃ (n : Fin 2) (mv ma : Nat) (rev : Bool) (s : State), mv < 2 ^ 16 ∧ ma < 2 ^ 16) ∧
    (∃ (n : Fin 2) (s : State), s.feedState n = fsQUALIFYING ∧ s.rd F.FEED_STATUS_IN_WINDOW n = 1) ∧
    (∃ (n : Fin 2) (s : State), s.feedState n = fsQUALIFIED ∧ s.rd F.FEED_STATUS_DROPOUT n ≠ 1) ∧
    (∃ (n : Fin 2) (s : State), s.feedState n = fsQUALIFIED ∧ s.rd F.FEED_STATUS_DROPOUT n = 1) ∧
    (∃ (n : Fin 2) (s : State), (s.feedState n = fsQUALIFIED ∨ s.feedState n = fsTESTING)) ∧
    (∃ (n : Fin 2) (s : State), (s.feedState n = fsQUALIFIED ∨ s.feedState n = fsTESTING)) ∧
    (∃ (n : Fin 2) (s : State), s.feedState n = fsFAULTED ∧ (s.feed n).heldFaulted = false) ∧
    (∃ s : State, s.rd F.POWER_STATUS_TEST_ACTIVE ≠ 1 ∧ s.rd F.POWER_STATUS_REDUNDANT = 1) ∧
    (∃ s : State, s.rd F.POWER_STATUS_TEST_ACTIVE ≠ 1 ∧ s.rd F.POWER_STATUS_REDUNDANT = 1) ∧
    (∃ s : State, s.rd F.POWER_STATUS_TEST_ACTIVE ≠ 1 ∧ s.rd F.POWER_STATUS_REDUNDANT = 1) ∧
    (∃ (us v : Nat) (s : State), s.feedState 0 = fsTESTING ∧ s.pw.testNext = false ∧ us < 2 ^ 16 ∧ v < 2 ^ 16) ∧
    (∃ (n : Fin 2) (s : State), s.feedState n = fsTESTING) :=
  ⟨⟨0, 48000, 2000, false, State.reset, by decide +kernel⟩,
    ⟨0, (on [(F.FEED_STATUS_STATE, 0, fsQUALIFYING), (F.FEED_STATUS_IN_WINDOW, 0, 1)]), by decide +kernel⟩,
    ⟨0, (on [(F.FEED_STATUS_STATE, 0, fsQUALIFIED)]), by decide +kernel⟩,
    ⟨0, (on [(F.FEED_STATUS_STATE, 0, fsQUALIFIED), (F.FEED_STATUS_DROPOUT, 0, 1)]), by decide +kernel⟩,
    ⟨0, (on [(F.FEED_STATUS_STATE, 0, fsTESTING)]), by decide +kernel⟩,
    ⟨0, (on [(F.FEED_STATUS_STATE, 0, fsQUALIFIED)]), by decide +kernel⟩,
    ⟨0, (on [(F.FEED_STATUS_STATE, 0, fsFAULTED)]), by decide +kernel⟩,
    ⟨(on [(F.POWER_STATUS_REDUNDANT, 0, 1)]), by decide +kernel⟩,
    ⟨(on [(F.POWER_STATUS_REDUNDANT, 0, 1)]), by decide +kernel⟩,
    ⟨(on [(F.POWER_STATUS_REDUNDANT, 0, 1)]), by decide +kernel⟩,
    ⟨20000, 30000, (on [(F.FEED_STATUS_STATE, 0, fsTESTING)]), by decide +kernel⟩,
    ⟨0, (on [(F.FEED_STATUS_STATE, 0, fsTESTING)]), by decide +kernel⟩⟩

theorem wit_PowerCommandsComplete :
    (∃ (pages us t0 cause : Nat) (s : State), s.at_.gasp = some (t0, cause)) ∧
    (∃ s : State, s.pw.powerDown = true) ∧
    (∃ (n : Fin 2) (s : State), s.pw.railOff = true ∧ s.pw.thermalTrip = false ∧ s.rd F.FEED_CFG_ENABLE n = 1) ∧
    (∃ (plate die ocxo : Int) (vbat mv ma : Nat) (s : State), vbat < 2 ^ 16 ∧ mv < 2 ^ 16 ∧ ma < 2 ^ 16) ∧
    (∃ s : State, s.pw.tripPending = true ∧ s.pw.powerDown = false ∧ s.rd F.POWER_STATUS_RAILS_GOOD = 1) ∧
    (∃ (plate : Int) (s : State), plate ≤ 1280) ∧
    (∃ (mv : Nat) (s : State), mv < s.rd F.POWER_VBAT_CFG_LOW_MV ∧ mv < 2 ^ 16) ∧
    (∃ (ns : Nat) (s : State), s.rd F.POWER_STATUS_RAILS_GOOD = 1 ∧ 1000 ≤ ns) ∧
    (∃ (x : Straps) (s : State), s.pw.resetLow = true) ∧
    (∃ (x : Straps) (us v : Nat) (s : State), s.rd F.POWER_STATUS_RAILS_GOOD ≠ 1 ∧ s.anyFeed = true ∧ us < 2 ^ 16 ∧ v < 2
      ^ 16) ∧
    (∃ s : State, s.stage = 0 ∧ s.rd F.POWER_STATUS_RAILS_GOOD = 1 ∧ s.pw.resetLow = false ∧ s.pw.powerDown = false) :=
  ⟨⟨0, 0, 0, 1, { State.reset with at_ := { gasp := some (0, 1) } }, by decide +kernel⟩,
    ⟨{ State.reset with pw := { powerDown := true } }, by decide +kernel⟩,
    ⟨0, State.reset, by decide +kernel⟩,
    ⟨400, 500, 1000, 3000, 3300, 1000, State.reset, by decide +kernel⟩,
    ⟨{ (on [(F.POWER_STATUS_RAILS_GOOD, 0, 1)]) with pw := { tripPending := true } }, by decide +kernel⟩,
    ⟨1280, State.reset, by decide +kernel⟩,
    ⟨2000, State.reset, by decide +kernel⟩,
    ⟨1000, (on [(F.POWER_STATUS_RAILS_GOOD, 0, 1)]), by decide +kernel⟩,
    ⟨straps0, { State.reset with pw := { resetLow := true } }, by decide +kernel⟩,
    ⟨straps0, 20000, 30000, (on [(F.FEED_STATUS_STATE, 0, fsQUALIFIED)]), by decide +kernel⟩,
    ⟨(on [(F.POWER_STATUS_RAILS_GOOD, 0, 1)]), by decide +kernel⟩⟩

theorem wit_PmbusCommandsComplete :
    (∃ s : State, s.readPage < 2) ∧
    (∃ s : State, s.readPage = 2) ∧
    (∃ s : State, s.readPage < 2) ∧
    (∃ s : State, s.readPage < 3) ∧
    (∃ s : State, s.readPage = 2) ∧
    (∃ s : State, s.readPage = 2) ∧
    (∃ s : State, s.readPage = 2) ∧
    (∃ s : State, s.readPage < 3) ∧
    (∃ s : State, s.rd F.IDENT_PART_VARIANT = 1) ∧
    (∃ s : State, s.pw.alert = true) :=
  ⟨⟨State.reset, by decide +kernel⟩,
    ⟨{ State.reset with pw := { pmPage := 2 } }, by decide +kernel⟩,
    ⟨State.reset, by decide +kernel⟩,
    ⟨{ State.reset with pw := { pmPage := 2 } }, by decide +kernel⟩,
    ⟨{ State.reset with pw := { pmPage := 2 } }, by decide +kernel⟩,
    ⟨{ State.reset with pw := { pmPage := 2 } }, by decide +kernel⟩,
    ⟨{ State.reset with pw := { pmPage := 2 } }, by decide +kernel⟩,
    ⟨{ State.reset with pw := { pmPage := 2 } }, by decide +kernel⟩,
    ⟨(on [(F.IDENT_PART_VARIANT, 0, 1)]), by decide +kernel⟩,
    ⟨{ State.reset with pw := { alert := true } }, by decide +kernel⟩⟩

theorem wit_ClockCommandsComplete :
    (∃ (o : Fin 3) (s : State), o.val < 2 ∧ s.oscBit o 2 = true) ∧
    (∃ (o : Fin 3) (count : Nat) (s : State), s.attempting o = true ∧ s.ck.tripDuring.contains o.val = false ∧
      (s.countWindow o).1 ≤ count ∧ count ≤ (s.countWindow o).2) ∧
    (∃ (tenths : Nat) (s : State), s.ocxoQual = true ∧ s.rd F.CLK_OCXO_STATUS_TEMP_SETTLED = 1 ∧ s.ocxoWarm = false) ∧
    (∃ s : State, s.ocxoWarm = false) ∧
    (∃ (n : Fin 8) (off : Int) (s : State), s.monJudged n = true ∧ |off| ≤ s.monTol n) ∧
    (∃ s : State, s.rd F.CLK_BASE_STATUS_MOVE_PENDING = 1 ∧ s.rd F.CLK_BASE_STATUS_MOVING ≠ 1) ∧
    (∃ s : State, s.rd F.CLK_BASE_STATUS_MOVING = 1 ∧ s.loopLocked 0 = true) ∧
    (∃ (m : Fin 2) (len : Nat) (s : State), s.rd F.CLK_MUX_STATUS_PENDING m ≠ 0 ∧ s.rd F.CLK_MUX_STATUS_PENDING m < 4) ∧
    (∃ (m : Fin 2) (s : State), s.rd F.CLK_MUX_STATUS_PENDING m ≠ 0) ∧
    (∃ (m : Fin 2) (s : State), s.rd F.CLK_MUX_STATUS_PENDING m ≠ 0) ∧
    (∃ s : State, s.stage = 2 ∧ s.ck.holdoffRuns = true ∧ s.tm.started = true) :=
  ⟨⟨1, (on [(F.CLK_OCXO_STATUS_STATE, 0, 4)]), by decide +kernel⟩,
    ⟨1, 150000, (on [(F.CLK_OCXO_STATUS_STATE, 0, 4)]), by decide +kernel⟩,
    ⟨6000, (on [(F.CLK_OCXO_STATUS_STATE, 0, 2), (F.CLK_OCXO_STATUS_TEMP_SETTLED, 0, 1)]), by decide +kernel⟩,
    ⟨State.reset, by decide +kernel⟩,
    ⟨0, 0, State.reset, by decide +kernel⟩,
    ⟨(on [(F.CLK_BASE_STATUS_MOVE_PENDING, 0, 1)]), by decide +kernel⟩,
    ⟨(on [(F.CLK_BASE_STATUS_MOVING, 0, 1), (F.APLL_STATUS_LOCKED, 0, 1)]), by decide +kernel⟩,
    ⟨1, 10, (on [(F.CLK_MUX_STATUS_PENDING, 1, 3)]), by decide +kernel⟩,
    ⟨1, (on [(F.CLK_MUX_STATUS_PENDING, 1, 3)]), by decide +kernel⟩,
    ⟨1, (on [(F.CLK_MUX_STATUS_PENDING, 1, 3)]), by decide +kernel⟩,
    ⟨{ (on [(F.CLK_STAGE_STATUS_STAGE, 0, 2)]) with ck := { holdoffRuns := true }, tm := { started := true } },
      by decide +kernel⟩⟩

theorem wit_TdcCommandsComplete :
    (∃ (c : Fin 28) (coarse line cmp gl : Nat) (falling : Bool) (s : State), s.edgesSeen c = true ∧ s.chanRunning c = true
      ∧ (s.chan c).lastEdge = none ∧ (s.chan c).fifo.length < 128) ∧
    (∃ (c : Fin 28) (s : State) (st : Stamp) (rest : List Stamp), (s.chan c).fifo = st :: rest ∧ s.refuses c = false) ∧
    (∃ (c : Fin 28) (beyond maxTap taps bin dnl inl : Nat) (s : State), s.rd F.TDC_CAL_CFG_HOLD ≠ 1 ∧ s.rd
      F.TDC_CH_CFG_ENABLE c = 1 ∧ beyond ≤ 1000 ∧ maxTap ≤ 6000) ∧
    (∃ (c : Fin 28) (s : State), s.rd F.TDC_CH_CFG_ENABLE c = 1 ∧ s.td.gated = false) ∧
    (∃ (c : Fin 32) (s : State) (g : Gate), c.val < 28 ∧ (s.chan c).gate = some g) ∧
    (∃ (e : Fin 4) (s : State) (g : Gate), (s.est e).gate = some g) ∧
    (∃ (c : Fin 32) (s : State) (r : GateResult), c.val < 28 ∧ (s.chan c).result = some r) ∧
    (∃ (e : Fin 4) (s : State) (r : GateResult), (s.est e).result = some r ∧ r.code < 16) ∧
    (∃ (e : Fin 4) (s : State), s.rd F.EST_GATE_GATE_MS e ≠ 0) ∧
    (∃ (k : Fin 4) (s : State), s.rd F.TAKE_STATUS_STATE k = 0 ∧ s.rd F.TAKE_GATE_GATE_MS k ≠ 0 ∧ (s.rd F.TAKE_CFG_SOURCE
      k = 0 ∨ s.rd F.TAKE_CFG_SOURCE k = 3) ∧ s.streamReel.isSome = true ∧ (∀ c ∈ takeChannels (s.rdB F.TAKE_CFG_MODE
      k) (s.rd F.TAKE_CFG_START k) (s.rd F.TAKE_CFG_STOP k) (s.rd F.TAKE_MASK_CHANNELS k), s.rd F.TDC_CH_CFG_ENABLE c
      = 1 ∧ s.isRetired (uTDC c) = false ∧ s.isIsolated (uTDC c) = false)) ∧
    (∃ (k : Fin 4) (s : State), (s.rd F.TAKE_STATUS_STATE k = 1 ∨ s.rd F.TAKE_STATUS_STATE k = 2)) ∧
    (∃ (s : State) (cycle : Nat), s.rd F.TAKE_STATUS_STATE 0 = 1 ∧ (s.take 0).source = 1 ∧ (s.take 0).activeLow = false ∧
      (s.take 1).source ≠ 1 ∧ (s.take 2).source ≠ 1 ∧ (s.take 3).source ≠ 1) ∧
    (∃ (k : Fin 4) (s : State) (e : Nat), (s.take k).stop = some e ∧ s.rd F.TAKE_STATUS_STATE k = 2) :=
  ⟨⟨0, 0, 0, 0, 0, false, { (on [(F.TDC_CH_CFG_ENABLE, 0, 1), (F.TDC_CH_CAL_VALID, 0, 1)]) with
      td := { gated := false, chan := [(0, { edges := 1 })] } }, by decide +kernel⟩,
    ⟨0, { State.reset with td := { gated := false, chan := [(0, { fifo := [stamp0] })] } }, stamp0, [], by decide +kernel⟩,
    ⟨0, 1000, 6000, 400, 100, 3, 3, (on [(F.TDC_CH_CFG_ENABLE, 0, 1)]), by decide +kernel⟩,
    ⟨0, { (on [(F.TDC_CH_CFG_ENABLE, 0, 1)]) with td := { gated := false, chan := [(0, {})] } }, by decide +kernel⟩,
    ⟨0, { State.reset with td := { gated := false, chan := [(0, { gate := some gate0 })] } }, gate0, by decide +kernel⟩,
    ⟨0, { State.reset with td := { est := [(0, { gate := some gate0 })] } }, gate0, by decide +kernel⟩,
    ⟨0, { State.reset with td := { gated := false, chan := [(0, { result := some { code := 1 } })] } }, { code := 1 },
      by decide +kernel⟩,
    ⟨0, { State.reset with td := { est := [(0, { result := some { code := 1 } })] } }, { code := 1 }, by decide +kernel⟩,
    ⟨0, (on [(F.EST_GATE_GATE_MS, 0, 1000)]), by decide +kernel⟩,
    ⟨0,
      { (on [(F.TAKE_GATE_GATE_MS, 0, 1000), (F.TDC_STREAM_CFG_ENABLE, 0, 1), (F.TAKE_MASK_CHANNELS, 0, 1), (F.TDC_CH_CFG_ENABLE, 0, 1)]) with
      hs := { reels := [(64, { size := 16, records := true })] } }, by decide +kernel⟩,
    ⟨0, (on [(F.TAKE_STATUS_STATE, 0, 2)]), by decide +kernel⟩,
    ⟨{ (on [(F.TAKE_STATUS_STATE, 0, 1)]) with td := { take := [(0, { source := 1 })] } }, 300000, by decide +kernel⟩,
    ⟨0, { (on [(F.TAKE_STATUS_STATE, 0, 2)]) with td := { take := [(0, { stop := some 1000 })] } }, 1000,
      by decide +kernel⟩⟩

theorem wit_LoopCommandsComplete :
    (∃ (d : Fin 16) (s : State), s.inService (uDP d) = true ∧ s.rd F.DP_STATUS_LOCKSTEP_HELD d ≠ 1 ∧ s.dpSt d ≠ 0) ∧
    (∃ (d : Fin 16) (r : Recipe) (s : State), s.dpFree d = true ∧ (s.dpll d).recipe = some r ∧ (s.dpSt d = 2 ∨ s.dpSt d =
      3)) ∧
    (∃ (m : Fin 44) (c : Nat) (s : State), s.monChan m = some c ∧ s.judges m = true ∧ s.qmSt m ≠ 0 ∧ s.qmSt m ≠ 6 ∧
      s.suspended = false ∧ s.fastLeaf c = true ∧ (s.mon m).active = true) ∧
    (∃ (m : Fin 44) (c : Nat) (s : State), s.monChan m = some c ∧ s.judges m = true ∧ s.qmSt m ≠ 0 ∧ s.qmSt m ≠ 6 ∧
      s.suspended = false ∧ s.fastLeaf c = false ∧ (s.mon m).expect.isSome = true) ∧
    (∃ (m : Fin 44) (s : State), s.qmSt m = 2 ∧ s.judges m = true ∧ 2 ≤ (s.mon m).updates ∧ s.causesOf m / 8 = 0) ∧
    (∃ (m : Fin 44) (s : State), s.qmSt m = 5 ∧ s.judges m = true ∧ s.causesOf m / 8 = 0) ∧
    (∃ s : State, s.td.gated = false ∧ s.rd F.CLK_BASE_STATUS_MOVING ≠ 1 ∧ s.loopLocked 0 = true) ∧
    (∃ (n : Fin 128) (e : Fin 4) (s : State), ((s.node n).entries.at e {}).wtr = true) ∧
    (∃ (d : Fin 16) (r : Recipe) (s : State), (s.dpll d).recipe = some r ∧ s.dpSt d = 4 ∧ (s.dpll d).boWait = false ∧
      (s.dpll d).done = false ∧ s.dpFree d = true) ∧
    (∃ (d : Fin 16) (s : State), s.dpSt d = 2 ∧ s.rd F.DP_STATUS_LOCK_OK d = 1 ∧ s.dpFree d = true) ∧
    (∃ (d : Fin 16) (s : State), s.rd F.DP_STATUS_HELD d = 1) ∧
    (∃ (d : Fin 16) (s : State), d.val = s.timeDpll ∧ s.rd F.DP_STATUS_HELD d = 1 ∧ (s.dpll d).heldRecipe = (s.dpll
      d).recipe) ∧
    (∃ (d : Fin 16) (s : State), (s.dpll d).episode = none) :=
  ⟨⟨0, (on [(F.DP_STATUS_STATE, 0, 2)]), by decide +kernel⟩,
    ⟨0, recipe0, { (on [(F.DP_STATUS_STATE, 0, 3)]) with dp := [(0, { recipe := some recipe0 })] }, by decide +kernel⟩,
    ⟨0, 0, missed, by decide +kernel⟩,
    ⟨0, 0, { (judging [(F.QM_STATUS_STATE, 0, 3)]) with ql := { mon := [(0, { expect := some 0 })] } }, by decide +kernel⟩,
    ⟨0, { (judging [(F.QM_STATUS_STATE, 0, 2), (F.TDC_CH_CFG_ENABLE, 0, 1), (F.TDC_CH_CAL_VALID, 0, 1)]) with
      ql := { mon := [(0, { updates := 2, active := true, y := some 0 })] } }, by decide +kernel⟩,
    ⟨0, { (judging [(F.QM_STATUS_STATE, 0, 5), (F.TDC_CH_CFG_ENABLE, 0, 1), (F.TDC_CH_CAL_VALID, 0, 1)]) with
      ql := { mon := [(0, { active := true, y := some 0 })] } }, by decide +kernel⟩,
    ⟨{ (on [(F.APLL_STATUS_LOCKED, 0, 1)]) with td := { gated := false } }, by decide +kernel⟩,
    ⟨0, 0, { State.reset with tr := [(0, { entries := [(0, { wtr := true })] })] }, by decide +kernel⟩,
    ⟨0, recipe0, { (on [(F.DP_STATUS_STATE, 0, 4)]) with dp := [(0, { recipe := some recipe0 })] }, by decide +kernel⟩,
    ⟨0, (on [(F.DP_STATUS_STATE, 0, 2), (F.DP_STATUS_LOCK_OK, 0, 1)]), by decide +kernel⟩,
    ⟨0, (on [(F.DP_STATUS_HELD, 0, 1)]), by decide +kernel⟩,
    ⟨0, (on [(F.DP_STATUS_HELD, 0, 1)]), by decide +kernel⟩,
    ⟨0, State.reset, by decide +kernel⟩⟩

theorem wit_SynthCommandsComplete :
    (∃ s : State, s.synthBusy = false) ∧
    (∃ (r b : Nat) (s : State), s.sy.go = true ∧ s.commitFault = some (r, b)) ∧
    (∃ s : State, s.sy.go = true ∧ s.commitFault = none) ∧
    (∃ (a : Fin 4) (s : State), s.synthBusy = false ∧ s.loopLocked (a + 1) = true) ∧
    (∃ s : State, s.base ≠ 0 ∧ s.loopLocked 0 = false) ∧
    (∃ (a : Fin 5) (s : State), a ≠ 0 ∧ s.loopLocked 0 = true ∧ s.inService (uAPLL a) = true) ∧
    (∃ (a : Fin 4) (s : State), s.loopLocked (a + 1) = true ∧ s.loopLocked 0 = true) ∧
    (∃ (a : Fin 5) (s : State), s.loopLocked a = false) ∧
    (∃ s : State, s.loopLocked 0 = true ∧ s.rd F.CLK_BASE_STATUS_MOVING 0 ≠ 1) ∧
    (∃ s : State, s.rd F.SYNTH_DEG_STATUS_DEGRADED 0 = 1 ∧ s.loopLocked 0 = true ∧ s.rd F.CLK_BASE_STATUS_TK_ON_PATH 0 ≠ 1
      ∧ (∀ c : Fin 28, (s.chan c).rescaling = false)) ∧
    (∃ (n : Fin 24) (s : State), (s.outSt n).shut = true) ∧
    (∃ (n : Fin 24) (s : State), (s.outSt n).shut = true ∧ s.sy.handover = false ∧ ((s.outCauses n).all fun c => c == 3 ||
      c == 4) = true ∧ (∀ a : Nat, (s.loopSt a).realignWanted = false)) :=
  ⟨⟨State.reset, by decide +kernel⟩,
    ⟨_, _, { (on [(F.OUT_CFG_ENABLE, 0, 1)]) with sy := { go := true } }, by decide +kernel, rfl⟩,
    ⟨{ State.reset with sy := { go := true } }, by decide +kernel⟩,
    ⟨0, (on [(F.APLL_STATUS_LOCKED, 1, 1)]), by decide +kernel⟩,
    ⟨(on [(F.CLK_BASE_STATUS_BASE, 0, 1)]), by decide +kernel⟩,
    ⟨1, (on [(F.APLL_STATUS_LOCKED, 0, 1)]), by decide +kernel⟩,
    ⟨0, (on [(F.APLL_STATUS_LOCKED, 0, 1), (F.APLL_STATUS_LOCKED, 1, 1)]), by decide +kernel⟩,
    ⟨0, State.reset, by decide +kernel⟩,
    ⟨(on [(F.APLL_STATUS_LOCKED, 0, 1)]), by decide +kernel⟩,
    ⟨(on [(F.APLL_STATUS_LOCKED, 0, 1), (F.SYNTH_DEG_STATUS_DEGRADED, 0, 1)]), by decide +kernel⟩,
    ⟨0, { State.reset with sy := { outs := [(0, { shut := true })] } }, by decide +kernel⟩,
    ⟨0, openable, by decide +kernel, by decide +kernel, by decide +kernel, openable_waits⟩⟩

theorem wit_TimeCommandsComplete :
    (∃ s : State, t96Legal s.tm.setTime = true) ∧
    (∃ (o : StepOrder) (s : State), s.tm.ordered = some o ∧ s.counterValid = true) ∧
    (∃ (c : Fin 3) (s : State), s.counterValid = true) ∧
    (∃ s : State, s.counterValid = true) ∧
    (∃ (sec ticks expected : Nat) (s : State), s.tm.running = false ∧ s.tkRuns = true ∧ s.inService uTCOUNT = true) ∧
    (∃ s : State, s.counterValid = true) ∧
    (∃ (j : Fin 2) (bytes : List Nat) (start stop : Nat) (s : State), s.rd F.TODI_CFG_ENABLE j = 1 ∧ s.inService (uTODI j)
      = true ∧ s.rd F.TODI_CFG_FORMAT j = 1) ∧
    (∃ (j : Fin 2) (s : State), s.rd F.TODO_CFG_ENABLE j = 1 ∧ s.inService (uTODO j) = true ∧ s.counterValid = true ∧ s.rd
      F.TIME_STATUS_SECONDS_SET 0 = 1 ∧ s.rd F.TODO_CFG_FORMAT j = 1 ∧ s.rd F.TODO_CFG_DELAY_MS j ≤ 500 ∧ 96 ≤ s.rd
      F.TODO_CFG_BAUD_100 j) ∧
    (∃ (p : Fin 4) (s : State), s.tm.running = true) ∧
    (∃ s : State, s.tm.running = true) :=
  ⟨⟨State.reset, by decide +kernel⟩,
    ⟨⟨0, 0, false, 0⟩, { State.reset with tm := { running := true, ordered := some ⟨0, 0, false, 0⟩ } },
      by decide +kernel⟩,
    ⟨0, running, by decide +kernel⟩,
    ⟨running, by decide +kernel⟩,
    ⟨0, 0, 0, (on [(F.APLL_STATUS_LOCKED, 0, 1)]), by decide +kernel⟩,
    ⟨running, by decide +kernel⟩,
    ⟨0, [], 0, 0, (on [(F.TODI_CFG_ENABLE, 0, 1), (F.TODI_CFG_FORMAT, 0, 1)]), by decide +kernel⟩,
    ⟨0,
      { (on [(F.TODO_CFG_ENABLE, 0, 1), (F.TIME_STATUS_SECONDS_SET, 0, 1), (F.TODO_CFG_FORMAT, 0, 1), (F.TODO_CFG_BAUD_100, 0, 96)]) with
      tm := { running := true } }, by decide +kernel⟩,
    ⟨0, running, by decide +kernel⟩,
    ⟨running, by decide +kernel⟩⟩

theorem wit_PortCommandsComplete :
    (∃ (p : Fin 8) (s : State), s.portOn p = true ∧ s.linkUp p = false ∧ s.inService (uP p) = true) ∧
    (∃ (p : Fin 8) (s : State), s.linkUp p = true) ∧
    (∃ (p : Fin 8) (s : State), s.portOn p = true ∧ s.inService (uP p) = true) ∧
    (∃ (p : Fin 8) (s : State), s.portOn p = true) ∧
    (∃ (p : Fin 8) (s : State), s.portOn p = true) ∧
    (∃ (p : Fin 8) (s : State), s.txLoop p ≠ 0 ∧ s.txRefBad p = false ∧ s.loopRunning (s.txLoop p) = false ∧ s.portOn p =
      true ∧ s.rd F.PORT_STATUS_TX_REF_FALLBACK p ≠ 1) ∧
    (∃ (p : Fin 8) (s : State), s.rd F.PORT_STATUS_TX_REF_FALLBACK p = 1 ∧ s.loopRunning (s.txLoop p) = true) ∧
    (∃ (p : Fin 8) (r : RxFrame) (m : Esmc) (s s' : State), s.takeRx (fun r => r.taker == 1 && r.port == p) = some (r, s')
      ∧ esmcOf r.frame = some m ∧ m.accepted = true ∧ s.rd F.PORT_SYNCE_CFG_ESMC_RX p = 1) ∧
    (∃ (p : Fin 8) (s : State), (s.esmcLevel p).isSome = true ∧ s.linkUp p = true) ∧
    (∃ (p : Fin 8) (pcs : Int) (f : Frame) (s : State), s.linkUp p = true ∧ s.bridged p = false ∧ s.inService (uP p) =
      true ∧ 64 ≤ f.bytes ∧ f.bytes ≤ 9216 ∧ f.fcsOk = true ∧ (esmcOf f).isSome = true) ∧
    (∃ (p : Fin 8) (pcs : Int) (d : TxDesc) (s : State), firstBy TxDesc.before (s.hs.ready.filter fun d => d.port == p) =
      some d ∧ s.bridged p = false ∧ s.linkUp p = true ∧ s.clearOfCue p (s.txTime p pcs).toNat d.onWire = true ∧
      d.oneStep = false) ∧
    (∃ (b : Fin 4) (odd : Bool) (pcs : Int) (f : Frame) (s : State), s.rd F.BR_STATUS_STATE b = 3 ∧ s.inService (uBR b) =
      true ∧ 64 ≤ f.bytes ∧ f.bytes ≤ 9216) ∧
    (∃ (p : Fin 8) (pcs : Int) (d : TxDesc) (s : State), s.nextCue p = some d ∧ s.bridged p = false ∧ s.linkUp p = true ∧
      d.launch = 0 ∧ d.oneStep = false) :=
  ⟨⟨0, (on [(F.CLK_STAGE_STATUS_STAGE, 0, 1), (F.PORT_CFG_ENABLE, 0, 1), (F.PORT_CFG_MODE, 0, 1)]), by decide +kernel⟩,
    ⟨0, (on [(F.PORT_STATUS_LINK_UP, 0, 1)]), by decide +kernel⟩,
    ⟨0, (on [(F.CLK_STAGE_STATUS_STAGE, 0, 1), (F.PORT_CFG_ENABLE, 0, 1), (F.PORT_CFG_MODE, 0, 1)]), by decide +kernel⟩,
    ⟨0, (on [(F.CLK_STAGE_STATUS_STAGE, 0, 1), (F.PORT_CFG_ENABLE, 0, 1), (F.PORT_CFG_MODE, 0, 1)]), by decide +kernel⟩,
    ⟨0, (on [(F.CLK_STAGE_STATUS_STAGE, 0, 1), (F.PORT_CFG_ENABLE, 0, 1), (F.PORT_CFG_MODE, 0, 1)]), by decide +kernel⟩,
    ⟨0, (on [(F.CLK_STAGE_STATUS_STAGE, 0, 1), (F.PORT_CFG_ENABLE, 0, 1), (F.PORT_CFG_MODE, 0, 1), (F.PORT_CFG_TX_REF, 0,
      1)]), by decide +kernel⟩,
    ⟨0, { (on [(F.PORT_CFG_TX_REF, 0, 1), (F.PORT_STATUS_TX_REF_FALLBACK, 0, 1), (F.APLL_STATUS_LOCKED, 1, 1)]) with
      sy := { loops := [(1, { origin := some 0 })] } }, by decide +kernel⟩,
    ⟨0, rx 1 esmcFrame, {}, { (on [(F.PORT_SYNCE_CFG_ESMC_RX, 0, 1)]) with sv := { inbox := [rx 1 esmcFrame] } }, _, rfl,
      by decide +kernel, by decide +kernel, by decide +kernel⟩,
    ⟨0, (on [(F.PORT_STATUS_LINK_UP, 0, 1), (F.PORT_SYNCE_CFG_ESMC_TX, 0, 2)]), by decide +kernel⟩,
    ⟨0, 0, esmcFrame, (on [(F.PORT_STATUS_LINK_UP, 0, 1)]), by decide +kernel⟩,
    ⟨0, 0, desc0, { (on [(F.PORT_STATUS_LINK_UP, 0, 1)]) with hs := { ready := [desc0] } }, by decide +kernel⟩,
    ⟨0, false, 0, esmcFrame, (on [(F.BR_STATUS_STATE, 0, 3)]), by decide +kernel⟩,
    ⟨0, 0, desc0, { (on [(F.PORT_STATUS_LINK_UP, 0, 1)]) with hs := { cues := [desc0] } }, by decide +kernel⟩⟩

theorem wit_ServiceCommandsComplete :
    (∃ (p : Fin 8) (r : RxFrame) (s s' : State), s.takeRx (RxFrame.forServer p 0xC) = some (r, s')) ∧
    (∃ (p : Fin 8) (w : TwoStep) (m : Ptp) (s : State), s.sv.waiting.find? (fun w => w.port == p.val) = some w ∧
      w.dst.body = .ptp m ∧ s.partState uPTPSRV = svSERVING ∧ s.linkUp p = true) ∧
    (∃ (p : Fin 8) (r : RxFrame) (m : Ptp) (s s' : State), s.takeRx (RxFrame.forServer p 1) = some (r, s') ∧ r.frame.body
      = .ptp m ∧ s'.turnedAway uPTPSRV r.gen = false ∧ s'.svRd F.SVC_PORT_CFG_P2P p ≠ 1 ∧ (s'.admits r m).2 = true) ∧
    (∃ (p : Fin 8) (pcs : Int) (r : RxFrame) (m : Ptp) (s s' : State), s.takeRx (RxFrame.forServer p 2) = some (r, s') ∧
      r.frame.body = .ptp m ∧ s'.turnedAway uPTPSRV r.gen = false ∧ s'.svRd F.SVC_PORT_CFG_P2P p ≠ 0 ∧ s'.svRd
      F.SVC_PORT_CFG_ONE_STEP p ≠ 1 ∧ (s'.admits r m).2 = true) ∧
    (∃ (p : Fin 8) (r : RxFrame) (m : Ptp) (s s' : State), s.takeRx (RxFrame.forServer p 0xD) = some (r, s') ∧
      r.frame.body = .ptp m ∧ s'.partState uPTPSRV = svSERVING ∧ m.peer / 2 ^ 16 = 2 ^ 64 - 1) ∧
    (∃ (p : Fin 8) (pcs : Int) (r : RxFrame) (n : Ntp) (s s' : State), s.takeRx (fun r => r.taker == 4 && r.port == p.val)
      = some (r, s') ∧ r.frame.body = .ntp n ∧ s'.svRd F.NTP_CFG_ENABLE ≠ 0 ∧ s'.turnedAway uNTPSRV r.gen = false ∧
      s'.ntpUnsync = false ∧ (s'.takeToken (Tab.find s'.sv.ntp (s'.ntpBucket r.frame)) r.time (s'.svRd
      F.NTP_LIMIT_RATE_PER_S) (max 1 (s'.svRd F.NTP_LIMIT_BURST)) unitsPerSec).2 = true ∧ s'.portMode p = 1 ∧
      (s'.svcPort p).ntpSec = s'.now / unitsPerSec ∧ (s'.svcPort p).ntpCount < 524288 ∧ s'.sv.ntpCount < 4194304) ∧
    (∃ s : State, s.rd F.SVC_TBL_STATUS_BUSY 0 ≠ 1) ∧
    (∃ s : State, s.rd F.SVC_TBL_STATUS_BUSY 0 ≠ 1 ∧ clValid (s.client (s.rd F.SVC_TBL_CTRL_INDEX 0)) = false ∧ clValid
      (storeEntry s.tblData (s.client (s.rd F.SVC_TBL_CTRL_INDEX 0))) = false) ∧
    (∃ s : State, s.rd F.SVC_TBL_STATUS_BUSY 0 ≠ 1) ∧
    (∃ (c : Nat × Nat) (s : State), s.rd F.SVC_TBL_STATUS_BUSY 0 ≠ 1 ∧ s.findClient (clKey s.tblData) = some c) ∧
    (∃ (k : Fin 16) (r : RxFrame) (m : Ptp) (s s' : State), s.takeRx (fun r => r.taker == 2 && r.servo == k.val) = some
      (r, s') ∧ r.frame.body = .ptp m ∧ (s'.servo k).master = none ∧ s'.pkState k ≠ 0 ∧ s'.pkBad k = false ∧
      s'.inService (uPK k) = true ∧ s'.pkMaster k ≠ 0 ∧ m.mtype = 0 ∧ m.twoStep = true) ∧
    (∃ (k : Fin 16) (msg : Nat) (s : State), s.pkUnicast k = true ∧ (msg = 0xB ∨ msg = 0 ∨ msg = 9) ∧ s.pkSends k = true ∧
      s.pkMaster k ≠ 0) ∧
    (∃ (k : Fin 16) (why : Fin 3) (s : State), s.pkState k = 3) :=
  ⟨⟨0, rx 3 (ptp 0xC), { State.reset with sv := { inbox := [rx 3 (ptp 0xC)] } }, _, rfl⟩,
    ⟨0, sent0, { mtype := 1 }, { (on [(F.SVC_STATUS_STATE, 0, svSERVING), (F.PORT_STATUS_LINK_UP, 0, 1)]) with
      sv := { waiting := [sent0] } }, by decide +kernel⟩,
    ⟨0, rx 3 (ptp 1), { mtype := 1 }, { (on [(F.SVC_STATUS_STATE, 0, svSERVING)]) with
      sv := { inbox := [rx 3 (ptp 1)], cfg := [(F.SVC_PORT_CFG_DREQ_RESERVE.key 0, 8), (F.SVC_PORT_CFG_MODE.key 0,
      1)] } }, _, rfl, by decide +kernel, by decide +kernel, by decide +kernel, by decide +kernel⟩,
    ⟨0, 0, rx 3 (ptp 2), { mtype := 2 }, { (on [(F.SVC_STATUS_STATE, 0, svSERVING)]) with
      sv := { inbox := [rx 3 (ptp 2)], cfg := [(F.SVC_PORT_CFG_P2P.key 0, 1), (F.SVC_PORT_CFG_ONE_STEP.key 0, 0),
      (F.SVC_PORT_CFG_MODE.key 0, 1)] } }, _, rfl, by decide +kernel, by decide +kernel, by decide +kernel,
      by decide +kernel, by decide +kernel⟩,
    ⟨0, rx 3 (ptp 0xD), { mtype := 0xD, peer := (2 ^ 64 - 1) * 2 ^ 16 }, { (on [(F.SVC_STATUS_STATE, 0, svSERVING)]) with
      sv := { inbox := [rx 3 (ptp 0xD)] } }, _, rfl, by decide +kernel, by decide +kernel, by decide +kernel⟩,
    ⟨0, 0, rx 4 ntpFrame, {},
      { (on [(F.SVC_STATUS_STATE, 0, svSERVING), (F.PORT_CFG_MODE, 0, 1), (F.SVC_STATUS_CLASS_ROW, 0, 4), (F.TIME_UTC_VALID, 0, 1)]) with
      sv := { inbox := [rx 4 ntpFrame], cfg := [(F.NTP_CFG_ENABLE.key 0, 1)], ntp := [(0,
      { tokens := 2 ^ 60, at_ := 0 })] } }, _, rfl, by decide +kernel, by decide +kernel, by decide +kernel,
      by decide +kernel, by decide +kernel, by decide +kernel, by decide +kernel, by decide +kernel,
      by decide +kernel⟩,
    ⟨State.reset, by decide +kernel⟩,
    ⟨State.reset, by decide +kernel⟩,
    ⟨State.reset, by decide +kernel⟩,
    ⟨(0, 2 ^ 511), { State.reset with sv := { table := [(0, 2 ^ 511)] } }, by decide +kernel⟩,
    ⟨0, { rx 2 (ptp2step) with servo := 0 }, { twoStep := true },
      { (on [(F.PK_STATUS_STATE, 0, 1)]) with pk := [(0, { cfg := [(F.PK_MASTER_ADDR.key 0, 5)] })], sv := { inbox := [rx
      2 ptp2step] } }, _, rfl, by decide +kernel, by decide +kernel, by decide +kernel, by decide +kernel,
      by decide +kernel, by decide +kernel, by decide +kernel, by decide +kernel⟩,
    ⟨0, 0xB, { (on [(F.PK_STATUS_STATE, 0, 1), (F.PEER_STRAPS_SOLE, 0, 1), (F.PORT_STATUS_LINK_UP, 0, 1)]) with pk := [(0,
      { cfg := [(F.PK_MASTER_ADDR.key 0, 5), (F.PK_CFG_UNICAST.key 0, 1)] })] }, by decide +kernel⟩,
    ⟨0, 0, (on [(F.PK_STATUS_STATE, 0, 3)]), by decide +kernel⟩⟩

theorem wit_HostCommandsComplete :
    (∃ (speed width : Nat) (s : State), s.hs.perst = false ∧ s.stage ≠ 0 ∧ s.hs.l0 = false ∧ s.inService uPCIE = true) ∧
    (∃ s : State, s.hs.l0 = true) ∧
    (∃ (v : Fin 16) (s : State), s.vfOn v = true) ∧
    (∃ s : State, s.hs.l0 = true) ∧
    (∃ (v : Fin 16) (at_ : Nat) (s : State), (v = 0 ∨ s.vfOn v = true)) ∧
    (∃ (v : Fin 16) (value : Nat) (s : State), s.vfOn v = true ∧ bitsOf value 31 1 = 0) ∧
    (∃ (v : Fin 16) (value : Nat) (s : State), s.vfOn v = true ∧ bitsOf value 31 1 = 1 ∧ s.reel? (200 + v) = none ∧ 4 ≤
      bitsOf value 16 5 ∧ bitsOf value 16 5 ≤ max 4 (min 16 (s.rd F.HOST_VF_CFG_EVT_MAX_LOG v)) ∧ s.rd
      F.VF_EVT_ADDR_ADDR (2 * v) % 4096 = 0) ∧
    (∃ (v : Fin 16) (value : Nat) (s : State), s.vfOn v = true ∧ (s.reel? (200 + v)).isSome = true) ∧
    (∃ (v : Fin 16) (value : Nat) (s : State), s.vfOn v = true ∧ (s.reel? (200 + v)).isSome = true) :=
  ⟨⟨4, 16, { stage1 with hs := { perst := false } }, by decide +kernel⟩,
    ⟨{ State.reset with hs := { l0 := true } }, by decide +kernel⟩,
    ⟨1, (on [(F.HOST_STATUS_NUM_VF, 0, 15)]), by decide +kernel⟩,
    ⟨{ State.reset with hs := { l0 := true } }, by decide +kernel⟩,
    ⟨0, 0, State.reset, by decide +kernel⟩,
    ⟨1, 0, (on [(F.HOST_STATUS_NUM_VF, 0, 15)]), by decide +kernel⟩,
    ⟨1, 0x80040000, (on [(F.HOST_STATUS_NUM_VF, 0, 15)]), by decide +kernel⟩,
    ⟨1, 0, { (on [(F.HOST_STATUS_NUM_VF, 0, 15)]) with hs := { reels := [(201, { size := 16 })] } }, by decide +kernel⟩,
    ⟨1, 0, { (on [(F.HOST_STATUS_NUM_VF, 0, 15)]) with hs := { reels := [(201, { size := 16 })] } }, by decide +kernel⟩⟩

theorem wit_ReelCommandsComplete :
    (∃ (r value : Nat) (x : Reel) (s : State), s.reel? r = some x ∧ isEventReel r = false ∧ x.reason = 0 ∧ diff32 (value %
      2 ^ 32) x.fetch ≤ diff32 (value % 2 ^ 32) x.cons ∧ diff32 (value % 2 ^ 32) x.cons ≤ x.size ∧ value % 2 ^ 32 ≠
      x.prod) ∧
    (∃ (r value : Nat) (x : Reel) (s : State), s.reel? r = some x ∧ 64 ≤ r ∧ r < 128 ∧ x.reason = 0 ∧ diff32 x.written
      (value % 2 ^ 32) ≤ x.size ∧ diff32 x.prod x.fetch ≤ diff32 x.prod (value % 2 ^ 32) ∧ diff32 x.prod (value % 2 ^
      32) ≤ x.size) ∧
    (∃ (r value : Nat) (x : Reel) (s : State), s.reel? r = some x ∧ 64 ≤ r ∧ r < 128 ∧ x.reason = 0 ∧ x.written = value %
      2 ^ 32 ∧ diff32 x.prod x.fetch ≤ diff32 x.prod (value % 2 ^ 32) ∧ diff32 x.prod (value % 2 ^ 32) ≤ x.size) ∧
    (∃ (r : Nat) (f : Fetched) (x : Reel) (a : Nat × Nat) (rest : List (Nat × Nat)) (s : State), s.reel? r = some x ∧ 160
      ≤ r ∧ x.ann = a :: rest ∧ s.rd F.HOST_STATUS_D_STATE 0 ≠ 3 ∧ x.reason = 0 ∧ 1 ≤ diff32 a.1 x.fetch ∧
      x.busy.contains (x.fetch % x.size) = false) ∧
    (∃ (r : Nat) (f : Fetched) (x : Reel) (s : State), s.reel? r = some x ∧ 160 ≤ r ∧ s.rd F.HOST_STATUS_D_STATE 0 ≠ 3 ∧
      x.reason = 0 ∧ x.fetch ≠ x.rel ∧ diff32 x.rel x.fetch < 2 ^ 31) ∧
    (∃ (r b : Nat) (l : List Nat) (x : Reel) (s : State), s.reel? r = some x ∧ x.held = b :: l ∧ x.reason = 0 ∧ s.rd
      F.HOST_STATUS_D_STATE 0 ≠ 3 ∧ diff32 x.written x.cons < x.size) ∧
    (∃ (r addr : Nat) (x : Reel) (s : State), s.reel? r = some x ∧ x.reason = 0) ∧
    (∃ (r : Nat) (x : Reel) (b : RxBuf) (l : List RxBuf) (s : State), s.reel? r = some x ∧ x.bufs = b :: l ∧
      b.first.isSome = true ∧ x.records = true ∧ b.recs ≠ []) ∧
    (∃ (r : Nat) (x : Reel) (s : State), s.reel? r = some x ∧ x.armed = true ∧ 0 < x.pend ∧ x.reason = 0) :=
  ⟨⟨0, 1, { size := 16 }, { State.reset with hs := { reels := [(0, { size := 16 })] } }, by decide +kernel⟩,
    ⟨64, 0, { size := 16 }, { State.reset with hs := { reels := [(64, { size := 16 })] } }, by decide +kernel⟩,
    ⟨64, 0, { size := 16 }, { State.reset with hs := { reels := [(64, { size := 16 })] } }, by decide +kernel⟩,
    ⟨160, {}, { size := 16, ann := [(1, 0)] }, (1, 0), [], { State.reset with hs := { reels := [(160,
      { size := 16, ann := [(1, 0)] })] } }, by decide +kernel⟩,
    ⟨160, {}, { size := 16, rel := 1 }, { State.reset with hs := { reels := [(160, { size := 16, rel := 1 })] } },
      by decide +kernel⟩,
    ⟨0, 0, [], { size := 16, held := [0] }, { State.reset with hs := { reels := [(0, { size := 16, held := [0] })] } },
      by decide +kernel⟩,
    ⟨0, 4096, { size := 16 }, { State.reset with hs := { reels := [(0, { size := 16 })] } }, by decide +kernel⟩,
    ⟨64, { size := 16, records := true, bufs := [buf0] }, buf0, [], { State.reset with hs := { reels := [(64,
      { size := 16, records := true, bufs := [buf0] })] } }, by decide +kernel⟩,
    ⟨0, { size := 16, pend := 1 }, { State.reset with hs := { reels := [(0, { size := 16, pend := 1 })] } },
      by decide +kernel⟩⟩

theorem wit_AdminCommandsComplete :
    (∃ (a : Fin 2) (value : Nat) (x : Reel) (s : State), s.reel? (160 + a) = some x ∧ x.reason ≠ 0 ∧ bitsOf value 31 1 =
      0) ∧
    (∃ (a : Fin 2) (value : Nat) (s : State), s.reel? (160 + a) = none ∧ bitsOf value 31 1 = 1 ∧ s.hostReady = true ∧
      s.inService uPCIE = true ∧ 4 ≤ bitsOf value 0 4 ∧ bitsOf value 0 4 ≤ 12 ∧ s.ringAddr F.ADMIN_SQ_LO_ADDR
      F.ADMIN_SQ_HI_ADDR a % 4096 = 0 ∧ s.ringAddr F.ADMIN_CQ_LO_ADDR F.ADMIN_CQ_HI_ADDR a % 4096 = 0) ∧
    (∃ (a : Fin 2) (d : TxDesc) (v : Nat) (s : State), s.adminNext a = some d ∧ d.opcode = 0x01 ∧ d.adminReserved = false
      ∧ d.param 0 = 0 ∧ (∀ r ∈ s.reelNumbers, 160 ≤ r) ∧ highestOf (d.param 1) [1, 2] = some v) ∧
    (∃ (a : Fin 2) (d : TxDesc) (r : Nat) (s : State), s.adminNext a = some d ∧ d.opcode = 0x02 ∧ d.adminReserved = false
      ∧ reelOf (d.param 0) = some r ∧ bitsOf (d.param 6) 0 8 ≤ 127 ∧ (r < 128 → (d.param 2 + d.param 3 * 2 ^ 32) %
      4096 = 0 ∧ (s.hs.formats.find r).isSome = true) ∧ (d.param 4 + d.param 5 * 2 ^ 32) % 4096 = 0 ∧ sizeOk (d.param
      1) = true ∧ s.reel? r = none) ∧
    (∃ (a : Fin 2) (d : TxDesc) (r : Nat) (x : Reel) (s : State), s.adminNext a = some d ∧ d.opcode = 0x03 ∧
      d.adminReserved = false ∧ reelOf (d.param 0) = some r ∧ s.reel? r = some x) ∧
    (∃ (a : Fin 2) (d : TxDesc) (r : Nat) (x : Reel) (s : State), s.adminNext a = some d ∧ d.opcode = 0x04 ∧
      d.adminReserved = false ∧ reelOf (d.param 0) = some r ∧ s.reel? r = some x ∧ bitsOf (d.param 1) 0 8 ≤ 127) ∧
    (∃ (a : Fin 2) (d : TxDesc) (x : RecRead) (s : State), s.adminNext a = some d ∧ d.opcode = 0x06 ∧ d.adminReserved =
      false ∧ recExists (d.param 0) (d.param 1) = true ∧ (s.readRecord (d.param 0) (d.param 1)).2 = some x ∧
      x.payload.length ≤ bitsOf d.bits 352 32) ∧
    (∃ (a : Fin 2) (d : TxDesc) (r : RecType) (bs : List Nat) (s : State), s.adminNext a = some d ∧ d.opcode = 0x07 ∧
      d.adminReserved = false ∧ recType (d.param 0) = some r ∧ d.param 1 < r.instances ∧ s.mayWrite (d.param 0) = true
      ∧ bitsOf d.bits 352 32 ≤ r.maxLen ∧ s.commitBusy (d.param 0) (d.param 1) = false) ∧
    (∃ (a : Fin 2) (d : TxDesc) (s : State), s.adminNext a = some d ∧ d.opcode = 0x08 ∧ d.adminReserved = false ∧ d.param
      0 = 0x8416) ∧
    (∃ s : State, s.hs.resetDue = some 4) ∧
    (∃ (a : Fin 2) (d : TxDesc) (s : State), s.adminNext a = some d ∧ d.opcode = 0x09 ∧ d.adminReserved = false ∧ bitsOf
      d.bits 496 1 = 0 ∧ s.isSole = false ∧ s.pr.everNegotiated = true ∧ s.pr.switch = none ∧ s.pairState = psSTANDBY
      ∧ s.linkState = lkUP) ∧
    (∃ (a : Fin 2) (d : TxDesc) (r : Nat) (x : Reel) (s : State), s.adminNext a = some d ∧ d.opcode = 0x0A ∧
      d.adminReserved = false ∧ s.rd F.HOST_STATUS_ADMIN_VER 0 = 2 ∧ reelOf (d.param 0) = some r ∧ s.reel? r = some x) ∧
    (∃ (a : Fin 2) (d : TxDesc) (r : Nat) (x : Reel) (s : State), s.adminNext a = some d ∧ d.opcode = 0x0B ∧
      d.adminReserved = false ∧ s.rd F.HOST_STATUS_ADMIN_VER 0 = 2 ∧ reelOf (d.param 0) = some r ∧ r < 128 ∧ s.reel? r
      = some x ∧ x.reason = 0 ∧ (∀ y, (s.cancelWork r).reel? r = some y → y.held = []) ∧ ((s.cancelWork r).reel?
      r).isSome = true) ∧
    (∃ (a : Fin 2) (r n : Nat) (x : Reel) (s : State), (s.hs.drains.find? fun d => d.2.1 == a.val) = some (r, a.val, n) ∧
      s.reel? r = some x) ∧
    (∃ (a : Fin 2) (d : TxDesc) (s : State), s.adminNext a = some d ∧ s.opcodeKnown d.opcode = false) :=
  ⟨⟨0, 0, { size := 16, reason := 1 }, { State.reset with hs := { reels := [(160, { size := 16, reason := 1 })] } },
      by decide +kernel⟩,
    ⟨0, 0x80000004, { stage1 with hs := { l0 := true } }, by decide +kernel⟩,
    ⟨0, (command 1 [0, 2]), 1, (withCmd (command 1 [0, 2]) State.reset), by decide +kernel⟩,
    ⟨0, (command 2 [0, 16]), 0, (withCmd (command 2 [0, 16]) { State.reset with hs := { formats := [(0, 1)] } }),
      by decide +kernel⟩,
    ⟨0, (command 3 [0]), 0, { size := 16 }, (withCmd (command 3 [0]) hasReel0), by decide +kernel⟩,
    ⟨0, (command 4 [0, 5]), 0, { size := 16 }, (withCmd (command 4 [0, 5]) hasReel0), by decide +kernel⟩,
    ⟨0, (command 6 [rtHOST, 0]), { payload := [], seq := 1 }, (withCmd (command 6 [rtHOST, 0]) hosted), by decide +kernel⟩,
    ⟨0, (command 7 [rtHOST, 0]), ⟨8, 4064, 374, 16, true, true⟩, [], (withCmd (command 7 [rtHOST, 0]) State.reset),
      by decide +kernel⟩,
    ⟨0, (command 8 [0x8416]), (withCmd (command 8 [0x8416]) State.reset), by decide +kernel⟩,
    ⟨{ State.reset with hs := { resetDue := some 4 } }, by decide +kernel⟩,
    ⟨0, (command 9 []), (withCmd (command 9 []) paired), by decide +kernel⟩,
    ⟨0, (command 10 [0]), 0, { size := 16 }, (withCmd (command 10 [0]) { hasReel0 with regs := (on
      [(F.HOST_STATUS_ADMIN_VER, 0, 2)]).regs }), by decide +kernel⟩,
    ⟨0, (command 11 [0]), 0, { size := 16 }, (withCmd (command 11 [0]) { hasReel0 with regs := (on
      [(F.HOST_STATUS_ADMIN_VER, 0, 2)]).regs }), by decide +kernel⟩,
    ⟨0, 0, 0, { size := 16 }, { State.reset with hs := { reels := [(0, { size := 16 })], drains := [(0, 0, 0)] } },
      by decide +kernel⟩,
    ⟨0, (command 99 []), (withCmd (command 99 []) State.reset), by decide +kernel⟩⟩

theorem wit_ClaimAndSwitchCommandsComplete :
    (∃ (code : Fin 4) (s : State), s.isSole = false ∧ s.rd F.PEER_STATUS_CLAIM_IN 0 ≠ code) ∧
    (∃ s : State, s.pairState = psCLAIMING ∧ s.pr.slotDelay = true ∧ s.claimRead = false) ∧
    (∃ s : State, s.pairState = psCLAIMING ∧ s.pr.confirm = true ∧ s.pr.conflictHold = false ∧ s.claimRead = false) ∧
    (∃ s : State, s.pairState = psCLAIMING ∧ s.pr.conflictHold = true ∧ s.claimRead = true) ∧
    (∃ (r : Recipe) (s : State), s.isStandby = true ∧ s.dpSt s.timeDpll = 3 ∧ (s.dpll s.timeDpll).recipe = some r ∧ r.root
      = s.peerRd F.PEER_CFG_STANDBY_ROOT ∧ (s.dpll s.timeDpll).eBar = 0) ∧
    (∃ s : State, s.isSole = false ∧ s.pr.everNegotiated = true ∧ s.pr.switch = none ∧ s.pairState = psSTANDBY ∧
      s.linkState = lkUP) ∧
    (∃ s : State, s.isSole = false ∧ s.pr.switch = none ∧ s.pairState = psSTANDBY ∧ s.linkState = lkUP) ∧
    (∃ (fr : Hl) (ident : Nat) (s : State), (s.hallwayTake fr 3).2 = true ∧ s.linked = true ∧ s.pairState = psACTIVE ∧
      s.pr.switch = none ∧ s.switchReady = true) ∧
    (∃ (fr : Hl) (ident ts : Nat) (s : State), (s.hallwayTake fr 4).2 = true ∧ s.linked = true ∧ s.pairState ≠ psACTIVE) ∧
    (∃ (fr : Hl) (w : SwitchReq) (s : State), (s.hallwayTake fr 5).2 = true ∧ s.linked = true ∧ s.pr.switch = some w ∧
      w.shut = false ∧ w.reply = none) ∧
    (∃ (w : SwitchReq) (s : State), s.pr.switch = some w ∧ w.shut = true ∧ w.handover.isSome = true ∧ s.pairState =
      psACTIVE) ∧
    (∃ (w : SwitchReq) (s : State), s.pr.switch = some w ∧ w.handover.isSome = true ∧ w.reply = none) :=
  ⟨⟨1, State.reset, by decide +kernel⟩,
    ⟨{ (on [(F.PEER_STATUS_PAIR_STATE, 0, psCLAIMING)]) with pr := { slotDelay := true } }, by decide +kernel⟩,
    ⟨{ (on [(F.PEER_STATUS_PAIR_STATE, 0, psCLAIMING)]) with pr := { confirm := true } }, by decide +kernel⟩,
    ⟨{ (on [(F.PEER_STATUS_PAIR_STATE, 0, psCLAIMING), (F.PEER_STATUS_CLAIM_IN, 0, 1)]) with
      pr := { conflictHold := true } }, by decide +kernel⟩,
    ⟨{ recipe0 with root := 41 }, { (on [(F.PEER_STATUS_PAIR_STATE, 0, psSTANDBY), (F.DP_STATUS_STATE, 0, 3)]) with
      dp := [(0, { recipe := some { recipe0 with root := 41 } })] }, by decide +kernel⟩,
    ⟨paired, by decide +kernel⟩,
    ⟨paired, by decide +kernel⟩,
    ⟨{}, 0, { switchable with pr := { partnerAligned := true } }, by decide +kernel⟩,
    ⟨{}, 0, 0, (lanes [(F.PEER_STATUS_LINK_STATE, 0, lkUP)]), by decide +kernel⟩,
    ⟨{}, { ident := 0, origin := 2, force := false, handover := none, shut := false, reply := none },
      { (lanes [(F.PEER_STATUS_LINK_STATE, 0, lkUP)]) with
      pr := { switch := some { ident := 0, origin := 2, force := false, handover := none, shut := false, reply := none } } },
      by decide +kernel⟩,
    ⟨{ ident := 0, origin := 2, force := false, handover := some 0, shut := true, reply := none },
      { (on [(F.PEER_STATUS_PAIR_STATE, 0, psACTIVE)]) with
      pr := { switch := some { ident := 0, origin := 2, force := false, handover := some 0, shut := true, reply := none } } },
      by decide +kernel⟩,
    ⟨{ ident := 0, origin := 2, force := false, handover := some 0, shut := false, reply := none }, { State.reset with
      pr := { switch := some { ident := 0, origin := 2, force := false, handover := some 0, shut := false, reply := none } } },
      by decide +kernel⟩⟩

theorem wit_HallwayCommandsComplete :
    (∃ (l : Fin 2) (s : State), s.hallwayOn = true ∧ s.laneUp 0 = false ∧ s.laneUp 1 = false) ∧
    (∃ (l : Fin 2) (s : State), s.laneUp 0 = true ∧ s.laneUp 1 = true) ∧
    (∃ s : State, s.linkState = lkNEGOTIATING ∧ s.hallwayOn = true ∧ (s.laneUp 0 = true ∨ s.laneUp 1 = true)) ∧
    (∃ (fr : Hl) (h : Hello) (s : State), (s.hallwayTake fr 0).2 = true ∧ s.linkState = lkNEGOTIATING ∧ s.helloFails h =
      0) ∧
    (∃ s : State, s.linked = true ∧ s.hallwayOn = true ∧ (s.laneUp 0 = true ∨ s.laneUp 1 = true)) ∧
    (∃ (fr : Hl) (h : Heartbeat) (s : State), (s.hallwayTake fr 1).2 = true ∧ s.linkState = lkUP ∧ s.pr.switch = none) ∧
    (∃ s : State, s.isSole = false ∧ s.rd F.PEER_STATUS_HB_CURRENT 0 = 1) ∧
    (∃ (fr : Hl) (m : TimeMsg) (d τ : Int) (s : State), (s.hallwayTake fr 2).2 = true ∧ s.linked = true ∧ s.isStandby =
      true ∧ s.partnerPulse m.seconds = some (d, τ) ∧ s.pr.timeRun.run = 0 ∧ 2 ≤ s.peerRd F.PEER_CFG_CONFIRM) ∧
    (∃ (fr : Hl) (i w : Nat) (s : State), (s.hallwayTake fr 6).2 = true ∧ s.linked = true ∧ 2 ≤ s.rd F.PEER_STATUS_VERSION
      0 ∧ s.pairState ≠ psACTIVE ∧ i < 16384) ∧
    (∃ (fr : Hl) (d : Nat) (s : State), (s.hallwayTake fr 7).2 = true ∧ s.linked = true ∧ 3 ≤ s.rd F.PEER_STATUS_VERSION
      0) :=
  ⟨⟨0, stage1, by decide +kernel⟩,
    ⟨0, (lanes []), by decide +kernel⟩,
    ⟨(lanes [(F.PEER_STATUS_LINK_STATE, 0, lkNEGOTIATING)]), by decide +kernel⟩,
    ⟨{}, hello0, (lanes [(F.PEER_STATUS_LINK_STATE, 0, lkNEGOTIATING)]), by decide +kernel⟩,
    ⟨(lanes [(F.PEER_STATUS_LINK_STATE, 0, lkUP)]), by decide +kernel⟩,
    ⟨{}, ⟨0, 0, 0, 0, 0, 0, 0, 0, 0⟩, (lanes [(F.PEER_STATUS_LINK_STATE, 0, lkUP)]), by decide +kernel⟩,
    ⟨(on [(F.PEER_STATUS_HB_CURRENT, 0, 1)]), by decide +kernel⟩,
    ⟨{}, ⟨0, 0, 0, false, false, false⟩, 0, 0, { (lanes [(F.PEER_STATUS_LINK_STATE, 0, lkUP)]) with td := { chan := [(24,
      { pulses := [(0, 0)] })] } }, by decide +kernel⟩,
    ⟨{}, 0, 0, (lanes [(F.PEER_STATUS_LINK_STATE, 0, lkUP), (F.PEER_STATUS_VERSION, 0, 2)]), by decide +kernel⟩,
    ⟨{}, 0, (lanes [(F.PEER_STATUS_LINK_STATE, 0, lkUP), (F.PEER_STATUS_VERSION, 0, 3)]), by decide +kernel⟩⟩

theorem wit_FaultCommandsComplete :
    (∃ (source : Fin 53) (unit a b : Nat) (s : State), source ≠ 0) ∧
    (∃ (source : Fin 53) (unit : Nat) (s : State), source ≠ 0 ∧ s.flt.broken.contains (source.val, unit) = false) ∧
    (∃ (source : Fin 53) (unit : Nat) (s : State), source ≠ 0 ∧ s.flt.injectBroken = none) ∧
    (∃ (addr : Nat) (s : State), s.flt.onceThisEpoch.contains (48 * 65536 + uMODULE) = false) ∧
    (∃ (k : Fin 256) (l : Latch) (e : Nat) (s : State), Tab.find s.flt.latches k = some l ∧ l.graceEnd = some e ∧ s.now ≤
      e) ∧
    (∃ (k : Fin 256) (l : Latch) (e : Nat) (s : State), Tab.find s.flt.latches k = some l ∧ l.graceEnd = some e) ∧
    (∃ (r : Reaction) (s : State), (s.oldestReaction fun r => !r.applied) = some r ∧ r.action = 4 ∧ r.shutter = false) ∧
    (∃ (r : Reaction) (s : State), (s.oldestReaction fun r => !r.applied) = some r ∧ r.action = 0 ∧ r.shutter = false) ∧
    (∃ (r : Reaction) (s : State), (s.oldestReaction fun r => r.applied && r.action != 4 && (unitLeaves r.names).all fun u
      => !s.isResetting u) = some r) ∧
    (∃ s : State, s.errFault = false ∧ s.rd F.FLT_CFG_HEARTBEAT 0 = 1) ∧
    (∃ s : State, s.testMode = true ∧ isFaultSource (s.rd F.FLT_INJECT_SEL_SOURCE 0) = true) ∧
    (∃ s : State, s.testMode = true ∧ isFaultSource (s.rd F.FLT_INJECT_SEL_SOURCE 0) = true ∧ s.flt.injectBroken = none) :=
  ⟨⟨1, 0, 0, 0, State.reset, by decide +kernel⟩,
    ⟨12, 0x0610, State.reset, by decide +kernel⟩,
    ⟨12, 0x0610, State.reset, by decide +kernel⟩,
    ⟨0, State.reset, by decide +kernel⟩,
    ⟨0, ⟨12, 0, 1, false, false, false, 1, 0, 0, some 100, 0, none⟩, 100, { State.reset with flt := { latches := [(0, ⟨12,
      0, 1, false, false, false, 1, 0, 0, some 100, 0, none⟩)] } }, by decide +kernel⟩,
    ⟨0, ⟨12, 0, 1, false, false, false, 1, 0, 0, some 100, 0, none⟩, 100, { State.reset with flt := { latches := [(0, ⟨12,
      0, 1, false, false, false, 1, 0, 0, some 100, 0, none⟩)] } }, by decide +kernel⟩,
    ⟨(react 4 false), { State.reset with flt := { reactions := [(react 4 false)] } }, by decide +kernel⟩,
    ⟨(react 0 false), { State.reset with flt := { reactions := [(react 0 false)] } }, by decide +kernel⟩,
    ⟨(react 1 true), { State.reset with flt := { reactions := [(react 1 true)] } }, by decide +kernel⟩,
    ⟨(on [(F.FLT_CFG_HEARTBEAT, 0, 1)]), by decide +kernel⟩,
    ⟨(on [(F.IDENT_FUSE_TEST_MODE, 0, 1), (F.FLT_INJECT_SEL_SOURCE, 0, 12)]), by decide +kernel⟩,
    ⟨(on [(F.IDENT_FUSE_TEST_MODE, 0, 1), (F.FLT_INJECT_SEL_SOURCE, 0, 12)]), by decide +kernel⟩⟩

theorem wit_AtticCommandsComplete :
    (∃ (us : Nat) (q : AtticReq) (l : List AtticReq) (r : RecType) (s : State), s.at_.port = q :: l ∧ recType q.rtype =
      some r ∧ q.repair = 0) ∧
    (∃ (x : RecRead) (s : State), recExists (s.rd F.ATTIC_MB_CTRL_TYPE 0) (s.rd F.ATTIC_MB_CTRL_INSTANCE 0) = true ∧
      (s.readRecord (s.rd F.ATTIC_MB_CTRL_TYPE 0) (s.rd F.ATTIC_MB_CTRL_INSTANCE 0)).2 = some x) ∧
    (∃ (r : RecType) (s : State), recType (s.rd F.ATTIC_MB_CTRL_TYPE 0) = some r ∧ s.rd F.ATTIC_MB_CTRL_INSTANCE 0 <
      r.instances ∧ s.mayWrite (s.rd F.ATTIC_MB_CTRL_TYPE 0) = true ∧ s.rd F.ATTIC_MB_LEN_LENGTH 0 ≤ r.maxLen ∧
      s.at_.port = []) ∧
    (∃ s : State, 1 ≤ s.rd F.ATTIC_MB_LEN_LENGTH 0 ∧ s.rd F.ATTIC_MB_LEN_START 0 + s.rd F.ATTIC_MB_LEN_LENGTH 0 ≤ 256 ∧
      1160 ≤ s.rd F.ATTIC_MB_ADDR_PAGE 0 ∧ s.rd F.ATTIC_MB_ADDR_PAGE 0 ≤ 1535) ∧
    (∃ s : State, s.at_.logHeld ≠ []) ∧
    (∃ s : State, s.rd F.POWER_STATUS_RAILS_GOOD 0 = 1) :=
  ⟨⟨100, ⟨rtHOST, 0, [1, 2], 0, 0, 0, 0⟩, [], ⟨8, 4064, 374, 16, true, true⟩, { State.reset with
      at_ := { port := [⟨rtHOST, 0, [1, 2], 0, 0, 0, 0⟩] } }, by decide +kernel⟩,
    ⟨{ payload := [], seq := 1 }, (hosted.wr F.ATTIC_MB_CTRL_TYPE 0 rtHOST), by decide +kernel⟩,
    ⟨⟨8, 4064, 374, 16, true, true⟩, (on [(F.ATTIC_MB_CTRL_TYPE, 0, rtHOST), (F.ATTIC_MB_LEN_LENGTH, 0, 4064)]),
      by decide +kernel⟩,
    ⟨(on [(F.ATTIC_MB_LEN_LENGTH, 0, 256), (F.ATTIC_MB_ADDR_PAGE, 0, 1160)]), by decide +kernel⟩,
    ⟨{ State.reset with at_ := { logHeld := [0] } }, by decide +kernel⟩,
    ⟨(on [(F.POWER_STATUS_RAILS_GOOD, 0, 1)]), by decide +kernel⟩⟩

theorem wit_AccessCommandsComplete :
    (∃ (b : Fin 4) (block i : Nat) (w : WideItem) (s : State), (s.wideSel b 0 block i).wideItem b block i = some w) ∧
    (∃ (m : Fin 20) (b block i : Nat) (w : WideItem) (s : State), bankOf m = some b ∧ (s.wideSel b 1 block i).wideItem b
      block i = some w ∧ w.rw = true ∧ s.smbMasked m block = false ∧ s.notOwned m block = false ∧ w.fits (s.wideData
      b) = true ∧ (block = 0x09 → i = 2 → t96Legal (s.wideData b) = true)) ∧
    (∃ (sa : Nat) (data : List Nat) (pec : Option Nat) (s : State), s.smbHere sa = true ∧ data.length = 8 ∧ (∀ x, pec =
      some x → x = smbPec ([sa * 2, 0x10, 8] ++ data)) ∧ s.at_.port = []) ∧
    (∃ (sa n : Nat) (data : List Nat) (pec : Option Nat) (s : State), s.smbHere sa = true ∧ 1 ≤ n ∧ n ≤ 8 ∧ data.length =
      4 + 4 * n ∧ (∀ x, pec = some x → x = smbPec ([sa * 2, 0x11, 4 + 4 * n] ++ data)) ∧ s.at_.port = []) ∧
    (∃ (sa : Nat) (data : List Nat) (s : State), s.smbHere sa = true ∧ data.length = 5 ∧ 1 ≤ data.getD 4 0 ∧ data.getD 4 0
      ≤ 8 ∧ (s.cp.queue.any fun w => w.master == 16) = false) ∧
    (∃ (sa code : Nat) (s : State), s.smbHere sa = true ∧ code ≠ 0x10 ∧ code ≠ 0x11 ∧ code ≠ 0x20) ∧
    (∃ (pins shift : List Bool) (s : State), s.testMode = true ∧ s.portOpen = true) ∧
    (∃ (pins shift : List Bool) (s : State), s.portOpen = true) ∧
    (∃ s : State, s.portOpen = true) ∧
    (∃ (a v : Nat) (s : State), s.portOpen = true ∧ s.rd F.IDENT_FUSE_FUSE_BUSY 0 = 0) ∧
    (∃ (code : Nat) (shift : List Bool) (s : State), s.portOpen = true) ∧
    (∃ (m : Fin 20) (s : State), s.rd F.IDENT_FUSE_FUSE_BUSY 0 = 0 ∧ s.fuseIntact = true ∧ s.rd F.IDENT_FUSE_TEST_EN 0 =
      1) ∧
    (∃ s : State, s.rd F.IDENT_FUSE_FUSE_BUSY 0 = 0 ∧ s.testMode = true) ∧
    (∃ s : State, s.rd F.IDENT_FUSE_FUSE_BUSY 0 = 1) :=
  ⟨⟨0, 0x09, 2, _, State.reset, rfl⟩,
    ⟨0, 0, 0x09, 2, _, State.reset, by decide +kernel, rfl, by decide +kernel, by decide +kernel, by decide +kernel,
      by decide +kernel, by decide +kernel⟩,
    ⟨0x60, [0, 0, 0, 0, 0, 0, 0, 0], none, (on [(F.CLK_STAGE_STATUS_STAGE, 0, 1), (F.GLOBAL_STRAPS_SMB_ADDR, 0, 0x60)]),
      by decide +kernel⟩,
    ⟨0x60, 1, [0, 0, 0, 0, 0, 0, 0, 0], none, (on [(F.CLK_STAGE_STATUS_STAGE, 0, 1), (F.GLOBAL_STRAPS_SMB_ADDR, 0,
      0x60)]), by decide +kernel⟩,
    ⟨0x60, [0, 0, 0, 0, 8], (on [(F.CLK_STAGE_STATUS_STAGE, 0, 1), (F.GLOBAL_STRAPS_SMB_ADDR, 0, 0x60)]),
      by decide +kernel⟩,
    ⟨0x60, 0, (on [(F.CLK_STAGE_STATUS_STAGE, 0, 1), (F.GLOBAL_STRAPS_SMB_ADDR, 0, 0x60)]), by decide +kernel⟩,
    ⟨[true], [false], (on [(F.CLK_STAGE_STATUS_STAGE, 0, 1), (F.IDENT_FUSE_TEST_MODE, 0, 1)]), by decide +kernel⟩,
    ⟨[true], [false], stage1, by decide +kernel⟩,
    ⟨stage1, by decide +kernel⟩,
    ⟨0, 0, stage1, by decide +kernel⟩,
    ⟨0xFF, [true], stage1, by decide +kernel⟩,
    ⟨0, (on [(F.IDENT_FUSE_TEST_EN, 0, 1)]), by decide +kernel⟩,
    ⟨(on [(F.IDENT_FUSE_TEST_MODE, 0, 1)]), by decide +kernel⟩,
    ⟨(on [(F.IDENT_FUSE_FUSE_BUSY, 0, 1)]), by decide +kernel⟩⟩

/-! Witnesses of the other statements. -/

/-- The front of a queue, an ordinary state. -/
def queued : State := { hosted with pending := [.feedSample 0 48000 2000 false, .commitTick] }

theorem wit_StepIdles : ∃ s : State, s.pending = [] := ⟨State.reset, rfl⟩

theorem wit_InvariantKept : ∃ s t : State, Tab.sorted s.regs = true ∧ MemoryWf s = true ∧ step s = .next t :=
  ⟨queued, _, by decide +kernel, by decide +kernel, rfl⟩

theorem wit_RunsDrainTheQueue : ∃ s : State, Tab.sorted s.regs = true ∧ MemoryWf s = true ∧ s.pending.length = 2 :=
  ⟨queued, by decide +kernel⟩

/-- The frames: every command answers a next state after reset, whatever its operands. -/
theorem wit_frames (c : Instr) : ∃ t, exec c State.reset = .next t := by
  cases c <;> exact ⟨_, rfl⟩

theorem wit_TicksEpochsAndReadsFrames :
    (∃ s t : State, s.cp.queue = [] ∧ s.tm.running = true ∧ exec .commitTick s = .next t) ∧
    (∃ s t : State, s.cp.queue = [] ∧ exec .provisionalTick s = .next t) ∧
    (∃ s t : State, s.cp.queue = [] ∧ s.ep.effects = [] ∧ s.tm.stepEpoch = false ∧ s.tm.ordered = none ∧
      exec .decisionEpoch s = .next t) ∧
    (∃ s t : State, s.cp.queue = [] ∧ s.ep.effects = [] ∧ exec .provisionalEpoch s = .next t) ∧
    (∃ s t : State, (s.cp.queue.any fun w => w.master == 16) = false ∧ exec (.smbBlockRead 0x60 4 [0, 0, 0, 0]) s = .next t) ∧
    (∃ s t : State, (s.cp.queue.any fun w => w.master == 18) = false ∧ exec (.regacc false 0 0) s = .next t) :=
  ⟨⟨running, _, rfl, rfl, rfl⟩, ⟨State.reset, _, rfl, rfl⟩, ⟨running, _, rfl, rfl, rfl, rfl, rfl⟩, ⟨stage1, _, rfl, rfl, rfl⟩,
    ⟨stage1, _, rfl, rfl⟩, ⟨stage1, _, rfl, rfl⟩⟩

/-- A commit request of a host record of two bytes. -/
def request : AtticReq := ⟨rtHOST, 0, [1, 2], 0, 0, 0, 0⟩
def requested : State := { hosted with at_ := { hosted.at_ with port := [request] } }

theorem wit_AtticStores :
    (∃ (a : Nat) (s t : State), exec .atticMbRawWrite s = .next t ∧ s.rd F.ATTIC_MB_LEN_START 0 < 256 ∧
      ∀ k < s.rd F.ATTIC_MB_LEN_LENGTH 0, a ≠ 256 * s.rd F.ATTIC_MB_ADDR_PAGE 0 + (s.rd F.ATTIC_MB_LEN_START 0 + k) % 256) ∧
    (∃ (a : Nat) (s t : State), exec .logPageWrite s = .next t ∧ a < logAddr (s.rd F.ATTIC_LOG_STATUS_NEXT_PAGE 0)) ∧
    (∃ (a : Nat) (s t : State), exec .logPageWrite s = .next t ∧
      logAddr (s.rd F.ATTIC_LOG_STATUS_NEXT_PAGE 0) + (logPageBytes s.at_.lap s.at_.logHeld).length ≤ a) ∧
    (∃ recs : List Nat, recs.length ≤ 7) ∧
    (∃ (a : Nat) (q : AtticReq) (l : List AtticReq) (r : RecType) (s t : State), s.at_.port = q :: l ∧
      recType q.rtype = some r ∧ q.repair = 0 ∧ exec (.atticCommitDone none 100) s = .next t ∧
      (a < copyAddr r q.inst false ∨ copyAddr r q.inst false + 32 + q.payload.length ≤ a) ∧
      (a < copyAddr r q.inst true ∨ copyAddr r q.inst true + 32 + q.payload.length ≤ a) ∧ (a < 262144 ∨ 263168 ≤ a)) :=
  ⟨⟨0, on [(F.ATTIC_MB_LEN_LENGTH, 0, 256), (F.ATTIC_MB_ADDR_PAGE, 0, 1160)], _, rfl, by decide +kernel, by decide +kernel⟩,
    ⟨0, State.reset, _, rfl, by decide +kernel⟩, ⟨2 ^ 24, State.reset, _, rfl, by decide +kernel⟩,
    ⟨[0, 1, 2, 3, 4, 5, 6], by decide⟩,
    ⟨0, request, [], ⟨8, 4064, 374, 16, true, true⟩, requested, _, rfl, rfl, rfl, rfl, by decide, by decide, by decide⟩⟩

theorem wit_ArchiveChangesOnlyThroughCommits : ∃ (c : Instr) (s t : State), c = .fullResetStart ∧ exec c s = .next t :=
  ⟨_, hosted, _, rfl, rfl⟩

/-- Two masters' writes of TREE_NODE_LINK0 of node 12 wait. -/
def twoWrites : State :=
  { running with
    cp := { queue := [{ master := 16, addr := 0x500C4, value := 5 }, { master := 0, addr := 0x500C4, value := 3 }] } }

theorem wit_WritesApplyInMasterOrder :
    (∃ s : State, s.tm.running = true ∧ s.cp.queue.length = 2 ∧ ∀ w ∈ s.cp.queue, w.master < 20) ∧
    (∃ (s : State) (a m n : Nat), m < n ∧ n < 20 ∧ s.cp.written = [(a, m), (a, n)] ∧ s.isRetired uMERGER = false ∧
      s.isIsolated uMERGER = false) ∧
    (∃ (s : State) (a m n : Nat), m < n ∧ n < 20 ∧ s.cp.written = [(a, n), (a, m)] ∧ s.isRetired uMERGER = false ∧
      s.isIsolated uMERGER = false) ∧
    (∃ (s : State) (a m : Nat), m < 20 ∧ s.cp.written = [(a, m)]) ∧
    (∃ (s : State) (a m : Nat), m < 20 ∧ s.cp.written = [(a, m), (a, m)]) :=
  ⟨⟨twoWrites, by decide +kernel⟩,
    ⟨{ running with cp := { written := [(0x500C4, 0), (0x500C4, 19)] } }, 0x500C4, 0, 19, by decide +kernel⟩,
    ⟨{ running with cp := { written := [(0x500C4, 16), (0x500C4, 0)] } }, 0x500C4, 0, 16, by decide +kernel⟩,
    ⟨{ running with cp := { written := [(0x500C4, 0)] } }, 0x500C4, 0, by decide +kernel⟩,
    ⟨{ running with cp := { written := [(0x500C4, 19), (0x500C4, 19)] } }, 0x500C4, 19, by decide +kernel⟩⟩

theorem wit_UnknownUnitsRefused :
    (∃ u, 0x0010 ≤ u ∧ u ≤ 0x001A) ∧ (∃ u, 0x0100 ≤ u ∧ unitExists u = true) ∧
    (∃ op u : Nat, unitExists u = false ∧ op ≤ 5) ∧
    (∃ (s : State) (bank : Fin 4) (u : Nat), unitExists u = false ∧ s.rd F.GLOBAL_UNIT_RESULT_BUSY bank ≠ 1) :=
  ⟨⟨0x1A, by decide⟩, ⟨0x0C11, by decide⟩, ⟨5, 0x0910, by decide⟩, ⟨State.reset, 0, 0x0C12, by decide +kernel⟩⟩

theorem wit_HeldByGroup :
    (∃ (s : State) (op u a : Nat), unitExists u = true ∧ a ∈ unitAncestors u ∧ (a ∈ s.un.retired ∨ a ∈ s.un.isolated) ∧
      (op = opRELEASE ∨ op = opUNRETIRE)) ∧
    (∃ (s : State) (bank : Fin 4) (u a : Nat), unitExists u = true ∧ a ∈ unitAncestors u ∧
      (a ∈ s.un.retired ∨ a ∈ s.un.isolated) ∧ s.rd F.GLOBAL_UNIT_RESULT_BUSY bank ≠ 1) ∧
    (∃ (s : State) (bank : Fin 4) (u : Nat), unitExists u = true ∧ 2 < u ∧
      (∀ a ∈ unitAncestors u, a ∉ s.un.retired ∧ a ∉ s.un.isolated) ∧ s.rd F.GLOBAL_UNIT_RESULT_BUSY bank ≠ 1 ∧
      u ∈ s.un.retired ∧ u ∈ s.un.resetSince ∧ s.listChange opUNRETIRE u = none) ∧
    (∃ u, unitExists u = true ∧ 2 < u) :=
  ⟨⟨{ State.reset with un := { retired := [0x10] } }, opUNRETIRE, 0x0100, 0x10, by decide +kernel⟩,
    ⟨{ State.reset with un := { isolated := [0] } }, 3, 0x0C11, 0, by decide +kernel⟩,
    ⟨{ State.reset with un := { retired := [0x0100], resetSince := [0x0100] } }, 0, 0x0100, by decide +kernel⟩,
    ⟨0x10, by decide⟩⟩

theorem wit_PairAndPartnerNotLocal :
    (∃ op u : Nat, (u = 0x0001 ∨ u = 0x0002) ∧ 1 ≤ op ∧ op ≤ 5) ∧
    (∃ (s : State) (bank : Fin 4) (u : Nat), (u = 0x0001 ∨ u = 0x0002) ∧ s.rd F.GLOBAL_UNIT_RESULT_BUSY bank ≠ 1 ∧
      ∃ p ∈ unitCommands bank u, 1 ≤ p.1) :=
  ⟨⟨5, 2, by decide⟩, ⟨State.reset, 0, 1, by decide +kernel⟩⟩

theorem wit_BaseOscillatorKept :
    (∃ (s : State) (bank : Fin 4), s.rd F.GLOBAL_UNIT_RESULT_BUSY bank ≠ 1 ∧ s.base = 2 ∧ s.tcxoQual = false) ∧
    (∃ (s : State) (bank : Fin 4), s.rd F.GLOBAL_UNIT_RESULT_BUSY bank ≠ 1 ∧ s.base = 1 ∧ s.ocxoQual = false) ∧
    (∃ (s : State) (bank : Fin 4), s.rd F.GLOBAL_UNIT_RESULT_BUSY bank ≠ 1 ∧ s.base = 1 ∧ s.ocxoQual = true ∧
      s.ocxoWarm = false) ∧
    (∃ (s : State) (bank : Fin 4) (u : Nat), s.rd F.GLOBAL_UNIT_RESULT_BUSY bank ≠ 1 ∧ u = 0x0C10 ∧ s.tcxoQual = true) ∧
    (∃ (s : State) (bank : Fin 4) (u : Nat), s.rd F.GLOBAL_UNIT_RESULT_BUSY bank ≠ 1 ∧ u = 0x0C11 ∧ s.ocxoQual = true ∧
      s.ocxoWarm = true) :=
  ⟨⟨on [(F.CLK_BASE_STATUS_BASE, 0, 2)], 0, by decide +kernel⟩, ⟨on [(F.CLK_BASE_STATUS_BASE, 0, 1)], 0, by decide +kernel⟩,
    ⟨on [(F.CLK_BASE_STATUS_BASE, 0, 1), (F.CLK_OCXO_STATUS_STATE, 0, 2)], 0, by decide +kernel⟩,
    ⟨on [(F.CLK_BASE_STATUS_BASE, 0, 2), (F.CLK_TCXO_STATUS_QUALIFIED, 0, 1)], 0, 0x0C10, by decide +kernel⟩,
    ⟨on [(F.CLK_BASE_STATUS_BASE, 0, 1), (F.CLK_OCXO_STATUS_STATE, 0, 2), (F.CLK_OCXO_STATUS_WARM, 0, 1)], 0, 0x0C11,
      by decide +kernel⟩⟩

theorem wit_MergerReleasesInKeyOrder : ∃ s t : State, exec .mergerRelease s = .next t ∧
    (∀ a ∈ s.ev.held, ∀ b ∈ s.ev.held, a.gen = b.gen) ∧ s.ev.held.length = 2 :=
  ⟨{ State.reset with ev := { held := [rec0, { rec0 with source := 65, order := 1 }] }, tm := { fine := 2 ^ 100 } }, _, rfl,
    by decide +kernel⟩

theorem wit_CommittedRecordReadsBack : ∃ (q : AtticReq) (l : List AtticReq) (r : RecType) (s t : State),
    s.at_.port = q :: l ∧ recType q.rtype = some r ∧ r.archive = true ∧ q.inst < r.instances ∧ q.payload.length ≤ r.maxLen ∧
    (∀ b ∈ q.payload, b < 256) ∧ q.repair = 0 ∧ exec (.atticCommitDone none 100) s = .next t :=
  ⟨request, [], ⟨8, 4064, 374, 16, true, true⟩, requested, _, rfl, rfl, rfl, by decide, by decide, by decide, rfl, rfl⟩

/-- Copies of a host record: in copy A with one SEQ, in copy B with another. -/
def copies (a b : Nat) (p : List Nat) : State :=
  let r : RecType := ⟨8, 4064, 374, 16, true, true⟩
  (State.reset.atticWrite (copyAddr r 0 false) (copyBytes rtHOST 0 false a 0 [])).atticWrite (copyAddr r 0 true)
    (copyBytes rtHOST 0 true b 0 p)
def copyIn (q : Nat) (c : Bool) (p : List Nat) : Option RecCopy :=
  (copies q q p).readCopy (copyAddr ⟨8, 4064, 374, 16, true, true⟩ 0 c) 4064

theorem wit_NewestCopyUsed :
    (∃ (s : State) (a : Nat), beNat (Memory.bytes s.at_.mem a 2) ≠ 0xA77C) ∧
    (∃ (s : State) (r : RecType), (s.readCopy (copyAddr r 0 false) r.maxLen).isSome ∧
      s.readCopy (copyAddr r 0 true) r.maxLen = none) ∧
    (∃ (s : State) (r : RecType), s.readCopy (copyAddr r 0 false) r.maxLen = none ∧
      (s.readCopy (copyAddr r 0 true) r.maxLen).isSome) ∧
    (∃ (s : State) (r : RecType), s.readCopy (copyAddr r 0 false) r.maxLen = none ∧
      s.readCopy (copyAddr r 0 true) r.maxLen = none) ∧
    (∃ (s : State) (r : RecType), (s.readCopy (copyAddr r 0 false) r.maxLen).any (·.seq == 2) ∧
      (s.readCopy (copyAddr r 0 true) r.maxLen).any (·.seq == 1)) ∧
    (∃ (s : State) (r : RecType), (s.readCopy (copyAddr r 0 false) r.maxLen).any (·.seq == 1) ∧
      (s.readCopy (copyAddr r 0 true) r.maxLen).any (·.seq == 2)) ∧
    (∃ (s : State) (r : RecType), (s.readCopy (copyAddr r 0 false) r.maxLen).any (·.seq == 1) ∧
      (s.readCopy (copyAddr r 0 true) r.maxLen).any (·.seq == 1)) :=
  ⟨⟨State.reset, 0, by decide +kernel⟩, ⟨hosted, ⟨8, 4064, 374, 16, true, true⟩, by decide +kernel⟩,
    ⟨State.reset.atticWrite (copyAddr ⟨8, 4064, 374, 16, true, true⟩ 0 true) (copyBytes rtHOST 0 true 1 0 []),
      ⟨8, 4064, 374, 16, true, true⟩, by decide +kernel⟩,
    ⟨State.reset, ⟨8, 4064, 374, 16, true, true⟩, by decide +kernel⟩,
    ⟨copies 2 1 [7], ⟨8, 4064, 374, 16, true, true⟩, by decide +kernel⟩,
    ⟨copies 1 2 [7], ⟨8, 4064, 374, 16, true, true⟩, by decide +kernel⟩,
    ⟨copies 1 1 [7], ⟨8, 4064, 374, 16, true, true⟩, by decide +kernel⟩⟩

/-- A settle window that names source 12, and a latch entry of it. -/
def window0 : Window := { source := 30, entry := 0, mask := 2 ^ 12, settle := 12, start := 0, stop := none }
def latch0 : Latch := ⟨12, 0, 1, false, false, false, 1, 0, 0, some 100, 0, none⟩

theorem wit_FaultsTakeLatchEntries :
    (∃ (n : Fin 53) (s : State), n ≠ 0 ∧ s.windowFor n s.now = none ∧ s.severityOf n = sevNOTE) ∧
    (∃ (n : Fin 53) (w : Window) (s : State), n ≠ 0 ∧ s.windowFor n s.now = some w ∧ s.isRetired uMERGER = false ∧
      s.isIsolated uMERGER = false) ∧
    (∃ (n : Fin 53) (u k : Nat) (s : State), n ≠ 0 ∧ s.windowFor n s.now = none ∧ sevNOTE < s.severityOf n ∧
      s.latchOf n u = none ∧ s.freeLatch = k ∧ k < 255 ∧ Tab.find s.flt.latches k = none ∧
      max 1 (s.rd F.FLT_CFG_ERR_MIN_SEV 0) ≤ s.severityOf n) ∧
    (∃ (n : Fin 53) (u k : Nat) (l : Latch) (s : State), n ≠ 0 ∧ s.windowFor n s.now = none ∧ sevNOTE < s.severityOf n ∧
      s.latchOf n u = some k ∧ Tab.find s.flt.latches k = some l) :=
  ⟨⟨18, State.reset, by decide +kernel⟩, ⟨12, window0, { State.reset with flt := { windows := [window0] } }, by decide +kernel⟩,
    ⟨2, 0, 0, State.reset, by decide +kernel⟩, ⟨12, 0, 0, latch0, { State.reset with flt := { latches := [(0, latch0)] } },
      by decide +kernel⟩⟩

theorem wit_SmbusErrorsDoNothing :
    (∃ (sa count : Nat) (s : State), s.smbHere sa = true ∧ count ≠ 8) ∧
    (∃ (sa x : Nat) (data : List Nat) (s : State), s.smbHere sa = true ∧ data.length = 8 ∧
      x ≠ smbPec ([sa * 2, 0x10, 8] ++ data) ∧ s.at_.port = []) :=
  ⟨⟨0x60, 7, on [(F.CLK_STAGE_STATUS_STAGE, 0, 1), (F.GLOBAL_STRAPS_SMB_ADDR, 0, 0x60)], by decide +kernel⟩,
    ⟨0x60, smbPec ([0x60 * 2, 0x10, 8] ++ [0, 0, 0, 0, 0, 0, 0, 0]) ^^^ 1, [0, 0, 0, 0, 0, 0, 0, 0],
      on [(F.CLK_STAGE_STATUS_STAGE, 0, 1), (F.GLOBAL_STRAPS_SMB_ADDR, 0, 0x60)], by decide +kernel⟩⟩

/-- WIDE_DATA of bank 0 holds NANOSECONDS 1,000,000,000. -/
def badTime : State := on [(F.WIDE_DATA_DATA, 0, 0xCA000000), (F.WIDE_DATA_DATA, 1, 0x3B9A)]

theorem wit_IllegalTimesRefused : ∃ (m : Fin 20) (b : Nat) (s : State), bankOf m = some b ∧ s.smbMasked m 0x09 = false ∧
    s.notOwned m 0x09 = false ∧ s.wideData b < 2 ^ 96 ∧ t96Legal (s.wideData b) = false :=
  ⟨0, 0, badTime, by decide +kernel⟩

theorem wit_FullResetLeaves :
    (∃ (c : Nat) (s t : State), c < 16 ∧ c = 2 ∧ s.rd F.POWER_STATUS_RAILS_GOOD = 1 ∧ exec (.resetNLow 1000) s = .next t) ∧
    (∃ (c : Nat) (s t : State), c < 16 ∧ s.hs.resetDue = some c ∧ exec .fullResetStart s = .next t) :=
  ⟨⟨2, on [(F.POWER_STATUS_RAILS_GOOD, 0, 1)], _, by decide, rfl, by decide +kernel, rfl⟩,
    ⟨4, { State.reset with hs := { resetDue := some 4 } }, _, by decide, rfl, rfl⟩⟩

theorem wit_LifetimeCountersAdvance : ∃ (s : State) (n k q v : Nat), n < 16 ∧ s.lifeRead n = some (k, q, v) ∧ v + 1 < 2 ^ 64 :=
  ⟨State.reset.lifeWrite 15 5, 15, 0, 1, 5, by decide +kernel⟩

theorem wit_LockedWritesIgnored : ∃ (s : State) (w : PendWrite) (r : Reg) (i : Nat), s.tm.running = true ∧ s.cp.queue = [w] ∧
    isVf w.master = false ∧ w.master < 20 ∧ inClientWindow w.addr = false ∧ placeOf w.master w.addr = some (r, i) ∧
    ∃ u : State, u = s.advanceTo (nextBoundary unitsPerUs s.now) ∧
      ({ u with cp := { u.cp with queue := [], written := [] } } : State).lockedWrite w.master r i (w.value % 2 ^ 32) = true :=
  ⟨{ running with cp := { queue := [{ master := 0, addr := 0x110008, value := 0 }] } }, _, _, _, rfl, rfl, rfl, by decide, rfl,
    rfl, _, rfl, by decide +kernel⟩

/-! Values and single steps that the spec gives. -/

/-- A step's next state has a property. -/
def after (c : Instr) (s : State) (p : State → Bool) : Bool :=
  match step { s with pending := [c] } with
  | .next t => p t && t.pending.isEmpty
  | _ => false

/-- Chapter 0, example of T96: 3.5 ps after 1,700,000,000 s plus 250 ns. -/
theorem test_t96 : t96 (1700000000 * unitsPerSec + 250 * unitsPerNs + 229) = 0x00006553F100000000FA00E5 := by decide +kernel

/-- R5: NANOSECONDS 999,999,999 is legal, 1,000,000,000 is not. -/
theorem test_t96_legal : t96Legal (999999999 * 2 ^ 16) = true ∧ t96Legal (1000000000 * 2 ^ 16) = false := by decide

/-- Chapter 1, worked example: commit times of writes at 374,600.0, 374,999.9 and 375,000.0 ns (R15). -/
theorem test_commit_times :
    [3746000, 3749999, 3750000].map (fun t => nextBoundary unitsPerUs (t * unitsPerNs / 10) / unitsPerNs) =
      [375000, 375000, 376000] := by decide +kernel

/-- Chapter 1, worked example (`at900`: 374,900 ns on the counter): PF0's write of priority 3 and the SMBus write of 5 to
node 12 wait; at the tick the field holds 5, and source 70 names masters 0 and 16. -/
def at900 : Nat := 374900 * 2 ^ 64
theorem test_two_masters : after .commitTick
    { stage1 with
      tm := { running := true, copyA := at900, copyB := at900, copyC := at900 }
      cp := { queue := [⟨16, 0x500C4, 0x407F507F⟩, ⟨0, 0x500C4, 0x407F307F⟩] } }
    (fun t => t.now == 375000 * unitsPerNs && t.rd F.TREE_NODE_LINK0_PRIO0 12 == 5 && t.rd F.GLOBAL_COLLISIONS_COUNT == 1 &&
      t.ev.held.map (fun r => (r.source, r.time / unitsPerNs, r.detail)) == [(70, 375000, 0x500C4 * 2 ^ 64 + 16)]) = true := by
  decide +kernel

/-- R46: within the window the undervoltage condition holds at 8.2 V and below, outside it up to 8.6 V. -/
theorem test_feed_window :
    [(0, 8600), (0, 8601), (1, 8200), (1, 8201)].map (fun p => after (.feedSample 1 p.2 0 false)
      (on [(F.FEED_STATUS_IN_WINDOW, 1, p.1)]) fun t => t.rd F.FEED_STATUS_UV 1 == 1) = [true, false, true, false] := by
  decide +kernel

/-- R60, Table 2.13: PMBUS_REVISION answers 0x33. -/
theorem test_pmbus_revision : after .pmbusRevision State.reset
    (fun t => t.out.head? == some (.smbus (some [0x33]))) = true := by decide +kernel

/-- Chapter 4, worked example: TAKE1 measures OUT5 (LOOP0, channel 26) against IN7; bins of 1.612 and 1.587 ps (1,651 and
1,625 units of 1/1,024 ps). Its stamps give four intervals and one discard. -/
def take1 : State :=
  { (on [(F.TAKE_STATUS_STATE, 1, 2), (F.TDC_CH_BIN_BIN, 26, 1651), (F.TDC_CH_BIN_BIN, 7, 1625)]) with
    td := { take := [(1, { pairs := true, startCh := 26, stopCh := 7, window := 1000, start := some (50 * 65536) })] } }
def pairOf (s : State) (x : Bool × Int) : State := s.pairStep 1 x.1 ⟨x.2, 0, false, false, false⟩
def skew : State := [(false, 100 * 65536), (true, 102 * 65536 + 22649), (true, 199 * 65536 + 40000), (false, 200 * 65536),
  (false, 300 * 65536), (true, 300 * 65536 + 80), (true, 397 * 65536), (false, 400 * 65536),
  (true, 401 * 65536 + 32768)].foldl pairOf take1
theorem test_take_skew :
    (skew.take 1).pairCount = 4 ∧ skew.rd F.TAKE_STATUS_DISCARDS 1 = 1 ∧ skew.rd F.TAKE_STATUS_ORDER_SEEN 1 = 1 ∧
      skew.rd F.TAKE_STATUS_SUB_BIN_SEEN 1 = 1 ∧ (skew.take 1).unpaired = 0 ∧ (skew.take 1).pendingStart = none ∧
      (skew.take 1).heldStop = none := by decide +kernel

/-- Chapter 8, worked example: the words of APLL1 to APLL3 pass checks 5 and 6, INT 38 fails one, and PRESCALE 0 with D 16
makes 156.25 MHz of APLL1's 10 GHz. -/
theorem test_apll_words :
    [(40, 0, 0), (41, 0x4000, 0), (39, 0x5254, 0x60AA64C3)].map (fun w =>
      loopCheck { int := w.1, fracHi := w.2.1, fracLo := w.2.2 }) = [none, none, none] ∧
    (loopCheck { int := 38, fracHi := 0xFFFF }).isSome = true ∧
    outFreqNum {} = 156250000 * outFreqDen { div := 16 } := by decide +kernel

/-- Chapter 9: the check value of the porch's CRC-16. -/
theorem test_crc16 : crc16 [0x31, 0x32, 0x33, 0x34, 0x35, 0x36, 0x37, 0x38, 0x39] = 0x29B1 := by decide +kernel

/-- Chapter 14, worked example: link loss of P2 at severity MAJOR takes entry 0 and the slate, and the pins show a fault. -/
theorem test_link_fault : after (.faultCause 30 0x0702 0 0)
    { State.reset with flt := { severity := [(30, sevMAJOR)] } }
    (fun t => (Tab.find t.flt.latches 0).any (fun l => l.source == 30 && l.unit == 0x0702 && l.severity == sevMAJOR) &&
      t.flt.slate.any (fun l => l.source == 30 && l.unit == 0x0702 && l.access == 0) && t.errPins == (false, true)) = true := by
  decide +kernel

/-- Chapter 15, worked example: copies of BOOT instance 4 start at pages 182 and 694. -/
theorem test_boot_pages :
    (recType rtBOOT).map (fun r => (copyAddr r 4 false / 256, copyAddr r 4 true / 256)) = some (182, 694) := by decide +kernel

end Sys2Proof.Tests
end

section
/-! PROOF. Illegal T96 times (R5): what a count of time reads as, and the refusal of a wide write of SET_TIME. -/

namespace Sys2Proof

/-- The NANOSECONDS field of a count of time, below the seconds and above the fraction. -/
theorem t96_nanoseconds (n : Nat) : t96 n / 2 ^ 16 % 2 ^ 32 = n / unitsPerNs % 1000000000 := by
  simp only [t96, unitsPerNs]
  omega

/-- A count of time reads as a legal T96 value. -/
theorem t96Legal_t96 (n : Nat) : t96Legal (t96 n) = true := by
  have hns : n / unitsPerNs % 1000000000 < 1000000000 := Nat.mod_lt _ (by decide)
  rw [t96Legal, t96_nanoseconds, decide_eq_true_iff]
  omega

end Sys2Proof

namespace Sys2Proof.Machine

/-! The time part through the register writes of the wide mailbox. -/

@[simp] theorem State.wideSel_tm (s : State) (b dir block i : Nat) : (s.wideSel b dir block i).tm = s.tm :=
  (State.wideSel_keeps (M := 0) (Keeps.refl _ _ s) (Sub.refl _)).tm rfl

@[simp] theorem State.wideStatus_tm (s : State) (b r w : Nat) (v : Bool) : (s.wideStatus b r w v).tm = s.tm :=
  (State.wideStatus_keeps (M := 0) (Keeps.refl _ _ s) (Sub.refl _)).tm rfl

@[simp] theorem State.outcome_tm (s : State) (m code addr : Nat) : (s.outcome m code addr).tm = s.tm :=
  (State.outcome_keeps (M := 0) (Keeps.refl _ _ s) (Sub.refl _)).tm rfl

/-! WIDE_SEL takes no part in what WIDE_WRITE checks. -/

@[simp] theorem State.wideData_wideSel (s : State) (b dir block i b' : Nat) :
    (s.wideSel b dir block i).wideData b' = s.wideData b' := by
  simp +decide [State.wideData]

@[simp] theorem State.smbMasked_wideSel (s : State) (b dir block i m block' : Nat) :
    (s.wideSel b dir block i).smbMasked m block' = s.smbMasked m block' := by
  simp +decide [State.smbMasked]

/-- The four OWNER fields are none of WIDE_SEL's. -/
@[simp] theorem State.ownerOf_wideSel (s : State) (b dir block i block' : Nat) :
    (s.wideSel b dir block i).ownerOf block' = s.ownerOf block' := by
  have hslot : block' % 4 < 4 := Nat.mod_lt _ (by decide)
  unfold State.ownerOf
  interval_cases block' % 4 <;> simp +decide

@[simp] theorem State.notOwned_wideSel (s : State) (b dir block i m block' : Nat) :
    (s.wideSel b dir block i).notOwned m block' = s.notOwned m block' := by
  simp only [State.notOwned, State.ownerOf_wideSel]

/-! What the status registers read. -/

theorem State.rd_wideStatus_result (s : State) (b r w : Nat) (v : Bool) :
    (s.wideStatus b r w v).rd F.WIDE_STATUS_RESULT b = r % 2 ^ F.WIDE_STATUS_RESULT.width := by
  unfold State.wideStatus State.wrAll
  simp only [List.foldl_cons, List.foldl_nil]
  rw [State.rd_wr_ne _ (by decide), State.rd_wr_self]

/-- A counter that may advance leaves every other field. -/
theorem State.rd_when_bump_ne (s : State) {f g : Fld} (h : g.id ≠ f.id) (c : Bool) (i j : Nat) :
    (s.when c (·.bump f i)).rd g j = s.rd g j := by
  cases c
  · rfl
  · exact State.rd_wr_ne s h i j _

theorem State.rd_outcome_result (s : State) {m b : Nat} (hb : bankOf m = some b) (code addr : Nat) :
    (s.outcome m code addr).rd F.GLOBAL_ACCESS_STATUS_RESULT b =
      code % 2 ^ F.GLOBAL_ACCESS_STATUS_RESULT.width := by
  simp only [State.outcome, hb, State.wrAll, List.foldl_cons, List.foldl_nil]
  rw [State.rd_when_bump_ne _ (by decide), State.rd_wr_ne _ (by decide), State.rd_wr_self]

/-! The wide write. -/

/-- SET_TIME is a writable item of 96 bits. -/
theorem State.wideItem_setTime (s : State) (b : Nat) :
    s.wideItem b 0x09 2 = some { wUns 96 (some s.tm.setTime) with rw := true } := rfl

theorem State.wideWrite_eq (s : State) {m b : Nat} (hb : bankOf m = some b) (block i : Nat) :
    s.wideWrite m block i = (s.wideTry m b block i).1.outcome m (s.wideTry m b block i).2 wideSelAddr := by
  simp only [State.wideWrite, hb]

/-- An unsigned item takes the values of its width. -/
theorem WideItem.fits_of_unsigned {w : WideItem} (hw : w.signed = false) (v : Nat) :
    w.fits v = decide (v < 2 ^ w.width) := by
  simp only [WideItem.fits, hw, Bool.false_eq_true, if_false]

/-- A write of an illegal time to SET_TIME, by a master that may write the block, comes to BAD_TIME. -/
theorem State.wideTry_badTime (s : State) (m b : Nat) (hmask : s.smbMasked m 0x09 = false)
    (hown : s.notOwned m 0x09 = false) (hwidth : s.wideData b < 2 ^ 96) (hbad : t96Legal (s.wideData b) = false) :
    s.wideTry m b 0x09 2 = ((s.wideSel b 1 0x09 2).wideStatus b wrBAD_TIME 96 false, ocBAD_TIME) := by
  have hfits : WideItem.fits { wUns 96 (some s.tm.setTime) with rw := true } (s.wideData b) = true :=
    (WideItem.fits_of_unsigned rfl _).trans (decide_eq_true hwidth)
  simp only [State.wideTry, State.wideItem_setTime, State.wideData_wideSel, State.smbMasked_wideSel,
    State.notOwned_wideSel, State.wideSel_tm]
  rw [if_neg (by simp [hmask]), if_neg (by simp [hown]), if_neg (by simp [hfits]),
    if_pos (by simp [hbad])]
  rfl

end Sys2Proof.Machine

namespace Sys2Proof

open Sys2Proof.Machine

/-- Settles O54: the NANOSECONDS of a count of time are a remainder modulo 1,000,000,000, and the wide write of an illegal
value ends at BAD_TIME before any item is replaced. -/
theorem illegalTimesRefused : Obligations.IllegalTimesRefused := by
  refine ⟨t96Legal_t96, fun m b s hb hmask hown hwidth hbad => ⟨s.wideWrite m 0x09 2, rfl, ?_⟩⟩
  rw [State.wideWrite_eq s hb, State.wideTry_badTime s m b hmask hown hwidth hbad]
  refine ⟨by simp, ?_, State.rd_outcome_result _ hb _ _⟩
  rw [State.outcome_rd (by decide)]
  exact State.rd_wideStatus_result _ _ _ _ _

end Sys2Proof
end

section
/-! PROOF. A step and a run over the queue (R15): every command completes, one command is taken at a time, what was sent
stays sent, the canonical forms are kept. -/

namespace Sys2Proof

open Sys2Proof.Machine

/-- Every command completes: each meaning answers a next state. -/
theorem exec_completes (c : Instr) (s : State) : ∃ t, exec c s = .next t := by
  cases c <;> exact ⟨_, rfl⟩

/-- What one step does: it completes, takes the front command, and keeps what was sent and the canonical forms. -/
theorem step_completes (s : State) :
    ∃ t, step s = .next t ∧ t.pending = s.pending.tail ∧ s.out <:+ t.out ∧
      (Tab.sorted s.regs = true → Tab.sorted t.regs = true) ∧ (MemoryWf s = true → MemoryWf t = true) := by
  cases hp : s.pending with
  | nil => exact ⟨s, by simp only [step, hp], hp, List.suffix_refl _, id, id⟩
  | cons c rest =>
    obtain ⟨t, ht⟩ := exec_completes c { s with pending := rest }
    have hk := exec_keeps ht
    refine ⟨t, by simp only [step, hp, ht], hk.pending, hk.outs, hk.sorted, fun hw => ?_⟩
    obtain ⟨hmem, hstaging⟩ := Bool.and_eq_true_iff.1 hw
    exact Bool.and_eq_true_iff.2 ⟨hk.mem hmem, hk.staging hstaging⟩

/-- A run of one step more is a run from the state after the step. -/
theorem runs_succ {s t : State} (h : step s = .next t) (n : Nat) : runs (n + 1) s = runs n t := by
  simp only [runs, Host.Core.run, core, h]

/-- Settles O6: every command completes, and what each keeps includes the queue behind it and the trace. -/
theorem stepKeepsQueueAndTrace : Obligations.StepKeepsQueueAndTrace := by
  intro s
  obtain ⟨t, ht, hpending, hout, -⟩ := step_completes s
  exact ⟨t, ht, hpending, hout⟩

/-- Settles O7, by induction on the number of waiting commands: each step takes one of them. -/
theorem runsDrainTheQueue : Obligations.RunsDrainTheQueue := by
  intro s
  induction hn : s.pending.length generalizing s with
  | zero => exact fun hs hm => ⟨s, rfl, List.length_eq_zero_iff.1 hn, List.suffix_refl _, hs, hm⟩
  | succ n ih =>
    intro hs hm
    obtain ⟨t, ht, hpending, hout, hsorted, hmem⟩ := step_completes s
    obtain ⟨u, hu, hempty, hout', hwf⟩ :=
      ih t (by rw [hpending, List.length_tail, hn]; rfl) (hsorted hs) (hmem hm)
    exact ⟨u, (runs_succ ht n).trans hu, hempty, hout.trans hout', hwf⟩

end Sys2Proof
end

section
/-! PROOF. Unit operations (R30–R34): the result that a bank's command leaves, and what refuses an operation. -/

namespace Sys2Proof.Machine

/-! The unit tree of Table 1.5. -/

theorem leafRow?_eq_some {u : Nat} {r : Nat × Nat × Nat} (h : leafRow? u = some r) :
    r ∈ leafRows ∧ r.1 ≤ u ∧ u < r.1 + r.2.1 := by
  have hin := List.find?_some h
  simp only [Bool.and_eq_true, decide_eq_true_eq] at hin
  exact ⟨List.mem_of_find?_eq_some h, hin⟩

theorem isLeaf_iff (u : Nat) : isLeaf u = true ↔ ∃ r ∈ leafRows, r.1 ≤ u ∧ u < r.1 + r.2.1 := by
  simp [isLeaf, leafRow?, List.find?_isSome]

/-- The leaves' IDs stand above the groups', each row within one block of 256, beneath the group of that block. -/
theorem leafRows_block : ∀ r ∈ leafRows, 0x100 ≤ r.1 ∧ (r.1 + r.2.1 - 1) / 256 = r.1 / 256 ∧
    r.2.2 ∈ groupIds ∧ r.2.2 = if r.1 / 256 = 1 then 0x10 else if r.1 / 256 = 2 then 0x11 else 0x0E + r.1 / 256 := by
  decide

theorem groupIds_range (u : Nat) : u ∈ groupIds ↔ 0x10 ≤ u ∧ u ≤ 0x1A := by
  simp only [groupIds, List.mem_cons, List.not_mem_nil, or_false]
  omega

/-- The group of a leaf is the one of its block. -/
theorem leafRow?_parent {u : Nat} {r : Nat × Nat × Nat} (h : leafRow? u = some r) :
    0x100 ≤ u ∧ r.2.2 ∈ groupIds ∧ r.2.2 = if u / 256 = 1 then 0x10 else if u / 256 = 2 then 0x11 else 0x0E + u / 256 := by
  obtain ⟨hr, hlo, hhi⟩ := leafRow?_eq_some h
  obtain ⟨hmin, hblock, hgroup, hparent⟩ := leafRows_block r hr
  have hu : u / 256 = r.1 / 256 := by omega
  exact ⟨by omega, hgroup, by rw [hu, hparent]⟩

theorem group_not_named {g : Nat} (h : g ∈ groupIds) : g ≠ uMODULE ∧ g ≠ uPAIR ∧ g ≠ uPARTNER := by
  have hrange := (groupIds_range g).1 h
  unfold uMODULE uPAIR uPARTNER
  omega

theorem leaf_not_named {u : Nat} {r : Nat × Nat × Nat} (h : leafRow? u = some r) :
    u ∉ groupIds ∧ u ≠ uMODULE ∧ u ≠ uPAIR ∧ u ≠ uPARTNER := by
  obtain ⟨hmin, -, -⟩ := leafRow?_parent h
  rw [groupIds_range]
  unfold uMODULE uPAIR uPARTNER
  omega

theorem unitParent_group {g : Nat} (h : g ∈ groupIds) : unitParent g = some uMODULE := by
  obtain ⟨hmodule, -, hpartner⟩ := group_not_named h
  simp [unitParent, h, hmodule, hpartner]

theorem unitAncestors_group {g : Nat} (h : g ∈ groupIds) : unitAncestors g = [uMODULE] := by
  obtain ⟨hmodule, hpair, hpartner⟩ := group_not_named h
  simp [unitAncestors, h, hmodule, hpair, hpartner]

theorem unitParent_leaf {u : Nat} {r : Nat × Nat × Nat} (h : leafRow? u = some r) : unitParent u = some r.2.2 := by
  obtain ⟨hgroup, hmodule, -, hpartner⟩ := leaf_not_named h
  simp [unitParent, hgroup, hmodule, hpartner, h]

theorem unitAncestors_leaf {u : Nat} {r : Nat × Nat × Nat} (h : leafRow? u = some r) :
    unitAncestors u = [r.2.2, uMODULE] := by
  obtain ⟨hgroup, hmodule, hpair, hpartner⟩ := leaf_not_named h
  simp [unitAncestors, hgroup, hmodule, hpair, hpartner, h]

/-- The units of Table 1.5: MODULE and the proxies, the groups, the leaves. -/
theorem unitExists_iff (u : Nat) : unitExists u = true ↔ u ≤ uPARTNER ∨ u ∈ groupIds ∨ ∃ r, leafRow? u = some r := by
  have hlow : u ≤ uPARTNER ↔ u = uMODULE ∨ u = uPAIR ∨ u = uPARTNER := by unfold uPARTNER uMODULE uPAIR; omega
  simp only [unitExists, isGroup, isLeaf, Bool.or_eq_true, beq_iff_eq, List.contains_iff_mem, Option.isSome_iff_exists, hlow]
  tauto

/-- A unit beneath MODULE is a group or a leaf. -/
theorem unitExists_cases {u : Nat} (hex : unitExists u = true) (hu : 2 < u) :
    u ∈ groupIds ∨ ∃ r, leafRow? u = some r :=
  ((unitExists_iff u).1 hex).resolve_left (by unfold uPARTNER; omega)

theorem unitAncestors_proxy {u : Nat} (h : u = uPAIR ∨ u = uPARTNER) : unitAncestors u = [] := by
  rcases h with rfl | rfl <;> rfl

/-- The ancestors of a unit within the module are its parent and its parent's parent, up to MODULE. -/
theorem mem_unitAncestors_iff {u : Nat} (hex : unitExists u = true) (hu : 2 < u) (a : Nat) : a ∈ unitAncestors u ↔
    unitParent u = some a ∧ a ≠ uPAIR ∨ ∃ g, unitParent u = some g ∧ unitParent g = some a ∧ a ≠ uPAIR := by
  rcases unitExists_cases hex hu with hg | ⟨r, hr⟩
  · have hroot : unitParent uMODULE = some uPAIR := rfl
    rw [unitAncestors_group hg, unitParent_group hg]
    constructor
    · intro h
      obtain rfl := List.mem_singleton.1 h
      exact .inl ⟨rfl, by decide⟩
    · rintro (⟨h, -⟩ | ⟨g, h, hup, hne⟩)
      · exact List.mem_singleton.2 (Option.some.inj h).symm
      · obtain rfl := Option.some.inj h
        exact absurd (Option.some.inj (hroot.symm.trans hup)).symm hne
  · obtain ⟨-, hgroup, -⟩ := leafRow?_parent hr
    have hne : r.2.2 ≠ uPAIR := (group_not_named hgroup).2.1
    rw [unitAncestors_leaf hr, unitParent_leaf hr]
    constructor
    · intro h
      rcases List.mem_pair.1 h with rfl | rfl
      · exact .inl ⟨rfl, hne⟩
      · exact .inr ⟨r.2.2, rfl, unitParent_group hgroup, by decide⟩
    · rintro (⟨h, -⟩ | ⟨g, h, hup, -⟩)
      · exact List.mem_pair.2 (.inl (Option.some.inj h).symm)
      · obtain rfl := Option.some.inj h
        exact List.mem_pair.2 (.inr (Option.some.inj ((unitParent_group hgroup).symm.trans hup)).symm)

/-! What refuses an operation. -/

theorem State.opRefused_unknown (s : State) {op u : Nat} (m : Nat) (hop : op ≤ 5) (hu : unitExists u = false) :
    s.opRefused op u m = 0x0A := by
  simp [State.opRefused, Nat.not_lt.2 hop, hu]

theorem State.opRefused_status (s : State) {u : Nat} (m : Nat) (hu : unitExists u = true) :
    s.opRefused opSTATUS u m = 0 := by
  simp [State.opRefused, hu, opSTATUS]

theorem unitExists_proxy {u : Nat} (h : u = uPAIR ∨ u = uPARTNER) : unitExists u = true := by
  rcases h with rfl | rfl <;> rfl

theorem State.opRefused_proxy (s : State) {op u : Nat} (m : Nat) (h1 : 1 ≤ op) (hop : op ≤ 5) (hu : u = uPAIR ∨ u = uPARTNER) :
    s.opRefused op u m = 0x0C := by
  have hstatus : op ≠ opSTATUS := by unfold opSTATUS; omega
  simp [State.opRefused, Nat.not_lt.2 hop, unitExists_proxy hu, hstatus, hu]

theorem State.heldByGroup_iff (s : State) (u : Nat) :
    s.heldByGroup u = true ↔ ∃ a ∈ unitAncestors u, a ∈ s.un.retired ∨ a ∈ s.un.isolated := by
  simp [State.heldByGroup]

theorem State.opRefused_held (s : State) {op u : Nat} (m : Nat) (hex : unitExists u = true)
    (hop : op = opRELEASE ∨ op = opUNRETIRE) (hheld : s.heldByGroup u = true) : s.opRefused op u m = 0x0B := by
  have hproxy : ¬(u = uPAIR ∨ u = uPARTNER) := fun h => by
    simp [State.heldByGroup, unitAncestors_proxy h] at hheld
  rcases hop with rfl | rfl <;> simp [State.opRefused, hex, hheld, hproxy, opRELEASE, opUNRETIRE, opSTATUS]

/-- A leaf has nothing against a release or an un-retire. -/
theorem State.leafRefuses_undo (s : State) {op : Nat} (hop : op = opRELEASE ∨ op = opUNRETIRE) (u l m : Nat) :
    s.leafRefuses op u l m = 0 := by
  rcases hop with rfl | rfl <;> simp [State.leafRefuses, opRELEASE, opUNRETIRE, opRETIRE, opISOLATE, opRESET]

/-- A release, and an un-retire of a unit reset since it was retired, are refused for a mark on an ancestor alone. -/
theorem State.opRefused_undo (s : State) {op u : Nat} (m : Nat) (hex : unitExists u = true) (hu : 2 < u)
    (hop : op = opRELEASE ∨ op = opUNRETIRE) (hheld : s.heldByGroup u = false)
    (hreset : op = opUNRETIRE → u ∈ s.un.retired → u ∈ s.un.resetSince) : s.opRefused op u m = 0 := by
  have hproxy : ¬(u = uPAIR ∨ u = uPARTNER) := by unfold uPAIR uPARTNER; omega
  have hleaf : ∀ l, s.leafRefuses op u l m = 0 := fun l => s.leafRefuses_undo hop u l m
  have hstays : ¬(op = opUNRETIRE ∧ u ∈ s.un.retired ∧ u ∉ s.un.resetSince) := fun h => h.2.2 (hreset h.1 h.2.1)
  have hnone : ((unitLeaves u).map fun l => s.leafRefuses op u l m).find? (· != 0) = none := by
    simp [hleaf]
  have hstatus : op ≠ opSTATUS := by rcases hop with rfl | rfl <;> decide
  have hrange : op ≤ 5 := by rcases hop with rfl | rfl <;> decide
  simp [State.opRefused, Nat.not_lt.2 hrange, hex, hstatus, hproxy, hheld, hnone, and_assoc, hstays]

theorem State.unitExists_of_opRefused {s : State} {op u m : Nat} (h : s.opRefused op u m = 0) : unitExists u = true := by
  by_contra hu
  have hop : op ≤ 5 := by
    by_contra h5
    simp [State.opRefused, Nat.not_le.1 h5] at h
  rw [s.opRefused_unknown m hop (Bool.not_eq_true _ ▸ hu)] at h
  cases h

/-! An operation by a master. -/

theorem State.unitOp_refused {s : State} {op u m code : Nat} (who : Option Nat) (h : s.opRefused op u m = code)
    (hc : code ≠ 0) : s.unitOp op u m who = (s, code, s.unitStatus u, false) := by
  simp [State.unitOp, h, hc]

/-- An operation that nothing refuses, that waits for no commit of the retire list and does not reach the master's own unit by
a reset. -/
theorem State.unitOp_done {s : State} {op u m : Nat} (who : Option Nat) (h : s.opRefused op u m = 0)
    (hown : ownReset op u m = false) (hlist : s.listChange op u = none) :
    s.unitOp op u m who =
      (s.unitDo op u who, 0, if op == opRESET then stRESETTING else (s.unitDo op u who).unitStatus u, false) := by
  simp [State.unitOp, h, hown, hlist]

theorem ownReset_of_ne {op : Nat} (h : op ≠ opRESET) (u m : Nat) : ownReset op u m = false := by
  simp [ownReset, h]

/-- Only a retirement and an un-retirement change the retire list (R128). -/
theorem State.listChange_of_ne (s : State) {op : Nat} (u : Nat) (h : op ≠ opRETIRE) (h' : op ≠ opUNRETIRE) :
    s.listChange op u = none := by
  simp [State.listChange, h, h']

/-- The change that an operation makes to the units, where the retire list does not change. -/
theorem State.unitDo_unlisted {s : State} {op u : Nat} (who : Option Nat) (h : s.listChange op u = none) :
    s.unitDo op u who = if op = opRESET then s.unitReset u none else if op = opRETIRE then s.unitMark u true
      else if op = opISOLATE then s.unitMark u false else if op = opRELEASE then s.unitUnmark u false
      else if op = opUNRETIRE then s.unitUnmark u true else s := by
  simp only [State.unitDo, h, beq_iff_eq]

/-! A bank's command and its result (R374). -/

/-- The fields of a bank's result, and what a review of the notifications may change (R302). -/
def resultFields : List Fld := [F.GLOBAL_UNIT_RESULT_CODE, F.GLOBAL_UNIT_RESULT_UNIT_STATUS, F.HOST_MSIX_SENT_COUNT]

/-- The result of an operation in a bank's GLOBAL_UNIT_RESULT. -/
def State.unitResult (s : State) (bank code status : Nat) : State :=
  s.wrAll [(F.GLOBAL_UNIT_RESULT_CODE, bank, code), (F.GLOBAL_UNIT_RESULT_UNIT_STATUS, bank, status)]

theorem State.unitResult_code (s : State) (bank code status : Nat) :
    (s.unitResult bank code status).rd F.GLOBAL_UNIT_RESULT_CODE bank = code % 256 := by
  simp only [State.unitResult, State.wrAll, List.foldl_cons, List.foldl_nil]
  rw [State.rd_wr_ne _ (by decide), State.rd_wr_self]
  rfl

theorem State.unitResult_status (s : State) (bank code status : Nat) :
    (s.unitResult bank code status).rd F.GLOBAL_UNIT_RESULT_UNIT_STATUS bank = status % 256 := by
  simp only [State.unitResult, State.wrAll, List.foldl_cons, List.foldl_nil]
  rw [State.rd_wr_self]
  rfl

theorem State.unitResult_keeps (s : State) (bank code status : Nat) :
    Keeps (fieldMask resultFields) (partMask [.hs, .out]) s (s.unitResult bank code status) :=
  State.wrAll_keeps (Keeps.refl _ _ s) (Sub.refl _) ⟨by decide +kernel, by decide +kernel, trivial⟩

theorem State.unitCtrl_eq {s t : State} {bank op u code status : Nat} (hbusy : s.rd F.GLOBAL_UNIT_RESULT_BUSY bank ≠ 1)
    (h : s.unitOp op u (bankMaster bank) (some bank) = (t, code, status, false)) :
    s.unitCtrl bank op u = t.unitResult bank code (if unitExists u then status else 0xFF) := by
  have hb : s.rdB F.GLOBAL_UNIT_RESULT_BUSY bank = false := by simp [State.rdB, hbusy]
  simp only [State.unitCtrl, hb, h]
  rfl

/-- A bank's command carries out its operation; the status read tells no VF anything. -/
theorem exec_unitCommand {bank : Fin 4} {u : Nat} {p : Nat × Instr} (hp : p ∈ unitCommands bank u) (s : State) :
    exec p.2 s = .next (if p.1 = opSTATUS then s.unitCtrl bank p.1 u else (s.unitCtrl bank p.1 u).notifyReview) := by
  simp only [unitCommands, List.mem_cons, List.not_mem_nil, or_false] at hp
  rcases hp with rfl | rfl | rfl | rfl | rfl | rfl <;> rfl

/-- A bank's command whose operation awaits no commit completes: the bank shows the code and the status, and beside them
only VFs may have been told what they were due to be told. -/
theorem exec_unitCommand_result {bank : Fin 4} {u code status : Nat} {p : Nat × Instr} {s t : State}
    (hp : p ∈ unitCommands bank u) (hbusy : s.rd F.GLOBAL_UNIT_RESULT_BUSY bank ≠ 1)
    (hop : s.unitOp p.1 u (bankMaster bank) (some bank.val) = (t, code, status, false)) :
    ∃ v, exec p.2 s = .next v ∧ v.rd F.GLOBAL_UNIT_RESULT_CODE bank = code % 256 ∧
      v.rd F.GLOBAL_UNIT_RESULT_UNIT_STATUS bank = (if unitExists u then status else 0xFF) % 256 ∧
      Keeps (fieldMask resultFields) (partMask [.hs, .out]) t v := by
  have hkeeps := t.unitResult_keeps bank code (if unitExists u then status else 0xFF)
  have hcode := t.unitResult_code bank code (if unitExists u then status else 0xFF)
  have hstatus := t.unitResult_status bank code (if unitExists u then status else 0xFF)
  rw [exec_unitCommand hp, State.unitCtrl_eq hbusy hop]
  by_cases hread : p.1 = opSTATUS
  · exact ⟨_, by rw [if_pos hread], hcode, hstatus, hkeeps⟩
  · refine ⟨_, by rw [if_neg hread], ?_, ?_, State.notifyReview_keeps hkeeps (by decide +kernel) (by decide +kernel)⟩
    · rw [State.notifyReview_rd (by decide +kernel), hcode]
    · rw [State.notifyReview_rd (by decide +kernel), hstatus]

end Sys2Proof.Machine

namespace Sys2Proof

open Sys2Proof.Machine

/-- A bank's command that its unit refuses completes with the code and without effect. -/
theorem refusedWith_of_opRefused {bank : Fin 4} {u code : Nat} {p : Nat × Instr} {s : State} (hp : p ∈ unitCommands bank u)
    (hbusy : s.rd F.GLOBAL_UNIT_RESULT_BUSY bank ≠ 1) (h : s.opRefused p.1 u (bankMaster bank) = code) (hc : code ≠ 0)
    (hwidth : code < 256) : RefusedWith code bank p.2 s := by
  obtain ⟨t, ht, hcode, -, hkeeps⟩ := exec_unitCommand_result hp hbusy (State.unitOp_refused _ h hc)
  exact ⟨t, ht, hcode.trans (Nat.mod_eq_of_lt hwidth), Changes.of_keeps hkeeps⟩

/-- The commands carry the six operation codes. -/
theorem unitCommands_op_le {bank : Fin 4} {u : Nat} {p : Nat × Instr} (hp : p ∈ unitCommands bank u) : p.1 ≤ 5 := by
  have hcodes : (unitCommands bank u).map Prod.fst = List.range 6 := rfl
  have hmem : p.1 ∈ List.range 6 := hcodes ▸ List.mem_map_of_mem hp
  exact Nat.le_of_lt_succ (List.mem_range.1 hmem)

end Sys2Proof
end

section
/-! PROOF. The rules of the unit tree (R30, R33, R34). -/

namespace Sys2Proof.Machine

/-- The clearing of a mark changes nothing else in the unit tree: what the leaves and the rest of the module do on their return
keeps it. -/
theorem State.unitUnmark_un (s : State) (u : Nat) (retire : Bool) :
    (s.unitUnmark u retire).un = (if retire then s.clearRetired u else s.clearIsolated u).un := by
  unfold State.unitUnmark
  extract_lets had t
  have hback : Keeps allFields 0x2386ba6 t ((t.freeLeaves u).foldl (fun t l => t.leafBack l) t).afterUnits :=
    State.afterUnits_keeps (Keeps.foldl (Keeps.refl _ _ t) fun v l hv =>
      State.leafBack_keeps hv (by decide +kernel) (Sub.refl _)) (by decide +kernel) (by decide +kernel)
  split
  · exact hback.un rfl
  · rfl

end Sys2Proof.Machine

namespace Sys2Proof

open Sys2Proof.Machine

/-- The command and the operation code that clear a mark: an un-retirement or a release. -/
def clearCommand (bank : Fin 4) (u : Nat) (retire : Bool) : Nat × Instr :=
  if retire then (opUNRETIRE, .unitUnretire bank u) else (opRELEASE, .unitRelease bank u)

/-- A bank's un-retirement or release that changes no retire list completes, and the unit's mark is cleared. -/
theorem exec_clearCommand_clears {bank : Fin 4} {u : Nat} {retire : Bool} {s : State}
    (hbusy : s.rd F.GLOBAL_UNIT_RESULT_BUSY bank ≠ 1) (h : s.opRefused (clearCommand bank u retire).1 u (bankMaster bank) = 0)
    (hlist : s.listChange (clearCommand bank u retire).1 u = none) :
    ∃ t, exec (clearCommand bank u retire).2 s = .next t ∧ t.rd F.GLOBAL_UNIT_RESULT_CODE bank = 0 ∧
      t.un = (if retire then s.clearRetired u else s.clearIsolated u).un := by
  have hmem : clearCommand bank u retire ∈ unitCommands bank u := by cases retire <;> simp [clearCommand, unitCommands]
  have hreset : (clearCommand bank u retire).1 ≠ opRESET := by
    cases retire <;> simp [clearCommand, opUNRETIRE, opRELEASE, opRESET]
  have hdo : s.unitDo (clearCommand bank u retire).1 u (some bank.val) = s.unitUnmark u retire := by
    rw [State.unitDo_unlisted _ hlist]
    cases retire <;> simp [clearCommand, opUNRETIRE, opRELEASE, opRESET, opRETIRE, opISOLATE]
  obtain ⟨t, ht, hcode, -, hkeeps⟩ :=
    exec_unitCommand_result hmem hbusy (State.unitOp_done _ h (ownReset_of_ne hreset _ _) hlist)
  rw [hdo] at hkeeps
  exact ⟨t, ht, hcode, (hkeeps.un rfl).trans (s.unitUnmark_un u retire)⟩

/-- A bank's release completes: the isolate mark of the unit is gone, no other mark changes. -/
theorem exec_unitRelease_clears {bank : Fin 4} {u : Nat} {s : State} (hbusy : s.rd F.GLOBAL_UNIT_RESULT_BUSY bank ≠ 1)
    (h : s.opRefused opRELEASE u (bankMaster bank) = 0) :
    ∃ t, exec (.unitRelease bank u) s = .next t ∧ t.rd F.GLOBAL_UNIT_RESULT_CODE bank = 0 ∧
      t.un.isolated = s.un.isolated.filter (· != u) ∧ t.un.retired = s.un.retired := by
  obtain ⟨t, ht, hcode, hun⟩ := exec_clearCommand_clears (retire := false) hbusy h
    (s.listChange_of_ne u (op := opRELEASE) (by decide) (by decide))
  exact ⟨t, ht, hcode, by rw [hun]; rfl, by rw [hun]; rfl⟩

/-- A bank's un-retirement that changes no retire list completes: the retire mark of the unit is gone, no other mark
changes. -/
theorem exec_unitUnretire_clears {bank : Fin 4} {u : Nat} {s : State} (hbusy : s.rd F.GLOBAL_UNIT_RESULT_BUSY bank ≠ 1)
    (h : s.opRefused opUNRETIRE u (bankMaster bank) = 0) (hlist : s.listChange opUNRETIRE u = none) :
    ∃ t, exec (.unitUnretire bank u) s = .next t ∧ t.rd F.GLOBAL_UNIT_RESULT_CODE bank = 0 ∧
      t.un.retired = s.un.retired.filter (· != u) ∧ t.un.isolated = s.un.isolated := by
  obtain ⟨t, ht, hcode, hun⟩ := exec_clearCommand_clears (retire := true) hbusy h hlist
  exact ⟨t, ht, hcode, by rw [hun]; rfl, by rw [hun]; rfl⟩

/-- A bank's status read completes with the unit's status and changes no unit. -/
theorem exec_unitStatus_reads {bank : Fin 4} {u : Nat} {s : State} (hbusy : s.rd F.GLOBAL_UNIT_RESULT_BUSY bank ≠ 1)
    (hex : unitExists u = true) :
    ∃ t, exec (.unitStatus bank u) s = .next t ∧ t.rd F.GLOBAL_UNIT_RESULT_CODE bank = 0 ∧
      t.rd F.GLOBAL_UNIT_RESULT_UNIT_STATUS bank = s.unitStatus u % 256 ∧ t.un = s.un := by
  have hlist := s.listChange_of_ne u (op := opSTATUS) (by decide) (by decide)
  have hdo : s.unitDo opSTATUS u (some bank.val) = s := State.unitDo_unlisted _ hlist
  have hown := ownReset_of_ne (op := opSTATUS) (by decide) u (bankMaster bank)
  obtain ⟨t, ht, hcode, hstatus, hkeeps⟩ := exec_unitCommand_result (p := (opSTATUS, .unitStatus bank u))
    (by simp [unitCommands]) hbusy (State.unitOp_done _ (s.opRefused_status _ hex) hown hlist)
  rw [hdo] at hkeeps
  simp only [hex, hdo, if_true] at hstatus
  exact ⟨t, ht, hcode, hstatus, hkeeps.un rfl⟩

/-- The IDs of Table 1.5, range by range. -/
theorem unitExists_iff_ranges (u : Nat) : unitExists u = true ↔
    u ≤ 0x0002 ∨ (0x0010 ≤ u ∧ u ≤ 0x001A) ∨ (0x0100 ≤ u ∧ u ≤ 0x011B) ∨ (0x0120 ≤ u ∧ u ≤ 0x0123) ∨
    (0x0200 ≤ u ∧ u ≤ 0x022B) ∨ (0x0300 ≤ u ∧ u ≤ 0x037F) ∨ (0x0400 ≤ u ∧ u ≤ 0x040F) ∨ (0x0500 ≤ u ∧ u ≤ 0x0504) ∨
    (0x0510 ≤ u ∧ u ≤ 0x0527) ∨ u = 0x0600 ∨ (0x0610 ≤ u ∧ u ≤ 0x0613) ∨ (0x0620 ≤ u ∧ u ≤ 0x0621) ∨
    (0x0628 ≤ u ∧ u ≤ 0x0629) ∨ u = 0x0630 ∨ (0x0700 ≤ u ∧ u ≤ 0x0707) ∨ (0x0710 ≤ u ∧ u ≤ 0x0713) ∨
    (0x0800 ≤ u ∧ u ≤ 0x0801) ∨ (0x0810 ≤ u ∧ u ≤ 0x081F) ∨ u = 0x0900 ∨ (0x0911 ≤ u ∧ u ≤ 0x091F) ∨ u = 0x0920 ∨
    (0x0A00 ≤ u ∧ u ≤ 0x0A01) ∨ (0x0B00 ≤ u ∧ u ≤ 0x0B3F) ∨ (0x0C00 ≤ u ∧ u ≤ 0x0C01) ∨ (0x0C10 ≤ u ∧ u ≤ 0x0C11) := by
  have hleaf : (∃ r, leafRow? u = some r) ↔ ∃ r ∈ leafRows, r.1 ≤ u ∧ u < r.1 + r.2.1 :=
    Option.isSome_iff_exists.symm.trans (isLeaf_iff u)
  rw [unitExists_iff, groupIds_range, hleaf]
  simp only [leafRows, List.exists_mem_cons_iff, List.not_mem_nil, false_and, exists_false, or_false, uPARTNER]
  iterate 24 refine or_congr (by omega) ?_
  omega

/-- Settles O45: the ranges are the rows of the model's table, and an ID outside them is refused before anything is done. -/
theorem unknownUnitsRefused : Obligations.UnknownUnitsRefused := by
  refine ⟨fun u _ => unitExists_iff_ranges u, ⟨rfl, rfl, rfl⟩,
    fun u hlo hhi => unitParent_group ((groupIds_range u).2 ⟨hlo, hhi⟩),
    fun u hlo hex => ?_, fun s op u m who hu hop => State.unitOp_refused who (s.opRefused_unknown m hop hu) (by decide),
    fun s bank u hu hbusy p hp => ?_⟩
  · obtain ⟨r, hr⟩ := (unitExists_cases hex (by omega)).resolve_left fun hg => by
      have := (groupIds_range u).1 hg
      omega
    obtain ⟨-, -, hparent⟩ := leafRow?_parent hr
    exact ⟨Option.isSome_iff_exists.2 ⟨r, hr⟩, by rw [unitParent_leaf hr, hparent]⟩
  · exact refusedWith_of_opRefused hp hbusy (s.opRefused_unknown _ (unitCommands_op_le hp) hu) (by decide) (by decide)

/-- Settles O46: with a mark on an ancestor the operation is refused before anything is done; with none nothing refuses it, and
it clears the unit's own mark. -/
theorem heldByGroup : Obligations.HeldByGroup := by
  refine ⟨fun s op u m a who hex ha hmark hop => ?_, fun s bank u a hex ha hmark hbusy => ?_,
    fun s bank u hex hu hfree hbusy => ?_, fun u hex hu a => mem_unitAncestors_iff hex hu a⟩
  · exact State.unitOp_refused who (s.opRefused_held m hex hop ((s.heldByGroup_iff u).2 ⟨a, ha, hmark⟩)) (by decide)
  · have hheld := (s.heldByGroup_iff u).2 ⟨a, ha, hmark⟩
    exact ⟨refusedWith_of_opRefused (p := (opRELEASE, .unitRelease bank u)) (by simp [unitCommands]) hbusy
        (s.opRefused_held _ hex (.inl rfl) hheld) (by decide) (by decide),
      refusedWith_of_opRefused (p := (opUNRETIRE, .unitUnretire bank u)) (by simp [unitCommands]) hbusy
        (s.opRefused_held _ hex (.inr rfl) hheld) (by decide) (by decide)⟩
  · have hheld : s.heldByGroup u = false := by
      rw [← Bool.not_eq_true, s.heldByGroup_iff]
      rintro ⟨a, ha, hmark⟩
      exact hmark.elim (hfree a ha).1 (hfree a ha).2
    exact ⟨exec_unitRelease_clears hbusy (s.opRefused_undo _ hex hu (.inl rfl) hheld fun h => by cases h),
      fun hreset => exec_unitUnretire_clears hbusy (s.opRefused_undo _ hex hu (.inr rfl) hheld fun _ => hreset)⟩

/-- Settles O47: PAIR and PARTNER refuse every operation but the status read, which nothing refuses. -/
theorem pairAndPartnerNotLocal : Obligations.PairAndPartnerNotLocal :=
  ⟨fun s _ _ m who hu h1 hop => State.unitOp_refused who (s.opRefused_proxy m h1 hop hu) (by decide),
    fun s _ _ hu hbusy _ hp h1 => refusedWith_of_opRefused hp hbusy (s.opRefused_proxy _ h1 (unitCommands_op_le hp) hu)
      (by decide) (by decide),
    fun _ _ _ hu hbusy => exec_unitStatus_reads hbusy (unitExists_proxy hu)⟩

end Sys2Proof
end

section
/-! PROOF. The order in which the merger releases (R27, R28). -/

namespace Sys2Proof.Machine

/-- A record's place in key order among records of one step generation: time, source, order of production. -/
def EvRec.rank (r : EvRec) : Nat ×ₗ Nat ×ₗ Nat := toLex (r.time, toLex (r.source, r.order))

theorem EvRec.rank_lt_iff (a b : EvRec) : a.rank < b.rank ↔
    a.time < b.time ∨ a.time = b.time ∧ (a.source < b.source ∨ a.source = b.source ∧ a.order < b.order) := by
  simp [EvRec.rank, Prod.Lex.lt_iff]

/-- Within one step generation key order is the order of ranks. -/
theorem EvRec.before_iff_rank_lt {a b : EvRec} (h : a.gen = b.gen) : a.before b = true ↔ a.rank < b.rank := by
  simp only [EvRec.rank_lt_iff, EvRec.before, EvRec.key, keyBefore, h, beq_self_eq_true, if_true, Bool.or_eq_true,
    Bool.and_eq_true, decide_eq_true_eq, beq_iff_eq, Prod.mk.injEq, true_and]
  omega

theorem firstRecord_cons (r : EvRec) (l : List EvRec) :
    firstRecord (r :: l) = some ((firstRecord l).elim r fun m => if r.before m then r else m) := by
  simp only [firstRecord]
  cases firstRecord l with
  | none => rfl
  | some m => exact (apply_ite some _ _ _).symm

theorem firstRecord_eq_none {l : List EvRec} : firstRecord l = none ↔ l = [] := by
  cases l with
  | nil => exact ⟨fun _ => rfl, fun _ => rfl⟩
  | cons r l => simp [firstRecord_cons]

/-- The first record is one of the list, and none of the list has a lower rank. -/
theorem firstRecord_spec {l : List EvRec} {r : EvRec} (hgen : ∀ a ∈ l, ∀ b ∈ l, a.gen = b.gen)
    (h : firstRecord l = some r) : r ∈ l ∧ ∀ x ∈ l, r.rank ≤ x.rank := by
  induction l generalizing r with
  | nil => cases h
  | cons a l ih =>
    rw [firstRecord_cons, Option.some.injEq] at h
    cases hm : firstRecord l with
    | none =>
      obtain rfl := firstRecord_eq_none.1 hm
      obtain rfl : a = r := by simpa [hm] using h
      simp
    | some m =>
      obtain ⟨hmem, hmin⟩ := ih (fun x hx y hy => hgen x (.tail _ hx) y (.tail _ hy)) hm
      have hbefore := EvRec.before_iff_rank_lt (hgen a (.head _) m (.tail _ hmem))
      rw [hm, Option.elim_some] at h
      split_ifs at h with hb
      · subst h
        have hlt := (hbefore.1 hb).le
        exact ⟨.head _, List.forall_mem_cons.2 ⟨le_rfl, fun x hx => hlt.trans (hmin x hx)⟩⟩
      · subst h
        exact ⟨.tail _ hmem, List.forall_mem_cons.2 ⟨not_lt.1 fun hlt => hb (hbefore.2 hlt), hmin⟩⟩

theorem State.mergerRelease_none {s : State} (h : firstRecord (s.ev.held.filter (s.releasable ·)) = none) :
    s.mergerRelease = s := by
  simp only [State.mergerRelease, h]

theorem State.mergerRelease_some {s : State} {r : EvRec} (h : firstRecord (s.ev.held.filter (s.releasable ·)) = some r) :
    s.mergerRelease = ({ s with ev := { s.ev with held := s.ev.held.erase r } }).emitRecord r := by
  simp only [State.mergerRelease, h]

end Sys2Proof.Machine

namespace Sys2Proof

open Sys2Proof.Machine

/-- Settles O49: the record released is the first of the releasable ones, and ranks are in the order of keys. -/
theorem mergerReleasesInKeyOrder : Obligations.MergerReleasesInKeyOrder := by
  intro s t e hgen
  obtain rfl : s.mergerRelease = t := Host.Outcome.next.inj e
  cases hfirst : firstRecord (s.ev.held.filter (s.releasable ·)) with
  | none =>
    have hnone := List.filter_eq_nil_iff.1 (firstRecord_eq_none.1 hfirst)
    exact .inl ⟨fun r hr => Bool.not_eq_true _ ▸ hnone r hr, State.mergerRelease_none hfirst⟩
  | some r =>
    obtain ⟨hmem, hmin⟩ := firstRecord_spec
      (fun a ha b hb => hgen a (List.mem_of_mem_filter ha) b (List.mem_of_mem_filter hb)) hfirst
    obtain ⟨hheld, hreleasable⟩ := List.mem_filter.1 hmem
    refine .inr ⟨r, hheld, hreleasable, fun x hx hxr => ?_, State.mergerRelease_some hfirst⟩
    have hrank := not_lt.2 (hmin x (List.mem_filter.2 ⟨hx, hxr⟩))
    rw [EvRec.rank_lt_iff] at hrank
    omega

end Sys2Proof
end

section
/-! PROOF. Where the unit operations complete and what they leave (R30–R34, R84, R86, R297, R374). -/

namespace Sys2Proof.Machine

/-- An admin command of a known opcode whose turn has come and whose reserved fields are 0 is carried out. -/
theorem State.adminRun_of_next {s : State} {a op : Nat} {d : TxDesc} (f : TxDesc → State) (hnext : s.adminNext a = some d)
    (hop : d.opcode = op) (hknown : s.opcodeKnown op = true) (hreserved : d.adminReserved = false) :
    s.adminRun a op f = f d := by
  simp [State.adminRun, hnext, hop, hknown, hreserved]

/-- The leaf that is back in service is no longer held; no mark changes. -/
theorem State.unitBack_un {s : State} {u : Nat} (h : s.un.resetting.contains u = true) (ho : u ≠ uOCXO) (ht : u ≠ uTCXO) :
    (s.unitBack u).un.resetting = s.un.resetting.filter (· != u) ∧ (s.unitBack u).un.retired = s.un.retired ∧
      (s.unitBack u).un.isolated = s.un.isolated := by
  have hgoes : ¬((!s.isResetting u || u == uOCXO || u == uTCXO) = true) := by
    simp only [State.isResetting, h, beq_iff_eq, Bool.or_eq_true, Bool.not_true, Bool.false_eq_true, ho, ht, or_self,
      not_false_eq_true]
  rw [State.unitBack, if_neg hgoes]
  extract_lets t gs un v w
  have hw : Keeps allFields 0x2306326 v w := by
    unfold w
    split
    · exact State.dpAfterReset_keeps (Keeps.refl _ _ v) (by decide +kernel) (Sub.refl _)
    · exact Keeps.refl _ _ v
  have hun : w.afterUnits.un = v.un :=
    ((State.afterUnits_keeps (Keeps.refl allFields 0x2022 w) (by decide +kernel) (Sub.refl _)).un rfl).trans (hw.un rfl)
  rw [hun]
  exact ⟨rfl, rfl, rfl⟩

/-- A crossing that resynchronises takes the next generation and runs. -/
theorem State.announceToken_synced {s : State} {x gen : Nat} (hstate : s.rd F.CLK_XING_STATUS_STATE x = 1) (hgen : gen < 256)
    (hnext : gen = (s.rd F.CLK_XING_STATUS_GENERATION x + 1) % 256) :
    (s.announceToken x gen).rd F.CLK_XING_STATUS_STATE x = 0 ∧
      (s.announceToken x gen).rd F.CLK_XING_STATUS_GENERATION x = gen := by
  have hgo : (gen % 256 = (s.rd F.CLK_XING_STATUS_GENERATION x + 1) % 256 && s.rd F.CLK_XING_STATUS_STATE x == 1) = true := by
    simp [hstate, ← hnext, Nat.mod_eq_of_lt hgen]
  rw [State.announceToken, if_pos hgo]
  simp only [State.info_rd, State.wrAll, List.foldl_cons, List.foldl_nil]
  refine ⟨by rw [State.rd_wr_self]; rfl, ?_⟩
  rw [State.rd_wr_ne _ (by decide), State.rd_wr_self]
  exact Nat.mod_eq_of_lt hgen

end Sys2Proof.Machine

namespace Sys2Proof

open Sys2Proof.Machine

/-- A bank's reset that does not reach the master's own unit completes: it shows RESETTING, and the unit has been reset. -/
theorem exec_unitReset_resets {bank : Fin 4} {u : Nat} {s : State} (hbusy : s.rd F.GLOBAL_UNIT_RESULT_BUSY bank ≠ 1)
    (h : s.opRefused opRESET u (bankMaster bank) = 0) (hown : ownReset opRESET u (bankMaster bank) = false) :
    ∃ t, exec (.unitReset bank u) s = .next t ∧ t.rd F.GLOBAL_UNIT_RESULT_CODE bank = 0 ∧
      t.rd F.GLOBAL_UNIT_RESULT_UNIT_STATUS bank = stRESETTING ∧ t.un = (s.unitReset u none).un := by
  have hlist := s.listChange_of_ne u (op := opRESET) (by decide) (by decide)
  have hdo : s.unitDo opRESET u (some bank.val) = s.unitReset u none := (State.unitDo_unlisted _ hlist).trans (if_pos rfl)
  obtain ⟨t, ht, hcode, hstatus, hkeeps⟩ := exec_unitCommand_result (p := (opRESET, .unitReset bank u))
    (by simp [unitCommands]) hbusy (State.unitOp_done _ h hown hlist)
  rw [hdo] at hkeeps
  rw [if_pos (State.unitExists_of_opRefused h)] at hstatus
  exact ⟨t, ht, hcode, hstatus, hkeeps.un rfl⟩

/-- The command and the operation code that set a mark: a retirement or an isolation. -/
def markCommand (bank : Fin 4) (u : Nat) (retire : Bool) : Nat × Instr :=
  if retire then (opRETIRE, .unitRetire bank u) else (opISOLATE, .unitIsolate bank u)

/-- A bank's retirement or isolation that changes no retire list completes: it shows the unit's status under the mark, and the
mark is set. -/
theorem exec_markCommand_marks {bank : Fin 4} {u : Nat} {retire : Bool} {s : State}
    (hbusy : s.rd F.GLOBAL_UNIT_RESULT_BUSY bank ≠ 1) (h : s.opRefused (markCommand bank u retire).1 u (bankMaster bank) = 0)
    (hlist : s.listChange (markCommand bank u retire).1 u = none) :
    ∃ t, exec (markCommand bank u retire).2 s = .next t ∧ t.rd F.GLOBAL_UNIT_RESULT_CODE bank = 0 ∧
      t.rd F.GLOBAL_UNIT_RESULT_UNIT_STATUS bank = (s.unitMark u retire).unitStatus u % 256 ∧
      t.un = (s.unitMark u retire).un := by
  have hmem : markCommand bank u retire ∈ unitCommands bank u := by cases retire <;> simp [markCommand, unitCommands]
  have hreset : (markCommand bank u retire).1 ≠ opRESET := by cases retire <;> simp [markCommand, opRETIRE, opISOLATE, opRESET]
  have hdo : s.unitDo (markCommand bank u retire).1 u (some bank.val) = s.unitMark u retire := by
    rw [State.unitDo_unlisted _ hlist]
    cases retire <;> simp [markCommand, opRETIRE, opISOLATE, opRESET]
  obtain ⟨t, ht, hcode, hstatus, hkeeps⟩ :=
    exec_unitCommand_result hmem hbusy (State.unitOp_done _ h (ownReset_of_ne hreset _ _) hlist)
  rw [hdo] at hkeeps
  rw [if_pos (State.unitExists_of_opRefused h), if_neg (by simpa using hreset), hdo] at hstatus
  exact ⟨t, ht, hcode, hstatus, hkeeps.un rfl⟩

/-- A UNIT_OP command whose operation awaits no commit completes with the operation's code and status. -/
theorem exec_unitOp_done {a : Fin 2} {s : State} {d : TxDesc} {op u : Nat} (hnext : s.adminNext a = some d)
    (hopcode : d.opcode = 5) (hreserved : d.adminReserved = false) (hop : op = bitsOf (d.param 0) 16 8)
    (hu : u = bitsOf (d.param 0) 0 16) (hrange : op ≤ 5) (hawaits : (s.unitOp op u 0 (some (4 + a))).2.2.2 = false) :
    exec (.unitOp a) s = .next (((s.unitOp op u 0 (some (4 + a))).1.adminDone a (s.unitOp op u 0 (some (4 + a))).2.1
      [(s.unitOp op u 0 (some (4 + a))).2.2.1]).notifyReview) := by
  subst hop hu
  have hrun : s.unitOpCmd a = _ := State.adminRun_of_next _ hnext hopcode rfl hreserved
  rw [if_neg (Nat.not_lt.2 hrange)] at hrun
  simp only [hawaits, Bool.false_eq_true, if_false] at hrun
  exact congrArg (fun t => Host.Outcome.next t.notifyReview) hrun

/-- The reset of a master's own unit, put off until its result was out, is carried out where nothing refuses it now. -/
theorem exec_ownUnitReset_resets {s : State} {u m : Nat} {l : List (Nat × Nat)} (h : s.un.deferred = (u, m) :: l)
    (hok : { s with un := { s.un with deferred := l } }.opRefused opRESET u m = 0) :
    exec .ownUnitReset s = .next (({ s with un := { s.un with deferred := l } }.unitReset u none).notifyReview) := by
  have hrun : s.ownUnitReset = { s with un := { s.un with deferred := l } }.unitReset u none := by
    simp only [State.ownUnitReset, h, hok, if_true]
  exact congrArg (fun t => Host.Outcome.next t.notifyReview) hrun

/-- Settles O9: each clause is the completion of its command, through the result that the six bank commands share. -/
theorem unitCommandsComplete : Obligations.UnitCommandsComplete := by
  refine ⟨fun a s d op u hnext hcode hres hop hu hrange hw => exec_unitOp_done hnext hcode hres hop hu hrange hw,
    fun bank u s hbusy h hown => exec_unitReset_resets hbusy h hown,
    fun bank u s hbusy h hlist => exec_markCommand_marks (retire := true) hbusy h hlist,
    fun bank u s hbusy h => exec_markCommand_marks (retire := false) hbusy h
      (s.listChange_of_ne u (op := opISOLATE) (by decide) (by decide)),
    fun bank u s hbusy h => exec_unitRelease_clears hbusy h,
    fun bank u s hbusy h hlist => exec_unitUnretire_clears hbusy h hlist,
    fun bank u s hbusy hex => exec_unitStatus_reads hbusy hex,
    fun u s h ho ht => ?_,
    fun s u m l h hok => exec_ownUnitReset_resets h hok,
    fun x gen s hstate hgen hnext => ⟨_, rfl, State.announceToken_synced hstate hgen hnext⟩⟩
  have hun : (s.unitBack u).notifyReview.un = (s.unitBack u).un :=
    (State.notifyReview_keeps (Keeps.refl allFields 0x104000 _) (by decide +kernel) (Sub.refl _)).un rfl
  exact ⟨(s.unitBack u).notifyReview, rfl, by rw [hun]; exact State.unitBack_un h ho ht⟩

end Sys2Proof
end

section
/-! PROOF. The counter, the commit ticks and the series of epochs (R14–R16, R20, R21): the rules of their operations. -/

namespace Sys2Proof.Machine

/-! The counter. -/

theorem lt_nextBoundary {p : Nat} (hp : 0 < p) (t : Nat) : t < nextBoundary p t := by
  rw [nextBoundary, Nat.mul_comm]
  exact Nat.lt_mul_div_succ t hp

theorem State.now_le_boundary (s : State) {p : Nat} (hp : 0 < p) (last : Option Nat) : s.now ≤ s.boundary p last := by
  unfold State.boundary
  split
  · exact le_rfl
  · exact (lt_nextBoundary hp s.now).le

@[simp] theorem State.advanceTo_regs (s : State) (t : Nat) : (s.advanceTo t).regs = s.regs := by
  unfold State.advanceTo
  split_ifs <;> rfl

/-- A running counter, lost or not, is brought to the time asked for. -/
theorem State.now_advanceTo {s : State} {t : Nat} (hrun : s.tm.running = true) (ht : s.now ≤ t) : (s.advanceTo t).now = t := by
  rcases ht.eq_or_lt with rfl | hlt
  · rw [State.advanceTo, if_neg (by simp)]
  · rw [State.advanceTo, if_pos ⟨hrun, hlt⟩]
    split_ifs with hlost
    · simp [State.now, TimeSt.value, hlost]
    · simp [State.now, TimeSt.value, hlost, TimeSt.majority]

/-! The commit ticks with no write waiting. -/

/-- The commit point after a tick at which no write waits. -/
def State.tickIdle (s : State) : State := { s with cp := { s.cp with queue := [], written := [] } }

theorem State.applyQueue_idle {s : State} (h : s.cp.queue = []) : s.applyQueue = s.tickIdle := by
  have hnone : byMaster [] = [] := rfl
  simp only [State.applyQueue, h, hnone]
  rfl

theorem State.commitTick_idle {s : State} (hrun : s.tm.running = true) (h : s.cp.queue = []) :
    s.commitTick = (s.advanceTo (nextBoundary unitsPerUs s.now)).tickIdle := by
  have hcp := (State.advanceTo_keeps (x1 := nextBoundary unitsPerUs s.now) (Keeps.refl 0 0x10 s) (Sub.refl _)).cp rfl
  rw [State.commitTick, if_pos hrun, State.applyQueue_idle (by rw [hcp, h])]

theorem State.provisionalTick_idle {s : State} (hrun : s.tm.running = false) (h : s.cp.queue = []) :
    s.provisionalTick = s.tickIdle := by
  rw [State.provisionalTick, if_neg (by simp [hrun]), State.applyQueue_idle h]

/-! Faults. -/

/-- A fault counts once for its source, whatever follows from it. -/
theorem State.raiseAt_count (s : State) (c : Cause) (time : Nat) : (s.raiseAt c time).rd F.FLT_SRC_STAT_COUNT c.source =
    satTo 16 (s.rd F.FLT_SRC_STAT_COUNT c.source + 1) := by
  have hcount := s.rd_bump_self F.FLT_SRC_STAT_COUNT c.source
  have hkeep : ∀ {t u : State}, Keeps (allFields ^^^ 2 ^ F.FLT_SRC_STAT_COUNT.id) (partMask faultParts) t u →
      u.rd F.FLT_SRC_STAT_COUNT c.source = t.rd F.FLT_SRC_STAT_COUNT c.source :=
    fun h => h.rd _ _ (partMask_regs _) (by decide +kernel)
  unfold State.raiseAt
  extract_lets s1 s2 sev s4 p s6
  change s1.rd _ _ = _ at hcount
  rw [← show F.FLT_SRC_STAT_COUNT.width = 16 from rfl, ← hcount]
  refine hkeep ?_
  have h4 : Keeps (allFields ^^^ 2 ^ F.FLT_SRC_STAT_COUNT.id) (partMask faultParts) s1 s4 :=
    State.bump_keeps (Keeps.refl _ _ _) (by decide +kernel)
  have h6 : Keeps (allFields ^^^ 2 ^ F.FLT_SRC_STAT_COUNT.id) (partMask faultParts) s1 s6 :=
    State.emitAtGen_keeps (State.latchFault_keeps h4 (by decide +kernel) (by decide +kernel)) (by decide +kernel)
  split
  · exact State.emitAtGen_keeps (State.bump_keeps (State.bump_keeps (Keeps.refl _ _ _) (by decide +kernel)) (by decide +kernel))
      (by decide +kernel)
  · split_ifs
    · exact State.emitAtGen_keeps h4 (by decide +kernel)
    · exact State.startReaction_keeps h6 (by decide +kernel) (by decide +kernel)
    · exact h6

theorem State.fault_count (s : State) (n u a b : Nat) : (s.fault n u a b).rd F.FLT_SRC_STAT_COUNT n =
    satTo 16 (s.rd F.FLT_SRC_STAT_COUNT n + 1) := s.raiseAt_count { source := n, unit := u, itemA := a, itemB := b } s.now

theorem State.fault_ep (s : State) (n u a b : Nat) : (s.fault n u a b).ep = s.ep :=
  (State.fault_keeps (Keeps.refl allFields (partMask faultParts) s) (by decide +kernel) (by decide +kernel)).ep rfl

/-! Decision and provisional epochs. -/

/-- Register fields that what comes into force at a boundary, and the stage conditions decided there, may write. -/
def epochFields : List Fld :=
  [F.CLK_MUX_STATUS_GATED, F.CLK_MUX_STATUS_PENDING,
    F.CLK_MUX_STATUS_INPUT, F.CLK_BASE_STATUS_APLL0_LOCKED, F.CLK_BASE_STATUS_TK_ON_PATH, F.CLK_BASE_STATUS_MOVING,
    F.CLK_BASE_STATUS_MOVE_PENDING, F.CLK_STAGE_STATUS_STAGE, F.CLK_STAGE_STATUS_LAST_DOWN_CAUSE, F.CLK_XING_STATUS_STATE,
    F.QM_STATUS_STATE, F.QM_STATUS_CAUSE, F.DP_STATUS_EVER_LOCKED, F.DP_STATUS_LOCK_OK, F.DP_STATUS_SLOPE_LIMITED,
    F.DP_STATUS_STATE, F.DP_COUNTS_SWITCHES, F.OUT_DIV_ACTIVE_DIV, F.OUT_DIV_ACTIVE_PRESCALE, F.OUT_SHUTTERS_COUNT,
    F.APLL_STATUS_LOCKED, F.SYNTH_COMMIT_STATUS_FIRST_BAD, F.SYNTH_COMMIT_STATUS_REASON, F.SYNTH_COMMIT_STATUS_RESULT,
    F.SYNTH_COMMIT_STATUS_SEQ, F.TIME_STATUS_DPLL, F.TIME_STATUS_VALID, F.PK_STATUS_ANN_GRANTED, F.PK_STATUS_DRESP_GRANTED,
    F.PK_STATUS_SYNC_GRANTED, F.PK_STATUS_STATE, F.PK_WINDOW_SPREAD_NS, F.PK_WINDOW_N_REV, F.PK_WINDOW_N_FWD,
    F.HOST_MSIX_SENT_COUNT, F.PEER_STATUS_CLAIM_OUT, F.PEER_STATUS_PAIR_STATE, F.GLOBAL_STAGE_CHANGES]

/-- Parts of the state that what comes into force at a boundary, and what is decided there, may change beside the commit
point. -/
def boundaryParts : List Part :=
  [.ev, .flt, .pr, .hs, .out, .freeCtr, .un, .tm, .ck, .dp, .at_, .td, .ql, .tr, .sy, .sv, .pk, .ep]

/-- The epoch is counted. -/
def State.countEpoch (s : State) : State :=
  { s with cp := { s.cp with epochs := s.cp.epochs + 1 }, flt := { s.flt with onceThisEpoch := [] } }

/-- What comes into force at a boundary, after the results of the epoch before: stage, configuration, commits, shutters, a
handover's release, a base move that waits. -/
def State.takeBoundary (s : State) : State :=
  let t := ((s.takeStage.takeConfig.commitValidate).syncShutters.settleShutters).handoverRelease
  (t.when (t.rdB F.CLK_BASE_STATUS_MOVE_PENDING && t.rdB F.CLK_BASE_CFG_AUTO_MOVE) (·.baseMove)).noteLocked_

/-- What an epoch decides once its boundary's changes are in force. -/
def State.epochDecisions (s : State) : State :=
  let t := (s.deferred State.evaluate).stageEpoch
  (t.orderStep (nextBoundary unitsPerEpoch t.now)).notifyReview

theorem State.epochWork_eq (s : State) : s.epochWork = s.countEpoch.applyEffects.takeBoundary.epochDecisions := rfl

theorem State.applyEffects_idle {s : State} (h : s.ep.effects = []) :
    s.applyEffects = { s with ep := { s.ep with effects := [] } } := by
  simp only [State.applyEffects, h, List.foldl_nil]

variable {S M : Nat} {s t : State}

theorem State.takeBoundary_keeps (h : Keeps S M s t) (hS : Sub (fieldMask epochFields) S) (hM : Sub (partMask boundaryParts) M) :
    Keeps S M s t.takeBoundary := by
  have hconfig := State.takeConfig_keeps (State.takeStage_keeps h (hS.tr (by decide +kernel)) (hM.tr (by decide +kernel)))
    (hS.tr (by decide +kernel)) (hM.tr (by decide +kernel))
  have hcommit := State.commitValidate_keeps hconfig (hS.tr (by decide +kernel)) (hM.tr (by decide +kernel))
  have hshut := State.settleShutters_keeps
    (State.syncShutters_keeps hcommit (hS.tr (by decide +kernel)) (hM.tr (by decide +kernel))) (hM.tr (by decide +kernel))
  have hrelease := State.handoverRelease_keeps hshut (hS.tr (by decide +kernel)) (hM.tr (by decide +kernel))
  exact State.noteLocked__keeps (Keeps.when hrelease fun u hu =>
    State.baseMove_keeps hu (hS.tr (by decide +kernel)) (hM.tr (by decide +kernel))) (hM.tr (by decide +kernel))

/-- An evaluation on the snapshot changes no register field: what it decided for the registers waits. -/
theorem State.deferred_keeps_regs {f : State → State} {S' : Nat} (h : Keeps S M s t) (hM : Sub P.ep M)
    (hf : ∀ u, Keeps S' (M ||| P.regs) s u → Keeps S' (M ||| P.regs) s (f u)) (hS : Sub S S') :
    Keeps S M s (t.deferred f) :=
  { State.deferred_keeps (h.mono hS (Sub.refl M)) hM hf with regs := h.regs }

theorem State.epochDecisions_keeps (h : Keeps S M s t) (hS : Sub (fieldMask epochFields) S)
    (hM : Sub (partMask (.cp :: boundaryParts)) M) : Keeps S M s t.epochDecisions := by
  have heval : Keeps S M s (t.deferred State.evaluate) := by
    refine State.deferred_keeps_regs (S' := S ||| allFields) h (hM.tr (by decide +kernel)) (fun u hu => ?_) (Sub.left _ _)
    exact State.evaluate_keeps hu (Sub.tr (Nat.or_comm S allFields ▸ Sub.left allFields S) (by decide +kernel))
      ((Sub.left M _).tr (hM.tr (by decide +kernel)))
  have hstage := State.stageEpoch_keeps heval (hS.tr (by decide +kernel)) (hM.tr (by decide +kernel))
  exact State.notifyReview_keeps (State.orderStep_keeps hstage (hM.tr (by decide +kernel)))
    (hS.tr (by decide +kernel)) (hM.tr (by decide +kernel))

/-- An epoch at which nothing decided before waits to take effect. -/
theorem State.epochWork_keeps_idle (h : Keeps S M s t) (heff : t.ep.effects = []) (hS : Sub (fieldMask epochFields) S)
    (hM : Sub (partMask (.cp :: boundaryParts)) M) : Keeps S M s t.epochWork := by
  have hcount : Keeps S M s t.countEpoch := Keeps.to_cp_flt h (hM.tr (by decide +kernel))
  rw [State.epochWork_eq, State.applyEffects_idle (s := t.countEpoch) heff]
  exact State.epochDecisions_keeps (State.takeBoundary_keeps (Keeps.to_ep hcount (hM.tr (by decide +kernel))) hS
    (hM.tr (by decide +kernel))) hS hM

/-! The count of epochs. -/

theorem State.checkPair_epochs (s : State) (k : Nat) : (s.checkPair k).cp.epochs = s.cp.epochs := by
  unfold State.checkPair
  extract_lets now was later
  split_ifs <;> rfl

/-- An evaluation checks pairs, and changes nothing else of the commit point. -/
theorem State.evaluate_epochs (s : State) : s.evaluate.cp.epochs = s.cp.epochs := by
  have hpairs : s.checkPairs.cp.epochs = s.cp.epochs := 
    State.forAll_inv (fun t => t.cp.epochs) pairCount _ s fun k t => t.checkPair_epochs k
  have hrest : Keeps allFields (partMask boundaryParts) s.checkPairs s.evaluate :=
    State.servoEpochs_keeps (State.svcEpoch_keeps (State.esmcEpoch_keeps (State.dpllEpochs_keeps (State.treeEpoch_keeps
      (State.qualEpoch_keeps (Keeps.refl _ _ _) (by decide +kernel) (by decide +kernel)) (by decide +kernel) (by decide +kernel))
      (by decide +kernel) (by decide +kernel)) (by decide +kernel) (by decide +kernel)) (by decide +kernel) (by decide +kernel))
      (by decide +kernel) (by decide +kernel)
  rw [hrest.cp (partMask_testBit _ .cp (by decide)), hpairs]

theorem State.deferred_cp (s : State) (f : State → State) : (s.deferred f).cp = (f s).cp := rfl

theorem State.epochDecisions_epochs (s : State) : s.epochDecisions.cp.epochs = s.cp.epochs := by
  have hrest : Keeps allFields (partMask boundaryParts) (s.deferred State.evaluate) s.epochDecisions :=
    State.notifyReview_keeps (State.orderStep_keeps (State.stageEpoch_keeps (Keeps.refl _ _ _) (by decide +kernel)
      (by decide +kernel)) (by decide +kernel)) (by decide +kernel) (by decide +kernel)
  calc s.epochDecisions.cp.epochs
      _ = (s.deferred State.evaluate).cp.epochs := by rw [hrest.cp (partMask_testBit _ .cp (by decide))]
      _ = s.evaluate.cp.epochs := by rw [State.deferred_cp]
      _ = s.cp.epochs := s.evaluate_epochs

theorem State.epochWork_epochs (heff : s.ep.effects = []) : s.epochWork.cp.epochs = s.cp.epochs + 1 := by
  have hcp : s.countEpoch.applyEffects.cp = s.countEpoch.cp := by rw [State.applyEffects_idle (s := s.countEpoch) heff]
  have hboundary := State.takeBoundary_keeps (Keeps.refl allFields (partMask boundaryParts) s.countEpoch.applyEffects)
    (by decide +kernel) (Sub.refl _)
  rw [State.epochWork_eq, State.epochDecisions_epochs, hboundary.cp (partMask_testBit _ .cp (by decide)), hcp]
  rfl

end Sys2Proof.Machine
end

section
/-! PROOF. Where the commands of register writes, ticks, epochs and the merger complete (R12, R14–R16, R20, R21, R28,
R173–R175, R259). -/

namespace Sys2Proof.Machine

/-! The service and model epochs and the hourly point: the time they leave. -/

/-- The time part after the counter has been brought to the next boundary of a series. -/
def State.tmAt (s : State) (p : Nat) (last : Option Nat) : TimeSt := (s.advanceTo (s.boundary p last)).tm

theorem State.tmAt_value {s : State} {p : Nat} (hp : 0 < p) (last : Option Nat) (hrun : s.tm.running = true) :
    (s.tmAt p last).value = s.boundary p last := State.now_advanceTo hrun (s.now_le_boundary hp last)

theorem State.serviceEpoch_tm {s : State} (hrun : s.tm.running = true) : s.serviceEpoch.tm =
    { s.tmAt unitsPerService s.tm.lastService with lastService := some (s.tmAt unitsPerService s.tm.lastService).value } := by
  rw [State.serviceEpoch, if_pos hrun]
  exact (State.mirrorSend_keeps (State.servoService_keeps (State.serverEpoch_keeps (Keeps.refl allFields 0x334026 _)
    (by decide +kernel) (by decide +kernel)) (by decide +kernel) (by decide +kernel)) (by decide +kernel) (by decide +kernel)).tm rfl

theorem State.servoModels_models (s : State) : s.servoModels.ep.models = s.ep.models := by
  unfold State.servoModels
  extract_lets rate t ep
  have ht : Keeps allFields 0x20800 s t := Keeps.forAll (Keeps.refl _ _ s) fun k u hu =>
    State.servoModel_keeps hu (by decide +kernel) (by decide +kernel)
  clear_value t
  show t.ep.models = s.ep.models
  rw [ht.ep rfl]

/-- A model epoch leaves its time and its number; the counter stands at its boundary. -/
theorem State.modelEpoch_leaves {s : State} (hrun : s.tm.running = true) :
    s.modelEpoch.tm.lastModel = some (s.tmAt unitsPerSec s.tm.lastModel).value ∧ s.modelEpoch.ep.models = s.ep.models + 1 := by
  have hadvance := State.advanceTo_keeps (x1 := s.boundary unitsPerSec s.tm.lastModel) (Keeps.refl 0 0x10 s) (Sub.refl _)
  rw [State.modelEpoch, if_pos hrun]
  extract_lets t1 tm ep t2 t3 t4
  have h3 : Keeps allFields 0x306526 t2 t3 := Keeps.forAll (Keeps.refl _ _ t2) fun d u hu =>
    State.holdEpoch_keeps hu (by decide +kernel) (by decide +kernel)
  have hrates : Keeps allFields 0x1400 t3 (State.forAll 28 (fun c t => t.channelRate c) t3.adaptMixes) :=
    Keeps.forAll (State.adaptMixes_keeps (Keeps.refl _ _ t3) (by decide +kernel)) fun c u hu =>
      State.channelRate_keeps hu (by decide +kernel) (by decide +kernel)
  have h4 : t4.tm = t3.tm := (State.servoModels_keeps (hrates.mono (Sub.refl _) (show Sub 0x1400 0xa1c00 by decide +kernel))
    (by decide +kernel) (by decide +kernel)).tm rfl
  have h4' : t4.ep.models = t3.ep.models := (State.servoModels_models _).trans (congrArg EpochSt.models (hrates.ep rfl))
  have h5 : Keeps allFields 0x100022 t4 (t4.ownDigest t4.cfgDigest) :=
    State.ownDigest_keeps (Keeps.refl _ _ t4) (by decide +kernel) (by decide +kernel)
  rw [h5.tm rfl, h5.ep rfl, h4, h4', h3.tm rfl, h3.ep rfl]
  exact ⟨rfl, congrArg (·.models + 1) (hadvance.ep rfl)⟩

theorem State.hourlyPoint_tm {s : State} (hrun : s.tm.running = true) : s.hourlyPoint.tm =
    { s.tmAt (3600 * unitsPerSec) s.tm.lastHour with lastHour := some (s.tmAt (3600 * unitsPerSec) s.tm.lastHour).value } := by
  rw [State.hourlyPoint, if_pos hrun]
  exact (Keeps.forAll (Keeps.refl allFields 0x2800300 _) fun d u hu => State.commitSummary_keeps
    (State.hourPoint_keeps hu (by decide +kernel) (by decide +kernel)) (by decide +kernel)).tm rfl

/-- A missed deadline counts as a fault of source 2, and drops what a decision epoch had decided. -/
theorem State.epochMiss_leaves (s : State) (k : Nat) :
    (s.epochMiss k).rd F.FLT_SRC_STAT_COUNT 2 = satTo 16 (s.rd F.FLT_SRC_STAT_COUNT 2 + 1) ∧
      (s.epochMiss k).ep.effects = if k = 1 then [] else s.ep.effects := by
  unfold State.epochMiss
  extract_lets at_ ep t
  have hregs : t.regs = s.regs := by unfold t; split_ifs <;> rfl
  rw [State.fault_count, State.fault_ep, State.rd_congr hregs]
  refine ⟨rfl, ?_⟩
  unfold t
  split_ifs <;> rfl

/-! A decision and a provisional epoch with no write and no result waiting. -/

/-- The counter at the boundary of a decision epoch: no step is made and no write applies on the way. -/
theorem State.toEpoch_idle {s : State} (hstep : s.tm.stepEpoch = false) (hord : s.tm.ordered = none) (hq : s.cp.queue = []) :
    s.toEpoch = s.advanceTo (s.boundary unitsPerEpoch s.tm.lastEpoch) := by
  rw [State.toEpoch, if_neg (by simp [hstep]), hord]
  simp only [hq, List.isEmpty_nil, Bool.not_true, Bool.false_and]
  rfl

/-- The state in which a decision epoch's work begins, with no step ordered and no write waiting. -/
def State.epochStart (s : State) : State :=
  let t := s.advanceTo (s.boundary unitsPerEpoch s.tm.lastEpoch)
  { t with tm := { t.tm with lastEpoch := some t.now } }

theorem State.epochStart_keeps (s : State) : Keeps 0 (partMask [.tm]) s s.epochStart :=
  Keeps.to_tm (State.advanceTo_keeps (Keeps.refl _ _ s) (by decide +kernel)) (by decide +kernel)

theorem State.decisionEpoch_idle {s : State} (hrun : s.tm.running = true) (hstep : s.tm.stepEpoch = false)
    (hord : s.tm.ordered = none) (hq : s.cp.queue = []) : s.decisionEpoch = s.epochStart.epochWork := by
  rw [State.decisionEpoch, if_pos hrun, State.toEpoch_idle hstep hord hq]
  rfl

theorem State.provisionalEpoch_idle {s : State} (hrun : s.tm.running = false) (hstage : s.stage ≠ 0) (hq : s.cp.queue = []) :
    s.provisionalEpoch = s.tickIdle.epochWork := by
  rw [State.provisionalEpoch, if_neg (by simp [hrun, hstage]), State.provisionalTick_idle hrun hq]

/-! The fabric's supply (R12). -/

/-- The supply that an update asks for, within its range. -/
def vfabNext (slack : Nat) (steady : Bool) (v : Nat) : Nat :=
  max 720 (min 880 (if slack < 25 then v + 4 else if 40 < slack ∧ steady = true then v - 4 else v))

theorem State.vfabUpdate_fabric {s : State} {slack : Nat} {steady : Bool} (hstage : s.stage ≠ 0) (hslack : slack < 128) :
    (s.vfabUpdate slack steady).rd F.GLOBAL_FABRIC_SLACK_PCT = slack ∧
      (s.vfabUpdate slack steady).rd F.GLOBAL_FABRIC_VFAB_MV = vfabNext slack steady (s.rd F.GLOBAL_FABRIC_VFAB_MV) := by
  rw [State.vfabUpdate, if_neg (by simp [hstage])]
  extract_lets v top v1 v2 t
  have hkeeps : Keeps (fieldMask faultFields) (partMask faultParts) t (t.when (slack < 10 && top) (·.fault 6 uMODULE slack v2)) :=
    Keeps.when (Keeps.refl _ _ t) fun u hu => State.fault_keeps hu (by decide +kernel) (by decide +kernel)
  have hv2 : v2 = vfabNext slack steady (s.rd F.GLOBAL_FABRIC_VFAB_MV) := by
    unfold v2 v1 v vfabNext
    simp only [Bool.and_eq_true, decide_eq_true_eq]
  have hv2lt : v2 < 2 ^ 16 := by unfold v2; omega
  rw [hkeeps.rd F.GLOBAL_FABRIC_SLACK_PCT 0 (partMask_regs _) (by decide +kernel),
    hkeeps.rd F.GLOBAL_FABRIC_VFAB_MV 0 (partMask_regs _) (by decide +kernel), ← hv2]
  unfold t State.wrAll
  simp only [List.foldl_cons, List.foldl_nil]
  rw [State.rd_wr_self, State.rd_wr_ne _ (by decide), State.rd_wr_self]
  exact ⟨Nat.mod_eq_of_lt (show slack < 256 by omega), Nat.mod_eq_of_lt hv2lt⟩

/-! The merger. -/

/-- A merger in service holds a record that comes. -/
theorem State.hold_inService {s : State} (r : EvRec) (h : s.inService uMERGER = true) : s.hold r =
    { s with ev := { s.ev with held := { r with order := s.ev.produced, late := s.isLate r } :: s.ev.held,
                               produced := s.ev.produced + 1 } } := by
  simp only [State.inService, Bool.and_eq_true, Bool.not_eq_true'] at h
  obtain ⟨⟨hretired, hisolated⟩, -⟩ := h
  rw [State.hold, if_neg (by simp [hretired, hisolated])]

/-- With no record released yet, no record comes late. -/
theorem State.isLate_first {s : State} (h : s.ev.lastKey = none) (r : EvRec) : s.isLate r = false := by
  simp only [State.isLate, h]

/-- A record that comes before any was released waits in the merger. -/
theorem State.mergerRecordIn_first {s : State} {n u sv d time gen : Nat} (hin : s.inService uMERGER = true)
    (hfirst : s.ev.lastKey = none) : (s.mergerRecordIn n u sv d time gen).ev = { s.ev with
      held := { gen := gen, time := time, source := n, unit := u, severity := sv, conseq := false, late := false,
                detail := d, bound := s.boundFor time, order := s.ev.produced } :: s.ev.held
      produced := s.ev.produced + 1 } := by
  rw [State.mergerRecordIn, if_neg (by simp [hin])]
  extract_lets r t
  have hin' : t.inService uMERGER = true := hin
  have hfirst' : t.ev.lastKey = none := hfirst
  rw [if_neg (by rw [State.isLate_first hfirst']; decide), State.hold_inService r hin', State.isLate_first hfirst']
  rfl

end Sys2Proof.Machine

namespace Sys2Proof

open Sys2Proof.Machine

/-- Settles O8: each clause is the rule of its command's operation. -/
theorem blockCommandsComplete : Obligations.BlockCommandsComplete := by
  refine ⟨fun m a v s => ⟨_, rfl, rfl, rfl⟩, fun s hrun hq => ⟨_, rfl, ?_⟩, fun s hrun hq => ⟨_, rfl, ?_⟩,
    fun s hrun hstage hq heff => ⟨_, rfl, ?_⟩, fun s hrun hstep hord hq heff => ⟨_, rfl, ?_⟩, fun k s => ⟨_, rfl, ?_⟩,
    fun s hrun => ⟨_, rfl, ?_⟩, fun s hrun => ⟨_, rfl, ?_⟩, fun s hrun => ⟨_, rfl, ?_⟩,
    fun slack steady s hstage hslack => ⟨_, rfl, State.vfabUpdate_fabric hstage hslack⟩,
    fun n u d time gen sv s hin hfirst => ⟨_, rfl, ?_⟩,
    fun s r h => congrArg Host.Outcome.next (State.mergerRelease_some h)⟩
  case refine_1 =>
    have hkeeps := State.advanceTo_keeps (x1 := nextBoundary unitsPerUs s.now) (Keeps.refl 0 0x10 s) (Sub.refl _)
    rw [State.commitTick_idle hrun hq]
    exact ⟨State.now_advanceTo hrun (lt_nextBoundary (by decide) _).le, s.advanceTo_regs _, hkeeps.at_ rfl⟩
  case refine_2 =>
    rw [State.provisionalTick_idle hrun hq]
    exact ⟨rfl, rfl, rfl⟩
  case refine_3 =>
    rw [State.provisionalEpoch_idle hrun hstage hq]
    exact State.epochWork_epochs heff
  case refine_4 =>
    have hkeeps := s.epochStart_keeps
    rw [State.decisionEpoch_idle hrun hstep hord hq, State.epochWork_epochs (by rw [hkeeps.ep rfl, heff]), hkeeps.cp rfl]
  case refine_5 =>
    have hk : (k = 1) = (k.val = 1) := propext Fin.ext_iff
    obtain ⟨hcount, heffects⟩ := s.epochMiss_leaves k
    exact ⟨hcount, by simp only [heffects, hk]⟩
  case refine_6 =>
    have hvalue := State.tmAt_value (show 0 < unitsPerService by decide) s.tm.lastService hrun
    rw [State.now, State.serviceEpoch_tm hrun, ← hvalue]
    exact ⟨rfl, rfl⟩
  case refine_7 =>
    obtain ⟨htime, hmodels⟩ := State.modelEpoch_leaves hrun
    exact ⟨hmodels, htime.trans (congrArg some (State.tmAt_value (by decide) _ hrun))⟩
  case refine_8 =>
    rw [State.hourlyPoint_tm hrun]
    exact congrArg some (State.tmAt_value (by decide) _ hrun)
  case refine_9 =>
    rw [State.mergerRecordIn_first hin hfirst]
    exact ⟨rfl, _, .head _, rfl, rfl, rfl, rfl, rfl, rfl, rfl, rfl⟩

end Sys2Proof
end

section
/-! PROOF. Frames of the ticks, the epochs and the reads where no write waits (R15–R20, R373, R379). -/

namespace Sys2Proof.Machine

variable {S M : Nat} {s t : State}

/-! The ticks. -/

theorem State.commitTick_keeps_idle (h : Keeps S M s t) (hq : t.cp.queue = []) (hM : Sub (partMask [.cp, .tm]) M) :
    Keeps S M s t.commitTick := by
  cases hrun : t.tm.running with
  | false => rwa [State.commitTick, if_neg (by simp [hrun])]
  | true =>
    rw [State.commitTick_idle hrun hq]
    exact Keeps.to_cp (State.advanceTo_keeps h (hM.tr (by decide +kernel))) (hM.tr (by decide +kernel))

theorem State.provisionalTick_keeps_idle (h : Keeps S M s t) (hq : t.cp.queue = []) (hM : Sub (partMask [.cp]) M) :
    Keeps S M s t.provisionalTick := by
  cases hrun : t.tm.running with
  | false =>
    rw [State.provisionalTick_idle hrun hq]
    exact Keeps.to_cp h (hM.tr (by decide +kernel))
  | true => rwa [State.provisionalTick, if_pos hrun]

/-! The epochs. -/

theorem State.decisionEpoch_keeps_idle (hq : s.cp.queue = []) (heff : s.ep.effects = []) (hstep : s.tm.stepEpoch = false)
    (hord : s.tm.ordered = none) : Keeps (fieldMask epochFields) (partMask (.cp :: boundaryParts)) s s.decisionEpoch := by
  cases hrun : s.tm.running with
  | false =>
    rw [State.decisionEpoch, if_neg (by simp [hrun])]
    exact Keeps.refl _ _ s
  | true =>
    have hstart := s.epochStart_keeps
    rw [State.decisionEpoch_idle hrun hstep hord hq]
    exact State.epochWork_keeps_idle (hstart.mono (Nat.zero_or _) (by decide +kernel)) (by rw [hstart.ep rfl, heff])
      (Sub.refl _) (Sub.refl _)

theorem State.provisionalEpoch_keeps_idle (hq : s.cp.queue = []) (heff : s.ep.effects = []) :
    Keeps (fieldMask epochFields) (partMask (.cp :: boundaryParts)) s s.provisionalEpoch := by
  by_cases hidle : (s.tm.running || s.stage == 0) = true
  · rw [State.provisionalEpoch, if_pos hidle]
    exact Keeps.refl _ _ s
  · obtain ⟨hrun, hstage⟩ : s.tm.running = false ∧ s.stage ≠ 0 := by simpa using hidle
    rw [State.provisionalEpoch_idle hrun hstage hq]
    exact State.epochWork_keeps_idle (Keeps.to_cp (Keeps.refl _ _ s) (by decide +kernel)) heff (Sub.refl _) (Sub.refl _)

/-! Reads. -/

/-- A master with none of its own writes waiting is served at once (R19). -/
theorem State.readReady_idle {m : Nat} (h : (s.cp.queue.any fun w => w.master == m) = false) : s.readReady m = s := by
  rw [State.readReady, if_neg (by simp [h])]

/-- Register fields that a register read may write: the counters and flags that it clears, the staging offset that it advances,
and its outcome. -/
def readFields : List Fld :=
  [F.CLK_XING_STATUS_RETIRED_COUNT, F.SVC_TBL_STATUS_DIRECT, F.ATTIC_MB_ADDR_OFFSET, F.GLOBAL_ACCESS_STATUS_REFUSED,
    F.GLOBAL_ACCESS_STATUS_RESULT, F.GLOBAL_ACCESS_ADDR_ADDR, F.GLOBAL_IGNORED_IGNORED, F.GLOBAL_IGNORED_RETIRED]

theorem State.smbBlockRead_keeps_idle {sa count : Nat} {data : List Nat}
    (h : (s.cp.queue.any fun w => w.master == 16) = false) :
    Keeps (fieldMask (readFields ++ [F.GLOBAL_SMB_STATUS_NACKS])) (partMask [.out, .freeCtr]) s
      (s.smbBlockRead sa count data) := by
  have hnack := State.smbNack_keeps (x1 := true) (Keeps.refl (fieldMask (readFields ++ [F.GLOBAL_SMB_STATUS_NACKS]))
    (partMask [.out, .freeCtr]) s) (by decide +kernel) (by decide +kernel)
  unfold State.smbBlockRead
  rw [State.readReady_idle h]
  extract_lets n p
  have hp : Keeps (fieldMask (readFields ++ [F.GLOBAL_SMB_STATUS_NACKS])) (partMask [.out, .freeCtr]) s p.1 :=
    State.readRun_keeps (Keeps.refl _ _ s) (by decide +kernel) (by decide +kernel)
  split_ifs
  · exact Keeps.refl _ _ s
  · exact hnack
  · exact Keeps.refl _ _ s
  · exact State.emitOut_keeps hp (by decide +kernel)

theorem State.tapRegacc_keeps_idle {write : Bool} {a v : Nat} (h : (s.cp.queue.any fun w => w.master == 18) = false) :
    Keeps (fieldMask (readFields ++ [F.IDENT_SP_STATUS_INSTRUCTION, F.IDENT_SP_STATUS_ACCESSES]))
      (partMask [.cp, .id_, .out, .freeCtr]) s (s.tapRegacc write a v) := by
  unfold State.tapRegacc
  extract_lets last t u p id_ v
  have ht : Keeps (fieldMask (readFields ++ [F.IDENT_SP_STATUS_INSTRUCTION, F.IDENT_SP_STATUS_ACCESSES]))
      (partMask [.cp, .id_, .out, .freeCtr]) s t :=
    State.emitOut_keeps (State.wr_keeps (Keeps.refl _ _ s) (by decide +kernel)) (by decide +kernel)
  have hu := State.bump_keeps (f := F.IDENT_SP_STATUS_ACCESSES) (i := 0) ht (by decide +kernel)
  have hready : u.readReady 18 = u := State.readReady_idle h
  have hp : Keeps (fieldMask (readFields ++ [F.IDENT_SP_STATUS_INSTRUCTION, F.IDENT_SP_STATUS_ACCESSES]))
      (partMask [.cp, .id_, .out, .freeCtr]) s p.1 := by
    unfold p
    rw [hready]
    exact State.readReg_keeps hu (by decide +kernel) (by decide +kernel)
  split_ifs
  · exact Keeps.refl _ _ s
  · exact ht
  · exact State.registerWrite_keeps hu (by decide +kernel)
  · exact Keeps.to_id_ hp (by decide +kernel)

end Sys2Proof.Machine

namespace Sys2Proof

open Sys2Proof.Machine

/-- The frame of an epoch's masks. -/
theorem changes_of_epochKeeps {s t : State} (h : Keeps (fieldMask epochFields) (partMask (.cp :: boundaryParts)) s t) :
    Changes epochFields (faultParts ++ [.cp, .un, .tm, .ck, .dp, .at_, .td, .ql, .tr, .sy, .sv, .pk, .ep]) s t :=
  Changes.of_keeps (h.mono (Sub.refl (fieldMask epochFields)) (by decide +kernel))

/-- Settles O58: each frame is the mask of what the command's operation may change with nothing waiting. -/
theorem ticksEpochsAndReadsFrames : Obligations.TicksEpochsAndReadsFrames := by
  refine ⟨fun s t hq e => ?_, fun s t hq e => ?_, fun s t hq heff e => ?_, fun sa count data s t h e => ?_,
    fun write a v s t h e => ?_⟩
  · obtain rfl : s.commitTick = t := Host.Outcome.next.inj e
    exact Changes.of_keeps (State.commitTick_keeps_idle (Keeps.refl _ _ s) hq (Sub.refl _))
  · obtain rfl : s.provisionalTick = t := Host.Outcome.next.inj e
    exact Changes.of_keeps (State.provisionalTick_keeps_idle (Keeps.refl _ _ s) hq (Sub.refl _))
  · rcases e with ⟨hstep, hord, e⟩ | e
    · obtain rfl : s.decisionEpoch = t := Host.Outcome.next.inj e
      exact changes_of_epochKeeps (State.decisionEpoch_keeps_idle hq heff hstep hord)
    · obtain rfl : s.provisionalEpoch = t := Host.Outcome.next.inj e
      exact changes_of_epochKeeps (State.provisionalEpoch_keeps_idle hq heff)
  · obtain rfl : s.smbBlockRead sa count data = t := Host.Outcome.next.inj e
    exact Changes.of_keeps (State.smbBlockRead_keeps_idle h)
  · obtain rfl : s.tapRegacc write a v = t := Host.Outcome.next.inj e
    exact Changes.of_keeps (State.tapRegacc_keeps_idle h)

end Sys2Proof
end

section
/-! PROOF. Power-down, the stage it leaves, the rail-off restart (R50, R51, R64, R360). -/

namespace Sys2Proof.Machine

/-! The last gasp. -/

theorem State.lastGasp_due {s : State} {t0 cause : Nat} (h : s.at_.gasp = some (t0, cause)) (pages us : Nat) :
    (s.lastGasp pages us).at_ = { (((s.stopCommit pages).writeSlot rtSHUTDOWN 0
      ((s.stopCommit pages).shutdownPayload t0 cause us)).flushLife.logPageWrite).at_ with gasp := none } := by
  simp only [State.lastGasp, h]

/-! The stage. -/

/-- Every register field but one. -/
def fieldsBut (f : Fld) : Nat := allFields ^^^ 2 ^ f.id

/-- Parts of the state that a stage change may change beside the registers. -/
def stageParts : List Part := [.ev, .un, .pr, .ck, .at_, .ql, .tr]

/-- A stage change leaves the module in the stage it names. -/
theorem State.stage_setStage (s : State) {n : Nat} (hn : n < 4) (row : Nat) : (s.setStage n row).stage = n := by
  unfold State.setStage
  extract_lets old s1 s2 s3 s4 s5 s6 everStage3 s7 s8 hourStage3 s9 s10
  split_ifs with h
  · exact h
  · have hwrite : s1.stage = n := by
      unfold s1
      rw [State.stage, State.bump, State.bumpBy, State.rd_wr_ne _ (by decide), State.rd_wr_self]
      exact Nat.mod_eq_of_lt hn
    have h4 : Keeps (fieldsBut F.CLK_STAGE_STATUS_STAGE) (partMask stageParts) s1 s4 :=
      Keeps.when (Keeps.when (State.info_keeps (Keeps.refl _ _ s1) (by decide +kernel)) fun _ hu =>
        State.clearTree_keeps hu (by decide +kernel)) fun _ hu =>
        State.applyRetireList_keeps hu (by decide +kernel) (by decide +kernel)
    have h6 : Keeps (fieldsBut F.CLK_STAGE_STATUS_STAGE) (partMask stageParts) s1 s6 :=
      Keeps.when (Keeps.when h4 fun _ hu => State.wr_keeps hu (by decide +kernel)) fun _ hu =>
        State.releaseClaim_keeps hu (by decide +kernel) (by decide +kernel)
    have h8 : Keeps (fieldsBut F.CLK_STAGE_STATUS_STAGE) (partMask stageParts) s1 s8 :=
      Keeps.when (Keeps.to_ck h6 (by decide +kernel)) fun _ hu => State.wr_keeps hu (by decide +kernel)
    have h10 : Keeps (fieldsBut F.CLK_STAGE_STATUS_STAGE) (partMask stageParts) s1 s10 :=
      Keeps.when (Keeps.to_at_ h8 (by decide +kernel) rfl rfl) fun _ hu => State.wr_keeps hu (by decide +kernel)
    rw [State.stage, (State.pairReview_keeps h10 (by decide +kernel) (by decide +kernel)).rd _ _ rfl (by decide +kernel)]
    exact hwrite

/-! Rail-off. -/

theorem State.railOff_leaves {s : State} (h : s.pw.powerDown = true) : s.railOff.stage = 0 ∧
    s.railOff.rd F.POWER_STATUS_RAILS_GOOD = 0 ∧ s.railOff.feedState 0 = fsOFF ∧ s.railOff.feedState 1 = fsOFF ∧
    s.railOff.rd F.PEER_STATUS_CLAIM_OUT = 0 ∧
    s.railOff.rd F.POWER_LOSS_COUNT_COUNT = satTo 32 (s.rd F.POWER_LOSS_COUNT_COUNT + 1) ∧
    s.railOff.tm.running = false ∧ s.railOff.pw.railOff = true := by
  rw [State.railOff, if_pos h]
  extract_lets s1 s2 s3 s4 s5
  have htrace : Keeps (fieldMask faultFields) (partMask faultParts) s s2 := by
    have h1 := State.porchTrace_keeps (x1 := 1) (x2 := 0) (Keeps.refl (fieldMask faultFields) (partMask faultParts) s)
      (by decide +kernel) (by decide +kernel)
    unfold s2
    split
    · exact State.porchTrace_keeps h1 (by decide +kernel) (by decide +kernel)
    · exact h1
  have hloss : s4.rd F.POWER_LOSS_COUNT_COUNT = satTo 32 (s.rd F.POWER_LOSS_COUNT_COUNT + 1) := by
    unfold s4 s3
    rw [State.setStage_rd (by decide +kernel), State.releaseClaim_rd (by decide +kernel), State.rd_bump_self,
      htrace.rd _ _ (partMask_regs _) (by decide +kernel)]
    rfl
  have hstage : s4.stage = 0 := State.stage_setStage _ (by decide) 8
  have h5 : s5.stage = s4.stage ∧ s5.rd F.POWER_STATUS_RAILS_GOOD = 0 ∧ s5.feedState 0 = fsOFF ∧ s5.feedState 1 = fsOFF ∧
      s5.rd F.PEER_STATUS_CLAIM_OUT = 0 ∧ s5.rd F.POWER_LOSS_COUNT_COUNT = s4.rd F.POWER_LOSS_COUNT_COUNT := by
    unfold s5
    clear_value s4
    simp +decide [State.wrAll, State.rd_wr_ne, State.rd_wr_idx, State.stage, State.feedState]
  clear_value s5
  rw [hstage, hloss] at h5
  obtain ⟨hstage, hrails, hfeed0, hfeed1, hclaim, hcount⟩ := h5
  exact ⟨hstage, hrails, hfeed0, hfeed1, hclaim, hcount, rfl, rfl⟩

/-! The restart after rail-off. -/

/-- A feed told to go to a state is in that state. -/
theorem State.feedState_feedGoes (s : State) (n : Nat) {st : Nat} (h : st < 16) : (s.feedGoes n st).feedState n = st := by
  unfold State.feedGoes
  split_ifs with hst
  · exact hst
  · rw [State.feedState, State.info_rd, State.noteRedundant_rd (by decide +kernel), State.rd_wr_self]
    exact Nat.mod_eq_of_lt h

theorem State.railOffRestart_qualifies {s : State} {n : Nat} (hoff : s.pw.railOff = true) (htrip : s.pw.thermalTrip = false)
    (hcfg : s.rd F.FEED_CFG_ENABLE n = 1) : (s.railOffRestart n).feedState n = fsQUALIFIED := by
  rw [State.railOffRestart, if_pos (by simp [hoff, htrip, State.rdB, hcfg])]
  exact State.feedState_feedGoes _ _ (by decide)

end Sys2Proof.Machine
end

section
/-! PROOF. Temperatures, the thermal trip, the internal rails and VBAT (R52, R53). -/

namespace Sys2Proof.Machine

/-- A two's complement value fits its width. -/
theorem ofSigned_lt (w : Nat) (i : Int) : ofSigned w i < 2 ^ w := by
  have hpos : ((2 ^ w : Nat) : Int) ≠ 0 := by positivity
  have hlow := Int.emod_nonneg i hpos
  have hhigh := Int.emod_lt_of_pos i (show (0 : Int) < (2 ^ w : Nat) by positivity)
  unfold ofSigned
  omega

/-- A field written from an integer reads its two's complement, held to the field's range. -/
theorem State.rd_wrI_self (s : State) (f : Fld) (i : Nat) (v : Int) :
    (s.wrI f i v).rd f i = ofSigned f.width (clampSigned f.width v) := by
  rw [State.wrI, State.rd_wr_self, Nat.mod_eq_of_lt (ofSigned_lt _ _)]

theorem State.rd_wrI_ne (s : State) {f g : Fld} (h : g.id ≠ f.id) (i j : Nat) (v : Int) : (s.wrI f i v).rd g j = s.rd g j :=
  State.rd_wr_ne s h i j _

/-! A temperature sample. -/

/-- What a temperature sample puts into its telemetry registers (R52). -/
def State.thermalTelemetry (s : State) (plate die ocxo : Int) (vbat railMv railMa : Nat) : State :=
  (((s.wrI F.POWER_TEMP_PLATE_TEMP 0 plate).wrI F.POWER_TEMP_DIE_TEMP 0 die).wrI F.POWER_TEMP_OCXO_TEMP 0 ocxo).wrAll
    [(F.POWER_VBAT_MV, 0, vbat), (F.POWER_STATUS_VBAT_PRESENT, 0, b2n (1000 < vbat)), (F.POWER_RAIL_V_MV, 0, railMv),
      (F.POWER_RAIL_V_VALID, 0, 1), (F.POWER_RAIL_I_MA, 0, railMa), (F.POWER_RAIL_I_VALID, 0, 1)]

/-- Register fields that a temperature sample may write beside its telemetry: the flags of VBAT and of the plate, and the fault of
a hot plate. -/
def thermalFields : List Fld := faultFields ++ [F.POWER_STATUS_VBAT_LOW, F.POWER_STATUS_PLATE_HOT]

theorem State.thermalSample_keeps_telemetry (s : State) (plate die ocxo : Int) (vbat mv ma : Nat) :
    Keeps (fieldMask thermalFields) (partMask (faultParts ++ [.pw, .at_])) (s.thermalTelemetry plate die ocxo vbat mv ma)
      (s.thermalSample plate die ocxo vbat mv ma) := by
  unfold State.thermalSample
  extract_lets s1 s2 s3 warn hyst was s4 tripPending hourHot s5
  have h3 : Keeps (fieldMask thermalFields) (partMask (faultParts ++ [.pw, .at_])) s2 s3 :=
    Keeps.when (Keeps.refl _ _ s2) fun _ hu => State.wr_keeps hu (by decide +kernel)
  have h4 : Keeps (fieldMask thermalFields) (partMask (faultParts ++ [.pw, .at_])) s2 s4 :=
    Keeps.ite (State.fault_keeps (State.wr_keeps h3 (by decide +kernel)) (by decide +kernel) (by decide +kernel))
      (Keeps.ite (State.wr_keeps h3 (by decide +kernel)) h3)
  exact State.checkAlert_keeps (Keeps.to_pw_at h4 (by decide +kernel) rfl rfl) (by decide +kernel)

theorem State.thermalSample_leaves {s : State} (plate die ocxo : Int) {vbat mv ma : Nat} (hvbat : vbat < 2 ^ 16)
    (hmv : mv < 2 ^ 16) (hma : ma < 2 ^ 16) : let t := s.thermalSample plate die ocxo vbat mv ma
    t.rd F.POWER_TEMP_PLATE_TEMP = ofSigned 16 (clampSigned 16 plate) ∧
    t.rd F.POWER_TEMP_DIE_TEMP = ofSigned 16 (clampSigned 16 die) ∧
    t.rd F.POWER_TEMP_OCXO_TEMP = ofSigned 16 (clampSigned 16 ocxo) ∧ t.rd F.POWER_VBAT_MV = vbat ∧
    t.rd F.POWER_RAIL_V_MV = mv ∧ t.rd F.POWER_RAIL_I_MA = ma := by
  intro t
  have hk : Keeps _ _ _ t := s.thermalSample_keeps_telemetry plate die ocxo vbat mv ma
  have hwidth : F.POWER_VBAT_MV.width = 16 ∧ F.POWER_RAIL_V_MV.width = 16 ∧ F.POWER_RAIL_I_MA.width = 16 ∧
    F.POWER_TEMP_PLATE_TEMP.width = 16 ∧ F.POWER_TEMP_DIE_TEMP.width = 16 ∧ F.POWER_TEMP_OCXO_TEMP.width = 16 := by decide
  iterate 6 rw [hk.rd _ _ (partMask_regs _) (by decide +kernel)]
  simpa +decide [State.thermalTelemetry, State.wrAll, State.rd_wr_ne, State.rd_wrI_ne, State.rd_wrI_self, hwidth]
    using ⟨hvbat, hmv, hma⟩

/-! Power-down after a thermal trip. -/

theorem State.powerDown_leaves {s : State} (hdown : s.pw.powerDown = false) (hrails : s.rd F.POWER_STATUS_RAILS_GOOD = 1)
    (cause : Nat) : (s.powerDown cause).pw.powerDown = true ∧
      (s.powerDown cause).pw.thermalTrip = (s.pw.thermalTrip || cause == 2) ∧
      (s.powerDown cause).rd F.POWER_STATUS_PWR_FAIL = 1 ∧ (s.powerDown cause).at_.gasp = some (s.now, cause) := by
  rw [State.powerDown, if_neg (by simp [hdown, State.rdB, hrails])]
  extract_lets _ s1 s2 s3 s4 s5
  have h2 : s2.rd F.POWER_STATUS_PWR_FAIL = 1 := State.rd_wr_self _ _ _ _
  have h5 : Keeps (fieldMask faultFields) (partMask faultParts) s2 s5 := State.porchTrace_keeps
    (State.releaseClaim_keeps (State.info_keeps (Keeps.refl _ _ s2) (by decide +kernel)) (by decide +kernel) (by decide +kernel))
    (by decide +kernel) (by decide +kernel)
  have hpw : s5.pw = s1.pw := h5.pw rfl
  have htm : s5.tm = s.tm := h5.tm rfl
  have hfail : s5.rd F.POWER_STATUS_PWR_FAIL = 1 := (h5.rd _ _ rfl (by decide +kernel)).trans h2
  clear_value s5
  exact ⟨congrArg PowerSt.powerDown hpw, congrArg PowerSt.thermalTrip hpw, hfail,
    congrArg (fun tm => some (TimeSt.value tm, cause)) htm⟩

theorem State.thermalTripped_leaves {s : State} (htrip : s.pw.tripPending = true) (hdown : s.pw.powerDown = false)
    (hrails : s.rd F.POWER_STATUS_RAILS_GOOD = 1) : s.thermalTripped.pw.powerDown = true ∧
      s.thermalTripped.pw.thermalTrip = true ∧ s.thermalTripped.rd F.POWER_STATUS_PWR_FAIL = 1 ∧
      s.thermalTripped.at_.gasp = some (s.now, 2) := by
  have hk : Keeps (fieldMask faultFields) (partMask (faultParts ++ [.at_, .bytes])) s ((s.porchTrace 6 0).lifeBump 4 1) :=
    State.lifeBump_keeps (State.porchTrace_keeps (Keeps.refl _ _ s) (by decide +kernel) (by decide +kernel))
      (by decide +kernel) (by decide +kernel)
  obtain ⟨hdown', htrip', hfail, hgasp⟩ := State.powerDown_leaves (s := (s.porchTrace 6 0).lifeBump 4 1)
    (by rw [hk.pw rfl, hdown]) (by rw [hk.rd _ _ rfl (by decide +kernel), hrails]) 2
  rw [State.thermalTripped, if_pos (by simp [htrip, hdown])]
  refine ⟨hdown', htrip'.trans (Bool.or_true _), hfail, ?_⟩
  rw [hgasp, State.now, hk.tm rfl, State.now]

/-! VBAT. -/

theorem State.vbatLow_leaves {s : State} {mv : Nat} (hlow : mv < s.rd F.POWER_VBAT_CFG_LOW_MV) (hmv : mv < 2 ^ 16) :
    (s.vbatLow mv).rd F.POWER_STATUS_VBAT_LOW = 1 ∧ (s.vbatLow mv).rd F.POWER_VBAT_MV = mv := by
  rw [State.vbatLow, if_pos hlow]
  extract_lets s1 s2
  have hfits : mv % 2 ^ F.POWER_VBAT_MV.width = mv := Nat.mod_eq_of_lt hmv
  have h2 : s2.rd F.POWER_STATUS_VBAT_LOW = 1 ∧ s2.rd F.POWER_VBAT_MV = mv := by
    unfold s2 s1
    simp +decide [State.rd_wr_ne, hfits]
  clear_value s2
  split_ifs <;> exact h2

end Sys2Proof.Machine
end

section
/-! PROOF. The porch, RESET_N, rails good and the boot read (R56, R57, R65, R83, R359, R384). -/

namespace Sys2Proof.Machine

/-! A register table filtered by field. -/

theorem Fld.key_div (f : Fld) (i : Nat) : f.key i / 65536 = f.id := by unfold Fld.key; omega

/-- A field reads as before where the filter takes it, and its reset value where it does not. -/
theorem State.rd_filter (s r : State) (p : Nat → Bool) (f : Fld) (i : Nat) :
    State.rd { r with regs := s.regs.filter fun q => p (q.1 / 65536) } f i = if p f.id then s.rd f i else f.reset i := by
  simp only [State.rd, Tab.at, Tab.find_filter s.regs (fun k => p (k / 65536)), Fld.key_div]
  split <;> rfl

theorem State.porchPowerOn_rd (s : State) (f : Fld) (i : Nat) : s.porchPowerOn.rd f i =
    if porchFields.any (fun g => g.id == f.id) then f.reset i else s.rd f i := by
  have hfilter := s.rd_filter s (fun k => !(porchFields.any fun g => g.id == k)) f i
  refine Eq.trans hfilter ?_
  cases porchFields.any (fun g => g.id == f.id) <;> rfl

/-! The full reset. -/

/-- Register fields that a full reset writes after the others have returned to reset and the cause is set (R83): the link that
it keeps, the pair state, and what the porch's trace and the lifetime counter of full resets bring with them. -/
def fullResetFields : List Fld :=
  faultFields ++ [F.HOST_LINK_SPEED, F.HOST_LINK_WIDTH, F.HOST_STATUS_NUM_VF, F.HOST_STATUS_D_STATE]

/-- The registers of a full reset when its cause has been set. -/
def State.resetRegs (s : State) (cause : Nat) : State :=
  State.wr { State.reset with regs := keepOnly keptFields s.regs } F.CLK_RESET_CAUSE_CAUSE 0 cause

theorem State.fullReset_rd (s : State) (cause : Nat) {f : Fld} (i : Nat)
    (hf : (fieldMask fullResetFields).testBit f.id = false) : (s.fullReset cause).rd f i = (s.resetRegs cause).rd f i := by
  unfold State.fullReset
  extract_lets r link tm pw at_ hs s1 s2 s3 s4
  have h3 : Keeps (fieldMask fullResetFields) (partMask (faultParts ++ [.at_, .bytes])) s2 s3 :=
    Keeps.ite (State.wrAll_keeps (Keeps.refl _ _ s2) (Sub.refl _) ⟨by decide +kernel, by decide +kernel, by decide +kernel,
      by decide +kernel, trivial⟩) (Keeps.refl _ _ s2)
  have h5 : Keeps (fieldMask fullResetFields) (partMask (faultParts ++ [.at_, .bytes])) s2
      ((s4.porchTrace 4 cause).lifeBump 2 1) :=
    State.lifeBump_keeps (State.porchTrace_keeps (State.wr_keeps h3 (by decide +kernel)) (by decide +kernel) (by decide +kernel))
      (by decide +kernel) (by decide +kernel)
  exact (h5.rd f i rfl hf).trans (State.rd_congr rfl f i)

theorem State.fullReset_cause (s : State) {cause : Nat} (h : cause < 256) :
    (s.fullReset cause).rd F.CLK_RESET_CAUSE_CAUSE = cause := by
  rw [State.fullReset_rd s cause 0 (by decide +kernel), State.resetRegs, State.rd_wr_self]
  exact Nat.mod_eq_of_lt h

theorem State.fullReset_stage (s : State) (cause : Nat) : (s.fullReset cause).stage = 0 := by
  have hdropped : keptFields.any (fun g => g.id == F.CLK_STAGE_STATUS_STAGE.id) = false := by decide
  rw [State.stage, State.fullReset_rd s cause 0 (by decide +kernel), State.resetRegs, State.rd_wr_ne _ (by decide)]
  refine Eq.trans (s.rd_filter _ (fun k => keptFields.any fun g => g.id == k) _ _) ?_
  simp only [hdropped]
  rfl

/-! RESET_N. -/

/-- The records that tell of a full reset leave the registers as the reset left them. -/
theorem State.resetNow_rd (s : State) (cause row : Nat) (f : Fld) (i : Nat) :
    (s.resetNow cause row).rd f i = (s.logPageWrite.fullReset cause).rd f i := by
  unfold State.resetNow
  extract_lets old cleared s1 s2
  have h2 : Keeps 0 (partMask [.ev]) s1 s2 :=
    Keeps.when (Keeps.refl _ _ s1) fun _ hu => State.info_keeps hu (by decide +kernel)
  exact (Keeps.foldl h2 fun _ _ hu => State.info_keeps hu (by decide +kernel)).rd f i rfl (Nat.zero_testBit _)

theorem State.resetNLow_resets {s : State} {ns : Nat} (hrails : s.rd F.POWER_STATUS_RAILS_GOOD = 1) (hns : 1000 ≤ ns) :
    s.resetNLow ns = { s.resetNow 2 7 with pw := { (s.resetNow 2 7).pw with resetLow := true } } := by
  have hshort : ¬ns < 200 := by omega
  have hopen : ¬ns < 1000 := by omega
  simp [State.resetNLow, State.rdB, hrails, hshort, hopen]

/-! The straps. -/

theorem b2n_lt (b : Bool) : b2n b < 2 := by cases b <;> decide

theorem b2n_mod (b : Bool) : b2n b % 2 = b2n b := Nat.mod_eq_of_lt (b2n_lt b)

/-- The address straps count on from the base of the address (R57, R60). -/
theorem strapAddr_mod {base : Nat} (hbase : base < 253) (addr1 addr0 : Bool) :
    (base + (2 * b2n addr1 + b2n addr0)) % 256 = base + 2 * b2n addr1 + b2n addr0 := by
  have h1 := b2n_lt addr1
  have h0 := b2n_lt addr0
  omega

theorem State.sampleStraps_leaves (s : State) (x : Straps) : (s.sampleStraps x).rd F.GLOBAL_STRAPS_SLOT = b2n x.slot ∧
    (s.sampleStraps x).rd F.GLOBAL_STRAPS_PMBUS_ADDR = 0x44 + 2 * b2n x.addr1 + b2n x.addr0 ∧
    (s.sampleStraps x).rd F.GLOBAL_STRAPS_SMB_ADDR = 0x60 + 2 * b2n x.addr1 + b2n x.addr0 ∧
    (s.sampleStraps x).rd F.PEER_STRAPS_SOLE = b2n (!x.claimP && !x.claimN) := by
  unfold State.sampleStraps
  extract_lets a sole s1
  have htest : Keeps (fieldMask (faultFields ++ [F.FLT_INJECT_CTRL_BREAK, F.FLT_INJECT_STATUS_COUNT, F.FLT_WIRE_COUNT_COUNT,
      F.IDENT_FUSE_TEST_MODE])) (partMask faultParts) s1 (s1.when (!x.testEn) (·.leaveTestMode)) :=
    Keeps.when (Keeps.refl _ _ s1) fun _ hu => State.leaveTestMode_keeps hu (by decide +kernel) (by decide +kernel)
  have h1 : s1.rd F.GLOBAL_STRAPS_SLOT = b2n x.slot % 2 ∧ s1.rd F.GLOBAL_STRAPS_PMBUS_ADDR = (0x44 + a) % 256 ∧
      s1.rd F.GLOBAL_STRAPS_SMB_ADDR = (0x60 + a) % 256 ∧ s1.rd F.PEER_STRAPS_SOLE = b2n sole % 2 := by
    unfold s1
    clear_value a sole
    simp +decide only [State.wrAll, List.foldl_cons, List.foldl_nil, State.rd_wr_ne, State.rd_wr_self]
    exact ⟨rfl, rfl, rfl, rfl⟩
  rw [b2n_mod, strapAddr_mod (by decide), strapAddr_mod (by decide), b2n_mod] at h1
  rwa [htest.rd _ _ rfl (by decide +kernel), htest.rd _ _ rfl (by decide +kernel), htest.rd _ _ rfl (by decide +kernel),
    htest.rd _ _ rfl (by decide +kernel)]

/-! Rails good. -/

theorem State.measureBank_leaves (s : State) {us v : Nat} (hus : us < 2 ^ 16) (hv : v < 2 ^ 16) :
    (s.measureBank us v).rd F.POWER_HOLDUP_HOLDUP_US = us ∧ (s.measureBank us v).rd F.POWER_HOLDUP_BANK_V = v := by
  unfold State.measureBank
  extract_lets s1 s2
  have hk : Keeps (fieldMask (F.POWER_STATUS_HOLDUP_LOW :: faultFields)) (partMask faultParts) s1
      (s2.when (us < 6000) (·.fault 14 uPLATFORM us 0)) :=
    Keeps.when (State.wr_keeps (Keeps.refl _ _ s1) (by decide +kernel)) fun _ hu =>
      State.fault_keeps hu (by decide +kernel) (by decide +kernel)
  have h1 : s1.rd F.POWER_HOLDUP_HOLDUP_US = us % 2 ^ 16 ∧ s1.rd F.POWER_HOLDUP_BANK_V = v % 2 ^ 16 := by
    unfold s1 State.wrAll
    simp only [List.foldl_cons, List.foldl_nil]
    rw [State.rd_wr_ne _ (by decide), State.rd_wr_self, State.rd_wr_self]
    exact ⟨rfl, rfl⟩
  rw [Nat.mod_eq_of_lt hus, Nat.mod_eq_of_lt hv] at h1
  rwa [hk.rd _ _ rfl (by decide +kernel), hk.rd _ _ rfl (by decide +kernel)]

theorem State.railsGood_leaves {s : State} (x : Straps) {us v : Nat} (hrails : s.rd F.POWER_STATUS_RAILS_GOOD ≠ 1)
    (hfeed : s.anyFeed = true) (hus : us < 2 ^ 16) (hv : v < 2 ^ 16) : let t := s.railsGood x us v
    t.rd F.POWER_STATUS_RAILS_GOOD = 1 ∧ t.rd F.POWER_STATUS_PWR_FAIL = 0 ∧ t.rd F.POWER_HOLDUP_HOLDUP_US = us ∧
    t.rd F.POWER_HOLDUP_BANK_V = v ∧ t.rd F.GLOBAL_STRAPS_SLOT = b2n x.slot ∧ t.stage = 0 := by
  rw [State.railsGood, if_neg (by simp [State.rdB, hrails, hfeed])]
  extract_lets s1 pw s2 t
  have h1 : s1.rd F.POWER_STATUS_RAILS_GOOD = 1 ∧ s1.rd F.POWER_STATUS_PWR_FAIL = 0 ∧ s1.stage = (s.fullReset 1).stage := by
    simp +decide [s1, State.wrAll, State.rd_wr_ne, State.stage]
  rw [State.fullReset_stage] at h1
  clear_value s1
  have h2 : s2.rd F.POWER_STATUS_RAILS_GOOD = 1 ∧ s2.rd F.POWER_STATUS_PWR_FAIL = 0 ∧ s2.stage = 0 := h1
  clear_value s2
  obtain ⟨hrails, hfail, hstage⟩ := h2
  obtain ⟨hholdup, hbank⟩ := State.measureBank_leaves (((s2.porchTrace 2 0).lifeBump 1 1).sampleStraps x) hus hv
  obtain ⟨hslot, -⟩ := State.sampleStraps_leaves ((s2.porchTrace 2 0).lifeBump 1 1) x
  refine ⟨?_, ?_, hholdup, hbank, (State.measureBank_rd (by decide +kernel)).trans hslot, ?_⟩
  · simpa +decide [t] using hrails
  · simpa +decide [t] using hfail
  · simpa +decide [t, State.stage] using hstage

/-! The boot read. -/

theorem State.bootReadDone_stage {s : State} (hstage : s.stage = 0) (hrails : s.rd F.POWER_STATUS_RAILS_GOOD = 1)
    (hreset : s.pw.resetLow = false) (hdown : s.pw.powerDown = false) : s.bootReadDone.stage = 1 := by
  rw [State.bootReadDone, if_neg (by simp [hstage, State.rdB, hrails, hreset, hdown])]
  extract_lets s1 s2 s3 s4
  have h3 : s3.stage = 1 := State.stage_setStage _ (by decide) 1
  clear_value s3
  have h5 : Keeps (fieldsBut F.CLK_STAGE_STATUS_STAGE) (partMask [.ck, .ev, .sy]) s3
      (s4.when s4.hs.l0 (·.wr F.HOST_STATUS_READY 0 1)) :=
    Keeps.when (State.syncShutters_keeps (State.startAttempt_keeps (State.startAttempt_keeps (Keeps.refl _ _ s3)
      (by decide +kernel) (by decide +kernel)) (by decide +kernel) (by decide +kernel)) (by decide +kernel) (by decide +kernel))
      fun _ hu => State.wr_keeps hu (by decide +kernel)
  exact (h5.rd _ _ rfl (by decide +kernel)).trans h3

end Sys2Proof.Machine

namespace Sys2Proof

open Sys2Proof.Machine

/-- Settles O11: each clause is what its command's operation leaves. -/
theorem powerCommandsComplete : Obligations.PowerCommandsComplete := by
  refine ⟨fun pages us t0 cause s hgasp => ⟨_, rfl, ?gaspOver, ?gaspMem⟩,
    fun s hdown => ⟨_, rfl, State.railOff_leaves hdown⟩,
    fun n s hoff htrip hcfg => ⟨_, rfl, State.railOffRestart_qualifies hoff htrip hcfg⟩,
    fun plate die ocxo vbat mv ma s hvbat hmv hma => ⟨_, rfl, State.thermalSample_leaves plate die ocxo hvbat hmv hma⟩,
    fun s htrip hdown hrails => ⟨_, rfl, State.thermalTripped_leaves htrip hdown hrails⟩,
    fun plate s hplate => ⟨_, rfl, ?cool⟩, fun rail mv s => ⟨_, rfl, State.fault_count s 16 uPLATFORM rail mv⟩,
    fun mv s hlow hmv => ⟨_, rfl, State.vbatLow_leaves hlow hmv⟩,
    fun s => ⟨_, rfl, State.porchPowerOn_rd s, rfl, rfl, rfl, rfl⟩,
    fun ns s hrails hns => ⟨_, rfl, ?reset⟩, fun x s hlow => ⟨_, rfl, ?release⟩,
    fun x us v s hrails hfeed hus hv => ⟨_, rfl, State.railsGood_leaves x hrails hfeed hus hv⟩,
    fun s hstage hrails hreset hdown => ⟨_, rfl, State.bootReadDone_stage hstage hrails hreset hdown⟩⟩
  case gaspOver => rw [State.lastGasp_due hgasp]
  case gaspMem => rw [State.lastGasp_due hgasp]
  case cool =>
    rw [State.thermalRestart, if_pos (show plate ≤ 80 * 16 from hplate)]
    exact ⟨rfl, rfl⟩
  case reset =>
    rw [State.resetNLow_resets hrails hns]
    exact ⟨rfl, (State.resetNow_rd s 2 7 _ 0).trans (State.fullReset_stage _ 2),
      (State.resetNow_rd s 2 7 _ 0).trans (State.fullReset_cause _ (by decide))⟩
  case release =>
    rw [State.resetNRelease, if_pos hlow]
    have hk := State.sampleStraps_keeps (x1 := x) (Keeps.refl allFields (partMask faultParts)
      { s with pw := { s.pw with resetLow := false } }) (by decide +kernel) (by decide +kernel)
    exact ⟨congrArg PowerSt.resetLow (hk.pw rfl), State.sampleStraps_leaves _ x⟩

end Sys2Proof
end

section
/-! PROOF. PMBus transactions (R60–R62): what each answers, and the CML bit it leaves. -/

namespace Sys2Proof.Machine

/-! The page that a read acts on (R60): a feed's, either feed's or the module's, or the module's alone. -/

theorem State.pmRead_of_mem {s : State} {pages : List Nat} (h : s.readPage ∈ pages) (value : Nat → List Nat) :
    s.pmRead pages value = s.pmAnswer (value s.readPage) := by
  rw [State.pmRead, if_pos (List.contains_iff_mem.2 h)]

theorem State.pmRead_feed {s : State} (h : s.readPage < 2) (value : Nat → List Nat) :
    s.pmRead [0, 1] value = s.pmAnswer (value s.readPage) :=
  State.pmRead_of_mem (pages := List.range 2) (List.mem_range.2 h) value

theorem State.pmRead_any {s : State} (h : s.readPage < 3) (value : Nat → List Nat) :
    s.pmRead [0, 1, 2] value = s.pmAnswer (value s.readPage) :=
  State.pmRead_of_mem (pages := List.range 3) (List.mem_range.2 h) value

theorem State.pmRead_module {s : State} (h : s.readPage = 2) (value : Nat → List Nat) :
    s.pmRead [2] value = s.pmAnswer (value 2) := by
  rw [State.pmRead_of_mem (List.mem_singleton.2 h), h]

/-- An answer leaves the module as the bytes asked for. -/
@[simp] theorem State.pmAnswer_out (s : State) (bytes : List Nat) :
    (s.pmAnswer bytes).out = .smbus (some bytes) :: s.out := rfl

/-! The values read. -/

theorem State.pageCurrent_eq (s : State) (p : Nat) : s.pageCurrent p =
    if p = 2 then s.rd F.FEED_IIN_IIN_MA 0 + s.rd F.FEED_IIN_IIN_MA 1 else s.rd F.FEED_IIN_IIN_MA p := by
  simp only [State.pageCurrent, beq_iff_eq]

theorem State.pagePower_eq (s : State) (p : Nat) : s.pagePower p =
    if p = 2 then s.rd F.POWER_PIN_TOTAL_PIN_MW else s.rd F.FEED_PIN_PIN_MW p := by
  simp only [State.pagePower, beq_iff_eq]

theorem asciiBlock_mfrId : asciiBlock "GENVEL" = [6, 0x47, 0x45, 0x4E, 0x56, 0x45, 0x4C] := by decide +kernel

theorem asciiBlock_mfrModel :
    asciiBlock "VT8416-OA" = [9, 0x56, 0x54, 0x38, 0x34, 0x31, 0x36, 0x2D, 0x4F, 0x41] := by decide +kernel

theorem State.pmModel_variant1 {s : State} (h : s.rd F.IDENT_PART_VARIANT = 1) :
    s.pmModel = s.pmAnswer (asciiBlock "VT8416-OA") := by
  simp only [State.pmModel, h]

/-- A pending alert is answered with the PMBus address, and released. -/
theorem State.alertResponse_pending {s : State} (h : s.pw.alert = true) : s.alertResponse =
    { s with pw := { s.pw with alert := false } }.emitOut (.smbus (some [s.pmAddr * 2])) := by
  rw [State.alertResponse, if_pos h]

end Sys2Proof.Machine

namespace Sys2Proof

open Sys2Proof.Machine

/-- Settles O12: each transaction answers its value on a page it supports; only an unsupported command answers none. -/
theorem pmbusCommandsComplete : Obligations.PmbusCommandsComplete := by
  refine ⟨fun v s => ⟨_, rfl, rfl, rfl, rfl⟩, fun s => ⟨_, rfl, State.pmAnswer_out s _⟩,
    fun s => ⟨_, rfl, State.pmAnswer_out s _, rfl⟩, fun s => ⟨_, rfl, State.pmAnswer_out s _⟩,
    fun s h => ⟨_, rfl, ?statusInput⟩, fun s h => ⟨_, rfl, ?statusTemperature⟩, fun s h => ⟨_, rfl, ?vin⟩,
    fun s h => ⟨_, rfl, ?iin⟩, fun s h => ⟨_, rfl, ?temperature1⟩, fun s h => ⟨_, rfl, ?temperature2⟩,
    fun s h => ⟨_, rfl, ?temperature3⟩, fun s h => ⟨_, rfl, ?pin⟩, fun s => ⟨_, rfl, State.pmAnswer_out s _⟩,
    fun s => ⟨_, rfl, ?mfrId⟩, fun s h => ⟨_, rfl, ?mfrModel⟩, fun s => ⟨_, rfl, rfl, rfl⟩,
    fun s h => ⟨_, rfl, ?alert⟩⟩
  case statusInput => rw [State.pmRead_feed h, State.pmAnswer_out]
  case statusTemperature => rw [State.pmRead_module h, State.pmAnswer_out]
  case vin => rw [State.pmRead_feed h, State.pmAnswer_out]
  case iin => rw [State.pmRead_any h, State.pmAnswer_out, State.pageCurrent_eq]
  case temperature1 | temperature2 | temperature3 =>
    rw [State.pmRead_module h, State.pmAnswer_out]
    rfl
  case pin => rw [State.pmRead_any h, State.pmAnswer_out, State.pagePower_eq]
  case mfrId => rw [State.pmAnswer_out, asciiBlock_mfrId]
  case mfrModel => rw [State.pmModel_variant1 h, State.pmAnswer_out, asciiBlock_mfrModel]
  case alert =>
    rw [State.alertResponse_pending h]
    exact ⟨rfl, rfl⟩

end Sys2Proof
end

section
/-! PROOF. Frames of PMBus, the oscillators, the clock monitors and the clock muxes (R60–R86). -/

namespace Sys2Proof

open Sys2Proof.Machine

/-- Settles O30: each frame is the mask of what the command's operation may change. -/
theorem pmbusAndClockFrames : Obligations.PmbusAndClockFrames :=
  ⟨fun _ s _ e => Changes.of_keeps (execPmbusPage_keeps (Keeps.refl _ _ s) (by decide +kernel) e),
    fun s _ e => Changes.of_keeps (execPmbusCapability_keeps (Keeps.refl _ _ s) (by decide +kernel) e),
    fun s _ e => Changes.of_keeps (execPmbusStatusWord_keeps (Keeps.refl _ _ s) (by decide +kernel) e),
    fun s _ e => Changes.of_keeps (execPmbusStatusInput_keeps (Keeps.refl _ _ s) (by decide +kernel) e),
    fun s _ e => Changes.of_keeps (execPmbusStatusTemperature_keeps (Keeps.refl _ _ s) (by decide +kernel) e),
    fun s _ e => Changes.of_keeps (execPmbusReadVin_keeps (Keeps.refl _ _ s) (by decide +kernel) e),
    fun s _ e => Changes.of_keeps (execPmbusReadIin_keeps (Keeps.refl _ _ s) (by decide +kernel) e),
    fun s _ e => Changes.of_keeps (execPmbusReadTemperature1_keeps (Keeps.refl _ _ s) (by decide +kernel) e),
    fun s _ e => Changes.of_keeps (execPmbusReadTemperature2_keeps (Keeps.refl _ _ s) (by decide +kernel) e),
    fun s _ e => Changes.of_keeps (execPmbusReadTemperature3_keeps (Keeps.refl _ _ s) (by decide +kernel) e),
    fun s _ e => Changes.of_keeps (execPmbusReadPin_keeps (Keeps.refl _ _ s) (by decide +kernel) e),
    fun s _ e => Changes.of_keeps (execPmbusRevision_keeps (Keeps.refl _ _ s) (by decide +kernel) e),
    fun s _ e => Changes.of_keeps (execPmbusMfrId_keeps (Keeps.refl _ _ s) (by decide +kernel) e),
    fun s _ e => Changes.of_keeps (execPmbusMfrModel_keeps (Keeps.refl _ _ s) (by decide +kernel) e),
    fun s _ e => Changes.of_keeps (execPmbusUnsupported_keeps (Keeps.refl _ _ s) (by decide +kernel) e),
    fun s _ e => Changes.of_keeps (execAlertResponse_keeps (Keeps.refl _ _ s) (by decide +kernel) e),
    fun _ s _ e => Changes.of_keeps (execOscAmplitudeTimeout_keeps (Keeps.refl _ _ s) (by decide +kernel) (by decide +kernel) e),
    fun _ _ s _ e => Changes.of_keeps (execOscCountDone_keeps (Keeps.refl _ _ s) (by decide +kernel) (by decide +kernel) e),
    fun s _ e => Changes.of_keeps (execOcxoTempSettled_keeps (Keeps.refl _ _ s) (by decide +kernel) e),
    fun _ s _ e => Changes.of_keeps (execOcxoWarm_keeps (Keeps.refl _ _ s) (by decide +kernel) (by decide +kernel) e),
    fun s _ e => Changes.of_keeps (execOcxoWarmTimeout_keeps (Keeps.refl _ _ s) (by decide +kernel) (by decide +kernel) e),
    fun _ _ s _ e => Changes.of_keeps (execClockMonWindow_keeps (Keeps.refl _ _ s) (by decide +kernel) (by decide +kernel) e),
    fun _ s _ e => Changes.of_keeps (execClockMonMiss_keeps (Keeps.refl _ _ s) (by decide +kernel) (by decide +kernel) e),
    fun s _ e => Changes.of_keeps (execBaseMove_keeps (Keeps.refl _ _ s) (by decide +kernel) (by decide +kernel) e),
    fun s _ e => Changes.of_keeps (execBaseMoveEnd_keeps (Keeps.refl _ _ s) (by decide +kernel) (by decide +kernel) e),
    fun _ _ s _ e => Changes.of_keeps (execMuxSwitch_keeps (Keeps.refl _ _ s) (by decide +kernel) (by decide +kernel) e),
    fun _ s _ e => Changes.of_keeps (execMuxForced_keeps (Keeps.refl _ _ s) (by decide +kernel) (by decide +kernel) e),
    fun _ s _ e => Changes.of_keeps (execMuxStall_keeps (Keeps.refl _ _ s) (by decide +kernel) (by decide +kernel) e),
    fun s _ e => Changes.of_keeps (execStage3HoldoffEnd_keeps (Keeps.refl _ _ s) (by decide +kernel) (by decide +kernel) e)⟩

end Sys2Proof
end

section
/-! PROOF. The present base oscillator is kept (R79): what refuses a reset or a retirement of an oscillator. -/

namespace Sys2Proof.Machine

/-- The OCXO as base can go when the TCXO is qualified. -/
theorem State.lastBase_ocxo (s : State) : s.lastBase 1 uOCXO = (s.base == 2 && !s.tcxoQual) := by
  have hother : isUnder uTCXO uOCXO = false := by decide
  simp [State.lastBase, hother]

/-- The TCXO as base can go when the OCXO is qualified and warm. -/
theorem State.lastBase_tcxo (s : State) : s.lastBase 0 uTCXO = (s.base == 1 && !(s.ocxoQual && s.ocxoWarm)) := by
  have hother : isUnder uOCXO uTCXO = false := by decide
  simp [State.lastBase, hother]

/-- No oscillator is a master's own unit. -/
theorem ownUnit_ne_oscillator (m osc : Nat) : ownUnit m ≠ some (oscUnit osc) := by
  unfold ownUnit oscUnit
  split_ifs <;> decide

theorem ownReset_oscillator (m : Nat) {osc : Nat} (hosc : osc < 2) : ownReset opRESET (oscUnit osc) m = false := by
  unfold ownReset ownUnit
  interval_cases osc <;> split_ifs <;> decide

/-- An oscillator has one reason against a reset or a retirement: it is the last base. -/
theorem State.leafRefuses_oscillator (s : State) {op osc : Nat} (m : Nat) (hop : op = opRESET ∨ op = opRETIRE)
    (hosc : osc < 2) :
    s.leafRefuses op (oscUnit osc) (oscUnit osc) m = if s.lastBase osc (oscUnit osc) then 0x0D else 0 := by
  have hown := ownUnit_ne_oscillator m osc
  unfold State.leafRefuses
  rcases hop with rfl | rfl <;> interval_cases osc <;> simp_all +decide [oscUnit]

/-- A reset, a retirement or an isolation of a leaf is refused for that leaf's own reason alone. -/
theorem State.opRefused_leaf (s : State) {op u : Nat} (m : Nat) (hlow : 1 ≤ op) (hhigh : op ≤ 3) (hex : unitExists u = true)
    (hproxy : ¬(u = uPAIR ∨ u = uPARTNER)) (hleaf : unitLeaves u = [u]) : s.opRefused op u m = s.leafRefuses op u u m := by
  have hrange : ¬5 < op := by omega
  have hstatus : op ≠ opSTATUS := by unfold opSTATUS; omega
  have hrelease : op ≠ opRELEASE := by unfold opRELEASE; omega
  have hunretire : op ≠ opUNRETIRE := by unfold opUNRETIRE; omega
  by_cases hcode : s.leafRefuses op u u m = 0 <;>
    simp [State.opRefused, hrange, hex, hstatus, hproxy, hrelease, hunretire, hleaf, hcode]

theorem State.opRefused_oscillator (s : State) {op osc : Nat} (m : Nat) (hop : op = opRESET ∨ op = opRETIRE)
    (hosc : osc < 2) : s.opRefused op (oscUnit osc) m = if s.lastBase osc (oscUnit osc) then 0x0D else 0 := by
  have hrange : 1 ≤ op ∧ op ≤ 3 := by rcases hop with rfl | rfl <;> decide
  have hunit : unitExists (oscUnit osc) = true ∧ ¬(oscUnit osc = uPAIR ∨ oscUnit osc = uPARTNER) ∧
      unitLeaves (oscUnit osc) = [oscUnit osc] := by
    interval_cases osc <;> decide
  obtain ⟨hex, hproxy, hleaf⟩ := hunit
  rw [s.opRefused_leaf m hrange.1 hrange.2 hex hproxy hleaf, s.leafRefuses_oscillator m hop hosc]

end Sys2Proof.Machine

namespace Sys2Proof

open Sys2Proof.Machine

/-- A bank's reset and its retirement of the last base are refused. -/
theorem refusedWith_lastBase {bank : Fin 4} {osc : Nat} {s : State} (hosc : osc < 2)
    (hbusy : s.rd F.GLOBAL_UNIT_RESULT_BUSY bank ≠ 1) (hlast : s.lastBase osc (oscUnit osc) = true) :
    RefusedWith 0x0D bank (.unitReset bank (oscUnit osc)) s ∧ RefusedWith 0x0D bank (.unitRetire bank (oscUnit osc)) s :=
  ⟨refusedWith_of_opRefused (p := (opRESET, .unitReset bank (oscUnit osc))) (by simp [unitCommands]) hbusy
      ((s.opRefused_oscillator _ (.inl rfl) hosc).trans (if_pos hlast)) (by decide) (by decide),
    refusedWith_of_opRefused (p := (opRETIRE, .unitRetire bank (oscUnit osc))) (by simp [unitCommands]) hbusy
      ((s.opRefused_oscillator _ (.inr rfl) hosc).trans (if_pos hlast)) (by decide) (by decide)⟩

/-- A bank's reset and its retirement of an oscillator that is not the last base are carried out. -/
theorem exec_oscillator_done {bank : Fin 4} {osc : Nat} {s : State} (hosc : osc < 2)
    (hbusy : s.rd F.GLOBAL_UNIT_RESULT_BUSY bank ≠ 1) (hlast : s.lastBase osc (oscUnit osc) = false) :
    (∃ t, exec (.unitReset bank (oscUnit osc)) s = .next t ∧ t.rd F.GLOBAL_UNIT_RESULT_CODE bank = 0 ∧
      t.un = (s.unitReset (oscUnit osc) none).un) ∧
    (∃ t, exec (.unitRetire bank (oscUnit osc)) s = .next t ∧ t.rd F.GLOBAL_UNIT_RESULT_CODE bank = 0 ∧
      t.un = (s.unitMark (oscUnit osc) true).un) := by
  have hcode {op : Nat} (hop : op = opRESET ∨ op = opRETIRE) : s.opRefused op (oscUnit osc) (bankMaster bank) = 0 :=
    (s.opRefused_oscillator _ hop hosc).trans (if_neg (by simp [hlast]))
  have hlist : s.listChange opRETIRE (oscUnit osc) = none := by interval_cases osc <;> rfl
  obtain ⟨t, ht, hdone, -, hun⟩ := exec_unitReset_resets hbusy (hcode (.inl rfl)) (ownReset_oscillator _ hosc)
  obtain ⟨v, hv, hdone', -, hun'⟩ := exec_markCommand_marks (retire := true) hbusy (hcode (.inr rfl)) hlist
  exact ⟨⟨t, ht, hdone, hun⟩, ⟨v, hv, hdone', hun'⟩⟩

/-- Settles O48: an oscillator is refused exactly as the last base, and the other one makes it none. -/
theorem baseOscillatorKept : Obligations.BaseOscillatorKept := by
  refine ⟨fun s bank hbusy hbase htcxo => refusedWith_lastBase (osc := 1) (by decide) hbusy ?_,
    fun s bank hbusy hbase hocxo => refusedWith_lastBase (osc := 0) (by decide) hbusy ?_, fun s bank u hbusy hu => ?_⟩
  · exact s.lastBase_ocxo.trans (by simp [hbase, htcxo])
  · exact s.lastBase_tcxo.trans (by simpa [hbase, imp_iff_not_or] using hocxo)
  · rcases hu with ⟨rfl, htcxo⟩ | ⟨rfl, hqual, hwarm⟩
    · exact exec_oscillator_done (osc := 1) (by decide) hbusy (s.lastBase_ocxo.trans (by simp [htcxo]))
    · exact exec_oscillator_done (osc := 0) (by decide) hbusy (s.lastBase_tcxo.trans (by simp [hqual, hwarm]))

end Sys2Proof
end

section
/-! PROOF. What a full reset leaves and what it keeps (R83, log 14). -/

namespace Sys2Proof

open Sys2Proof.Machine

theorem Part.same_trans {p : Part} {s t u : State} (h : p.same s t) (g : p.same t u) : p.same s u := by
  cases p
  case recs | archive => exact fun a ha => (g a ha).trans (h a ha)
  case bytes => exact fun a => (g a).trans (h a)
  all_goals exact Eq.trans g h

end Sys2Proof

namespace Sys2Proof.Machine

/-- The registers that tell the host of its reset (R303). -/
def resetInfoFields : List Fld := [F.HOST_RESET_INFO_LAST, F.HOST_RESET_INFO_COUNT]

/-- Register fields that a full reset, or the record of what asked for it, writes beside returning the others to reset. -/
def resetWrites : List Fld :=
  faultFields ++ [F.CLK_RESET_CAUSE_CAUSE, F.ATTIC_LOG_STATUS_LAP, F.ATTIC_LOG_STATUS_NEXT_PAGE, F.HOST_LINK_SPEED,
    F.HOST_LINK_WIDTH, F.HOST_STATUS_NUM_VF, F.HOST_STATUS_D_STATE, F.HOST_RESET_INFO_LAST, F.HOST_RESET_INFO_COUNT]

/-- Parts of the state of which a full reset leaves nothing. -/
def resetParts : List Part := [.cp, .un, .ck, .dp, .td, .ql, .tr, .sy, .po, .sv, .pk, .id_, .ep]

/-- The state t is what a full reset with a cause leaves of the state s. -/
structure FullyReset (cause : Nat) (s t : State) : Prop where
  cause : t.rd F.CLK_RESET_CAUSE_CAUSE = cause
  fields : ∀ (f : Fld) (i : Nat), (∀ g ∈ resetWrites, g.id ≠ f.id) →
    t.rd f i = if keptFields.any (fun g => g.id == f.id) then s.rd f i else f.reset i
  parts : ∀ p ∈ resetParts, p.same State.reset t
  archive : Part.archive.same s t

/-- The records that follow a full reset, the state of RESET_N and the host's record of its reset are none of what it leaves. -/
theorem FullyReset.keeps {cause : Nat} {s t u : State} (h : FullyReset cause s t)
    (k : Keeps (fieldMask resetInfoFields) (partMask [.ev, .pw]) t u) : FullyReset cause s u where
  cause := (k.rd _ _ rfl (by decide +kernel)).trans h.cause
  fields f i hf := by
    have hinfo : resetInfoFields ⊆ resetWrites := by decide +kernel
    exact (k.rd f i rfl (fieldMask_testBit _ _ fun g hg => hf g (hinfo hg))).trans (h.fields f i hf)
  parts p hp := by
    have hclear : ∀ p ∈ resetParts, (partMask [.ev, .pw]).testBit p.bit = false := by decide
    exact Part.same_trans (h.parts p hp) (Changes.part k p (hclear p hp))
  archive := Part.same_trans h.archive (Changes.part k _ (by decide))

/-! What the writing of the log page leaves. -/

/-- Register fields that the writing of a log page changes (R356). -/
def logPageFields : List Fld := [F.ATTIC_LOG_STATUS_PENDING, F.ATTIC_LOG_STATUS_LAP, F.ATTIC_LOG_STATUS_NEXT_PAGE]

theorem State.logPageWrite_keeps_fields (s : State) :
    Keeps (fieldMask logPageFields) (partMask [.at_, .recs, .bytes]) s s.logPageWrite :=
  State.logPageWrite_keeps (Keeps.refl _ _ s) (by decide +kernel) (by decide +kernel)

/-- A field that a full reset keeps is as it was before the log page was written. -/
theorem State.logPageWrite_rd_kept (s : State) {f : Fld} (i : Nat) (hf : ∀ g ∈ resetWrites, g.id ≠ f.id)
    (hkept : keptFields.any (fun g => g.id == f.id) = true) : s.logPageWrite.rd f i = s.rd f i := by
  have hpending : ¬keptFields.any (fun g => g.id == F.ATTIC_LOG_STATUS_PENDING.id) = true := by decide
  refine s.logPageWrite_keeps_fields.rd f i rfl (fieldMask_testBit _ _ fun g hg he => ?_)
  rcases List.mem_cons.1 hg with rfl | hg
  · exact hpending (he ▸ hkept)
  · have hplace : [F.ATTIC_LOG_STATUS_LAP, F.ATTIC_LOG_STATUS_NEXT_PAGE] ⊆ resetWrites := by decide +kernel
    exact hf g (hplace hg) he

/-! The reset itself. -/

/-- A full reset keeps the fields it names and returns the others to reset. -/
theorem State.fullReset_fields (s : State) (cause : Nat) {f : Fld} (i : Nat) (hf : ∀ g ∈ resetWrites, g.id ≠ f.id) :
    (s.fullReset cause).rd f i = if keptFields.any (fun g => g.id == f.id) then s.rd f i else f.reset i := by
  have hwrites : F.CLK_RESET_CAUSE_CAUSE :: fullResetFields ⊆ resetWrites := by decide +kernel
  have hcause : f.id ≠ F.CLK_RESET_CAUSE_CAUSE.id := (hf _ (hwrites List.mem_cons_self)).symm
  rw [s.fullReset_rd cause i (fieldMask_testBit _ _ fun g hg => hf g (hwrites (List.mem_cons_of_mem _ hg))), State.resetRegs,
    State.rd_wr_ne _ hcause]
  exact s.rd_filter _ (fun k => keptFields.any fun g => g.id == k) f i

theorem State.fullReset_parts (s : State) (cause : Nat) : ∀ p ∈ resetParts, p.same State.reset (s.fullReset cause) := by
  unfold State.fullReset
  extract_lets r link tm pw at_ hs s1 s2 s3 s4
  have h : Keeps allFields (partMask (faultParts ++ [.at_, .bytes])) s1 ((s4.porchTrace 4 cause).lifeBump 2 1) :=
    State.lifeBump_keeps (State.porchTrace_keeps (State.wr_keeps (Keeps.ite (State.wrAll_keeps (W := allFields)
      (State.wr_keeps (Keeps.refl _ _ s1) rfl) (Sub.refl _) ⟨rfl, rfl, rfl, rfl, trivial⟩)
      (State.wr_keeps (Keeps.refl _ _ s1) rfl)) rfl) (by decide +kernel) (by decide +kernel)) (by decide +kernel)
      (by decide +kernel)
  have h1 : ∀ p ∈ resetParts, p.same State.reset s1 := by
    simp only [resetParts, List.forall_mem_cons, List.not_mem_nil, false_implies, implies_true, and_true]
    exact ⟨rfl, rfl, rfl, rfl, rfl, rfl, rfl, rfl, rfl, rfl, rfl, rfl, rfl⟩
  have hclear : ∀ p ∈ resetParts, (partMask (faultParts ++ [.at_, .bytes])).testBit p.bit = false := by decide
  exact fun p hp => Part.same_trans (h1 p hp) (Changes.part h p (hclear p hp))

theorem State.fullReset_archive (s : State) (cause : Nat) : Part.archive.same s (s.fullReset cause) :=
  (State.fullReset_keeps (M := 0x37fffff) (Keeps.refl allFields _ s) (by decide +kernel) (Sub.refl _)).arch rfl

/-- The log page in progress is written first, and the merger tells of the reset after it. -/
theorem State.resetNow_fullyReset (s : State) {cause : Nat} (hc : cause < 256) (row : Nat) :
    FullyReset cause s (s.resetNow cause row) := by
  have hreset : FullyReset cause s (s.logPageWrite.fullReset cause) :=
    { cause := State.fullReset_cause _ hc
      fields := fun f i hf => by
        rw [State.fullReset_fields _ _ _ hf]
        exact ite_congr rfl (fun hkept => s.logPageWrite_rd_kept i hf hkept) fun _ => rfl
      parts := State.fullReset_parts _ cause
      archive := Part.same_trans (Changes.part s.logPageWrite_keeps_fields .archive (by decide))
        (State.fullReset_archive _ cause) }
  exact hreset.keeps (Keeps.foldl (Keeps.when (Keeps.refl _ _ _) fun _ hu => State.info_keeps hu (by decide +kernel))
    fun _ _ hu => State.info_keeps hu (by decide +kernel))

/-- The reset that the host or a reaction asked for. -/
theorem State.fullResetStart_fullyReset {s : State} {cause : Nat} (h : s.hs.resetDue = some cause) (hc : cause < 256) :
    FullyReset cause s s.fullResetStart := by
  simp only [State.fullResetStart, h]
  exact (s.resetNow_fullyReset hc 7).keeps (Keeps.when (Keeps.refl _ _ _) fun _ hu =>
    State.bump_keeps (State.wr_keeps hu (by decide +kernel)) (by decide +kernel))

theorem State.resetNLow_fullyReset {s : State} {ns : Nat} (hrails : s.rd F.POWER_STATUS_RAILS_GOOD = 1) (hns : 1000 ≤ ns) :
    FullyReset 2 s (s.resetNLow ns) := by
  rw [State.resetNLow_resets hrails hns]
  exact (s.resetNow_fullyReset (by decide) 7).keeps (Keeps.to_pw (Keeps.refl _ _ _) (by decide +kernel))

end Sys2Proof.Machine

namespace Sys2Proof

open Sys2Proof.Machine

/-- Settles O56: by RESET_N or where one was asked for, it is the same full reset. -/
theorem fullResetLeaves : Obligations.FullResetLeaves := by
  intro c s t hc hreset
  have h : FullyReset c s t := by
    rcases hreset with ⟨rfl, hrails, ns, hns, he⟩ | ⟨hdue, he⟩
    · cases he
      exact State.resetNLow_fullyReset hrails hns
    · cases he
      exact State.fullResetStart_fullyReset hdue (by omega)
  exact ⟨h.cause, h.fields, h.parts, h.archive⟩

end Sys2Proof
end

section
/-! PROOF. Oscillators, clock monitors, base moves and clock muxes (R65–R82): what each command leaves. -/

namespace Sys2Proof.Machine

/-! Oscillators. -/

/-- Neither the reason nor the number of attempts of an oscillator is one of the fields of its next attempt, or of its
retirement. -/
theorem State.retireOsc_startAttempt_rd (s : State) {osc : Nat} (hosc : osc < 2) {f : Fld}
    (hf : f = failField osc ∨ f = attemptField osc) :
    (s.retireOsc osc).rd f = s.rd f ∧ (s.startAttempt osc).rd f = s.rd f := by
  interval_cases osc <;> rcases hf with rfl | rfl <;>
    exact ⟨State.retireOsc_rd (by decide +kernel), State.startAttempt_rd (by decide +kernel)⟩

/-- An attempt that fails shows why, and counts, up to three. -/
theorem State.attemptFails_leaves (s : State) {osc why : Nat} (hosc : osc < 2) (hwhy : why < 16) :
    (s.attemptFails osc why).rd (failField osc) = why ∧
      (s.attemptFails osc why).rd (attemptField osc) = min (s.rd (attemptField osc) + 1) 3 := by
  have hfields : (failField osc).width = 4 ∧ (attemptField osc).width = 4 ∧ (failField osc).id ≠ (attemptField osc).id := by
    interval_cases osc <;> decide
  obtain ⟨hfail, hattempt, hid⟩ := hfields
  unfold State.attemptFails
  rw [if_neg (by simp; omega)]
  extract_lets s1 n s2
  have h2 : s2.rd (failField osc) = why ∧ s2.rd (attemptField osc) = min (s.rd (attemptField osc) + 1) 3 := by
    unfold s2 n s1
    rw [State.rd_wr_ne _ hid, State.rd_wr_self, State.rd_wr_self, State.rd_wr_ne _ hid.symm, hfail, hattempt]
    omega
  split_ifs
  · rwa [(s2.retireOsc_startAttempt_rd hosc (.inl rfl)).1, (s2.retireOsc_startAttempt_rd hosc (.inr rfl)).1]
  · rwa [(s2.retireOsc_startAttempt_rd hosc (.inl rfl)).2, (s2.retireOsc_startAttempt_rd hosc (.inr rfl)).2]

theorem State.oscAmplitudeTimeout_leaves {s : State} {osc : Nat} (hosc : osc < 2) (htry : s.oscBit osc 2 = true) :
    (s.oscAmplitudeTimeout osc).rd (failField osc) = 1 ∧
      (s.oscAmplitudeTimeout osc).rd (attemptField osc) = min (s.rd (attemptField osc) + 1) 3 := by
  have hbefore : (s.setOscBit osc 0 false).rd (attemptField osc) = s.rd (attemptField osc) := by
    interval_cases osc <;> exact State.setOscBit_rd (by decide +kernel)
  rw [State.oscAmplitudeTimeout, if_pos (by simp [hosc, htry]), ← hbefore]
  exact State.attemptFails_leaves _ hosc (by decide)

/-- An attempt that passes qualifies the oscillator's monitor; nothing that follows takes it back. -/
theorem State.attemptPasses_qualifies (s : State) (osc : Nat) :
    (s.attemptPasses osc).rd F.CLK_MON_STATUS_QUALIFIED (oscMon osc) = 1 := by
  unfold State.attemptPasses
  extract_lets s1 s2 s3
  have h1 : s1.rd F.CLK_MON_STATUS_QUALIFIED (oscMon osc) = 1 := State.rd_wr_self _ _ _ _
  have h3 : Keeps (fieldsBut F.CLK_MON_STATUS_QUALIFIED) (partMask [.un]) s1 s3 :=
    Keeps.when (Keeps.ite (Keeps.refl _ _ _) (State.wr_keeps (State.setOscBit_keeps (State.setOscBit_keeps (Keeps.refl _ _ _)
      (by decide +kernel)) (by decide +kernel)) (by unfold attemptField; split <;> decide +kernel))) fun _ hu =>
      State.backInService_keeps hu (by decide +kernel)
  rw [State.takeUsable_rd (by decide +kernel), State.info_rd, h3.rd _ _ rfl (by decide +kernel), h1]

theorem State.oscCountDone_qualifies {s : State} {osc count : Nat} (htry : s.attempting osc = true)
    (htrip : s.ck.tripDuring.contains osc = false) (hlow : (s.countWindow osc).1 ≤ count)
    (hhigh : count ≤ (s.countWindow osc).2) :
    (s.oscCountDone osc count).rd F.CLK_MON_STATUS_QUALIFIED (oscMon osc) = 1 := by
  unfold State.oscCountDone
  rw [if_neg (by simp [htry])]
  extract_lets s1 w
  have h1 : s1.ck = s.ck := by
    unfold s1
    split_ifs
    · rfl
    · exact (State.setOscBit_keeps (Keeps.refl allFields 0 s) (by decide +kernel)).ck rfl
  have hw : w = s.countWindow osc := by unfold w State.countWindow; rw [h1]
  rw [h1, hw, htrip, if_neg (by decide), if_neg (by omega), if_neg (by omega)]
  exact s1.attemptPasses_qualifies osc

/-! The OCXO's warm-up. -/

/-- Register fields that follow from the OCXO's being warm: its stability, and the move or the switch that makes it the base
(R70, R76, R77). -/
def warmFields : List Fld := [F.CLK_OCXO_STATUS_FREQ_STABLE, F.CLK_BASE_STATUS_MOVE_PENDING, F.CLK_MUX_STATUS_PENDING]

theorem State.ocxoBecomesWarm_leaves {s : State} {tenths : Nat} (hqual : s.ocxoQual = true)
    (hsettled : s.rd F.CLK_OCXO_STATUS_TEMP_SETTLED = 1) (hcold : s.ocxoWarm = false) :
    (s.ocxoBecomesWarm tenths).ocxoWarm = true ∧ (s.ocxoBecomesWarm tenths).rd F.CLK_OCXO_WARM_TIME_TIME = satTo 32 tenths := by
  have hfits : satTo 32 tenths % 2 ^ F.CLK_OCXO_WARM_TIME_TIME.width = satTo 32 tenths := satTo_mod 32 tenths
  rw [State.ocxoBecomesWarm, if_pos (by simp [hqual, State.rdB, hsettled, hcold])]
  extract_lets s1 s2 s3
  have h1 : s1.rd F.CLK_OCXO_STATUS_WARM = 1 ∧ s1.rd F.CLK_OCXO_WARM_TIME_TIME = satTo 32 tenths := by
    simp +decide [s1, State.wrAll, State.rd_wr_ne, hfits]
  have h3 : Keeps (fieldMask warmFields) (partMask [.un, .ck]) s1 s3 :=
    State.backInService_keeps (Keeps.when (Keeps.refl _ _ _) fun _ hu => State.wr_keeps hu (by decide +kernel))
      (by decide +kernel)
  have hread {t : State} (k : Keeps (fieldMask warmFields) (partMask [.un, .ck]) s1 t) :
      t.ocxoWarm = true ∧ t.rd F.CLK_OCXO_WARM_TIME_TIME = satTo 32 tenths := by
    rw [State.ocxoWarm, State.rdB, k.rd _ _ rfl (by decide +kernel), k.rd _ _ rfl (by decide +kernel), h1.1, h1.2]
    exact ⟨rfl, rfl⟩
  exact hread (Keeps.ite (State.wr_keeps h3 (by decide +kernel)) (State.takeUsable_keeps h3 (by decide +kernel)
    (by decide +kernel)))

theorem State.ocxoWarmTimeout_leaves {s : State} (hcold : s.ocxoWarm = false) :
    s.ocxoWarmTimeout.rd F.FLT_SRC_STAT_COUNT 10 = satTo 16 (s.rd F.FLT_SRC_STAT_COUNT 10 + 1) ∧
      s.ocxoWarmTimeout.ocxoWarm = false := by
  rw [State.ocxoWarmTimeout, if_neg (by simp [hcold])]
  refine ⟨State.fault_count _ 10 uOCXO 0 0, ?_⟩
  rw [State.ocxoWarm, State.rdB, State.fault_rd (by decide +kernel)]
  exact hcold

/-! Clock monitors. -/

theorem State.monAgainst_lt (s : State) (n : Nat) : s.monAgainst n < 4 := by
  unfold State.monAgainst
  split_ifs <;> decide

/-- What a monitor is judged by: the oscillators' states, the base, its tolerance. -/
def monJudgeFields : List Fld :=
  [F.CLK_TCXO_STATUS_QUALIFIED, F.CLK_OCXO_STATUS_WARM, F.CLK_BASE_STATUS_BASE, F.CLK_MON_CFG_TOL_PPM]

/-- A monitor's judgement depends on the fields it is judged by alone. -/
theorem State.monJudge_congr {s t : State} (h : ∀ f ∈ monJudgeFields, ∀ i, t.rd f i = s.rd f i) (n : Nat) :
    t.monJudged n = s.monJudged n ∧ t.monTol n = s.monTol n := by
  simp only [monJudgeFields, List.forall_mem_cons] at h
  obtain ⟨htcxo, hwarm, hbase, htol, -⟩ := h
  have hqual : t.tcxoQual = s.tcxoQual := by rw [State.tcxoQual, State.tcxoQual, State.rdB, State.rdB, htcxo]
  have hocxo : t.ocxoWarm = s.ocxoWarm := by rw [State.ocxoWarm, State.ocxoWarm, State.rdB, State.rdB, hwarm]
  have hagainst : t.monAgainst n = s.monAgainst n := by rw [State.monAgainst, State.monAgainst, hqual, hocxo]
  constructor
  · rw [State.monJudged, State.monJudged, State.base, State.base, hqual, hbase]
  · rw [State.monTol, State.monTol, hagainst, htol]

/-- What a monitor shows of a window before it is judged. -/
def monShownFields : List Fld :=
  [F.CLK_MON_STATUS_ACTIVE, F.CLK_MON_STATUS_AGAINST, F.CLK_MON_OFFSET_OFFSET, F.CLK_PILOT_FREQ_HZ]

/-- Showing a window leaves the judgement as it was. -/
theorem State.monJudge_of_shown {s t : State} (k : Keeps (fieldMask monShownFields) 0 s t) (n : Nat) :
    t.monJudged n = s.monJudged n ∧ t.monTol n = s.monTol n := by
  have hother : ∀ f ∈ monJudgeFields, (fieldMask monShownFields).testBit f.id = false := by decide +kernel
  exact State.monJudge_congr (fun f hf i => k.rd f i rfl (hother f hf)) n

theorem State.clockMonWindow_leaves {s : State} {n : Nat} {off : Int} (hjudged : s.monJudged n = true)
    (hoff : |off| ≤ s.monTol n) : (s.clockMonWindow n off).rd F.CLK_MON_STATUS_ACTIVE n = 1 ∧
      (s.clockMonWindow n off).rd F.CLK_MON_STATUS_TRIPPED n = 0 ∧
      (s.clockMonWindow n off).rd F.CLK_MON_STATUS_AGAINST n = s.monAgainst n := by
  have hagainst : s.monAgainst n % 2 ^ F.CLK_MON_STATUS_AGAINST.width = s.monAgainst n := Nat.mod_eq_of_lt (s.monAgainst_lt n)
  unfold State.clockMonWindow
  extract_lets s1 s2 s3 s4 s5
  have k1 : Keeps (fieldMask monShownFields) 0 s s1 :=
    State.wrAll_keeps (Keeps.refl _ _ s) (Sub.refl _) ⟨by decide +kernel, by decide +kernel, trivial⟩
  have k3 : Keeps (fieldMask monShownFields) 0 s s3 :=
    Keeps.when (State.wrI_keeps k1 (by decide +kernel)) fun _ hu => State.wr_keeps hu (by decide +kernel)
  have k5 : Keeps (fieldMask [F.CLK_MON_OFFSET_OFFSET, F.CLK_PILOT_FREQ_HZ, F.CLK_MON_STATUS_TRIPPED, F.CLK_MON_STATUS_GATED,
      F.PORCH_STATUS_CRYSTAL_OK]) 0 s1 s5 :=
    Keeps.when (State.wrAll_keeps (Keeps.when (State.wrI_keeps (Keeps.refl _ _ s1) (by decide +kernel)) fun _ hu =>
      State.wr_keeps hu (by decide +kernel)) (Sub.refl _) ⟨by decide +kernel, by decide +kernel, trivial⟩) fun _ hu =>
      State.wr_keeps hu (by decide +kernel)
  have h5 : s5.rd F.CLK_MON_STATUS_ACTIVE n = 1 ∧ s5.rd F.CLK_MON_STATUS_TRIPPED n = 0 ∧
      s5.rd F.CLK_MON_STATUS_AGAINST n = s.monAgainst n := by
    refine ⟨(k5.rd _ _ rfl (by decide +kernel)).trans ?_, ?_, (k5.rd _ _ rfl (by decide +kernel)).trans ?_⟩
    · simp +decide [s1, State.wrAll, State.rd_wr_ne]
    · have k4 : Keeps (fieldMask [F.PORCH_STATUS_CRYSTAL_OK]) 0 s4 s5 :=
        Keeps.when (Keeps.refl _ _ _) fun _ hu => State.wr_keeps hu (by decide +kernel)
      refine (k4.rd _ _ rfl (by decide +kernel)).trans ?_
      simp +decide [s4, State.wrAll, State.rd_wr_ne]
    · simp [s1, State.wrAll, hagainst]
  rw [if_neg (by simp [(State.monJudge_of_shown k1 n).1, hjudged]), if_neg (by rw [(State.monJudge_of_shown k3 n).2]; omega)]
  clear_value s5
  split_ifs <;> exact h5

/-- A trip counts and shows; what it does to the clock's users takes nothing of that back. -/
theorem State.monTrip_leaves (s : State) (n kind : Nat) : (s.monTrip n kind).rd F.CLK_MON_STATUS_TRIPPED n = 1 ∧
    (s.monTrip n kind).rd F.CLK_MON_TRIPS_COUNT n = satTo 32 (s.rd F.CLK_MON_TRIPS_COUNT n + 1) := by
  unfold State.monTrip
  extract_lets s1 s2
  have hcount : (s1.bump F.CLK_MON_TRIPS_COUNT n).rd F.CLK_MON_TRIPS_COUNT n = satTo 32 (s.rd F.CLK_MON_TRIPS_COUNT n + 1) := by
    rw [State.rd_bump_self, State.rd_wr_ne _ (by decide)]
    rfl
  constructor
  · rw [State.monFallback_rd (by decide +kernel), State.fault_rd (by decide +kernel), State.bump, State.bumpBy,
      State.rd_wr_ne _ (by decide), State.rd_wr_self]
    rfl
  · rw [State.monFallback_rd (by decide +kernel), State.fault_rd (by decide +kernel), hcount]

theorem State.clockMonMiss_leaves (s : State) (n : Nat) : (s.clockMonMiss n).rd F.CLK_MON_STATUS_TRIPPED n = 1 ∧
    (s.clockMonMiss n).rd F.CLK_MON_STATUS_ACTIVE n = 0 ∧
    (s.clockMonMiss n).rd F.CLK_MON_TRIPS_COUNT n = satTo 32 (s.rd F.CLK_MON_TRIPS_COUNT n + 1) := by
  obtain ⟨htripped, hcount⟩ := (s.wr F.CLK_MON_STATUS_ACTIVE n 0).monTrip_leaves n 0
  rw [State.rd_wr_ne _ (by decide)] at hcount
  exact ⟨htripped, (State.monTrip_rd (by decide +kernel)).trans (State.rd_wr_self _ _ _ _), hcount⟩

/-! Base moves. -/

/-- APLL0 that is unlocked reads so, whatever is dropped and gated with it. -/
theorem State.apll0Off_unlocked (s : State) (lost : Bool) : (s.apll0Off lost).rd F.CLK_BASE_STATUS_APLL0_LOCKED = 0 := by
  unfold State.apll0Off
  extract_lets s1
  rw [State.syncShutters_rd (by decide +kernel), State.disconnect_rd (by decide +kernel), State.gateTdc_rd,
    State.dropLoops_rd (by decide +kernel)]
  simp [s1, State.wrAll]

theorem State.startMove_leaves (s : State) (target : Nat) : (s.startMove target).rd F.CLK_BASE_STATUS_MOVING = 1 ∧
    (s.startMove target).rd F.CLK_BASE_STATUS_MOVE_PENDING = 0 ∧ (s.startMove target).ck.moveTo = some target ∧
    (s.startMove target).ck.baseTarget = target ∧ (s.startMove target).rd F.CLK_BASE_STATUS_APLL0_LOCKED = 0 := by
  unfold State.startMove
  extract_lets c s1 ck s2 s3 s4
  have h1 : s1.rd F.CLK_BASE_STATUS_MOVING = 1 ∧ s1.rd F.CLK_BASE_STATUS_MOVE_PENDING = 0 := by
    simp +decide [s1, State.wrAll, State.rd_wr_ne]
  have k : Keeps (fieldsBut F.CLK_BASE_STATUS_MOVING &&& fieldsBut F.CLK_BASE_STATUS_MOVE_PENDING)
      (partMask [.ev, .tm, .dp, .td, .sy]) s2 (s4.apll0Off false) :=
    State.apll0Off_keeps (State.toPath_keeps (State.reReferAll_keeps (State.info_keeps (Keeps.refl _ _ s2) (by decide +kernel))
      (by decide +kernel)) (by decide +kernel) (by decide +kernel)) (by decide +kernel) (by decide +kernel)
  have hck : (s4.apll0Off false).ck.moveTo = some target := congrArg ClocksSt.moveTo (k.ck rfl)
  have hmoving := (k.rd F.CLK_BASE_STATUS_MOVING 0 rfl (by decide +kernel)).trans h1.1
  have hpending := (k.rd F.CLK_BASE_STATUS_MOVE_PENDING 0 rfl (by decide +kernel)).trans h1.2
  have hlocked := s4.apll0Off_unlocked false
  generalize s4.apll0Off false = u at hck hmoving hpending hlocked ⊢
  exact ⟨(State.requestBase_rd (by decide +kernel)).trans hmoving, (State.requestBase_rd (by decide +kernel)).trans hpending,
    hck, rfl, (State.requestBase_rd (by decide +kernel)).trans hlocked⟩

/-- The write of MOVE starts the pending move to the OCXO. -/
theorem State.baseMove_pending {s : State} (hpending : s.rd F.CLK_BASE_STATUS_MOVE_PENDING = 1)
    (hmoving : s.rd F.CLK_BASE_STATUS_MOVING ≠ 1) : s.baseMove = s.startMove 2 := by
  rw [State.baseMove, if_pos (by simp [State.rdB, hpending, hmoving])]

/-- A stage change leaves where a base move goes. -/
theorem State.setStage_moveTo (s : State) (new row : Nat) : (s.setStage new row).ck.moveTo = s.ck.moveTo := by
  unfold State.setStage
  extract_lets old s1 s2 s3 s4 s5 s6 everStage3 s7 s8 hourStage3 s9 s10
  have k6 : Keeps allFields (partMask [.ev, .tr, .un, .ql, .pr]) s s6 :=
    Keeps.when (Keeps.when (Keeps.when (Keeps.when (State.info_keeps (State.bump_keeps (State.wr_keeps (Keeps.refl _ _ s)
      rfl) rfl) (by decide +kernel)) fun _ hu => State.clearTree_keeps hu (by decide +kernel)) fun _ hu =>
      State.applyRetireList_keeps hu (by decide +kernel) (by decide +kernel)) fun _ hu => State.wr_keeps hu rfl) fun _ hu =>
      State.releaseClaim_keeps hu (by decide +kernel) (by decide +kernel)
  have k10 : Keeps allFields (partMask [.ev, .at_, .pr]) s7 s10.pairReview :=
    State.pairReview_keeps (Keeps.when (Keeps.to_at_ (Keeps.when (Keeps.refl _ _ s7) fun _ hu => State.wr_keeps hu rfl)
      (by decide +kernel) rfl rfl) fun _ hu => State.wr_keeps hu rfl) (by decide +kernel) (by decide +kernel)
  split_ifs
  · rfl
  · rw [k10.ck rfl]
    have h6 : s6.ck.moveTo = s.ck.moveTo := congrArg ClocksSt.moveTo (k6.ck rfl)
    exact h6

theorem State.requestStage_moveTo (s : State) (new row : Nat) : (s.requestStage new row).ck.moveTo = s.ck.moveTo := by
  unfold State.requestStage
  split_ifs
  · rfl
  · exact s.setStage_moveTo new row

theorem State.baseMoveEnd_leaves {s : State} (hmoving : s.rd F.CLK_BASE_STATUS_MOVING = 1) (hlocked : s.loopLocked 0 = true) :
    s.baseMoveEnd.rd F.CLK_BASE_STATUS_MOVING = 0 ∧ s.baseMoveEnd.ck.moveTo = none := by
  rw [State.baseMoveEnd, if_pos (by simp [State.rdB, hmoving, hlocked])]
  extract_lets target s1 ck s2 s3
  have hmoved : s1.rd F.CLK_BASE_STATUS_MOVING = 0 := State.rd_wr_self ..
  have hck : s3.ck = s2.ck := State.info_ck ..
  have h3 : s3.rd F.CLK_BASE_STATUS_MOVING = 0 ∧ s3.ck.moveTo = none :=
    ⟨(State.info_rd ..).trans hmoved, by rw [hck]⟩
  clear_value s3
  split_ifs
  · rwa [State.requestStage_moveTo, State.requestStage_rd (by decide +kernel)]
  · exact h3

/-! Muxes. -/

theorem State.muxSwitch_leaves {s : State} {m : Nat} (len : Nat) (hpending : s.rd F.CLK_MUX_STATUS_PENDING m ≠ 0)
    (hinput : s.rd F.CLK_MUX_STATUS_PENDING m < 4) : let t := s.muxSwitch m len
    t.rd F.CLK_MUX_STATUS_INPUT m = s.rd F.CLK_MUX_STATUS_PENDING m ∧ t.rd F.CLK_MUX_STATUS_PENDING m = 0 ∧
      t.rd F.CLK_MUX_STATUS_GATED m = 0 ∧ t.rd F.CLK_MUX_STATUS_STALLED m = 0 ∧
      t.rd F.CLK_MUX_SWITCHES_COUNT m = satTo 32 (s.rd F.CLK_MUX_SWITCHES_COUNT m + 1) := by
  have hfits : s.rd F.CLK_MUX_STATUS_PENDING m % 2 ^ F.CLK_MUX_STATUS_INPUT.width = s.rd F.CLK_MUX_STATUS_PENDING m :=
    Nat.mod_eq_of_lt hinput
  have hsat : satTo F.CLK_MUX_SWITCHES_COUNT.width (s.rd F.CLK_MUX_SWITCHES_COUNT m + 1) %
      2 ^ F.CLK_MUX_SWITCHES_COUNT.width = satTo 32 (s.rd F.CLK_MUX_SWITCHES_COUNT m + 1) := satTo_mod _ _
  rw [State.muxSwitch]
  extract_lets s1 s2 s3 ck s4 tm t
  have h2 : s2.rd F.CLK_MUX_STATUS_INPUT m = s.rd F.CLK_MUX_STATUS_PENDING m ∧ s2.rd F.CLK_MUX_STATUS_PENDING m = 0 ∧
      s2.rd F.CLK_MUX_STATUS_GATED m = 0 ∧ s2.rd F.CLK_MUX_STATUS_STALLED m = 0 ∧
      s2.rd F.CLK_MUX_SWITCHES_COUNT m = satTo 32 (s.rd F.CLK_MUX_SWITCHES_COUNT m + 1) := by
    simp +decide [s2, s1, State.wrAll, State.bump, State.bumpBy, State.rd_wr_ne, hfits, hsat]
  have k : Keeps (fieldMask [F.CLK_BASE_STATUS_BASE, F.CLK_BASE_STATUS_TK_ON_PATH]) (partMask [.ck, .tm]) s2 t := by
    unfold t
    rw [if_neg hpending]
    exact Keeps.ite (Keeps.to_ck (State.wr_keeps (Keeps.refl _ _ s2) (by decide +kernel)) (by decide +kernel))
      (Keeps.ite (Keeps.to_tm (State.wr_keeps (Keeps.refl _ _ s2) (by decide +kernel)) (by decide +kernel)) (Keeps.refl _ _ s2))
  clear_value s2 t
  iterate 5 rw [k.rd _ _ rfl (by decide +kernel)]
  exact h2

theorem State.muxForced_leaves {s : State} {m : Nat} (hpending : s.rd F.CLK_MUX_STATUS_PENDING m ≠ 0) :
    (s.muxForced m).rd F.CLK_MUX_FORCED_COUNT m = satTo 32 (s.rd F.CLK_MUX_FORCED_COUNT m + 1) ∧
      (s.muxForced m).rd F.CLK_MUX_STATUS_PENDING m = s.rd F.CLK_MUX_STATUS_PENDING m := by
  rw [State.muxForced, if_neg hpending, State.info_rd, State.info_rd]
  exact ⟨State.rd_bump_self _ _ _, State.rd_wr_ne _ (by decide) _ _ _⟩

/-- The switch of a mux is abandoned with source 11, and its domain gated (R82). -/
def State.muxAbandoned (s : State) (m : Nat) : State :=
  (s.wrAll [(F.CLK_MUX_STATUS_PENDING, m, 0), (F.CLK_MUX_STATUS_INPUT, m, 0), (F.CLK_MUX_STATUS_GATED, m, 1),
    (F.CLK_MUX_STATUS_STALLED, m, 1), (F.CLK_MUX_LAST_LEN, m, 0xFFFF)]).fault 11 uPLATFORM m 0

/-- What mux m of the state t shows of the switch that the state s had pending, once it is abandoned. -/
def ShowsStall (m : Nat) (s t : State) : Prop :=
  t.rd F.CLK_MUX_STATUS_STALLED m = 1 ∧ t.rd F.CLK_MUX_STATUS_GATED m = 1 ∧ t.rd F.CLK_MUX_STATUS_INPUT m = 0 ∧
    t.rd F.CLK_MUX_LAST_LEN m = 0xFFFF ∧ t.rd F.FLT_SRC_STAT_COUNT 11 = satTo 16 (s.rd F.FLT_SRC_STAT_COUNT 11 + 1)

theorem State.muxAbandoned_shows (s : State) (m : Nat) : ShowsStall m s (s.muxAbandoned m) := by
  unfold State.muxAbandoned
  refine ⟨?_, ?_, ?_, ?_, (State.fault_count _ 11 uPLATFORM m 0).trans ?_⟩
  all_goals simp +decide [State.wrAll, State.rd_wr_ne]

/-- A base that is gated, and may have been asked of the other input, still shows the stall. -/
theorem State.muxStall_base {s : State} (hpending : s.rd F.CLK_MUX_STATUS_PENDING 0 ≠ 0) :
    Keeps (fieldMask [F.CLK_BASE_STATUS_BASE, F.CLK_MUX_STATUS_PENDING]) (partMask [.ck]) (s.muxAbandoned 0) (s.muxStall 0) := by
  rw [State.muxStall, if_neg hpending]
  extract_lets s1 s2 tried base ck s3
  have h3 : Keeps (fieldMask [F.CLK_BASE_STATUS_BASE, F.CLK_MUX_STATUS_PENDING]) (partMask [.ck]) (s.muxAbandoned 0) s3 :=
    Keeps.to_ck (State.wr_keeps (Keeps.refl _ _ _) (by decide +kernel)) (by decide +kernel)
  rw [if_pos (beq_self_eq_true 0)]
  exact Keeps.ite (State.requestBase_keeps h3 (by decide +kernel) (by decide +kernel))
    (Keeps.ite (State.requestBase_keeps h3 (by decide +kernel) (by decide +kernel)) h3)

theorem State.muxStall_tk {s : State} (hpending : s.rd F.CLK_MUX_STATUS_PENDING 1 ≠ 0) :
    s.muxStall 1 = (s.muxAbandoned 1).gateTk := by
  rw [State.muxStall, if_neg hpending]
  exact if_neg (by decide)

theorem State.gateTk_leaves (s : State) : s.gateTk.rd F.CLK_MUX_STATUS_GATED 1 = 1 ∧
    s.gateTk.rd F.CLK_MUX_STATUS_INPUT 1 = 0 := by
  unfold State.gateTk
  extract_lets s1 tm
  rw [State.disconnect_rd (by decide +kernel), State.disconnect_rd (by decide +kernel)]
  have h1 : s1.rd F.CLK_MUX_STATUS_GATED 1 = 1 ∧ s1.rd F.CLK_MUX_STATUS_INPUT 1 = 0 := by
    simp +decide [s1, State.wrAll, State.rd_wr_ne]
  exact h1

theorem State.muxStall_shows {s : State} {m : Nat} (hm : m < 2) (hpending : s.rd F.CLK_MUX_STATUS_PENDING m ≠ 0) :
    ShowsStall m s (s.muxStall m) := by
  obtain ⟨hstalled, hgated, hinput, hlen, hcount⟩ := s.muxAbandoned_shows m
  interval_cases m
  · have k := State.muxStall_base hpending
    exact ⟨(k.rd _ _ rfl (by decide +kernel)).trans hstalled, (k.rd _ _ rfl (by decide +kernel)).trans hgated,
      (k.rd _ _ rfl (by decide +kernel)).trans hinput, (k.rd _ _ rfl (by decide +kernel)).trans hlen,
      (k.rd _ _ rfl (by decide +kernel)).trans hcount⟩
  · obtain ⟨hgated', hinput'⟩ := (s.muxAbandoned 1).gateTk_leaves
    rw [State.muxStall_tk hpending]
    exact ⟨(State.gateTk_rd (by decide +kernel)).trans hstalled, hgated', hinput',
      (State.gateTk_rd (by decide +kernel)).trans hlen, (State.gateTk_rd (by decide +kernel)).trans hcount⟩

/-! The stages. -/

theorem State.stage3HoldoffEnd_requests {s : State} (hstage : s.stage = 2) (hruns : s.ck.holdoffRuns = true)
    (hstarted : s.tm.started = true) : s.stage3HoldoffEnd.ck.stageReq = some (3, 4) := by
  rw [State.stage3HoldoffEnd, if_pos (by simp [hstage, hruns]), State.requestStage, if_pos hstarted]

end Sys2Proof.Machine

namespace Sys2Proof

open Sys2Proof.Machine

/-- Settles O13: each clause is what its command's operation leaves. -/
theorem clockCommandsComplete : Obligations.ClockCommandsComplete :=
  ⟨fun _ _ hosc htry => ⟨_, rfl, State.oscAmplitudeTimeout_leaves hosc htry⟩,
    fun _ _ _ htry htrip hlow hhigh => ⟨_, rfl, State.oscCountDone_qualifies htry htrip hlow hhigh⟩,
    fun s => ⟨_, rfl, s.rd_wr_self F.CLK_OCXO_STATUS_TEMP_SETTLED 0 1⟩,
    fun _ _ hqual hsettled hcold => ⟨_, rfl, State.ocxoBecomesWarm_leaves hqual hsettled hcold⟩,
    fun _ hcold => ⟨_, rfl, State.ocxoWarmTimeout_leaves hcold⟩,
    fun _ _ _ hjudged hoff => ⟨_, rfl, State.clockMonWindow_leaves hjudged hoff⟩,
    fun n s => ⟨_, rfl, s.clockMonMiss_leaves n⟩,
    fun s hpending hmoving => ⟨_, rfl, (State.baseMove_pending hpending hmoving).symm ▸ s.startMove_leaves 2⟩,
    fun _ hmoving hlocked => ⟨_, rfl, State.baseMoveEnd_leaves hmoving hlocked⟩,
    fun _ len _ hpending hinput => ⟨_, rfl, State.muxSwitch_leaves len hpending hinput⟩,
    fun _ _ hpending => ⟨_, rfl, State.muxForced_leaves hpending⟩,
    fun m _ hpending => ⟨_, rfl, State.muxStall_shows m.isLt hpending⟩,
    fun _ hstage hruns hstarted => ⟨_, rfl, State.stage3HoldoffEnd_requests hstage hruns hstarted⟩⟩

end Sys2Proof
end

section
/-! PROOF. Reset values of the register chapters (R6, R366). -/

namespace Sys2Proof.Machine

/-- A field whose reset value is one for every index reads it after reset. -/
theorem State.reset_rd_const {f : Fld} {v : Nat} (h : f.rst = .const v) (i : Nat) : State.reset.rd f i = v := by
  rw [State.reset_rd, Fld.reset, h]

/-- A field with a reset value per index reads that of its index after reset. -/
theorem State.reset_rd_table {f : Fld} {l : List Nat} (h : f.rst = .table l) (i : Nat) : State.reset.rd f i = l.getD i 0 := by
  rw [State.reset_rd, Fld.reset, h]

end Sys2Proof.Machine

namespace Sys2Proof

open Sys2Proof.Machine

/-- Settles O3: each field reads the reset value of its definition; the entry times alone have one per index. -/
theorem resetValues : Obligations.ResetValues := by
  have hentry : ∀ p : Fin 16, [600, 600, 600, 600, 600, 600, 600, 3600, 600, 600, 600, 600, 600, 600, 600, 600].getD p.val 0 =
      if p = 7 then 3600 else 600 := by decide
  exact ⟨fun n => ⟨State.reset_rd_const rfl n, State.reset_rd_const rfl n, State.reset_rd_const rfl n⟩,
    State.reset_rd_const rfl 0, State.reset_rd_const rfl 0, State.reset_rd_const rfl 0, State.reset_rd_const rfl 0,
    fun n => ⟨State.reset_rd_const rfl n, State.reset_rd_const rfl n⟩, fun n => State.reset_rd_const rfl n,
    fun m => State.reset_rd_const rfl m, State.reset_rd_const rfl 0, fun n => State.reset_rd_const rfl n,
    fun d => ⟨State.reset_rd_const rfl d, State.reset_rd_const rfl d⟩,
    fun p => (State.reset_rd_table rfl p).trans (hentry p), fun a => State.reset_rd_const rfl a,
    fun p => State.reset_rd_const rfl p, fun j => State.reset_rd_const rfl j,
    fun p => ⟨State.reset_rd_const rfl p, State.reset_rd_const rfl p⟩, State.reset_rd_const rfl 0,
    State.reset_rd_const rfl 0, State.reset_rd_const rfl 0,
    fun k => ⟨State.reset_rd_const rfl k, State.reset_rd_const rfl k⟩, State.reset_rd_const rfl 0,
    State.reset_rd_const rfl 0, rfl, rfl, rfl, rfl⟩

end Sys2Proof
end

section
/-! PROOF. Frames of stamps, calibration, estimates and takes (R88–R112). -/

namespace Sys2Proof

open Sys2Proof.Machine

/-- Settles O31: each frame is the mask of what the command's operation may change. -/
theorem tdcFrames : Obligations.TdcFrames :=
  ⟨fun _ _ _ _ _ _ s _ e => Changes.of_keeps (execEdgeStamp_keeps (Keeps.refl _ _ s) (by decide +kernel) (by decide +kernel) e),
    fun _ s _ e => Changes.of_keeps (execStampDistribute_keeps (Keeps.refl _ _ s) (by decide +kernel) (by decide +kernel) e),
    fun _ _ _ _ _ _ _ s _ e =>
      Changes.of_keeps (execCalTableReady_keeps (Keeps.refl _ _ s) (by decide +kernel) (by decide +kernel) e),
    fun _ s _ e => Changes.of_keeps (execCalValid_keeps (Keeps.refl _ _ s) (by decide +kernel) (by decide +kernel) e),
    fun _ s _ e => Changes.of_keeps (execCalRescaleDone_keeps (Keeps.refl _ _ s) (by decide +kernel) e),
    fun _ s _ e => Changes.of_keeps (execGateEnd_keeps (Keeps.refl _ _ s) (by decide +kernel) (by decide +kernel) e),
    fun _ s _ e => Changes.of_keeps (execEstimatePublish_keeps (Keeps.refl _ _ s) (by decide +kernel) (by decide +kernel) e),
    fun _ s _ e => Changes.of_keeps (execEstStart_keeps (Keeps.refl _ _ s) (by decide +kernel) (by decide +kernel) e),
    fun _ s _ e => Changes.of_keeps (execEstStop_keeps (Keeps.refl _ _ s) (by decide +kernel) (by decide +kernel) e),
    fun _ s _ e => Changes.of_keeps (execTakeArm_keeps (Keeps.refl _ _ s) (by decide +kernel) (by decide +kernel) e),
    fun _ s _ e => Changes.of_keeps (execTakeAbort_keeps (Keeps.refl _ _ s) (by decide +kernel) (by decide +kernel) e),
    fun _ _ _ s _ e => Changes.of_keeps (execGatePinEdge_keeps (Keeps.refl _ _ s) (by decide +kernel) (by decide +kernel) e),
    fun _ s _ e => Changes.of_keeps (execTakeGateEnd_keeps (Keeps.refl _ _ s) (by decide +kernel) (by decide +kernel) e)⟩

end Sys2Proof
end

section
/-! PROOF. Where the commands of the TDC, its estimates and its takes complete and what they leave (R92–R110). -/

namespace Sys2Proof.Machine

/-! What the TDC keeps beside the registers. -/

theorem State.chan_congr {s t : State} (h : t.td = s.td) (c : Nat) : t.chan c = s.chan c := by
  unfold State.chan
  rw [h]

theorem State.take_congr {s t : State} (h : t.td = s.td) (k : Nat) : t.take k = s.take k := by
  unfold State.take
  rw [h]

theorem State.wrAll_td (s : State) (l : List (Fld × Nat × Nat)) : (s.wrAll l).td = s.td :=
  State.foldl_inv State.td l _ s fun _ _ => rfl

@[simp] theorem State.est_wr (s : State) (f : Fld) (i v e : Nat) : (s.wr f i v).est e = s.est e := rfl

/-! Stamps (R92, R97). -/

/-- A pulse stamp kept for messages changes neither its channel's FIFO nor its edge index. -/
theorem State.notePulse_chan (s : State) (c : Nat) (time : Int) :
    ((s.notePulse c time).chan c).fifo = (s.chan c).fifo ∧ ((s.notePulse c time).chan c).edges = (s.chan c).edges := by
  unfold State.notePulse
  split_ifs
  · rw [State.chan_setChan]
    exact ⟨rfl, rfl⟩
  · exact ⟨rfl, rfl⟩

/-- A stamp that enters its FIFO is its last; what its monitors do with it leaves the channel as it is. -/
theorem State.pushStamp_leaves {s : State} {c : Nat} (st : Stamp) (hroom : (s.chan c).fifo.length < 128) :
    (s.pushStamp c st).rd F.TDC_CH_FIFO_LEVEL c = (s.chan c).fifo.length + 1 ∧
      ((s.pushStamp c st).chan c).fifo = (s.chan c).fifo ++ [st] ∧ ((s.pushStamp c st).chan c).edges = (s.chan c).edges := by
  unfold State.pushStamp
  extract_lets x s1 n s2
  have hfits : n % 2 ^ F.TDC_CH_FIFO_LEVEL.width = n := Nat.mod_eq_of_lt (show (s.chan c).fifo.length + 1 < 256 by omega)
  have hlevel : s2.rd F.TDC_CH_FIFO_LEVEL c = n := by simp +decide [s2, State.wrAll, State.rd_wr_ne, hfits]
  have hchan : s2.chan c = s1.chan c := State.chan_congr (s1.wrAll_td _) c
  obtain ⟨hfifo, hedges⟩ := (s.setChan c { x with fifo := x.fifo ++ [st], dropNext := false }).notePulse_chan c st.t
  rw [State.chan_setChan] at hfifo hedges
  have k : Keeps (fieldsBut F.TDC_CH_FIFO_LEVEL) 0x2306b26 s2 ((s2.monsOf c).foldl (fun u m => u.qualStamp m c st) s2) :=
    Keeps.foldl (Keeps.refl _ _ s2) fun _ _ hu => State.qualStamp_keeps hu (by decide +kernel) (Sub.refl _)
  rw [k.rd _ _ rfl (by decide +kernel), State.chan_congr (k.td rfl), hchan]
  exact ⟨hlevel, hfifo, hedges⟩

@[simp] theorem State.advanceTo_lost (s : State) (time : Nat) : (s.advanceTo time).tm.lost = s.tm.lost := by
  unfold State.advanceTo
  split_ifs <;> rfl

theorem State.advanceTo_td (s : State) (time : Nat) : (s.advanceTo time).td = s.td :=
  (State.advanceTo_keeps (Keeps.refl 0 0x10 s) (Sub.refl _)).td rfl

/-- Whether a channel stamps follows from its registers, its domain, its unit and the counter. -/
theorem State.chanRunning_congr {s t : State} {c : Nat} (henable : t.rd F.TDC_CH_CFG_ENABLE c = s.rd F.TDC_CH_CFG_ENABLE c)
    (hvalid : t.rd F.TDC_CH_CAL_VALID c = s.rd F.TDC_CH_CAL_VALID c) (hgated : t.td.gated = s.td.gated)
    (hlost : t.tm.lost = s.tm.lost) (hun : t.un = s.un) : t.chanRunning c = s.chanRunning c := by
  simp only [State.chanRunning, State.rdB, State.inService, State.isRetired, State.isIsolated, State.isResetting, henable,
    hvalid, hgated, hlost, hun]

/-- An edge of a running channel that no edge precedes and that finds room in the FIFO is counted and becomes a stamp. -/
theorem State.edgeStamp_pushes {s : State} {c : Nat} (coarse line : Nat) (falling : Bool) (cmp gl : Nat)
    (hseen : s.edgesSeen c = true) (hruns : s.chanRunning c = true) (hfirst : (s.chan c).lastEdge = none)
    (hroom : (s.chan c).fifo.length < 128) :
    ∃ (u : State) (st : Stamp), s.edgeStamp c coarse line falling cmp gl = u.pushStamp c st ∧
      (u.chan c).fifo = (s.chan c).fifo ∧ (u.chan c).edges = ((s.chan c).edges + 1) % 2 ^ 48 ∧
      st.idx = (s.chan c).edges ∧ st.falling = falling ∧ st.dropBefore = (s.chan c).dropNext := by
  rw [State.edgeStamp, if_neg (by simp [hseen])]
  extract_lets s1 s2 time x idx close s3
  have k1 : Keeps (fieldMask [F.IN_EDGES_COUNT, F.IN_FILTER_GLITCHES]) 0 s1 s2 :=
    Keeps.when (Keeps.refl _ _ s1) fun _ hu => State.bumpBy_keeps (State.wr_keeps hu (by decide +kernel)) (by decide +kernel)
  have k2 : Keeps (fieldMask [F.IN_EDGES_COUNT, F.IN_FILTER_GLITCHES]) (partMask [.tm]) s s2 :=
    (State.advanceTo_keeps (Keeps.refl _ _ s) (Sub.refl _)).trans (k1.mono (Sub.refl _) (by decide +kernel))
  have hx : x = s.chan c := State.chan_congr (k2.td rfl) c
  have hlost : s2.tm.lost = s.tm.lost := (congrArg TimeSt.lost (k1.tm rfl)).trans (s.advanceTo_lost coarse)
  have hruns3 : s3.chanRunning c = true := (State.chanRunning_congr (k2.rd _ _ rfl (by decide +kernel))
    (k2.rd _ _ rfl (by decide +kernel)) (congrArg TdcSt.gated (k2.td rfl)) hlost (k2.un rfl)).trans hruns
  have hclose : close = false := by simp [close, hx, hfirst]
  have hchan : s3.chan c = { x with edges := (x.edges + 1) % 2 ^ 48, lastEdge := some time } := State.chan_setChan _ _ _
  rw [if_neg (by simp [hruns3]), if_neg (by simp [hclose]), if_neg (by rw [hx]; omega)]
  exact ⟨s3, _, rfl, by rw [hchan, hx], by rw [hchan, hx], congrArg ChanSt.edges hx, rfl, congrArg ChanSt.dropNext hx⟩

theorem State.edgeStamp_leaves {s : State} {c : Nat} (coarse line : Nat) (falling : Bool) (cmp gl : Nat)
    (hseen : s.edgesSeen c = true) (hruns : s.chanRunning c = true) (hfirst : (s.chan c).lastEdge = none)
    (hroom : (s.chan c).fifo.length < 128) : let t := s.edgeStamp c coarse line falling cmp gl
    t.rd F.TDC_CH_FIFO_LEVEL c = (s.chan c).fifo.length + 1 ∧ (t.chan c).edges = ((s.chan c).edges + 1) % 2 ^ 48 ∧
      ∃ st, (t.chan c).fifo = (s.chan c).fifo ++ [st] ∧ st.idx = (s.chan c).edges ∧ st.falling = falling ∧
        st.dropBefore = (s.chan c).dropNext := by
  obtain ⟨u, st, hpush, hfifo, hedges, hst⟩ := State.edgeStamp_pushes coarse line falling cmp gl hseen hruns hfirst hroom
  obtain ⟨hlevel, hfifo', hedges'⟩ := u.pushStamp_leaves st (hfifo ▸ hroom)
  rw [hpush]
  exact ⟨hfifo ▸ hlevel, hedges'.trans hedges, st, hfifo ▸ hfifo', hst⟩

/-- The oldest stamp that no consumer refuses leaves the FIFO and is counted. -/
theorem State.stampDistribute_leaves {s : State} {c : Nat} {st : Stamp} {rest : List Stamp}
    (hfifo : (s.chan c).fifo = st :: rest) (haccept : s.refuses c = false) :
    (s.stampDistribute c).rd F.TDC_CH_FIFO_LEVEL c = rest.length % 2 ^ 8 ∧
      (s.stampDistribute c).rd F.TDC_CH_STAMPS_COUNT c = (s.rd F.TDC_CH_STAMPS_COUNT c + 1) % 2 ^ 32 := by
  unfold State.stampDistribute
  split
  next hnil => rw [hfifo] at hnil; cases hnil
  next st' rest' hcons =>
  obtain ⟨rfl, rfl⟩ := List.cons.inj (hfifo.symm.trans hcons)
  rw [if_neg (by simp [haccept])]
  extract_lets x s1 s2 s3 s4 s0 s5
  have hlevel : s2.rd F.TDC_CH_FIFO_LEVEL c = rest.length % 2 ^ 8 :=
    (State.rd_wr_ne _ (by decide) _ _ _).trans (State.rd_wr_self _ _ _ _)
  have hcount : s2.rd F.TDC_CH_STAMPS_COUNT c = (s.rd F.TDC_CH_STAMPS_COUNT c + 1) % 2 ^ 32 :=
    (State.rd_wr_self _ _ _ _).trans (by rw [State.rd_wr_ne _ (by decide)]; rfl)
  clear_value s2
  have k3 : Keeps (fieldsBut F.TDC_CH_FIFO_LEVEL &&& fieldsBut F.TDC_CH_STAMPS_COUNT) 0x106d00 s2 s3 :=
    Keeps.when (Keeps.refl _ _ s2) fun _ hu => State.pushRecord_keeps hu (by decide +kernel) (by decide +kernel)
  have k4 : Keeps (fieldsBut F.TDC_CH_FIFO_LEVEL &&& fieldsBut F.TDC_CH_STAMPS_COUNT) 0x106d00 s2 s4 :=
    Keeps.forAll k3 fun _ _ hu => State.takeStamp_keeps hu (by decide +kernel) (by decide +kernel)
  have k : Keeps (fieldsBut F.TDC_CH_FIFO_LEVEL &&& fieldsBut F.TDC_CH_STAMPS_COUNT) 0x106d00 s2
      ((s5.verifyStamp c st.t).leafStamp c st) :=
    State.leafStamp_keeps (State.verifyStamp_keeps (State.mapGates_keeps k4 (by decide +kernel)) (by decide +kernel))
      (by decide +kernel)
  exact ⟨(k.rd _ _ rfl (by decide +kernel)).trans hlevel, (k.rd _ _ rfl (by decide +kernel)).trans hcount⟩

/-! Calibration (R93, R94). -/

/-- A table that passes puts the idle line in service with what was measured of it. -/
theorem State.calTableReady_passes {s : State} {c beyond maxTap : Nat} (taps bin dnl inl : Nat)
    (hhold : s.rd F.TDC_CAL_CFG_HOLD ≠ 1) (henable : s.rd F.TDC_CH_CFG_ENABLE c = 1) (hbeyond : beyond ≤ 1000)
    (hwidest : maxTap ≤ 6000) : let t := s.calTableReady c beyond maxTap taps bin dnl inl
    t.rd F.TDC_CH_CAL_FAILED c = 0 ∧ t.rd F.TDC_CH_STATUS_LINE c = 1 - s.rd F.TDC_CH_STATUS_LINE c ∧
      t.rd F.TDC_CH_BIN_BIN c = bin % 2 ^ 16 ∧ t.rd F.TDC_CH_BIN_TAPS c = taps % 2 ^ 10 ∧
      t.rd F.TDC_CH_CAL_DNL_MAX c = dnl % 2 ^ 8 ∧ t.rd F.TDC_CH_CAL_INL_MAX c = inl % 2 ^ 8 := by
  have hline : (1 - s.rd F.TDC_CH_STATUS_LINE c) % 2 ^ F.TDC_CH_STATUS_LINE.width = 1 - s.rd F.TDC_CH_STATUS_LINE c :=
    Nat.mod_eq_of_lt (show 1 - s.rd F.TDC_CH_STATUS_LINE c < 2 by omega)
  have hpass : (if 1000 < beyond then 1 else if 6000 < maxTap then 2 else 0) = 0 := by
    rw [if_neg (by omega), if_neg (by omega)]
  rw [State.calTableReady, if_neg (by simp [State.rdB, hhold, henable])]
  simp only [hpass, ne_eq, not_true_eq_false, if_false]
  simp +decide only [State.wrAll, List.foldl_cons, List.foldl_nil, State.rd_wr_self, State.rd_wr_ne, State.setChan_rd,
    hline, ne_eq, true_and]
  exact ⟨rfl, rfl, rfl, rfl⟩

theorem State.calValid_shows {s : State} {c : Nat} (henable : s.rd F.TDC_CH_CFG_ENABLE c = 1) (hclock : s.td.gated = false) :
    (s.calValid c).rd F.TDC_CH_CAL_VALID c = 1 := by
  have hvalid : (s.wr F.TDC_CH_CAL_VALID c 1).rd F.TDC_CH_CAL_VALID c = 1 := State.rd_wr_self _ _ _ _
  rw [State.calValid, if_pos (by simp [State.rdB, henable, hclock])]
  extract_lets s1
  split_ifs <;> exact hvalid

/-! Gates and their results (R102, R103, R106). -/

theorem State.gateEnd_channel {s : State} {c : Nat} {g : Gate} (hc : c < 28) (h : (s.chan c).gate = some g) :
    ((s.gateEnd c).chan c).result = some ((s.advanceTo g.stop).gateResult c g) := by
  rw [State.gateEnd, if_pos hc]
  simp only [h, State.chan_setChan]

theorem State.gateEnd_est {s : State} {e : Nat} {g : Gate} (h : (s.est e).gate = some g) :
    ((s.gateEnd (28 + e)).est e).result = some ((s.advanceTo g.stop).gateResult (s.est e).channel g) ∧
      (s.gateEnd (28 + e)).rd F.EST_STATUS_STATE e = if (s.est e).continuous then 2 else 0 := by
  rw [State.gateEnd, if_neg (by omega), Nat.add_sub_cancel_left]
  simp only [h]
  split_ifs <;> exact ⟨by rw [State.est_wr, State.est_setEst], State.rd_wr_self _ _ _ _⟩

/-- A channel's result is taken; its monitors take it over beside the channel. -/
theorem State.estimatePublish_channel {s : State} {c : Nat} {r : GateResult} (hc : c < 28) (h : (s.chan c).result = some r) :
    ((s.estimatePublish c).chan c).result = none ∧ ((s.estimatePublish c).chan c).offsetOk = (r.code == 1) ∧
      (r.code = 1 → ((s.estimatePublish c).chan c).offset = some r.offset) := by
  rw [State.estimatePublish, if_pos hc]
  simp only [h]
  rw [State.chan_congr ((State.monResult_keeps (Keeps.refl 0 0x800 _) (Sub.refl _)).td rfl), State.chan_setChan]
  exact ⟨rfl, rfl, fun hok => by simp [hok]⟩

theorem State.estimatePublish_est {s : State} {e : Nat} {r : GateResult} (h : (s.est e).result = some r) (hcode : r.code < 16) :
    (s.estimatePublish (28 + e)).rd F.EST_STATUS_RESULT e = r.code ∧
      (s.estimatePublish (28 + e)).rd F.EST_COUNT_N e = satTo 32 r.n ∧
      (s.estimatePublish (28 + e)).rd F.EST_SEQ_SEQ e = (s.rd F.EST_SEQ_SEQ e + 1) % 2 ^ 32 := by
  have hfits : r.code % 2 ^ F.EST_STATUS_RESULT.width = r.code := Nat.mod_eq_of_lt hcode
  have hsat : satTo 32 r.n % 2 ^ F.EST_COUNT_N.width = satTo 32 r.n := satTo_mod 32 _
  rw [State.estimatePublish, if_neg (by omega), Nat.add_sub_cancel_left]
  unfold State.publishEst
  extract_lets x
  split
  next hnone => rw [h] at hnone; cases hnone
  next r' hr =>
  obtain rfl := Option.some.inj (h.symm.trans hr)
  extract_lets ok s1 s2 s3 s4
  obtain ⟨hresult, hn, hseq⟩ : s2.rd F.EST_STATUS_RESULT e = r.code ∧ s2.rd F.EST_COUNT_N e = satTo 32 r.n ∧
      s2.rd F.EST_SEQ_SEQ e = s.rd F.EST_SEQ_SEQ e := by
    simp +decide [s2, s1, State.wrAll, State.rd_wr_ne, hfits, hsat]
  have k3 : Keeps (fieldMask [F.EST_OFFSET_OFFSET, F.EST_RESID_RESID]) 0 s2 s3 :=
    Keeps.when (Keeps.refl _ _ s2) fun _ hu => State.wr_keeps (State.wrI_keeps hu (by decide +kernel)) (by decide +kernel)
  have k4 : Keeps (fieldMask [F.EST_OFFSET_OFFSET, F.EST_RESID_RESID, F.EST_SEQ_SEQ]) 0 s2 s4 :=
    State.bumpWrap_keeps (k3.mono (by decide +kernel) (Sub.refl _)) (by decide +kernel)
  have k5 : Keeps 0 (partMask [.ev]) s4 (s4.when (s.est e).event (·.info 72 (uTDC (s.est e).channel) 0 0 0)) :=
    Keeps.when (Keeps.refl _ _ s4) fun _ hu => State.info_keeps hu (by decide +kernel)
  have hseq4 : s4.rd F.EST_SEQ_SEQ e = (s3.rd F.EST_SEQ_SEQ e + 1) % 2 ^ 32 := State.rd_wr_self _ _ _ _
  rw [k3.rd F.EST_SEQ_SEQ e rfl (by decide +kernel), hseq] at hseq4
  iterate 3 rw [k5.rd _ _ rfl (Nat.zero_testBit _)]
  exact ⟨(k4.rd _ _ rfl (by decide +kernel)).trans hresult, (k4.rd _ _ rfl (by decide +kernel)).trans hn, hseq4⟩

theorem State.estStart_leaves {s : State} {e : Nat} (hgate : s.rd F.EST_GATE_GATE_MS e ≠ 0) : let t := s.estStart e
    t.rd F.EST_STATUS_STATE e = 1 ∧ t.rd F.EST_SEQ_SEQ e = 0 ∧ (t.est e).gateMs = min (s.rd F.EST_GATE_GATE_MS e) 1000000 ∧
      (t.est e).channel = min 27 (s.rd F.EST_CFG_CHANNEL e) := by
  rw [State.estStart, if_neg hgate]
  simp +decide [State.wrAll, State.rd_wr_ne]

theorem State.estStop_leaves (s : State) (e : Nat) :
    (s.estStop e).rd F.EST_STATUS_STATE e = 0 ∧ ((s.estStop e).est e).gate = none := by
  rw [State.estStop, State.est_wr, State.est_setEst]
  exact ⟨State.rd_wr_self _ _ _ _, rfl⟩

/-! Takes (R107, R108, Table 4.5). -/

/-- A take that starts runs from its start on, no record of it written yet. -/
theorem State.takeStart_leaves (s : State) (k start : Nat) : (s.takeStart k start).rd F.TAKE_STATUS_STATE k = 2 ∧
    ((s.takeStart k start).take k).start = some start ∧ (s.takeStart k start).rd F.TAKE_COUNT_RECORDS k = 0 := by
  unfold State.takeStart
  extract_lets x s1
  rw [State.take_congr (s1.wrAll_td _), State.take_setTake]
  simp +decide [State.wrAll, State.rd_wr_ne]

theorem State.takeStart_others (s : State) (k start : Nat) : (s.takeStart k start).td.gate0 = s.td.gate0 ∧
    ∀ j ≠ k, (s.takeStart k start).take j = s.take j := by
  unfold State.takeStart
  extract_lets x s1
  refine ⟨by rw [s1.wrAll_td]; rfl, fun j hj => ?_⟩
  rw [State.take_congr (s1.wrAll_td _), State.take_setTake_ne _ _ _ hj]

/-- A summary leaves its result in the take's status. -/
theorem State.takeSummary_result (s : State) (k result : Nat) :
    (s.takeSummary k result).rd F.TAKE_STATUS_RESULT k = result % 2 ^ 4 := by
  unfold State.takeSummary
  exact State.rd_wr_self _ _ _ _

/-- A take armed on SOURCE 0 or 3, with a gate time, a reel and its channels enabled, starts at once. -/
theorem State.takeArm_starts {s : State} {k : Nat} (hidle : s.rd F.TAKE_STATUS_STATE k = 0)
    (hgate : s.rd F.TAKE_GATE_GATE_MS k ≠ 0) (hsource : s.rd F.TAKE_CFG_SOURCE k = 0 ∨ s.rd F.TAKE_CFG_SOURCE k = 3)
    (hreel : s.streamReel.isSome = true)
    (hchannels : ∀ c ∈ takeChannels (s.rdB F.TAKE_CFG_MODE k) (s.rd F.TAKE_CFG_START k) (s.rd F.TAKE_CFG_STOP k)
      (s.rd F.TAKE_MASK_CHANNELS k), s.rd F.TDC_CH_CFG_ENABLE c = 1 ∧ s.isRetired (uTDC c) = false ∧
        s.isIsolated (uTDC c) = false) : ∃ x, s.takeArm k = (s.setTake k x).takeStart k s.now := by
  rw [State.takeArm, if_neg (by omega)]
  extract_lets ms src x bad s1
  have hbad : bad = false := List.any_eq_false.2 fun c hc => by
    obtain ⟨henable, hretired, hisolated⟩ := hchannels c hc
    simp [State.rdB, henable, hretired, hisolated]
  have hnow : x.source = 0 := by
    rcases hsource with h | h <;> simp [x, src, h]
  have hnone : s.streamReel.isNone = false := by simpa using hreel
  rw [if_neg hgate, if_neg (by simp [hbad]), if_neg (by simp [hnone]), if_pos (by simp [hnow])]
  exact ⟨x, rfl⟩

/-- An armed and a running take alike end with `ABORTED` (8). -/
theorem State.takeAbort_leaves {s : State} {k : Nat} (h : s.rd F.TAKE_STATUS_STATE k = 1 ∨ s.rd F.TAKE_STATUS_STATE k = 2) :
    (s.takeAbort k).rd F.TAKE_STATUS_STATE k = 0 ∧ (s.takeAbort k).rd F.TAKE_STATUS_RESULT k = 8 := by
  have hended : ((s.takeSummary k 8).wr F.TAKE_STATUS_STATE k 0).rd F.TAKE_STATUS_STATE k = 0 ∧
      ((s.takeSummary k 8).wr F.TAKE_STATUS_STATE k 0).rd F.TAKE_STATUS_RESULT k = 8 :=
    ⟨State.rd_wr_self _ _ _ _, (State.rd_wr_ne _ (by decide) _ _ _).trans (s.takeSummary_result k 8)⟩
  rcases h with h | h
  · simpa only [State.takeAbort, h, if_true] using hended
  · simpa only [State.takeAbort, h, OfNat.ofNat_ne_one, if_false, if_true, State.info_rd] using hended

/-- The gate time's end of a running take leaves `OK` (1), whether the take ends or repeats. -/
theorem State.takeEnd_result {s : State} {k : Nat} (h : s.rd F.TAKE_STATUS_STATE k = 2) :
    (s.takeEnd k).rd F.TAKE_STATUS_RESULT k = 1 := by
  rw [State.takeEnd, if_neg (by simp [h])]
  extract_lets s1 x s2 s3 s4
  have h4 : s4.rd F.TAKE_STATUS_RESULT k = 1 := (State.info_rd ..).trans (s3.takeSummary_result k 1)
  split_ifs
  · rwa [State.takeStart_rd (by decide +kernel)]
  · rwa [State.rd_wr_ne _ (by decide)]
  · rwa [State.rd_wr_ne _ (by decide)]

theorem State.takeGateEnd_result {s : State} {k stop : Nat} (hstop : (s.take k).stop = some stop)
    (h : s.rd F.TAKE_STATUS_STATE k = 2) : (s.takeGateEnd k).rd F.TAKE_STATUS_RESULT k = 1 := by
  simp only [State.takeGateEnd, hstop, h, if_true]
  exact State.takeEnd_result ((State.advanceTo_rd ..).trans h)

/-- What a change of a GATE pin does to take k. -/
def State.gateEdgeTake (pin cycle k : Nat) (u : State) : State :=
  if (u.take k).source ≠ pin + 1 then u
  else if u.rd F.TAKE_STATUS_STATE k = 1 && u.gateActive (u.take k) then u.takeStart k (cycle - 209715)
  else if u.rd F.TAKE_STATUS_STATE k = 2 && (u.take k).level && !u.gateActive (u.take k) then u.takeEnd k
  else u

/-- GATE0's rise, at the cycle told, as the takes find it. -/
def State.gate0Rises (s : State) (cycle : Nat) : State :=
  { s.advanceTo cycle with td := { (s.advanceTo cycle).td with gate0 := true } }

theorem State.gatePinEdge_rise (s : State) (cycle : Nat) : s.gatePinEdge 0 true cycle =
    State.gateEdgeTake 0 cycle 3 (State.gateEdgeTake 0 cycle 2 (State.gateEdgeTake 0 cycle 1
      (State.gateEdgeTake 0 cycle 0 (s.gate0Rises cycle)))) := by
  have hloop : s.gatePinEdge 0 true cycle = State.forAll 4 (State.gateEdgeTake 0 cycle) (s.gate0Rises cycle) := by
    unfold State.gatePinEdge State.gateEdgeTake State.gate0Rises
    simp only [beq_self_eq_true, if_true]
  have hrange : List.range 4 = [0, 1, 2, 3] := rfl
  rw [hloop, State.forAll, hrange]
  simp only [List.foldl_cons, List.foldl_nil]

theorem State.gateEdgeTake_other {pin cycle k : Nat} {u : State} (h : (u.take k).source ≠ pin + 1) :
    State.gateEdgeTake pin cycle k u = u := if_pos h

/-- The rise of GATE0 starts an armed take of the pin, active high, 3.2 ns before it; takes of no pin or of GATE1 are left. -/
theorem State.gatePinEdge_starts {s : State} (cycle : Nat) (harmed : s.rd F.TAKE_STATUS_STATE 0 = 1)
    (hsource : (s.take 0).source = 1) (hhigh : (s.take 0).activeLow = false) (h1 : (s.take 1).source ≠ 1)
    (h2 : (s.take 2).source ≠ 1) (h3 : (s.take 3).source ≠ 1) :
    s.gatePinEdge 0 true cycle = (s.gate0Rises cycle).takeStart 0 (cycle - 209715) := by
  have htake : ∀ k, (s.gate0Rises cycle).take k = s.take k := fun k => State.take_congr (s.advanceTo_td cycle) k
  have harmed' : (s.gate0Rises cycle).rd F.TAKE_STATUS_STATE 0 = 1 := (State.advanceTo_rd ..).trans harmed
  have hactive : (s.gate0Rises cycle).gateActive (s.take 0) = true := by
    simp [State.gateActive, hsource, hhigh, State.gate0Rises]
  have hstart : State.gateEdgeTake 0 cycle 0 (s.gate0Rises cycle) = (s.gate0Rises cycle).takeStart 0 (cycle - 209715) := by
    rw [State.gateEdgeTake, htake, if_neg (by simp [hsource]), if_pos (by simp [harmed', hactive])]
  obtain ⟨-, hothers⟩ := (s.gate0Rises cycle).takeStart_others 0 (cycle - 209715)
  have hleft : ∀ k ≠ 0, (s.take k).source ≠ 1 →
      State.gateEdgeTake 0 cycle k ((s.gate0Rises cycle).takeStart 0 (cycle - 209715)) =
        (s.gate0Rises cycle).takeStart 0 (cycle - 209715) :=
    fun k hk h => State.gateEdgeTake_other (by rwa [hothers k hk, htake])
  rw [s.gatePinEdge_rise, hstart, hleft 1 (by decide) h1, hleft 2 (by decide) h2, hleft 3 (by decide) h3]

end Sys2Proof.Machine

namespace Sys2Proof

open Sys2Proof.Machine

/-- Settles O14: each clause is what its command's operation leaves; a stamp's commands also review the notifications. -/
theorem tdcCommandsComplete : Obligations.TdcCommandsComplete := by
  refine ⟨fun c coarse line cmp gl falling s hseen hruns hfirst hroom => ⟨_, rfl, ?stamp⟩,
    fun c s st rest hfifo haccept => ⟨_, rfl, ?distribute⟩,
    fun c _ _ taps bin dnl inl s hhold henable hbeyond hwidest =>
      ⟨_, rfl, State.calTableReady_passes taps bin dnl inl hhold henable hbeyond hwidest⟩,
    fun c s henable hclock => ⟨_, rfl, State.calValid_shows henable hclock⟩,
    fun c s => ⟨_, rfl, by rw [State.calRescaleDone, State.chan_setChan], rfl⟩,
    fun c s g hc hgate => ⟨_, rfl, State.gateEnd_channel hc hgate⟩,
    fun e s g hgate => ⟨_, rfl, State.gateEnd_est hgate⟩,
    fun c s r hc hresult => ⟨_, rfl, State.estimatePublish_channel hc hresult⟩,
    fun e s r hresult hcode => ⟨_, rfl, State.estimatePublish_est hresult hcode⟩,
    fun e s hgate => ⟨_, rfl, State.estStart_leaves hgate⟩,
    fun e s => ⟨_, rfl, s.estStop_leaves e⟩,
    fun k s hidle hgate hsource hreel hchannels => ⟨_, rfl, ?arm⟩,
    fun k s hstate => ⟨_, rfl, State.takeAbort_leaves hstate⟩,
    fun s cycle harmed hsource hhigh h1 h2 h3 => ⟨_, rfl, ?rise⟩,
    fun k s stop hstop hruns => ⟨_, rfl, State.takeGateEnd_result hstop hruns⟩⟩
  case stamp =>
    have htd : (s.edgeStamp c coarse line falling cmp gl).notifyReview.td = (s.edgeStamp c coarse line falling cmp gl).td :=
      (State.notifyReview_keeps (Keeps.refl allFields 0x104000 _) (by decide +kernel) (Sub.refl _)).td rfl
    rw [State.notifyReview_rd (by decide +kernel), State.chan_congr htd]
    exact State.edgeStamp_leaves coarse line falling cmp gl hseen hruns hfirst hroom
  case distribute =>
    rw [State.notifyReview_rd (by decide +kernel), State.notifyReview_rd (by decide +kernel)]
    exact State.stampDistribute_leaves hfifo haccept
  case arm =>
    obtain ⟨x, hstart⟩ := State.takeArm_starts hidle hgate hsource hreel hchannels
    rw [hstart]
    exact (s.setTake k x).takeStart_leaves k s.now
  case rise =>
    obtain ⟨hstate, hstart, -⟩ := (s.gate0Rises cycle).takeStart_leaves 0 (cycle - 209715)
    obtain ⟨hpin, -⟩ := (s.gate0Rises cycle).takeStart_others 0 (cycle - 209715)
    rw [show s.gatePinEdge (0 : Fin 2).val true cycle = _ from State.gatePinEdge_starts cycle harmed hsource hhigh h1 h2 h3]
    exact ⟨hstate, hstart, hpin⟩

end Sys2Proof
end

section
/-! PROOF. Where the commands of qualification, the tree, the DPLLs and holdover complete and what they leave (R117, R118,
R126, R129, R145, R164, R165, R167, R170, R171, R177, R181). -/

namespace Sys2Proof.Machine

/-! What a monitor and a DPLL keep beside the registers. -/

theorem State.mon_congr {s t : State} (h : t.ql = s.ql) (m : Nat) : t.mon m = s.mon m := by
  unfold State.mon
  rw [h]

theorem State.dpll_congr {s t : State} (h : t.dp = s.dp) (d : Nat) : t.dpll d = s.dpll d := by
  unfold State.dpll
  rw [h]

@[simp] theorem State.mon_modMon (s : State) (m : Nat) (f : QualSt → QualSt) : (s.modMon m f).mon m = f (s.mon m) :=
  State.mon_setMon _ _ _

@[simp] theorem State.dpll_wr (s : State) (f : Fld) (i v d : Nat) : (s.wr f i v).dpll d = s.dpll d := rfl

@[simp] theorem State.dpll_modDpll (s : State) (d : Nat) (f : DpllSt → DpllSt) : (s.modDpll d f).dpll d = f (s.dpll d) :=
  State.dpll_setDpll _ _ _

theorem State.notifyReview_mon (s : State) (m : Nat) : s.notifyReview.mon m = s.mon m :=
  State.mon_congr ((State.notifyReview_keeps (Keeps.refl allFields 0x104000 s) (by decide +kernel) (Sub.refl _)).ql rfl) m

theorem State.notifyReview_dpll (s : State) (d : Nat) : s.notifyReview.dpll d = s.dpll d :=
  State.dpll_congr ((State.notifyReview_keeps (Keeps.refl allFields 0x104000 s) (by decide +kernel) (Sub.refl _)).dp rfl) d

/-! Freeze strobes (R117–R119). -/

/-- A freeze strobe marks its leaf and is counted; the DPLLs it freezes leave the monitor as it is. -/
theorem State.strobe_leaves (s : State) (m kind : Nat) : (s.strobe m kind).rd F.QM_STATUS_FROZEN m = 1 ∧
    (s.strobe m kind).mon m = { s.mon m with strobe := if (s.mon m).strobe = 1 then 1 else kind } ∧
    (s.strobe m kind).rd F.QUAL_FREEZES_COUNT = satTo 32 (s.rd F.QUAL_FREEZES_COUNT + 1) := by
  unfold State.strobe
  extract_lets s1 s2
  have k : Keeps (fieldsBut F.QM_STATUS_FROZEN &&& fieldsBut F.QUAL_FREEZES_COUNT) 0x2306326 s2
      ((s2.freezeSet m).foldl (fun t d => t.freezeDp d) s2) :=
    Keeps.foldl (Keeps.refl _ _ s2) fun _ _ hu => State.freezeDp_keeps hu (by decide +kernel) (Sub.refl _)
  have hfrozen : s2.rd F.QM_STATUS_FROZEN m = 1 :=
    (State.info_rd ..).trans ((State.rd_wr_ne _ (by decide) _ _ _).trans (State.rd_wr_self _ _ _ _))
  have hcount : s2.rd F.QUAL_FREEZES_COUNT = satTo 32 (s.rd F.QUAL_FREEZES_COUNT + 1) := by
    rw [State.info_rd, State.rd_bump_self, State.rd_wr_ne _ (by decide), State.modMon_rd]
    rfl
  have hmon : s2.mon m = s1.mon m :=
    State.mon_congr ((State.info_keeps (Keeps.refl 0 0x2 ((s1.wr F.QM_STATUS_FROZEN m 1).bump F.QUAL_FREEZES_COUNT))
      (Sub.refl _)).ql rfl) m
  exact ⟨(k.rd _ _ rfl (by decide +kernel)).trans hfrozen,
    (State.mon_congr (k.ql rfl) m).trans (hmon.trans (s.mon_modMon m _)), (k.rd _ _ rfl (by decide +kernel)).trans hcount⟩

theorem State.missingEdge_leaves {s : State} {m c : Nat} (hchan : s.monChan m = some c) (hjudges : s.judges m = true)
    (hon : s.qmSt m ≠ 0) (hin : s.qmSt m ≠ 6) (hdetects : s.suspended = false) (hfast : s.fastLeaf c = true)
    (hactive : (s.mon m).active = true) : let t := s.missingEdge m
    t.rd F.QM_STATUS_FROZEN m = 1 ∧ (t.mon m).active = false ∧ (t.mon m).strobe = 1 ∧
      t.rd F.QUAL_FREEZES_COUNT = satTo 32 (s.rd F.QUAL_FREEZES_COUNT + 1) := by
  simp only [State.missingEdge, hchan]
  rw [if_pos (by simp [hjudges, hon, hin, hdetects, hfast, hactive])]
  obtain ⟨hfrozen, hmon, hcount⟩ := (s.modMon m fun q => { q with active := false }).strobe_leaves m 1
  rw [State.modMon_rd] at hcount
  rw [hmon, State.mon_modMon]
  exact ⟨hfrozen, rfl, ite_self 1, hcount⟩

theorem State.windowMiss_leaves {s : State} {m c : Nat} (hchan : s.monChan m = some c) (hjudges : s.judges m = true)
    (hon : s.qmSt m ≠ 0) (hin : s.qmSt m ≠ 6) (hdetects : s.suspended = false) (hslow : s.fastLeaf c = false)
    (hopen : (s.mon m).expect.isSome = true) : let t := s.windowMiss m
    t.rd F.QM_STATUS_FROZEN m = 1 ∧ (t.mon m).active = false ∧ (t.mon m).expect = none ∧
      t.rd F.QUAL_FREEZES_COUNT = satTo 32 (s.rd F.QUAL_FREEZES_COUNT + 1) := by
  simp only [State.windowMiss, hchan]
  rw [if_pos (by simp [hjudges, hon, hin, hdetects, hslow, hopen])]
  obtain ⟨hfrozen, hmon, hcount⟩ := (s.modMon m fun q => { q with active := false, expect := none }).strobe_leaves m 1
  rw [State.modMon_rd] at hcount
  rw [hmon, State.mon_modMon]
  exact ⟨hfrozen, rfl, rfl, hcount⟩

/-! The state machine of Table 5.3 and the suspension of detection (R126, R129). -/

/-- A monitor is in the state that it goes to, whether an epoch decides it or not. -/
theorem State.qmSt_qmGoes (s : State) (m : Nat) {new : Nat} (epoch : Bool) (hnew : new < 8) :
    (s.qmGoes m new epoch).qmSt m = new := by
  unfold State.qmGoes
  extract_lets old s1 s2 s3 items
  have k3 : Keeps 0 0x800 s1 s3 :=
    Keeps.when (State.modMon_keeps (Keeps.refl _ _ s1) (Sub.refl _)) fun _ hu => State.modMon_keeps hu (Sub.refl _)
  have h3 : s3.rd F.QM_STATUS_STATE m = new := (k3.rd _ _ rfl (Nat.zero_testBit _)).trans
    ((State.rd_wr_self _ _ _ _).trans (Nat.mod_eq_of_lt hnew))
  split_ifs with hsame
  · exact hsame
  · exact h3
  · exact (State.infoAt_rd ..).trans h3

theorem State.validationEnd_state {s : State} {m : Nat} (hstate : s.qmSt m = 2) (hjudges : s.judges m = true)
    (hupdates : 2 ≤ (s.mon m).updates) (hclear : s.causesOf m / 8 = 0) :
    (s.validationEnd m).qmSt m = if s.causesOf m = 0 then 3 else 4 := by
  rw [State.validationEnd, if_pos (by simp [hstate, hjudges, hupdates, hclear]),
    State.qmSt_qmGoes _ _ _ (by split_ifs <;> decide)]
  simp only [beq_iff_eq]

theorem State.holdoffEnd_state {s : State} {m : Nat} (hstate : s.qmSt m = 5) (hjudges : s.judges m = true)
    (hclear : s.causesOf m / 8 = 0) : (s.holdoffEnd m).qmSt m = 2 := by
  rw [State.holdoffEnd, if_pos (by simp [hstate, hjudges, hclear]), State.qmSt_qmGoes _ _ _ (by decide)]

/-- Detection resumes while the clock runs: nothing of R129 suspends it any more. -/
theorem State.detectResume_leaves {s : State} (hruns : s.td.gated = false) (hstill : s.rd F.CLK_BASE_STATUS_MOVING ≠ 1)
    (hlocked : s.loopLocked 0 = true) : s.detectResume.td.blind = false ∧ s.detectResume.suspended = false := by
  have hrd : ∀ f i, s.detectResume.rd f i = s.rd f i := fun f i =>
    (State.detectResume_keeps (Keeps.refl 0 0xc00 s) (Sub.refl _)).rd f i rfl (Nat.zero_testBit _)
  have htd : s.detectResume.td = { s.td with blind := false } := by
    rw [State.detectResume, if_neg (by simp [State.rdB, hruns, hstill, hlocked])]
    exact State.forAll_inv State.td _ _ _ fun m t => by split_ifs <;> rfl
  have hlocked' : s.rd F.APLL_STATUS_LOCKED 0 = 1 := by simpa [State.loopLocked, State.rdB] using hlocked
  exact ⟨by rw [htd], by simp [State.suspended, State.loopLocked, State.rdB, htd, hrd, hruns, hstill, hlocked']⟩

/-! The tree (R145). -/

theorem State.wtrEnd_leaves {s : State} {n e : Nat} (h : ((s.node n).entries.at e {}).wtr = true) :
    (((s.wtrEnd n e).node n).entries.at e {}).wtr = false ∧ (((s.wtrEnd n e).node n).entries.at e {}).ended = true := by
  rw [State.wtrEnd, if_pos h, State.node_setNode]
  dsimp only
  rw [Tab.at_set_self]
  exact ⟨rfl, rfl⟩

/-! The states of Table 7.4 (R167, R181). -/

/-- A DPLL is in the state that it is set to, and on entering `LOCKED` (3) is marked as having been locked. -/
theorem State.setDp_leaves (s : State) (d : Nat) {new : Nat} (cause : Nat) (hnew : new < 8) :
    (s.setDp d new cause).dpSt d = new ∧
      (s.dpSt d ≠ 3 → new = 3 → (s.setDp d new cause).rd F.DP_STATUS_EVER_LOCKED d = 1) := by
  unfold State.setDp
  extract_lets old s1 s2 s3 s4 s5
  split_ifs with hsame
  · exact ⟨hsame, fun hne h => absurd (hsame.trans h) hne⟩
  · have hstate : s2.rd F.DP_STATUS_STATE d = new := (State.rd_wr_self _ _ _ _).trans (Nat.mod_eq_of_lt hnew)
    have k3 : Keeps (fieldMask [F.DP_STATUS_EVER_LOCKED]) 0 s2 s3 :=
      Keeps.when (Keeps.refl _ _ s2) fun _ hu => State.wr_keeps hu (by decide +kernel)
    have k5 : Keeps (fieldMask [F.DP_STATUS_SLOPE_LIMITED, F.DP_STATUS_LOCK_OK]) 0 s3 s5 :=
      Keeps.when (Keeps.when (Keeps.refl _ _ s3) fun _ hu => State.wr_keeps hu (by decide +kernel))
        fun _ hu => State.wr_keeps hu (by decide +kernel)
    unfold State.dpSt
    rw [State.infoAt_rd, State.infoAt_rd, State.spoilLearning_rd, State.spoilLearning_rd]
    refine ⟨((k5.rd _ _ rfl (by decide +kernel)).trans (k3.rd _ _ rfl (by decide +kernel))).trans hstate, fun _ hlocks => ?_⟩
    have hset : s3 = s2.wr F.DP_STATUS_EVER_LOCKED d 1 := if_pos (beq_iff_eq.2 hlocks)
    rw [k5.rd _ _ rfl (by decide +kernel), hset]
    exact State.rd_wr_self _ _ _ _

theorem State.lockTimer_leaves {s : State} {d : Nat} (hstate : s.dpSt d = 2) (hok : s.rd F.DP_STATUS_LOCK_OK d = 1)
    (hfree : s.dpFree d = true) :
    (s.lockTimer d).dpSt d = 3 ∧ (s.lockTimer d).rd F.DP_STATUS_EVER_LOCKED d = 1 := by
  obtain ⟨hlocked, hever⟩ := s.setDp_leaves d (new := 3) 17 (by decide)
  rw [State.lockTimer, if_pos (by simp [State.rdB, hstate, hok, hfree])]
  exact ⟨hlocked, hever (by omega) rfl⟩

/-- A mismatch of the lockstep cores holds an enabled DPLL in service, and is counted. -/
theorem State.lockstep_leaves {s : State} {d : Nat} (hin : s.inService (uDP d) = true)
    (hagreed : s.rd F.DP_STATUS_LOCKSTEP_HELD d ≠ 1) (hon : s.dpSt d ≠ 0) :
    (s.lockstep d).rd F.DP_STATUS_LOCKSTEP_HELD d = 1 ∧ (s.lockstep d).rd F.DP_LOCKSTEP_MISMATCHES d =
      satTo F.DP_LOCKSTEP_MISMATCHES.width (s.rd F.DP_LOCKSTEP_MISMATCHES d + 1) := by
  unfold State.lockstep
  extract_lets st s1 s2 s3 s4
  rw [if_neg (by simp [State.rdB, st, hin, hagreed, hon])]
  have k3 : Keeps (fieldsBut F.DP_STATUS_LOCKSTEP_HELD &&& fieldsBut F.DP_LOCKSTEP_MISMATCHES) 0x2304326 s1 s3 :=
    State.modDpll_keeps (Keeps.when (Keeps.refl _ _ s1) fun _ hu => State.startEpisode_keeps hu (by decide +kernel) (Sub.refl _))
      (by decide +kernel)
  have k : Keeps (fieldsBut F.DP_STATUS_LOCKSTEP_HELD &&& fieldsBut F.DP_LOCKSTEP_MISMATCHES) 0x2304326 s1
      (s4.fault 3 (uDP d) 0 0) :=
    State.fault_keeps (Keeps.ite k3 (State.setDp_keeps k3 (by decide +kernel) (by decide +kernel))) (by decide +kernel)
      (by decide +kernel)
  exact ⟨(k.rd _ _ rfl (by decide +kernel)).trans (State.rd_wr_self _ _ _ _),
    (k.rd _ _ rfl (by decide +kernel)).trans ((State.rd_wr_ne _ (by decide) _ _ _).trans (s.rd_bump_self _ _))⟩

/-! Updates (R160, R164). -/

theorem State.slewStep_wN (s : State) (d : Nat) : ((s.slewStep d).dpll d).wN = (s.dpll d).wN := by
  unfold State.slewStep
  extract_lets p most b s1
  have hput : (s1.dpll d).wN = (s.dpll d).wN := by
    unfold s1
    rw [State.dpll_setDpll]
  split_ifs
  · rfl
  · rwa [State.dpll_congr ((State.reentry_keeps (Keeps.refl 0 0x2 (s1.wr F.DP_STATUS_SLEWING d 0)) (Sub.refl _)).dp rfl),
      State.dpll_wr]
  · exact hput

/-- The delivery of a new word counts no update. -/
theorem State.putWord_wN (s : State) (d : Nat) (w : Int) : ((s.putWord d w).dpll d).wN = (s.dpll d).wN := by
  rw [State.putWord, State.dpll_congr ((State.deliver_keeps (Keeps.refl 0 0x2000 (s.setWord d w)) (Sub.refl _)).dp rfl),
    State.setWord, State.dpll_modDpll]

theorem State.filterStep_wN (s : State) (d : Nat) (e : Int) : ((s.filterStep d e).dpll d).wN = (s.dpll d).wN := by
  unfold State.filterStep
  extract_lets
  rw [State.wrB, State.dpll_wr, State.putWord_wN, State.dpll_setDpll]

/-- An update of a DPLL that follows a reference is counted and takes the fresh samples up, whatever they are. -/
theorem State.loopUpdate_counts {s : State} {d : Nat} {r : Recipe} (hfree : s.dpFree d = true)
    (hrecipe : (s.dpll d).recipe = some r) (hstate : s.dpSt d = 2 ∨ s.dpSt d = 3) :
    ((s.loopUpdate d false).dpll d).wN = (s.dpll d).wN + 1 ∧ ((s.loopUpdate d false).dpll d).fresh = [] := by
  rw [State.loopUpdate, if_neg (by decide), if_neg (by simp [hfree])]
  simp only [hrecipe]
  rw [if_neg (by omega), if_pos (by simpa using hstate), State.countUpdate, State.dpll_modDpll]
  dsimp only
  rw [State.slewStep_wN]
  refine ⟨?_, rfl⟩
  split
  · rw [State.filterStep_wN]
  · rfl

/-! Build-out (R162, R165). -/

/-- The registers from which a recipe's profile is chosen. -/
def profileFields : List Fld :=
  [F.DP_STATUS_PROFILE, F.QM_CFG_CLASS, F.DP_PROF_SEL_IN_TIME, F.DP_PROF_SEL_IN_FREQ, F.DP_PROF_SEL_LN, F.DP_PROF_SEL_PK,
    F.DP_PROF_SEL_PR]

theorem State.profileFor_congr {s t : State} (h : ∀ f ∈ profileFields, ∀ i, t.rd f i = s.rd f i) (d : Nat) (r : Recipe) :
    t.profileFor d r = s.profileFor d r := by
  simp only [profileFields, List.forall_mem_cons, List.not_mem_nil, false_imp_iff, implies_true, and_true] at h
  obtain ⟨hprofile, hclass, htime, hfreq, hln, hpk, hpr⟩ := h
  unfold State.profileFor State.rdB
  rw [hprofile, htime, hfreq, hln, hpk, hpr]
  simp only [hclass]

theorem State.profileFor_endEpisode (s : State) (d : Nat) (r : Recipe) :
    (s.endEpisode d).profileFor d r = s.profileFor d r :=
  State.profileFor_congr (fun f hf i => (State.endEpisode_keeps (Keeps.refl (allFields ^^^ fieldMask profileFields) 0x2304326 s)
    (by decide +kernel) (Sub.refl _)).rd f i rfl (by revert f; decide +kernel)) d r

/-- A completed build-out leaves the profile of its recipe, by whichever row of Table 7.4 the DPLL goes on. -/
theorem State.buildoutComplete_profile {s : State} {d : Nat} {r : Recipe} (hrecipe : (s.dpll d).recipe = some r)
    (hstate : s.dpSt d = 4) (hwait : (s.dpll d).boWait = false) (hdone : (s.dpll d).done = false)
    (hfree : s.dpFree d = true) : (s.buildoutComplete d).rd F.DP_STATUS_PROFILE d = s.profileFor d r % 16 := by
  unfold State.buildoutComplete
  extract_lets p b
  split
  next hnone => rw [show p = s.dpll d from rfl, hrecipe] at hnone; cases hnone
  next r' hr =>
  obtain rfl := Option.some.inj (hrecipe.symm.trans hr)
  rw [if_neg (by simp [p, hstate, hwait, hdone, hfree])]
  extract_lets j s1 s2 s3 time waits aligns s4 stepped s5
  have h3 : s3.rd F.DP_STATUS_PROFILE d = s.profileFor d r % 16 := by
    rw [State.rd_wr_ne _ (by decide), State.rd_wr_self, State.profileFor_endEpisode]
    rfl
  have k4 : Keeps (fieldsBut F.DP_STATUS_PROFILE) 0x2306336 s3 s4 :=
    Keeps.ite (State.alignTime_keeps (Keeps.refl _ _ s3) (by decide +kernel) (by decide +kernel))
      (Keeps.ite (State.reentry_keeps (State.wr_keeps (State.modDpll_keeps (Keeps.refl _ _ s3) (by decide +kernel))
        (by decide +kernel)) (by decide +kernel)) (Keeps.refl _ _ s3))
  have k5 : Keeps (fieldsBut F.DP_STATUS_PROFILE) 0x2306336 s3 s5 :=
    Keeps.ite k4 (State.applyPolicy_keeps k4 (by decide +kernel) (by decide +kernel))
  rw [← h3]
  refine Keeps.rd (S := fieldsBut F.DP_STATUS_PROFILE) (M := 0x2306336) (Keeps.ite ?lost (Keeps.ite ?pending
    (Keeps.ite ?locks ?acquires))) _ _ rfl (by decide +kernel)
  case lost => exact State.toHold_keeps (Keeps.refl _ _ s3) (by decide +kernel) (by decide +kernel)
  case pending => exact State.modDpll_keeps k4 (by decide +kernel)
  case locks => exact State.setDp_keeps k5 (by decide +kernel) (by decide +kernel)
  case acquires => exact State.setDp_keeps k5 (by decide +kernel) (by decide +kernel)

/-! Held jumps (R170, R171). -/

theorem State.clearHeld_leaves (s : State) (d : Nat) :
    (s.clearHeld d).rd F.DP_STATUS_HELD d = 0 ∧ ((s.clearHeld d).dpll d).held = [] :=
  ⟨State.rd_wr_self _ _ _ _, by rw [State.clearHeld, State.dpll_wr, State.dpll_modDpll]⟩

/-- The start of a slew leaves HELD and the held leaves. -/
theorem State.startSlew_held (s : State) (d : Nat) : (s.startSlew d).rd F.DP_STATUS_HELD d = s.rd F.DP_STATUS_HELD d ∧
    ((s.startSlew d).dpll d).held = (s.dpll d).held := by
  refine ⟨State.startSlew_rd (by decide +kernel), ?_⟩
  unfold State.startSlew State.spoilLearning
  extract_lets s1
  split_ifs
  · rfl
  · rfl
  · rw [State.dpll_modDpll]
    rfl

/-- An acknowledged jump is held no longer, whether or not its recipe still stands. -/
theorem State.refAck_leaves {s : State} {d : Nat} (hheld : s.rd F.DP_STATUS_HELD d = 1) :
    (s.refAck d).rd F.DP_STATUS_HELD d = 0 ∧ ((s.refAck d).dpll d).held = [] := by
  rw [State.refAck, State.releaseHeld, if_neg (by simp [State.rdB, hheld])]
  extract_lets same s1
  split_ifs
  · obtain ⟨hrd, hlist⟩ := (s.clearHeld d).startSlew_held d
    rw [hrd, hlist]
    exact s.clearHeld_leaves d
  · exact s.clearHeld_leaves d

/-- On the time DPLL, with its recipe unchanged, the held jump becomes a request for a time step. -/
theorem State.refAckStep_leaves {s : State} {d : Nat} (htime : d = s.timeDpll) (hheld : s.rd F.DP_STATUS_HELD d = 1)
    (hsame : (s.dpll d).heldRecipe = (s.dpll d).recipe) : (s.refAckStep d).rd F.DP_STATUS_HELD d = 0 ∧
      (s.refAckStep d).rd F.DP_STATUS_POLICY d = 4 ∧
      (s.refAckStep d).tm.reqDpll = some (s.tm.reqDpll.getD 0 + (s.dpll d).jump) := by
  rw [State.refAckStep, if_neg (not_not.2 htime), if_neg (by simp [State.rdB, hheld])]
  extract_lets p same s1
  rw [if_pos (by simpa [same, p] using hsame)]
  exact ⟨(State.rd_wr_ne _ (by decide) _ _ _).trans (s.clearHeld_leaves d).1, State.rd_wr_self _ _ _ _, rfl⟩

/-! The holdover model (R177). -/

theorem State.holdClear_leaves {s : State} {d : Nat} (hnone : (s.dpll d).episode = none) : let t := (s.holdClear d).1
    (t.dpll d).history = [] ∧ (t.dpll d).window = [] ∧ (t.dpll d).entry = none ∧
      t.rd F.HOLD_REMAIN_SECONDS d = 0xFFFFFFFF := by
  rw [State.holdClear, if_neg (by simp [hnone])]
  extract_lets s1
  have k : Keeps (fieldsBut F.HOLD_REMAIN_SECONDS) 0x2800200 s1 ((s1.eraseSummary d).noteModel d) :=
    State.noteModel_keeps (State.eraseSummary_keeps (Keeps.refl _ _ s1) (Sub.refl _)) (by decide +kernel)
  rw [State.dpll_wr, State.dpll_congr (k.dp rfl), State.dpll_modDpll]
  exact ⟨rfl, rfl, rfl, (State.rd_wr_self _ _ _ _).trans (by decide +kernel)⟩

end Sys2Proof.Machine

namespace Sys2Proof

open Sys2Proof.Machine

/-- Settles O15: each clause is what its command's operation leaves; strobes, updates and build-outs also review the
notifications. -/
theorem loopCommandsComplete : Obligations.LoopCommandsComplete := by
  refine ⟨fun d s hin hagreed hon => ⟨_, rfl, ?mismatch⟩,
    fun d r s hfree hrecipe hstate => ⟨_, rfl, ?update⟩,
    fun m c s hchan hjudges hon hin hdetects hfast hactive => ⟨_, rfl, ?missing⟩,
    fun m c s hchan hjudges hon hin hdetects hslow hopen => ⟨_, rfl, ?window⟩,
    fun m s hstate hjudges hupdates hclear => ⟨_, rfl, State.validationEnd_state hstate hjudges hupdates hclear⟩,
    fun m s hstate hjudges hclear => ⟨_, rfl, State.holdoffEnd_state hstate hjudges hclear⟩,
    fun s hruns hstill hlocked => ⟨_, rfl, State.detectResume_leaves hruns hstill hlocked⟩,
    fun n e s h => ⟨_, rfl, State.wtrEnd_leaves h⟩,
    fun d r s hrecipe hstate hwait hdone hfree => ⟨_, rfl, ?buildout⟩,
    fun d s hstate hok hfree => ⟨_, rfl, ?lock⟩,
    fun d s hheld => ⟨_, rfl, State.refAck_leaves hheld⟩,
    fun d s htime hheld hsame => ⟨_, rfl, State.refAckStep_leaves htime hheld hsame⟩,
    fun d s hnone => ⟨_, rfl, State.holdClear_leaves hnone⟩⟩
  case mismatch =>
    rw [State.notifyReview_rd (by decide +kernel), State.notifyReview_rd (by decide +kernel)]
    exact State.lockstep_leaves hin hagreed hon
  case update =>
    rw [State.notifyReview_dpll]
    exact State.loopUpdate_counts hfree hrecipe hstate
  case missing =>
    rw [State.notifyReview_rd (by decide +kernel), State.notifyReview_rd (by decide +kernel), State.notifyReview_mon]
    exact State.missingEdge_leaves hchan hjudges hon hin hdetects hfast hactive
  case window =>
    rw [State.notifyReview_rd (by decide +kernel), State.notifyReview_rd (by decide +kernel), State.notifyReview_mon]
    exact State.windowMiss_leaves hchan hjudges hon hin hdetects hslow hopen
  case buildout =>
    rw [State.notifyReview_rd (by decide +kernel)]
    exact State.buildoutComplete_profile hrecipe hstate hwait hdone hfree
  case lock =>
    unfold State.dpSt
    rw [State.notifyReview_rd (by decide +kernel), State.notifyReview_rd (by decide +kernel)]
    exact State.lockTimer_leaves hstate hok hfree

end Sys2Proof
end

section
/-! PROOF. Frames of synthesis and the outputs (R185–R204). -/

namespace Sys2Proof

open Sys2Proof.Machine

/-- Settles O33: each frame is the mask of what the command's operation may change. -/
theorem synthFrames : Obligations.SynthFrames :=
  ⟨fun s _ e => Changes.of_keeps (execSynthCommitGo_keeps (Keeps.refl _ _ s) (by decide +kernel) (by decide +kernel) e),
    fun s _ e => Changes.of_keeps (execSynthCommitValidate_keeps (Keeps.refl _ _ s) (by decide +kernel) (by decide +kernel) e),
    fun _ s _ e => Changes.of_keeps (execSynthRealign_keeps (Keeps.refl _ _ s) (by decide +kernel) (by decide +kernel) e),
    fun _ s _ e => Changes.of_keeps (execApllLock_keeps (Keeps.refl _ _ s) (by decide +kernel) (by decide +kernel) e),
    fun _ s _ e => Changes.of_keeps (execApllUnlock_keeps (Keeps.refl _ _ s) (by decide +kernel) (by decide +kernel) e),
    fun _ _ s _ e => Changes.of_keeps (execRelockAttempt_keeps (Keeps.refl _ _ s) (by decide +kernel) e),
    fun s _ e => Changes.of_keeps (execBaseUnlock_keeps (Keeps.refl _ _ s) (by decide +kernel) (by decide +kernel) e),
    fun s _ e => Changes.of_keeps (execDegradedIntervalEnd_keeps (Keeps.refl _ _ s) (by decide +kernel) (by decide +kernel) e),
    fun _ s _ e => Changes.of_keeps (execShutterForce_keeps (Keeps.refl _ _ s) (by decide +kernel) e),
    fun _ s _ e => Changes.of_keeps (execShutterOpen_keeps (Keeps.refl _ _ s) (by decide +kernel) (by decide +kernel) e),
    fun s _ e => Changes.of_keeps (execPhaseVerify_keeps (Keeps.refl _ _ s) (by decide +kernel) (by decide +kernel) e)⟩

end Sys2Proof
end

section
/-! PROOF. Where the commands of synthesis and the outputs complete and what they leave (R187, R190, R191, R195–R200). -/

namespace Sys2Proof.Machine

/-! What the synthesis keeps beside the registers. -/

theorem State.outSt_congr {s t : State} (h : t.sy = s.sy) (n : Nat) : t.outSt n = s.outSt n := by
  unfold State.outSt
  rw [h]

theorem State.loopSt_congr {s t : State} (h : t.sy = s.sy) (a : Nat) : t.loopSt a = s.loopSt a := by
  unfold State.loopSt
  rw [h]

/-- Fields read as before whatever the synthesis keeps beside them. -/
theorem State.withSy_rd (s : State) (y : SynthSt) (f : Fld) (i : Nat) : ({ s with sy := y } : State).rd f i = s.rd f i := rfl

theorem State.loopLocked_of_rd {s : State} {a : Nat} (h : s.rd F.APLL_STATUS_LOCKED a = 1) : s.loopLocked a = true := by
  simp [State.loopLocked, State.rdB, h]

theorem State.loopLocked_of_rd_zero {s : State} {a : Nat} (h : s.rd F.APLL_STATUS_LOCKED a = 0) :
    s.loopLocked a = false := by
  simp [State.loopLocked, State.rdB, h]

/-- What does not speak of the outputs is the same after the closing of a gate. -/
theorem State.closeGate_sy {α : Type} (g : SynthSt → α) (hg : ∀ y outs, g { y with outs := outs } = g y) (s : State)
    (n : Nat) : g (s.closeGate n).sy = g s.sy := by
  unfold State.closeGate
  extract_lets o
  split_ifs
  · rw [State.info_sy]
    exact hg s.sy _
  · exact hg s.sy _
  · rfl

/-- Closing every gate that has a cause changes outputs alone. -/
theorem State.syncShutters_sy {α : Type} (g : SynthSt → α) (hg : ∀ y outs, g { y with outs := outs } = g y) (s : State) :
    g s.syncShutters.sy = g s.sy := by
  unfold State.syncShutters
  split_ifs
  · rfl
  · exact State.forAll_inv (fun t => g t.sy) 24 _ s fun n t => t.closeGate_sy g hg n

/-! The commit (R190, R191). -/

theorem State.commitResult_leaves (s : State) (result reason bad : Nat) : let t := s.commitResult result reason bad
    t.sy = s.sy ∧ t.rd F.SYNTH_COMMIT_STATUS_RESULT = result % 2 ^ F.SYNTH_COMMIT_STATUS_RESULT.width ∧
      t.rd F.SYNTH_COMMIT_STATUS_REASON = reason % 2 ^ F.SYNTH_COMMIT_STATUS_REASON.width ∧
      t.rd F.SYNTH_COMMIT_STATUS_FIRST_BAD = bad % 2 ^ F.SYNTH_COMMIT_STATUS_FIRST_BAD.width ∧
      t.rd F.SYNTH_COMMIT_STATUS_SEQ = s.rd F.SYNTH_COMMIT_STATUS_SEQ := by
  unfold State.commitResult
  simp +decide [State.wrAll, State.rd_wr_ne]

/-- Shadows in which a check fails are not copied: the GO is spent and the first failure shown. -/
theorem State.commitValidate_refused {s : State} {r b : Nat} (hgo : s.sy.go = true) (hfault : s.commitFault = some (r, b)) :
    s.commitValidate = ({ s with sy := { s.sy with go := false } } : State).commitResult 2 r b := by
  have hfault' : ({ s with sy := { s.sy with go := false } } : State).commitFault = some (r, b) := hfault
  rw [State.commitValidate, if_pos hgo]
  simp only [hfault']

theorem State.commitValidate_copies {s : State} (hgo : s.sy.go = true) (hfault : s.commitFault = none) :
    s.commitValidate = ({ s with sy := { s.sy with go := false } } : State).commitCopy := by
  have hfault' : ({ s with sy := { s.sy with go := false } } : State).commitFault = none := hfault
  rw [State.commitValidate, if_pos hgo]
  simp only [hfault']

/-- Copied shadows are counted, and the commit reports `OK` (1). -/
theorem State.commitCopy_leaves (s : State) : s.commitCopy.rd F.SYNTH_COMMIT_STATUS_RESULT = 1 ∧
    s.commitCopy.rd F.SYNTH_COMMIT_STATUS_SEQ =
      (s.rd F.SYNTH_COMMIT_STATUS_SEQ + 1) % 2 ^ F.SYNTH_COMMIT_STATUS_SEQ.width := by
  unfold State.commitCopy
  extract_lets changed s0 s1 s2 s3
  have k1 : Keeps (fieldMask [F.APLL_STATUS_LOCKED, F.OUT_DIV_ACTIVE_PRESCALE, F.OUT_DIV_ACTIVE_DIV]) 0x2000 s s1 :=
    Keeps.foldl (Keeps.refl _ _ s) fun _ _ hu =>
      State.wr_keeps (State.setLoop_keeps hu (Sub.refl _)) (by decide +kernel)
  have k2 : Keeps (fieldMask [F.APLL_STATUS_LOCKED, F.OUT_DIV_ACTIVE_PRESCALE, F.OUT_DIV_ACTIVE_DIV]) 0x2000 s s2 :=
    Keeps.forAll k1 fun _ _ hu => State.setOut_keeps (State.wrAll_keeps hu (Sub.refl _) (by
      refine ⟨?_, ?_, trivial⟩ <;> decide +kernel)) (Sub.refl _)
  have hseq : s3.rd F.SYNTH_COMMIT_STATUS_SEQ =
      (s2.rd F.SYNTH_COMMIT_STATUS_SEQ + 1) % 2 ^ F.SYNTH_COMMIT_STATUS_SEQ.width := State.rd_wr_self _ _ _ _
  rw [k2.rd _ _ rfl (by decide +kernel)] at hseq
  obtain ⟨-, hresult, -, -, hkept⟩ := s3.commitResult_leaves 1 0 0x3F
  rw [State.syncShutters_rd (by decide +kernel), State.syncShutters_rd (by decide +kernel)]
  exact ⟨hresult, hkept.trans hseq⟩

/-! Realignment and shutters (R195, R197, R198). -/

/-- A loop that realigns has its origin, and waits no longer; the outputs it closes leave it so. -/
theorem State.doRealign_leaves (s : State) (a : Nat) : ((s.doRealign a).loopSt a).realignWanted = false ∧
    ((s.doRealign a).loopSt a).origin.isSome = true := by
  unfold State.doRealign
  extract_lets l s1 s2 s3
  have hmark : s3.sy.loops = s2.sy.loops := by
    unfold s3
    exact State.forAll_inv (fun t => t.sy.loops) 24 _ s2 fun n t => by dsimp only; split_ifs <;> rfl
  have hloop : s3.syncShutters.loopSt a = s2.loopSt a := by
    unfold State.loopSt
    rw [State.syncShutters_sy SynthSt.loops fun _ _ => rfl, hmark]
  rw [hloop, show s2 = s1.takeOrigin a from rfl, State.takeOrigin, State.loopSt_setLoop, State.loopSt_setLoop]
  exact ⟨rfl, rfl⟩

theorem State.realign_now {s : State} {a : Nat} (hfree : s.synthBusy = false) (hlocked : s.loopLocked a = true) :
    s.realign a = s.doRealign a := by
  rw [State.realign, if_neg (by simp [hfree, hlocked])]

theorem State.runRealigns_none {s : State} (h : ∀ a, (s.loopSt a).realignWanted = false) : s.runRealigns = s := by
  simp [State.runRealigns, h]

theorem State.shutterForce_leaves {s : State} {n : Nat} (hshut : (s.outSt n).shut = true) :
    ((s.shutterForce n).outSt n).static = true ∧ ((s.shutterForce n).outSt n).shut = true := by
  rw [State.shutterForce, if_pos hshut, State.outSt_setOut]
  exact ⟨rfl, hshut⟩

/-- With no cause left but a commit's or a realignment's own, and no realignment waiting, the gate opens. -/
theorem State.shutterOpen_leaves {s : State} {n : Nat} (hshut : (s.outSt n).shut = true) (hhand : s.sy.handover = false)
    (hcauses : ((s.outCauses n).all fun c => c == 3 || c == 4) = true)
    (hwaits : ∀ a, (s.loopSt a).realignWanted = false) : ((s.shutterOpen n).outSt n).shut = false ∧
    ((s.shutterOpen n).outSt n).onGrid = true ∧ ((s.shutterOpen n).outSt n).commit = false ∧
    ((s.shutterOpen n).outSt n).realign = false := by
  rw [State.shutterOpen, if_pos (by simp only [hshut, hhand, hcauses]; rfl), State.runRealigns_none]
  · rw [State.outSt_congr (State.info_sy ..), State.outSt_setOut]
    exact ⟨rfl, rfl, rfl, rfl⟩
  · intro a
    rw [State.loopSt_congr (State.info_sy ..)]
    exact hwaits a

/-! Lock and loss of lock (R187, R199). -/

/-- APLL0 that locks reads so and asks TK_MUX back, whatever starts with it. -/
theorem State.apllLock_base {s : State} (hbase : s.base ≠ 0) (hoff : s.loopLocked 0 = false) : let t := s.apllLock 0
    t.rd F.CLK_BASE_STATUS_APLL0_LOCKED = 1 ∧ t.loopLocked 0 = true ∧ t.rd F.CLK_MUX_STATUS_PENDING 1 = 1 := by
  rw [State.apllLock, if_neg (by simp), if_neg (by simp [hbase, hoff])]
  extract_lets s1 ck s2
  obtain ⟨hbit, hlocked, hpending⟩ : s1.rd F.CLK_BASE_STATUS_APLL0_LOCKED = 1 ∧ s1.rd F.APLL_STATUS_LOCKED 0 = 1 ∧
      s1.rd F.CLK_MUX_STATUS_PENDING 1 = 1 := by
    simp +decide [s1, State.wrAll, State.rd_wr_ne]
  have hkept : ∀ {f : Fld} {i : Nat}, f ∈ [F.CLK_BASE_STATUS_APLL0_LOCKED, F.APLL_STATUS_LOCKED, F.CLK_MUX_STATUS_PENDING] →
      s2.ungateTdc.directStage.rd f i = s1.rd f i := fun {f i} hf => by
    rw [State.directStage_rd (by revert f; decide +kernel), State.ungateTdc_rd (by revert f; decide +kernel)]
    rfl
  exact ⟨(hkept (by simp)).trans hbit, State.loopLocked_of_rd ((hkept (by simp)).trans hlocked),
    (hkept (by simp)).trans hpending⟩

theorem State.apllLock_loop {s : State} {a : Nat} (ha : a ≠ 0) (hbase : s.loopLocked 0 = true)
    (hin : s.inService (uAPLL a) = true) : (s.apllLock a).loopLocked a = true := by
  rw [State.apllLock, if_pos ha, State.outLoopLocks, if_pos (by simp [hbase, hin])]
  extract_lets s1 l s2
  refine State.loopLocked_of_rd ?_
  rw [State.runRealigns_rd (by decide +kernel), State.takeOrigin_rd]
  exact (State.setLoop_rd ..).trans (State.rd_wr_self _ _ _ _)

/-- The loss of an output loop under a locked APLL0 is counted, and raised as source 25. -/
theorem State.apllUnlock_leaves {s : State} {a : Nat} (ha : a % 65536 ≠ 0) (hlocked : s.loopLocked a = true)
    (hbase : s.loopLocked 0 = true) : (s.apllUnlock a).loopLocked a = false ∧
      (s.apllUnlock a).rd F.APLL_COUNTS_UNLOCKS a =
        satTo F.APLL_COUNTS_UNLOCKS.width (s.rd F.APLL_COUNTS_UNLOCKS a + 1) ∧
      (s.apllUnlock a).rd F.FLT_SRC_STAT_COUNT 25 = satTo 16 (s.rd F.FLT_SRC_STAT_COUNT 25 + 1) := by
  rw [State.apllUnlock, if_pos hlocked]
  extract_lets s1 l s2
  have hother : ∀ {f : Fld} {i : Nat}, f.id ≠ F.APLL_STATUS_LOCKED.id → s2.rd f i = s.rd f i := fun h =>
    (State.setLoop_rd ..).trans ((State.rd_wr_ne _ h _ _ _).trans (State.keepRealign_rd ..))
  have hoff : s2.rd F.APLL_STATUS_LOCKED a = 0 := (State.setLoop_rd ..).trans (State.rd_wr_self _ _ _ _)
  have hbase' : s2.loopLocked 0 = true := by
    have hrd : s2.rd F.APLL_STATUS_LOCKED 0 = s.rd F.APLL_STATUS_LOCKED 0 :=
      (State.setLoop_rd ..).trans ((State.rd_wr_idx _ _ (Ne.symm ha) _).trans (State.keepRealign_rd ..))
    simpa only [State.loopLocked, State.rdB, hrd] using hbase
  rw [if_pos hbase']
  refine ⟨State.loopLocked_of_rd_zero ?_, ?_, ?_⟩
  · rw [State.syncShutters_rd (by decide +kernel), State.fault_rd (by decide +kernel), State.bump, State.bumpBy,
      State.rd_wr_ne _ (by decide), hoff]
  · rw [State.syncShutters_rd (by decide +kernel), State.fault_rd (by decide +kernel), State.rd_bump_self,
      hother (by decide)]
  · rw [State.syncShutters_rd (by decide +kernel), State.fault_count, State.bump, State.bumpBy,
      State.rd_wr_ne _ (by decide), hother (by decide)]

theorem State.relockAttempt_fails {s : State} {a : Nat} (hoff : s.loopLocked a = false) :
    (s.relockAttempt a true).rd F.APLL_COUNTS_RELOCK_FAILS a =
      satTo F.APLL_COUNTS_RELOCK_FAILS.width (s.rd F.APLL_COUNTS_RELOCK_FAILS a + 1) := by
  rw [State.relockAttempt, if_pos (by simp [hoff]), State.rd_bump_self]

/-! Degraded intervals (R200). -/

theorem State.now_congr {s t : State} (h : t.tm = s.tm) : t.now = s.now := by
  unfold State.now
  rw [h]

theorem State.fault_tm (s : State) (n u a b : Nat) : (s.fault n u a b).tm = s.tm :=
  (State.fault_keeps (Keeps.refl allFields (partMask faultParts) s) (by decide +kernel) (by decide +kernel)).tm rfl

/-- The output loops that lose their reference leave APLL0's own bit. -/
theorem State.dropLoops_base (s : State) (base : Bool) :
    (s.dropLoops base).rd F.APLL_STATUS_LOCKED 0 = s.rd F.APLL_STATUS_LOCKED 0 := by
  simp [State.dropLoops, State.rd_wr_idx]

theorem State.apll0Off_degStart (s : State) (lost : Bool) : (s.apll0Off lost).sy.degStart = s.sy.degStart := by
  unfold State.apll0Off
  extract_lets s1
  rw [State.syncShutters_sy SynthSt.degStart fun _ _ => rfl]
  have k : Keeps allFields (partMask [.ev, .td]) (s1.dropLoops lost) ((s1.dropLoops lost).gateTdc.disconnect 0) :=
    State.disconnect_keeps (State.gateTdc_keeps (Keeps.refl _ _ _) (by decide +kernel)) (by decide +kernel) (by decide +kernel)
  calc ((s1.dropLoops lost).gateTdc.disconnect 0).sy.degStart
      _ = (s1.dropLoops lost).sy.degStart := congrArg SynthSt.degStart (k.sy rfl)
      _ = s1.sy.degStart := State.foldl_inv (fun t => t.sy.degStart) _ _ s1 fun _ _ => rfl
      _ = s.sy.degStart := rfl

theorem State.apll0Off_locked (s : State) (lost : Bool) : (s.apll0Off lost).loopLocked 0 = false := by
  refine State.loopLocked_of_rd_zero ?_
  unfold State.apll0Off
  extract_lets s1
  rw [State.syncShutters_rd (by decide +kernel), State.disconnect_rd (by decide +kernel), State.gateTdc_rd,
    State.dropLoops_base]
  simp +decide [s1, State.wrAll, State.rd_wr_ne]

/-- A loss of APLL0 outside a base move begins a degraded interval at the present time. -/
theorem State.baseUnlock_leaves {s : State} (hlocked : s.loopLocked 0 = true)
    (hstill : s.rd F.CLK_BASE_STATUS_MOVING ≠ 1) : s.baseUnlock.rd F.SYNTH_DEG_STATUS_DEGRADED = 1 ∧
      s.baseUnlock.loopLocked 0 = false ∧ s.baseUnlock.sy.degStart = some s.now := by
  rw [State.baseUnlock, if_neg (by simp [hlocked]), if_neg (by simp [State.rdB, hstill])]
  extract_lets s1 s2 sy s3
  have htm : s2.tm = s.tm := s.fault_tm 26 (uAPLL 0) 0 0
  have hdeg : s2.rd F.SYNTH_DEG_STATUS_DEGRADED = 1 := by
    simp +decide [s2, State.bump, State.bumpBy, State.rd_wr_ne]
  have hsy : ∀ (u : State) (c : Int), (u.toPath c).sy = u.sy := fun u c =>
    (State.toPath_keeps (Keeps.refl allFields 0x12 u) (by decide +kernel) (Sub.refl _)).sy rfl
  refine ⟨?_, ?_, ?_⟩
  · rw [State.toPath_rd (by decide +kernel), State.apll0Off_rd (by decide +kernel), State.info_rd]
    exact hdeg
  · rw [State.loopLocked, State.rdB, State.toPath_rd (by decide +kernel)]
    exact State.apll0Off_locked _ _
  · rw [hsy, State.apll0Off_degStart, State.info_sy]
    exact congrArg some (State.now_congr htm)

/-- The registers of a degraded interval as its end leaves them. -/
def State.degradedShown (s : State) : State :=
  s.wrAll [(F.SYNTH_DEG_STATUS_DEGRADED, 0, 0), (F.SYNTH_DEG_LAST_LEN_US, 0, satTo 32 s.degradedUs)]

/-- With APLL0, TK_MUX and calibration all back, the degraded interval ends. -/
theorem State.degradedEnd_ends {s : State} (hdeg : s.rd F.SYNTH_DEG_STATUS_DEGRADED = 1) (hlocked : s.loopLocked 0 = true)
    (hreturned : s.rd F.CLK_BASE_STATUS_TK_ON_PATH ≠ 1) (hcal : ∀ c < 28, (s.chan c).rescaling = false) :
    s.degradedEnd = ({ s.degradedShown with sy := { s.sy with degEnd := some s.now } } : State).info 83 (uAPLL 0) 0 0 0 := by
  have hnone : ((List.range 28).any fun c => (s.chan c).rescaling) = false :=
    List.any_eq_false.2 fun c hc => by simp [hcal c (List.mem_range.1 hc)]
  have hends : (s.rdB F.SYNTH_DEG_STATUS_DEGRADED && s.loopLocked 0 && !s.rdB F.CLK_BASE_STATUS_TK_ON_PATH &&
      !((List.range 28).any fun c => (s.chan c).rescaling)) = true := by
    simp [State.rdB, hdeg, hlocked, hnone, hreturned]
  exact if_pos hends

theorem State.degradedEnd_leaves {s : State} (hdeg : s.rd F.SYNTH_DEG_STATUS_DEGRADED = 1) (hlocked : s.loopLocked 0 = true)
    (hreturned : s.rd F.CLK_BASE_STATUS_TK_ON_PATH ≠ 1) (hcal : ∀ c < 28, (s.chan c).rescaling = false) :
    s.degradedEnd.rd F.SYNTH_DEG_STATUS_DEGRADED = 0 ∧ s.degradedEnd.rd F.SYNTH_DEG_LAST_LEN_US = satTo 32 s.degradedUs ∧
      s.degradedEnd.sy.degEnd = some s.now := by
  have hsat : satTo 32 s.degradedUs % 2 ^ F.SYNTH_DEG_LAST_LEN_US.width = satTo 32 s.degradedUs := satTo_mod 32 _
  obtain ⟨hended, hlength⟩ : s.degradedShown.rd F.SYNTH_DEG_STATUS_DEGRADED = 0 ∧
      s.degradedShown.rd F.SYNTH_DEG_LAST_LEN_US = satTo 32 s.degradedUs := by
    simp +decide [State.degradedShown, State.wrAll, State.rd_wr_ne, hsat]
  rw [State.degradedEnd_ends hdeg hlocked hreturned hcal]
  refine ⟨?_, ?_, ?_⟩
  · rw [State.info_rd, State.withSy_rd, hended]
  · rw [State.info_rd, State.withSy_rd, hlength]
  · rw [State.info_sy]

/-! Phase verification (R196). -/

/-- The second's errors are cleared for the next, and VALID tells whether any were measured; a fault leaves both. -/
theorem State.phaseVerify_leaves (s : State) : s.phaseVerify.sy.verSum = 0 ∧ s.phaseVerify.sy.verN = 0 ∧
    s.phaseVerify.rd F.SYNTH_VERIFY_STATUS_VALID = b2n (s.rdB F.SYNTH_VERIFY_CFG_ENABLE &&
      decide (s.loopSource (s.rd F.SYNTH_VERIFY_CFG_LOOP) < 24) &&
      s.outRunning (s.loopSource (s.rd F.SYNTH_VERIFY_CFG_LOOP)) && s.sy.verN != 0) := by
  unfold State.phaseVerify
  extract_lets n valid err tol out was sy s1 s2 s3
  have k : Keeps (allFields ^^^ fieldMask [F.SYNTH_VERIFY_STATUS_VALID]) (partMask faultParts) s3
      (s3.when (out && !was) (·.fault 27 (uOUT n) (ofSigned 32 err) 0)) :=
    Keeps.when (Keeps.refl _ _ s3) fun _ hu => State.fault_keeps hu (by decide +kernel) (by decide +kernel)
  have hbit : b2n valid % 2 ^ F.SYNTH_VERIFY_STATUS_VALID.width = b2n valid := b2n_mod valid
  have hvalid : s3.rd F.SYNTH_VERIFY_STATUS_VALID = b2n valid := by
    simp +decide [s3, s2, State.wrAll, State.wrI, State.rd_wr_ne, hbit]
  rw [k.sy rfl, k.rd _ _ rfl (by decide +kernel)]
  exact ⟨rfl, rfl, hvalid⟩

end Sys2Proof.Machine

namespace Sys2Proof

open Sys2Proof.Machine

/-- Settles O16: each clause is what its command's operation leaves. -/
theorem synthCommandsComplete : Obligations.SynthCommandsComplete := by
  refine ⟨fun s hfree => ⟨_, rfl, ?go⟩, fun r b s hgo hfault => ⟨_, rfl, ?refused⟩, fun s hgo hfault => ⟨_, rfl, ?copied⟩,
    fun a s hfree hlocked => ⟨_, rfl, ?realigned⟩,
    fun s hbase hoff => ⟨_, rfl, State.apllLock_base hbase hoff⟩,
    fun a s ha hbase hin => ⟨_, rfl, State.apllLock_loop (Fin.val_ne_zero_iff.2 ha) hbase hin⟩,
    fun a s hlocked hbase => ⟨_, rfl, State.apllUnlock_leaves (by omega) hlocked hbase⟩,
    fun a s hoff => ⟨_, rfl, State.relockAttempt_fails hoff⟩,
    fun s hlocked hstill => ⟨_, rfl, State.baseUnlock_leaves hlocked hstill⟩,
    fun s hdeg hlocked hreturned hcal =>
      ⟨_, rfl, State.degradedEnd_leaves hdeg hlocked hreturned fun c hc => hcal ⟨c, hc⟩⟩,
    fun n s hshut => ⟨_, rfl, State.shutterForce_leaves hshut⟩,
    fun n s hshut hhand hcauses hwaits => ⟨_, rfl, State.shutterOpen_leaves hshut hhand hcauses hwaits⟩,
    fun s => ⟨_, rfl, s.phaseVerify_leaves⟩⟩
  case go =>
    rw [State.commitGo, if_neg (by simp [hfree])]
    exact ⟨rfl, rfl⟩
  case refused =>
    rw [State.commitValidate_refused hgo hfault]
    obtain ⟨hsy, hresult, hreason, hbad, -⟩ :=
      ({ s with sy := { s.sy with go := false } } : State).commitResult_leaves 2 r b
    refine ⟨?_, hresult, hreason, hbad, fun n => ?_⟩
    · rw [hsy]
    · rw [State.outSt_congr hsy]
      rfl
  case copied =>
    rw [State.commitValidate_copies hgo hfault]
    exact State.commitCopy_leaves _
  case realigned =>
    rw [State.realign_now hfree hlocked]
    exact s.doRealign_leaves (a + 1)

end Sys2Proof
end

section
/-! PROOF. Where the commands of time complete and what they leave (R206–R219). -/

namespace Sys2Proof.Machine

/-! What the operations of the counter leave of the time part. -/

theorem State.advanceTo_counterValid (s : State) (time : Nat) : (s.advanceTo time).counterValid = s.counterValid := by
  unfold State.advanceTo
  split_ifs <;> rfl

theorem State.counterValid_congr {s t : State} (h : t.tm = s.tm) : t.counterValid = s.counterValid := by
  unfold State.counterValid
  rw [h]

theorem State.notifyReview_tm (s : State) : s.notifyReview.tm = s.tm :=
  (State.notifyReview_keeps (Keeps.refl allFields 0x104000 s) (by decide +kernel) (Sub.refl _)).tm rfl

theorem State.stepGates_tm (s : State) : s.stepGates.tm = s.tm :=
  (State.stepGates_keeps (Keeps.refl allFields 0x104402 s) (by decide +kernel) (Sub.refl _)).tm rfl

/-- The record of a step leaves its time and amount, and nothing else of the time part. -/
theorem State.stepRecord_tm (s : State) (causes : Nat) (amount : Int) (newGen : Bool) :
    (s.stepRecord causes amount newGen).tm = { s.tm with lastStepAt := some s.now, lastStepAmount := some amount } := by
  unfold State.stepRecord
  extract_lets s1 s2 s3 tm s4
  have k : Keeps allFields 0 s s3 := State.bump_keeps (State.wrAll_keeps (Keeps.when (Keeps.refl _ _ s) fun _ hu =>
    State.wr_keeps hu (by decide +kernel)) (W := allFields) (Sub.refl _) (by
      refine ⟨?_, ?_, ?_, ?_, trivial⟩ <;> decide +kernel)) (by decide +kernel)
  rw [State.hold_tm]
  show ({ s3.tm with lastStepAt := some s3.now, lastStepAmount := some amount } : TimeSt) = _
  rw [State.now_congr (k.tm rfl), k.tm rfl]

theorem State.stepRecord_ordered (s : State) (causes : Nat) (amount : Int) (newGen : Bool) :
    (s.stepRecord causes amount newGen).tm.ordered = s.tm.ordered := by
  rw [State.stepRecord_tm]

theorem State.stepRecord_counterValid (s : State) (causes : Nat) (amount : Int) (newGen : Bool) :
    (s.stepRecord causes amount newGen).counterValid = s.counterValid := by
  rw [State.counterValid, State.stepRecord_tm]
  rfl

/-! Steps (R209–R211). -/

/-- The ordered step is taken up, whatever becomes of it. -/
theorem State.applyStep_ordered (s : State) : s.applyStep.tm.ordered = none := by
  unfold State.applyStep
  split
  · assumption
  · next o ho =>
    extract_lets tm s1 host s2 s3 s4 s5
    have k3 : Keeps allFields 0x100 s1 s3 :=
      Keeps.when (Keeps.when (Keeps.refl _ _ s1) fun _ hu => State.wr_keeps hu (by decide +kernel)) fun _ hu =>
        State.dpllStepped_keeps hu (by decide +kernel) (Sub.refl _)
    have h3 : s3.tm.ordered = none := congrArg TimeSt.ordered (k3.tm rfl)
    have h4 : s4.tm.ordered = none := by
      rw [State.stepGates_tm]
      exact h3
    clear_value s4
    have h5 : s5.tm.ordered = none := (s4.stepRecord_ordered o.causes o.amount true).trans h4
    split_ifs
    · rfl
    · exact h3
    · unfold State.when
      split_ifs
      · rw [State.info_tm, h5]
      · exact h5

theorem State.timeStep_leaves {s : State} {o : StepOrder} (ho : s.tm.ordered = some o) (hvalid : s.counterValid = true) :
    s.timeStep.tm.stepEpoch = true ∧ s.timeStep.tm.ordered = none := by
  simp only [State.timeStep, ho, hvalid, if_true, true_and]
  exact State.applyStep_ordered _

/-! Votes (R206). -/

/-- A copy that differs is reloaded from the others; the repair is counted as source 4. -/
theorem State.timeVoteOne_leaves {s : State} {c : Nat} (hvalid : s.counterValid = true) (hc : c < 3) :
    (s.timeVoteOne c).rd F.TIME_VOTE_STATUS_LAST_COPY = c ∧
      (s.timeVoteOne c).tm.copyA = (if c = 0 then s.tm.copyB else s.tm.copyA) ∧
      (s.timeVoteOne c).tm.copyB = (if c = 1 then s.tm.copyA else s.tm.copyB) ∧
      (s.timeVoteOne c).tm.copyC = (if c = 2 then s.tm.copyA else s.tm.copyC) ∧
      (s.timeVoteOne c).rd F.FLT_SRC_STAT_COUNT 4 = satTo 16 (s.rd F.FLT_SRC_STAT_COUNT 4 + 1) := by
  rw [State.timeVoteOne, if_neg (by simp [hvalid]; omega)]
  extract_lets v tm s1
  have hfits : c % 2 ^ F.TIME_VOTE_STATUS_LAST_COPY.width = c := Nat.mod_eq_of_lt (show c < 4 by omega)
  have hregs : s1.regs = s.regs := by
    unfold s1
    split_ifs <;> rfl
  have hcopies : s1.tm.copyA = (if c = 0 then s.tm.copyB else s.tm.copyA) ∧
      s1.tm.copyB = (if c = 1 then s.tm.copyA else s.tm.copyB) ∧
      s1.tm.copyC = (if c = 2 then s.tm.copyA else s.tm.copyC) := by
    unfold s1 v
    interval_cases c <;> exact ⟨rfl, rfl, rfl⟩
  clear_value s1
  obtain ⟨ha, hb, hc⟩ := hcopies
  rw [State.fault_tm, State.fault_count, State.fault_rd (by decide +kernel), State.rd_wr_self, hfits,
    State.rd_wr_ne _ (by decide), State.bump, State.bumpBy, State.rd_wr_ne _ (by decide)]
  exact ⟨rfl, ha, hb, hc, by rw [State.rd_congr hregs]⟩

/-- With no majority the counter drives nothing: its value is not valid, and source 5 counts. -/
theorem State.timeVoteNone_leaves {s : State} (hvalid : s.counterValid = true) :
    s.timeVoteNone.rd F.TIME_STATUS_VALID = 0 ∧ s.timeVoteNone.rd F.TIME_VOTE_STATUS_NO_MAJORITY = 1 ∧
      s.timeVoteNone.counterValid = false ∧
      s.timeVoteNone.rd F.FLT_SRC_STAT_COUNT 5 = satTo 16 (s.rd F.FLT_SRC_STAT_COUNT 5 + 1) := by
  rw [State.timeVoteNone, if_neg (by simp [hvalid])]
  extract_lets tm s1
  have h1 : ∀ f i, s1.rd f i = s.rd f i := fun _ _ => rfl
  have hlost : s1.tm.lost = true := rfl
  clear_value s1
  rw [State.fault_count, State.fault_rd (by decide +kernel), State.fault_rd (by decide +kernel),
    State.counterValid_congr (State.fault_tm ..), ← h1]
  simp +decide [State.wrAll, State.rd_wr_ne, State.counterValid, hlost]

/-! The start of the counter (R213). -/

/-- The fields that show how the counter started. -/
def startFields : List Fld :=
  [F.TIME_STATUS_VALID, F.TIME_STATUS_SECONDS_SET, F.TIME_STATUS_FRACTION_SET, F.TIME_STATUS_PORCH_START]

theorem State.shiftTimes_counterValid (s : State) (a : Int) : (s.shiftTimes a).counterValid = s.counterValid := rfl

theorem State.jumpTo_counterValid (s : State) (time : Nat) : (s.jumpTo time).counterValid = s.counterValid := rfl

theorem State.loadDplls_tm (s : State) : s.loadDplls.tm = s.tm :=
  (State.loadDplls_keeps (Keeps.refl allFields 0x100 s) (Sub.refl _)).tm rfl

/-- What a start does once the counter runs and shows it: the porch's trace, the record of a step, the stage it leads to. -/
def State.startRecorded (s : State) (detail : Nat) (made : Bool) (causes : Nat) (amount : Int) (newGen : Bool) : State :=
  let t := s.porchTrace 7 detail
  (if made then t.stepRecord causes amount newGen else t.wr F.TIME_STEP_STATUS_RESULT 0 3).directStage

/-- What records a start leaves how the counter started. -/
theorem State.startRecorded_leaves (s : State) (detail : Nat) (made : Bool) (causes : Nat) (amount : Int) (newGen : Bool) :
    (∀ f ∈ startFields, (s.startRecorded detail made causes amount newGen).rd f = s.rd f) ∧
      (s.startRecorded detail made causes amount newGen).counterValid = s.counterValid := by
  unfold State.startRecorded
  extract_lets t
  have k1 : Keeps (allFields ^^^ fieldMask startFields) 0x201aba s t :=
    State.porchTrace_keeps (Keeps.refl _ _ s) (by decide +kernel) (by decide +kernel)
  have k2 : Keeps (allFields ^^^ fieldMask startFields) 0x201aba s
      (if made then t.stepRecord causes amount newGen else t.wr F.TIME_STEP_STATUS_RESULT 0 3) :=
    Keeps.ite (State.stepRecord_keeps k1 (by decide +kernel) (by decide +kernel)) (State.wr_keeps k1 (by decide +kernel))
  refine ⟨fun f hf => ?_, ?_⟩
  · exact (State.directStage_keeps k2 (by decide +kernel) (by decide +kernel)).rd f 0 rfl (by revert f; decide +kernel)
  · have htm : t.tm = s.tm :=
      (State.porchTrace_keeps (Keeps.refl allFields (partMask [.freeCtr]) s) (by decide +kernel) (by decide +kernel)).tm rfl
    rw [State.counterValid_congr ((State.directStage_keeps (Keeps.refl allFields 0x1aaa _) (by decide +kernel)
      (Sub.refl _)).tm rfl), ← State.counterValid_congr htm]
    split
    · exact State.stepRecord_counterValid ..
    · rfl

/-- A counter that starts is valid, its time not yet set; whether the porch gave the time is shown. -/
theorem State.counterStart_leaves {s : State} (sec ticks expected : Nat) (hstill : s.tm.running = false)
    (hdomain : s.tkRuns = true) (hin : s.inService uTCOUNT = true) : let t := s.counterStart sec ticks expected
    t.rd F.TIME_STATUS_VALID = 1 ∧ t.rd F.TIME_STATUS_SECONDS_SET = 0 ∧ t.rd F.TIME_STATUS_FRACTION_SET = 0 ∧
      t.counterValid = true ∧ t.rd F.TIME_STATUS_PORCH_START = b2n s.tm.porchAnchored := by
  rw [State.counterStart, if_neg (by simp [hstill, hdomain, hin])]
  extract_lets good value first amount tm s1 s2 s3 tm' s4 s5 s6 s7 t
  have hstart : t = s5.startRecorded (b2n !good) (first || amount != 0) (if first then 1 else 2) amount (!first) := rfl
  have hset : s2.counterValid = true := by
    unfold s2
    split_ifs
    · rfl
    · rw [State.shiftTimes_counterValid]
      rfl
  have hvalid : s3.counterValid = true := by
    rw [State.counterValid_congr (State.stepGates_tm _), State.counterValid_congr (State.loadDplls_tm _),
      State.jumpTo_counterValid, hset]
  clear_value s3
  have hvalid5 : s5.counterValid = true := hvalid
  have hbit : b2n good % 2 ^ F.TIME_STATUS_PORCH_START.width = b2n good := b2n_mod good
  obtain ⟨hshown, hseconds, hfraction, hporch⟩ : s5.rd F.TIME_STATUS_VALID = 1 ∧ s5.rd F.TIME_STATUS_SECONDS_SET = 0 ∧
      s5.rd F.TIME_STATUS_FRACTION_SET = 0 ∧ s5.rd F.TIME_STATUS_PORCH_START = b2n good := by
    simp +decide [s5, State.wrAll, State.rd_wr_ne, hbit]
  obtain ⟨hkept, hkeptValid⟩ := s5.startRecorded_leaves (b2n !good) (first || amount != 0) (if first then 1 else 2) amount
    (!first)
  rw [hstart]
  clear_value s5
  exact ⟨(hkept _ (by simp [startFields])).trans hshown, (hkept _ (by simp [startFields])).trans hseconds,
    (hkept _ (by simp [startFields])).trans hfraction, hkeptValid.trans hvalid5,
    (hkept _ (by simp [startFields])).trans hporch⟩

/-! The porch's anchors and leap seconds (R212, R215). -/

theorem State.porchAnchor_leaves {s : State} (hvalid : s.counterValid = true) : s.porchAnchor.rd F.PORCH_STATUS_TIME_VALID = 1 ∧
    s.porchAnchor.tm.porchAnchored = true ∧ s.porchAnchor.tm.porchTicks = 0 ∧
    s.porchAnchor.tm.porchSec = s.porchAnchor.now / unitsPerSec := by
  rw [State.porchAnchor, if_neg (by simp [hvalid])]
  extract_lets s1 sec tm s2
  refine ⟨?_, rfl, rfl, rfl⟩
  simp +decide [State.wrAll, State.rd_wr_ne]

theorem State.leapSecond_leaves (s : State) : s.leapSecond.rd F.TIME_UTC_LEAP61 = 0 ∧ s.leapSecond.rd F.TIME_UTC_LEAP59 = 0 ∧
    s.leapSecond.rd F.TIME_UTC_OFFSET = ofSigned 16 (s.rdI F.TIME_UTC_OFFSET +
      ((s.rd F.TIME_UTC_LEAP61 : Int) - s.rd F.TIME_UTC_LEAP59)) % 65536 := by
  have hwidth : 2 ^ F.TIME_UTC_OFFSET.width = 65536 := rfl
  simp +decide [State.leapSecond, State.wrAll, State.rd_wr_ne, hwidth]

/-! Time of day in and out (R216–R218). -/

/-- A whole message leaves its result, whatever is decided on it. -/
theorem State.todMessage_result {s : State} {j : Nat} (bytes : List Nat) (start stop : Nat)
    (hon : s.rd F.TODI_CFG_ENABLE j = 1) (hin : s.inService (uTODI j) = true) (hbinary : s.rd F.TODI_CFG_FORMAT j = 1) :
    (s.todMessage j bytes false start stop).rd F.TODI_STATUS_LAST_RESULT j =
      ((s.advanceTo stop).todJudge j (readBinary bytes) start stop).1 % 2 ^ F.TODI_STATUS_LAST_RESULT.width := by
  rw [State.todMessage, if_neg (by simp [State.rdB, hon, hin])]
  extract_lets s1 binary r v x run s2 s3 s4 tm s5 s6
  have hr : r = readBinary bytes := by
    have hformat : binary = true := by simp [binary, s1, hbinary]
    unfold r
    rw [if_neg Bool.false_ne_true, if_pos hformat]
  have hresult : s3.rd F.TODI_STATUS_LAST_RESULT j = v.1 % 2 ^ F.TODI_STATUS_LAST_RESULT.width := by
    simp +decide [s3, State.wrAll, State.rd_wr_ne]
  have k6 : Keeps (fieldsBut F.TODI_STATUS_LAST_RESULT) 0x304036 s3 s6 :=
    Keeps.when (Keeps.to_tm (State.wr_keeps (State.bumpWrap_keeps (Keeps.refl _ _ s3) (by decide +kernel)) (by decide +kernel))
      (by decide +kernel)) fun _ hu => State.utcFrom_keeps hu (by decide +kernel)
  have hv : v = s1.todJudge j (readBinary bytes) start stop := congrArg (s1.todJudge j · start stop) hr
  rw [← hv, ← hresult]
  refine Keeps.rd (S := fieldsBut F.TODI_STATUS_LAST_RESULT) (M := 0x304036) (Keeps.ite (Keeps.refl _ _ s3)
    (Keeps.ite ?_ k6)) _ _ rfl (by decide +kernel)
  exact State.secondsDecision_keeps k6 (by decide +kernel) (Sub.refl _)

/-- A binary message has 24 bytes (Table 9.3). -/
theorem State.binaryTod_length (s : State) (second : Nat) : (s.binaryTod second).length = 24 := by
  simp only [State.binaryTod, List.length_append, beBytes_length, List.length_cons, List.length_nil]

/-- 24 bytes at 9,600 baud or more, begun at most 500 ms after the second, end before its 990th millisecond. -/
theorem tod_fits {delay baud : Nat} (hdelay : delay ≤ 500) (hbaud : 9600 ≤ baud) :
    delay * unitsPerMs * baud + 24 * 10 * unitsPerSec ≤ 990 * unitsPerMs * baud := by
  have hwait : delay * baud ≤ 500 * baud := Nat.mul_le_mul_right baud hdelay
  unfold unitsPerMs unitsPerSec
  linarith

/-- An output in service sends its binary message under a valid counter whose seconds are set. -/
theorem State.todoSend_sends {s : State} {j : Nat} (hon : s.rd F.TODO_CFG_ENABLE j = 1) (hin : s.inService (uTODO j) = true)
    (hvalid : s.counterValid = true) (hset : s.rd F.TIME_STATUS_SECONDS_SET = 1) (hbinary : s.rd F.TODO_CFG_FORMAT j = 1)
    (hdelay : s.rd F.TODO_CFG_DELAY_MS j ≤ 500) (hbaud : 96 ≤ s.rd F.TODO_CFG_BAUD_100 j) : let t := s.todoSend j
    t.rd F.TODO_STATUS_SENT j = (s.rd F.TODO_STATUS_SENT j + 1) % 2 ^ F.TODO_STATUS_SENT.width ∧
      t.rd F.TODO_STATUS_WITHHELD j = 0 ∧ t.rd F.TODO_STATUS_OVERLONG j = 0 ∧ t.out.length = s.out.length + 1 := by
  have hruns : s.tm.running = true := by
    unfold State.counterValid at hvalid
    exact (Bool.and_eq_true_iff.1 hvalid).1
  rw [State.todoSend, if_neg (by simp [State.rdB, hon, hin, hruns])]
  extract_lets x delay k k' s1 put binary hold utc bytes baud tooLong s2 t
  have hbin : binary = true := by simp [binary, s1, hbinary]
  have hhold : hold = false := by simp [hold, s1, State.advanceTo_counterValid, State.rdB, hvalid, hset, hbin]
  have hlength : bytes.length = 24 := by
    unfold bytes
    rw [if_pos hbin, State.binaryTod_length]
  have hbaud' : 9600 ≤ baud := by
    unfold baud s1
    rw [State.advanceTo_rd]
    omega
  have hfits : tooLong = false := by
    unfold tooLong delay
    rw [hlength, decide_eq_false_iff_not, Nat.not_lt]
    exact tod_fits (by omega) hbaud'
  obtain ⟨hwithheld, hoverlong, hcount⟩ : s2.rd F.TODO_STATUS_WITHHELD j = 0 ∧ s2.rd F.TODO_STATUS_OVERLONG j = 0 ∧
      s2.rd F.TODO_STATUS_SENT j = s.rd F.TODO_STATUS_SENT j := by
    simp +decide [s2, s1, State.wrAll, State.rd_wr_ne, hhold, hfits, b2n]
  have hout : s2.out = s.out := (State.advanceTo_keeps (Keeps.refl 0 0x10 s) (Sub.refl _)).out rfl
  have hput : ∀ u y f i, (put u y).rd f i = u.rd f i := fun _ _ _ _ => rfl
  have hputOut : ∀ u y, (put u y).out = u.out := fun _ _ => rfl
  have hsends : (hold || tooLong) = false := by rw [hhold, hfits]; rfl
  unfold t
  rw [if_neg (by rw [hsends]; decide)]
  clear_value s2 put
  refine ⟨?_, ?_, ?_, ?_⟩
  · rw [State.emitOut_rd, hput, State.bumpWrap, State.rd_wr_self, hcount]
  · rw [State.emitOut_rd, hput, State.bumpWrap, State.rd_wr_ne _ (by decide), hwithheld]
  · rw [State.emitOut_rd, hput, State.bumpWrap, State.rd_wr_ne _ (by decide), hoverlong]
  · rw [State.emitOut, List.length_cons, hputOut, State.bumpWrap, State.wr_out, hout]

/-! Pulses (R211, R219, R317). -/

/-- Held, too close to the pulse before, or issued: the second of a pulse is used. -/
theorem State.pulse_lastAt (s : State) (p second lead width : Nat) (held : Bool) :
    ((s.pulse p second lead width held).tm.pps.at p {}).lastAt = some second := by
  unfold State.pulse
  extract_lets s1 x close tm put
  have hput : ∀ y, ((put y).tm.pps.at p {}) = y := fun y => Tab.at_set_self _ _ _ _
  have hbump : ∀ u : State, (u.when (p < 4) (·.bump F.PPS_STATUS_SUPPRESSED p)).tm = u.tm := fun u => by
    unfold State.when
    split_ifs <;> rfl
  split_ifs
  · rw [hput]
  · rw [hbump, hput]
  · rw [State.emitOut_tm, hput]

/-- The message that tells the partner of a pulse leaves the pulses as they are. -/
theorem State.ppsPulseTime_tm (s : State) (p : Nat) : (s.ppsPulseTime p).tm = (s.ppsPulse p).tm := by
  unfold State.ppsPulseTime
  extract_lets t
  split_ifs
  · exact (State.timeTx_keeps (Keeps.refl allFields 0x100020 t) (by decide +kernel) (Sub.refl _)).tm rfl
  · rfl

theorem State.ppsPulseTime_lastAt {s : State} {p : Nat} (hruns : s.tm.running = true) (hp : p ≠ 4) :
    ((s.ppsPulseTime p).tm.pps.at p {}).lastAt =
      some (s.pulseAt (s.tm.pps.at p {}).lastAt (s.pulseSettings p).2.1).1 := by
  rw [State.ppsPulseTime_tm, State.ppsPulse, if_neg (by simp [hruns]), if_neg hp]
  exact State.pulse_lastAt ..

theorem State.ppsPulseTime_hallway {s : State} (hruns : s.tm.running = true) :
    ((s.ppsPulseTime 4).tm.pps.at 4 {}).lastAt = some (s.pulseAt (s.tm.pps.at 4 {}).lastAt 0).1 := by
  rw [State.ppsPulseTime_tm, State.ppsPulse, if_neg (by simp [hruns]), if_pos rfl]
  exact State.pulse_lastAt ..

end Sys2Proof.Machine

namespace Sys2Proof

open Sys2Proof.Machine

/-- Settles O17: each clause is what its command's operation leaves; steps, starts and lost majorities also review the
notifications. -/
theorem timeCommandsComplete : Obligations.TimeCommandsComplete := by
  refine ⟨fun s hlegal => ⟨_, rfl, ?set⟩, fun s => ⟨_, rfl, rfl⟩, fun o s ho hvalid => ⟨_, rfl, ?step⟩,
    fun c s hvalid => ⟨_, rfl, ?voteOne⟩, fun s hvalid => ⟨_, rfl, ?voteNone⟩,
    fun sec ticks expected s hstill hdomain hin => ⟨_, rfl, ?start⟩,
    fun s hvalid => ⟨_, rfl, State.porchAnchor_leaves hvalid⟩, fun s => ⟨_, rfl, s.leapSecond_leaves⟩,
    fun j bytes start stop s hon hin hbinary => ⟨_, rfl, State.todMessage_result bytes start stop hon hin hbinary⟩,
    fun j s hon hin hvalid hset hbinary hdelay hbaud =>
      ⟨_, rfl, State.todoSend_sends hon hin hvalid hset hbinary hdelay hbaud⟩,
    fun p s hruns => ⟨_, rfl, State.ppsPulseTime_lastAt (p := p.val) hruns (Nat.ne_of_lt p.isLt)⟩,
    fun s hruns => ⟨_, rfl, State.ppsPulseTime_hallway hruns⟩⟩
  case set =>
    rw [State.timeSet, if_pos hlegal]
    exact ⟨rfl, rfl⟩
  case step =>
    rw [State.notifyReview_tm]
    exact State.timeStep_leaves ho hvalid
  case voteOne =>
    have hvotes := State.timeVoteOne_leaves hvalid c.isLt
    simpa only [Fin.ext_iff, Fin.val_zero, Fin.val_one, Fin.val_two] using hvotes
  case voteNone =>
    rw [State.notifyReview_rd (by decide +kernel), State.notifyReview_rd (by decide +kernel),
      State.notifyReview_rd (by decide +kernel), State.counterValid_congr (State.notifyReview_tm _)]
    exact State.timeVoteNone_leaves hvalid
  case start =>
    rw [State.notifyReview_rd (by decide +kernel), State.notifyReview_rd (by decide +kernel),
      State.notifyReview_rd (by decide +kernel), State.notifyReview_rd (by decide +kernel),
      State.counterValid_congr (State.notifyReview_tm _)]
    exact State.counterStart_leaves sec ticks expected hstill hdomain hin

end Sys2Proof
end

section
/-! PROOF. Frames of time (R206–R219). -/

namespace Sys2Proof

open Sys2Proof.Machine

-- The mask of a field is 2 to the number of the field, which is above the threshold's default of 256.
set_option exponentiation.threshold 1024

/-- Settles O34: each frame is the mask of what the command's operation may change. -/
theorem timeFrames : Obligations.TimeFrames :=
  ⟨fun s _ e => Changes.of_keeps (execTimeSet_keeps (Keeps.refl _ _ s) (by rfl) (by rfl) e),
    fun s _ e => Changes.of_keeps (execTimeStepRequest_keeps (Keeps.refl _ _ s) (by rfl) e),
    fun s _ e => Changes.of_keeps (execTimeStep_keeps (Keeps.refl _ _ s) (by rfl) (by rfl) e),
    fun _ s _ e => Changes.of_keeps (execTimeVoteOne_keeps (Keeps.refl _ _ s) (by rfl) (by rfl) e),
    fun s _ e => Changes.of_keeps (execTimeVoteNone_keeps (Keeps.refl _ _ s) (by rfl) (by rfl) e),
    fun _ _ _ s _ e => Changes.of_keeps (execCounterStart_keeps (Keeps.refl _ _ s) (by rfl) (by rfl) e),
    fun s _ e => Changes.of_keeps (execPorchAnchor_keeps (Keeps.refl _ _ s) (by rfl) (by rfl) e),
    fun s _ e => Changes.of_keeps (execLeapSecond_keeps (Keeps.refl _ _ s) (by rfl) e),
    fun _ _ _ _ _ s _ e =>
      Changes.of_keeps (execTodMessageRx_keeps (Keeps.refl _ _ s) (by rfl) (by rfl) e),
    fun _ s _ e => Changes.of_keeps (execTodoSend_keeps (Keeps.refl _ _ s) (by rfl) (by rfl) e),
    fun _ s _ e => Changes.of_keeps (execPpsPulse_keeps (Keeps.refl _ _ s) (by rfl) (by rfl) e)⟩

end Sys2Proof
end

section
/-! PROOF. Where the commands of the ports and the bridges complete and what they leave (R226–R233, R240–R248, R290). -/

namespace Sys2Proof.Machine

/-! Links (R226–R228, R230, R248). -/

/-- A link that comes up shows its locks; what the bridge pair makes of it leaves them. -/
theorem State.linkUpNow_leaves {s : State} {p : Nat} (hon : s.portOn p = true) (hdown : s.linkUp p = false)
    (hin : s.inService (uP p) = true) : let t := s.linkUpNow p
    t.linkUp p = true ∧ t.rd F.PORT_STATUS_CDR_LOCK p = 1 ∧ t.rd F.PORT_STATUS_BLOCK_LOCK p = 1 ∧
      t.rd F.PORT_STATUS_FEC_LOCK p = b2n (s.portFec p != 0) := by
  rw [State.linkUpNow, if_neg (by simp [hon, hdown, hin])]
  extract_lets s1 x t
  have hfec : b2n (s.portFec p != 0) % 2 ^ F.PORT_STATUS_FEC_LOCK.width = b2n (s.portFec p != 0) := b2n_mod _
  simp +decide [t, s1, State.linkUp, State.rdB, State.wrAll, State.rd_wr_ne, hfec]

/-- A link that is lost with the CDR's lock shows no lock; the loss counts once as source 30. -/
theorem State.linkDownNow_leaves {s : State} {p : Nat} (hup : s.linkUp p = true) : let t := s.linkDownNow p true
    t.linkUp p = false ∧ t.rd F.PORT_STATUS_CDR_LOCK p = 0 ∧ t.rd F.PORT_STATUS_BLOCK_LOCK p = 0 ∧
      t.rd F.FLT_SRC_STAT_COUNT 30 = satTo 16 (s.rd F.FLT_SRC_STAT_COUNT 30 + 1) := by
  rw [State.linkDownNow, if_neg (by simp [hup])]
  extract_lets s1 s2 x s3 t
  have hlocks : s2.rd F.PORT_STATUS_LINK_UP p = 0 ∧ s2.rd F.PORT_STATUS_CDR_LOCK p = 0 ∧
      s2.rd F.PORT_STATUS_BLOCK_LOCK p = 0 ∧ s2.rd F.FLT_SRC_STAT_COUNT 30 = s.rd F.FLT_SRC_STAT_COUNT 30 := by
    simp +decide [s2, s1, State.when, State.wrAll, State.rd_wr_ne]
  clear_value s2
  simp +decide [t, s3, State.linkUp, State.rdB, State.fault_count, hlocks]

/-- A reset of the port leaves its link down, whether it was up or not. -/
theorem State.portReset_leaves (s : State) (p : Nat) :
    (s.portReset p).linkUp p = false ∧ (s.portReset p).rd F.PORT_STATUS_CDR_LOCK p = 0 := by
  have hdown : (s.linkDownNow p true).linkUp p = false := by
    cases hup : s.linkUp p with
    | true => exact (State.linkDownNow_leaves hup).1
    | false => rwa [State.linkDownNow, if_pos (by simp [hup])]
  unfold State.linkUp State.rdB at hdown
  simp +decide [State.portReset, State.linkUp, State.rdB, State.rd_wr_ne, hdown]

theorem State.restartEq_leaves {s : State} {p : Nat} (hon : s.portOn p = true) :
    (s.restartEq p).rd F.PORT_COUNTER_COUNT (32 * p + 30) = (s.rd F.PORT_COUNTER_COUNT (32 * p + 30) + 1) % 2 ^ 32 ∧
      (s.restartEq p).linkUp p = s.linkUp p := by
  rw [State.restartEq, if_pos hon]
  exact ⟨State.rd_wr_self _ _ _ _, by simp +decide [State.linkUp, State.rdB]⟩

/-! The transmit reference (R229). -/

/-- A port whose loop does not run falls back to the TCXO; that counts once as source 31. -/
theorem State.laneFallback_leaves {s : State} {p : Nat} (hloop : s.txLoop p ≠ 0) (hgood : s.txRefBad p = false)
    (hstill : s.loopRunning (s.txLoop p) = false) (hon : s.portOn p = true)
    (hfirst : s.rd F.PORT_STATUS_TX_REF_FALLBACK p ≠ 1) :
    (s.laneFallback p).rd F.PORT_STATUS_TX_REF_FALLBACK p = 1 ∧
      (s.laneFallback p).rd F.FLT_SRC_STAT_COUNT 31 = satTo 16 (s.rd F.FLT_SRC_STAT_COUNT 31 + 1) := by
  rw [State.laneFallback, if_pos (by simp [hloop, hgood, hstill, hon, hfirst, State.rdB])]
  simp +decide [State.fault_count, State.rd_wr_ne]

/-! ESMC (R231, R232). -/

/-- An accepted PDU leaves its level in the port's registers and takes nothing more out of the inbox. -/
theorem State.esmcTake_leaves {s : State} {p : Nat} {m : Esmc} (hrx : s.rd F.PORT_SYNCE_CFG_ESMC_RX p = 1)
    (haccepted : m.accepted = true) : let t := s.esmcTake p m
    t.rd F.PORT_ESMC_STATUS_RX_SSM p = m.ssm % 2 ^ F.PORT_ESMC_STATUS_RX_SSM.width ∧
      t.rd F.PORT_ESMC_STATUS_RX_ESSM_VALID p = b2n m.ext.isSome ∧ t.sv = s.sv := by
  refine and_assoc.1 ⟨?_, (State.esmcTake_keeps (Keeps.refl allFields 0x8800 s) (by rfl) (Sub.refl _)).sv rfl⟩
  rw [State.esmcTake, if_neg (by simp [State.rdB, hrx]), if_neg (by simp [haccepted])]
  extract_lets e s1 s2 s3 x s4
  have hvalid : b2n e.isSome % 2 ^ F.PORT_ESMC_STATUS_RX_ESSM_VALID.width = b2n m.ext.isSome := by
    rw [show e.isSome = m.ext.isSome from Option.isSome_map]
    exact b2n_mod _
  have hlevel : s2.rd F.PORT_ESMC_STATUS_RX_SSM p = m.ssm % 2 ^ F.PORT_ESMC_STATUS_RX_SSM.width ∧
      s2.rd F.PORT_ESMC_STATUS_RX_ESSM_VALID p = b2n m.ext.isSome := by
    simp +decide [s2, State.wrAll, State.rd_wr_ne, hvalid]
  rw [State.modMon_rd, State.modMon_rd, State.setPort_rd, State.setPort_rd]
  unfold s3
  clear_value s2 e
  split
  · rwa [State.rd_wr_ne _ (by decide), State.rd_wr_ne _ (by decide)]
  · exact hlevel

/-- The PDU taken is the oldest that waits for the port; the inbox is left without it. -/
theorem State.esmcRx_leaves {s s' : State} {p : Nat} {r : RxFrame} {m : Esmc}
    (htake : s.takeRx (fun r => r.taker == 1 && r.port == p) = some (r, s')) (hesmc : esmcOf r.frame = some m)
    (haccepted : m.accepted = true) (hrx : s.rd F.PORT_SYNCE_CFG_ESMC_RX p = 1) : let t := s.esmcRx p
    t.rd F.PORT_ESMC_STATUS_RX_SSM p = m.ssm % 2 ^ F.PORT_ESMC_STATUS_RX_SSM.width ∧
      t.rd F.PORT_ESMC_STATUS_RX_ESSM_VALID p = b2n m.ext.isSome ∧ t.sv.inbox = s'.sv.inbox := by
  have hrx' : s'.rd F.PORT_SYNCE_CFG_ESMC_RX p = 1 := by
    rw [(State.takeRx_keeps (Keeps.refl 0 P.sv s) (Sub.refl _) htake).rd _ _ rfl (by rfl), hrx]
  simp only [State.esmcRx, htake, hesmc]
  obtain ⟨hssm, hvalid, hsv⟩ := State.esmcTake_leaves hrx' haccepted
  exact ⟨hssm, hvalid, congrArg (·.inbox) hsv⟩

/-- A port that sends ESMC sends an information PDU to the slow-protocol address. -/
theorem State.esmcTx_sends {s : State} {p : Nat} (hlevel : (s.esmcLevel p).isSome = true) (hup : s.linkUp p = true) :
    ∃ f : Frame, (s.esmcTx p).out = .frame p none f :: s.out ∧ f.dst = 0x0180C2000002 ∧ (esmcOf f).isSome = true := by
  obtain ⟨l, hl⟩ := Option.isSome_iff_exists.1 hlevel
  simp only [State.esmcTx, hl]
  rw [State.esmcSend, if_neg (by simp [hup])]
  exact ⟨_, rfl, rfl, rfl⟩

/-! Received frames (R227, R233, R242, R254). -/

theorem State.rxLength_of_fits {s : State} {p : Nat} {f : Frame} (hlong : 64 ≤ f.bytes) (hshort : f.bytes ≤ 9216) :
    s.rxLength p f = (s, true) := by
  rw [State.rxLength, if_neg (by omega), if_neg (by omega)]

/-- Row 1 of Table 11.2: an ESMC PDU goes to its port's own receiver. -/
theorem State.dispatch_of_esmc (s : State) (p : Nat) {f : Frame} (h : (esmcOf f).isSome = true) :
    s.dispatch p f = some (1, 0) := by
  rw [State.dispatch, if_pos h]

/-- An ESMC PDU received whole waits in the inbox with its time stamp. -/
theorem State.frameRx_waits {s : State} {p : Nat} {f : Frame} (pcs : Int) (hup : s.linkUp p = true)
    (hfree : s.bridged p = false) (hin : s.inService (uP p) = true) (hlong : 64 ≤ f.bytes) (hshort : f.bytes ≤ 9216)
    (hfcs : f.fcsOk = true) (hesmc : (esmcOf f).isSome = true) :
    ∃ r : RxFrame, (s.frameRx p pcs f).sv.inbox = s.sv.inbox ++ [r] ∧ r.taker = 1 ∧ r.port = p ∧ r.frame = f ∧
      r.time = s.rxTime p pcs := by
  rw [State.frameRx, if_neg (by simp [hup, hfree, hin])]
  simp only [State.rxLength_of_fits hlong hshort, hfcs, State.dispatch_of_esmc _ p hesmc, Bool.not_true,
    Bool.false_eq_true, if_false]
  have hsv : ((s.countRx p f).noteStamp p).sv = s.sv :=
    (State.noteStamp_keeps (State.countRx_keeps (Keeps.refl allFields 0 s) (by rfl)) (by rfl)).sv rfl
  exact ⟨_, congrArg (·.inbox ++ _) hsv, rfl, rfl, rfl, rfl⟩

/-- What a forwarding pair forwards leaves at its other port, after whatever else the frame gives rise to. -/
theorem State.bridgeForward_sends {s : State} {b : Nat} (odd : Bool) (pcs : Int) {f : Frame}
    (hstate : s.rd F.BR_STATUS_STATE b = 3) (hin : s.inService (uBR b) = true) (hlong : 64 ≤ f.bytes)
    (hshort : f.bytes ≤ 9216) :
    ∃ f' l, (s.bridgeForward b odd pcs f).out = .frame (2 * b + 1 - b2n odd) none f' :: l := by
  unfold State.bridgeForward
  extract_lets p q l t s1 s2 s3 r ev
  rw [if_neg (by simp [hstate]), if_neg (by simp [hin]), if_neg (by simp [l, State.rxLength_of_fits hlong hshort])]
  exact ⟨_, _, rfl⟩

/-! Sent frames (R245–R247, R290). -/

/-- What has left the module stays in its trace. -/
theorem Keeps.mem_out {S M : Nat} {s t : State} {o : Out} (h : Keeps S M s t) (ho : o ∈ s.out) : o ∈ t.out :=
  h.outs.subset ho

theorem State.txDone_mem_out {s : State} {o : Out} (d : TxDesc) (c : Compl) (h : o ∈ s.out) : o ∈ (s.txDone d c).out :=
  (State.txDone_keeps (Keeps.refl allFields allParts s) (by rfl) (by rfl)).mem_out h

/-- Without an insertion the frame leaves as it is, with its time stamp where one is wanted. -/
theorem State.sendFrame_mem_out (s : State) (p : Nat) (f : Frame) (t : Nat) (stamp : Bool) {oneStep : Bool} (tReq : Nat)
    (hplain : oneStep = false) :
    Out.frame p (if stamp then some t else none) f ∈ (s.sendFrame p f t stamp oneStep tReq).1.out := by
  subst hplain
  simp [State.sendFrame, State.emitOut]

/-- A port's next ordinary frame that stays clear of its next cue is sent. -/
theorem State.frameTx_sends {s : State} {p : Nat} {d : TxDesc} (pcs : Int)
    (hnext : firstBy TxDesc.before (s.hs.ready.filter fun d => d.port == p) = some d) (hfree : s.bridged p = false)
    (hup : s.linkUp p = true) (hclear : s.clearOfCue p (s.txTime p pcs).toNat d.onWire = true)
    (hplain : d.oneStep = false) :
    Out.frame p (if d.stamp then some (s.txTime p pcs).toNat else none) d.onWire ∈ (s.frameTx p pcs).out := by
  simp only [State.frameTx, hnext, hfree, hup, hclear, Bool.not_true, Bool.false_eq_true, if_false]
  exact State.txDone_mem_out _ _ (State.sendFrame_mem_out _ _ _ _ _ _ hplain)

/-- A cue without a launch time is neither late nor coarse, and is sent. -/
theorem State.cueLaunch_sends {s : State} {p : Nat} {d : TxDesc} (pcs : Int) (hnext : s.nextCue p = some d)
    (hfree : s.bridged p = false) (hup : s.linkUp p = true) (hlaunch : d.launch = 0) (hplain : d.oneStep = false) :
    Out.frame p (some (s.txTime p pcs).toNat) d.onWire ∈ (s.cueLaunch p pcs false).out := by
  unfold State.cueLaunch
  split
  case h_1 hnone => rw [hnext] at hnone; cases hnone
  case h_2 d' hsome =>
    obtain rfl : d' = d := Option.some_inj.1 (hsome.symm.trans hnext)
    extract_lets t x s1 deg late coarse dropLate s2 r c c' s3 s4
    have hlate : late = false := by simp [late, deg, hlaunch]
    have hfree1 : s1.bridged p = false := hfree
    have hup1 : s1.linkUp p = true := hup
    have hsent : Out.frame p (some t) d'.onWire ∈ r.1.out := s2.sendFrame_mem_out p d'.onWire t true d'.tReq hplain
    have hcounted : Keeps allFields allParts r.1 s3 :=
      Keeps.ite (Keeps.refl _ _ _) (Keeps.when (Keeps.when (State.pcount_keeps (Keeps.refl _ _ _) (by rfl)) fun _ hu =>
        State.pcount_keeps hu (by rfl)) fun _ hu => State.pcount_keeps hu (by rfl))
    have hdone : s4 = s3.txDone d' c' := by
      unfold s4
      rw [if_neg (by simp [hfree1]), if_neg (by simp [hup1]), if_neg (by simp [hlate])]
    rw [hdone]
    exact (State.drainStalled_keeps (Keeps.refl allFields allParts _) (by rfl) (by rfl)).mem_out
      (State.txDone_mem_out _ _ (hcounted.mem_out hsent))

end Sys2Proof.Machine

namespace Sys2Proof

open Sys2Proof.Machine

/-- Settles O18: each clause is what its command's operation leaves. -/
theorem portCommandsComplete : Obligations.PortCommandsComplete := by
  refine ⟨fun p s hon hdown hin => ⟨_, rfl, State.linkUpNow_leaves hon hdown hin⟩,
    fun p s hup => ⟨_, rfl, State.linkDownNow_leaves hup⟩,
    fun p s hon hin => ⟨_, rfl, ?cdr⟩,
    fun p s hon => ⟨_, rfl, ?restart⟩,
    fun p s hon => ⟨_, rfl, State.restartEq_leaves hon⟩,
    fun p s hloop hgood hstill hon hfirst => ⟨_, rfl, State.laneFallback_leaves hloop hgood hstill hon hfirst⟩,
    fun p s hfallen hruns => ⟨_, rfl, ?returned⟩,
    fun p r m s s' htake hesmc haccepted hrx => ⟨_, rfl, ?esmc⟩,
    fun p s hlevel hup => ⟨_, rfl, State.esmcTx_sends hlevel hup⟩,
    fun p pcs f s hup hfree hin hlong hshort hfcs hesmc =>
      ⟨_, rfl, State.frameRx_waits pcs hup hfree hin hlong hshort hfcs hesmc⟩,
    fun p pcs d s hnext hfree hup hclear hplain => ⟨_, rfl, State.frameTx_sends pcs hnext hfree hup hclear hplain⟩,
    fun b odd pcs f s hstate hin hlong hshort => ⟨_, rfl, State.bridgeForward_sends odd pcs hstate hin hlong hshort⟩,
    fun p pcs d s hnext hfree hup hlaunch hplain => ⟨_, rfl, State.cueLaunch_sends pcs hnext hfree hup hlaunch hplain⟩⟩
  case cdr =>
    rw [State.cdrLock, if_pos (by simp [hon, hin])]
    exact State.rd_wr_self _ _ _ _
  case restart =>
    rw [State.restartLink, if_pos hon]
    exact s.portReset_leaves p
  case returned =>
    rw [State.laneReturn, if_pos (by simp [State.rdB, hfallen, hruns])]
    exact State.rd_wr_self _ _ _ _
  case esmc =>
    exact State.esmcRx_leaves htake hesmc haccepted hrx

end Sys2Proof
end

section
/-! PROOF. Frames of the ports and bridges (R226–R251). -/

namespace Sys2Proof

open Sys2Proof.Machine

-- The mask of a field is 2 to the number of the field, which is above the threshold's default of 256.
set_option exponentiation.threshold 1024

/-- Settles O35: each frame is the mask of what the command's operation may change. -/
theorem portFrames : Obligations.PortFrames :=
  ⟨fun _ s _ e => Changes.of_keeps (execLinkUp_keeps (Keeps.refl _ _ s) (by rfl) (by rfl) e),
    fun _ _ s _ e => Changes.of_keeps (execLinkDown_keeps (Keeps.refl _ _ s) (by rfl) (by rfl) e),
    fun _ s _ e => Changes.of_keeps (execCdrLock_keeps (Keeps.refl _ _ s) (by rfl) e),
    fun _ s _ e => Changes.of_keeps (execRestartLink_keeps (Keeps.refl _ _ s) (by rfl) (by rfl) e),
    fun _ s _ e => Changes.of_keeps (execRestartEq_keeps (Keeps.refl _ _ s) (by rfl) e),
    fun _ s _ e => Changes.of_keeps (execLaneRefFallback_keeps (Keeps.refl _ _ s) (by rfl) (by rfl) e),
    fun _ s _ e => Changes.of_keeps (execLaneRefReturn_keeps (Keeps.refl _ _ s) (by rfl) e),
    fun _ s _ e => Changes.of_keeps (execEsmcRx_keeps (Keeps.refl _ _ s) (by rfl) (by rfl) e),
    fun _ s _ e => Changes.of_keeps (execEsmcTx_keeps (Keeps.refl _ _ s) (by rfl) (by rfl) e),
    fun _ _ _ s _ e => Changes.of_keeps (execFrameRx_keeps (Keeps.refl _ _ s) (by rfl) (by rfl) e),
    fun _ _ s _ e => Changes.of_keeps (execFrameTx_keeps (Keeps.refl _ _ s) (by rfl) (by rfl) e),
    fun _ _ _ _ s _ e =>
      Changes.of_keeps (execBridgeForward_keeps (Keeps.refl _ _ s) (by rfl) (by rfl) e),
    fun _ _ _ s _ e => Changes.of_keeps (execCueLaunch_keeps (Keeps.refl _ _ s) (by rfl) (by rfl) e)⟩

end Sys2Proof
end

section
/-! PROOF. Where the commands of the time service and the packet servos complete and what they leave (R256–R272). -/

namespace Sys2Proof.Machine

/-! What a command takes and what it sends. -/

/-- A frame taken out of the inbox leaves the rest of the state. -/
theorem State.takeRx_leaves {s s' : State} {want : RxFrame → Bool} {r : RxFrame} (h : s.takeRx want = some (r, s')) :
    s'.regs = s.regs ∧ s'.out = s.out ∧ s'.pk = s.pk ∧ s'.sv.signals = s.sv.signals := by
  obtain ⟨x, -, hx⟩ := Option.map_eq_some_iff.1 h
  obtain ⟨-, rfl⟩ := Prod.mk.inj hx
  exact ⟨rfl, rfl, rfl, rfl⟩

/-- Without an insertion the frame leaves as it is, with its time stamp where one is wanted, and nothing else is
sent. -/
theorem State.sendFrame_out (s : State) (p : Nat) (f : Frame) (t : Nat) (stamp : Bool) (tReq : Nat) :
    (s.sendFrame p f t stamp false tReq).1.out = .frame p (if stamp then some t else none) f :: s.out := by
  unfold State.sendFrame
  extract_lets go
  rw [if_pos Bool.not_false]
  unfold go
  extract_lets ev s1
  have hcounted : Keeps allFields 0 s s1 :=
    Keeps.when (Keeps.when (State.pcount_keeps (Keeps.refl _ _ s) (by rfl)) fun _ hu => State.pcount_keeps hu (by rfl))
      fun _ hu => State.noteStamp_keeps hu (by rfl)
  rw [← hcounted.out rfl]
  simp [State.emitOut]

/-- An answer that is counted, after steps that sent nothing and left the counter: the counter of SVC_COUNTER advances by one,
the frame leaves. -/
theorem State.countedSend_leaves {s u : State} {i : Nat} (hcount : u.rd F.SVC_COUNTER_COUNT i = s.rd F.SVC_COUNTER_COUNT i)
    (hout : u.out = s.out) (p : Nat) (f : Frame) (t : Nat) (stamp : Bool) (tReq : Nat) :
    let v := ((u.scount i).sendFrame p f t stamp false tReq).1
    v.rd F.SVC_COUNTER_COUNT i = (s.rd F.SVC_COUNTER_COUNT i + 1) % 2 ^ 32 ∧
      v.out = .frame p (if stamp then some t else none) f :: s.out := by
  have hsent : ((u.scount i).sendFrame p f t stamp false tReq).1.rd F.SVC_COUNTER_COUNT i =
      (u.scount i).rd F.SVC_COUNTER_COUNT i :=
    (State.sendFrame_keeps (Keeps.refl _ 0x300000 _) (Sub.refl _) (Sub.refl _)).rd _ _ rfl (by rfl)
  rw [← hcount, ← hout]
  exact ⟨hsent.trans (State.rd_wr_self _ _ _ _), State.sendFrame_out ..⟩

/-- Whether a request is admitted is noted beside the registers and sends nothing. -/
theorem State.admits_leaves (s : State) (r : RxFrame) (m : Ptp) :
    (s.admits r m).1.out = s.out ∧ ∀ f i, (s.admits r m).1.rd f i = s.rd f i := by
  have h : Keeps 0 0x210020 s (s.admits r m).1 := State.admits_keeps (Keeps.refl _ _ s) (Sub.refl _)
  exact ⟨h.out rfl, fun f i => h.rd f i rfl (Nat.zero_testBit _)⟩

/-! Signaling, general messages, delay requests, management (R256–R261). -/

/-- A Signaling message waits behind those received before it. -/
theorem State.signalingRx_waits {s s' : State} {p : Nat} {r : RxFrame}
    (htake : s.takeRx (RxFrame.forServer p 0xC) = some (r, s')) :
    (s.signalingRx p).sv.signals = s.sv.signals ++ [r] ∧ (s.signalingRx p).sv.inbox = s'.sv.inbox := by
  obtain ⟨-, -, -, hsignals⟩ := State.takeRx_leaves htake
  simp only [State.signalingRx, htake, hsignals, and_self]

/-- The oldest two-step message of the port gets its general message, with the seconds of its own transmit stamp. -/
theorem State.followUpSend_sends {s : State} {p : Nat} {w : TwoStep} {m : Ptp}
    (hwait : s.sv.waiting.find? (fun w => w.port == p) = some w) (hbody : w.dst.body = .ptp m)
    (hserving : s.partState uPTPSRV = svSERVING) (hup : s.linkUp p = true) : let t := s.followUpSend p
    t.sv.waiting = s.sv.waiting.erase w ∧ ∃ f, t.out = .frame p none f :: s.out ∧ ∃ m', f.body = .ptp m' ∧
      m'.mtype = w.mtype ∧ m'.seq = w.seq ∧ m'.sec = w.time / unitsPerSec := by
  have hserving' : ∀ v, State.partState { s with sv := v } uPTPSRV = svSERVING := fun _ => hserving
  have hup' : ∀ v, State.linkUp { s with sv := v } p = true := fun _ => hup
  simp only [State.followUpSend, hwait, hbody, hserving', hup', bne_self_eq_false, Bool.not_true, Bool.or_self,
    Bool.false_eq_true, if_false]
  exact ⟨congrArg (·.waiting)
      (Keeps.sv (State.sendFrame_keeps (Keeps.refl allFields 0x300000 _) (by rfl) (Sub.refl _)) rfl),
    _, State.sendFrame_out .., _, rfl, rfl, rfl, rfl⟩

/-- An admitted Delay_Req is answered. -/
theorem State.delayReqRx_answers {s s' : State} {p : Nat} {r : RxFrame} {m : Ptp}
    (htake : s.takeRx (RxFrame.forServer p 1) = some (r, s')) (hbody : r.frame.body = .ptp m)
    (hserved : s'.turnedAway uPTPSRV r.gen = false) (hp2p : s'.svRd F.SVC_PORT_CFG_P2P p ≠ 1)
    (hadmit : (s'.admits r m).2 = true) : let t := s.delayReqRx p
    t.rd F.SVC_COUNTER_COUNT 1 = (s.rd F.SVC_COUNTER_COUNT 1 + 1) % 2 ^ 32 ∧ ∃ f, t.out = .frame p none f :: s.out := by
  obtain ⟨hregs, hout, -, -⟩ := State.takeRx_leaves htake
  obtain ⟨hout', hrd'⟩ := s'.admits_leaves r m
  simp only [State.delayReqRx, htake, hbody, hserved, beq_iff_eq, hp2p, hadmit, Bool.not_true, Bool.false_eq_true, if_false]
  exact And.imp_right (fun hsent => ⟨_, hsent⟩)
    (State.countedSend_leaves ((hrd' _ _).trans (State.rd_congr hregs _ 1)) (hout'.trans hout) p _ _ false _)

theorem State.awaitGeneral_out (s : State) (w : TwoStep) : (s.awaitGeneral w).out = s.out := rfl

/-- An admitted Pdelay_Req is answered in two steps: the response leaves with its time stamp, its general message waits. -/
theorem State.pdelayReqRx_answers {s s' : State} {p : Nat} {r : RxFrame} {m : Ptp} (pcs : Int)
    (htake : s.takeRx (RxFrame.forServer p 2) = some (r, s')) (hbody : r.frame.body = .ptp m)
    (hserved : s'.turnedAway uPTPSRV r.gen = false) (hp2p : s'.svRd F.SVC_PORT_CFG_P2P p ≠ 0)
    (htwo : s'.svRd F.SVC_PORT_CFG_ONE_STEP p ≠ 1) (hadmit : (s'.admits r m).2 = true) :
    (s.pdelayReqRx p pcs).rd F.SVC_COUNTER_COUNT 1 = (s.rd F.SVC_COUNTER_COUNT 1 + 1) % 2 ^ 32 ∧
      ∃ i f, (s.pdelayReqRx p pcs).out = .frame p (some i) f :: s.out := by
  obtain ⟨hregs, hout, -, -⟩ := State.takeRx_leaves htake
  obtain ⟨hout', hrd'⟩ := s'.admits_leaves r m
  have htwo' : (s'.svRd F.SVC_PORT_CFG_ONE_STEP p == 1) = false := beq_eq_false_iff_ne.2 htwo
  simp only [State.pdelayReqRx, htake, hbody, hserved, beq_iff_eq, hp2p, htwo', hadmit, Bool.not_true, Bool.false_eq_true,
    if_false]
  rw [State.awaitGeneral_rd, State.awaitGeneral_out]
  exact And.imp_right (fun hsent => ⟨_, _, hsent⟩)
    (State.countedSend_leaves ((hrd' _ _).trans (State.rd_congr hregs _ 1)) (hout'.trans hout) p _ _ true _)

/-- A Management message to every clock is answered, in its own terms or with an error status. -/
theorem State.managementRx_answers {s s' : State} {p : Nat} {r : RxFrame} {m : Ptp}
    (htake : s.takeRx (RxFrame.forServer p 0xD) = some (r, s')) (hbody : r.frame.body = .ptp m)
    (hserving : s'.partState uPTPSRV = svSERVING) (hall : m.peer / 2 ^ 16 = 2 ^ 64 - 1) :
    ∃ f, (s.managementRx p).out = .frame p none f :: s.out := by
  obtain ⟨-, hout, -, -⟩ := State.takeRx_leaves htake
  simp only [State.managementRx, htake, hbody, hserving, hall, bne_self_eq_false, Bool.and_false, Bool.false_and,
    Bool.false_eq_true, if_false]
  exact ⟨_, (State.sendFrame_out ..).trans (congrArg _ hout)⟩

/-! NTP (R266–R268). -/

/-- The budgets of a second let an answer pass that both the port and the module have room for. -/
theorem State.ntpBudget_within {s : State} {p : Nat} (hmode : s.portMode p = 1) (hport : (s.svcPort p).ntpCount < 524288)
    (hall : s.sv.ntpCount < 4194304) : (s.ntpBudget p).2 = true := by
  unfold State.ntpBudget
  extract_lets sec x a b
  have ha : a < 524288 := by unfold a; split <;> omega
  have hb : b < 4194304 := by unfold b; split <;> omega
  simp [hmode, ha, hb]

/-- What the budgets note is neither a register nor a frame. -/
theorem State.ntpBudget_leaves (s : State) (p : Nat) :
    (s.ntpBudget p).1.out = s.out ∧ ∀ f i, (s.ntpBudget p).1.rd f i = s.rd f i := by
  have h : Keeps 0 0x10000 s (s.ntpBudget p).1 := State.ntpBudget_keeps (Keeps.refl _ _ s) (Sub.refl _)
  exact ⟨h.out rfl, fun f i => h.rd f i rfl (Nat.zero_testBit _)⟩

/-- An answer within the budgets is counted in counter 9 and leaves with its time stamp. -/
theorem State.ntpSend_leaves {s u : State} (hregs : u.regs = s.regs) (hout : u.out = s.out) (p : Nat) (f : Frame) (t : Nat) :
    (((u.ntpBudget p).1.drawn.scount 9).sendFrame p f t true false 0).1.rd F.SVC_COUNTER_COUNT 9 =
        (s.rd F.SVC_COUNTER_COUNT 9 + 1) % 2 ^ 32 ∧
      (((u.ntpBudget p).1.drawn.scount 9).sendFrame p f t true false 0).1.out = .frame p (some t) f :: s.out := by
  obtain ⟨hout', hrd'⟩ := u.ntpBudget_leaves p
  exact State.countedSend_leaves ((State.drawn_rd ..).trans ((hrd' _ _).trans (State.rd_congr hregs _ 9)))
    ((State.drawn_out _).trans (hout'.trans hout)) p f t true 0

/-- A request that the responder may answer, within its limits, is answered. -/
theorem State.ntpRx_answers {s s' : State} {p : Nat} {r : RxFrame} {n : Ntp} {b : Bucket} (pcs : Int)
    (htake : s.takeRx (fun r => r.taker == 4 && r.port == p) = some (r, s')) (hbody : r.frame.body = .ntp n)
    (hon : s'.svRd F.NTP_CFG_ENABLE ≠ 0) (hserved : s'.turnedAway uNTPSRV r.gen = false) (hsync : s'.ntpUnsync = false)
    (htoken : s'.takeToken (Tab.find s'.sv.ntp (s'.ntpBucket r.frame)) r.time (s'.svRd F.NTP_LIMIT_RATE_PER_S)
      (max 1 (s'.svRd F.NTP_LIMIT_BURST)) unitsPerSec = (b, true))
    (hmode : s'.portMode p = 1) (hport : (s'.svcPort p).ntpCount < 524288) (hall : s'.sv.ntpCount < 4194304) :
    (s.ntpRx p pcs).rd F.SVC_COUNTER_COUNT 9 = (s.rd F.SVC_COUNTER_COUNT 9 + 1) % 2 ^ 32 ∧
      ∃ i f, (s.ntpRx p pcs).out = .frame p (some i) f :: s.out := by
  obtain ⟨hregs, hout, -, -⟩ := State.takeRx_leaves htake
  have hbudget : ∀ x, (State.ntpBudget { s'.drawn with sv := { s'.sv with ntp := x } } p).2 = true :=
    fun _ => State.ntpBudget_within hmode hport hall
  simp only [State.ntpRx, htake, hbody, beq_iff_eq, hon, hserved, hsync, htoken, hbudget, Bool.false_and, Bool.not_true,
    Bool.false_eq_true, if_false]
  -- The goal gives the state before the answer, in which the bucket has changed: it is found before the two facts about it.
  refine And.imp_right (fun h => ⟨_, _, h⟩) (State.ntpSend_leaves ?_ ?_ p _ _)
  · exact hregs
  · exact hout

/-! The table mailbox (R265). -/

theorem State.tblRun_idle {s : State} (h : s.rd F.SVC_TBL_STATUS_BUSY 0 ≠ 1) (f : State → State) : s.tblRun f = f s :=
  if_neg (by simpa [State.rdB] using h)

theorem State.tblResult_ok (s : State) : (s.tblResult tbOK).rd F.SVC_TBL_STATUS_RESULT 0 = tbOK :=
  State.rd_wr_self _ _ _ _

/-- A write of every index of a field leaves at each index its own value. -/
theorem State.forAll_wr_rd (s : State) (f : Fld) (v : Nat → Nat) {n j : Nat} (hj : j < n) (hn : n ≤ 65536) :
    (State.forAll n (fun k t => t.wr f k (v k)) s).rd f j = v j % 2 ^ f.width := by
  induction n with
  | zero => cases hj
  | succ n ih =>
    have hlast : State.forAll (n + 1) (fun k t => t.wr f k (v k)) s =
        (State.forAll n (fun k t => t.wr f k (v k)) s).wr f n (v n) := by
      simp only [State.forAll, List.range_succ, List.foldl_append, List.foldl_cons, List.foldl_nil]
    rw [hlast]
    rcases Nat.lt_succ_iff_lt_or_eq.1 hj with hlt | rfl
    · rw [State.rd_wr_idx _ _ (by omega), ih hlt (by omega)]
    · exact State.rd_wr_self _ _ _ _

/-- TBL_READ leaves the entry, word by word. -/
theorem State.tblRead_leaves {s : State} (hidle : s.rd F.SVC_TBL_STATUS_BUSY 0 ≠ 1) : let t := s.tblRead
    t.rd F.SVC_TBL_STATUS_RESULT 0 = tbOK ∧ ∀ k : Fin 16, t.rd F.SVC_TBL_DATA_WORD k =
      s.client (s.rd F.SVC_TBL_CTRL_INDEX 0) / 2 ^ (32 * k.val) % 2 ^ 32 := by
  rw [State.tblRead, State.tblRun_idle hidle]
  refine ⟨State.tblResult_ok _, fun k => ?_⟩
  rw [State.tblResult, State.rd_wr_ne _ (by decide)]
  exact State.forAll_wr_rd _ _ _ k.isLt (by decide)

/-- An entry that is set is read back. -/
theorem State.client_setClient (s : State) (i w : Nat) (mirror : Bool) : (s.setClient i w mirror).client i = w := by
  have htable : (s.setClient i w mirror).sv.table = Tab.set s.sv.table i w 0 := by
    unfold State.setClient
    extract_lets s1
    split <;> rfl
  rw [State.client, htable, Tab.at_set_self]

theorem clCharge_of_invalid {w : Nat} (h : clValid w = false) : clCharge w = 0 := by
  rw [clCharge, h]
  rfl

/-- TBL_WRITE of contents that are not valid over an entry that is not: nothing stands against it. -/
theorem State.tblWrite_leaves {s : State} (hidle : s.rd F.SVC_TBL_STATUS_BUSY 0 ≠ 1)
    (hold : clValid (s.client (s.rd F.SVC_TBL_CTRL_INDEX 0)) = false)
    (hnew : clValid (storeEntry s.tblData (s.client (s.rd F.SVC_TBL_CTRL_INDEX 0))) = false) :
    s.tblWrite.rd F.SVC_TBL_STATUS_RESULT 0 = tbOK ∧ s.tblWrite.client (s.rd F.SVC_TBL_CTRL_INDEX 0) =
      storeEntry s.tblData (s.client (s.rd F.SVC_TBL_CTRL_INDEX 0)) := by
  rw [State.tblWrite, State.tblRun_idle hidle]
  extract_lets i old w t
  rw [if_neg (by simp [hold, hnew, old, w, i]), if_neg (by simp [hnew, w, old, i]),
    if_neg (by simp [clCharge_of_invalid hold, clCharge_of_invalid hnew, w, old, i])]
  exact ⟨State.tblResult_ok _, s.client_setClient i w true⟩

/-- TBL_DELETE frees the entry; the record of it leaves the table alone. -/
theorem State.tblDelete_leaves {s : State} (hidle : s.rd F.SVC_TBL_STATUS_BUSY 0 ≠ 1) : let t := s.tblDelete
    t.rd F.SVC_TBL_STATUS_RESULT 0 = tbOK ∧ t.client (s.rd F.SVC_TBL_CTRL_INDEX 0) = 0 := by
  rw [State.tblDelete, State.tblRun_idle hidle]
  extract_lets i used
  have hsv : ((s.setClient i 0 true).when used (·.info 95 uPTPSRV 0 0 0)).sv = (s.setClient i 0 true).sv := by
    cases used
    · rfl
    · exact State.info_sv ..
  exact ⟨State.tblResult_ok _,
    (congrArg (fun v : SvcSt => Tab.at v.table i 0) hsv).trans (s.client_setClient i 0 true)⟩

/-- TBL_FIND leaves the index of the entry with the key. -/
theorem State.tblFind_leaves {s : State} {c : Nat × Nat} (hidle : s.rd F.SVC_TBL_STATUS_BUSY 0 ≠ 1)
    (hfind : s.findClient (clKey s.tblData) = some c) : let t := s.tblFind
    t.rd F.SVC_TBL_STATUS_RESULT 0 = tbOK ∧
      t.rd F.SVC_TBL_STATUS_FOUND 0 = c.1 % 2 ^ F.SVC_TBL_STATUS_FOUND.width := by
  rw [State.tblFind, State.tblRun_idle hidle]
  simp only [hfind]
  exact ⟨State.tblResult_ok _, (State.rd_wr_ne _ (by decide) _ _ _).trans (State.rd_wr_self _ _ _ _)⟩

/-! Packet servos (R269, R272). -/

/-- A two-step Sync waits for its Follow_Up. -/
theorem State.pkSyncRx_leaves (s : State) (k : Nat) (r : RxFrame) {m : Ptp} (htwo : m.twoStep = true) :
    ((s.pkSyncRx k r m).servo k).master = (s.servo k).master ∧ (s.pkSyncRx k r m).rd F.PK_STATUS_TWO_STEP k = 1 ∧
      ((s.pkSyncRx k r m).servo k).syncs = (s.servo k).syncs ++ [⟨m.seq, r.time, m.correction, !r.degraded⟩] := by
  simp only [State.pkSyncRx, htwo, if_true, State.modServo, State.servo_setServo, State.setServo_rd]
  exact ⟨rfl, State.rd_wr_self _ _ _ _, rfl⟩

/-- The first master's two-step Sync: the master is known from then on, the Sync waits. -/
theorem State.servoFrameRx_leaves {s s' : State} {k : Nat} {r : RxFrame} {m : Ptp}
    (htake : s.takeRx (fun r => r.taker == 2 && r.servo == k) = some (r, s')) (hbody : r.frame.body = .ptp m)
    (hstate : s'.pkState k ≠ 0) (hgood : s'.pkBad k = false) (hin : s'.inService (uPK k) = true)
    (hmaster : s'.pkMaster k ≠ 0) (hsync : m.mtype = 0) (htwo : m.twoStep = true) : let t := s.servoFrameRx k
    (t.servo k).master = some (r.frame.srcAddr, m.source) ∧ t.rd F.PK_STATUS_TWO_STEP k = 1 ∧
      (t.servo k).syncs = (s.servo k).syncs ++ [⟨m.seq, r.time, m.correction, !r.degraded⟩] := by
  obtain ⟨-, -, hpk, -⟩ := State.takeRx_leaves htake
  have hservo : s'.servo k = s.servo k := by rw [State.servo, hpk, ← State.servo]
  obtain ⟨hseen, hflag, hsyncs⟩ := State.pkSyncRx_leaves
    (s'.setServo k { s'.servo k with master := some (r.frame.srcAddr, m.source), mac := some r.frame.src }) k r htwo
  rw [State.servo_setServo] at hseen hsyncs
  simp only [State.servoFrameRx, htake, hbody, hstate, hgood, hin, beq_eq_false_iff_ne.2 hmaster, hsync, decide_false,
    Bool.false_and, Bool.not_true, Bool.or_self, Bool.false_eq_true, true_or, if_true, if_false]
  rw [← hservo]
  exact ⟨hseen, hflag, hsyncs⟩

/-- Every frame of a servo carries the message it is made for. -/
theorem State.pkFrame_body (s : State) (k : Nat) (multicast : Bool) (m : Ptp) : (s.pkFrame k multicast m).body = .ptp m := by
  unfold State.pkFrame
  extract_lets p x addr
  split
  · split <;> rfl
  · rfl

/-- A servo that may send, with a configured master, sends its TLVs there. -/
theorem State.pkSignal_sends {s : State} {k : Nat} {tlvs : List Tlv} (len : Nat) (htlvs : tlvs ≠ [])
    (hsends : s.pkSends k = true) (hmaster : s.pkMaster k ≠ 0) :
    ∃ f, (s.pkSignal k tlvs len).out = .frame (s.pkPort k) none f :: s.out ∧ ∃ m, f.body = .ptp m ∧ m.tlvs = tlvs := by
  rw [State.pkSignal, if_neg (by simp [htlvs, hsends, hmaster])]
  exact ⟨_, State.sendFrame_out .., _, State.pkFrame_body .., rfl⟩

/-- A unicast servo asks its master again for one of the three services. -/
theorem State.servoRenew_sends {s : State} {k msg : Nat} (hunicast : s.pkUnicast k = true)
    (hmsg : msg = 0xB ∨ msg = 0 ∨ msg = 9) (hsends : s.pkSends k = true) (hmaster : s.pkMaster k ≠ 0) :
    ∃ f, (s.servoRenew k msg).out = .frame (s.pkPort k) none f :: s.out ∧
      ∃ m, f.body = .ptp m ∧ m.tlvs = [.request msg (s.pkLog k msg) (s.pkDuration k)] := by
  have hone : pkServices.filter (· == msg) = [msg] := by rcases hmsg with rfl | rfl | rfl <;> rfl
  rw [State.servoRenew, hone, State.pkRequest, if_pos hunicast]
  exact State.pkSignal_sends _ (List.cons_ne_nil _ _) hsends hmaster

/-- A servo is in the state it goes to. -/
theorem State.pkGoes_pkState (s : State) (k : Nat) {new : Nat} (hnew : new < 8) : (s.pkGoes k new).pkState k = new := by
  unfold State.pkGoes
  split
  case isTrue h => exact h
  case isFalse => exact (State.info_rd ..).trans ((State.rd_wr_self _ _ _ _).trans (Nat.mod_eq_of_lt hnew))

theorem State.when_true (s : State) (f : State → State) : s.when true f = f s := rfl

/-- The report of a loss counts it, whether it freezes the DPLLs or not. -/
theorem State.rd_lossReport (s : State) (k why m : Nat) (judged : Bool) :
    (((s.bump F.PK_STATUS_LOSSES k).fault 35 (uPK k) why 0).when judged (·.strobe m 1)).rd F.PK_STATUS_LOSSES k =
      satTo F.PK_STATUS_LOSSES.width (s.rd F.PK_STATUS_LOSSES k + 1) := by
  have hfault : ((s.bump F.PK_STATUS_LOSSES k).fault 35 (uPK k) why 0).rd F.PK_STATUS_LOSSES k =
      satTo F.PK_STATUS_LOSSES.width (s.rd F.PK_STATUS_LOSSES k + 1) :=
    (State.fault_rd (by rfl)).trans (State.rd_bump_self _ _ _)
  cases judged
  · exact hfault
  · exact (State.strobe_rd (by rfl)).trans hfault

/-- A tracking servo that is lost begins anew; the loss is counted. -/
theorem State.servoLost_leaves {s : State} {k : Nat} (why : Nat) (hstate : s.pkState k = 3) :
    let t := s.servoLost k why none
    t.pkState k = 1 ∧ t.rd F.PK_STATUS_LOSSES k = satTo F.PK_STATUS_LOSSES.width (s.rd F.PK_STATUS_LOSSES k + 1) := by
  have hbefore : ((s.pkClear k).pkGoes k 4).rd F.PK_STATUS_LOSSES k = s.rd F.PK_STATUS_LOSSES k :=
    (State.pkGoes_rd (by rfl)).trans (State.pkClear_rd (by rfl))
  simp only [State.servoLost, hstate, ne_eq, not_true_eq_false, and_false, if_false, beq_self_eq_true,
    State.when_true]
  refine ⟨State.pkGoes_pkState _ _ (by decide), (State.pkGoes_rd (by rfl)).trans ?_⟩
  rw [← hbefore]
  exact State.rd_lossReport _ _ _ _ _

end Sys2Proof.Machine

namespace Sys2Proof

open Sys2Proof.Machine

/-- Settles O19: each clause is what its command's operation leaves. -/
theorem serviceCommandsComplete : Obligations.ServiceCommandsComplete :=
  ⟨fun _ _ _ _ htake => ⟨_, rfl, State.signalingRx_waits htake⟩,
    fun _ _ _ _ hwait hbody hserving hup => ⟨_, rfl, State.followUpSend_sends hwait hbody hserving hup⟩,
    fun _ _ _ _ _ htake hbody hserved hp2p hadmit =>
      ⟨_, rfl, State.delayReqRx_answers htake hbody hserved hp2p hadmit⟩,
    fun _ pcs _ _ _ _ htake hbody hserved hp2p htwo hadmit =>
      ⟨_, rfl, State.pdelayReqRx_answers pcs htake hbody hserved hp2p htwo hadmit⟩,
    fun _ _ _ _ _ htake hbody hserving hall => ⟨_, rfl, State.managementRx_answers htake hbody hserving hall⟩,
    fun _ pcs _ _ _ _ htake hbody hon hserved hsync htoken hmode _ hport hall =>
      ⟨_, rfl, State.ntpRx_answers pcs htake hbody hon hserved hsync (Prod.ext rfl htoken) hmode hport hall⟩,
    fun _ hidle => ⟨_, rfl, State.tblRead_leaves hidle⟩,
    fun _ hidle hold hnew => ⟨_, rfl, State.tblWrite_leaves hidle hold hnew⟩,
    fun _ hidle => ⟨_, rfl, State.tblDelete_leaves hidle⟩,
    fun _ _ hidle hfind => ⟨_, rfl, State.tblFind_leaves hidle hfind⟩,
    fun s => ⟨_, rfl, State.rd_bump_self s F.SVC_TBL_STATUS_DIRECT 0⟩,
    fun _ _ _ _ _ htake hbody _ hstate hgood hin hmaster hsync htwo =>
      ⟨_, rfl, State.servoFrameRx_leaves htake hbody hstate hgood hin hmaster hsync htwo⟩,
    fun _ _ _ hunicast hmsg hsends hmaster => ⟨_, rfl, State.servoRenew_sends hunicast hmsg hsends hmaster⟩,
    fun k s => ⟨_, rfl, congrArg (·.syncs) (s.servo_setServo k _), rfl⟩,
    fun _ why _ hstate => ⟨_, rfl, State.servoLost_leaves why hstate⟩,
    fun _ _ => ⟨_, rfl, State.rd_wr_self _ _ _ _⟩⟩

end Sys2Proof
end

section
/-! PROOF. Frames of the time service and the packet servos (R252–R273). -/

namespace Sys2Proof

open Sys2Proof.Machine

-- The mask of a field is 2 to the number of the field, which is above the threshold's default of 256.
set_option exponentiation.threshold 1024

/-- Settles O36: each frame is the mask of what the command's operation may change. -/
theorem serviceFrames : Obligations.ServiceFrames :=
  ⟨fun _ s _ e => Changes.of_keeps (execPtpSignalingRx_keeps (Keeps.refl _ _ s) (by rfl) e),
    fun _ s _ e => Changes.of_keeps (execFollowUpSend_keeps (Keeps.refl _ _ s) (by rfl) (by rfl) e),
    fun _ s _ e => Changes.of_keeps (execDelayReqRx_keeps (Keeps.refl _ _ s) (by rfl) (by rfl) e),
    fun _ _ s _ e => Changes.of_keeps (execPdelayReqRx_keeps (Keeps.refl _ _ s) (by rfl) (by rfl) e),
    fun _ s _ e => Changes.of_keeps (execManagementRx_keeps (Keeps.refl _ _ s) (by rfl) (by rfl) e),
    fun _ _ s _ e => Changes.of_keeps (execNtpRequestRx_keeps (Keeps.refl _ _ s) (by rfl) (by rfl) e),
    fun s _ e => Changes.of_keeps (execTblRead_keeps (Keeps.refl _ _ s) (by rfl) e),
    fun s _ e => Changes.of_keeps (execTblWrite_keeps (Keeps.refl _ _ s) (by rfl) (by rfl) e),
    fun s _ e => Changes.of_keeps (execTblDelete_keeps (Keeps.refl _ _ s) (by rfl) (by rfl) e),
    fun s _ e => Changes.of_keeps (execTblFind_keeps (Keeps.refl _ _ s) (by rfl) e),
    fun s _ e => Changes.of_keeps (execClientWindowAccess_keeps (Keeps.refl _ _ s) (by rfl) e),
    fun _ s _ e => Changes.of_keeps (execServoFrameRx_keeps (Keeps.refl _ _ s) (by rfl) (by rfl) e),
    fun _ _ s _ e => Changes.of_keeps (execServoRenew_keeps (Keeps.refl _ _ s) (by rfl) (by rfl) e),
    fun _ s _ e => Changes.of_keeps (execFollowUpTimeout_keeps (Keeps.refl _ _ s) (by rfl) e),
    fun _ _ _ s _ e => Changes.of_keeps (execServoLost_keeps (Keeps.refl _ _ s) (by rfl) (by rfl) e),
    fun _ s _ e => Changes.of_keeps (execAnnounceTimeout_keeps (Keeps.refl _ _ s) (by rfl) e)⟩

end Sys2Proof
end
